-- ==== Sys2Proof/Word.lean ====
section
/-! DEFINITION. The word types of the WXL3240 model (00_scope.md R5, R6): bytes, the 32-bit registers of BAR0,
64-bit device addresses and Tideline frames. Counts, page numbers, ASNs and sizes are plain `Nat`. -/

namespace Sys2Proof

/-- A byte of memory (R5: multi-byte quantities are little-endian). -/
abbrev Byte := BitVec 8

/-- A BAR0 register (R6: every register is 32 bits wide). -/
abbrev Reg := BitVec 32

/-- A 64-bit quantity: a `_LO`/`_HI` pair (R7) or a Tideline frame (R452). -/
abbrev Word64 := BitVec 64

end Sys2Proof
end

