-- ==== Sys2Proof/Types.lean ====
section
/-! DEFINITION. Records that are both operands of commands and parts of State: the Chart's sections (02 R31 to R46),
capsules and statuses (07), labels and drive probes (06), frames (08, 13, 15) and binding entries (11). -/

namespace Sys2Proof

/-- A run of logical blocks: first LBA and number of 4 KiB blocks (05 R149). -/
structure Range where
  lba : Nat
  len : Nat
  deriving DecidableEq, Repr

/-! ## The Chart (02) -/

/-- A port record of PORTS (R32). -/
structure PortCfg where
  breakout : Nat := 0
  media : Nat := 1
  enable : Nat := 1
  maxFrame : Nat := 9216
  deriving DecidableEq, Repr

/-- A Shoal record of SHOALS (R33). `members` and `evacuating` are bay bitmaps. -/
structure ShoalCfg where
  shoal : Nat
  geometryId : Nat
  width : Nat
  parity : Nat
  spareStrips : Nat
  streams : Nat
  metaMode : Nat
  members : BitVec 32
  evacuating : BitVec 32
  deriving DecidableEq, Repr

/-- POOL: the seven region sizes in pages (R34); the defaults are the column's. -/
structure PoolLayout where
  stage : Nat := 59392
  sjournal : Nat := 256
  maplog : Nat := 4096
  events : Nat := 512
  admin : Nat := 256
  coveimg : Nat := 768
  spare : Nat := 256
  deriving DecidableEq, Repr

/-- HBM: four sizes in MiB (R35). -/
structure HbmCfg where
  mapCache : Nat := 49152
  shallowsMax : Nat := 16384
  assembly : Nat := 2048
  capture : Nat := 1024
  deriving DecidableEq, Repr

/-- A Cove record of COVES (R36), after its defaults; 0xFFFF_FFFF in a PIR is unlimited. -/
structure CoveCfg where
  cove : Nat := 0xFFFF
  flags : Nat := 0
  qpQuota : Nat := 64
  nsQuota : Nat := 16
  tclass : Nat := 0
  weight : Nat := 16
  floor : Nat := 0
  cap : Nat := 8192
  shCir : Nat := 1000
  shCbs : Nat := 65536
  shPir : Nat := 0xFFFFFFFF
  shPbs : Nat := 262144
  cmdCir : Nat := 100000
  cmdCbs : Nat := 1024
  cmdPir : Nat := 1000000
  cmdPbs : Nat := 4096
  byteCir : Nat := 8000
  byteCbs : Nat := 4194304
  bytePir : Nat := 0xFFFFFFFF
  bytePbs : Nat := 16777216
  deriving DecidableEq, Repr

/-- A port record of CLASSES (R37). -/
structure ClassCfg where
  strictMask : Nat := 0x80
  weights : List Nat := [16, 16, 16, 16, 16, 16, 16, 16]
  deriving DecidableEq, Repr

/-- A gate list entry (R38). -/
structure GateEntry where
  openMask : Nat
  intervalNs : Nat
  deriving DecidableEq, Repr

/-- A gate list (R38). -/
structure GateList where
  port : Nat
  cycleNs : Nat
  baseS : Nat
  baseNs : Nat
  entries : List GateEntry
  deriving DecidableEq, Repr

/-- CLOCK (R39). -/
structure ClockCfg where
  reference : Nat := 1
  ptpProfile : Nat := 0
  domain : Nat := 0
  ptpPort : Nat := 0
  backupPort : Nat := 0xFF
  ppsOut : Nat := 1
  tidelineTime : Nat := 1
  deriving DecidableEq, Repr

/-- A profile of TIDETABLE (R40). -/
structure Profile where
  rebuildCap : Nat
  ebbCap : Nat
  shallows : Nat
  patrol : Nat
  swapPermit : Nat
  deriving DecidableEq, Repr

/-- An entry of TIDETABLE (R40): bit 0 of FLAGS is `swap`, bit 1 is `rack`. -/
structure TideEntry where
  offsetS : Nat
  profile : Nat
  swap : Bool
  rack : Bool
  deriving DecidableEq, Repr

/-- TIDETABLE (R40); `omitted` records that the section is absent, when one profile applies at all times. -/
structure TideCfg where
  omitted : Bool
  periodS : Nat
  anchorS : Nat
  profiles : List Profile
  entries : List TideEntry
  deriving DecidableEq, Repr

/-- LIGHTHOUSE (R41). -/
structure LightCfg where
  mode : Nat := 0
  borrow : Nat := 1
  waAtPress : Nat := 1
  rebuildMin : Nat := 1000
  rebuildMax : Nat := 16000
  ebbMin : Nat := 500
  ebbMax : Nat := 20000
  borrowMax : Nat := 16384
  heatAdmit : Nat := 8
  deriving DecidableEq, Repr

/-- An EVENTS record (R43): class 3 is suppress. -/
structure EventOverride where
  source : Nat
  code : Nat
  cls : Nat
  deriving DecidableEq, Repr

/-- A BAYPOWER bay record (R44), after its defaults. -/
structure BayCfg where
  bay : Nat := 0xFF
  insertDelay : Nat := 20
  ramp : Nat := 6
  uv : Nat := 10200
  ov : Nat := 13800
  breaker : Nat := 3500
  breakerTime : Nat := 10
  shunt : Nat := 2000
  deriving DecidableEq, Repr

/-- PAIR (R45). -/
structure PairCfg where
  requirePartner : Nat := 0
  swapEnable : Nat := 1
  swapPauseMax : Nat := 300
  deriving DecidableEq, Repr

/-- STORAGE (R46). -/
structure StorageCfg where
  hardTimeout : Nat := 1000
  absence : Nat := 120
  writeSoft : Nat := 2000
  readSoft : Nat := 5000
  slowThreshold : Nat := 20000
  slowWindow : Nat := 10
  transientBound : Nat := 16
  sealTime : Nat := 500
  coalesce : Nat := 50
  freeReserve : Nat := 20
  deriving DecidableEq, Repr

/-- A whole Chart after defaults (R30, R31). -/
structure Chart where
  sequence : Nat
  ports : List PortCfg
  laneMode : Nat
  driveGenCap : Nat
  spareBays : BitVec 32
  shoals : List ShoalCfg
  pool : PoolLayout
  hbm : HbmCfg
  template : CoveCfg
  coves : List CoveCfg
  classes : List ClassCfg
  prismWeights : List Nat
  housekeepingClass : Nat
  gates : List GateList
  clock : ClockCfg
  tide : TideCfg
  light : LightCfg
  directedMask : Nat
  events : List EventOverride
  maxRamping : Nat
  bayDefault : BayCfg
  bays : List BayCfg
  pair : PairCfg
  storage : StorageCfg
  deriving DecidableEq, Repr

/-- The commit groups of a live patch (R54); per-Cove, per-port and per-bay groups carry their key. -/
inductive CommitGroup where
  | shoalStructure
  | breakwaterShares
  | coveShaper (cove : Nat)
  | coveCommandPolicer (cove : Nat)
  | coveBytePolicer (cove : Nat)
  | coveAttributes (cove : Nat)
  | portClasses (port : Nat)
  | fabricClasses
  | gateList (port : Nat)
  | pacing
  | lighthousePolicy
  | eventClasses
  | bayLimits (bay : Nat)
  | rampConcurrency
  | pairPolicy
  | storageTiming
  deriving DecidableEq, Repr

/-- A change that an epoch boundary brings in (09 R305, R306). -/
inductive TableChange where
  | group (g : CommitGroup)
  | qpmap (qpn : Nat)
  | nsmap (nsid : Nat)
  deriving DecidableEq, Repr

/-! ## Capsules, statuses (07) -/

/-- An NVMe status: Status Code Type, Status Code, Do Not Retry and Command Retry Delay (R212). -/
structure Status where
  sct : Nat
  sc : Nat
  dnr : Bool := false
  crd : Nat := 0
  deriving DecidableEq, Repr

/-- The SGL descriptor of a capsule (R207, R277). -/
inductive Sgl where
  /-- keyed SGL data block, subtype 0h: data in host memory -/
  | keyed (addr key length : Nat)
  /-- SGL data block with offset addressing: in-capsule data -/
  | inCapsule (length : Nat)
  /-- type Fh, subtype 0h: push data in the landing window (R277) -/
  | landing (offset length : Nat)
  /-- any other type or subtype -/
  | other (type sub : Nat)
  /-- no data -/
  | none
  deriving DecidableEq, Repr

/-- Reservation command fields (R210, NVM Express Base Specification). -/
structure ResvArgs where
  action : Nat
  ignoreKey : Bool := false
  cptpl : Nat := 0
  rtype : Nat := 0
  currentKey : Nat := 0
  newKey : Nat := 0
  deriving DecidableEq, Repr

/-- The fields of an I/O capsule that the device acts on (R207 to R211). `reserved` is true when a field the command
reserves is non-zero. `data` holds in-capsule blocks, one Nat of 32,768 bits each. -/
structure Capsule where
  cid : Nat
  nsid : Nat
  slba : Nat := 0
  nlb : Nat := 1
  ranges : List Range := []
  deallocate : Bool := false
  sgl : Sgl := .none
  reserved : Bool := false
  data : List Nat := []
  mode : Nat := 0
  keySlot : Nat := 0
  iv : Nat := 0
  resv : Option ResvArgs := none
  deriving DecidableEq, Repr

/-- The data of a Fabrics Connect (11 R345, 07 R202, R203). `cntlid` 0xFFFF asks for a new controller. -/
structure ConnectArgs where
  qpn : Nat
  cid : Nat := 0
  qid : Nat
  sqsize : Nat
  subnqn : List Byte
  hostnqn : List Byte := []
  hostid : Nat
  cntlid : Nat := 0xFFFF
  kato : Nat := 0
  deriving DecidableEq, Repr

/-- Namespace Management create (R201). -/
structure NsCreateArgs where
  nsze : Nat
  grain : Nat
  shoal : Nat
  flags : Nat
  reserved : Bool := false
  deriving DecidableEq, Repr

/-! ## Drives and labels (06) -/

/-- What enumerating a drive finds (R165 to R167, R170, R181). `label` is the drive's own decodable label identity. -/
structure LabelId where
  shelfId : Nat
  shoal : Nat
  position : Nat
  bay : Nat
  serial : Nat
  labelGen : Nat
  deriving DecidableEq, Repr

structure DriveProbe where
  bay : Nat
  serial : Nat
  capacity : Nat
  /-- Maximum Data Transfer Size in bytes (R166) -/
  mdts : Nat := 131072
  ioQueues : Nat := 4
  reservations : Bool := true
  /-- offers the 4096 + 64 LBA format (R107) -/
  ext64 : Bool := true
  volatileCache : Bool := false
  cacheOffRefused : Bool := false
  /-- moves metadata inside an extended data LBA (R167) -/
  extInline : Bool := true
  /-- the highest rate of the drive in GT/s, 64, 32 or 16, and its largest Max Payload Size in bytes (R165) -/
  gts : Nat := 64
  mps : Nat := 512
  /-- supports NVMe Sanitize (07 R236), and the seconds that it estimates for a block erase, where it reports one (07 R238) -/
  sanitizes : Bool := true
  eraseSeconds : Option Nat := none
  label : Option LabelId := none
  deriving DecidableEq, Repr

/-- The shelf record as read from the members (13 R394). `writer` 0 side A, 1 side B; `mode` 0 PAIRED, 1 SOLO, 2 FORCED. -/
structure ShelfRecord where
  writer : Nat
  mode : Nat
  epoch : Nat
  shelfId : Nat
  deriving DecidableEq, Repr

/-- What a member read, or a reconstruction, gave of one block (04 R108): an error status, the bytes that this device wrote, or other
bytes: the 64 of metadata, and the block as the cipher engine decrypts it. -/
inductive ReadBack where
  | error
  | stored
  | block (metadata data : Nat)
  deriving DecidableEq, Repr

/-- Which copy of a flash sector a loss of power tore (15 R446): a torn copy holds a record that does not verify. -/
inductive FlashTear where
  | none
  | copyA
  | copyB
  deriving DecidableEq, Repr

/-- What a read of a block brought (06 R174): of the block's own strip, of its reconstruction, and the blocks of other strips, by position
and offset, that could not be read or failed a check. -/
structure BlockRead where
  res : ReadBack := .stored
  recon : ReadBack := .stored
  bad : List (Nat × Nat) := []
  deriving DecidableEq, Repr

/-- How a reissued member command ended (06 R173). -/
inductive Reissue where
  | failed
  | good (read : BlockRead)
  deriving DecidableEq, Repr

/-- A read past READ_SOFT (06 R178): its command, what its reconstruction gave, the positions that are late too, and the blocks that could
not be read. -/
structure LateRead where
  mcid : Nat
  recon : ReadBack := .stored
  late : List Nat := []
  bad : List (Nat × Nat) := []
  deriving DecidableEq, Repr

/-- A row that is read (06 R182, R186, 04 R134), with the blocks of it, by position and offset, that could not be read or failed a check. -/
structure RowRead where
  row : Nat
  bad : List (Nat × Nat) := []
  deriving DecidableEq, Repr

/-- A grain that is read (04 R131), with the blocks, by row, position and offset, that could not be read or failed a check. -/
structure GrainRead where
  grain : Nat
  bad : List (Nat × Nat × Nat) := []
  deriving DecidableEq, Repr

/-- The fills of a command (04 R113), with the blocks, by row, position and offset, that could not be read or failed a check. -/
structure FillRead where
  tag : Nat
  bad : List (Nat × Nat × Nat) := []
  deriving DecidableEq, Repr

/-- A BAR0 read: its byte offset and its bytes (00 R6). -/
structure BarRead where
  offset : Nat
  nbytes : Nat := 4
  deriving DecidableEq, Repr

/-- A rail whose monitor trips (19 R521), and the copy of a flash sector that the loss of power tore (15 R446). -/
structure RailTrip where
  rail : Nat
  torn : FlashTear := .none
  deriving DecidableEq, Repr

/-- What patrol's read of a row gave (R196): positions whose strips read other bytes than were written, with the difference of the
extended strips (04 R103), and the positions of data strips that hold a block which fails a check of 04 R108. -/
structure PatrolRead where
  diffs : List (Nat × Nat) := []
  failed : List Nat := []
  deriving DecidableEq, Repr

/-- What R197 makes of a row. -/
inductive PatrolResult where
  | equal
  /-- one method of R197 names the bad strip position -/
  | badStrip (pos : Nat)
  /-- no method names a strip -/
  | unnamed
  deriving DecidableEq, Repr

/-- The ECC outcome of a read of a Tide Pool unit (03 R69). -/
inductive EccResult where
  | clean
  | corrected1
  | corrected2
  | uncorrectable
  deriving DecidableEq, Repr

/-- A fault that recovery's reading of the pool meets (R93). -/
inductive PoolFault where
  | controlBlock (copyB : Bool)
  | anchor (copyB : Bool)
  | admin (page : Nat)
  | stageData (page : Nat)
  | stageTag (page : Nat)
  | sjournal (page : Nat)
  | maplog (page : Nat)
  | events (slot : Nat)
  | coveImage (slot page : Nat)
  | correction2 (page : Nat)
  deriving DecidableEq, Repr

/-! ## Flash (15) -/

/-- What the SFDP read of a chip select finds (R444). -/
structure FlashProbe where
  present : Bool
  sfdpOk : Bool
  densityMbit : Nat
  fourByte : Bool
  sectorErase : Bool
  quad : Bool
  octal : Bool
  deriving DecidableEq, Repr

/-- The four straps (R441). -/
structure Straps where
  tliHead : Bool
  pairSide : Bool
  flashMode : Bool
  bootSlot : Bool
  deriving DecidableEq, Repr

/-! ## RDMA (08) -/

/-- A data-bearing RDMA fragment: where it lands and what it carries. `value` is the little-endian number of its bytes. -/
structure Frag where
  offset : Nat
  len : Nat
  value : Nat
  deriving DecidableEq, Repr

/-- The Spray placement extension header and BTH fields of a received data packet (R258, R259). -/
structure SprayHdr where
  version : Nat := 1
  retx : Bool := false
  path : Nat := 0
  gen : Nat := 0
  msgId : Nat := 0
  fragIndex : Nat := 0
  fragCount : Nat := 1
  rkey : Nat := 0
  vaddr : Nat := 0
  txTs : Nat := 0
  totalLen : Nat := 0
  psn : Nat := 0
  ackReq : Bool := false
  ce : Bool := false
  deriving DecidableEq, Repr

/-- The SACK block of a received SPRAY_ACK (R263). `sack` bit i says PSN CUM_PSN + 1 + i is received. -/
structure SackBlock where
  path : Nat
  syndrome : Nat
  rnrTimer : Nat
  cumPsn : Nat
  echoTs : Nat
  ce : Bool
  retx : Bool
  trigger : Nat
  sack : BitVec 256
  deriving DecidableEq, Repr

/-- The private data of a connection request (R251). -/
structure CmRequest where
  qpn : Nat
  port : Nat
  address : Nat := 0
  /-- the 32 bytes of private data (R251) -/
  priv : List Byte := []
  mtu : Nat := 4096
  psn : Nat := 0
  hostPsn : Nat := 0
  reads : Nat := 16
  /-- the far end's queue pair number and IP address (R258, R247) -/
  farQpn : Nat := 0
  farAddr : Nat := 0
  deriving DecidableEq, Repr

/-- A received network frame as the capture filters and the drop rules see it (09 R310, 08 R247). -/
structure FrameInfo where
  port : Nat
  link : Nat := 0
  len : Nat
  tags : Nat := 0
  fcsOk : Bool := true
  /-- its IP header is CE marked (R256) -/
  ce : Bool := false
  /-- 0 RoCEv2, 1 PTP, 2 ARP or Neighbor Discovery, 3 any other -/
  kind : Nat := 0
  qpn : Nat := 0
  opcode : Nat := 0
  cove : Nat := 0
  bytes : List Byte := []
  deriving DecidableEq, Repr

/-! ## PTP (10) -/

/-- An Announce data set (R316): `rank` stands for the data set that the best master clock algorithm compares. -/
structure Announce where
  port : Nat
  domain : Nat
  clockId : Nat
  rank : Nat
  utcOffset : Int := 0
  utcValid : Bool := false
  deriving DecidableEq, Repr

/-- Time of day (R313): seconds, nanoseconds, sixteenths of a nanosecond. -/
structure Tod where
  s : Nat := 0
  ns : Nat := 0
  frac : Nat := 0
  deriving DecidableEq, Repr

/-! ## Binding (11), mailbox (18) -/

/-- A binding entry (R344). -/
structure Binding where
  hostid : Nat
  cove : Nat
  valid : Bool
  anyHost : Bool
  maxAssoc : Nat
  assoc : Nat := 0
  deriving DecidableEq, Repr

/-- A NET_ADDR record (18 R505): links are port × 4 + link within the port, 0xFF for none. -/
structure NetAddr where
  index : Nat
  family : Nat
  prefixLen : Nat
  home : Nat
  backups : List Nat
  vlan : Nat
  address : Nat
  nextHop : Nat
  deriving DecidableEq, Repr

/-! ## Strait (13) -/

/-- The link fields that every Strait frame carries (R398): LSEQ, MSEQ and the FLAGS bits. -/
structure StraitHdr where
  lseq : Nat
  mseq : Nat := 0
  poison : Bool := false
  sync : Bool := false
  deriving DecidableEq, Repr

/-- A STAGE tag (03 R68), with its CHECK judged over the page. -/
structure Tag where
  asn : Nat
  nsid : Nat
  lba : Nat
  guard : Nat
  gcm : Nat
  cove : Nat
  pageIndex : Nat
  pageCount : Nat
  deriving DecidableEq, Repr

/-- HELLO (R400). -/
structure Hello where
  shelfId : Nat
  side : Nat
  digest : Nat
  kekCheck : Nat
  chartSeq : Nat
  epoch : Nat
  tlineAddr : Nat
  version : Nat := 1
  /-- the outcome of comparing the two running Charts (R406): 0 equal, 1 only live sections differ, 2 a restart section
  differs and every live section is equal, 3 any other difference -/
  chartDiff : Nat := 0
  deriving DecidableEq, Repr

/-- A namespace definition as CONFIG KIND 1 carries it (R399, R404). -/
structure NsDef where
  nsid : Nat
  nsze : Nat
  grain : Nat
  shoal : Nat
  auth : Bool
  pageBase : Nat
  /-- the counter and its resumptions, as they stand when the definition is sent (05 R147, R162) -/
  nextAsn : Nat := 1
  resumes : Nat := 0
  writeProtect : Nat := 0
  present : Bool := true
  deriving DecidableEq, Repr

/-- A Cove definition as CONFIG KIND 2 carries it. -/
structure CoveDef where
  cove : Nat
  state : Nat
  nqn : List Byte
  attached : List Nat
  deriving DecidableEq, Repr

/-- A registrant of a reservation record (R395). -/
structure Registrant where
  hostid : Nat
  key : Nat
  cove : Nat
  deriving DecidableEq, Repr

/-- A namespace reservation record (R395); `holder` is a registrant index. -/
structure ResvRecord where
  nsid : Nat
  gen : Nat := 0
  rtype : Nat := 0
  ptpl : Bool := false
  holder : Option Nat := none
  registrants : List Registrant := []
  deriving DecidableEq, Repr

/-- A namespace key record (12 R381), without the wrapped bytes. -/
structure KeyRecord where
  nsid : Nat
  kind : Nat
  keyGen : Nat
  kekEpoch : Nat
  deriving DecidableEq, Repr

/-- A Cove slot record (12 R385): `key` is the key drawn or loaded, held only inside the model. -/
structure SlotRecord where
  cove : Nat
  slot : Nat
  loaded : Bool
  modes : Nat
  kekEpoch : Nat
  key : Nat
  /-- WRAPPED of the record, 48 bytes; `key` is what it holds -/
  wrapped : List Byte := []
  deriving DecidableEq, Repr

/-- What a swap hands over (R415 step 4). -/
structure Handover where
  asnNext : List (Nat × Nat)
  counters : List (Nat × List Nat)
  deriving DecidableEq, Repr

/-- The running state of a written-block log, as handed over at a swap (11 R363). -/
structure WblState where
  nsid : Nat
  swapAsn : Nat
  live : List Nat
  retired : List Nat
  deriving DecidableEq, Repr

end Sys2Proof
end

