-- ==== Sys2Proof/Syntax.lean ====
section
/-! DEFINITION. The commands of the WXL3240, one constructor per row of spec/opcode_table.json, in the table's order. The
operands of a command are what the outside world gives with it: register values, addresses, data, or what an engine,
a drive, a link or a partner reported. The table gives its rows no fields: the operands are the model's (log entry 6). -/

namespace Sys2Proof

/-- A command of the block. -/
inductive Instr where
  /-- R442: Release of PORST_N starts bring-up step 1: the device samples the straps, starts Tideline numbering and
  runs the boot ROM. -/
  | porstNRelease (straps : Straps)
  /-- R444: Bring-up step 2 reads SFDP on both chip selects and switches each qualifying flash device to 4-byte
  addressing and the strapped read mode. -/
  | sfdpRead (p0 p1 : FlashProbe)
  /-- R447: Bring-up step 3 chooses, checks and loads a firmware slot, validates both Chart slots and forms the KEK
  from a flash blob. -/
  | firmwareLoad
  /-- R442: Bring-up step 4 trains both HBM stacks, and stops with code 5 after two failures. -/
  | hbmTrain (ok0 ok1 : Bool)
  /-- R91: Bring-up step 5 runs the pool part of recovery: anchor and layout, ADMIN, STAGE tag scan, grouping and
  journal indexing. -/
  | poolRecovery (faults : List PoolFault)
  /-- R442: Bring-up step 6 waits until the Tideline address is settled, or until 2 s after PORST_N release. -/
  | tidelineWait (timedOut : Bool)
  /-- R442: Bring-up step 7 powers the bays whose PRSNT is asserted, with at most MAX_RAMPING ramping at once. -/
  | bayBringupPower
  /-- R445: Bring-up step 8, or a drive becoming ready, assembles each Shoal whose ABSENT and FAILED positions are
  within PARITY, and registers on each member. -/
  | shoalAssembly (probes : List DriveProbe) (rec_ : Option ShelfRecord)
  /-- R408: Bring-up step 9 reads the shelf record, settles eligibility and roles, and as writer runs R91 steps 6 to
  9. -/
  | pairSettle (partnerSeen : Bool)
  /-- R91: Once restriping has left no STAGE page held, recovery reaches READY and POOL_INT.READY is raised. -/
  | replayComplete
  /-- R442: Bring-up step 10 trains the network links, reports ANA, opens admission and updates the boot record. -/
  | openAdmission (linksUp : List Nat)
  /-- R524: PORST_N falling while the device serves stops it under R89 steps 1 to 4 and holds it in reset. -/
  | porstNAssert
  /-- R89: PFAIL_N held low for 500 ns stops admission, finishes pool writes, flushes events and writes the stop
  marker. -/
  | pfailNFall
  /-- R411: FENCE_IN held for 100 µs stops the device as PFAIL_N does, and holds it in reset. -/
  | fenceInHold
  /-- R411: Release of a FENCE_IN hold starts the device as after PORST_N. -/
  | fenceInRelease (straps : Straps)
  /-- R411: A FENCE_IN pulse shorter than 50 µs is latched for the wiring test. -/
  | fenceInPulse
  /-- R524: MHI_PERST_N resets only the MHI endpoint and its configuration space, and the device serves on. -/
  | mhiPerstNAssert
  /-- R521: A rail below 94 % for 2 µs holds the core in reset, and when running acts as PFAIL_N without hold-up. -/
  | railMonitorTrip (trip : RailTrip)
  /-- R527: The hottest junction at or above 105 °C for 1 ms logs JUNCTION_LIMIT, stops the device and holds it in
  reset. -/
  | junctionLimit (temp : Int)
  /-- R527: The analog trip at 120 °C stops every core clock within 1 µs. -/
  | thermalTrip
  /-- R52: A write of CHART_CTRL.STAGE starts validation of the staged image as a live patch (STATE CHECKING). -/
  | chartCtrlStage (v : Reg)
  /-- R52: Validation ends: the device loads shadow values and enters STAGED with DONE, or sets ERR, returns to IDLE
  and raises ERR. -/
  | chartCheckDone (partner : Option Bool)
  /-- R56: A write of CHART_CTRL.STORE validates the staged image and starts writing it to the non-running slot
  without applying it. -/
  | chartCtrlStore (v : Reg)
  /-- R56: The stored slot's flash write and read-back end: STATE becomes IDLE and DONE is raised, or ERR 0x0D is set.
  -/
  | chartStoreDone (ok : Bool)
  /-- R53: A write of CHART_CTRL.DISCARD in STAGED drops the shadow values and returns STATE to IDLE. -/
  | chartCtrlDiscard (v : Reg)
  /-- R52: A write of the staged SEQUENCE to CHART_COMMIT starts programming the non-running flash slot (STATE
  WRITING). -/
  | chartCommit (v : Reg)
  /-- R52: The flash read-back ends: on a match STATE becomes SWITCHING and the groups switch; on failure ERR 0x0D is
  set. -/
  | chartReadbackDone (ok : Bool)
  /-- R57: On a pair, both sides switch at the Tide Clock instant the ACTIVE side named, 1 ms after both flash writes.
  -/
  | chartPairSwitch
  /-- R306: A table change or commit group waits until fewer than four epochs are live, then writes the new versions
  and advances the epoch. -/
  | tableEpochAdvance
  /-- R52: When every group has switched, CHART_RUN_SEQ is set, STATE becomes IDLE, DONE is raised and an INFO event
  is logged. -/
  | chartSwitchDone
  /-- R55: At the first BASE + k × CYCLE_NS after its boundary a new gate list takes over its port, with closing gates
  given a guard band. -/
  | gateListTakeover (port : Nat)
  /-- R70: An MRAM write reported failed retires the page, and the write is repeated on a SPARE page or on the next
  STAGE page. -/
  | tidePoolWriteFailed (page : Nat) (repeatOk : Bool)
  /-- R77: The background scrub reads a page outside STAGE, at least once every 24 hours for each page. -/
  | poolScrub (page : Nat) (ecc : EccResult)
  /-- R17: A staged page's local Tide Pool write completes and the page becomes STAGED. -/
  | tidePoolWriteDone (page : Nat)
  /-- R110: Once every page of a command is STAGED, its whole grains are placed into a stream's open stripe. -/
  | assembleCommand (tag : Nat)
  /-- R111: The seal timer of an open stripe expires (STORAGE.SEAL, or a quarter of it at PRESS), and the stripe is
  sealed. -/
  | sealTimer (shoal stream : Nat)
  /-- R111: A stripe that waited unsealed for a free SJOURNAL entry is sealed once an entry frees. -/
  | sealRetry (shoal stream : Nat)
  /-- R154: A fill for a partly written grain resolves its blocks once the lower overlapping writes have settled. -/
  | fillResolve (fill : FillRead)
  /-- R114: Parity for a sealed stripe is complete, and its strip writes are issued (state WRITING). -/
  | parityJobDone (shoal row : Nat) (ok : Bool)
  /-- R117: The keepers' mark writes are durable, and the strip writes that waited on them are issued. -/
  | keeperWriteDone (shoal : Nat)
  /-- R114: A member completes a strip write; when every strip is durable the stripe becomes DURABLE and commits. -/
  | stripWriteComplete (mcid : Nat)
  /-- R129: 30 s after the last checkpoint, a checkpoint starts. -/
  | checkpointTimer
  /-- R129: The MAPLOG header is written with the new segments, checkpoint generation and tail, and records free. -/
  | checkpointComplete
  /-- R129: Stripes held in DURABLE for want of MAPLOG records commit once a checkpoint frees records. -/
  | commitRetry
  /-- R153: A write's deferred in-memory map change applies once every lower-ASN read of the block has captured it. -/
  | deferredMapApply (nsid grain : Nat)
  /-- R124: A map-cache miss read completes, and the map page enters the cache after the checks of R108. -/
  | mapPageFetchDone (page : Nat) (got : BlockRead)
  /-- R119: Cleared region bits not yet written are written to the keepers within 60 s. -/
  | bitmapClearTimer (shoal : Nat)
  /-- R136: Paced Ebb work copies a chosen row's live grains unchanged into a stream and applies MOVE records. -/
  | ebbRelocate (shoal : Nat) (got : RowRead) (cold : Bool)
  /-- R132: A partly zeroed grain is rewritten as a fill at the Write Zeroes ASN, once the fill's reads can resolve.
  -/
  | zeroMaskRewrite (nsid : Nat) (got : GrainRead)
  /-- R146: A high-water mark write becomes durable locally and at the partner, and the waiting ASN assignment
  proceeds. -/
  | asnMarkDurable (nsid : Nat)
  /-- R152: A waiting read resolves a block once every lower overlapping write is settled, and captures its source. -/
  | readResolve (tag : Nat)
  /-- R159: A Flush completes once every write admitted before it to its namespace, or to all namespaces for
  FFFFFFFFh, has completed. -/
  | flushComplete (tag : Nat)
  /-- R80: Waiting SQ heads are retested, in the order in which they began to wait, when credits, rows, tracker
  records or the ceiling allow. -/
  | sqHeadRetest
  /-- R172: A drive enumerates and its label is read; it becomes ONLINE, RESYNCING, REBUILDING or SPARE. -/
  | driveEnumerate (probe : DriveProbe)
  /-- R172: At each 100 ms interval a member's p99 is judged, making it SLOW, ONLINE again, or evicting it. -/
  | memberLatencyInterval (bay p99us : Nat)
  /-- R177: A fold that waited for a free resync slot runs once a slot frees. -/
  | foldResume (shoal pos : Nat)
  /-- R173: A member command completes with a retryable error and is aborted and reissued once. -/
  | memberCommandError (mcid : Nat) (conflict : Bool)
  /-- R173: A member command not complete after HARD_TIMEOUT is aborted with NVMe Abort. -/
  | memberHardTimeout (mcid : Nat)
  /-- R173: A command still not terminal HARD_TIMEOUT after its Abort makes the device reset the member controller. -/
  | memberAbortTimeout (mcid : Nat)
  /-- R173: A member controller reset that does not complete within HARD_TIMEOUT makes the member FAILED. -/
  | memberResetTimeout (bay : Nat)
  /-- R173: A reissued command ends: success counts a transient fault, failure makes the member FAILED. -/
  | memberReissueComplete (mcid : Nat) (outcome : Reissue)
  /-- R174: A member read completes; a block error is reconstructed, counted and repaired, or becomes a loss. -/
  | memberReadComplete (mcid : Nat) (res recon : ReadBack) (bad : List (Nat × Nat))
  /-- R175: The oldest undurable strip write of a stripe reaches WRITE_SOFT. -/
  | writeSoftDeadline (shoal row : Nat)
  /-- R178: A member read past READ_SOFT has its blocks reconstructed from the other strips, whichever result comes
  first being used. -/
  | readSoftDeadline (got : LateRead)
  /-- R172: A drive link goes down with PRSNT asserted, and its retrain window starts. -/
  | driveLinkLost (bay : Nat)
  /-- R172: A link not retrained within HARD_TIMEOUT makes the member FAILED and substituted. -/
  | linkRetrainTimeout (bay : Nat)
  /-- R172: An ABSENT member's absence timer expires; it becomes FAILED, is substituted and its resync slot closes. -/
  | absenceTimerExpiry (shoal pos : Nat)
  /-- R182: Paced resync rewrites a member's strip in a row of its resync set by reconstruction and clears finished
  regions. -/
  | resyncRow (shoal pos : Nat) (got : RowRead)
  /-- R186: Paced rebuild reconstructs the strips of every substituted position in the next row and advances CURSOR.
  -/
  | rebuildRow (shoal : Nat) (got : RowRead)
  /-- R190: The paced map scan marks grains that name slots of the lost-slot table, and marks unnamed slots DEAD. -/
  | lostSlotScan (nsid page : Nat)
  /-- R169: Every 60 s each member's SMART/Health log is read, and Critical Warning bits are passed to the Lighthouse.
  -/
  | smartPoll (bay warning : Nat)
  /-- R171: Shoal-wide label changes that are not dependent reach every ONLINE member within 60 s. -/
  | labelPropagate (shoal : Nat)
  /-- R171: A dependent label change is durable on both keepers, and the action waiting on it proceeds. -/
  | labelWriteDone (shoal : Nat)
  /-- R196: Paced patrol reads a LIVE row's strips and metadata and compares recomputed parity with the stored parity.
  -/
  | patrolRow (shoal row : Nat) (found : PatrolRead)
  /-- R198: The patrol position is recorded in PATROL_ROW at least every 60 s. -/
  | patrolCursorRecord (shoal : Nat)
  /-- R345: A Fabrics Connect binds an admin queue to a Cove through the binding checks, or adds an I/O queue. -/
  | connect (args : ConnectArgs)
  /-- R17: A Write capsule passes the front-end checks, policing and Breakwater, takes an ASN, and pulls or takes its
  data. -/
  | write (cntlid sqid : Nat) (cap : Capsule)
  /-- R151: A Read is admitted with an ASN, resolves each block by the ordering rule, and returns data by RDMA Write.
  -/
  | read (cntlid sqid : Nat) (cap : Capsule)
  /-- R159: A Flush is admitted, with an ASN for one NSID or none for FFFFFFFFh, and waits on earlier writes. -/
  | flush (cntlid sqid : Nat) (cap : Capsule)
  /-- R155: A Compare compares at its ASN, completing with Compare Failure on a mismatch. -/
  | compare (cntlid sqid : Nat) (cap : Capsule)
  /-- R132: Write Zeroes moves wholly covered grains to ZERO and writes ZERO_MASK records for partial grains. -/
  | writeZeroes (cntlid sqid : Nat) (cap : Capsule)
  /-- R131: Dataset Management with deallocate moves wholly covered grains to UNMAPPED; other attributes are ignored.
  -/
  | datasetManagement (cntlid sqid : Nat) (cap : Capsule)
  /-- R155: A Verify reads and checks the values at its ASN and transfers nothing. -/
  | verify (cntlid sqid : Nat) (cap : Capsule)
  /-- R210: Reservation Register takes effect at the ASN-assignment step and completes once its record is durable. -/
  | reservationRegister (cntlid sqid : Nat) (cap : Capsule)
  /-- R210: Reservation Report returns the namespace's reservation state. -/
  | reservationReport (cntlid sqid : Nat) (cap : Capsule)
  /-- R210: Reservation Acquire takes effect at the ASN-assignment step and completes once its record is durable. -/
  | reservationAcquire (cntlid sqid : Nat) (cap : Capsule)
  /-- R210: Reservation Release takes effect at the ASN-assignment step and completes once its record is durable. -/
  | reservationRelease (cntlid sqid : Nat) (cap : Capsule)
  /-- R395: A reservation record is covered by a MACK and durable on both keepers, and the reservation command
  completes. -/
  | reservationRecordDurable (nsid : Nat)
  /-- R225: Get Log Page 01h returns the controller's Error Information entries. -/
  | getLogErrorInformation (cntlid cid offset len : Nat)
  /-- R224: Get Log Page 02h returns SMART/Health figures for the shelf. -/
  | getLogSmart (cntlid cid offset len : Nat)
  /-- R224: Get Log Page 03h returns the two firmware slots. -/
  | getLogFirmwareSlot (cntlid cid offset len : Nat)
  /-- R221: Get Log Page 0Ch returns the ANA groups, one per Shoal. -/
  | getLogAna (cntlid cid offset len : Nat)
  /-- R224: Get Log Page 80h returns reservation notifications. -/
  | getLogReservationNotification (cntlid cid offset len : Nat)
  /-- R238: Get Log Page 81h returns SPROG, SSTAT and SCDW10 from the sanitise record. -/
  | getLogSanitizeStatus (cntlid cid offset len : Nat)
  /-- R226: Get Log Page C0h returns the Lost Range log entries visible to the controller. -/
  | getLogLostRange (cntlid cid offset len : Nat)
  /-- R228: Get Log Page C1h returns one entry per frozen SQ, and a read with RAE clear unmasks vendor events. -/
  | getLogQueueFreeze (cntlid cid offset len : Nat) (rae : Bool)
  /-- R229: Get Log Page C2h returns the shelf health page sampled at the read. -/
  | getLogShelfHealth (cntlid cid offset len : Nat)
  /-- R230: Get Log Page C3h returns format and delete progress for attached namespaces. -/
  | getLogFormatProgress (cntlid cid offset len : Nat)
  /-- R200: Identify returns controller or namespace data with the device's values and vendor bytes. -/
  | identify (cntlid cid cns nsid : Nat)
  /-- R220: Abort completes a command not yet admitted with 07h, and has no effect on an admitted one. -/
  | abort (cntlid cid sqid target : Nat)
  /-- R232: Set Features 02h from a POWER_AUTH Cove sets the shelf power state, or fails with Operation Denied. -/
  | setFeaturesPowerManagement (cntlid cid ps : Nat)
  /-- R233: The device enters PS3 once no command is admitted or held, no stripe is in flight and no rebuild or resync
  is open. -/
  | ps3Enter
  /-- R161: Set Features C0h enables or disables ASN reporting in completion DW0. -/
  | setFeaturesAsnReporting (cntlid cid cdw11 : Nat)
  /-- R215: Set Features 84h changes a namespace's write protection and freezes every attached I/O SQ. -/
  | setFeaturesWriteProtection (cntlid cid nsid wp : Nat)
  /-- R352: Set Features C1h ACTION 0 resets a Cove while keeping its associations. -/
  | coveControlReset (cntlid cid cove : Nat)
  /-- R352: Set Features C1h ACTION 1 resets a Cove and ends its associations. -/
  | coveControlResetEnd (cntlid cid cove : Nat)
  /-- R352: Set Features C1h ACTION 2 freezes a Cove, completing when it is FROZEN. -/
  | coveControlFreeze (cntlid cid cove : Nat)
  /-- R352: Set Features C1h ACTION 3 thaws a Cove and resumes admission at each SQ head. -/
  | coveControlThaw (cntlid cid cove : Nat)
  /-- R482: Set Features C2h with the flush bit flushes the event buffer, from Cove 0 only. -/
  | eventLogControlFlush (cntlid cid cdw11 : Nat)
  /-- R482: Set Features C2h with the clear bit clears the event log, from Cove 0 only. -/
  | eventLogControlClear (cntlid cid cdw11 : Nat)
  /-- R227: Set Features C3h removes resolved or dead Lost Range entries up to an ENTRY_SEQ, completing once the
  labels are written. -/
  | lostRangeAcknowledge (cntlid cid cdw11 entrySeq : Nat)
  /-- R241: Set Features sets the association's keep-alive timer. -/
  | setFeaturesKeepAliveTimer (cntlid cid kato : Nat)
  /-- R213: Set Features 16h sets Advanced Command Retry Enable, which governs CRD. -/
  | setFeaturesHostBehavior (cntlid cid acre : Nat)
  /-- R219: Set Features configures asynchronous event reporting. -/
  | setFeaturesAsyncEventConfig (cntlid cid cdw11 : Nat)
  /-- R219: Set Features negotiates the number of queues. -/
  | setFeaturesNumberOfQueues (cntlid cid nsqr ncqr : Nat)
  /-- R232: Get Features 02h returns the power state in force. -/
  | getFeaturesPowerManagement (cntlid cid : Nat)
  /-- R161: Get Features C0h returns the ASN reporting setting in DW0 bit 0. -/
  | getFeaturesAsnReporting (cntlid cid : Nat)
  /-- R352: Get Features C1h returns a Cove's STATE and GEN. -/
  | getFeaturesCoveControl (cntlid cid cove : Nat)
  /-- R482: Get Features C2h returns STORED and EVENT_LOST. -/
  | getFeaturesEventLogControl (cntlid cid : Nat)
  /-- R227: Get Features C3h returns the number of entries in the Lost Range log. -/
  | getFeaturesLostRange (cntlid cid : Nat)
  /-- R215: Get Features 84h returns a namespace's write protection state. -/
  | getFeaturesWriteProtection (cntlid cid nsid : Nat)
  /-- R219: Get Features returns the keep-alive timer. -/
  | getFeaturesKeepAliveTimer (cntlid cid : Nat)
  /-- R219: Get Features returns Host Behavior Support. -/
  | getFeaturesHostBehavior (cntlid cid : Nat)
  /-- R219: Get Features returns the asynchronous event configuration. -/
  | getFeaturesAsyncEventConfig (cntlid cid : Nat)
  /-- R219: Get Features returns the number of queues. -/
  | getFeaturesNumberOfQueues (cntlid cid : Nat)
  /-- R205: An AER is held outstanding, up to four per controller, and a fifth fails with Limit Exceeded. -/
  | asynchronousEventRequest (cntlid cid : Nat)
  /-- R201: Namespace Management create reserves capacity and a map page range, writes the first ASN mark and draws a
  key. -/
  | namespaceCreate (cntlid cid : Nat) (args : NsCreateArgs)
  /-- R380: The wrapped key record is durable in ADMIN, the flash and every ONLINE member, and the create completes.
  -/
  | namespaceKeyDurable (nsid : Nat)
  /-- R201: Namespace Management delete performs format steps 2 to 5 with a deletion crypto erase, then frees the
  NSID. -/
  | namespaceDelete (cntlid cid nsid : Nat)
  /-- R347: Namespace Attachment attaches a namespace within NS_QUOTA, or fails with Limit Exceeded. -/
  | namespaceAttach (cntlid cid nsid : Nat) (ctrls : List Nat)
  /-- R199: Namespace Attachment detaches a namespace from controllers. -/
  | namespaceDetach (cntlid cid nsid : Nat) (ctrls : List Nat)
  /-- R242: Firmware Image Download transfers a piece of an image, from Cove 0 or the MHI. -/
  | firmwareImageDownload (cntlid cid offset : Nat) (bytes : List Byte)
  /-- R242: Firmware Commit CA 000b checks the image and replaces a slot. -/
  | firmwareCommitReplace (cntlid cid slot : Nat)
  /-- R242: Firmware Commit CA 001b replaces a slot for activation at the next restart. -/
  | firmwareCommitReplaceActivate (cntlid cid slot : Nat)
  /-- R242: Firmware Commit CA 010b selects a slot for activation at the next restart. -/
  | firmwareCommitActivate (cntlid cid slot : Nat)
  /-- R243: Firmware Commit CA 011b activates now, by a role swap on a pair or in place in SOLO. -/
  | firmwareCommitActivateNow (cntlid cid slot : Nat) (partnerOk : Bool)
  /-- R244: Every admitted command is terminal, and the management complex starts the new firmware. -/
  | fwActivationDrained
  /-- R244: The new firmware runs; admission resumes, CSTS.PP clears and Firmware Commit completes. -/
  | fwActivationResume
  /-- R245: An activation whose drain exceeds 100 ms is abandoned and completes with Requires Conventional Reset. -/
  | fwActivationTimeout
  /-- R241: Keep Alive restarts the association's keep-alive timer. -/
  | keepAlive (cntlid cid : Nat)
  /-- R241: A keep-alive timer expires, and the association ends as in R239. -/
  | keepAliveExpiry (cntlid : Nat)
  /-- R234: Format NVM stops admission to the namespace, crypto-erases it, unmaps every grain and reopens it. -/
  | formatNvm (cntlid cid nsid lbaf pi mset ses : Nat)
  /-- R234: The paced background walk of old map pages removes grains from their rows' LIVE counts and advances
  CURSOR. -/
  | formatWalk (nsid : Nat)
  /-- R236: Sanitize SANACT 100b stops all admission, rotates every key and unmaps every namespace. -/
  | sanitizeCryptoErase (cntlid cid cdw10 : Nat)
  /-- R236: Sanitize SANACT 010b also block-erases every member and zeroes STAGE and MAPLOG. -/
  | sanitizeBlockErase (cntlid cid cdw10 : Nat)
  /-- R236: Sanitize SANACT 001b leaves sanitize failure mode. -/
  | sanitizeExitFailure (cntlid cid cdw10 : Nat)
  /-- R237: A member finishes its block erase; MEMBERS_DONE is updated, and a failure puts the shelf into failure
  mode. -/
  | sanitizeMemberDone (bay : Nat) (ok : Bool)
  /-- R236: The sanitize records completion and posts the Sanitize Operation Completed notice. -/
  | sanitizeComplete
  /-- R162: Get ASN Status (C0h) returns NEXT_ASN, LOW_WATER, MARK and RESUMES for a namespace. -/
  | getAsnStatus (cntlid cid nsid : Nat)
  /-- R217: Queue Thaw ACTION 0 resumes admission at a frozen SQ's head and removes its freeze entry. -/
  | queueThawResume (cntlid cid sqid : Nat)
  /-- R217: Queue Thaw ACTION 1 completes every held capsule with 81h and leaves the SQ frozen. -/
  | queueThawDiscard (cntlid cid sqid : Nat)
  /-- R357: Cove Image Export (C2h) freezes the Cove, takes its image and returns it, keeping a COVEIMG copy on
  request. -/
  | coveImageExport (cntlid cid cove : Nat) (keep : Bool)
  /-- R359: Cove Image Import (C3h) checks an image from host memory and creates the Cove from it, all or nothing. -/
  | coveImageImport (cntlid cid cove : Nat) (image : List Byte)
  /-- R362: Written-Block Log ACTION 0 clears both halves and sets SWAP_ASN to NEXT_ASN. -/
  | wblStart (cntlid cid nsid : Nat)
  /-- R362: Written-Block Log ACTION 1 swaps the halves at one instant of admission order and returns the retired
  half. -/
  | wblSwapRead (cntlid cid nsid offset len : Nat)
  /-- R223: Written-Block Log ACTION 2 returns bytes from the half retired by the latest swap. -/
  | wblRead (cntlid cid nsid offset len : Nat)
  /-- R363: Written-Block Log ACTION 3 stops the log. -/
  | wblStop (cntlid cid nsid : Nat)
  /-- R239: Clearing CC.EN discards unadmitted capsules, squashes reads, lets writes land and deletes the I/O queues.
  -/
  | controllerDisable (cntlid : Nat)
  /-- R239: CSTS.RDY clears once every admitted command of the association is terminal. -/
  | controllerDrained (cntlid : Nat)
  /-- R240: CC.SHN stops admission, discards held capsules and lets admitted commands complete before SHST reads
  complete. -/
  | shutdownNotification (cntlid : Nat)
  /-- R252: A connection request is accepted with Spray, PATHS, T_OFF and push granted or refused. -/
  | cmConnectRequest (req : CmRequest)
  /-- R284: A queue pair's disconnect completes and its context slots are released, within 100 ms of the error state.
  -/
  | cmDisconnect (qpn : Nat)
  /-- R254: A standard-mode Send carrying a capsule is taken into an in-capsule buffer and delivered, or answered with
  an RNR NAK. -/
  | recvSend (qpn psn : Nat) (op : Nat) (cap : Capsule) (f : FrameInfo)
  /-- R276: A standard-mode RDMA Write from the host places push data in its landing window. -/
  | recvRdmaWrite (qpn psn rkey : Nat) (d : Frag) (f : FrameInfo)
  /-- R274: An RDMA Read Response places pulled write data at its sink and stages it. -/
  | recvRdmaReadResponse (qpn psn tag : Nat) (d : Frag) (f : FrameInfo)
  /-- R272: A standard-mode ACK retires packets, and read completions whose data is all acknowledged are sent. -/
  | recvAcknowledge (qpn psn : Nat)
  /-- R255: A NAK triggers go-back-N retransmission, or the error state for an error NAK. -/
  | recvNak (qpn psn code : Nat)
  /-- R255: An RNR NAK makes the device retry after the named timer, up to six times. -/
  | recvRnrNak (qpn psn timer : Nat)
  /-- R271: A CNP cuts every path of the queue pair to three quarters at most once per srtt or 20 µs. -/
  | recvCnp (qpn : Nat)
  /-- R254: 2 µs after an unacknowledged packet the responder sends an acknowledgement. -/
  | ackTimer (qpn : Nat)
  /-- R255: The 262.144 µs local ACK timeout expires; the device retransmits and halves the rate. -/
  | localAckTimeout (qpn : Nat)
  /-- R255: The RNR timer named by a NAK expires, and the packet is resent. -/
  | rnrRetryTimer (qpn : Nat)
  /-- R267: A SPRAY_SEND fragment is placed; a message is delivered once CUM_PSN passes its last fragment. -/
  | recvSpraySend (qpn : Nat) (h : SprayHdr) (op : Nat) (cap : Capsule) (f : FrameInfo)
  /-- R265: A SPRAY_WRITE fragment is checked and placed into its landing window or dropped. -/
  | recvSprayWrite (qpn : Nat) (h : SprayHdr) (d : Frag) (f : FrameInfo)
  /-- R274: A SPRAY_READ_RESP fragment places pulled write data at its sink. -/
  | recvSprayReadResp (qpn : Nat) (h : SprayHdr) (tag : Nat) (d : Frag) (f : FrameInfo)
  /-- R268: A SPRAY_ACK marks PSNs received, detects losses by path order and feeds rate control. -/
  | recvSprayAck (qpn : Nat) (b : SackBlock)
  /-- R264: 2 µs after an unacknowledged data packet, the receiver sends a SPRAY_ACK. -/
  | sprayAckTimer (qpn : Nat)
  /-- R268: A PSN's retransmission timeout expires; it is resent on the next up path, and its path's rate is halved.
  -/
  | sprayRetxTimeout (qpn psn : Nat)
  /-- R263: After an RNR syndrome's timer, the trigger packet is resent, up to six times. -/
  | sprayRnrRetry (qpn psn : Nat)
  /-- R271: Every 10 s each path's base is reset to the lowest sample of the past 10 s. -/
  | baseRttRefresh (qpn : Nat)
  /-- R280: A revoked window's memory returns to the pool once no admitted command holds a slot of it. -/
  | landingWindowReturn (qpn : Nat)
  /-- R249: A network link goes down; its queued cells are flushed and its addresses move to a backup link within 1
  ms. -/
  | netLinkDown (link : Nat)
  /-- R246: A network link trains and comes up. -/
  | netLinkUp (link : Nat)
  /-- R249: A home link up for 10 s takes its address back. -/
  | addressReturn (index : Nat)
  /-- R247: ARP and Neighbor Discovery for the device's addresses are answered by the management complex. -/
  | recvArpNd (f : FrameInfo) (index : Nat)
  /-- R247: A frame that is oversized, bad, double-tagged or of no served kind is dropped and counted. -/
  | recvOtherFrame (f : FrameInfo)
  /-- R328: At an opportunity to start a frame the link picks management, strict, then WFQ class and Cove within gates
  and shapers. -/
  | txOpportunity (link bad : Nat)
  /-- R292: A plane with over 16 uncorrectable cells in 1 s, or a failed link check, is taken out of service and its
  buckets re-pinned. -/
  | planeOutOfService (plane : Nat)
  /-- R308: An epoch that has not drained in 1 ms raises a WARN event naming the oldest unit. -/
  | epochStallTimer (tag : Nat)
  /-- R309: A write to the capture ring control sets mode and, on setting ENABLE, zeroes PRODUCER, DROPPED and sample
  counts. -/
  | captureCtrlWrite (v : Byte)
  /-- R338: Setting a sampler's ENABLE zeroes its RO fields and starts sampling. -/
  | samplerCtrlWrite (i : Nat) (v : Byte)
  /-- R337: At each multiple of INTERVAL_US a sampler adds one count to its depth and delay histograms. -/
  | samplerTick (i : Nat)
  /-- R316: An Announce in DOMAIN feeds master selection by the best master clock algorithm. -/
  | ptpAnnounceReceive (a : Announce)
  /-- R319: A Sync with its timing gives an offset measurement, which steps or slews the clock. -/
  | ptpSyncReceive (port seq : Nat) (twoStep : Bool) (originNs rxNs : Int)
  /-- R316: A delay response completes the path delay measurement. -/
  | ptpDelayRespReceive (port seq : Nat) (receiveNs : Int)
  /-- R316: A Delay_Req is sent in the Sync's transport at the rate the master allows. -/
  | ptpDelayReqSend (port seq : Nat) (txNs : Int)
  /-- R316: announceReceiptTimeout intervals without an Announce make the PTP source invalid. -/
  | announceReceiptTimeout (port : Nat)
  /-- R316: Three Sync intervals without a Sync make the PTP source invalid. -/
  | syncReceiptTimeout (port : Nat)
  /-- R317: A PPS_IN rising edge marks a second boundary for phase and frequency, and is checked against prediction.
  -/
  | ppsInEdge
  /-- R317: 1.5 s without a PPS_IN edge makes PPS_IN invalid. -/
  | ppsInTimeout
  /-- R317: At each time-of-day second boundary PPS_OUT rises. -/
  | ppsOutPulse
  /-- R317: PPS_OUT falls 10 ms after its rising edge. -/
  | ppsOutFall
  /-- R315: A higher-priority source valid for 10 s is taken back, with an INFO event. -/
  | sourceRevertTimer (source : Nat)
  /-- R320: After 10 minutes in HOLDOVER, HOLDOVER_EXCEEDED is set with a WARN event. -/
  | holdoverLimit
  /-- R323: At an entry instant, or a step of time of day, the profile in force is recomputed and its fields take
  effect. -/
  | tideTableEntry (period entry : Nat)
  /-- R332: A gate list entry comes into force at its instant and sets the open classes of the port. -/
  | gateEntry (port entry : Nat)
  /-- R341: Mailbox COVE_CREATE creates a Cove with its number and NQN, or fails. -/
  | mboxCoveCreate (cove : Nat) (nqn : List Byte)
  /-- R343: Mailbox COVE_DELETE makes the Cove DELETING and ends its associations. -/
  | mboxCoveDelete (cove : Nat)
  /-- R343: With COVE_INFLIGHT 0 and no credit held, bindings, attachments and key slots are removed and the Cove
  becomes FREE. -/
  | coveDeleteDrained (cove : Nat)
  /-- R359: Mailbox COVE_IMPORT creates a Cove from a COVEIMG slot and frees the slot. -/
  | mboxCoveImport (cove slot : Nat)
  /-- R505: Mailbox COVEIMG action 0 claims a slot for loading. -/
  | mboxCoveimgClaim
  /-- R505: Mailbox COVEIMG action 1 frees a slot. -/
  | mboxCoveimgFree (slot : Nat)
  /-- R505: Mailbox COVEIMG action 2 lists the slots in use. -/
  | mboxCoveimgList
  /-- R344: Mailbox BIND action 0 sets a binding entry, refusing duplicates and excess. -/
  | mboxBindSet (index : Nat) (entry : Binding)
  /-- R344: Mailbox BIND action 1 clears a binding entry. -/
  | mboxBindClear (index : Nat)
  /-- R352: COVE_CTRL.RESET makes the Cove RESETTING and stops admission, in the mode RESET_MODE gives. -/
  | coveCtrlReset (cove : Nat) (v : Reg)
  /-- R352: Admitted writes are terminal; reads and held capsules complete with 83h or are squashed, and GEN advances.
  -/
  | coveResetWritesDrained (cove : Nat)
  /-- R352: With COVE_INFLIGHT 0 the Cove returns to ACTIVE or FROZEN, RESETS counts and DONE is raised. -/
  | coveResetDone (cove : Nat)
  /-- R342: COVE_CTRL.FREEZE stops the Cove's admission and holds its capsules. -/
  | coveCtrlFreeze (cove : Nat) (v : Reg)
  /-- R342: Every command the Cove admitted is terminal, and it reaches FROZEN with DONE. -/
  | coveFrozen (cove : Nat)
  /-- R342: COVE_CTRL.THAW ends a freeze and resumes admission at each SQ head. -/
  | coveCtrlThaw (cove : Nat) (v : Reg)
  /-- R357: COVE_CTRL.EXPORT freezes the Cove for an image to a free COVEIMG slot. -/
  | coveCtrlExport (cove : Nat) (v : Reg)
  /-- R357: Once the Cove is FROZEN, the image is taken, written to a slot and reported. -/
  | coveExportTake (cove : Nat)
  /-- R374: A continuous entropy health test fails; key draws wait and a FAULT event is logged. -/
  | entropyTestFail
  /-- R374: The source passes its start-up tests again and resumes service. -/
  | entropyRecover
  /-- R376: Mailbox SHELFKEY_LOAD unseals a blob and forms the KEK, persisting the blob on request. -/
  | mboxShelfkeyLoad (blob : List Byte) (persist : Bool)
  /-- R379: Mailbox SHELFKEY_ROTATE starts rewrapping every record under a higher-epoch KEK. -/
  | mboxShelfkeyRotate (blob : List Byte) (persist : Bool)
  /-- R379: Every record is rewrapped; the old KEK is zeroized and its blob erased. -/
  | keyRotationDone
  /-- R386: Slot CMD 1 loads a clear key with its MODES at one instant of admission order. -/
  | keySlotLoadClear (cove slot modes key : Nat)
  /-- R386: Slot CMD 2 unwraps and loads a wrapped key. -/
  | keySlotLoadWrapped (cove slot : Nat) (wrapped : List Byte)
  /-- R386: Slot CMD 3 clears a slot. -/
  | keySlotClear (cove slot : Nat)
  /-- R387: When the last command admitted before a slot change is terminal, the old key is zeroized. -/
  | oldKeyZeroize (cove slot : Nat)
  /-- R401: A PAGE frame writes a mirrored STAGE page with its tag at the same index. -/
  | straitPage (h : StraitHdr) (page : Nat) (tag : Tag) (data : Nat) (tagOk : Bool)
  /-- R401: A REGION frame writes mirrored SJOURNAL, MAPLOG, ADMIN or COVEIMG units. -/
  | straitRegion (h : StraitHdr) (page offset : Nat) (units : List Nat)
  /-- R88: A RELEASE frame clears the tags of released pages on the mirroring side. -/
  | straitRelease (h : StraitHdr) (runs : List (Nat × Nat))
  /-- R401: A MACK marks mirror frames durable through an MSEQ, supplying writes' mirror acknowledgements. -/
  | straitMack (h : StraitHdr) (mseq : Nat)
  /-- R403: A HEARTBEAT from the partner is received, and the partner's role and epoch are recorded. -/
  | straitHeartbeat (h : StraitHdr) (role partner side version counter epoch chartSeq : Nat)
  /-- R402: An LLACK retires sent frames from the replay buffer. -/
  | straitLlack (lseq : Nat)
  /-- R402: An LLNAK makes the sender replay from the named LSEQ. -/
  | straitLlnak (lseq : Nat)
  /-- R404: A CONFIG KIND 1 frame applies a mirrored namespace definition. -/
  | straitConfigNamespace (h : StraitHdr) (d : NsDef)
  /-- R404: A CONFIG KIND 2 frame applies a mirrored Cove definition. -/
  | straitConfigCove (h : StraitHdr) (d : CoveDef)
  /-- R404: A CONFIG KIND 3 frame applies a mirrored binding entry. -/
  | straitConfigBinding (h : StraitHdr) (index : Nat) (b : Binding)
  /-- R404: A CONFIG KIND 4 frame applies a mirrored reservation record. -/
  | straitConfigReservation (h : StraitHdr) (r : ResvRecord)
  /-- R404: A CONFIG KIND 5 frame applies a mirrored namespace key record. -/
  | straitConfigNsKey (h : StraitHdr) (r : KeyRecord) (wrapped : List Byte)
  /-- R404: A CONFIG KIND 6 frame applies a mirrored Cove slot record. -/
  | straitConfigSlotKey (h : StraitHdr) (r : SlotRecord)
  /-- R57: CONFIG KIND 7 frames carry a Chart image, which the partner validates under R47 and R51. -/
  | straitConfigChartChunk (h : StraitHdr) (offset : Nat) (last : Bool) (bytes : List Byte)
  /-- R415: CONFIG KIND 8 frames pass ASN counters, written-block logs and Cove counters at a swap. -/
  | straitConfigSwapHandover (h : StraitHdr) (d : Handover) (wbls : List WblState)
  /-- R406: A HELLO is checked for SHELF_ID, side, Tideline, digest, KEK and version, and the Chart exchange runs. -/
  | straitHello (h : StraitHdr) (d : Hello)
  /-- R406: A REFUSE records the refusal code, and the joining side becomes FENCED. -/
  | straitRefuse (h : StraitHdr) (code : Nat)
  /-- R407: SYNC_BEGIN starts the live mirror and SYNC frames of pairing. -/
  | straitSyncBegin (h : StraitHdr)
  /-- R407: SYNC_END ends pairing's sync at its last MSEQ. -/
  | straitSyncEnd (h : StraitHdr) (mseq : Nat)
  /-- R408: SETTLE_END ends the non-writer's page transfer, and the grouping becomes final over the union. -/
  | straitSettleEnd (h : StraitHdr) (pages : Nat)
  /-- R415: SWAP_PREPARE makes the STANDBY side run its self-test. -/
  | straitSwapPrepare (h : StraitHdr)
  /-- R415: SWAP_DONE ends the swap; the incoming side becomes ACTIVE and the outgoing side STANDBY. -/
  | straitSwapDone (h : StraitHdr)
  /-- R70: WITHDRAW makes the partner clear a page's tag and withdraw that page too. -/
  | straitWithdraw (h : StraitHdr) (page : Nat)
  /-- R411: FENCE_TEST reports whether a FENCE_OUT test pulse was seen, which sets FENCE_WIRED. -/
  | straitFenceTest (h : StraitHdr) (seen : Bool)
  /-- R397: The Strait trains, at full rate or half rate. -/
  | straitLinkUp (lanes : Nat)
  /-- R397: The Strait goes down and the mirror stops at once. -/
  | straitLinkDown
  /-- R402: While frames arrive, an LLACK is sent at least every 1 µs. -/
  | straitLlackTimer
  /-- R402: A full replay buffer held for 100 µs, or 16 replays of one frame, takes the link down. -/
  | straitReplayTimeout
  /-- R403: Every 1 ms a HEARTBEAT is sent while the liveness counter has advanced within 2 ms. -/
  | heartbeatSend (advanced : Bool)
  /-- R409: Three missed heartbeats make the device suspect its partner and query its Tideline interface. -/
  | heartbeatMissed
  /-- R457: No ANSWER within 200 µs resends the QUERY; none by 1 ms gives NO_ANSWER. -/
  | tidelineQueryTimeout
  /-- R410: A STANDBY without an answer waits 50 ms, then asserts FENCE_OUT and takes over if not fenced itself. -/
  | fenceGraceTimer
  /-- R410: A STANDBY facing an ALIVE partner not fenced within 100 ms becomes FENCED with reason 5. -/
  | standbyFenceWait
  /-- R411: A fence by FENCE_OUT or the Tideline ends after 10 s. -/
  | fenceHoldExpiry
  /-- R413: Every member completes Preempt and Abort; the epoch is recorded SOLO and recovery runs on the local pool.
  -/
  | takeoverAcquired (faults : List PoolFault)
  /-- R392: The shelf record with the new PAIR_EPOCH is durable on the keepers, and held member writes proceed. -/
  | epochRecordDurable
  /-- R408: No HELLO within 10 s of Shoal assembly makes an eligible side start SOLO with E + 1. -/
  | partnerWaitTimeout
  /-- R415: The self-test passes and the outgoing side stops admission, seals stripes and pauses housekeeping. -/
  | swapSelftestDone (ok : Bool) (planesBad : List Nat)
  /-- R415: Every admitted command is terminal, every stripe COMMITTED and every mirror frame acknowledged; handover
  chunks are sent. -/
  | swapDrained
  /-- R415: The incoming side's Preempt completes on every member and it records the new epoch as writer. -/
  | swapAcquired
  /-- R417: Step 5 not begun by P + SWAP_PAUSE_MAX − 20 ms abandons the swap. -/
  | swapAbandonTimer
  /-- R415: PAIR_CTRL.SWAP with key 0xA5 starts a planned swap. -/
  | pairCtrlSwap (v : Reg)
  /-- R419: PAIR_CTRL.FORCE makes a fenced side acquire, record MODE FORCED and serve SOLO. -/
  | pairCtrlForce (v : Reg) (faults : List PoolFault)
  /-- R424: PAIR_CTRL.UNFENCE releases FENCE_OUT and any Tideline fence before 10 s. -/
  | pairCtrlUnfence (v : Reg)
  /-- R427: Every 1 ms the Lighthouse reads the interval's inputs and sets rates, borrowing, capping and
  substitutions. -/
  | lighthouseStep (temp : Int) (power pressure : Nat)
  /-- R432: Heat buckets age at their 15 s and 15 min boundaries. -/
  | heatBucketRotate (fifteenMin : Bool)
  /-- R455: A NULL frame keeps a link alive and, with NUMBERED set, gives the upstream neighbour's address. -/
  | tlineNull (onIn : Bool) (w : Word64)
  /-- R459: An IDENT refreshes the roster entry of its sender's address. -/
  | tlineIdent (onIn : Bool) (w : Word64)
  /-- R455: A CLAIM is denied by the holder of the candidate address, and forwarded. -/
  | tlineClaim (onIn : Bool) (w : Word64)
  /-- R455: A DENY for a controller's own CLAIM leaves it unnumbered. -/
  | tlineDeny (onIn : Bool) (w : Word64)
  /-- R456: An ENUM received on TLI_IN sets the address to SRC + 1, stores it and regenerates ENUM downstream. -/
  | tlineEnum (onIn : Bool) (w : Word64)
  /-- R456: A REENUM_REQ at the head makes it send ENUM downstream with SRC 0. -/
  | tlineReenumReq (onIn : Bool) (w : Word64)
  /-- R457: A QUERY is answered in logic within 20 µs with ALIVE or the controller's state. -/
  | tlineQuery (onIn : Bool) (w : Word64)
  /-- R457: An ANSWER gives the partner's state, and the suspicion is acted on under R410. -/
  | tlineAnswer (onIn : Bool) (w : Word64)
  /-- R457: An accepted FENCE forces FENCED or holds the controller in reset, and FENCE_ACK is sent. -/
  | tlineFence (onIn : Bool) (w : Word64)
  /-- R457: An accepted UNFENCE releases a fence from the same SRC. -/
  | tlineUnfence (onIn : Bool) (w : Word64)
  /-- R410: A FENCE_ACK confirms the partner is fenced, and the waiting takeover or SOLO entry proceeds. -/
  | tlineFenceAck (onIn : Bool) (w : Word64)
  /-- R458: A TIME_S gives the seconds of the coming boundary and is regenerated on the other link. -/
  | tlineTimeS (onIn : Bool) (w : Word64)
  /-- R458: A TIME_MARK fixes the boundary for the Tideline time source and is regenerated. -/
  | tlineTimeMark (onIn : Bool) (w : Word64)
  /-- R325: A PROFILE broadcast is applied only while TABLE_SUSPENDED is set and the index is valid. -/
  | tlineProfile (onIn : Bool) (w : Word64)
  /-- R451: 16 good frames each way bring a Tideline link up. -/
  | tlineLinkUp (onIn : Bool)
  /-- R451: 16 cycles without a good frame take a Tideline link down, splitting the chain. -/
  | tlineLinkDown (onIn : Bool)
  /-- R453: Every 100 ms a numbered controller broadcasts IDENT. -/
  | tlineIdentTimer
  /-- R458: Each second a locked origin sends TIME_S before the boundary and TIME_MARK after it. -/
  | tlineTimeOriginTick
  /-- R455: No DENY within 2 ms of a CLAIM makes the controller take the candidate address and store it. -/
  | tlineClaimTimeout
  /-- R455: TLI_IN not up within 100 ms makes the controller take its stored flash address. -/
  | tlineInTimeout
  /-- R458: 3 s after the last accepted TIME_MARK the Tideline source becomes invalid. -/
  | tlineTimeTimeout
  /-- R456: Mailbox TLINE_REENUM starts re-enumeration of the head's segment. -/
  | mboxTlineReenum
  /-- R448: Mailbox FW_FUSE_SVN raises the fused security version to the running image's SVN. -/
  | mboxFwFuseSvn (guard_ : Nat)
  /-- R505: Mailbox SIGNER_KEY action 0 programs a Chart signer-key hash slot permanently. -/
  | mboxSignerKeyProgram (slot guard_ : Nat) (hash : List Byte)
  /-- R505: Mailbox SIGNER_KEY action 1 revokes a slot, never the last unrevoked one. -/
  | mboxSignerKeyRevoke (slot guard_ : Nat)
  /-- R505: Mailbox NET_ADDR action 0 sets an address record with its home and backup links. -/
  | mboxNetAddrSet (a : NetAddr) (persist : Bool)
  /-- R505: Mailbox NET_ADDR action 1 clears an address record. -/
  | mboxNetAddrClear (index : Nat) (persist : Bool)
  /-- R505: Mailbox NET_ADDR action 2 lists the address records. -/
  | mboxNetAddrList
  /-- R505: Mailbox POWER_STATE sets the shelf power state as Set Features 02h does. -/
  | mboxPowerState (ps : Nat)
  /-- R463: PRSNT asserting moves an EMPTY bay to INSERT and starts the insertion delay. -/
  | bayPrsntAssert (bay vin : Nat)
  /-- R468: PRSNT high for 2 µs pulls the gate down, asserts PERST#, clears the bay and makes the member ABSENT. -/
  | bayPrsntDeassert (bay : Nat)
  /-- R463: PRSNT and VIN held in window for INSERT_DELAY move the bay to QUEUED. -/
  | bayInsertDelayExpiry (bay vin : Nat)
  /-- R465: A free ramp place moves the oldest QUEUED bay to RAMPING and its gate starts to ramp. -/
  | bayRampStart (bay : Nat)
  /-- R464: VOUT within 0.3 V of VIN raises the gate fully by the charge pump. -/
  | bayRampReached (bay vout : Nat)
  /-- R464: Gate and VOUT in bounds assert power-good, the bay goes ON and frees its ramp place. -/
  | bayPowerGood (bay vout : Nat)
  /-- R464: 100 ms after power-good, BAY_PERST_N is released and the drive link trains. -/
  | bayPerstRelease (bay : Nat)
  /-- R466: Current above BREAKER for BREAKER_TIME pulls the gate down as a failed attempt. -/
  | bayBreakerTrip (bay current : Nat)
  /-- R466: Current above twice BREAKER pulls the gate down within 500 ns as a failed attempt. -/
  | bayFastTrip (bay current : Nat)
  /-- R466: No power-good by 2 × VIN / RAMP + 10 ms pulls the gate down as a failed attempt. -/
  | bayRampTimeout (bay : Nat)
  /-- R466: Power-good lost for 100 µs in ON pulls the gate down as a failed attempt. -/
  | bayPowerGoodLost (bay vout : Nat)
  /-- R466: VIN below UV for 1 ms pulls the gate down and returns the bay to INSERT. -/
  | bayVinUnder (bay vin : Nat)
  /-- R466: VIN above OV for 100 µs pulls the gate down and returns the bay to INSERT. -/
  | bayVinOver (bay vin : Nat)
  /-- R466: VOUT above 1.5 V for 20 ms with the gate off marks the bay FET_FAILED with an alert. -/
  | bayFetDamaged (bay vout : Nat)
  /-- R467: 1 s after a failed attempt the bay re-enters QUEUED. -/
  | bayRetryExpiry (bay : Nat)
  /-- R467: Power-good held for 60 s returns ATTEMPTS to 0. -/
  | bayAttemptsReset (bay : Nat)
  /-- R471: BAY_CTRL CMD 1 lifts an OFF command, moving the bay to INSERT or EMPTY. -/
  | bayCtrlOn (v : Reg)
  /-- R469: BAY_CTRL CMD 2 pulls the gate down and puts the bay in OFF. -/
  | bayCtrlOff (v : Reg)
  /-- R469: BAY_CTRL CMD 3 clears a LATCHED bay, or a FET_FAILED one while VOUT ≤ 0.5 V. -/
  | bayCtrlClear (v : Reg) (vout : Nat)
  /-- R477: Each elapsed second a clock-mark event is recorded. -/
  | clockMarkTimer
  /-- R479: EVENT_CTRL.FLUSH flushes the buffer and raises EVENT_INT.FLUSHED. -/
  | eventCtrlFlush (v : Reg)
  /-- R481: EVENT_CTRL.CLEAR with key 0xA5 flushes, zeroes EVENTS and writes LOG_CLEARED into slot 0. -/
  | eventCtrlClear (v : Reg)
  /-- R481: A clear or flush requested before bring-up step 5 runs once the ESN counter is set. -/
  | eventDeferredClear
  /-- R493: PERF_CTRL.CLEAR_ALL zeroes every counter and overflow bit at one instant. -/
  | perfCtrlClearAll (v : Reg)
  /-- R493: A PERF_CFG write sets a counter's event and Lens, zeroes it and clears its overflow bit. -/
  | perfCfgWrite (n : Nat) (v : Reg)
  /-- R490: A PERF_CNT_LO read samples the counter and latches PERF_CNT_HI and PERF_STAMP. -/
  | perfCntLoRead (n : Nat)
  /-- R488: A write of byte 31 of a Lens entry applies its new values together. -/
  | lensWrite (i : Nat) (v : Nat)
  /-- R364: Control-table ACTION 1 starts a namespace's written-block log. -/
  | wblTableStart (nsid : Nat)
  /-- R364: Control-table ACTION 2 swaps the log's halves at one instant of admission order. -/
  | wblTableSwap (nsid : Nat)
  /-- R364: Control-table ACTION 3 stops the log. -/
  | wblTableStop (nsid : Nat)
  /-- R501: GLOBAL_RESET.RESTART with key 0xA5 stops the device and restarts bring-up, keeping the MHI link. -/
  | globalResetRestart (v : Reg)
  /-- R502: A GLOBAL_SERVICE write enters service mode when allowed with key 0x5A, or clears it. -/
  | globalServiceWrite (v : Reg)
  /-- R512: A DP_DATA read accesses a SIZE unit at DP_ADDR and returns its dwords in order, advancing with AUTO_INC.
  -/
  | dpDataRead (ecc : EccResult)
  /-- R512: DP_DATA writes gather a unit and write it when its last dword arrives. -/
  | dpDataWrite (v : Reg)
  /-- R512: A DP_CTRL write sets size, increment and burst and discards a partial unit. -/
  | dpCtrlWrite (v : Reg)
  /-- R513: A BAR2 read reaches DP_ADDR + offset through the burst buffer, advancing DP_ADDR at the window end. -/
  | bar2Read (offset len : Nat) (ecc : EccResult)
  /-- R513: A BAR2 write applies in aligned 64-byte units, merging partial units. -/
  | bar2Write (offset : Nat) (bytes : List Byte)
  /-- R97: A POOL_OCCUPANCY read returns and clears PEAK. -/
  | poolOccupancyRead
  /-- R98: A POOL_ECC read returns and clears the correction counts. -/
  | poolEccRead
  /-- R423: A PAIR_STRAIT read returns and clears REPLAYS. -/
  | pairStraitRead
  /-- R472: A BAY_CURR read returns and clears PEAK. -/
  | bayCurrRead (bay : Nat)
  /-- R7: A read of a _LO register returns its value and latches the matching _HI. -/
  | registerLoRead (got : BarRead)
  /-- R7: A read of a _HI register returns and uses the latched half, or the live upper half. -/
  | registerHiRead (got : BarRead)
  /-- R7: A write to a writable _LO is held until the matching _HI write. -/
  | registerLoWrite (offset : Nat) (v : Reg)
  /-- R7: A write to a writable _HI applies both halves, or the upper half alone. -/
  | registerHiWrite (offset : Nat) (v : Reg)
  /-- R8: A write to a register without a row of its own acts by the access codes, with short writes and reserved
  encodings discarded. -/
  | registerWrite (offset nbytes : Nat) (v : Reg)
  /-- R515: SMBus command 0x00 returns the alert, PRESS and SERVING bits. -/
  | smbStatusRead
  /-- R515: SMBus command 0x01 returns GLOBAL_TEMP.TEMP. -/
  | smbTempRead
  /-- R515: SMBus command 0x02 returns GLOBAL_TEMP.POWER. -/
  | smbPowerRead
  /-- R515: SMBus command 0x03 returns the power state. -/
  | smbPowerStateRead
  /-- R515: SMBus command 0x04 returns ROLE and PARTNER. -/
  | smbRoleRead
  /-- R515: SMBus command 0x05 returns the bring-up step and code. -/
  | smbBootRead
  /-- R515: SMBus command 0x06 returns GLOBAL_ALERT bits [15:0]. -/
  | smbAlertRead
  /-- R515: SMBus command 0x07 returns BAY_LATCHED bits [15:0]. -/
  | smbLatchedLoRead
  /-- R515: SMBus command 0x08 returns BAY_LATCHED bits [31:16]. -/
  | smbLatchedHiRead
  /-- R515: Any SMBus write is NACKed at the command byte. -/
  | smbWrite
  /-- R443: PFAIL_N rising before bring-up step 5 lets the held bring-up proceed to the pool part of recovery. -/
  | pfailNRise
  /-- R521: A supply returns above its monitor threshold, at power-up or after a droop, ending the hold in reset and,
  for VDD_IO, starting the always-on domain. -/
  | railMonitorRelease (rail : Nat)
  /-- R524: Release of MHI_PERST_N takes the MHI endpoint out of reset so that it retrains and answers configuration
  again. -/
  | mhiPerstNRelease
  /-- R445: A drive not ready within 20 s of its PERST# release is taken as ABSENT, and its absence timer starts at
  that deadline. -/
  | driveReadyTimeout (bay : Nat)
  /-- R172: A drive link lost with PRSNT asserted retrains within HARD_TIMEOUT, and the member keeps its state. -/
  | driveLinkRetrained (bay : Nat)
  /-- R169: A member's Dataset Management deallocate for freed rows becomes terminal, and once it is terminal on every
  member the rows may be reused. -/
  | memberDeallocateDone (mcid : Nat)
  /-- R107: The Format NVM that a joining drive receives completes, after which its label is written and rebuild
  starts. -/
  | memberFormatDone (bay : Nat)
  /-- R253: A RoCEv2 packet with a refused or reserved opcode (an atomic, an Immediate or Invalidate opcode, an RDMA
  Read Request from the host, or a Spray opcode on the wrong mode) is an invalid request that puts the queue pair in
  the error state. -/
  | recvRefusedOpcode (qpn opcode : Nat)
  /-- R316: A Follow_Up from a two-step master supplies the precise origin timestamp of its Sync, which completes an
  offset measurement. -/
  | ptpFollowUpReceive (port seq : Nat) (originNs : Int)
  /-- R280: A host-initiated connection manager disconnect tears down a queue pair, revokes its landing window,
  deletes its SQ with held capsules completed 08h, and ends the association if it is the admin queue. -/
  | hostDisconnect (qpn : Nat)
  /-- R504: A doorbell written while the mailbox is BUSY or not READY is ignored and sets REFUSED, and a doorbell with
  an unknown OP completes with STATUS 1. -/
  | globalMboxDoorbell (v : Reg)
  /-- R402: A Strait frame that fails its CRC or carries a reserved TYPE is answered with an LLNAK, and frames are
  dropped until the named LSEQ arrives good. -/
  | straitFrameCrcFail (lseq : Nat)
  deriving DecidableEq, Repr

end Sys2Proof
end

