-- ==== Sys2Proof/Machine/Tables.lean ====
section
/-! DEFINITION. Tables held in State: a table is a list of (number, record) pairs in rising order of number; an unlisted
number has no record. The named operations over them, and the sparse byte memory (00 R5, 18 R507), which is a table of
bytes that lists no byte equal to what an unlisted address reads as. -/

namespace Sys2Proof.Machine

/-- A table: records by number. -/
abbrev Table (α : Type) := List (Nat × α)

variable {α : Type}

/-- The record with number `k`, if listed. -/
def tget (t : Table α) (k : Nat) : Option α := t.lookup k

/-- Store `v` as record `k`, in its place of the rising order. -/
def tput : Table α → Nat → α → Table α
  | [], k, v => [(k, v)]
  | (j, w) :: r, k, v => if k < j then (k, v) :: (j, w) :: r else if k = j then (k, v) :: r else (j, w) :: tput r k v

/-- Remove record `k`. -/
def terase (t : Table α) (k : Nat) : Table α := t.filter (fun e => e.1 != k)

/-- Apply `f` to record `k`; a table without `k` is unchanged. -/
def tmod (t : Table α) (k : Nat) (f : α → α) : Table α := t.map (fun e => if e.1 = k then (e.1, f e.2) else e)

/-- Apply `f` to every record. -/
def tall (t : Table α) (f : α → α) : Table α := t.map (fun e => (e.1, f e.2))

/-- Is record `k` listed? -/
def thas (t : Table α) (k : Nat) : Bool := t.any (fun e => e.1 == k)

/-- The lowest number from `from` up, below `from + n`, that the table does not list. -/
def tfree (t : Table α) (start : Nat) : Nat → Option Nat
  | 0 => none
  | n + 1 => if thas t start then tfree t (start + 1) n else some start

/-- Sum of a natural number over a table's records. -/
def tsum (t : Table α) (f : α → Nat) : Nat := t.foldl (fun a e => a + f e.2) 0

/-- Sum of a natural number over a list. -/
def lsum {β : Type} (l : List β) (f : β → Nat) : Nat := l.foldl (fun a e => a + f e) 0

/-- Element `i` of a list, or `d` past its end. -/
def nth {β : Type} (l : List β) (i : Nat) (d : β) : β := l.getD i d

/-- Replace element `i` of a list. -/
def setNth {β : Type} : List β → Nat → β → List β
  | [], _, _ => []
  | _ :: r, 0, v => v :: r
  | x :: r, i + 1, v => x :: setNth r i v

/-- Apply `f` to element `i` of a list. -/
def modNth {β : Type} : List β → Nat → (β → β) → List β
  | [], _, _ => []
  | x :: r, 0, f => f x :: r
  | x :: r, i + 1, f => x :: modNth r i f

/-- The numbers `a`, `a + 1`, … (n of them). -/
def run (a : Nat) : Nat → List Nat
  | 0 => []
  | n + 1 => a :: run (a + 1) n

/-! ## Sparse memory -/

/-- Byte memory over the device address space (18 R507): (address, byte) pairs, addresses strictly rising, no byte
listed that an unlisted address reads as. -/
abbrev Memory := List (Nat × Byte)

/-- First device address of the flash (18 R507). -/
def flashBase : Nat := 0x0000000200000000

/-- What a byte that nothing has written reads as (log entry 5): erased flash reads 0xFF; the Tide Pool, which ships
zero (R75), and HBM read 0. -/
def unlistedByte (a : Nat) : Byte := if flashBase ≤ a ∧ a < flashBase + 0x20000000 then 0xFF#8 else 0#8

/-- The byte at an address. -/
def mget (m : Memory) (a : Nat) : Byte := (m.lookup a).getD (unlistedByte a)

/-- Store one byte, keeping the canonical form. -/
def mput : Memory → Nat → Byte → Memory
  | [], a, b => if b = unlistedByte a then [] else [(a, b)]
  | (j, w) :: r, a, b =>
    if a < j then (if b = unlistedByte a then (j, w) :: r else (a, b) :: (j, w) :: r)
    else if a = j then (if b = unlistedByte a then r else (a, b) :: r)
    else (j, w) :: mput r a b

/-- Store bytes at consecutive addresses from `a`. -/
def mputs (m : Memory) (a : Nat) : List Byte → Memory
  | [] => m
  | b :: r => mputs (mput m a b) (a + 1) r

/-- `n` bytes from address `a` up. -/
def mgets (m : Memory) (a n : Nat) : List Byte := (run a n).map (mget m)

/-- Return the addresses `a` to `a + n - 1` to what an unlisted address reads as: a flash erase, or the zeroing of Tide
Pool pages. -/
def mclear (m : Memory) (a n : Nat) : Memory := m.filter (fun e => decide (e.1 < a) || decide (a + n ≤ e.1))

/-- The canonical form from address `lo` up: addresses strictly rising, no byte listed that an unlisted one reads as. -/
def memFrom : Nat → Memory → Bool
  | _, [] => true
  | lo, (a, b) :: r => decide (lo ≤ a) && b != unlistedByte a && memFrom (a + 1) r

/-- The canonical form of a memory. -/
def Memory.wf (m : Memory) : Bool := memFrom 0 m

end Sys2Proof.Machine
end

