-- ==== Sys2Proof/Machine/Bytes.lean ====
section
/-! DEFINITION. Byte strings as numbers and the checks the spec names: little-endian fields (00 R5), CRC-32C (the CHECK
of records, 03 R68, 17 R473), the Tideline's CRC-8 (15 R452) and bit slices (00 R13). -/

namespace Sys2Proof.Machine

/-- The little-endian number of a byte list (R5). -/
def leNum : List Byte → Nat
  | [] => 0
  | b :: r => b.toNat + 256 * leNum r

/-- The `n` little-endian bytes of a number (R5). -/
def leBytes (x : Nat) : Nat → List Byte
  | 0 => []
  | n + 1 => BitVec.ofNat 8 x :: leBytes (x / 256) n

/-- The big-endian number of a byte list. -/
def beNum (l : List Byte) : Nat := leNum l.reverse

/-- The bit slice x[m:l] (R5, R13). -/
def bits (x m l : Nat) : Nat := (x / 2 ^ l) % 2 ^ (m + 1 - l)

/-- Bit `i` of a number. -/
def bit (x i : Nat) : Bool := x.testBit i

/-- 1 for true, 0 for false. -/
def b2n (b : Bool) : Nat := if b then 1 else 0

/-- A 32-bit register value of a number. -/
def reg (x : Nat) : Reg := BitVec.ofNat 32 x

/-- One byte of a reflected CRC-32C (polynomial 0x1EDC6F41, reflected 0x82F63B78), eight shifts. -/
def crc32cByte (c : BitVec 32) (b : Byte) : BitVec 32 :=
  let step := fun (x : BitVec 32) => if x.getLsbD 0 then (x >>> 1) ^^^ 0x82F63B78#32 else x >>> 1
  let c := c ^^^ (b.setWidth 32)
  step (step (step (step (step (step (step (step c)))))))

/-- CRC-32C of a byte string. -/
def crc32c (l : List Byte) : BitVec 32 := ~~~ (l.foldl crc32cByte 0xFFFFFFFF#32)

/-- One byte of the Tideline CRC-8, polynomial x^8 + x^2 + x + 1 (0x07), most significant bit first, initial value 0. -/
def crc8Byte (c : BitVec 8) (b : Byte) : BitVec 8 :=
  let step := fun (x : BitVec 8) => if x.getLsbD 7 then (x <<< 1) ^^^ 0x07#8 else x <<< 1
  let c := c ^^^ b
  step (step (step (step (step (step (step (step c)))))))

/-- CRC-8 of a byte string, first byte first. -/
def crc8 (l : List Byte) : BitVec 8 := l.foldl crc8Byte 0#8

/-- Division rounding up. -/
def ceilDiv (a b : Nat) : Nat := (a + b - 1) / b

/-- A counter of `w` bits that stops at its highest value. -/
def satAdd (w a b : Nat) : Nat := min (a + b) (2 ^ w - 1)

/-- Indexes, from 0, of the bits set in the low `n` bits of a number. -/
def bitList (x n : Nat) : List Nat := (List.range n).filter (fun i => x.testBit i)

/-- Set bit `i` of a bit vector. -/
def setBit {w : Nat} (v : BitVec w) (i : Nat) : BitVec w := v ||| BitVec.ofNat w (2 ^ i)

/-- Clear bit `i` of a bit vector. -/
def clearBit {w : Nat} (v : BitVec w) (i : Nat) : BitVec w := v &&& ~~~ (BitVec.ofNat w (2 ^ i))

end Sys2Proof.Machine
end

