-- ==== Sys2Proof/Config.lean ====
section
/-! DEFINITION. What the spec leaves to the implementation or to chance: free values (log entry 3) and the results
of cryptographic algorithms and measurements that the model does not compute (log entry 4). Every constant here is
opaque: no proof can use a value of it. -/

namespace Sys2Proof.Config

/-- The n-th draw of the DRBG (R170 LABEL_GEN, R255 b, R266, R393 SHELF_ID, R453 CLAIM and QUERY values, keys of R374).
A free value: the counter of State supplies n (log entry 3). -/
opaque drbg (n : Nat) : Nat

/-- The n-th value that the spec leaves open where the machine goes on (log entry 3). -/
opaque freeValue (n : Nat) : Nat

/-- Event codes within the source for WARN events that R484 lists no code for: 0 a second flash device that is not used (R444), 1 a
PAIR_CTRL write that is ignored (R424), 2 service mode entered (R502). Opaque (log entry 3). -/
opaque unlistedCode (i : Nat) : Nat

/-- Which copy of the boot record a write of even SEQ goes to, as its parity (R447 leaves the first one open; log entry 3). -/
opaque bootCopy : Nat

/-- SHA-384 of a byte string, as a number with its first byte lowest (R27, R376, R505). Opaque (log entry 4). -/
opaque sha384 (bytes : List Byte) : Nat

/-- The firmware key hashes that Larnanum fuses at manufacture, by slot, and their revoke bits (R448). -/
opaque fwKeyHash (slot : Nat) : Option Nat

/-- The revoke bits of the firmware key-hash slots (R448). -/
opaque fwKeyRevoked : BitVec 4

/-- ECDSA P-384: does signature (r, s) over a digest verify under the public key X, Y (R27)? Opaque (log entry 4). -/
opaque ecdsaVerifies (pubKey : List Byte) (digest : Nat) (r s : List Byte) : Bool

/-- AES-256 of a 16-byte block under a key, both with the first byte lowest (R365). Opaque (log entry 4). -/
opaque aes256 (key block : Nat) : Nat

/-- XTS-AES-256 of a 4 KiB block under a key pair, with a data unit number (R368; IEEE 1619). Opaque (log entry 4). -/
opaque xts (key unit data : Nat) : Nat

/-- GCM-AES-256: the ciphertext of a 4 KiB block under a key and a 12-byte IV (R368; SP 800-38D). Opaque (log entry 4). -/
opaque gcmText (key : Nat) (iv : List Byte) (data : Nat) : Nat

/-- GCM-AES-256: the 128-bit tag, over additional data and a block (R368). Opaque (log entry 4). -/
opaque gcmTag (key : Nat) (iv aad : List Byte) (data : Nat) : Nat

/-- KW of a byte string under a key, 8 bytes longer (R365; SP 800-38F). Opaque (log entry 4). -/
opaque kwWrap (key : Nat) (plain : List Byte) : List Byte

/-- KW unwrap under a key: none where the integrity check fails (R373; SP 800-38F). Opaque (log entry 4). -/
opaque kwUnwrap (key : Nat) (wrapped : List Byte) : Option (List Byte)

/-- The 48-byte x-coordinate of the ECDH shared point of a public key and the device's sealing private key (R376; SP 800-56A).
Opaque (log entry 4). -/
opaque ecdhZ (ephemeral : List Byte) : List Byte

/-- Randomness of the key-wrap engine's countermeasures, by AES computation (R373). Opaque (log entry 4). -/
opaque kwRandom (n : Nat) : Nat

/-- The 64-bit guard of a plaintext block, as NVMe 64b Guard protection information (R105). Opaque (log entry 4). -/
opaque guard64 (data : Nat) : Nat

/-- Mask randomness of a cipher engine's DRBG instance, by engine, seed and request (R372). Opaque (log entry 4). -/
opaque engineMask (engine seed request : Nat) : Nat

/-- The AES state that a cipher engine holds after a block, from its key and data (R372). Opaque (log entry 4). -/
opaque engineState (key data : Nat) : Nat

/-- The public half of the device sealing key pair, 96 bytes (R375). Opaque (log entry 4). -/
opaque sealingKey : List Byte

/-- The best master clock algorithm's choice among Announce data sets (R316; IEEE 1588): is the first better than the
second? Opaque (log entry 4). -/
opaque bmcaBetter (a b : Nat) : Bool

/-- HBM device address of a half of a namespace's written-block log, which the spec does not place (R364). Opaque (log
entry 3). -/
opaque wblBase (nsid half : Nat) : Nat

/-- The entry index, 0 to 7, that a hash bucket gives a heat-table range (R432 leaves the hash open). -/
opaque heatHash (nsid range : Nat) : Nat

/-- The number of capsules and completions that a plain status value of the NVM Express Base Specification leaves to
the implementation, byte i of Identify data that R200 does not list (R200). -/
opaque identifyByte (cns i : Nat) : Byte

end Sys2Proof.Config
end

