-- ==== Sys2Proof/Machine/State.lean ====
section
/-! DEFINITION. The state of the WXL3240 as plain data: one record per block of the spec, gathered into `Dev`, and
`State` = the device, its byte memory and the queue of waiting commands. A field's default is its value at reset; log
entry 1 covers the fields to which the spec gives no reset value. -/

namespace Sys2Proof.Machine

/-! ## Event recorder and performance counters (17) -/

/-- An event record (R473). `esn` is 0 while the record waits for its ESN (R475); `payload` is 40 bytes, little-endian. -/
structure EventRec where
  esn : Nat := 0
  source : Nat
  code : Nat
  cls : Nat
  reclassed : Bool := false
  cove : Option Nat := none
  payload : Nat := 0
  deriving DecidableEq, Repr

/-- The event recorder (R475 to R482, R486). `slots` are the EVENTS slots; a slot whose record could not be read is `none`. -/
structure EventLog where
  /-- volatile buffer, oldest first (R478) -/
  buffer : List EventRec := []
  /-- events raised before bring-up step 5, without an ESN (R475) -/
  waiting : List EventRec := []
  /-- EVENTS slots in use, slot 0 first (R480) -/
  slots : List (Option EventRec) := []
  /-- the next ESN, none until bring-up step 5 sets it (R476) -/
  nextEsn : Option Nat := none
  /-- EVENT_LOST.COUNT (R486) -/
  lost : Nat := 0
  /-- EVENT_INT and EVENT_INT_EN (R486) -/
  int : BitVec 6 := 0
  intEn : BitVec 6 := 0
  /-- a clear asked for before step 5, with its requester, 0 MHI or 1 Cove 0 (R481) -/
  pendingClear : Option Nat := none
  /-- a flush asked for before step 5 (R481) -/
  pendingFlush : Bool := false
  deriving DecidableEq, Repr

/-- A performance counter (R487, R493): 48-bit count, overflow bit, PERF_CFG fields. -/
structure Counter where
  count : Nat := 0
  ovf : Bool := false
  enable : Bool := false
  lens : Nat := 0
  cls : Nat := 0
  event : Nat := 0
  deriving DecidableEq, Repr

/-- The performance counters (R487 to R493). Lens entries are 32-byte numbers; `lensHeld` are entries whose byte 31 has
not been written yet (R488). -/
structure Perf where
  counters : Table Counter := []
  /-- PERF_STAMP (R490) -/
  stamp : Nat := 0
  lens : Table Nat := []
  lensHeld : Table Nat := []
  deriving DecidableEq, Repr

/-! ## The Chart (02) -/

/-- CHART_STATUS.STATE (R62). -/
inductive ChartState where
  | idle | checking | staged | writing | switching
  deriving DecidableEq, Repr

/-- The Chart engine (R48 to R65). -/
structure ChartSt where
  /-- the values in force; none with no valid Chart (R49) -/
  inForce : Option Chart := none
  /-- the shadow values of a staged patch (R52) -/
  shadow : Option Chart := none
  state : ChartState := .idle
  /-- the operation under way is a STORE (R56) -/
  storing : Bool := false
  err : Nat := 0
  partnerStaged : Bool := false
  fallback : Bool := false
  slot0Valid : Bool := false
  slot1Valid : Bool := false
  runSlot : Nat := 0
  runSeq : Nat := 0
  stageLen : Nat := 0
  /-- length of the staged image that was last given to STAGE or STORE (R52, R56) -/
  imageLen : Nat := 0
  stageSeq : Nat := 0
  slot0Seq : Nat := 0xFFFFFFFF
  slot1Seq : Nat := 0xFFFFFFFF
  errSection : Nat := 0
  errField : Nat := 0
  errOffset : Nat := 0
  /-- CHART_INT (R65): bit 1 ERR, bit 0 DONE -/
  int : BitVec 2 := 0
  /-- a commit that waits for a pairing partner to stage (R57) -/
  commitWaits : Bool := false
  /-- commit groups not yet switched (R54) -/
  groupsLeft : List CommitGroup := []
  /-- a pair's switch waits for the instant the ACTIVE side named (R57) -/
  pairWait : Bool := false
  /-- what becomes of an image that the partner sends in the Chart exchange of 13 R406: 0 it is a patch to be staged (R57), 1 it is
  adopted by commit, 2 it is stored and this side restarts, 3 it is stored for a mixed pair -/
  adopt : Nat := 0
  /-- the image a partner sends in CONFIG KIND 7 chunks (R57, R404) -/
  partnerImage : List Byte := []
  /-- the image under way, STAGED or being written, is the partner's (R57, 13 R406) -/
  partnerHeld : Bool := false
  deriving DecidableEq, Repr

/-! ## The Tide Clock and scheduling (10) -/

/-- A time source (R315). -/
structure TimeSource where
  valid : Bool := false
  deriving DecidableEq, Repr

/-- What a PTP port has measured (R316): the masters heard, the Sync that waits for its Follow_Up, the delay request in
flight and the path delay. -/
structure PtpPort where
  masters : List Announce := []
  selected : Option Announce := none
  /-- sequence and receive time of a two-step Sync -/
  syncWait : Option (Nat × Int) := none
  /-- receive minus origin time of the last Sync -/
  syncDiff : Int := 0
  /-- sequence and transmit time of the last Delay_Req -/
  delayReq : Option (Nat × Int) := none
  pathDelay : Int := 0
  /-- the last offset measured on this port -/
  lastOff : Int := 0
  deriving DecidableEq, Repr

/-- The Tide Clock (R313 to R326). Offsets and frequencies are signed. -/
structure ClockSt where
  /-- elapsed time in sixteenths of a nanosecond (R313) -/
  elapsed16 : Nat := 0
  /-- fractional accumulator of the frequency adjustment, in 10^-9 sixteenths (R313) -/
  acc : Nat := 0
  tod : Tod := {}
  todValid : Bool := false
  /-- 0 LOCKED, 1 HOLDOVER, 2 FREE (R322) -/
  state : Nat := 2
  /-- 0 none, 1 PTP on PTP_PORT, 2 PTP on BACKUP_PORT, 3 PPS_IN, 4 Tideline (R322) -/
  source : Nat := 0
  steps : Nat := 0
  offsetNs : Int := 0
  freqPpb : Int := 0
  /-- frequency adjustments while LOCKED, newest first: elapsed time in ns from which each held (R320) -/
  freqHist : List (Nat × Int) := []
  lockCount : Nat := 0
  holdoverS : Nat := 0
  holdoverExceeded : Bool := false
  gmId : Nat := 0
  utcOffset : Int := 0
  utcValid : Bool := false
  ptp : TimeSource := {}
  ptpBackup : TimeSource := {}
  pps : TimeSource := {}
  tline : TimeSource := {}
  ptpA : PtpPort := {}
  ptpB : PtpPort := {}
  /-- edges in a row more than 1 µs off (R317) -/
  ppsMisses : Nat := 0
  ppsOut : Bool := false
  suspended : Bool := true
  /-- profile in force, and whether the table has run since PORST_N release (R326) -/
  profile : Nat := 0
  tableRan : Bool := false
  /-- occurrences (period k, entry) already executed (R324) -/
  executed : List (Nat × Nat) := []
  /-- a swap due that waits for the Chart engine (R324) -/
  swapWaiting : Bool := false
  deriving DecidableEq, Repr

/-- A frame waiting for a network link (R327). `kind`: 0 management, 1 acknowledgement, 2 data. `at` is the elapsed time
from which path pacing lets it leave (R271), `stamp` its epoch (R305), `body` what it carries. -/
structure TxFrame where
  kind : Nat
  qpn : Nat := 0
  cove : Nat := 0
  len : Nat
  enq : Nat := 0
  paceAt : Nat := 0
  stamp : Nat := 0
  opcode : Nat := 0
  psn : Nat := 0
  body : Nat := 0
  /-- path of a Spray queue pair (R266), and the UDP source port (R255, R266) -/
  path : Nat := 0
  srcPort : Nat := 0
  /-- a retransmission; asks for an acknowledgement at once (R258, R259) -/
  retx : Bool := false
  ackReq : Bool := false
  /-- place in the message, and the message's fragments (R259) -/
  frag : Nat := 0
  frags : Nat := 1
  /-- TX_TS: the clock when this transmission left (R259) -/
  txTs : Nat := 0
  deriving DecidableEq, Repr

/-- A Cove queue on a link (R327, R329): its class, frames oldest first, and its tags. -/
structure CoveQueue where
  cls : Nat
  frames : List TxFrame := []
  /-- the queue pair served last, for the round robin of R327 -/
  lastQpn : Nat := 0
  sTag : Nat := 0
  fTag : Nat := 0
  deriving DecidableEq, Repr

/-- A two-rate bucket pair in millibits or command units (R330, R335). -/
structure Buckets where
  cTok : Int
  pTok : Int
  last : Nat := 0
  deriving DecidableEq, Repr

/-- The scheduler of one network link (R327 to R330). `ack`, `vtime` by class; `coves` by 4,096 × class + Cove, `shapers`
by Cove. -/
structure LinkSched where
  mgmt : List TxFrame := []
  ack : Table (List TxFrame) := []
  coves : Table CoveQueue := []
  vtime : Table Nat := []
  /-- virtual time of the class choice of R328 step 3, and by class the start tag of its next frame -/
  classV : Nat := 0
  classF : Table Nat := []
  shapers : Table Buckets := []
  deriving DecidableEq, Repr

/-- The gates of a port (R332 to R334): the list in force, the entry in force, and a list that waits to take over. -/
structure PortGates where
  list : Option GateList := none
  entry : Nat := 0
  waiting : Option (Option GateList) := none
  /-- classes in their guard band before a closing -/
  guard : Nat := 0
  deriving DecidableEq, Repr

/-- A queue sampler (R337, R338). -/
structure Sampler where
  enable : Bool := false
  kind : Nat := 0
  link : Nat := 0
  cls : Nat := 0
  cove : Nat := 0
  intervalUs : Nat := 0
  samples : Nat := 0
  maxDepth : Nat := 0
  maxDelay : Nat := 0
  depth : List Nat := List.replicate 16 0
  delay : List Nat := List.replicate 16 0
  deriving DecidableEq, Repr

/-- Egress scheduling, gates, policers and samplers (R327 to R338). Links are numbered port × 4 + link (18 R505). -/
structure Sched where
  links : Table LinkSched := []
  gates : Table PortGates := []
  /-- command and byte policers by Cove (R335) -/
  cmdPolicer : Table Buckets := []
  bytePolicer : Table Buckets := []
  samplers : Table Sampler := []
  deriving DecidableEq, Repr

/-! ## Prism (09) -/

/-- A capture filter (R310), with its sample count. -/
structure CaptureFilter where
  enable : Bool := false
  ingress : Bool := false
  egress : Bool := false
  portMask : Nat := 0
  sampleN : Nat := 0
  qpn : Nat := 0
  qpnMask : Nat := 0
  opcode : Nat := 0
  opcodeMask : Nat := 0
  cove : Nat := 0
  coveMask : Nat := 0
  kinds : Nat := 0
  matched : Nat := 0
  taken : Nat := 0
  /-- matches since ENABLE of the ring or filter was last set (R309, R310) -/
  sampleCount : Nat := 0
  deriving DecidableEq, Repr

/-- The header capture ring (R309 to R312). `ring` holds the 192-byte records by place, as numbers. -/
structure CaptureSt where
  enable : Bool := false
  stopMode : Bool := false
  producer : Nat := 0
  dropped : Nat := 0
  missed : Nat := 0
  ring : Table Nat := []
  filters : Table CaptureFilter := []
  deriving DecidableEq, Repr

/-- Prism (R285 to R308): planes in service, PIN entries that differ from b mod 8, the table epoch and its in-flight
counts, and the table changes that wait for their epoch. -/
structure PrismSt where
  planes : List Nat := [0, 1, 2, 3, 4, 5, 6, 7]
  pin : Table Nat := []
  epoch : Nat := 0
  inflight : List Nat := [0, 0, 0, 0]
  changes : List TableChange := []
  /-- entries whose older version is still held, with the epoch of the newer one (R306) -/
  versions : List (TableChange × Nat) := []
  capture : CaptureSt := {}
  deriving DecidableEq, Repr

/-! ## Cells, queues and cipher engines (09 R285 to R302, 12 R366, R372) -/

/-- KIND of a cell (R288). -/
inductive CellKind where
  | data | control | capture
  deriving DecidableEq, Repr

/-- The header of a cell (R288) and the bucket of its flow (R290). `repl` lists the entries in use. -/
structure Cell where
  src : Nat
  repl : List Nat
  cls : Nat := 0
  kind : CellKind := .data
  first : Bool := true
  last : Bool := true
  poison : Bool := false
  epoch : Nat := 0
  fill : Nat := 255
  cove : Nat := 0
  gen : Nat := 0
  tag : Nat := 0
  offset : Nat := 0
  bucket : Nat := 0
  deriving DecidableEq, Repr

/-- A transfer unit in a queue of its ingress station (R286, R294): its next cell, the cells after that one, and FILL of the last. -/
structure CellRun where
  cell : Cell
  more : Nat := 0
  fill : Nat := 255
  deriving DecidableEq, Repr

/-- A plane's arbiter (R297): delivery slots since the last control cell; the class it serves and what is left of its quantum, in
cells; the station served last in each class; and the copies of a replicated cell still to be delivered. -/
structure PlaneArb where
  sinceControl : Nat := 15
  cls : Nat := 0
  left : Nat := 0
  stations : List Nat := [63, 63, 63, 63, 63, 63, 63, 63]
  copies : List (Nat × Cell) := []
  deriving DecidableEq, Repr

/-- A unit that a station joins by TAG and OFFSET (R291): FILL by cell index, the index of its last cell, and its poison. -/
structure CellJoin where
  station : Nat
  src : Nat
  tag : Nat
  got : Table Nat := []
  last : Option Nat := none
  poison : Bool := false
  deriving DecidableEq, Repr

/-- A unit in Prism (R306): its epoch, the outputs that have not consumed its last cell, and whether one poisoned cell has tainted it
(R301). -/
structure PrismUnit where
  src : Nat
  tag : Nat
  epoch : Nat
  outs : List Nat
  poison : Bool := false
  /-- a command unit's Cove and its generation at classification (11 R353) -/
  cmd : Option (Nat × Nat) := none
  deriving DecidableEq, Repr

/-- An inline cipher engine's countermeasures (12 R372): requests to its DRBG instance since the last seed and seeds taken, and the two
Boolean shares of its key schedule and of its AES state. -/
structure CipherEngine where
  requests : Nat := 0
  seeds : Nat := 0
  key : Nat × Nat := (0, 0)
  state : Nat × Nat := (0, 0)
  deriving DecidableEq, Repr

/-- Prism's queues (R294 to R297) and the cipher engines: virtual output queues by station and lane, egress buffers by output and plane,
arbiters by plane, tokens of the port rates of R287, and units being joined or still in Prism. -/
structure DataPath where
  voq : Table (List CellRun) := []
  egress : Table (List Cell) := []
  arbs : Table PlaneArb := []
  inTokens : Table Nat := []
  outTokens : Table Nat := []
  /-- a plane delivers every two clocks (R285) -/
  phase : Bool := false
  joins : List CellJoin := []
  units : List PrismUnit := []
  /-- cells discarded for want of an output (R299), and command units of an older Cove generation (11 R353) -/
  discarded : Nat := 0
  stale : Nat := 0
  /-- delivery slots of this 1 ms that served a cell, and those in which another class than HOUSEKEEPING_CLASS had an eligible cell and was
  not served (14 R426) -/
  deliveries : Nat := 0
  contended : Nat := 0
  /-- when each plane was last given a capture cell, as `elapsed16` (R312) -/
  captureAt : Table Nat := []
  engines : Table CipherEngine := []
  deriving DecidableEq, Repr

/-! ## Management interface and GLOBAL registers (18) -/

/-- The register path's unit under way (R512): its dwords still to return, or those gathered for a write. -/
inductive DpUnit where
  | none
  | reading (left : List Nat) (done : Nat)
  | writing (got : List Nat)
  deriving DecidableEq, Repr

/-- A mailbox result (R503): STATUS, DW0, NVME_STATUS and the output bytes. -/
structure MboxResult where
  status : Nat
  dw0 : Nat := 0
  nvme : Nat := 0
  bytes : List Byte := []
  deriving DecidableEq, Repr

/-- What the MHI endpoint's configuration space reports (00 R1, R494). -/
structure PciId where
  vendor : Nat := 0x1F3C
  device : Nat := 0x3240
  revision : Nat := 0xB1
  classCode : Nat := 0x018000
  subVendor : Nat := 0x1F3C
  subsystem : Nat := 0x3240
  /-- Max Payload Size supported, in bytes -/
  maxPayload : Nat := 512
  /-- sizes of BAR0 and BAR2 in bytes -/
  bar0 : Nat := 67108864
  bar2 : Nat := 65536
  deriving DecidableEq, Repr

/-- The MHI endpoint, the GLOBAL block, the mailbox registers and the Data Port (R494 to R514). -/
structure Mhi where
  /-- the endpoint's identification (00 R1, R494) -/
  pci : PciId := {}
  /-- GLOBAL_FW.VERSION (R500) -/
  fwVersion : Nat := 0
  service : Bool := false
  mboxDoneSeq : Nat := 0
  mboxRefused : Bool := false
  mboxReady : Bool := false
  mboxBusy : Bool := false
  /-- SEQ of the doorbell whose command runs (R504) -/
  mboxSeq : Nat := 0
  /-- the doorbell's command has not begun yet (R504) -/
  mboxPending : Bool := false
  /-- a result that the same step puts into the mailbox area (R503) -/
  mboxResult : Option MboxResult := none
  /-- OUT_MAX of the request that a doorbell started (R503) -/
  mboxRoom : Option Nat := none
  /-- GLOBAL_TEMP (R500) -/
  temp : Int := 0
  /-- average package power in mW -/
  power : Nat := 0
  int : BitVec 4 := 0
  intEn : BitVec 4 := 0
  /-- the GLOBAL_ALERT bits as last judged, so that a bit that sets raises GLOBAL_INT.ALERT (R500) -/
  alertSeen : BitVec 6 := 0
  /-- MHI_PERST_N (R523), and whether the endpoint and its configuration space are held in reset (R524) -/
  perstN : Bool := true
  inReset : Bool := false
  /-- between a RESTART and STEP 4 the other blocks read 0 (R501) -/
  restarting : Bool := false
  /-- MSI-X table dwords by index, and the pending-bit array (R495) -/
  msixTable : Table Nat := []
  msixPending : BitVec 64 := 0
  /-- unused latches of _HI registers, and held _LO writes, by BAR0 offset of the _HI register (R7) -/
  latches : Table Nat := []
  held : Table Nat := []
  dpAddr : Nat := 0
  dpSize : Nat := 0
  dpAutoInc : Bool := false
  dpBurst : Nat := 0
  dpCode : Nat := 0
  dpErr : Bool := false
  dpUnit : DpUnit := .none
  /-- the BAR2 burst buffer: its first address and bytes (R513) -/
  dpBuffer : Option (Nat × List Byte) := none
  /-- elapsed time in ns at which ACCESS_REFUSED was last logged (R514) -/
  lastRefused : Option Nat := none
  deriving DecidableEq, Repr

/-! ## Bring-up and flash (15), reset and monitors (19) -/

/-- A flash device as SFDP found it (R444). -/
structure FlashDev where
  present : Bool := false
  qualifies : Bool := false
  deriving DecidableEq, Repr

/-- What the settings and key areas of the flash held before the last write of a sector (R446, R450): address records, chain address and
shelf blobs. -/
structure FlashOld where
  addrs : Table NetAddr := []
  chain : Option Nat := none
  blob0 : List Byte := []
  blob1 : List Byte := []
  deriving DecidableEq, Repr

/-- Fuses and other one-way settings (02 R27, 15 R448, 18 R505): signer-key hashes by slot, their revoke bits, and the fused
security version. Not cleared by any reset. The firmware key hashes are fused at manufacture (`Config.fwKeyHash`). -/
structure Fuses where
  signer : Table Nat := []
  signerRevoked : BitVec 4 := 0
  svn : Nat := 0
  deriving DecidableEq, Repr

/-- Bring-up (R441 to R450), pins and monitors (19 R519 to R527). -/
structure Boot where
  /-- GLOBAL_BOOT.STEP, CODE and SERVING (R500) -/
  step : Nat := 1
  code : Nat := 0
  serving : Bool := false
  straps : Straps := { tliHead := false, pairSide := false, flashMode := false, bootSlot := false }
  fwSlot : Nat := 0
  /-- SVN of the running image (R448) -/
  fwSvn : Nat := 0
  /-- the strap-named step 1 has begun: PORST_N has been released -/
  started : Bool := false
  flash0 : FlashDev := {}
  flash1 : FlashDev := {}
  hbmFails : Nat := 0
  /-- replay waits for a KEK at its first step that needs a key (12 R378) -/
  replayHeld : Bool := false
  romRecovery : Bool := false
  /-- PORST_N, PFAIL_N and FENCE_IN levels -/
  porstN : Bool := false
  pfailN : Bool := true
  /-- the device is stopped by PFAIL_N and waits for PORST_N (R443) -/
  pfailStopped : Bool := false
  /-- FENCE_IN holds the device in reset (R411) -/
  fenceHold : Bool := false
  /-- a Tideline FENCE holds the device in reset (R457) -/
  tlineHold : Bool := false
  /-- a junction limit or a stop holds the device in reset until PORST_N (R527) -/
  junctionHold : Bool := false
  /-- a rail is below its monitor threshold (R521): rail numbers -/
  railsLow : List Nat := []
  /-- VDD_IO has come up and the always-on domain runs (R515, R521): the supplies are up at reset -/
  alwaysOn : Bool := true
  /-- the analog trip has stopped every core clock (R527) -/
  clocksStopped : Bool := false
  fuses : Fuses := {}
  /-- boot record fields in force (R447): NEXT_SLOT, ATTEMPTS, LAST_GOOD, SEQ, and whether a valid record exists -/
  recordValid : Bool := false
  nextSlot : Nat := 0
  attempts : Nat := 0
  lastGood : Nat := 0xFF
  recordSeq : Nat := 0
  /-- the 64 bytes of the copy written before that one (R447); none: not written yet -/
  recordOld : List Byte := []
  /-- contents of the sector pair written last, as its copy B held them until copy A was whole, and the copy that a loss of power tore
  (R446) -/
  flashOld : Option FlashOld := none
  torn : FlashTear := .none
  deriving DecidableEq, Repr

/-! ## The partner pair (13) -/

/-- PAIR_STATUS.ROLE (R422). -/
inductive Role where
  | active | standby | solo | fenced
  deriving DecidableEq, Repr

/-- What a swap has reached (R415). -/
inductive SwapStep where
  | none | selftest | draining | handover | acquiring
  deriving DecidableEq, Repr

/-- What a takeover or an entry into SOLO has reached (R410 to R413). -/
inductive TakeoverStep where
  | none
  /-- the Tideline query is out (R409) -/
  | querying
  /-- the 50 ms grace of R410 -/
  | grace
  /-- waits for a FENCE_ACK -/
  | fencing
  /-- waits to be fenced by an ALIVE partner (R410) -/
  | waitFence
  /-- the ACTIVE side waits for its FENCE_ACK before SOLO -/
  | soloFencing
  /-- Preempt and Abort under way (R413 step 4) -/
  | acquiring
  deriving DecidableEq, Repr

/-- Why a shelf record is being written (R392). -/
inductive RecordCause where
  | pairing | solo | takeover | swap | forced | start
  deriving DecidableEq, Repr

/-- A frame sent on the Strait (R398, R399): TYPE, POISON, SYNC, MSEQ, PAGE and the payload bytes. -/
structure StraitFrame where
  type : Nat
  poison : Bool := false
  sync : Bool := false
  lseq : Nat := 0
  mseq : Nat := 0
  page : Nat := 0
  payload : List Byte := []
  replays : Nat := 0
  deriving DecidableEq, Repr

/-- The partner pair (R390 to R425). -/
structure PairSt where
  role : Role := .solo
  /-- 0 absent, 1 pairing, 2 paired (R422) -/
  partner : Nat := 0
  /-- SIDE, from the strap (R390) -/
  side : Nat := 0
  /-- PAIR_EPOCH and SHELF_ID as ADMIN holds them (R392, R393) -/
  epoch : Nat := 0
  shelfId : Nat := 0
  /-- the shelf record on the members (R394) -/
  record : Option ShelfRecord := none
  /-- the record write is not yet durable: member writes are held (R392) -/
  recordPending : Bool := false
  /-- the role that starts when the pending record is durable, the record itself, and what it is written for -/
  recordRole : Option Role := none
  recordNext : Option ShelfRecord := none
  recordFor : RecordCause := .start
  foreignPool : Bool := false
  fenceReason : Nat := 0
  refuse : Nat := 0
  mixed : Bool := false
  selftestFail : Bool := false
  tidelinePartner : Bool := false
  fenceWired : Bool := false
  fenceOut : Bool := false
  /-- FENCE_TEST results: this side's pulse seen by the partner, the partner's seen here (R411) -/
  fenceSentSeen : Bool := false
  fencePulseSeen : Bool := false
  /-- this side fences its partner (R411): by wire or by Tideline -/
  fencingPartner : Bool := false
  straitUp : Bool := false
  lanes : Nat := 0
  replays : Nat := 0
  /-- PAIR_SWAP (R423) -/
  pauseMs : Nat := 0
  result : Nat := 0
  int : BitVec 6 := 0
  intEn : BitVec 6 := 0
  swap : SwapStep := .none
  /-- elapsed time at which the pause of a swap began -/
  swapStart : Nat := 0
  /-- a swap that was asked for waits until no Cove resets or freezes (11 R355) -/
  swapDeferred : Bool := false
  /-- the swap activates new firmware (R243) -/
  swapForFirmware : Bool := false
  takeover : TakeoverStep := .none
  /-- heartbeats missed in a row (R409) -/
  hbMissed : Nat := 0
  /-- this side's liveness counter (R403); `stalled` when it did not advance within the last 2 ms -/
  liveness : Nat := 0
  stalled : Bool := false
  /-- LSEQ: next to send, highest received good; an LLNAK is outstanding for the named LSEQ (R402) -/
  txLseq : Nat := 0
  rxLseq : Nat := 0
  nakFor : Option Nat := none
  replayBuffer : List StraitFrame := []
  /-- frames that wait for room in it -/
  sendWaits : List StraitFrame := []
  /-- MSEQ: last sent, last acknowledged, last applied here (R401) -/
  txMseq : Nat := 0
  ackMseq : Nat := 0
  rxMseq : Nat := 0
  /-- STAGE pages sent and not covered by a MACK, with their MSEQ (R423) -/
  mirrorPages : Table Nat := []
  /-- MSEQ of SYNC_END, while pairing's sync runs (R407) -/
  syncEnd : Option Nat := none
  /-- STAGE pages whose mirror frame came poisoned or with a tag that does not verify, and has not come good since (09 R302) -/
  poisoned : List Nat := []
  /-- pairing's SYNC_BEGIN has been sent or received -/
  syncing : Bool := false
  helloSent : Bool := false
  helloIn : Option Hello := none
  /-- the partner's pages are still to come before the grouping is final: the writer of R408 waits for SETTLE_END -/
  settleWait : Bool := false
  /-- the settlement of bring-up step 9 has begun and this eligible side waits for its partner (R408) -/
  partnerWait : Bool := false
  /-- this eligible side has sent its pages to the writer, and joins it (R408) -/
  joinWait : Bool := false
  /-- recovery runs on a side that was not stopped: a takeover or a forced start (R413, R419) -/
  liveRecovery : Bool := false
  deriving DecidableEq, Repr

/-! ## The Tide Pool and the Breakwater (03) -/

/-- POOL_STATUS.STATE (R96). -/
inductive PoolState where
  | off | recovering | replaying | ready | stopping | stopped | failed
  deriving DecidableEq, Repr

/-- The life of a STAGE page (R86). A page not listed is FREE. -/
inductive PageLife where
  /-- allocated, its data not yet all in -/
  | filling
  /-- the write has been handed to the MRAM die -/
  | writing
  | staged
  | sealed
  deriving DecidableEq, Repr

/-- A STAGE page in use: its state, the slot its tag uses, its tag and its 4,096 data bytes as a number (R68). -/
structure StagePage where
  life : PageLife
  slot : Nat := 0
  tag : Tag
  data : Nat := 0
  /-- the namespace key its block is encrypted under (12 R368) -/
  key : Nat := 0
  /-- an uncorrectable unit makes the data bad (R93) -/
  bad : Bool := false
  /-- retired for a correction: withdrawn at its release (R70) -/
  retiring : Bool := false
  deriving DecidableEq, Repr

/-- A pool anchor copy (R75). -/
structure Anchor where
  layout : PoolLayout
  writes : Nat
  deriving DecidableEq, Repr

/-- The ADMIN control block and stop marker (R73, R89, 13 R392). -/
structure ControlBlock where
  layout : PoolLayout
  pointer : Nat := 0
  bootCount : Nat := 0
  /-- stop marker: boot count, last ESN, STAGE allocation pointer -/
  stopMarker : Option (Nat × Nat × Nat) := none
  deriving DecidableEq, Repr

/-- The space a command's credits are charged to (R79). -/
inductive PoolSpace where
  | shared | reserve
  deriving DecidableEq, Repr

/-- The Tide Pool and the Breakwater (R67 to R100). -/
structure PoolSt where
  state : PoolState := .off
  layout : PoolLayout := {}
  layoutKept : Bool := false
  unclean : Bool := false
  floorsShort : Bool := false
  level : Nat := 0
  /-- STAGE pages in use, by page -/
  pages : Table StagePage := []
  /-- the slot that each page used last, where it is slot 1 (R68) -/
  lastSlot1 : List Nat := []
  anchorA : Option Anchor := none
  anchorB : Option Anchor := none
  control : Option ControlBlock := none
  /-- the control block decodes in neither copy (R91 step 2) -/
  controlBad : Bool := false
  /-- remap table: retired page to replacement (R70, R73) -/
  remap : Table Nat := []
  withdrawn : List Nat := []
  /-- pages retired in place for want of a SPARE page (R70) -/
  retiredInPlace : List Nat := []
  /-- STAGE allocation pointer and allocations since it was saved (R76) -/
  ptr : Nat := 0
  sinceSave : Nat := 0
  /-- repeats of failed writes that wait for a free page (R70): the failed pages, withdrawn, with their data still to be written -/
  repeatWaits : List Nat := []
  /-- blocks of Writes that came while withdrawn pages had left no page free: command, PAGE_INDEX and data, oldest first -/
  blockWaits : List (Nat × Nat × Nat) := []
  /-- shared-space pages held by Cove, and the RESERVE pages held (R79) -/
  held : Table Nat := []
  reserveHeld : Nat := 0
  /-- heads that wait for credits, in the order in which they began to wait: SQ keys (R80) -/
  waiting : List (Nat × Nat) := []
  peak : Nat := 0
  uncorr : Nat := 0
  corr2 : Nat := 0
  discarded : Nat := 0
  restriped : Nat := 0
  coveSel : Nat := 0
  int : BitVec 9 := 0
  intEn : BitVec 9 := 0
  /-- COVEIMG: slots in use, claimed for loading, held by a running import, invalid (R74, R93, 18 R505) -/
  imgUsed : List Nat := []
  imgClaimed : List Nat := []
  imgInvalid : List Nat := []
  /-- ASN high-water marks by NSID (05 R145) -/
  marks : Table Nat := []
  /-- SJOURNAL and MAPLOG pages that the pool part of recovery could not read (R93) -/
  journalBad : List Nat := []
  logBad : List Nat := []
  /-- commands kept by the grouping of recovery: (NSID, ASN) (R91 step 4) -/
  kept : List (Nat × Nat) := []
  deriving DecidableEq, Repr

/-! ## Stripes, the map and Ebb (04), admission and ordering (05) -/

/-- A 4 KiB block as stored: its metadata (R105) and its plaintext, with the namespace key it is encrypted under.
NSID 0 is a pad block, 0xFFFF_FFFB a record block, 0xFFFF_FFFC to 0xFFFF_FFFE map-class blocks (R123, R133). -/
structure Block where
  asn : Nat
  nsid : Nat
  lba : Nat
  guard : Nat := 0
  gcm : Nat := 0
  key : Nat := 0
  data : Nat := 0
  /-- GEO_GEN (R105): bits [31:24] geometry ID, [23:0] the low bits of the stripe generation; set at sealing (R116) -/
  geo : Nat := 0
  deriving DecidableEq, Repr

/-- A place in a Shoal: row and slot (R122). -/
structure Place where
  shoal : Nat
  row : Nat
  slot : Nat
  deriving DecidableEq, Repr

/-- A map entry (R122). A grain that the map does not list is UNMAPPED. -/
inductive MapEntry where
  | unmapped
  | mapped (p : Place)
  | zero
  | lost (p : Place)
  deriving DecidableEq, Repr

/-- The state of a stripe, journal and stripe table together (R114, R125). -/
inductive StripeLife where
  | opened | sealed | writing | durable | committed | abandoned
  deriving DecidableEq, Repr

/-- A grain placed in a stripe, from which commit writes its RUN, MOVE or MAPPAGE record (R126, R128): `src` is the
source of a MOVE, `cmd` the command whose pages it holds. -/
structure Placed where
  nsid : Nat
  grain : Nat
  slot : Nat
  count : Nat
  asn : Nat
  src : Option Place := none
  cmd : Option Nat := none
  /-- kind of a map-class block: 0 map page, 1 directory segment, 2 stripe-table page -/
  mapClass : Option Nat := none
  deriving DecidableEq, Repr

/-- A stripe in its row: stripe-table entry, SJOURNAL entry and assembly copy or member content (R102, R114, R115, R125). -/
structure Stripe where
  shoal : Nat
  row : Nat
  geometry : Nat
  stream : Nat := 0
  gen : Nat := 0
  life : StripeLife := .opened
  housekeeping : Bool := false
  /-- 0 full, 1 timer, 2 geometry change (R115) -/
  sealCause : Nat := 0
  /-- sealed but waiting for an SJOURNAL entry (R111) -/
  sealWait : Bool := false
  /-- its SJOURNAL entry is in use (R114) -/
  inJournal : Bool := false
  slots : List (Option Block) := []
  placed : List Placed := []
  done : BitVec 32 := 0
  late : BitVec 32 := 0
  /-- positions whose strip write was issued, and those left out at its issue because they were missing (R175, R185) -/
  issued : BitVec 32 := 0
  omitted : BitVec 32 := 0
  /-- positions whose strip write has been outstanding for WRITE_SOFT (R175) -/
  overdue : BitVec 32 := 0
  /-- the P, Q and S strips of R103, extended strips as numbers, once the parity job has given them -/
  parity : List Nat := []
  mapSeq : Nat := 0
  /-- LIVE and the reader count (R125) -/
  live : Nat := 0
  readers : Nat := 0
  /-- the Cove that owns its first block, whose traffic class its cells take (09 R296) -/
  cove : Nat := 0
  /-- its SJOURNAL entry's index, while it has one (R115) -/
  jindex : Nat := 0
  /-- parity is complete (R114) -/
  parityDone : Bool := false
  deriving DecidableEq, Repr

/-- A MAPLOG record (R126): type 1 RUN, 2 UNMAP, 3 ZERO, 4 LOST, 5 STRIPE, 6 MOVE, 7 MAPPAGE, 8 ZERO_MASK. -/
structure LogRec where
  type : Nat
  seq : Nat
  flags : Nat := 0
  mask : Nat := 0
  nsid : Nat := 0
  /-- first grain of the run; GEN or page number for types 5 and 7 -/
  start : Nat := 0
  count : Nat := 0
  phys : Option Place := none
  asnLo : Nat := 0
  asnHi : Nat := 0
  src : Option Place := none
  deriving DecidableEq, Repr

/-- An overlay of a partly zeroed grain (R132). -/
structure Overlay where
  nsid : Nat
  grain : Nat
  mask : Nat
  asn : Nat
  deriving DecidableEq, Repr

/-- A change to the in-memory map that waits for lower reads (R153). -/
structure Deferred where
  nsid : Nat
  grain : Nat
  entry : MapEntry
  asn : Nat
  cmd : Option Nat := none
  deriving DecidableEq, Repr

/-- A record waiting to be copied into a record block (R133) is the record itself; see `recordQueue`. -/
structure ShoalSt where
  cfg : ShoalCfg
  /-- older geometries that still hold stripes (R140) -/
  olds : List ShoalCfg := []
  assembled : Bool := false
  rows : Nat := 0
  /-- generation counter and pad counter (R116, R111) -/
  gen : Nat := 0
  pads : Nat := 0
  /-- dirty regions marked, marks in flight to the keepers, cleared bits not yet written (R117 to R119) -/
  dirty : List Nat := []
  marking : List Nat := []
  clearing : List Nat := []
  /-- the next keeper has not yet received the whole bitmap (R118) -/
  keeperBehind : Bool := false
  /-- sequence of the last keeper copy written (R139) -/
  keeperSeq : Nat := 0
  /-- rows rebuilt or resynced since the labels last took CURSOR and the regions (06 R182, R186) -/
  rowsSince : Nat := 0
  /-- row pointer from which the next stripe takes a FREE row -/
  nextRow : Nat := 0
  /-- Ebb cursors of steps 1 and 3 (R134) -/
  cursor1 : Nat := 0
  cursor3 : Nat := 0
  evacPaused : Bool := false
  deriving DecidableEq, Repr

/-- A checkpoint under way (R129): q, the map it will leave on the members, and its generation. -/
structure Checkpoint where
  q : Nat
  gen : Nat
  /-- map pages and stripe-table pages still to be placed, then directory segments: (kind, Shoal, number) -/
  todo : List (Nat × Nat × Nat) := []
  /-- the pages have been committed and the directory segments placed -/
  segments : Bool := false
  /-- the map and the stripe-table generations as the checkpoint leaves them on the members -/
  snap : Table MapEntry := []
  deriving DecidableEq, Repr

/-- A Shallows entry: a grain's blocks by physical address (R137). -/
structure Cached where
  place : Place
  blocks : Nat
  deriving DecidableEq, Repr

/-- Stripes, map, MAPLOG, Shallows (R101 to R141). Map tables are keyed by `gkey nsid grain`, rows by `rkey shoal row`. -/
structure StripeSt where
  shoals : Table ShoalSt := []
  /-- stripes by row; a row not listed is FREE -/
  rows : Table Stripe := []
  map : Table MapEntry := []
  /-- shadows (R127) -/
  shadow : Table Nat := []
  /-- namespaces of which this side knows only the entries that `map` lists: the rest stands on the members as the partner
  left it (13 R413, log entry 21) -/
  unknownNs : List Nat := []
  overlays : List Overlay := []
  deferred : List Deferred := []
  /-- map pages in the map cache, and page fetches under way (R124): global page numbers -/
  cached : List Nat := []
  fetching : List Nat := []
  /-- the map as the members hold it after the last checkpoint (R129) -/
  ckptMap : Table MapEntry := []
  /-- the directory: addresses of map-class blocks by kind × 2^62 + number (R123, R124) -/
  dir : Table Place := []
  /-- MAPLOG records, oldest first, the next SEQ, the tail SEQ and the checkpoint generation (R126) -/
  log : List LogRec := []
  nextSeq : Nat := 1
  tailSeq : Nat := 1
  /-- the SEQ whose record stands at the start of the ring (02 R50) -/
  logBase : Nat := 0
  ckptGen : Nat := 0
  ckptShoalGen : Table Nat := []
  ckpt : Option Checkpoint := none
  /-- stripe-table pages, by Shoal and number, and directory segments changed since the last checkpoint began (R129) -/
  tableDirty : List (Nat × Nat) := []
  segDirty : List Nat := []
  /-- records waiting to be copied into a record block (R133), by Shoal -/
  recordQueue : List LogRec := []
  /-- Shallows entries, least recently used first, and the size in force in MiB (R137) -/
  shallows : List Cached := []
  shallowsMiB : Nat := 0
  deriving DecidableEq, Repr

/-- What an admitted command is (R143). -/
inductive CmdKind where
  | write | writeZeroes | dealloc | dsm | read | compare | verify | flush | flushAll
  deriving DecidableEq, Repr

/-- Where a block of a read stands (R151, R152): not resolved, waiting for a member read, or a value. -/
inductive BlockSource where
  | waiting
  | member (p : Place)
  | value (v : Nat)
  | lost
  | authFail
  deriving DecidableEq, Repr

/-- An admitted command, with its overlap-tracker record (R149, R150). -/
structure Cmd where
  kind : CmdKind
  cntlid : Nat
  sqid : Nat
  cid : Nat
  cove : Nat
  nsid : Nat
  asn : Nat := 0
  /-- blocks the command names; a deallocate's ranges, cut to whole grains (R143) -/
  ranges : List Range := []
  inTracker : Bool := false
  sgl : Sgl := .none
  qpn : Nat := 0
  /-- its namespace's key at admission, under which its blocks are encrypted (12 R368) -/
  key : Nat := 0
  /-- pages by PAGE_INDEX, credits and the space they are charged to (R78, R79) -/
  pages : List (Option Nat) := []
  /-- its pages have been released after commit (R87), and the highest MSEQ of their PAGE frames (R17) -/
  released : Bool := false
  lastMseq : Nat := 0
  credits : Nat := 0
  space : PoolSpace := .shared
  /-- bytes of data received so far -/
  received : Nat := 0
  /-- blocks of its data that have arrived in part: bytes and value by block index (R275) -/
  part : Table (Nat × Nat) := []
  /-- landing window slots whose data it takes (08 R278): first slot and number -/
  landing : Nat × Nat := (0, 0)
  /-- compare data, by block index -/
  compareData : Table Nat := []
  completed : Bool := false
  /-- completed successfully or ended absent (R150) -/
  settled : Bool := false
  absent : Bool := false
  /-- its completion is withheld (R239) -/
  silent : Bool := false
  /-- read blocks, in LBA order -/
  blocks : List BlockSource := []
  /-- the read's data has been handed to the transport -/
  sent : Bool := false
  /-- host-directed transform: mode, key and IV (R211, R370) -/
  transform : Option (Nat × Nat × Nat) := none
  keySlot : Option Nat := none
  /-- the owner tag stored beside that key: Cove and slot (12 R388) -/
  keyOwner : Option (Nat × Nat) := none
  /-- every page is STAGED and assembly has begun (R110), in this stream -/
  assembled : Bool := false
  stream : Nat := 0
  /-- grains not yet placed in a stripe, and grains whose stripes are not yet COMMITTED -/
  toPlace : List Nat := []
  uncommitted : List Nat := []
  /-- MAPLOG records of this command are written (R131, R132) -/
  logged : Bool := false
  /-- a Flush's bounds: (NSID, counter) pairs (R159, R160) -/
  bounds : List (Nat × Nat) := []
  /-- status decided for a read whose data is still on its way to the host (11 R352) -/
  fail : Option Status := none
  deriving DecidableEq, Repr

/-- The admission stage: commands admitted and not gone, by tag (R142 to R163). -/
structure AdmSt where
  cmds : Table Cmd := []
  nextTag : Nat := 0
  deriving DecidableEq, Repr

/-! ## Members (06) -/

/-- A member's state (R164, R170). -/
inductive MemberState where
  | online | slow | absent | failed | rebuilding | resyncing | evacuating | spare
  deriving DecidableEq, Repr

/-- A roster entry of the label (R170). -/
structure RosterEntry where
  bay : Nat
  state : MemberState
  labelGen : Nat := 0
  serial : Nat := 0
  deriving DecidableEq, Repr

/-- A substitution record (R184): kind 1 spare strip, 2 drive; state 1 running, 2 complete, 3 copy-back. -/
structure Subst where
  pos : Nat
  /-- its place in the label's SUBST area, 0 to 3 -/
  idx : Nat := 0
  kind : Nat
  target : Nat
  state : Nat := 1
  g0 : Nat
  cursor : Nat := 0
  unplaced : Nat := 0
  /-- generations of the rows that could not be placed -/
  unplacedGens : List Nat := []
  /-- generations of the rows whose rebuilt strip is on its way to the target, and the highest taken so far (R186) -/
  building : List Nat := []
  reach : Nat := 0
  preempt : Bool := false
  deriving DecidableEq, Repr

/-- A resync slot (R181): G_R 0 while the member is ABSENT or SLOW. -/
structure Resync where
  pos : Nat
  /-- its place in the label's RESYNC area, 0 to 2 -/
  idx : Nat := 0
  gA : Nat
  gR : Nat := 0
  regions : List Nat := []
  /-- generations of the rows of marked regions already rewritten (R182) -/
  doneGens : List Nat := []
  /-- generations of the rows whose rewritten strip is on its way to the member (R182) -/
  building : List Nat := []
  deriving DecidableEq, Repr

/-- A Lost Range log entry (R194). -/
structure LostEntry where
  seq : Nat
  nsid : Nat := 0
  count : Nat := 0
  lba : Nat := 0
  asn : Nat := 0
  cause : Nat
  resolved : Bool := false
  dead : Bool := false
  filled : Bool := false
  superseded : Bool := false
  shoal : Nat := 0
  row : Nat := 0
  slot : Nat := 0
  timeS : Nat := 0
  timeNs : Nat := 0
  deriving DecidableEq, Repr

/-- The Shoal-wide label records (R170, R171, R181, R184, R194). -/
structure ShoalLabel where
  labelSeq : Nat := 0
  roster : Table RosterEntry := []
  subst : List Subst := []
  resync : List Resync := []
  patrolRow : Nat := 0
  patrolPasses : Nat := 0
  lostOverflow : Nat := 0
  rows : Nat := 0
  caps : Table Nat := []
  lost : List LostEntry := []
  lostSeq : Nat := 0
  deriving DecidableEq, Repr

/-- An action that waits for a dependent label change (R171). -/
inductive LabelWait where
  /-- issue the strip writes of a stripe after its resync marks (R177) -/
  | issue (shoal row : Nat)
  /-- clear the LATE bits of a position after its fold's marks (R177) -/
  | fold (shoal pos : Nat)
  /-- write the rebuilt or resynced strips of a row after the entries of its lost slots (R171, R189): resync of a position, or rebuild -/
  | rebuilt (shoal row : Nat) (resync : Option Nat)
  /-- complete a Lost Range Acknowledge: controller, CID, entries removed (R227) -/
  | ack (cntlid cid removed : Nat)
  deriving DecidableEq, Repr

/-- A label copy as a member holds it (R170): its Shoal, 0xFF for a SPARE member, the Shoal-wide records with their LABEL_SEQ, and
what it says of the drive that carries it. -/
structure LabelCopy where
  shoal : Nat
  label : ShoalLabel := {}
  shelfId : Nat := 0
  pos : Nat := 0xFF
  bay : Nat := 0
  state : MemberState := .spare
  serial : Nat := 0
  labelGen : Nat := 0
  deriving DecidableEq, Repr

/-- A bitmap keeper copy as a member holds it (04 R139): its Shoal, sequence and the regions marked. -/
structure KeeperCopy where
  shoal : Nat
  seq : Nat
  regions : List Nat := []
  deriving DecidableEq, Repr

/-- The phase of a member command under the retry rule (R173). A queued one waits for room in the member's queues (R166). -/
inductive MemberPhase where
  | queued | issued | aborting | resetting | reissued
  deriving DecidableEq, Repr

/-- What a member command does. -/
inductive MemberOp where
  | readBlock (p : Place)
  | writeStrip (shoal row pos : Nat)
  | rebuildWrite (shoal row pos : Nat)
  | deallocate (rows : List Nat)
  /-- Format NVM, to 4096 + 64 or to 4096 + 0 (04 R107) -/
  | format (ext : Bool)
  /-- a write of label copy A or B (R171) -/
  | labelWrite (copyB : Bool) (image : LabelCopy)
  /-- a write of a keeper copy (04 R139) -/
  | keeperWrite (image : KeeperCopy)
  /-- patrol's rewrite of a parity strip (R197) -/
  | parityWrite (shoal row pos : Nat)
  /-- Set Features Volatile Write Cache, disabled (R167) -/
  | cacheOff
  /-- a write of a configuration record: its LBA and bytes, the rest of the block zero (12 R382, 13 R394) -/
  | recordWrite (lba : Nat) (bytes : List Byte)
  /-- Reservation Register with Ignore Existing Key, under a Host Identifier and a key (13 R396) -/
  | register (host key : Nat)
  /-- Reservation Acquire, Write Exclusive, with this side's key; a Preempt names the partner's (13 R396) -/
  | acquire (preempt abort : Bool) (key partnerKey : Nat)
  | sanitize
  /-- Format NVM with SES 1, on a member that does not support Sanitize (07 R236 step 4) -/
  | eraseFormat
  | abort (mcid : Nat)
  | resetController
  deriving DecidableEq, Repr

/-- A member command in flight (R173). -/
structure MemberCmd where
  bay : Nat
  op : MemberOp
  phase : MemberPhase := .issued
  issuedAt : Nat := 0
  /-- reads that joined (04 R138), by command tag -/
  joined : List Nat := []
  /-- the block's own strip was missing at its issue: the read reconstructs it from the other strips (R178) -/
  recon : Bool := false
  /-- it has been reissued once (R173) -/
  again : Bool := false
  deriving DecidableEq, Repr

/-- What the device knows of the drive in a bay (R165 to R169). -/
structure Drive where
  serial : Nat
  capacity : Nat
  ext64 : Bool := true
  fua : Bool := false
  /-- metadata moves inside an extended data LBA, else in a separate buffer (R167) -/
  extInline : Bool := true
  /-- rate of the link in GT/s, lanes of its root port, Max Payload Size and Max Read Request Size; ASPM is off (R165) -/
  gts : Nat := 64
  lanes : Nat := 2
  mps : Nat := 512
  mrrs : Nat := 4096
  /-- supports NVMe Sanitize, and its estimate for a block erase in seconds (07 R236, R238) -/
  sanitizes : Bool := true
  eraseSeconds : Option Nat := none
  labelGen : Nat := 0
  /-- formatting to the Shoal's LBA format (R107) -/
  formatting : Bool := false
  linkUp : Bool := true
  /-- registered as a reservation host, holder (13 R396) -/
  registered : Bool := false
  holder : Bool := false
  /-- elapsed times of transient faults, media count, SMART critical warning bits (R169, R173, R174) -/
  transients : List Nat := []
  mediaCount : Nat := 0
  warning : Nat := 0
  /-- consecutive 100 ms intervals over and under the slow threshold (R172) -/
  past : Nat := 0
  under : Nat := 0
  /-- class A p99 of the last 10 minutes by 100 ms interval, newest first (14 R426) -/
  lats : List Nat := []
  /-- elapsed time since which it has been SLOW, and its earlier spells of SLOW (14 R434) -/
  slowFrom : Option Nat := none
  slowSpans : List (Nat × Nat) := []
  deriving DecidableEq, Repr

/-- The member manager (R164 to R198). -/
structure ShelfSt where
  labels : Table ShoalLabel := []
  /-- the labels as the members hold them (R171) -/
  onMembers : Table ShoalLabel := []
  /-- elapsed times at which positions became ABSENT, and were folded, by Shoal × 64 + position (R180) -/
  absentAt : Table Nat := []
  foldedAt : Table Nat := []
  /-- drives by bay, as last enumerated -/
  drives : Table Drive := []
  /-- bays of SPARE members -/
  spares : List Nat := []
  cmds : Table MemberCmd := []
  nextMcid : Nat := 0
  /-- what is left to serve of each class in the ratio of R168, by bay -/
  shares : Table (List Nat) := []
  /-- label copies as the members hold them, A and B, by 2 × bay + copy (R171), and bays whose next label write waits for the one
  under way -/
  labelCopies : Table LabelCopy := []
  labelAgain : List Nat := []
  /-- bitmap keeper copies as the members hold them, by 2 × bay + copy (04 R139) -/
  keeperCopies : Table KeeperCopy := []
  /-- configuration records as the members hold them, by 65,536 × bay + LBA (12 R382, 13 R394) -/
  records : Table (List Byte) := []
  /-- member writes that wait for a shelf record (13 R392): bay and write -/
  heldOps : List (Nat × MemberOp) := []
  /-- folds that wait for a free resync slot (R177): (Shoal, position) -/
  foldWaits : List (Nat × Nat) := []
  /-- label changes not yet on every ONLINE member, by Shoal, and the actions that wait for a dependent one (R171) -/
  labelDirty : List Nat := []
  labelWaits : List LabelWait := []
  /-- slots of the lost-slot table: (place, entry sequence) (R190) -/
  lostSlots : List (Place × Nat) := []
  /-- unrecoverable slots for which the log or the table had no room, with their CAUSE: the map scan alone carries them (R195) -/
  scanOnly : List (Place × Nat) := []
  /-- map pages that the scan has passed since a listed slot entered (R190) -/
  scanPassed : List (Place × List Nat) := []
  /-- rows FREE whose deallocate is not yet terminal on every member (R169): row key and bays left -/
  deallocs : Table (List Nat) := []
  /-- stripes waiting for patrol's repair while PRESS lasts (R197): row keys -/
  repairs : List Nat := []
  /-- substitutions that wait for a free record or target (R183): (Shoal, position) -/
  substWaits : List (Nat × Nat) := []
  deriving DecidableEq, Repr

/-! ## Host queues and commands (07) -/

/-- The I/O commands (R209). -/
inductive IoOp where
  | write | read | flush | compare | writeZeroes | dsm | verify
  | resvRegister | resvReport | resvAcquire | resvRelease
  deriving DecidableEq, Repr

/-- A capsule in its SQ, not yet admitted (R142, R214): whether it has passed the policer (R335) and the checks of R208,
and whether it holds an in-capsule buffer (R204). -/
structure HeldCapsule where
  op : IoOp
  cap : Capsule
  policed : Bool := false
  yellow : Bool := false
  buffer : Bool := false
  deriving DecidableEq, Repr

/-- A Queue Freeze log entry (R228). -/
structure FreezeEntry where
  cid : Nat
  status : Nat := 0
  cause : Nat
  nsid : Nat := 0
  nlb : Nat := 0
  asn : Nat := 0
  lba : Nat := 0
  repeats : Nat := 0
  esn : Nat := 0
  timeS : Nat := 0
  timeNs : Nat := 0
  deriving DecidableEq, Repr

/-- An I/O submission queue (R199, R202, R214): its capsules in order. `order` is its place in the order of freezing. -/
structure Sq where
  qpn : Nat
  size : Nat
  held : List HeldCapsule := []
  frozen : Bool := false
  entry : Option FreezeEntry := none
  order : Nat := 0
  deriving DecidableEq, Repr

/-- An Error Information entry (R225). -/
structure ErrorEntry where
  count : Nat
  sqid : Nat
  cid : Nat
  status : Nat
  lba : Nat
  nsid : Nat
  asn : Nat
  deriving DecidableEq, Repr

/-- An asynchronous event: type, information and log page (R216). -/
structure AsyncEvent where
  type : Nat
  info : Nat
  log : Nat
  deriving DecidableEq, Repr

/-- A controller: one host association (R199). -/
structure Ctrl where
  cove : Nat
  hostid : Nat
  adminQpn : Nat
  adminSize : Nat := 32
  binding : Nat := 0
  /-- HOSTNQN of the Connect data, recorded and not checked (11 R345) -/
  hostnqn : List Byte := []
  enabled : Bool := true
  ready : Bool := true
  /-- CSTS.PP (R244) and CSTS.SHST: 0 normal, 1 occurring, 2 complete (R240) -/
  pp : Bool := false
  shst : Nat := 0
  /-- the association is ending: waits for its admitted commands (R239) -/
  draining : Bool := false
  ended : Bool := false
  asnReport : Bool := false
  acre : Bool := false
  /-- keep-alive time in ms (R241) -/
  kato : Nat := 0
  aerConfig : Nat := 0
  nQueues : Nat := 0
  aers : List Nat := []
  pendingEvents : List AsyncEvent := []
  vendorMasked : Bool := false
  errors : List ErrorEntry := []
  errorCount : Nat := 0
  /-- reservation notifications not read: type and NSID; and the number posted (R224) -/
  resvNotices : List (Nat × Nat) := []
  resvCount : Nat := 0
  deriving DecidableEq, Repr

/-- Format progress STATE (R230). -/
inductive FormatState where
  | none | erasing | reclaiming | complete | deleting
  deriving DecidableEq, Repr

/-- A namespace (R201, R345) with its ASN counter (05) and format record (R230). -/
structure Ns where
  nsze : Nat
  /-- 0 4 KiB, 1 16 KiB, 2 64 KiB -/
  grain : Nat
  shoal : Nat
  auth : Bool
  pageBase : Nat
  keyGen : Nat := 1
  keyAvailable : Bool := true
  /-- Coves to whose controllers it is attached (R199) -/
  coves : List Nat := []
  writeProtect : Nat := 0
  nextAsn : Nat := 1
  /-- the next ASN must be written as a mark first (R146, R147) -/
  mustMark : Bool := false
  /-- a mark write is under way (R146) -/
  marking : Bool := false
  resumes : Nat := 0
  fmt : FormatState := .none
  percent : Nat := 0
  startS : Nat := 0
  cursor : Nat := 0
  /-- the old map entries that the walk of R234 step 6 has still to visit -/
  oldMap : Table MapEntry := []
  /-- the create waits for its key record (R380) -/
  creating : Bool := false
  deriving DecidableEq, Repr

/-- The sanitise progress record (R237). -/
structure SanRecord where
  /-- 0 idle, 1 running, 2 completed, 3 failed -/
  state : Nat := 0
  sanact : Nat := 0
  step : Nat := 0
  percent : Nat := 0
  cdw10 : Nat := 0
  membersDone : BitVec 32 := 0
  startS : Nat := 0
  deriving DecidableEq, Repr

/-- An admin or mailbox command whose completion waits (R205): controller 0 is the MHI. -/
structure AdminWait where
  cntlid : Nat
  cid : Nat
  /-- 0 NAMESPACE_CREATE, 1 NAMESPACE_DELETE, 2 FORMAT, 3 COVE freeze, 4 COVE reset, 5 FIRMWARE_COMMIT, 6 COVE export,
  7 COVE_DELETE, 8 SHELFKEY_ROTATE, 9 TLINE_REENUM, 10 reservation -/
  kind : Nat
  subject : Nat := 0
  arg : Nat := 0
  /-- the MSEQ that is to be acknowledged first, and whether the members hold the record (13 R395) -/
  mseq : Nat := 0
  stands : Bool := false
  deriving DecidableEq, Repr

/-- Host queues and commands (R199 to R245). Reservation records by NSID; SQs by `sqKey cntlid sqid`. -/
structure HostSt where
  ctrls : Table Ctrl := []
  sqs : Table Sq := []
  freezeOrder : Nat := 0
  nss : Table Ns := []
  resv : Table ResvRecord := []
  waits : List AdminWait := []
  /-- power state in force, the last operational one, and a PS3 request that waits (R231 to R233) -/
  power : Nat := 0
  lastOperational : Nat := 0
  ps3Wanted : Bool := false
  san : SanRecord := {}
  /-- formats under way waiting for a drain: NSIDs (R234 step 1) -/
  formatDrain : List Nat := []
  sanDrain : Bool := false
  /-- admission is stopped on every queue, capsules held: activation or swap pause (R244, 13 R415) -/
  admissionHeld : Bool := false
  /-- admission is open at all: step 10 of bring-up (15 R442) -/
  admissionOpen : Bool := false
  /-- ANA Change is reported (13 R413, R415) -/
  anaChange : Bool := false
  /-- changes of ANA state so far: the change count of log 0Ch (R221) -/
  anaChanges : Nat := 0
  /-- firmware image download buffer (R242), activation in progress: slot -/
  fwBuffer : Memory := []
  fwActivating : Option Nat := none
  /-- in-capsule data buffers in use (R203) -/
  buffersUsed : Nat := 0
  deriving DecidableEq, Repr

/-! ## The RDMA transport (08) -/

/-- A path of a queue pair (R266, R271): rate in KB/s, times in ns; `k` counts its replacements, `timeouts` those in a row,
`lastTx` is when its last packet leaves, `lowest` the lowest sample since the last refresh of base. -/
structure SprayPath where
  up : Bool := true
  rate : Nat := 0
  /-- a sample has been taken, so that srtt and base hold values -/
  sampled : Bool := false
  srtt : Nat := 0
  base : Nat := 0
  lowest : Option Nat := none
  lastChange : Nat := 0
  lastCut : Nat := 0
  timeouts : Nat := 0
  lastTx : Option Nat := none
  k : Nat := 0
  deriving DecidableEq, Repr

/-- A packet cut and not yet acknowledged: its path and the time and order of its last transmission (R268), how often it was
lost or met an RNR (R263). `msg` names the transfer it belongs to, `frag` its place in it. -/
structure SentPkt where
  psn : Nat
  path : Nat := 0
  /-- it has left at least once since it was last queued -/
  left : Bool := false
  at_ : Nat := 0
  order : Nat := 0
  losses : Nat := 0
  msg : Nat := 0
  frag : Nat := 0
  frags : Nat := 1
  len : Nat := 0
  opcode : Nat := 0
  /-- PSNs it takes: a standard read request takes one for each reply packet (R253) -/
  npsn : Nat := 1
  rnr : Nat := 0
  rnrWait : Bool := false
  deriving DecidableEq, Repr

/-- A transfer to the host over a queue pair: the read data or read request of a command, or a completion (R274, R275). -/
inductive QpMsg where
  | readData (tag : Nat)
  | readRequest (tag offset len : Nat)
  | completion (cid : Nat) (st : Status) (dw0 : Nat)
  deriving DecidableEq, Repr

/-- A landing window slot (R276 to R280): generation, who holds it, bytes landed. -/
structure LandSlot where
  gen : Nat := 0
  heldBy : Option Nat := none
  landed : List (Nat × Nat × Nat) := []
  deriving DecidableEq, Repr

/-- A landing window (R276). -/
structure Landing where
  base : Nat
  size : Nat
  rkey : Nat
  revoked : Bool := false
  slots : Table LandSlot := []
  deriving DecidableEq, Repr

/-- A queue pair (R250 to R284). -/
structure Qp where
  cntlid : Nat := 0
  sqid : Nat := 0
  cove : Nat := 0
  port : Nat := 0
  address : Nat := 0
  spray : Bool := false
  paths : List SprayPath := []
  tOff : Nat := 0
  landing : Option Landing := none
  mtu : Nat := 4096
  connected : Bool := true
  /-- transmit side: next PSN, window of sent packets, messages by number, message counter -/
  txPsn : Nat := 0
  sent : List SentPkt := []
  msgs : Table QpMsg := []
  nextMsg : Nat := 0
  /-- messages not yet wholly cut into packets: message and next fragment (R261) -/
  backlog : List (Nat × Nat) := []
  /-- reads that the host's responder resources allow (R255) -/
  reads : Nat := 16
  /-- the 14-bit draw of its UDP source port (R255, R266) -/
  portDraw : Nat := 0
  /-- the far end's queue pair number and IP address, named at connect (R258, R247) -/
  farQpn : Nat := 0
  farAddr : Nat := 0
  /-- elapsed time of the last CNP sent (R256), and the packet timed for a standard RTT sample (R270) -/
  cnpAt : Option Nat := none
  timed : Option (Nat × Nat) := none
  /-- the packet that the next SPRAY_ACK names: its PSN, path, TX_TS, CE and RETX (R263, R264) -/
  trigger : Nat × Nat × Nat × Bool × Bool := (0, 0, 0, false, false)
  /-- receive side: next expected PSN (standard), CUM_PSN and the received set beyond it (Spray) -/
  rxPsn : Nat := 0
  rxSet : List Nat := []
  /-- Spray Sends not yet delivered, by the PSN of their last fragment: operation and capsule (R267) -/
  rxMsgs : Table (Nat × Capsule) := []
  unacked : Nat := 0
  nakSent : Bool := false
  retries : Nat := 0
  rnrs : Nat := 0
  /-- packets sent so far: the order of transmissions (R268) -/
  txCount : Nat := 0
  error : Bool := false
  cause : Nat := 0
  disconnecting : Bool := false
  /-- its disconnect is complete and its context slots are released (R284) -/
  released : Bool := false
  deriving DecidableEq, Repr

/-- An address of the device (R249, 18 R505): the record and the link that holds it now. -/
structure AddrState where
  rec_ : NetAddr
  link : Nat
  deriving DecidableEq, Repr

/-- A network link (R246): its lanes, whether it came up by auto-negotiation and link training, and its rate in Gbit/s. -/
structure NetLink where
  up : Bool := false
  lanes : List Nat := []
  trained : Bool := false
  gbps : Nat := 0
  deriving DecidableEq, Repr

/-- The RDMA transport (R246 to R284). -/
structure NetSt where
  links : Table NetLink := []
  addrs : Table AddrState := []
  /-- address records kept in the flash settings (18 R505, 15 R450) -/
  persisted : Table NetAddr := []
  qps : Table Qp := []
  /-- context slots in use, of 262,144 (R250) -/
  contexts : Nat := 0
  /-- landing pool bytes in use (R276) -/
  landingUsed : Nat := 0
  drops : Nat := 0
  deriving DecidableEq, Repr

/-! ## Coves (11), cipher engines and keys (12) -/

/-- COVE_STATUS.STATE (R349). -/
inductive CoveState where
  | free | active | frozen | resetting | deleting
  deriving DecidableEq, Repr

/-- A Cove (R339 to R355). -/
structure CoveRec where
  state : CoveState := .active
  nqn : List Byte := []
  gen : Nat := 0
  int : BitVec 3 := 0
  intEn : BitVec 3 := 0
  imageSlot : Nat := 0xFF
  imageLen : Nat := 0
  counters : List Nat := List.replicate 16 0
  /-- a freeze under way, and what asked for it: 0 register, 1 Set Features, 2 export, 3 export joined by a freeze request -/
  freezing : Option Nat := none
  /-- an export asked for by COVE_CTRL waits for it (R357) -/
  exporting : Bool := false
  /-- a reset ends associations (R352), returns to FROZEN, and has passed its step 4 -/
  resetEnds : Bool := false
  resetToFrozen : Bool := false
  squashed : Bool := false
  /-- a reset that waits for the Cove to be FROZEN, with its mode (R355) -/
  resetWaits : Option Bool := none
  /-- its CAP was cut below the pages it holds: SETTLED is to be raised (R348) -/
  unsettled : Bool := false
  deriving DecidableEq, Repr

/-- A written-block log (R360 to R364): running, SWAP_ASN, live and retired halves as lists of set bits. -/
structure Wbl where
  running : Bool := false
  swapAsn : Nat := 0
  live : List Nat := []
  retired : List Nat := []
  retiredHalf : Nat := 1
  deriving DecidableEq, Repr

/-- Coves, bindings and written-block logs (R339 to R364). -/
structure CoveSt where
  tab : Table CoveRec := []
  /-- binding table by index (R344) -/
  bindings : Table Binding := []
  wbl : Table Wbl := []
  deriving DecidableEq, Repr

/-- A namespace key (R380 to R384): `rec` is its record in ADMIN and flash. -/
structure NsKey where
  rec_ : KeyRecord
  /-- WRAPPED of its record, 80 bytes (R381) -/
  wrapped : List Byte := []
  /-- the key itself, never readable from outside; out of the key store while the namespace's keyAvailable is false (R375, R384) -/
  key : Nat
  durable : Bool := false
  deriving DecidableEq, Repr

/-- An old key that waits for the last command admitted before its slot changed (R387): key, and the tags. -/
structure OldKey where
  cove : Nat
  slot : Nat
  tags : List Nat
  key : Nat := 0
  deriving DecidableEq, Repr

/-- The key-wrap engine (R373): AES computations so far, the positions of the last one's dummy rounds, the order in which it took the state
bytes, and the working registers, zero after each operation. -/
structure KwEngine where
  operations : Nat := 0
  dummies : List Nat := []
  order : Nat := 0
  working : Nat := 0
  deriving DecidableEq, Repr

/-- Cipher engines and keys (R365 to R389). -/
structure KeySt where
  /-- the KEK in force: its epoch and secret; none before one is formed -/
  kek : Option (Nat × Nat) := none
  kekCheck : Nat := 0
  /-- a rotation to the KEK of a higher epoch (R379): that epoch, whose secret stands in `extra` once its blob is loaded -/
  rotating : Option Nat := none
  kw : KwEngine := {}
  /-- seeds that the namespace key DRBG has taken from the source, one before each key (R374) -/
  seeds : Nat := 0
  entropyOk : Bool := true
  nsKeys : Table NsKey := []
  /-- Cove key slots by Cove × 16 + slot -/
  slots : Table SlotRecord := []
  oldKeys : List OldKey := []
  /-- writes to slots that wait for an old key (R387), and LAST_SLOT with LAST_RESULT by Cove (R386) -/
  slotPending : Table SlotRecord := []
  lastResult : Table (Nat × Nat) := []
  /-- staging bytes of the slots of the Cove pages, 128-byte numbers (R386) -/
  stage : Table Nat := []
  /-- secrets loaded for other epochs than the one in force (R379) -/
  extra : Table Nat := []
  /-- shelf blobs 0 and 1 in the key area of the flash; empty where none is stored (15 R450) -/
  blob0 : List Byte := []
  blob1 : List Byte := []
  /-- the rotation under way stores its blob (R379) -/
  rotatePersist : Bool := false
  /-- creates and rotations that wait for entropy (R374): NSIDs -/
  drawWaits : List Nat := []
  deriving DecidableEq, Repr

/-! ## The Lighthouse (14), the Tideline (15), bay power (16) -/

/-- A heat table entry (R432): reads in four 15 s buckets, writes in 15 s and 15 min buckets. -/
structure Heat where
  reads : List Nat := [0, 0, 0, 0]
  writes15s : List Nat := [0, 0, 0, 0]
  writes15m : List Nat := [0, 0, 0, 0]
  deriving DecidableEq, Repr

/-- The Lighthouse (R426 to R440). Rates are the chosen ones, in units of 2^-16 MB/s; the ceiling is in MB/s. -/
structure LightSt where
  stage : Nat := 0
  overSteps : Nat := 0
  underSteps : Nat := 0
  ceiling : Nat := 0
  rebuildRate : Nat := 0
  ebbRates : Table Nat := []
  borrow : Nat := 0
  /-- the chosen values stand at their fixed values until the first step (R436), and what the last step saw: MODE, the profile, the
  Chart's bounds, H in units of 2^-16 -/
  fresh : Bool := true
  lastMode : Nat := 0
  lastProfile : Nat := 0
  lastBounds : List Nat := []
  lastH : Nat := 0
  steps : Nat := 0
  suppressed : Nat := 0
  /-- last recorded reason, value and elapsed time by decision and target (R438) -/
  recorded : Table (Nat × Nat × Nat) := []
  heat : Table Heat := []
  /-- data bytes admitted lately, with their elapsed time, newest first (R435) -/
  admitted : List (Nat × Nat) := []
  deriving DecidableEq, Repr

/-- A roster entry of the chain (R459): low SHELF_ID bits and the elapsed time last seen, before 0 when it was seen before the
last start. -/
structure ChainSeen where
  shelf : Nat
  at_ : Int
  deriving DecidableEq, Repr

/-- The Tideline chain (R451 to R460). -/
structure TlineSt where
  addr : Option Nat := none
  stored : Option Nat := none
  head : Bool := false
  headConflict : Bool := false
  inUp : Bool := false
  outUp : Bool := false
  upstream : Option Nat := none
  downstream : Option Nat := none
  bad : Nat := 0
  dropped : Nat := 0
  reenums : Nat := 0
  roster : Table ChainSeen := []
  /-- a CLAIM out: value and candidate (R455) -/
  claim : Option (Nat × Nat) := none
  /-- the QUERY out: value, resent (R457) -/
  query : Option (Nat × Bool) := none
  /-- the SRC of the FENCE that holds this controller (R457) -/
  fencedBy : Option Nat := none
  /-- seconds of the coming boundary, and the origin accepted (R458) -/
  timeS : Option Nat := none
  timeOrigin : Option Nat := none
  timeHops : Nat := 0
  settled : Bool := false
  /-- frames that wait for a slot of TLI_IN and of TLI_OUT, the next one first (R454) -/
  inQ : List Word64 := []
  outQ : List Word64 := []
  /-- a NULL frame that tells the address is due in the next free slot of the link (R453, log entry 18) -/
  inNull : Bool := false
  outNull : Bool := false
  deriving DecidableEq, Repr

/-- A bay's power state (R463). -/
inductive BayState where
  | empty | insert | queued | ramping | on | retry | latched | fetFailed | off
  deriving DecidableEq, Repr

/-- A bay (R461 to R472). Voltages in mV, current in mA. -/
structure Bay where
  state : BayState := .empty
  cause : Nat := 0
  attempts : Nat := 0
  perst : Bool := true
  pg : Bool := false
  prsnt : Bool := false
  cmdOff : Bool := false
  /-- 0 the gate is down, 1 driven at RAMP, 2 fully enhanced (R464) -/
  gate : Nat := 0
  vin : Nat := 0
  vout : Nat := 0
  current : Nat := 0
  peak : Nat := 0
  /-- elapsed time at which it became QUEUED (R465) -/
  order : Nat := 0
  deriving DecidableEq, Repr

/-- Bay power (R461 to R472). -/
structure BaySt where
  bays : Table Bay := []
  int : BitVec 32 := 0
  intEn : BitVec 32 := 0
  change : BitVec 32 := 0
  changeEn : BitVec 32 := 0
  deriving DecidableEq, Repr

/-! ## The whole -/

/-- What the device sends or raises: the model's own output record (log entry 2), newest last. -/
inductive Out where
  /-- an MSI-X vector (18 R495) -/
  | msix (vector : Nat)
  /-- a completion on a controller's queue, with DW0 (SQ 0 is the admin queue) -/
  | completion (cntlid sqid cid : Nat) (st : Status) (dw0 : Nat)
  /-- data returned to the host with an admin command: little-endian bytes -/
  | adminData (cntlid cid : Nat) (bytes : List Byte)
  /-- a mailbox result: STATUS, DW0 and output bytes (18 R506) -/
  | mailbox (status dw0 : Nat) (bytes : List Byte)
  /-- an asynchronous event completing a request -/
  | asyncEvent (cntlid cid : Nat) (e : AsyncEvent)
  /-- a frame leaving on a network link -/
  | frame (link : Nat) (f : TxFrame) (stomped : Bool)
  /-- a command sent to a drive, with FUA where it is a write to a drive that needs it (06 R167) -/
  | member (bay mcid : Nat) (op : MemberOp) (fua : Bool)
  /-- a frame sent on the Strait -/
  | strait (f : StraitFrame)
  /-- a 2 µs test pulse on FENCE_OUT (13 R411) -/
  | fencePulse
  /-- a Tideline frame: true on TLI_OUT -/
  | tline (onOut : Bool) (w : Word64)
  /-- a connection request accepted, with the accept's private data (08 R252) -/
  | cmAccept (qpn : Nat) (priv : List Byte)
  | cmReject (qpn : Nat)
  | cmDisconnect (qpn : Nat)
  /-- the data of a read handed to a queue pair: blocks, as ciphertext never appears here -/
  | readData (cntlid sqid cid : Nat) (blocks : List Nat)
  /-- an SMBus NACK (18 R515) -/
  | smbNack
  deriving DecidableEq, Repr

/-- The device: every block's state, and the model's own output fields. -/
structure Dev where
  ev : EventLog := {}
  perf : Perf := {}
  chart : ChartSt := {}
  clk : ClockSt := {}
  sched : Sched := {}
  prism : PrismSt := {}
  mhi : Mhi := {}
  boot : Boot := {}
  pair : PairSt := {}
  pool : PoolSt := {}
  str : StripeSt := {}
  adm : AdmSt := {}
  shelf : ShelfSt := {}
  host : HostSt := {}
  net : NetSt := {}
  cove : CoveSt := {}
  keys : KeySt := {}
  light : LightSt := {}
  tline : TlineSt := {}
  bay : BaySt := {}
  path : DataPath := {}
  /-- what the device sent, newest last (log entry 2) -/
  out : List Out := []
  /-- what the last register, Data Port or SMBus read returned (log entry 2) -/
  readData : Nat := 0
  /-- bytes the last BAR2 read returned (log entry 2) -/
  readBytes : List Byte := []
  /-- draws and open values taken so far (log entry 3) -/
  draws : Nat := 0
  deriving DecidableEq, Repr

/-- The state of the model: the device, its byte memory and the commands that wait. -/
structure State where
  dev : Dev := {}
  mem : Memory := []
  pending : List Instr := []
  deriving DecidableEq, Repr

/-- The state right after reset, before PORST_N is released for the first time: every field at the default above. -/
def State.reset : State := {}

/-- No command of the block faults: every error the spec reports is an effect on State. -/
inductive Fault where
  deriving DecidableEq, Repr

/-- The reasons a step has no meaning. -/
inductive Refusal where
  /-- raised by an arm of exec whose command has no meaning in the model yet; safe: the machine stops -/
  | notModelled (mnemonic : String)
  deriving DecidableEq, Repr

/-- The outcome of a command. -/
abbrev Result := Host.Outcome State Fault Refusal


end Sys2Proof.Machine
end

