-- ==== Sys2Proof/Machine/Ops.lean ====
section
/-! DEFINITION. Shared operations on the device: a meaning that changes the device only, the output record, MSI-X vectors
(18 R495), the time readings (10 R313, R314), free values and table keys. -/

namespace Sys2Proof.Machine

/-- The outcome of a command that changes only the device. -/
def onDev (s : State) (f : Dev → Dev) : Result := .next { s with dev := f s.dev }

/-- The outcome of a command that changes the device and memory, from both. -/
def onBoth (s : State) (f : Dev → Memory → Dev × Memory) : Result :=
  .next { s with dev := (f s.dev s.mem).1, mem := (f s.dev s.mem).2 }

/-- The outcome of a command that changes the device and reads memory. -/
def onDevMem (s : State) (f : Dev → Memory → Dev) : Result := .next { s with dev := f s.dev s.mem }

/-- Record something the device sends (log entry 2). -/
def emit (o : Out) (d : Dev) : Dev := { d with out := d.out ++ [o] }

/-- A dword of the MSI-X table: each entry's vector control resets to masked (log entry 7). -/
def msixDword (d : Dev) (i : Nat) : Nat := (tget d.mhi.msixTable i).getD (if i % 4 = 3 then 1 else 0)

/-- Fire an MSI-X vector (R495): while its table entry is masked, the pending bit is set instead; an endpoint held in
reset sends nothing (log entry 7). -/
def fire (vec : Nat) (d : Dev) : Dev :=
  if d.mhi.inReset then d
  else if bit (msixDword d (4 * vec + 3)) 0 then
    { d with mhi.msixPending := setBit d.mhi.msixPending vec }
  else emit (.msix vec) d

/-- Fire a vector when a condition holds. -/
def fireIf (c : Bool) (vec : Nat) (d : Dev) : Dev := if c then fire vec d else d

/-- Elapsed time in nanoseconds (R313). -/
def elapsed (d : Dev) : Nat := d.clk.elapsed16 / 16

/-- Time of day in nanoseconds. -/
def todNs (d : Dev) : Nat := d.clk.tod.s * 1000000000 + d.clk.tod.ns

/-- A draw of the DRBG (log entry 3), with the counter advanced. -/
def draw (d : Dev) : Nat × Dev := (Config.drbg d.draws, { d with draws := d.draws + 1 })

/-- A value the spec leaves open (log entry 3), with the counter advanced. -/
def openValue (d : Dev) : Nat × Dev := (Config.freeValue d.draws, { d with draws := d.draws + 1 })

/-- Key of a grain in the map tables. -/
def gkey (nsid grain : Nat) : Nat := nsid * 2 ^ 40 + grain

/-- Key of a row in the stripe table. -/
def rkey (shoal row : Nat) : Nat := shoal * 2 ^ 31 + row

/-- Key of a submission queue. -/
def sqKey (cntlid sqid : Nat) : Nat := cntlid * 65536 + sqid

/-- The values a device runs on: the Chart in force, or the all-default Chart while none runs. -/
def defaultChart : Chart :=
  { sequence := 0
    ports := List.replicate 8 {}
    laneMode := 0
    driveGenCap := 0
    spareBays := 0
    shoals := [{ shoal := 0, geometryId := 1, width := 32, parity := 3, spareStrips := 1, streams := 8, metaMode := 0,
                 members := 0xFFFFFFFF, evacuating := 0 }]
    pool := {}
    hbm := {}
    template := {}
    coves := []
    classes := List.replicate 8 {}
    prismWeights := List.replicate 8 16
    housekeepingClass := 1
    gates := []
    clock := {}
    tide := { omitted := true, periodS := 86400, anchorS := 0, profiles := [], entries := [] }
    light := {}
    directedMask := 3
    events := []
    maxRamping := 4
    bayDefault := {}
    bays := []
    pair := {}
    storage := {} }

/-- The Chart values in force (R52, R54). -/
def chartOf (d : Dev) : Chart := d.chart.inForce.getD defaultChart

/-- A Cove's effective record: its own or the template (R36). -/
def coveCfg (d : Dev) (c : Nat) : CoveCfg :=
  ((chartOf d).coves.find? (fun r => r.cove == c)).getD (chartOf d).template

/-- PAIR_STATUS.ROLE as the register holds it (R422). -/
def roleNum : Role → Nat
  | .active => 0
  | .standby => 1
  | .solo => 2
  | .fenced => 3

/-- POOL_STATUS.STATE as the register holds it (R96). -/
def poolStateNum : PoolState → Nat
  | .off => 0
  | .recovering => 1
  | .replaying => 2
  | .ready => 3
  | .stopping => 4
  | .stopped => 5
  | .failed => 6

/-- GLOBAL_ALERT (R500): bit 5 KEY, 4 JUNCTION, 3 ENTROPY, 2 FENCED, 1 POOL_FAILED, 0 BRINGUP. -/
def alertBits (d : Dev) : BitVec 6 :=
  BitVec.ofNat 6
    (32 * b2n (d.host.nss.any (fun e => !e.2.keyAvailable))
      + 16 * b2n (decide (100 ≤ d.mhi.temp))
      + 8 * b2n (!d.keys.entropyOk)
      + 4 * b2n (decide (d.pair.role = .fenced))
      + 2 * b2n (decide (d.pool.state = .failed))
      + b2n (d.boot.code != 0 && d.boot.code != 3))

/-- What the settings and key areas of the flash hold (15 R450). -/
def flashHeld (d : Dev) : FlashOld :=
  { addrs := d.net.persisted, chain := d.tline.stored, blob0 := d.keys.blob0, blob1 := d.keys.blob1 }

/-- A sector of the settings or key areas is written from `old` on (15 R446): copy A, then copy B, which held the older contents. -/
def noteFlash (old d : Dev) : Dev :=
  if flashHeld old = flashHeld d then d else { d with boot.flashOld := some (flashHeld old) }

/-- The start's comparison of the copies (15 R446): where copy A was torn, copy B with the older contents is taken; where copy B was, copy
A is. The other copy is rewritten. -/
def flashRepair (d : Dev) : Dev :=
  match d.boot.torn, d.boot.flashOld with
  | .copyA, some o => { d with net.persisted := o.addrs, tline.stored := o.chain, keys.blob0 := o.blob0, keys.blob1 := o.blob1
                               boot.torn := .none, boot.flashOld := none }
  | _, _ => { d with boot.torn := .none, boot.flashOld := none }

/-- Set a GLOBAL_INT cause (R500), firing vector 0 when it sets anew and is enabled (R495). -/
def raiseGlobal (i : Nat) (d : Dev) : Dev :=
  if d.mhi.int.getLsbD i then d
  else fireIf (d.mhi.intEn.getLsbD i) 0 { d with mhi.int := setBit d.mhi.int i }

/-- Set a CHART_INT cause, always enabled (R65, R495). -/
def raiseChart (i : Nat) (d : Dev) : Dev :=
  if d.chart.int.getLsbD i then d else fire 1 { d with chart.int := setBit d.chart.int i }

/-- Set a POOL_INT cause (R100). -/
def raisePool (i : Nat) (d : Dev) : Dev :=
  if d.pool.int.getLsbD i then d
  else fireIf (d.pool.intEn.getLsbD i) 2 { d with pool.int := setBit d.pool.int i }

/-- Set a PAIR_INT cause (R425). -/
def raisePair (i : Nat) (d : Dev) : Dev :=
  if d.pair.int.getLsbD i then d
  else fireIf (d.pair.intEn.getLsbD i) 3 { d with pair.int := setBit d.pair.int i }

/-- Set a BAY_INT cause (R470). -/
def raiseBay (i : Nat) (d : Dev) : Dev :=
  if d.bay.int.getLsbD i then d
  else fireIf (d.bay.intEn.getLsbD i) 4 { d with bay.int := setBit d.bay.int i }

/-- Set a BAY_CHANGE cause (R470). -/
def raiseBayChange (i : Nat) (d : Dev) : Dev :=
  if d.bay.change.getLsbD i then d
  else fireIf (d.bay.changeEn.getLsbD i) 4 { d with bay.change := setBit d.bay.change i }

/-- Set an EVENT_INT cause (R486). -/
def raiseEvent (i : Nat) (d : Dev) : Dev :=
  if d.ev.int.getLsbD i then d
  else fireIf (d.ev.intEn.getLsbD i) 5 { d with ev.int := setBit d.ev.int i }

/-- Set a COVE_INT cause of a Cove page (R350). -/
def raiseCove (c i : Nat) (d : Dev) : Dev :=
  match tget d.cove.tab c with
  | none => d
  | some r =>
    if r.int.getLsbD i then d
    else fireIf (r.intEn.getLsbD i) 8 { d with cove.tab := tput d.cove.tab c { r with int := setBit r.int i } }

/-- A step of bring-up ends and the next is in progress: GLOBAL_INT.STEP (R500, 15 R442). -/
def setStep (n : Nat) (d : Dev) : Dev := if d.boot.step = n then d else raiseGlobal 3 { d with boot.step := n }

/-- Judge GLOBAL_ALERT anew: a bit that sets raises GLOBAL_INT.ALERT (R500). -/
def judgeAlert (d : Dev) : Dev :=
  let a := alertBits d
  let d' := { d with mhi.alertSeen := a }
  if a &&& ~~~ d.mhi.alertSeen = 0 then d' else raiseGlobal 1 d'

/-! ## Reset, and who answers the shelf manager (18 R496, R501, R502, 19 R523) -/

/-- Is the core held in reset (19 R523, 13 R411, 15 R457, 19 R521, R527)? -/
def coreHeld (d : Dev) : Bool :=
  !d.boot.porstN || d.boot.fenceHold || d.boot.tlineHold || d.boot.junctionHold || !d.boot.railsLow.isEmpty

/-- Is the device out of reset and not stopped? -/
def coreRuns (d : Dev) : Bool := !coreHeld d && !d.boot.clocksStopped && !d.boot.pfailStopped && d.pool.state != .stopped

/-- Does the MHI endpoint answer? -/
def mhiOpen (d : Dev) : Bool := !coreHeld d && !d.boot.clocksStopped && !d.mhi.inReset

/-- Are the blocks other than GLOBAL readable: not between a RESTART and STEP 4 (R501)? -/
def blocksRead (d : Dev) : Bool := mhiOpen d && !d.mhi.restarting

/-- Do the blocks other than those of the MHI take writes? With codes 1 and 2 the boot ROM leaves them in reset (15 R443, R449). -/
def blocksOpen (d : Dev) : Bool := blocksRead d && d.boot.code != 1 && d.boot.code != 2

/-- A write of a register outside GLOBAL and the MHI: ignored while its block is in reset or restarts. -/
def whenReg (f : Dev → Dev) (d : Dev) : Dev := if blocksOpen d then f d else d

/-- A read with an effect: while the blocks restart they read 0 (R501). -/
def readReg (f : Dev → Dev) (d : Dev) : Dev :=
  if blocksRead d then f d else if mhiOpen d then { d with readData := 0 } else d

/-- GLOBAL_SERVICE.ALLOWED (R502). -/
def serviceAllowed (d : Dev) : Bool := !d.boot.serving || d.host.power == 3 || d.pool.state == .failed

/-- The device clears ENABLE when ALLOWED clears (R502). -/
def judgeService (d : Dev) : Dev :=
  if d.mhi.service ∧ !serviceAllowed d then raiseGlobal 2 { d with mhi.service := false } else d

/-- PS3 ends: the device returns to its last operational power state when a capsule arrives, or a member needs a rebuild (07
R233). -/
def wake (d : Dev) : Dev :=
  if d.host.power = 3 then judgeService { d with host.power := d.host.lastOperational, host.ps3Wanted := false } else d

/-- Answer a command on a queue: SQ 0 is the admin queue. Controller 0 is the mailbox, whose result is STATUS 0, or
STATUS 8 with the NVMe status (R505, R506). -/
def complete (cntlid sqid cid : Nat) (st : Status) (dw0 : Nat) (d : Dev) : Dev :=
  emit (.completion cntlid sqid cid st dw0) d

/-- Successful Completion. -/
def ok : Status := { sct := 0, sc := 0 }

/-- A generic command status (SCT 0h). -/
def gen (sc : Nat) : Status := { sct := 0, sc := sc }

/-- A command specific status (SCT 1h). -/
def cmdSpec (sc : Nat) : Status := { sct := 1, sc := sc }

/-- A vendor status of R212 (SCT 7h), with DNR and CRD; CRD stands only while the host enabled it (R213). -/
def vendor (d : Dev) (cntlid sc : Nat) (dnr : Bool) (crd : Nat) : Status :=
  { sct := 7, sc := sc, dnr := dnr
    crd := if ((tget d.host.ctrls cntlid).map (·.acre)).getD false then crd else 0 }

end Sys2Proof.Machine
end

