-- ==== Sys2Proof/Machine/Recorder.lean ====
section
/-! DEFINITION. The event recorder and the performance counters (17 R473 to R493). -/

namespace Sys2Proof.Machine

/-! ## Event records -/

/-- The 40-byte payload of R483: subject, old value, new value and detail, little-endian. -/
def payload (subject old new detail : Nat) : Nat :=
  subject % 2 ^ 64 + (old % 2 ^ 64) * 2 ^ 64 + (new % 2 ^ 64) * 2 ^ 128 + (detail % 2 ^ 128) * 2 ^ 192

/-- N: the records that EVENTS holds under the layout in use (R478). -/
def eventCapacity (d : Dev) : Nat := d.pool.layout.events * 64

/-- Class of an event under the EVENTS section (R43, R474): none when suppressed, else the class and RECLASSED. The clock
mark cannot be suppressed (R477). -/
def eventClass (d : Dev) (source code builtin : Nat) : Option (Nat × Bool) :=
  match (chartOf d).events.find? (fun o => o.source == source && o.code == code) with
  | none => some (builtin, false)
  | some o =>
    if o.cls = 3 then (if source = 0x0F ∧ code = 1 then some (builtin, false) else none) else some (o.cls, true)

/-- Flush the buffer to EVENTS in ESN order (R479), raising NEAR_FULL and FULL as the fill passes them (R486). -/
def flushEvents (d : Dev) : Dev :=
  let before := d.ev.slots.length
  let d1 := { d with ev.slots := d.ev.slots ++ d.ev.buffer.map some, ev.buffer := [] }
  let after := d1.ev.slots.length
  let n := eventCapacity d
  let d2 := if before < 3 * n / 4 ∧ 3 * n / 4 ≤ after then raiseEvent 5 d1 else d1
  if before < n ∧ n ≤ after then raiseEvent 4 d2 else d2

/-- An event that has no place is lost (R478). -/
def loseEvent (d : Dev) : Dev := raiseEvent 3 { d with ev.lost := satAdd 32 d.ev.lost 1 }

/-- Enter a record into the buffer (R475, R478, R479) under the ESN that is next. -/
def enterEvent (r : EventRec) (esn : Nat) (d : Dev) : Dev :=
  if d.ev.buffer.length < 4096 ∧ d.ev.buffer.length + d.ev.slots.length < eventCapacity d then
    let d1 := { d with ev.buffer := d.ev.buffer ++ [{ r with esn := esn }], ev.nextEsn := some (esn + 1) }
    let d2 := if r.cls = 1 then raiseEvent 1 d1 else if r.cls = 2 then raiseEvent 0 d1 else d1
    if r.cls = 2 ∨ 3072 ≤ d2.ev.buffer.length then flushEvents d2 else d2
  else loseEvent d

/-- Record an event (R474, R475): before bring-up step 5 it waits without an ESN, and it waits for a clear that waited for step 5,
because LOG_CLEARED takes the first ESN of that start and the events raised during the clear enter after it (R481). -/
def logRec (r : EventRec) (d : Dev) : Dev :=
  match d.ev.nextEsn, d.ev.pendingClear with
  | some n, none => enterEvent r n d
  | _, _ => { d with ev.waiting := d.ev.waiting ++ [r] }

/-- Record an event of a block source, with its built-in class: 0 INFO, 1 WARN, 2 FAULT. -/
def logEvent (source code cls : Nat) (pl : Nat) (d : Dev) : Dev :=
  match eventClass d source code cls with
  | none => d
  | some (c, re) => logRec { source := source, code := code, cls := c, reclassed := re, payload := pl } d

/-- Record an event that concerns a Cove (R473 bytes 14 to 15). -/
def logCove (cove source code cls : Nat) (pl : Nat) (d : Dev) : Dev :=
  match eventClass d source code cls with
  | none => d
  | some (c, re) =>
    logRec { source := source, code := code, cls := c, reclassed := re, cove := some cove, payload := pl } d

/-- Does a Lighthouse decision wait to be recorded until its reason or its value has moved by an eighth of its range, at most once a
second (14 R438)? Rates and limits do, and what is only advised (DEDUCED, log entry 23). -/
def lightGate (key reason new range : Nat) (d : Dev) : Bool :=
  match tget d.light.recorded key with
  | none => true
  | some (r, v, t) => (r != reason || decide (range ≤ 8 * (max v new - min v new))) && decide (t + 1000000000 ≤ elapsed d)

/-- An event of the Lighthouse (14 R438): WARN for decisions 4 to 6, else INFO; with reason 7 at least WARN, even when suppressed. -/
def lightRecord (decision reason : Nat) (pl : Nat) (d : Dev) : Dev :=
  let builtin := if 4 ≤ decision ∧ decision ≤ 6 then 1 else 0
  let (c, re) := match eventClass d 0x0D (0x0100 + decision) builtin with
    | some (c, re) => (if reason = 7 then (some (max c 1), re) else (some c, re))
    | none => (if reason = 7 then (some 1, true) else (none, true))
  match c with
  | some c => logRec { source := 0x0D, code := 0x0100 + decision, cls := c, reclassed := re, payload := pl } d
  | none => d

/-- A decision of the Lighthouse (14 R438): `kind` and `target` name what it is about; a decision that is not recorded counts in
SUPPRESSED. -/
def logLight (decision reason : Nat) (advise : Bool) (kind target old new input bound range : Nat) (d : Dev) : Dev :=
  let key := (decision * 4 + kind) * 65536 + target
  let gated := decide (decision ≤ 3) || decision == 8 || advise
  if gated ∧ !lightGate key reason new range d then { d with light.suppressed := satAdd 32 d.light.suppressed 1 }
  else
    let pl := decision + reason * 2 ^ 8 + b2n advise * 2 ^ 16 + kind * 2 ^ 24 + (target % 65536) * 2 ^ 32 + (old % 2 ^ 64) * 2 ^ 64
      + (new % 2 ^ 64) * 2 ^ 128 + (input % 2 ^ 64) * 2 ^ 192 + (bound % 2 ^ 64) * 2 ^ 256
    lightRecord decision reason pl { d with light.recorded := tput d.light.recorded key (reason, new, elapsed d) }

/-- The events that waited for the counter take their ESNs, in order (R475). -/
def releaseWaiting (d : Dev) : Dev :=
  d.ev.waiting.foldl (fun a r => logRec r a) { d with ev.waiting := [] }

/-- The clock mark of R477. -/
def clockMark (d : Dev) : Dev :=
  let pl := d.clk.tod.s % 2 ^ 48 + (d.clk.tod.ns % 2 ^ 32) * 2 ^ 48 + (d.clk.tod.frac % 16) * 2 ^ 80
    + (d.clk.state % 256) * 2 ^ 88 + (elapsed d % 2 ^ 64) * 2 ^ 96
  logEvent 0x0F 1 0 pl d

/-- A flush asked for by EVENT_CTRL or Set Features C2h (R479): it waits before step 5 (R481). -/
def requestFlush (d : Dev) : Dev :=
  match d.ev.nextEsn with
  | none => { d with ev.pendingFlush := true }
  | some _ => raiseEvent 2 (flushEvents d)

/-- ESN of a slot, 0 when its record could not be read. -/
def slotEsn (o : Option (Option EventRec)) : Nat := ((o.join).map (·.esn)).getD 0

/-- Class of LOG_CLEARED (R474): it is written whatever the EVENTS section says, since slot 0 always holds it after a clear (R481). -/
def clearedClass (d : Dev) : Nat × Bool := (eventClass d 0x0F 2 0).getD (0, false)

/-- The five steps of a clear (R481), with its requester. -/
def clearEvents (requester : Nat) (d : Dev) : Dev :=
  match d.ev.nextEsn with
  | none => { d with ev.pendingClear := some requester }
  | some _ =>
    let d1 := flushEvents d
    let esn := d1.ev.nextEsn.getD 1
    let pl := slotEsn d1.ev.slots.head? + slotEsn d1.ev.slots.getLast? * 2 ^ 64
      + (d1.ev.lost % 2 ^ 32) * 2 ^ 128 + (requester % 256) * 2 ^ 160
    let rec_ : EventRec := { esn := esn, source := 0x0F, code := 2, cls := (clearedClass d).1, reclassed := (clearedClass d).2, payload := pl }
    raiseEvent 2 { d1 with ev.slots := [some rec_], ev.nextEsn := some (esn + 1), ev.lost := 0 }

/-- An EVENT_CTRL write (R486): ignored when CLEAR comes without KEY 0xA5, or with FLUSH. -/
def eventCtrl (v : Reg) (d : Dev) : Dev :=
  let flush := v.getLsbD 0
  let clear := v.getLsbD 1
  if clear then
    if flush ∨ bits v.toNat 15 8 ≠ 0xA5 then d else clearEvents 0 d
  else if flush then requestFlush d else d

/-- EVENT_CTRL.FLUSH (R479, R486). -/
def execEventCtrlFlush (v : Reg) (s : State) : Result := onDev s (whenReg (eventCtrl (v ||| 1#32)))

/-- EVENT_CTRL.CLEAR (R481, R486). -/
def execEventCtrlClear (v : Reg) (s : State) : Result := onDev s (whenReg (eventCtrl (v ||| 2#32)))

/-- A clear or flush asked for before step 5 runs once the counter is set: first the clear, then the events that waited enter, then
the flush (R475, R481). -/
def deferredClear (d : Dev) : Dev :=
  match d.ev.nextEsn with
  | none => d
  | some _ =>
    let d1 := match d.ev.pendingClear with
      | some r => releaseWaiting (clearEvents r { d with ev.pendingClear := none })
      | none => d
    if d1.ev.pendingFlush then requestFlush { d1 with ev.pendingFlush := false } else d1

/-- EVENT_DEFERRED_CLEAR (R481). -/
def execEventDeferredClear (s : State) : Result := onDev s deferredClear

/-- CLOCK_MARK_TIMER (R477): the recorder of a core that is held or stopped makes none. -/
def execClockMarkTimer (s : State) : Result := onDev s (fun d => if coreRuns d then clockMark d else d)

/-! ## Performance counters -/

/-- The attributes an occurrence carries (R489); none where it carries no attribute of that kind. -/
structure Attr where
  master : Option Nat := none
  /-- management: Cove 0, the MHI or firmware -/
  mgmt : Option Bool := none
  cove : Option Nat := none
  nsid : Option Nat := none
  lba : Option Nat := none
  page : Option Nat := none
  hbm : Option Nat := none
  tclass : Option Nat := none
  /-- command class bit: 0 read-kind, 1 write-kind, 2 other I/O, 3 admin -/
  cclass : Option Nat := none
  /-- member class: 0 to 3 for A to D -/
  mclass : Option Nat := none

/-- Attributes of an occurrence of a Cove. -/
def coveAttr (c : Nat) : Attr := { mgmt := some (c == 0), cove := some c }

/-- Does an occurrence match a Lens entry (R488)? -/
def lensMatch (l : Nat) (a : Attr) : Bool :=
  let priv := bits l 7 0
  let master := bits l 15 8
  let addrKind := bits l 23 16
  let classKind := bits l 31 24
  let mask := bits l 39 32
  let cove := bits l 59 48
  let anyCove := bit l 63
  let nsid := bits l 95 64
  let base := bits l 191 128
  let limit := bits l 255 192
  let inRange := fun (x : Option Nat) => match x with
    | some v => decide (base ≤ v ∧ v < limit)
    | none => false
  let inMask := fun (x : Option Nat) => match x with
    | some v => bit mask v
    | none => false
  (match priv with
    | 0 => true
    | 1 => a.mgmt == some true
    | _ => a.mgmt == some false)
  && (master == 0xFF || a.master == some master)
  && (anyCove || a.cove == some cove)
  && (match addrKind with
    | 0 => true
    | 1 => a.nsid == some nsid && inRange a.lba
    | 2 => inRange a.page
    | _ => inRange a.hbm)
  && (match classKind with
    | 0 => true
    | 1 => inMask a.tclass
    | 2 => inMask a.cclass
    | _ => inMask a.mclass)

/-- Add to a counter, wrapping at 2^48 with its sticky overflow bit (R487). -/
def addCount (n : Nat) (c : Counter) : Counter :=
  { c with count := (c.count + n) % 2 ^ 48, ovf := c.ovf || decide (2 ^ 48 ≤ c.count + n) }

/-- An occurrence of an event (R487): every enabled counter of that event whose Lens matches counts it. Lens 0 passes
every event (R488). -/
def occur (cls event n : Nat) (a : Attr) (d : Dev) : Dev :=
  { d with perf.counters := tall d.perf.counters (fun c =>
      if c.enable && c.cls == cls && c.event == event &&
          (c.lens == 0 || lensMatch ((tget d.perf.lens c.lens).getD 0) a) then addCount n c else c) }

/-- The number of events of a class (R489), 0 for a reserved class. -/
def eventsOf : Nat → Nat
  | 0 => 11
  | 1 => 7
  | 2 => 9
  | 3 => 6
  | 4 => 5
  | 5 => 12
  | 6 => 7
  | 7 => 4
  | 8 => 4
  | 9 => 4
  | 10 => 5
  | _ => 0

/-- PERF_CTRL.CLEAR_ALL (R493). -/
def perfClearAll (d : Dev) : Dev :=
  { d with perf.counters := tall d.perf.counters (fun c => { c with count := 0, ovf := false }) }

/-- PERF_CTRL_CLEAR_ALL (R493): acts when bit 0 is written 1. -/
def execPerfCtrlClearAll (v : Reg) (s : State) : Result :=
  onDev s (whenReg (fun d => if v.getLsbD 0 then perfClearAll d else d))

/-- A PERF_CFG(n) write (R493, R9): a reserved CLASS or EVENT leaves that field unchanged; the counter is zeroed. -/
def perfCfgWrite (n : Nat) (v : Reg) (d : Dev) : Dev :=
  if n < 2048 then
    let old := (tget d.perf.counters n).getD {}
    let cls := if bits v.toNat 15 8 < 11 then bits v.toNat 15 8 else old.cls
    let ev := if bits v.toNat 7 0 < eventsOf cls then bits v.toNat 7 0 else old.event
    let c : Counter :=
      { count := 0, ovf := false, enable := v.getLsbD 31, lens := bits v.toNat 23 16, cls := cls, event := ev }
    { d with perf.counters := tput d.perf.counters n c }
  else d

/-- PERF_CFG_WRITE (R493). -/
def execPerfCfgWrite (n : Nat) (v : Reg) (s : State) : Result := onDev s (whenReg (perfCfgWrite n v))

/-- BAR0 offset of PERF_CNT_HI(n) (R492). -/
def perfCntHi (n : Nat) : Nat := 0x104004 + 8 * n

/-- The value of PERF_CNT_HI(n) (R493). -/
def perfHiVal (c : Counter) : Nat := c.count / 2 ^ 32 + 2 ^ 31 * b2n c.ovf

/-- A PERF_CNT_LO(n) read (R490): the count, with PERF_CNT_HI(n) latched (R7) and PERF_STAMP taken. -/
def perfCntLoRead (n : Nat) (d : Dev) : Dev :=
  let c := (tget d.perf.counters n).getD {}
  { d with readData := c.count % 2 ^ 32, perf.stamp := elapsed d,
           mhi.latches := tput d.mhi.latches (perfCntHi n) (perfHiVal c) }

/-- PERF_CNT_LO_READ (R490). -/
def execPerfCntLoRead (n : Nat) (s : State) : Result :=
  onDev s (readReg (fun d => if n < 2048 then perfCntLoRead n d else { d with readData := 0 }))

/-- A Data Port access at a device address is refused (18 R514): DP_STATUS.ERR and CODE, vector 6, and an event at most once a
second. -/
def dpRefuse (code a : Nat) (d : Dev) : Dev :=
  let d1 := { (if d.mhi.dpErr then d else fire 6 { d with mhi.dpErr := true }) with mhi.dpCode := code }
  if d1.mhi.lastRefused.all (fun t => decide (t + 1000000000 ≤ elapsed d1)) then
    logEvent 0x12 1 1 (payload a 0 0 0) { d1 with mhi.lastRefused := some (elapsed d1) }
  else d1

/-- A write of an on-die table at a device address, through the Data Port: refused with code 6 while the device restarts (18 R501,
R511). -/
def onTable (a : Nat) (f : Dev → Dev) (d : Dev) : Dev :=
  if d.mhi.restarting ∧ mhiOpen d then dpRefuse 6 a d else whenReg f d

/-- Device address of the Lenses (R488). -/
def lensBase : Nat := 0x00000003000A0000

/-- A write of byte `k` of Lens entry `i` (R488): the new values apply together when byte 31 is written. Lens 0 is
read-only. -/
def lensByte (i k : Nat) (b : Byte) (d : Dev) : Dev :=
  if i = 0 ∨ 256 ≤ i ∨ 32 ≤ k then d
  else
    let cur := (tget d.perf.lensHeld i).getD ((tget d.perf.lens i).getD 0)
    let new := cur - bits cur (8 * k + 7) (8 * k) * 2 ^ (8 * k) + b.toNat * 2 ^ (8 * k)
    if k = 31 then { d with perf.lens := tput d.perf.lens i new, perf.lensHeld := terase d.perf.lensHeld i }
    else { d with perf.lensHeld := tput d.perf.lensHeld i new }

/-- LENS_WRITE (R488): a write that ends at byte 31 of entry `i` applies the 32-byte value `v`. -/
def execLensWrite (i : Nat) (v : Nat) (s : State) : Result :=
  onDev s (onTable (lensBase + 32 * i) (fun d => if i = 0 ∨ 256 ≤ i then d
    else { d with perf.lens := tput d.perf.lens i (v % 2 ^ 256), perf.lensHeld := terase d.perf.lensHeld i }))

end Sys2Proof.Machine
end

