-- ==== Sys2Proof/Machine/Egress.lean ====
section
/-! DEFINITION. Egress scheduling: queues of a network link, virtual finish times, shapers, time gates, the ingress
policers and the queue samplers (10 R327 to R338). -/

namespace Sys2Proof.Machine

/-! ## Epoch counts of queued units (09 R306) -/

/-- A unit is classified at the epoch in force (R306). -/
def epochIn (d : Dev) : Dev :=
  { d with prism.inflight := modNth d.prism.inflight (d.prism.epoch % 4) (· + 1) }

/-- A unit of an epoch ends (R306). -/
def epochOut (stamp : Nat) (d : Dev) : Dev :=
  { d with prism.inflight := modNth d.prism.inflight (stamp % 4) (· - 1) }

/-! ## Queues -/

/-- The scheduler of a link. -/
def linkOf (d : Dev) (link : Nat) : LinkSched := (tget d.sched.links link).getD {}

/-- Replace the scheduler of a link. -/
def setLink (link : Nat) (l : LinkSched) (d : Dev) : Dev := { d with sched.links := tput d.sched.links link l }

/-- Queue a management frame (R327), at its epoch. -/
def queueMgmt (link : Nat) (f : TxFrame) (d : Dev) : Dev :=
  let f := { f with kind := 0, enq := elapsed d, stamp := d.prism.epoch }
  let l := linkOf d link
  epochIn (setLink link { l with mgmt := l.mgmt ++ [f] } d)

/-- The place of a Cove's queue in a class among a link's Cove queues: frames queued before a change of the Cove's class
stay in the class they were queued in (R327). -/
def queueKey (cls cove : Nat) : Nat := cls * 4096 + cove

/-- A class that holds no frame wakes at the virtual time of the class choice (R328 step 3, R329). Its tag here is the
start tag of its next frame. -/
def wakeClass (cls : Nat) (l : LinkSched) : LinkSched :=
  if ((tget l.ack cls).getD []).isEmpty ∧ l.coves.all (fun e => e.2.cls != cls || e.2.frames.isEmpty) then
    { l with classF := tput l.classF cls (max l.classV ((tget l.classF cls).getD 0)) }
  else l

/-- Queue an acknowledgement frame in its class (R327). -/
def queueAck (link cls : Nat) (f : TxFrame) (d : Dev) : Dev :=
  let f := { f with kind := 1, enq := elapsed d, stamp := d.prism.epoch }
  let l := wakeClass cls (linkOf d link)
  epochIn (setLink link { l with ack := tput l.ack cls ((tget l.ack cls).getD [] ++ [f]) } d)

/-- The tags of a frame that becomes head of a Cove queue (R329): start tag and finish tag. -/
def headTags (v : Nat) (waking : Bool) (q : CoveQueue) (len w : Nat) : CoveQueue :=
  let st := if waking then max v q.fTag else q.fTag
  { q with sTag := st, fTag := st + len * 65536 / w }

/-- Queue a Cove's frame in the Cove's class (R327, R329): a queue that held no frame wakes at the class's virtual time. -/
def queueCove (link : Nat) (f : TxFrame) (d : Dev) : Dev :=
  let f := { f with kind := 2, enq := elapsed d, stamp := d.prism.epoch }
  let cfg := coveCfg d f.cove
  let l := wakeClass cfg.tclass (linkOf d link)
  let k := queueKey cfg.tclass f.cove
  let q := (tget l.coves k).getD { cls := cfg.tclass }
  let q1 := if q.frames.isEmpty then headTags ((tget l.vtime cfg.tclass).getD 0) true q f.len cfg.weight else q
  epochIn (setLink link { l with coves := tput l.coves k { q1 with frames := q1.frames ++ [f] } } d)

/-! ## Shapers and policers (R330, R335) -/

/-- The rate of an unlimited PIR. -/
def unlimited : Nat := 0xFFFFFFFF

/-- Refill a bucket pair to an instant at the given rates and bursts: token units are millibits, so x Mbit/s refills x
millibits a nanosecond (R330). -/
def refill (b : Buckets) (now cRate cMax pRate pMax : Nat) : Buckets :=
  let dt : Int := ((now - b.last : Nat) : Int)
  { cTok := min (b.cTok + dt * cRate) cMax, pTok := min (b.pTok + dt * pRate) pMax, last := now }

/-- A shaper refilled to now under a Cove's record (R330). -/
def shaperNow (c : CoveCfg) (b : Buckets) (now : Nat) : Buckets :=
  refill b now c.shCir (8000 * c.shCbs) c.shPir (8000 * c.shPbs)

/-- A shaper starts full when its Cove is created (R330). -/
def shaperFull (c : CoveCfg) (now : Nat) : Buckets :=
  { cTok := 8000 * c.shCbs, pTok := 8000 * c.shPbs, last := now }

/-- The tier of R330: none held, some true guaranteed, some false excess. -/
def tier (c : CoveCfg) (b : Buckets) : Option Bool :=
  if c.shPir ≠ unlimited ∧ b.pTok < 0 then none else some (decide (0 ≤ b.cTok))

/-- Charge a frame that leaves in a tier (R330). -/
def shaperCharge (c : CoveCfg) (b : Buckets) (len : Nat) (guaranteed : Bool) : Buckets :=
  { b with
    pTok := if c.shPir = unlimited then b.pTok else b.pTok - 8000 * len
    cTok := if guaranteed then b.cTok - 8000 * len else b.cTok }

/-- Policers count commands in 10^-9 commands, so x commands a second refill x units a nanosecond, and bytes in
millibits (R335). -/
def cmdNow (c : CoveCfg) (b : Buckets) (now : Nat) : Buckets :=
  refill b now c.cmdCir (1000000000 * c.cmdCbs) c.cmdPir (1000000000 * c.cmdPbs)

/-- The byte policer refilled to now. -/
def byteNow (c : CoveCfg) (b : Buckets) (now : Nat) : Buckets :=
  refill b now c.byteCir (8000 * c.byteCbs) c.bytePir (8000 * c.bytePbs)

/-- A command policer starts full (R335). -/
def cmdFull (c : CoveCfg) (now : Nat) : Buckets :=
  { cTok := 1000000000 * c.cmdCbs, pTok := 1000000000 * c.cmdPbs, last := now }

/-- A byte policer starts full (R335). -/
def byteFull (c : CoveCfg) (now : Nat) : Buckets :=
  { cTok := 8000 * c.byteCbs, pTok := 8000 * c.bytePbs, last := now }

/-- Colours of a policer. -/
inductive Colour where
  | green | yellow | red
  deriving DecidableEq, Repr

/-- The colour of a cost (R335). -/
def colour (b : Buckets) (pir : Nat) (cost : Nat) : Colour :=
  if pir ≠ unlimited ∧ b.pTok < cost then .red else if (cost : Int) ≤ b.cTok then .green else .yellow

/-- Charge a policer: green both buckets, yellow the peak bucket only; an unlimited peak bucket is not charged. -/
def polCharge (b : Buckets) (pir cost : Nat) : Colour → Buckets
  | .green => { b with cTok := b.cTok - cost, pTok := if pir = unlimited then b.pTok else b.pTok - cost }
  | .yellow => { b with pTok := if pir = unlimited then b.pTok else b.pTok - cost }
  | .red => b

/-- Police a capsule of `bytes` bytes for a Cove (R335): the worst colour, and the device with the policers charged
unless it is red. -/
def police (cove bytes : Nat) (d : Dev) : Colour × Dev :=
  let c := coveCfg d cove
  let now := elapsed d
  let cb := cmdNow c ((tget d.sched.cmdPolicer cove).getD (cmdFull c now)) now
  let bb := byteNow c ((tget d.sched.bytePolicer cove).getD (byteFull c now)) now
  let k := 8000 * bytes
  let a := colour cb c.cmdPir 1000000000
  let b := colour bb c.bytePir k
  if a = .red ∨ b = .red then
    (.red, { d with sched.cmdPolicer := tput d.sched.cmdPolicer cove cb,
                    sched.bytePolicer := tput d.sched.bytePolicer cove bb })
  else
    let d' := { d with sched.cmdPolicer := tput d.sched.cmdPolicer cove (polCharge cb c.cmdPir 1000000000 a),
                       sched.bytePolicer := tput d.sched.bytePolicer cove (polCharge bb c.bytePir k b) }
    (if a = .yellow ∨ b = .yellow then .yellow else .green, d')

/-! ## Gates (R332 to R334) -/

/-- The gate state of a port. -/
def gatesOf (d : Dev) (port : Nat) : PortGates := (tget d.sched.gates port).getD {}

/-- The OPEN_MASK in force: without a list every gate is open (R38). -/
def openMask (g : PortGates) : Nat :=
  match g.list with
  | none => 0xFF
  | some l => ((l.entries[g.entry]?).map (·.openMask)).getD 0xFF

/-- May a class start a frame now (R332, R333)? -/
def gateOpen (g : PortGates) (cls : Nat) : Bool := bit (openMask g) cls && !(bit g.guard cls)

/-- Position of an instant within a gate list's cycle (R332). -/
def cyclePos (l : GateList) (now : Nat) : Nat :=
  ((now : Int) - ((l.baseS * 1000000000 + l.baseNs : Nat) : Int)).emod (max l.cycleNs 1) |>.toNat

/-- The entry in force at a position of the cycle, with the time left in it. -/
def entryAt : List GateEntry → Nat → Nat → Nat × Nat
  | [], _, i => (i, 0)
  | e :: r, pos, i => if pos < e.intervalNs then (i, e.intervalNs - pos) else entryAt r (pos - e.intervalNs) (i + 1)

/-- GATE_ENTRY: an entry of the port's list comes into force at its instant and sets the open classes (R332). A guard
band before the entry ends with it (R333). -/
def gateEntry (port entry : Nat) (d : Dev) : Dev :=
  let g := gatesOf d port
  match g.list with
  | none => d
  | some l => if entry < l.entries.length then
      { d with sched.gates := tput d.sched.gates port { g with entry := entry, guard := 0 } } else d

/-- GATE_ENTRY (R332). -/
def execGateEntry (port entry : Nat) (s : State) : Result := onDev s (gateEntry port entry)

/-- Classes that are open now and closed in entry 0 of a list: they close with a guard band (R55, R333). -/
def closing (now next : Nat) : Nat := now - (now &&& next)

/-- GATE_LIST_TAKEOVER: the waiting list takes over its port at BASE + k × CYCLE (R55, R332), naming the port in an INFO
event where it is a new list (R52); the list in force resumes so after a step of time of day (R334). -/
def gateTakeover (port : Nat) (d : Dev) : Dev :=
  let g := gatesOf d port
  match g.waiting with
  | none => d
  | some l =>
    let next : PortGates := { list := l, entry := 0, waiting := none, guard := 0 }
    let d1 := { d with sched.gates := tput d.sched.gates port { next with guard := closing (openMask g) (openMask next) } }
    if l = g.list then d1 else logEvent 1 1 0 (payload port d.chart.runSeq d.chart.runSeq 0) d1

/-- GATE_LIST_TAKEOVER (R55). -/
def execGateListTakeover (port : Nat) (s : State) : Result := onDev s (gateTakeover port)

/-! ## A frame leaves (R328 to R331) -/

/-- Rate of a link in Mbit/s by its port's BREAKOUT (08 R246). -/
def linkRate (d : Dev) (link : Nat) : Nat :=
  match ((chartOf d).ports.getD (link / 4) {}).breakout with
  | 0 => 400000
  | 1 => 200000
  | _ => 100000

/-- The guard band G of a link in ns, rounded up: MAX_FRAME + 20 bytes at the link rate (R333). -/
def guardNs (d : Dev) (link : Nat) : Nat :=
  ceilDiv ((((chartOf d).ports.getD (link / 4) {}).maxFrame + 20) * 8000) (linkRate d link)

/-- The classes that the waiting list closes, once no more than G is left before it takes over (R55, R333, R334). -/
def takeoverGuard (d : Dev) (link : Nat) (g : PortGates) : Nat :=
  match g.waiting with
  | some (some l) =>
    if l.cycleNs - cyclePos l (todNs d) ≤ guardNs d link then
      closing (openMask g) (openMask { list := some l })
    else 0
  | _ => 0

/-- The classes of `open_` that one of the coming entries closes, of which the first begins in `t` ns, within `g` ns from now (R333). -/
def closesIn (open_ g : Nat) : Nat → List GateEntry → Nat
  | _, [] => 0
  | t, e :: r => if g < t then 0 else closing open_ e.openMask ||| closesIn open_ g (t + e.intervalNs) r

/-- Before a closing no frame of the class starts during the guard band G (R333): the classes open now and closed in an entry that
begins within G, and those that a list about to take over closes. -/
def guarded (d : Dev) (link : Nat) : Nat :=
  let g := gatesOf d (link / 4)
  match g.list with
  | none => takeoverGuard d link g
  | some l =>
    let left := (entryAt l.entries (cyclePos l (todNs d)) 0).2
    let coming := l.entries.drop (g.entry + 1) ++ l.entries.take (g.entry + 1)
    closesIn (openMask g) (guardNs d link) left coming ||| takeoverGuard d link g

/-- Queue pairs with frames in a Cove queue, those after the one served last first (R327). -/
def roundRobin (last : Nat) (fs : List TxFrame) : List Nat :=
  let qs := (fs.map (·.qpn)).eraseDups
  let lower := (fun a b => decide (a ≤ b))
  (qs.filter (fun q => decide (last < q))).mergeSort lower ++ (qs.filter (fun q => decide (q ≤ last))).mergeSort lower

/-- Remove the first frame of a queue pair from a list. -/
def dropFirst (qpn : Nat) : List TxFrame → List TxFrame
  | [] => []
  | f :: r => if f.qpn = qpn then r else f :: dropFirst qpn r

/-- The head of a Cove queue: the next queue pair's first frame, in round robin, whose path pacing permits it to leave
now (R327), with the frames that stay. -/
def takeFrame (now last : Nat) (fs : List TxFrame) : Option (TxFrame × List TxFrame) :=
  let heads := (roundRobin last fs).filterMap (fun q => fs.find? (fun f => f.qpn == q))
  (heads.find? (fun f => decide (f.paceAt ≤ now))).map (fun f => (f, dropFirst f.qpn fs))

/-- Cove queues of a class that may send, with their tier: some true guaranteed, some false excess (R328, R330). -/
def readyCoves (d : Dev) (l : LinkSched) (cls : Nat) : List (Nat × CoveQueue × Bool) :=
  let now := elapsed d
  l.coves.filterMap (fun e =>
    if e.2.cls = cls ∧ (takeFrame now e.2.lastQpn e.2.frames).isSome then
      let cove := e.1 % 4096
      let c := coveCfg d cove
      let b := shaperNow c ((tget l.shapers cove).getD (shaperFull c now)) now
      (tier c b).map (fun t => (cove, e.2, t))
    else none)

/-- The least finish tag, ties to the lowest Cove number (R329). -/
def leastFinish : List (Nat × CoveQueue × Bool) → Option (Nat × CoveQueue × Bool)
  | [] => none
  | x :: r => match leastFinish r with
    | none => some x
    | some y => if x.2.1.fTag ≤ y.2.1.fTag then some x else some y

/-- The Cove queue that a class sends from: guaranteed tier first, then excess (R328). -/
def pickCove (d : Dev) (l : LinkSched) (cls : Nat) : Option (Nat × CoveQueue × Bool) :=
  let r := readyCoves d l cls
  match leastFinish (r.filter (·.2.2)) with
  | some x => some x
  | none => leastFinish (r.filter (fun x => !x.2.2))

/-- Has a class an eligible queue? -/
def classReady (d : Dev) (l : LinkSched) (cls : Nat) : Bool :=
  !((tget l.ack cls).getD []).isEmpty || (pickCove d l cls).isSome

/-- Send from a class: its acknowledgement queue first, then the chosen Cove queue (R328, R329, R330). -/
def sendClass (link cls : Nat) (l : LinkSched) (d : Dev) : Option (TxFrame × Dev) :=
  match (tget l.ack cls).getD [] with
  | f :: r => some (f, setLink link { l with ack := tput l.ack cls r } d)
  | [] =>
    match pickCove d l cls with
    | none => none
    | some (c, q, g) =>
      let now := elapsed d
      match takeFrame now q.lastQpn q.frames with
      | none => none
      | some (f, rest) =>
        let cfg := coveCfg d c
        let b := shaperNow cfg ((tget l.shapers c).getD (shaperFull cfg now)) now
        let v := max ((tget l.vtime cls).getD 0) q.sTag
        let q0 := { q with frames := rest, lastQpn := f.qpn }
        let q1 := match rest with
          | [] => q0
          | n :: _ => headTags v false q0 ((takeFrame now f.qpn rest).map (·.1.len) |>.getD n.len) cfg.weight
        let l1 := { l with coves := tput l.coves (queueKey cls c) q1, vtime := tput l.vtime cls v,
                           shapers := tput l.shapers c (shaperCharge cfg b f.len g) }
        let d1 := setLink link l1 d
        some (f, occur 9 (if g then 0 else 1) 1 { coveAttr c with master := some (link / 4), tclass := some cls } d1)

/-- Classes by STRICT_MASK, from the highest down (R328 step 2). -/
def strictClasses (m : Nat) : List Nat := [7, 6, 5, 4, 3, 2, 1, 0].filter (bit m)

/-- The finish tag of a class's next frame, with the class weight for a Cove weight (R328 step 3, R329). -/
def classFinish (link : Nat) (d : Dev) (l : LinkSched) (cc : ClassCfg) (c : Nat) : Nat :=
  let len := ((sendClass link c l d).map (·.1.len)).getD 0
  (tget l.classF c).getD 0 + len * 65536 / (cc.weights.getD c 16)

/-- The non-strict class with the least finish tag, ties to the lowest (R328 step 3, R329). -/
def pickClass (link : Nat) (d : Dev) (l : LinkSched) (cc : ClassCfg) (g : Nat → Bool) : Option Nat :=
  let ready := [0, 1, 2, 3, 4, 5, 6, 7].filter (fun c => !bit cc.strictMask c && g c && classReady d l c)
  (ready.map (fun c => (c, classFinish link d l cc c))).foldl (fun (best : Option (Nat × Nat)) c => match best with
    | none => some c
    | some b => if c.2 < b.2 then some c else some b) none |>.map (·.1)

/-- The frame that a link sends at an opportunity (R328), if any, and the state after it leaves. -/
def pickFrame (link : Nat) (d : Dev) : Option (TxFrame × Dev) :=
  let l := linkOf d link
  let gs := gatesOf d (link / 4)
  let held := guarded d link
  let g := fun c => gateOpen gs c && !bit held c
  let cc := (chartOf d).classes.getD (link / 4) {}
  match (if g 7 then l.mgmt else []) with
  | f :: r => some (f, setLink link { l with mgmt := r } d)
  | [] =>
    match ((strictClasses cc.strictMask).filter (fun c => g c && classReady d l c)).head? with
    | some c => sendClass link c l d
    | none =>
      match pickClass link d l cc g with
      | none => none
      | some c =>
        match sendClass link c l d with
        | none => none
        | some (f, d1) =>
          let l1 := linkOf d1 link
          some (f, setLink link { l1 with classV := max l.classV ((tget l.classF c).getD 0),
                                          classF := tput l1.classF c (classFinish link d l cc c) } d1)

/-! ## Queue samplers (R337, R338) -/

/-- The bin of a depth in bytes (R337). -/
def depthBin (n : Nat) : Nat := if n = 0 then 0 else if n < 512 then 1 else min 15 (Nat.log2 (n / 512) + 2)

/-- The bin of a delay in ns; a queue that is empty is bin 0 (R337). -/
def delayBin (empty : Bool) (n : Nat) : Nat :=
  if empty then 0 else if n < 100 then 1 else min 15 (Nat.log2 (n / 100) + 2)

/-- The queues that a sampler watches: its Cove's queue in the Cove's class, or all Cove queues of a class (R338). -/
def watched (d : Dev) (x : Sampler) : List CoveQueue :=
  let l := linkOf d x.link
  if x.kind = 0 then (tget l.coves (queueKey (coveCfg d x.cove).tclass x.cove)).toList
  else (l.coves.filter (fun e => e.2.cls == x.cls)).map (·.2)

/-- The frames in the queues that a sampler watches. -/
def sampled (d : Dev) (x : Sampler) : List TxFrame := (watched d x).flatMap (·.frames)

/-- When the head frame of a queue entered it (R327, R337): the head is the frame that may leave next, or the first in the
round robin where path pacing holds every one. -/
def headEnq (now : Nat) (q : CoveQueue) : Nat :=
  match takeFrame now q.lastQpn q.frames with
  | some (f, _) => f.enq
  | none =>
    let heads := (roundRobin q.lastQpn q.frames).filterMap (fun n => q.frames.find? (fun f => f.qpn == n))
    ((heads.head?).map (·.enq)).getD now

/-- The oldest head among the queues that a sampler watches (R338). -/
def oldestHead (d : Dev) (x : Sampler) : Nat :=
  (watched d x).foldl (fun a q => min a (headEnq (elapsed d) q)) (elapsed d)

/-- One sample (R337): a disabled sampler or a zero interval takes none. -/
def samplerTick (i : Nat) (d : Dev) : Dev :=
  match tget d.sched.samplers i with
  | none => d
  | some x =>
    if x.enable ∧ x.intervalUs ≠ 0 then
      let fs := sampled d x
      let depth := lsum fs (·.len)
      let delay := elapsed d - oldestHead d x
      let x1 := { x with
        samples := satAdd 32 x.samples 1
        maxDepth := max x.maxDepth (min depth (2 ^ 32 - 1))
        maxDelay := max x.maxDelay (min delay (2 ^ 32 - 1))
        depth := modNth x.depth (depthBin depth) (fun c => satAdd 32 c 1)
        delay := modNth x.delay (delayBin fs.isEmpty delay) (fun c => satAdd 32 c 1) }
      { d with sched.samplers := tput d.sched.samplers i x1 }
    else d

/-- SAMPLER_TICK (R337). -/
def execSamplerTick (i : Nat) (s : State) : Result := onDev s (samplerTick i)

/-- Device address of the queue samplers (R338). -/
def samplerBase : Nat := 0x0000000300030000

/-- A write of a sampler's CTRL byte (R338): setting ENABLE when it is clear zeroes every RO field. -/
def samplerCtrl (i : Nat) (v : Byte) (d : Dev) : Dev :=
  if i < 256 then
    let x := (tget d.sched.samplers i).getD {}
    let on := v.getLsbD 0
    let x1 : Sampler := if on ∧ !x.enable then
        { enable := true, kind := x.kind, link := x.link, cls := x.cls, cove := x.cove, intervalUs := x.intervalUs }
      else { x with enable := on }
    { d with sched.samplers := tput d.sched.samplers i x1 }
  else d

/-- SAMPLER_CTRL_WRITE (R338). -/
def execSamplerCtrlWrite (i : Nat) (v : Byte) (s : State) : Result := onDev s (onTable (samplerBase + 256 * i) (samplerCtrl i v))

/-- A write of byte `k` (1 to 7) of a sampler's settings (R338): ignored while ENABLE is set; reserved encodings leave
the field unchanged (00 R9). -/
def samplerByte (i k : Nat) (b : Byte) (d : Dev) : Dev :=
  let x := (tget d.sched.samplers i).getD {}
  if 256 ≤ i ∨ x.enable then d
  else
    let n := b.toNat
    let x1 := match k with
      | 1 => if n < 2 then { x with kind := n } else x
      | 2 => if n < 32 then { x with link := (n % 8) * 4 + n / 8 } else x
      | 3 => if n < 8 then { x with cls := n } else x
      | 4 => { x with cove := x.cove / 256 * 256 + n }
      | 5 => if n < 16 then { x with cove := x.cove % 256 + n * 256 } else x
      | 6 => { x with intervalUs := x.intervalUs / 256 * 256 + n }
      | 7 => { x with intervalUs := x.intervalUs % 256 + n * 256 }
      | _ => x
    { d with sched.samplers := tput d.sched.samplers i x1 }

end Sys2Proof.Machine
end

