-- ==== Sys2Proof/Machine/Shallows.lean ====
section
/-! DEFINITION. The Shallows, the read cache in HBM (04 R137): entries by physical address, least recently used first. -/

namespace Sys2Proof.Machine

/-- Bytes an entry takes: ciphertext with block metadata (log entry 9). -/
def cachedBytes (c : Cached) : Nat := c.blocks * 4160

/-- Evict least recently used entries until the rest fits (R137). -/
def trimTo (limit : Nat) : List Cached → List Cached
  | [] => []
  | c :: r => if lsum (c :: r) cachedBytes ≤ limit then c :: r else trimTo limit r

/-- Bits of each half of a namespace's written-block log: one per 1 MiB region (11 R360). -/
def wblRegions (d : Dev) (nsid : Nat) : Nat := ceilDiv (((tget d.host.nss nsid).map (·.nsze)).getD 0) 256

/-- MiB that the halves of all running logs take from the Shallows (11 R360). -/
def wblMiB (d : Dev) : Nat :=
  ceilDiv (lsum (d.cove.wbl.filter (fun e => e.2.running)) (fun e => 2 * ceilDiv (wblRegions d e.1) 8)) 1048576

/-- Set the size in force and evict the excess (R137, 10 R323): the profile's, less the written-block logs (11 R360). -/
def setShallows (mib : Nat) (d : Dev) : Dev :=
  let size := min mib (chartOf d).hbm.shallowsMax - wblMiB d
  { d with str.shallowsMiB := size, str.shallows := trimTo (size * 1048576) d.str.shallows }

/-- Does the Shallows hold the block at a place? -/
def shallowsHit (p : Place) (d : Dev) : Bool :=
  d.str.shallows.any (fun c => c.place.shoal == p.shoal && c.place.row == p.row &&
    decide (c.place.slot ≤ p.slot) && decide (p.slot < c.place.slot + c.blocks))

/-- A hit makes its entry the most recently used. -/
def shallowsTouch (p : Place) (d : Dev) : Dev :=
  let mine := fun (c : Cached) => c.place.shoal == p.shoal && c.place.row == p.row &&
    decide (c.place.slot ≤ p.slot) && decide (p.slot < c.place.slot + c.blocks)
  { d with str.shallows := d.str.shallows.filter (fun c => !mine c) ++ d.str.shallows.filter mine }

/-- Admit a grain (R137): no entry twice, then evict to the size in force. -/
def shallowsAdmit (c : Cached) (d : Dev) : Dev :=
  if d.str.shallows.any (fun e => e.place == c.place) then d
  else { d with str.shallows := trimTo (d.str.shallowsMiB * 1048576) (d.str.shallows ++ [c]) }

/-- Drop every entry of a row, before it becomes FREE (R137). -/
def shallowsDropRow (shoal row : Nat) (d : Dev) : Dev :=
  { d with str.shallows := d.str.shallows.filter (fun c => !(c.place.shoal == shoal && c.place.row == row)) }

end Sys2Proof.Machine
end

