-- ==== Sys2Proof/Machine/Clock.lean ====
section
/-! DEFINITION. The Tide Clock: its two readings, its sources and their discipline, the profile in force (10 R313 to R326). -/

namespace Sys2Proof.Machine

/-- Add sixteenths of a nanosecond to a time of day (R313). -/
def todAdd (t : Tod) (n : Nat) : Tod :=
  let f := t.frac + n
  let ns := t.ns + f / 16
  { s := (t.s + ns / 1000000000) % 2 ^ 48, ns := ns % 1000000000, frac := f % 16 }

/-- One 1.6 GHz cycle (R313): both readings advance by 10 sixteenths of a nanosecond, with the frequency adjustment
applied by the fractional accumulator. Stopped core clocks do not advance (19 R527). -/
def clockTick (d : Dev) : Dev :=
  if d.boot.clocksStopped then d
  else
    let acc := d.clk.acc + (10 * (1000000000 + d.clk.freqPpb)).toNat
    let n := acc / 1000000000
    { d with clk.acc := acc % 1000000000, clk.elapsed16 := d.clk.elapsed16 + n, clk.tod := todAdd d.clk.tod n }

/-! ## Profiles (02 R40, R323, R326) -/

/-- The profiles of the running Tide Table; an omitted section gives one (R40). -/
def profilesOf (c : Chart) : List Profile :=
  if c.tide.omitted then
    [{ rebuildCap := c.light.rebuildMax, ebbCap := c.light.ebbMax, shallows := c.hbm.shallowsMax, patrol := 1,
       swapPermit := 1 }]
  else c.tide.profiles

/-- The entries of the running Tide Table; an omitted section has one swap entry at offset 0 (R40). -/
def entriesOf (c : Chart) : List TideEntry :=
  if c.tide.omitted then [{ offsetS := 0, profile := 0, swap := true, rack := false }] else c.tide.entries

/-- The profile in force at a second of the time of day: the latest entry at or before its place in the period, else the
last entry of the period before (R40). -/
def profileAt (c : Chart) (nowS : Nat) : Nat :=
  let pos := (((nowS : Int) - (c.tide.anchorS : Int)).emod (max c.tide.periodS 1 : Nat)).toNat
  let es := entriesOf c
  match (es.filter (fun e => decide (e.offsetS ≤ pos))).getLast? with
  | some e => e.profile
  | none => (es.getLast?.map (·.profile)).getD 0

/-- The profile record in force. -/
def profileOf (d : Dev) : Profile :=
  (profilesOf (chartOf d)).getD d.clk.profile
    { rebuildCap := (chartOf d).light.rebuildMax, ebbCap := (chartOf d).light.ebbMax
      shallows := (chartOf d).hbm.shallowsMax, patrol := 1, swapPermit := 1 }

/-- Take a profile into force: an INFO event for a change, and the Shallows at its size (R323). -/
def setProfile (p : Nat) (d : Dev) : Dev :=
  let d1 := if p = d.clk.profile then d else logEvent 9 6 0 (payload 0 d.clk.profile p 0) { d with clk.profile := p }
  setShallows (profileOf d1).shallows d1

/-- Work out the profile in force (R323); while the table is suspended the last profile runs on, and profile 0 before the
table has run (R326). An omitted table's single profile runs in every state. -/
def recompute (d : Dev) : Dev :=
  if d.clk.todValid then
    setProfile (profileAt (chartOf d) d.clk.tod.s) { d with clk.suspended := false, clk.tableRan := true }
  else setProfile (if d.clk.tableRan then d.clk.profile else 0) { d with clk.suspended := true }

/-! ## Sources (R315 to R318) -/

/-- Is a source a candidate under the CLOCK section (R315)? -/
def candidate (c : ClockCfg) : Nat → Bool
  | 1 => c.reference == 1 || c.reference == 3
  | 2 => (c.reference == 1 || c.reference == 3) && c.backupPort != 0xFF
  | 3 => c.reference == 2 || c.reference == 3
  | 4 => c.tidelineTime == 1
  | _ => false

/-- A source's record. -/
def sourceOf (k : ClockSt) : Nat → TimeSource
  | 1 => k.ptp
  | 2 => k.ptpBackup
  | 3 => k.pps
  | 4 => k.tline
  | _ => {}

/-- Replace a source's record. -/
def setSource (n : Nat) (t : TimeSource) (k : ClockSt) : ClockSt :=
  match n with
  | 1 => { k with ptp := t }
  | 2 => { k with ptpBackup := t }
  | 3 => { k with pps := t }
  | 4 => { k with tline := t }
  | _ => k

/-- The first valid candidate (R315), 0 for none. -/
def bestSource (d : Dev) : Nat :=
  (([1, 2, 3, 4].filter (fun n => candidate (chartOf d).clock n && (sourceOf d.clk n).valid)).head?).getD 0

/-- The grandmaster and UTC offset that the selected master of the source in use gives (R322). -/
def masterFields (d : Dev) : Dev :=
  let m := if d.clk.source = 1 then d.clk.ptpA.selected else if d.clk.source = 2 then d.clk.ptpB.selected else none
  match m with
  | some a => { d with clk.gmId := a.clockId, clk.utcOffset := if a.utcValid then a.utcOffset else 0,
                       clk.utcValid := a.utcValid }
  | none => { d with clk.gmId := 0, clk.utcOffset := 0, clk.utcValid := false }

/-- Change the source in use: an INFO event (R315). -/
def changeSource (n : Nat) (d : Dev) : Dev :=
  if n = d.clk.source then d
  else masterFields (logEvent 9 1 0 (payload 0 d.clk.source n 0) { d with clk.source := n, clk.lockCount := 0 })

/-- The frequency averaged over the last 60 s of lock (R320): the held adjustments weighted by the time each held. A clock
that never locked keeps the adjustment in force. -/
def averagePpb (now : Nat) (keep : Int) (hist : List (Nat × Int)) : Int :=
  let lo := now - 60000000000
  let r := hist.foldl (fun (acc : Nat × Int × Nat) e =>
    let st := max e.1 lo
    let dt := acc.1 - st
    (min acc.1 st, acc.2.1 + e.2 * (dt : Int), acc.2.2 + dt)) (now, 0, 0)
  if r.2.2 = 0 then ((hist.head?).map (·.2)).getD keep else r.2.1.tdiv r.2.2

/-- The last valid source has gone: HOLDOVER at the averaged frequency (R320). FREE stays FREE (R321). -/
def enterHoldover (d : Dev) : Dev :=
  if d.clk.state = 2 ∧ !d.clk.todValid then { d with clk.source := 0, clk.lockCount := 0 }
  else
    let p := averagePpb (elapsed d) d.clk.freqPpb d.clk.freqHist
    { d with clk.state := 1, clk.holdoverS := d.clk.tod.s, clk.freqPpb := p, clk.lockCount := 0 }

/-- A source has become invalid: it is dropped at once (R315), for the best that is left. -/
def dropSource (n : Nat) (d : Dev) : Dev :=
  let d1 := { d with clk := setSource n { valid := false } d.clk }
  if d.clk.source = n then
    let d2 := changeSource (bestSource d1) d1
    if d2.clk.source = 0 then enterHoldover d2 else d2
  else d1

/-- Step time of day by an offset (R319): an INFO event with old and new seconds, a clock mark, and the profile worked out
afresh (R323, R326). Gate lists resume in the stepped time (R334). -/
def stepTod (off : Int) (d : Dev) : Dev :=
  let t := (((todNs d : Nat) : Int) - off).toNat
  let new : Tod := { s := (t / 1000000000) % 2 ^ 48, ns := t % 1000000000, frac := d.clk.tod.frac }
  let d1 := { d with clk.tod := new, clk.todValid := true, clk.steps := satAdd 16 d.clk.steps 1, clk.lockCount := 0 }
  let gates := tall d1.sched.gates (fun g =>
    if g.waiting.isSome then g else { g with waiting := some g.list })
  recompute (clockMark (logEvent 9 2 0 (payload 0 d.clk.tod.s new.s 0) { d1 with sched.gates := gates }))

/-- The frequency adjustment of a slew (R319): at most 100 ppm, against the offset; its size is left open (log entry 3). -/
def slew (off : Int) (d : Dev) : Dev :=
  let (v, d1) := openValue d
  let m : Int := ((v % 100001 : Nat) : Int)
  let f := if off = 0 then d.clk.freqPpb else if 0 < off then -m else m
  { d1 with clk.freqPpb := f }

/-- A measurement of a source's offset in ns (R315, R319): the source becomes valid; the source in use steps or slews the
clock, and 16 measurements in a row within ±200 ns, or ±50 µs for the Tideline, lock it. -/
def measure (n : Nat) (off : Int) (d : Dev) : Dev :=
  if candidate (chartOf d).clock n then
    let src := sourceOf d.clk n
    let d1 := if src.valid then d
      else { d with clk := setSource n { valid := true } d.clk }
    let d2 := if d1.clk.source = 0 then changeSource n d1 else d1
    let pps := (chartOf d).clock.reference = 3 ∧ d2.clk.pps.valid
    if (d2.clk.source = n ∧ ¬ (pps ∧ n < 3 ∧ d2.clk.todValid)) ∨ (n = 3 ∧ pps ∧ d2.clk.source < 3 ∧ d2.clk.todValid) then
      let o : Int := max (-(2147483647 : Int)) (min off 2147483647)
      let d3 := { d2 with clk.offsetNs := o }
      if !d3.clk.todValid ∨ 1000000 < off.natAbs then stepTod off d3
      else
        let d4 := slew off d3
        let bound := if n = 4 then 50000 else 200
        let c := if off.natAbs ≤ bound then d4.clk.lockCount + 1 else 0
        let d5 := { d4 with clk.lockCount := min c 16 }
        if 16 ≤ c then
          { d5 with clk.state := 0, clk.holdoverS := 0, clk.holdoverExceeded := false,
                    clk.freqHist := ((elapsed d, d5.clk.freqPpb) :: d5.clk.freqHist).take 4096 }
        else d5
    else d2
  else d

/-! ## PTP (R316) -/

/-- The source number of a PTP port: 1 PTP_PORT, 2 BACKUP_PORT. -/
def ptpSource (d : Dev) (port : Nat) : Nat :=
  let c := (chartOf d).clock
  if port = c.ptpPort then 1 else if port = c.backupPort then 2 else 0

/-- What a PTP source has measured. -/
def ptpOf (k : ClockSt) (n : Nat) : PtpPort := if n = 1 then k.ptpA else k.ptpB

/-- Replace what a PTP source has measured. -/
def setPtp (n : Nat) (p : PtpPort) (k : ClockSt) : ClockSt :=
  if n = 1 then { k with ptpA := p } else if n = 2 then { k with ptpB := p } else k

/-- The best of the masters heard (R316), by the best master clock algorithm. -/
def bestMaster : List Announce → Option Announce
  | [] => none
  | a :: r => match bestMaster r with
    | none => some a
    | some b => if Config.bmcaBetter b.rank a.rank then some b else some a

/-- An Announce in DOMAIN feeds master selection (R316). -/
def announce (a : Announce) (d : Dev) : Dev :=
  let n := ptpSource d a.port
  if n = 0 ∨ a.domain ≠ (chartOf d).clock.domain then d
  else
    let p := ptpOf d.clk n
    let ms := p.masters.filter (fun m => m.clockId != a.clockId) ++ [a]
    masterFields { d with clk := setPtp n { p with masters := ms, selected := bestMaster ms } d.clk }

/-- PTP_ANNOUNCE_RECEIVE (R316). -/
def execPtpAnnounceReceive (a : Announce) (s : State) : Result := onDev s (announce a)

/-- The offset that a Sync's times give: receive minus origin minus path delay (R316, R319). -/
def syncMeasure (n : Nat) (rx origin : Int) (d : Dev) : Dev :=
  let p := ptpOf d.clk n
  let off := rx - origin - p.pathDelay
  let d1 := { d with clk := setPtp n { p with syncWait := none, syncDiff := rx - origin, lastOff := off } d.clk }
  measure n off d1

/-- A Sync of the selected master: one-step gives a measurement, two-step waits for its Follow_Up (R316). -/
def sync (port seq : Nat) (twoStep : Bool) (origin rx : Int) (d : Dev) : Dev :=
  let n := ptpSource d port
  let p := ptpOf d.clk n
  if n = 0 ∨ p.selected = none then d
  else if twoStep then { d with clk := setPtp n { p with syncWait := some (seq, rx) } d.clk }
  else syncMeasure n rx origin d

/-- PTP_SYNC_RECEIVE (R319). -/
def execPtpSyncReceive (port seq : Nat) (twoStep : Bool) (originNs rxNs : Int) (s : State) : Result :=
  onDev s (sync port seq twoStep originNs rxNs)

/-- A Follow_Up supplies the origin time of its Sync (R316). -/
def followUp (port seq : Nat) (origin : Int) (d : Dev) : Dev :=
  let n := ptpSource d port
  if n = 0 then d
  else match (ptpOf d.clk n).syncWait with
    | some (q, rx) => if q = seq then syncMeasure n rx origin d else d
    | none => d

/-- PTP_FOLLOW_UP_RECEIVE (R316). -/
def execPtpFollowUpReceive (port seq : Nat) (originNs : Int) (s : State) : Result := onDev s (followUp port seq originNs)

/-- A Delay_Req leaves on link 0 of the port, by the management queue (R316, R327). -/
def delayReq (port seq : Nat) (tx : Int) (d : Dev) : Dev :=
  let n := ptpSource d port
  if n = 0 then d
  else
    let p := ptpOf d.clk n
    queueMgmt (port * 4) { kind := 0, len := 64, opcode := 1, psn := seq }
      { d with clk := setPtp n { p with delayReq := some (seq, tx) } d.clk }

/-- PTP_DELAY_REQ_SEND (R316). -/
def execPtpDelayReqSend (port seq : Nat) (txNs : Int) (s : State) : Result := onDev s (delayReq port seq txNs)

/-- A delay response completes the path delay: the mean of the two directions (R316). -/
def delayResp (port seq : Nat) (rx : Int) (d : Dev) : Dev :=
  let n := ptpSource d port
  if n = 0 then d
  else
    let p := ptpOf d.clk n
    match p.delayReq with
    | some (q, tx) => if q = seq then
        { d with clk := setPtp n { p with delayReq := none, pathDelay := (p.syncDiff + (rx - tx)).tdiv 2 } d.clk }
      else d
    | none => d

/-- PTP_DELAY_RESP_RECEIVE (R316). -/
def execPtpDelayRespReceive (port seq : Nat) (receiveNs : Int) (s : State) : Result := onDev s (delayResp port seq receiveNs)

/-- No Announce of the selected master: it is forgotten and the source becomes invalid (R316). -/
def announceTimeout (port : Nat) (d : Dev) : Dev :=
  let n := ptpSource d port
  if n = 0 then d
  else
    let p := ptpOf d.clk n
    let ms := p.masters.filter (fun m => some m.clockId != p.selected.map (·.clockId))
    masterFields (dropSource n { d with clk := setPtp n { p with masters := ms, selected := bestMaster ms } d.clk })

/-- ANNOUNCE_RECEIPT_TIMEOUT (R316). -/
def execAnnounceReceiptTimeout (port : Nat) (s : State) : Result := onDev s (announceTimeout port)

/-- SYNC_RECEIPT_TIMEOUT (R316). -/
def execSyncReceiptTimeout (port : Nat) (s : State) : Result :=
  onDev s (fun d => if ptpSource d port = 0 then d else dropSource (ptpSource d port) d)

/-! ## PPS (R317) -/

/-- Distance of now from the nearest second boundary that the clock predicts. -/
def ppsPhase (d : Dev) : Int :=
  if d.clk.tod.ns < 500000000 then (d.clk.tod.ns : Int) else (d.clk.tod.ns : Int) - 1000000000

/-- A PPS_IN edge (R315, R317): three in a row more than 1 µs off make PPS_IN invalid; with REFERENCE 3 a disagreement of
more than 1 µs with PTP is a WARN event. -/
def ppsEdge (d : Dev) : Dev :=
  if candidate (chartOf d).clock 3 then
    let off := ppsPhase d
    let misses := if d.clk.todValid ∧ 1000 < off.natAbs then d.clk.ppsMisses + 1 else 0
    if 3 ≤ misses then dropSource 3 { d with clk.ppsMisses := 0 }
    else
      let d1 := { d with clk.ppsMisses := misses }
      let ptpOff := if d.clk.source = 2 ∨ !d.clk.ptp.valid then d.clk.ptpB.lastOff else d.clk.ptpA.lastOff
      let d2 := if (chartOf d).clock.reference = 3 ∧ (d.clk.ptp.valid ∨ d.clk.ptpBackup.valid) ∧
          1000 < (off - ptpOff).natAbs then logEvent 9 5 1 (payload 0 0 0 0) d1 else d1
      measure 3 off d2
  else d

/-- PPS_IN_EDGE (R317). -/
def execPpsInEdge (s : State) : Result := onDev s ppsEdge

/-- PPS_IN_TIMEOUT (R317). -/
def execPpsInTimeout (s : State) : Result := onDev s (fun d => dropSource 3 { d with clk.ppsMisses := 0 })

/-- PPS_OUT_PULSE (R317): PPS_OUT rises while the Chart drives it. -/
def execPpsOutPulse (s : State) : Result :=
  onDev s (fun d => if (chartOf d).clock.ppsOut = 1 then { d with clk.ppsOut := true } else d)

/-- PPS_OUT_FALL (R317). -/
def execPpsOutFall (s : State) : Result := onDev s (fun d => { d with clk.ppsOut := false })

/-- SOURCE_REVERT_TIMER (R315): a higher-priority source valid for 10 s is taken back. -/
def execSourceRevertTimer (source : Nat) (s : State) : Result :=
  onDev s (fun d =>
    if candidate (chartOf d).clock source ∧ (sourceOf d.clk source).valid ∧ (source < d.clk.source ∨ d.clk.source = 0)
    then changeSource source d else d)

/-- HOLDOVER_LIMIT (R320). -/
def execHoldoverLimit (s : State) : Result :=
  onDev s (fun d => if d.clk.state = 1 ∧ !d.clk.holdoverExceeded then
    logEvent 9 3 1 (payload 0 0 0 0) { d with clk.holdoverExceeded := true } else d)

/-- The clock at a beginning of bring-up step 1 (R313, R321): both readings restart, FREE, with its WARN event; gate lists
run unaligned, with theirs. -/
def clockStart (d : Dev) : Dev :=
  let d1 := { d with clk := {} }
  let d2 := logEvent 9 4 1 (payload 0 0 0 0) d1
  if (chartOf d).gates.isEmpty then d2 else logEvent 9 9 1 (payload 0 0 0 0) d2

end Sys2Proof.Machine
end

