-- ==== Sys2Proof/Machine/Fabric.lean ====
section
/-! DEFINITION. Prism's cells (09 R285 to R302): headers, flows and planes, virtual output queues, credits, arbitration, delivery and
the joining of units; and the inline cipher engines' assignment and countermeasures (12 R366, R372). A command's own effect is whole
(log entry 6): the cells of its data follow it through the queues, and move at each idle cycle (log entries 8 and 36). -/

namespace Sys2Proof.Machine

/-! ## Cells (R286, R288) -/

/-- The 128-bit header of a cell (R288): unused REPL entries are 63. -/
def cellHeader (c : Cell) : BitVec 128 :=
  let kind := match c.kind with
    | .data => 0
    | .control => 1
    | .capture => 2
  let repl := ((c.repl ++ List.replicate 8 63).take 8).foldl (fun a x => a * 64 + x % 64) 0
  BitVec.ofNat 128 (((((((c.src % 64) * 2 ^ 48 + repl) * 8 + c.cls % 8) * 4 + kind) * 8
      + (4 * b2n c.first + 2 * b2n c.last + b2n c.poison)) * 4 + c.epoch % 4) * 2 ^ 64
    + ((((c.fill % 256 * 4096 + c.cove % 4096) * 256 + c.gen % 256) * 2 ^ 20 + c.tag % 2 ^ 20) * 2 ^ 13 + c.offset % 8192) * 8)

/-- Cells of a transfer unit (R286). -/
def cellCount (bytes : Nat) : Nat := max 1 (ceilDiv bytes 256)

/-- A REPL entry of 45 to 62 is an internal error (R288). -/
def badRepl (repl : List Nat) : Bool := repl.any (fun o => decide (45 ≤ o) && decide (o ≤ 62))

/-! ## Flows and planes (R290) -/

/-- Plane of a bucket (R290): the PIN entry, b mod 8 unless it was moved. -/
def planeOf (d : Dev) (b : Nat) : Nat := (tget d.prism.pin b).getD (b % 8)

/-- Bucket of a flow key (R290). -/
def bucketOf (k : Nat) : Nat := Nat.xor (Nat.xor k (k / 4096)) (k / 16777216) % 4096

/-- Is an output station disabled (R299): the Strait without its link, or a network port all of whose links are down? -/
def outputDown (d : Dev) (o : Nat) : Bool :=
  if o = 12 then !d.pair.straitUp
  else decide (o < 8) && [0, 1, 2, 3].all (fun i => !((tget d.net.links (4 * o + i)).map (·.up)).getD false)

/-! ## Virtual output queues (R294) -/

/-- The queue of a cell at its ingress station: unicast by output and class, multicast by class, control, capture. -/
def laneOf (c : Cell) : Nat :=
  c.src * 1024 + match c.kind with
    | .control => 520
    | .capture => 521
    | .data => match c.repl with
      | [o] => o * 8 + c.cls
      | _ => 512 + c.cls

/-- Put a unit into its queue, last. -/
def queueRun (r : CellRun) (d : Dev) : Dev :=
  { d with path.voq := tput d.path.voq (laneOf r.cell) ((tget d.path.voq (laneOf r.cell)).getD [] ++ [r]) }

/-- Send a transfer unit (R286, R290, R306): classified at the epoch in force, cut into cells, without the outputs that are disabled
(R299); one that no output is left for is discarded and counted, one with a reserved entry is poisoned and counted (R288). With `cmd` it
belongs to an admitted command of the Cove (11 R353). -/
def sendUnit (src : Nat) (repl : List Nat) (kind : CellKind) (cmd : Bool) (cls cove key tag bytes : Nat) (d : Dev) : Dev :=
  let outs := (repl.take 8).filter (fun o => o != 63 && !outputDown d o)
  let n := cellCount bytes
  let bad := badRepl outs
  if outs.isEmpty then { d with path.discarded := d.path.discarded + n }
  else
    let c : Cell := { src := src, repl := outs, cls := if kind = .data then cls else 0, kind := kind, last := n == 1, poison := bad
                      epoch := d.prism.epoch, fill := if n = 1 then (bytes - 1) % 256 else 255, cove := cove
                      gen := ((tget d.cove.tab cove).map (·.gen)).getD 0, tag := tag % 2 ^ 20, bucket := bucketOf key }
    let u : PrismUnit := { src := src, tag := tag % 2 ^ 20, epoch := d.prism.epoch, outs := outs, poison := bad
                           cmd := if cmd then some (cove, c.gen) else none }
    let d1 := queueRun { cell := c, more := n - 1, fill := (bytes + 255) % 256 } { d with path.units := d.path.units ++ [u] }
    if bad then occur 3 3 1 { master := some src, tclass := some cls } d1 else d1

/-- A control message of up to 256 bytes, in one cell (R289). -/
def sendMessage (src dst tag bytes : Nat) (d : Dev) : Dev := sendUnit src [dst] .control false 0 0 tag tag (min bytes 256) d

/-- A unit in the class of a Cove (R296), which no command of the Cove owns: stripe assembly, parity, strip writes and map pages. -/
def hostUnit (src : Nat) (repl : List Nat) (cove key tag bytes : Nat) (d : Dev) : Dev :=
  sendUnit src repl .data false (coveCfg d cove).tclass cove key tag bytes d

/-- A command unit: the data of an admitted command of a Cove (R296, 11 R353). -/
def cmdUnit (src : Nat) (repl : List Nat) (cove key tag bytes : Nat) (d : Dev) : Dev :=
  sendUnit src repl .data true (coveCfg d cove).tclass cove key tag bytes d

/-- The traffic of Ebb, rebuild, resync, patrol, checkpoints and the scrub (R296). -/
def upkeepUnit (src : Nat) (repl : List Nat) (key tag bytes : Nat) (d : Dev) : Dev :=
  sendUnit src repl .data false (chartOf d).housekeepingClass 0 key tag bytes d

/-! ## Stations (R287) -/

/-- Rates of a station into and out of Prism, in units of 0.1 GB/s (R287). -/
def stationRate (s : Nat) : Nat × Nat :=
  if s < 8 then (600, 600) else if s < 12 then (1200, 1200) else if s = 12 then (2000, 2000) else if s < 37 then (256, 256)
  else if s < 41 then (640, 640) else if s < 43 then (4000, 4000) else if s = 43 then (1280, 2560) else (80, 80)

/-- Station of a bay's drive complex. -/
def driveStation (bay : Nat) : Nat := 8 + bay / 8

/-- Attributes of a member's occurrences (17 R489): the station of its drive complex and the class. -/
def memberAttr (bay cls : Nat) : Attr := { master := some (driveStation bay), mclass := some cls }

/-- Writes of a kind that are complete count their bytes (17 R489). -/
def countWritten (bytes : Nat) (done : List (Nat × MemberCmd)) (d : Dev) : Dev :=
  done.foldl (fun a e => occur 6 2 bytes (memberAttr e.2.bay 0) a) d

/-- Stations: the Strait, the Tide Pool, the management complex, and the HBM stack of a buffer (log entry 36). -/
def straitStation : Nat := 12

/-- The Tide Pool. -/
def poolStation : Nat := 43

/-- The management complex. -/
def mgmtStation : Nat := 44

/-- The HBM stack of a buffer (log entry 36). -/
def hbmStation (tag : Nat) : Nat := 41 + tag % 2

/-- The parity engine of a job (log entry 36). -/
def parityStation (row : Nat) : Nat := 37 + row % 4

/-! ## Credits (R295) -/

/-- Cells that an egress buffer of a plane holds or owes a place to. -/
def buffered (d : Dev) (o p : Nat) : List Cell :=
  (tget d.path.egress (o * 8 + p)).getD []
    ++ (((((tget d.path.arbs p).map (·.copies)).getD []).filter (fun x => x.1 == o)).map (·.2))

/-- Cells beyond the reserves: 16 for each class and 32 for control cells; the shared part holds 352. -/
def sharedUse (l : List Cell) : Nat :=
  lsum (List.range 8) (fun c => (l.filter (fun x => x.kind == .data && x.cls == c)).length - 16)
    + ((l.filter (fun x => x.kind == .control)).length - 32) + (l.filter (fun x => x.kind == .capture)).length

/-- Is a credit held at an output for a cell (R295)? -/
def creditAt (d : Dev) (p : Nat) (c : Cell) (o : Nat) : Bool :=
  let l := buffered d o p
  let own := match c.kind with
    | .data => decide ((l.filter (fun x => x.kind == .data && x.cls == c.cls)).length < 16)
    | .control => decide ((l.filter (fun x => x.kind == .control)).length < 32)
    | .capture => false
  own || decide (sharedUse l < 352)

/-- Tokens of a station's port rate: a cell is 4,096 units, a clock gives its rate in units of 0.1 GB/s. -/
def tokens (t : Table Nat) (s : Nat) : Nat := (tget t s).getD 8192

/-- May a cell go on a plane: its flow is pinned there, a credit is held for every output, its station's rate permits it? -/
def eligible (d : Dev) (p : Nat) (c : Cell) : Bool :=
  planeOf d c.bucket == p && c.repl.all (creditAt d p c) && decide (4096 ≤ tokens d.path.inTokens c.src)

/-! ## Arbitration (R297) -/

/-- The arbiter of a plane. -/
def arbOf (d : Dev) (p : Nat) : PlaneArb := (tget d.path.arbs p).getD {}

/-- Queues of a lane kind whose head may go on a plane. -/
def ready (d : Dev) (p : Nat) (f : Cell → Bool) : List (Nat × CellRun) :=
  d.path.voq.filterMap (fun e => match e.2 with
    | [] => none
    | r :: _ => if f r.cell && eligible d p r.cell then some (e.1, r) else none)

/-- Of ready queues, that of the next station in round robin (R297); within a station the lowest queue (log entry 36). -/
def nextStation (last : Nat) (l : List (Nat × CellRun)) : Option (Nat × CellRun) :=
  match l.find? (fun e => decide (last < e.2.cell.src)) with
  | some e => some e
  | none => l.head?

/-- The next cell of a run, once a cell has gone. -/
def afterCell (r : CellRun) : Option CellRun :=
  if r.more = 0 then none
  else some { r with more := r.more - 1
                     cell := { r.cell with first := false, last := r.more == 1, fill := if r.more = 1 then r.fill else 255
                                           offset := r.cell.offset + 1 } }

/-- Take the head cell of a queue (R294). -/
def takeCell (k : Nat) (d : Dev) : Dev :=
  match tget d.path.voq k with
  | some (r :: rest) =>
    let q := (afterCell r).toList ++ rest
    { d with
      path.voq := if q.isEmpty then terase d.path.voq k else tput d.path.voq k q
      path.inTokens := tput d.path.inTokens r.cell.src (tokens d.path.inTokens r.cell.src - 4096) }
  | _ => d

/-- Deliver a copy to an output's buffer (R285, R298), and count it (17 R489). -/
def putCopy (p o : Nat) (c : Cell) (d : Dev) : Dev :=
  let event := match c.kind with
    | .data => 0
    | .control => 1
    | .capture => 2
  occur 3 event 1 { master := some c.src, tclass := if c.kind = .data then some c.cls else none }
    { d with path.egress := tput d.path.egress (o * 8 + p) ((tget d.path.egress (o * 8 + p)).getD [] ++ [c]) }

/-- Send a cell on a plane: its first copy is delivered now, the others after it in REPL order (R297). -/
def crossPlane (p : Nat) (k : Nat) (r : CellRun) (a : PlaneArb) (d : Dev) : Dev :=
  match r.cell.repl with
  | [] => d
  | o :: rest => putCopy p o r.cell { takeCell k d with path.arbs := tput d.path.arbs p { a with copies := rest.map (fun x => (x, r.cell)) ++ a.copies } }

/-- The weight of a class (R37). -/
def prismWeight (d : Dev) (c : Nat) : Nat := (chartOf d).prismWeights.getD c 0

/-- The class that deficit round robin serves: the one under way while its quantum lasts, else the next of the weighted classes that has
an eligible cell, with a new quantum of as many cells as its weight. -/
def nextClass (d : Dev) (p : Nat) (a : PlaneArb) : Option (Nat × Nat) :=
  let work := fun (c : Nat) => decide (0 < prismWeight d c) && !(ready d p (fun x => x.kind == .data && x.cls == c)).isEmpty
  if 0 < a.left ∧ work a.cls then some (a.cls, a.left)
  else (((List.range 8).map (fun i => (a.cls + 1 + i) % 8)).find? work).map (fun c => (c, prismWeight d c))

/-- One delivery slot of a plane (R297): a control cell if none took one of the last 15, else the next copy of the cell under way, else
by deficit round robin a weighted class, else a class of weight 0, else a capture cell. -/
def planeSlot (p : Nat) (d : Dev) : Dev :=
  let a := arbOf d p
  let b := { a with sinceControl := min 15 (a.sinceControl + 1) }
  let setArb := fun (x : PlaneArb) (y : Dev) => { y with path.arbs := tput y.path.arbs p x }
  match (if 15 ≤ a.sinceControl then ready d p (fun c => c.kind == .control) else []) with
  | (k, r) :: _ => crossPlane p k r { a with sinceControl := 0 } d
  | [] => match a.copies with
    | (o, c) :: rest => putCopy p o c (setArb { b with copies := rest } d)
    | [] => match nextClass d p a with
      | some (c, left) => match nextStation (a.stations.getD c 63) (ready d p (fun x => x.kind == .data && x.cls == c)) with
        | some (k, r) => crossPlane p k r { b with cls := c, left := left - 1, stations := setNth a.stations c r.cell.src } d
        | none => setArb b d
      | none => match ready d p (fun x => x.kind == .data) ++ ready d p (fun x => x.kind == .capture) with
        | (k, r) :: _ => crossPlane p k r b d
        | [] => (if d.path.voq.any (fun e => e.2.head?.any (fun r => planeOf d r.cell.bucket == p)) then occur 3 5 1 {} else id) (setArb b d)

/-- Data cells of a class that a plane could take now. -/
def waitingCells (d : Dev) (p c : Nat) : List (Nat × CellRun) := ready d p (fun x => x.kind == .data && x.cls == c)

/-- A delivery slot, counted for the Lighthouse (14 R426): did another class than HOUSEKEEPING_CLASS wait with an eligible cell? -/
def countedSlot (p : Nat) (d : Dev) : Dev :=
  let e := planeSlot p d
  if e.path.egress == d.path.egress then e
  else
    let waits := (List.range 8).any (fun c =>
      c != (chartOf d).housekeepingClass && !(waitingCells d p c).isEmpty && waitingCells d p c == waitingCells e p c)
    { e with path.deliveries := e.path.deliveries + 1, path.contended := e.path.contended + b2n waits }

/-! ## Consumption (R291, R301, R302, R308) -/

/-- A unit's life ends at an output (R308): at its last output the unit leaves Prism and its epoch. The result of a command unit whose
generation is not its Cove's current one is discarded and counted (11 R353). -/
def endAt (o : Nat) (c : Cell) (poison : Bool) (d : Dev) : Dev :=
  match d.path.units.find? (fun u => u.src == c.src && u.tag == c.tag && u.outs.contains o) with
  | none => d
  | some u =>
    let left := u.outs.erase o
    let rest := d.path.units.erase u
    let old := u.cmd.any (fun g => ((tget d.cove.tab g.1).map (·.gen)).getD 0 != g.2)
    let d0 := if old then { d with path.stale := d.path.stale + 1 } else d
    let d1 := if poison ∧ !u.poison then occur 3 3 1 { master := some c.src, tclass := some c.cls } d0 else d0
    { d1 with path.units := if left.isEmpty then rest else rest ++ [{ u with outs := left, poison := u.poison || poison }] }

/-- A station consumes a cell (R291, R301): it joins the unit by TAG and OFFSET, whatever the order of arrival; a poisoned cell taints
the unit, which then never becomes visible as good data (R302). -/
def consume (o : Nat) (c : Cell) (d : Dev) : Dev :=
  let same := fun (j : CellJoin) => j.station == o && j.src == c.src && j.tag == c.tag
  let j := (d.path.joins.find? same).getD { station := o, src := c.src, tag := c.tag }
  let j1 := { j with got := tput j.got c.offset c.fill, last := if c.last then some c.offset else j.last, poison := j.poison || c.poison }
  let rest := d.path.joins.filter (fun x => !same x)
  if j1.last.any (fun n => decide (n < j1.got.length) || j1.poison) then endAt o c j1.poison { d with path.joins := rest }
  else { d with path.joins := rest ++ [j1] }

/-- A station takes the next cell of its buffers, if its rate permits (R287): the plane of the longest buffer first (log entry 36). -/
def drainStation (o : Nat) (d : Dev) : Dev :=
  if tokens d.path.outTokens o < 4096 then d
  else
    let l := (List.range 8).map (fun p => (p, (tget d.path.egress (o * 8 + p)).getD []))
    let best := l.foldl (fun (a : Nat × List Cell) x => if a.2.length < x.2.length then x else a) (0, [])
    match best.2 with
    | [] => d
    | c :: rest => consume o c { d with
        path.egress := if rest.isEmpty then terase d.path.egress (o * 8 + best.1) else tput d.path.egress (o * 8 + best.1) rest
        path.outTokens := tput d.path.outTokens o (tokens d.path.outTokens o - 4096) }

/-- Stations with cells in their egress buffers. -/
def fullStations (d : Dev) : List Nat := ((d.path.egress.map (fun e => e.1 / 8))).eraseDups

/-- One clock of Prism (R285, R287): the ports' tokens grow, every second clock each plane in service makes a delivery, and the stations
consume. -/
def prismClock (d : Dev) : Dev :=
  if d.path.voq.isEmpty ∧ d.path.egress.isEmpty then d
  else
    let d1 := { d with
      path.phase := !d.path.phase
      path.inTokens := d.path.inTokens.map (fun e => (e.1, min 8192 (e.2 + (stationRate e.1).1)))
      path.outTokens := d.path.outTokens.map (fun e => (e.1, min 8192 (e.2 + (stationRate e.1).2))) }
    let d2 := if d1.path.phase then d.prism.planes.foldl (fun a p => countedSlot p a) d1 else d1
    (fullStations d2).foldl (fun a o => drainStation o a) d2

/-! ## Outputs and planes that go (R292, R299, R304) -/

/-- The cells queued for a disabled station are discarded and counted; units that lose their last output end (R299, R308). -/
def dropOutput (o : Nat) (d : Dev) : Dev :=
  let cut := fun (c : Cell) => { c with repl := c.repl.filter (fun x => x != o) }
  let runs := d.path.voq.flatMap (·.2)
  let lost := lsum (runs.filter (fun r => r.cell.repl.contains o)) (fun r => r.more + 1)
  let kept := (runs.map (fun r => { r with cell := cut r.cell })).filter (fun r => !r.cell.repl.isEmpty)
  let d1 := kept.foldl (fun a r => queueRun r a) { d with path.voq := [] }
  { d1 with
    path.egress := d.path.egress.filter (fun e => e.1 / 8 != o)
    path.arbs := tall d.path.arbs (fun a => { a with copies := a.copies.filter (fun x => x.1 != o) })
    path.joins := d.path.joins.filter (fun j => j.station != o)
    path.units := (d.path.units.map (fun u => { u with outs := u.outs.filter (fun x => x != o) })).filter (fun u => !u.outs.isEmpty)
    path.discarded := d.path.discarded + lost
      + lsum (d.path.egress.filter (fun e => e.1 / 8 == o)) (fun e => e.2.length) }

/-- The cells that a plane holds are discarded, and every unit that loses one is poisoned (R292 step 2): what of it is still to come is
poisoned, and what has been joined is tainted; a unit whose last cell is lost ends. -/
def dropPlane (p : Nat) (d : Dev) : Dev :=
  let held := (d.path.egress.filter (fun e => e.1 % 8 == p)).flatMap (fun e => e.2.map (fun c => (e.1 / 8, c))) ++ (arbOf d p).copies
  let hit := fun (s t : Nat) => held.any (fun x => x.2.src == s && x.2.tag == t)
  let d1 := { d with
    path.egress := d.path.egress.filter (fun e => e.1 % 8 != p)
    path.arbs := terase d.path.arbs p
    path.voq := tall d.path.voq (fun l => l.map (fun r =>
      if hit r.cell.src r.cell.tag && !r.cell.first then { r with cell := { r.cell with poison := true } } else r))
    path.joins := d.path.joins.map (fun j => if hit j.src j.tag then { j with poison := true } else j)
    path.discarded := d.path.discarded + held.length }
  held.foldl (fun a x => if x.2.last then endAt x.1 x.2 true { a with path.joins := a.path.joins.filter (fun j =>
    !(j.station == x.1 && j.src == x.2.src && j.tag == x.2.tag)) } else a) d1

/-! ## Cipher engines (12 R366, R372) -/

/-- Cells queued toward an engine's station. -/
def engineLoad (d : Dev) (e : Nat) : Nat :=
  lsum ((d.path.voq.flatMap (·.2)).filter (fun r => r.cell.repl.contains (13 + e))) (fun r => r.more + 1)
    + lsum (d.path.egress.filter (fun x => x.1 / 8 == 13 + e)) (fun x => x.2.length)

/-- Reserved engines (R366). -/
def reservedEngine (d : Dev) (e : Nat) : Bool := bit (chartOf d).directedMask e

/-- The engine with the fewest cells queued among those that may take a job (R366), the lowest on a tie: a directed job goes only to a
reserved engine. A directed job is whole within its command, so that no reserved engine has one queued. -/
def pickEngine (d : Dev) (directed : Bool) : Nat :=
  let l := (List.range 24).filter (fun e => !directed || reservedEngine d e)
  (l.foldl (fun (a : Option (Nat × Nat)) e => match a with
    | none => some (e, engineLoad d e)
    | some x => if engineLoad d e < x.2 then some (e, engineLoad d e) else a) none |>.map (·.1)).getD 0

/-- One pass of an engine over a 4 KiB block (R372): fresh mask randomness, 48 bytes for XTS and GCM and 64 for a directed pass, remasks
both shares of the key schedule and of the AES state. The DRBG instance takes a new seed at 2^24 requests, unless the entropy source has
failed (R374). -/
def enginePass (e key data bytes : Nat) (d : Dev) : Dev :=
  let x := (tget d.path.engines e).getD {}
  let y := if 2 ^ 24 ≤ x.requests ∧ d.keys.entropyOk then { x with requests := 0, seeds := x.seeds + 1 } else x
  let m := Config.engineMask e y.seeds y.requests % 2 ^ (8 * bytes)
  let km := m % 2 ^ 256
  let sm := m / 2 ^ 256 % 2 ^ 128
  let z := { y with requests := y.requests + 1, key := (km, Nat.xor km (key % 2 ^ 256))
                    state := (sm, Nat.xor sm (Config.engineState key data % 2 ^ 128)) }
  { d with path.engines := tput d.path.engines e z }

/-- Encrypt or decrypt a block at rest under its namespace's key: one engine processes it whole (R365, R366, R372). -/
def atRestPass (e nsid data : Nat) (d : Dev) : Dev :=
  enginePass e (((tget d.keys.nsKeys nsid).map (·.key)).getD 0) data 48 d

/-- Attributes of an engine's occurrences for a Cove (17 R489). -/
def engineAttr (e cove : Nat) : Attr := { coveAttr cove with master := some (13 + e) }

/-- A command's block passes an engine at rest, and counts as an XTS or a GCM block (17 R489). -/
def blockPass (e cove nsid data : Nat) (d : Dev) : Dev :=
  occur 7 (b2n (((tget d.host.nss nsid).map (·.auth)).getD false)) 1 (engineAttr e cove) (atRestPass e nsid data d)

end Sys2Proof.Machine
end

