-- ==== Sys2Proof/Machine/Prism.lean ====
section
/-! DEFINITION. Prism's planes and epochs (09 R290 to R308), and the header capture ring (09 R309 to R312). -/

namespace Sys2Proof.Machine

/-! ## Planes (R290, R292) -/

/-- Give buckets to the serving planes in turn, in ascending order (R292 step 3). -/
def repin (planes : List Nat) : Nat → List Nat → Table Nat → Table Nat
  | _, [], t => t
  | i, b :: r, t => repin planes (i + 1) r (tput t b (planes.getD (i % max planes.length 1) 0))

/-- A plane leaves service (R292): the cells it holds are discarded, its buckets are re-pinned, a FAULT event names it; it stays out
until a restart. -/
def planeOut (p : Nat) (d : Dev) : Dev :=
  if !d.prism.planes.contains p ∨ d.prism.planes.length ≤ 1 then d
  else
    let left := d.prism.planes.filter (fun q => q != p)
    let mine := (List.range 4096).filter (fun b => planeOf d b == p)
    logEvent 7 1 2 (payload p 0 0 0) { dropPlane p d with prism.planes := left, prism.pin := repin left 0 mine d.prism.pin }

/-- PLANE_OUT_OF_SERVICE (R292). -/
def execPlaneOutOfService (plane : Nat) (s : State) : Result := onDev s (planeOut plane)

/-! ## Epochs (R306, R308) -/

/-- Is an epoch live (R306): E itself, or one with units in flight? At most four are. -/
def liveEpoch (d : Dev) (n : Nat) : Bool :=
  n == d.prism.epoch || decide (n < d.prism.epoch) && decide (d.prism.epoch < n + 4) &&
    (d.prism.inflight.getD (n % 4) 0 != 0 || d.path.units.any (fun u => u.epoch == n))

/-- Is the version that a change at epoch `e` replaced still held: does an epoch before `e` live (R306)? -/
def olderLive (d : Dev) (e : Nat) : Bool := (List.range 4).any (fun i => decide (i < e) && liveEpoch d (e - 1 - i))

/-- Is an entry's change still to land, or the version before it not retired yet (R306, 11 R346)? -/
def entryBusy (d : Dev) (c : TableChange) : Bool :=
  d.prism.changes.contains c || d.prism.versions.any (fun v => v.1 == c && olderLive d v.2)

/-- Epochs that are live: E itself, and those with units in flight (R306). -/
def liveEpochs (d : Dev) : Nat :=
  ((List.range 4).filter (fun i =>
    i == d.prism.epoch % 4 || d.prism.inflight.getD i 0 != 0 || d.path.units.any (fun u => u.epoch % 4 == i))).length

/-- EPOCH_STALL_TIMER (R308): a change waits on an epoch that has not drained; a WARN event names the oldest unit. -/
def execEpochStallTimer (tag : Nat) (s : State) : Result :=
  onDev s (fun d => if 4 ≤ liveEpochs d then logEvent 7 2 1 (payload tag 0 0 0) d else d)

/-! ## The header capture ring (R309 to R312) -/

/-- RECORDS of the ring (R309). -/
def captureRecords (d : Dev) : Nat := (chartOf d).hbm.capture * 1048576 / 192

/-- Does a frame match a filter (R310)? -/
def filterMatch (f : CaptureFilter) (egress dropped : Bool) (x : FrameInfo) : Bool :=
  let field := fun (v want mask : Nat) => Nat.land (Nat.xor v want) mask == 0
  let roce := x.kind == 0
  f.enable && f.sampleN != 0 && (if egress then f.egress else f.ingress) && bit f.portMask x.port &&
    (decide (x.kind < 3) && bit f.kinds x.kind || dropped && bit f.kinds 3) &&
    field (if roce then x.qpn else 0) f.qpn f.qpnMask && field (if roce then x.opcode else 0) f.opcode f.opcodeMask &&
    field (if roce then x.cove else 0) f.cove f.coveMask

/-- Each matching filter counts the frame; it selects the first and every SAMPLE_N-th match (R310). The lowest selecting
filter, and the filters. -/
def runFilters (egress dropped : Bool) (x : FrameInfo) : Table CaptureFilter → Option Nat × Table CaptureFilter
  | [] => (none, [])
  | (i, f) :: r =>
    let (sel, t) := runFilters egress dropped x r
    if filterMatch f egress dropped x then
      let take := f.sampleCount % max f.sampleN 1 == 0
      (if take then some i else sel,
        (i, { f with matched := (f.matched + 1) % 2 ^ 32, taken := (f.taken + b2n take) % 2 ^ 32,
                     sampleCount := f.sampleCount + 1 }) :: t)
    else (sel, (i, f) :: t)

/-- FLAGS of a record (R311). -/
def captureFlags (x : FrameInfo) (stomped dropped underrun : Bool) : Nat :=
  b2n (!x.fcsOk) + 4 * b2n stomped + 8 * b2n underrun + 16 * b2n dropped + 32 * b2n x.ce

/-- A record of 192 bytes (R311). -/
def captureRecord (d : Dev) (i : Nat) (egress : Bool) (flags : Nat) (x : FrameInfo) : Nat :=
  let head := (x.bytes ++ List.replicate 128 0#8).take 128
  let t := d.clk.tod
  leNum (head ++ leBytes d.prism.capture.producer 8 ++ leBytes t.s 6 ++ leBytes t.ns 4 ++ leBytes (t.frac % 16) 1
    ++ leBytes (x.port % 8 + 32 * (x.link % 4) + 128 * b2n egress) 1 ++ leBytes i 1 ++ leBytes flags 1 ++ leBytes x.len 2
    ++ leBytes (if x.kind = 0 then x.qpn % 2 ^ 24 else 0) 4 ++ leBytes (if x.kind = 0 then x.cove % 4096 + 32768 else 0) 2
    ++ leBytes 0 2 ++ leBytes d.prism.capture.missed 4)

/-- Plane of a capture cell of a frame (R290). -/
def capturePlane (d : Dev) (x : FrameInfo) : Nat := planeOf d (bucketOf x.qpn)

/-- May a capture cell be sent (R312): a credit of the shared part is held at the HBM stack of the ring, and the plane has made 128
deliveries, 160 ns, since its last one? -/
def captureRoom (d : Dev) (x : FrameInfo) (n : Nat) : Bool :=
  let p := capturePlane d x
  let o := hbmStation (d.prism.capture.producer % n)
  creditAt d p { src := x.port, repl := [o], kind := .capture } o && ((tget d.path.captureAt p).all (fun t => decide (t + 2560 ≤ d.clk.elapsed16)))

/-- A record that is not written (R309, R312). -/
def captureMissed (d : Dev) : Dev :=
  { d with prism.capture.dropped := d.prism.capture.dropped + 1, prism.capture.missed := d.prism.capture.missed + 1 }

/-- A frame passes the capture filters (R310 to R312): a selected one takes a place in the ring, and its cell goes to the HBM stack of the
ring; it counts in DROPPED once a stop-mode ring is full, and where the cell finds no credit or no room in its share. -/
def capture (egress dropped : Bool) (flags : Nat) (x : FrameInfo) (d : Dev) : Dev :=
  let (sel, t) := runFilters egress dropped x d.prism.capture.filters
  let d1 := { d with prism.capture.filters := t }
  match sel with
  | none => d1
  | some i =>
    let n := captureRecords d
    if !d.prism.capture.enable ∨ n = 0 then d1
    else if (d.prism.capture.stopMode ∧ n ≤ d.prism.capture.producer) ∨ captureRoom d x n = false then captureMissed d1
    else sendUnit x.port [hbmStation (d.prism.capture.producer % n)] .capture false 0 0 x.qpn d.prism.capture.producer 192
      { d1 with prism.capture.ring := tput d.prism.capture.ring (d.prism.capture.producer % n) (captureRecord d i egress flags x)
                prism.capture.producer := d.prism.capture.producer + 1, prism.capture.missed := 0
                path.captureAt := tput d.path.captureAt (capturePlane d x) d.clk.elapsed16 }

/-- Device address of the capture control and filters (R309). -/
def captureBase : Nat := 0x0000000300010000

/-- A write of the ring's CTRL byte (R309): reserved bits are ignored; with CAPTURE 0 ENABLE stays clear. -/
def captureCtrl (v : Byte) (d : Dev) : Dev :=
  let on := v.getLsbD 0 && captureRecords d != 0
  let c := d.prism.capture
  let c1 := { c with enable := on, stopMode := v.getLsbD 1 }
  if on && !c.enable then
    { d with prism.capture := { c1 with producer := 0, dropped := 0, missed := 0
                                        filters := tall c.filters (fun f => { f with sampleCount := 0 }) } }
  else { d with prism.capture := c1 }

/-- CAPTURE_CTRL_WRITE (R309). -/
def execCaptureCtrlWrite (v : Byte) (s : State) : Result := onDev s (onTable captureBase (captureCtrl v))

/-- Byte `k` of a number replaced. -/
def setByte (x k : Nat) (b : Nat) : Nat := x - bits x (8 * k + 7) (8 * k) * 2 ^ (8 * k) + b % 256 * 2 ^ (8 * k)

/-- A write of byte `k` of filter `i` (R310): setting ENABLE zeroes its counts. -/
def filterByte (i k : Nat) (b : Byte) (d : Dev) : Dev :=
  if 16 ≤ i then d
  else
    let f := (tget d.prism.capture.filters i).getD {}
    let n := b.toNat
    let g := match k with
      | 0 =>
        let on := b.getLsbD 0
        let x := { f with enable := on, ingress := b.getLsbD 1, egress := b.getLsbD 2 }
        if on && !f.enable then { x with matched := 0, taken := 0, sampleCount := 0 } else x
      | 1 => { f with portMask := n }
      | 2 => { f with sampleN := setByte f.sampleN 0 n }
      | 3 => { f with sampleN := setByte f.sampleN 1 n }
      | 4 => { f with qpn := setByte f.qpn 0 n }
      | 5 => { f with qpn := setByte f.qpn 1 n }
      | 6 => { f with qpn := setByte f.qpn 2 n }
      | 8 => { f with qpnMask := setByte f.qpnMask 0 n }
      | 9 => { f with qpnMask := setByte f.qpnMask 1 n }
      | 10 => { f with qpnMask := setByte f.qpnMask 2 n }
      | 12 => { f with opcode := n }
      | 13 => { f with opcodeMask := n }
      | 14 => { f with cove := setByte f.cove 0 n }
      | 15 => { f with cove := setByte f.cove 1 (n % 16) }
      | 16 => { f with coveMask := setByte f.coveMask 0 n }
      | 17 => { f with coveMask := setByte f.coveMask 1 (n % 16) }
      | 18 => { f with kinds := n % 16 }
      | _ => f
    { d with prism.capture.filters := tput d.prism.capture.filters i g }

/-! ## Frames received (08 R247) -/

/-- Attributes of a network occurrence. -/
def netAttr (port : Nat) (cove : Nat) : Attr := { coveAttr cove with master := some port }

/-- A frame that is dropped counts (08 R247, R265). -/
def countDrop (x : FrameInfo) (d : Dev) : Dev := occur 0 4 1 (netAttr x.port x.cove) { d with net.drops := d.net.drops + 1 }

/-- A frame that R247 drops: counted, and captured as dropped. -/
def dropFrame (x : FrameInfo) (d : Dev) : Dev := capture false true (captureFlags x false true false) x (countDrop x d)

/-- Is a frame one that R247 drops: too long, a bad FCS, or more than one tag? -/
def frameBad (d : Dev) (x : FrameInfo) : Bool :=
  decide (((chartOf d).ports.getD x.port {}).maxFrame < x.len) || !x.fcsOk || decide (2 ≤ x.tags)

/-- Receive a frame: counted, then dropped, or handed on and captured, as dropped where the transport dropped it (R310). A RoCEv2
packet with a bad FCS poisons its unit (R300), so that its PSN is not marked received (R302). -/
def receive (x : FrameInfo) (f : Dev → Dev) (d : Dev) : Dev :=
  let a := netAttr x.port x.cove
  let d1 := occur 0 1 x.len a (occur 0 0 1 a d)
  if frameBad d x then
    dropFrame x (if x.fcsOk then d1 else (if x.kind = 0 then occur 3 3 1 { master := some x.port } else id) (occur 0 5 1 a d1))
  else
    let d2 := f d1
    let lost := decide (d1.net.drops < d2.net.drops)
    capture false lost (captureFlags x false lost false) x d2

/-- RECV_OTHER_FRAME (08 R247): a frame of no served kind. -/
def execRecvOtherFrame (f : FrameInfo) (s : State) : Result :=
  onDev s (fun d =>
    let a := netAttr f.port f.cove
    dropFrame f ((fun e => if f.fcsOk then e else occur 0 5 1 a e) (occur 0 1 f.len a (occur 0 0 1 a d))))

end Sys2Proof.Machine
end

