-- ==== Sys2Proof/Machine/Cipher.lean ====
section
/-! DEFINITION. What the cipher engines and the key-wrap engine compute (12 R365, R368, R370, R376, R377, R381, R385), over AES-256,
SHA-384 and the modes of the standards, which are opaque (log entry 4). A byte string stands as a number with its first byte lowest. -/

namespace Sys2Proof.Machine

/-- `n` zero bytes. -/
def zeros (n : Nat) : List Byte := List.replicate n 0#8

/-- `n` bytes of a byte string from an offset, as a little-endian number. -/
def wide (l : List Byte) (off n : Nat) : Nat := leNum ((l.drop off).take n)

/-- A byte string cut or filled with zeros to `n` bytes. -/
def sized (n : Nat) (l : List Byte) : List Byte := (l ++ zeros n).take n

/-! ## The at-rest modes (R368) -/

/-- A block that K_b is derived from: the LBA as 8 bytes little-endian, a number, and 7 zeros. -/
def kbInput (lba i : Nat) : Nat := leNum (leBytes lba 8 ++ leBytes i 8)

/-- K_b of a block under the namespace GCM key. -/
def kb (kg lba : Nat) : Nat := Config.aes256 kg (kbInput lba 1) % 2 ^ 128 + 2 ^ 128 * (Config.aes256 kg (kbInput lba 2) % 2 ^ 128)

/-- The GCM IV: the ASN as 8 bytes and the NSID as 4, little-endian. -/
def gcmIv (asn nsid : Nat) : List Byte := leBytes asn 8 ++ leBytes nsid 4

/-- The GCM additional data: block metadata bytes 0 to 19. -/
def gcmAad (asn nsid lba : Nat) : List Byte := leBytes asn 8 ++ leBytes nsid 4 ++ leBytes lba 8

/-- The ciphertext of a block at rest: XTS with the LBA as data unit number, or GCM. -/
def blockCipher (auth : Bool) (key nsid lba asn data : Nat) : Nat :=
  if auth then Config.gcmText (kb key lba) (gcmIv asn nsid) data else Config.xts key lba data

/-- The GCM tag of a block at rest. -/
def blockTag (key nsid lba asn data : Nat) : Nat := Config.gcmTag (kb key lba) (gcmIv asn nsid) (gcmAad asn nsid lba) data % 2 ^ 128

/-- The key of a namespace (R380). -/
def nsKeyValue (d : Dev) (nsid : Nat) : Nat := ((tget d.keys.nsKeys nsid).map (·.key)).getD 0

/-- The 4,096 bytes of a STAGE page: ciphertext, as everything that the device stores, stages and mirrors of host data. -/
def pageText (d : Dev) (g : StagePage) : Nat :=
  blockCipher (((tget d.host.nss g.tag.nsid).map (·.auth)).getD false) g.key g.tag.nsid g.tag.lba g.tag.asn g.data

/-! ## Host-directed transforms (R370) -/

/-- The 16-byte chunks of a transfer, in LBA order. -/
def chunks (vals : List Nat) : List Nat := vals.flatMap (fun v => (List.range 256).map (fun i => v / 2 ^ (128 * i) % 2 ^ 128))

/-- The 4 KiB blocks that chunks make up. -/
def unchunk (cs : List Nat) (n : Nat) : List Nat :=
  (List.range n).map (fun b => ((cs.drop (256 * b)).take 256).foldr (fun x a => x % 2 ^ 128 + 2 ^ 128 * a) 0)

/-- Run a chained mode: from the chaining value and a chunk, the output and the next chaining value. -/
def chainRun (f : Nat → Nat → Nat × Nat) : Nat → List Nat → List Nat
  | _, [] => []
  | s, p :: r => (f s p).1 :: chainRun f (f s p).2 r

/-- The next counter block of CTR: a 128-bit big-endian increment, modulo 2^128. -/
def ctrNext (c : Nat) : Nat := leNum (leBytes (beNum (leBytes c 16) + 1) 16).reverse

/-- One step of a mode (R211): 1 CBC, 2 CTR, 3 CFB-128, 4 OFB. -/
def modeStep (mode key s p : Nat) : Nat × Nat :=
  let e := fun (x : Nat) => Config.aes256 key x % 2 ^ 128
  if mode = 1 then (e (p ^^^ s), e (p ^^^ s))
  else if mode = 2 then (p ^^^ e s, ctrNext s)
  else if mode = 3 then (p ^^^ e s, p ^^^ e s)
  else (p ^^^ e s, e s)

/-- The ciphertext of a whole transfer under a slot key: chaining runs across block boundaries. -/
def directed (mode key iv : Nat) (plain : List Nat) : List Nat := unchunk (chainRun (modeStep mode key) iv (chunks plain)) plain.length

/-! ## KEK (R376, R377) -/

/-- SHA-384 as its 48 bytes. -/
def sha384Bytes (l : List Byte) : List Byte := leBytes (Config.sha384 l) 48

/-- HMAC-SHA-384 under a key of at most 128 bytes. -/
def hmac384 (key msg : List Byte) : List Byte :=
  let k := sized 128 key
  sha384Bytes (k.map (fun b => b ^^^ 0x5C#8) ++ sha384Bytes (k.map (fun b => b ^^^ 0x36#8) ++ msg))

/-- The KEK: the first 32 bytes of HMAC-SHA-384(S, "WXKEK" ‖ SHELF_ID ‖ EPOCH). -/
def kekValue (secret shelfId epoch : Nat) : Nat :=
  leNum ((hmac384 (leBytes secret 32) ([0x57#8, 0x58#8, 0x4B#8, 0x45#8, 0x4B#8] ++ leBytes shelfId 16 ++ leBytes epoch 4)).take 32)

/-- The KEK check value: the first 8 bytes of HMAC-SHA-384(KEK, "WXKCV"). -/
def kekCheckOf (kek : Nat) : Nat := leNum ((hmac384 (leBytes kek 32) [0x57#8, 0x58#8, 0x4B#8, 0x43#8, 0x56#8]).take 8)

/-- The seal key of a blob: the first 32 bytes of SHA-384(Z ‖ "WXSK" ‖ SHELF_ID). -/
def sealKey (b : List Byte) : Nat :=
  leNum ((sha384Bytes (sized 48 (Config.ecdhZ ((b.drop 32).take 96)) ++ [0x57#8, 0x58#8, 0x53#8, 0x4B#8] ++ (b.drop 16).take 16)).take 32)

/-- The shelf secret that a sealed blob gives on this device, or none when the unwrap fails. -/
def unsealBlob (b : List Byte) : Option Nat := (Config.kwUnwrap (sealKey b) ((b.drop 128).take 40)).map (fun l => wide l 0 32)

/-- The shelf secret of an epoch that the key store holds. -/
def secretOf (d : Dev) (epoch : Nat) : Option Nat :=
  match d.keys.kek with
  | some (e, s) => if e = epoch then some s else tget d.keys.extra epoch
  | none => tget d.keys.extra epoch

/-- The KEK of an epoch that the device can form. -/
def kekOf (d : Dev) (epoch : Nat) : Option Nat := (secretOf d epoch).map (fun s => kekValue s d.pair.shelfId epoch)

/-! ## Wrapped keys (R381, R385) -/

/-- Bytes of a key by its KIND: 64 XTS, 32 GCM. -/
def kindBytes (kind : Nat) : Nat := if kind = 1 then 64 else 32

/-- WRAPPED of a namespace key record, 80 bytes: KW of the key, NSID and KEY_GEN; zero without a KEK or for KIND 0. -/
def wrapNs (d : Dev) (r : KeyRecord) (key : Nat) : List Byte :=
  match kekOf d r.kekEpoch with
  | none => zeros 80
  | some kek => if r.kind = 0 then zeros 80
    else sized 80 (sized (kindBytes r.kind + 16) (Config.kwWrap kek (leBytes key (kindBytes r.kind) ++ leBytes r.nsid 4 ++ leBytes r.keyGen 4)))

/-- The key that a namespace key record gives under the KEK of its epoch: none where the device cannot form it, the integrity check fails,
or the record is of another namespace or generation. -/
def unwrapNs (d : Dev) (k : NsKey) : Option Nat :=
  match kekOf d k.rec_.kekEpoch with
  | none => none
  | some kek =>
    if k.wrapped = wrapNs d k.rec_ k.key then some k.key
    else
      let n := kindBytes k.rec_.kind
      match Config.kwUnwrap kek (k.wrapped.take (n + 16)) with
      | none => none
      | some l => if wide l n 4 = k.rec_.nsid ∧ wide l (n + 4) 4 = k.rec_.keyGen then some (wide l 0 n) else none

/-- WRAPPED of a Cove slot record, 48 bytes: KW of the key, SLOT, MODES and 6 zeros. -/
def wrapSlot (d : Dev) (epoch key slot modes : Nat) : List Byte :=
  match kekOf d epoch with
  | none => zeros 48
  | some kek => sized 48 (Config.kwWrap kek (leBytes key 32 ++ leBytes slot 1 ++ leBytes modes 1 ++ zeros 6))

/-- KW unwrap of a slot's WRAPPED bytes under the KEK of an epoch: the key, SLOT and MODES. -/
def unwrapSlot (d : Dev) (epoch : Nat) (w : List Byte) : Option (Nat × Nat × Nat) :=
  (kekOf d epoch).bind (fun kek => (Config.kwUnwrap kek w).map (fun l => (wide l 0 32, wide l 32 1, wide l 33 1)))

/-- The key of a stored slot record (R385): what its WRAPPED holds. -/
def slotKey (d : Dev) (r : SlotRecord) : Option Nat :=
  if !r.loaded then none
  else if r.wrapped = wrapSlot d r.kekEpoch r.key r.slot r.modes then some r.key
  else (unwrapSlot d r.kekEpoch r.wrapped).bind (fun x => if x.2.1 = r.slot ∧ x.2.2 = r.modes then some x.1 else none)

/-! ## The key-wrap engine (R373) -/

/-- The key-wrap engine runs `n` AES computations: of the last, the positions of its 0 to 7 dummy rounds among the real rounds and the
order in which it took the 16 state bytes; its working registers are zero after each operation. -/
def kwPass (n : Nat) (d : Dev) : Dev :=
  let m := d.keys.kw.operations + n
  let r := Config.kwRandom m
  { d with keys.kw := { operations := m, dummies := (List.range (r % 8)).map (fun i => r / 8 / 14 ^ i % 14)
                        order := r / 2 ^ 40 % 20922789888000, working := 0 } }

end Sys2Proof.Machine
end

