-- ==== Sys2Proof/Machine/Mirror.lean ====
section
/-! DEFINITION. Sending on the Strait: link frames and mirror frames (13 R398 to R404). -/

namespace Sys2Proof.Machine

/-- Bytes of a Strait frame: 16 of header, its payload, 8 of trailer (R398). -/
def frameBytes (f : StraitFrame) : Nat := 24 + f.payload.length

/-- A frame as the Strait carries it (R398): 16 bytes of header, the payload, a CRC-32C over both, and 4 zero bytes. -/
def frameWire (f : StraitFrame) : List Byte :=
  let b := leBytes f.type 1 ++ leBytes (b2n f.poison + 2 * b2n f.sync) 1 ++ leBytes f.payload.length 2 ++ leBytes f.lseq 4
    ++ leBytes f.mseq 4 ++ leBytes f.page 4 ++ f.payload
  b ++ leBytes (crc32c b).toNat 4 ++ leBytes 0 4

/-- Bytes in the replay buffer. -/
def replayBytes (d : Dev) : Nat := lsum d.pair.replayBuffer frameBytes

/-- Send a frame that takes the next LSEQ and a place in the replay buffer of 1 MiB (R402): one that finds no room waits for it. Nothing
leaves while the Strait is down. -/
def straitSend (f : StraitFrame) (d : Dev) : Dev :=
  if d.pair.straitUp then
    let g := { f with lseq := d.pair.txLseq }
    let d1 := { d with pair.txLseq := (d.pair.txLseq + 1) % 2 ^ 32 }
    if !d.pair.sendWaits.isEmpty ∨ 2 ^ 20 < replayBytes d + frameBytes g then { d1 with pair.sendWaits := d.pair.sendWaits ++ [g] }
    else emit (.strait g) { d1 with pair.replayBuffer := d.pair.replayBuffer ++ [g] }
  else d

/-- Frames that waited for room in the replay buffer go, in order, while there is some. -/
def sendWaiting : List StraitFrame → Dev → Dev
  | [], d => { d with pair.sendWaits := [] }
  | g :: r, d =>
    if 2 ^ 20 < replayBytes d + frameBytes g then { d with pair.sendWaits := g :: r }
    else sendWaiting r (emit (.strait g) { d with pair.replayBuffer := d.pair.replayBuffer ++ [g] })

/-- An LLACK or LLNAK: no LSEQ of its own and no place in the replay buffer (R398, R402). -/
def straitLink (type lseq : Nat) (d : Dev) : Dev :=
  if d.pair.straitUp then emit (.strait { type := type, lseq := lseq }) d else d

/-- Does this side mirror: the serving side of a pair, or of a pairing from SYNC_BEGIN (R404)? -/
def mirrors (d : Dev) : Bool :=
  d.pair.straitUp && (d.pair.role == .active && d.pair.partner == 2 ||
    d.pair.syncing && (d.pair.role == .active || d.pair.role == .solo))

/-- Send a mirror frame under the next MSEQ (R401). -/
def mirrorSend (f : StraitFrame) (d : Dev) : Dev :=
  if mirrors d then
    straitSend { f with mseq := d.pair.txMseq + 1 } { d with pair.txMseq := d.pair.txMseq + 1 }
  else d

/-- The 60 tag bytes before CHECK, with KIND (03 R68). -/
def tagBody (t : Tag) (kind : Nat) : List Byte :=
  leBytes t.asn 8 ++ leBytes t.nsid 4 ++ leBytes t.lba 8 ++ leBytes t.guard 8 ++ leBytes t.gcm 16 ++ leBytes 0 4 ++
    leBytes (t.cove % 4096) 2 ++ leBytes t.pageIndex 2 ++ leBytes t.pageCount 2 ++ leBytes kind 1 ++ leBytes 0 5

/-- A whole tag: KIND 1, with CHECK over the data bytes and tag bytes 0 to 59 (03 R68). -/
def tagBytes (t : Tag) (data : List Byte) : List Byte :=
  tagBody t 1 ++ leBytes (crc32c (data ++ tagBody t 1)).toNat 4

/-- Mirror a STAGE page at its own page index (R404, 03 R88), its block as ciphertext, and note its MSEQ (R423). `sync` marks a frame of pairing. -/
def mirrorPage (page : Nat) (t : Tag) (data : Nat) (sync : Bool) (d : Dev) : Dev :=
  if mirrors d then
    let b := leBytes data 4096
    let d1 := mirrorSend { type := 1, sync := sync, page := page, payload := tagBytes t b ++ b } d
    { d1 with pair.mirrorPages := tput d1.pair.mirrorPages page d1.pair.txMseq }
  else d

/-- Is a page's mirror copy acknowledged, where the pair needs one (R401, R412)? -/
def pageMirrored (d : Dev) (page : Nat) : Bool :=
  if d.pair.role == .active && d.pair.partner == 2 then
    match tget d.pair.mirrorPages page with
    | some m => decide (m ≤ d.pair.ackMseq)
    | none => false
  else true

/-- Mirror 64-byte units of a region page (R399, R404). -/
def mirrorRegion (page offset : Nat) (units : List Nat) (d : Dev) : Dev :=
  mirrorSend { type := 2, page := page,
               payload := leBytes offset 2 ++ leBytes units.length 2 ++ leBytes 0 4 ++
                 (units.map (fun u => leBytes u 64)).flatten } d

/-- Mirror a release of runs of pages: (first page, count) (R399, R404). -/
def mirrorRelease (runs : List (Nat × Nat)) (d : Dev) : Dev :=
  mirrorSend { type := 3, payload := (runs.map (fun r => leBytes r.1 2 ++ leBytes r.2 2)).flatten } d

/-- Mirror a definition (R399, R404): KIND and record. -/
def mirrorConfig (kind : Nat) (rec_ : List Byte) (d : Dev) : Dev :=
  mirrorSend { type := 8, payload := leBytes kind 1 ++ leBytes 0 7 ++ rec_ } d

/-- A CONTROL frame: SUB and its 56-byte body (R400). -/
def straitControl (sub : Nat) (body : List Byte) (d : Dev) : Dev :=
  straitSend { type := 9, payload := leBytes sub 1 ++ leBytes 0 7 ++ body ++ List.replicate (56 - body.length) 0#8 } d

/-- Runs of consecutive pages in a list of pages, in order. -/
def pageRuns : List Nat → List (Nat × Nat)
  | [] => []
  | p :: r => match pageRuns r with
    | (q, n) :: t => if p + 1 = q then (p, n + 1) :: t else (p, 1) :: (q, n) :: t
    | [] => [(p, 1)]

/-- Mirror a namespace's definition (R404, layout of log entry 19). -/
def mirrorNamespace (nsid : Nat) (d : Dev) : Dev :=
  mirrorConfig 1 (match tget d.host.nss nsid with
    | some n => leBytes nsid 4 ++ leBytes n.nsze 8 ++ leBytes n.grain 1 ++ leBytes n.shoal 1 ++ leBytes (b2n n.auth) 1
        ++ leBytes 1 1 ++ leBytes n.pageBase 4 ++ leBytes n.nextAsn 8 ++ leBytes n.resumes 4
        ++ leBytes n.writeProtect 1
    | none => leBytes nsid 4 ++ leBytes 0 29) d

end Sys2Proof.Machine
end

