-- ==== Sys2Proof/Machine/Pool.lean ====
section
/-! DEFINITION. The Tide Pool and the Breakwater (03 R67 to R100): layout, levels, admission credits, page allocation,
release, retirement, and the pool part of recovery. -/

namespace Sys2Proof.Machine

/-! ## Layout (R72) -/

/-- The regions in their order (R72). -/
inductive Region where
  | stage | sjournal | maplog | events | admin | coveimg | spare
  deriving DecidableEq, Repr

/-- First page of a region under a layout (R72). -/
def regionStart (l : PoolLayout) : Region → Nat
  | .stage => 0
  | .sjournal => l.stage
  | .maplog => l.stage + l.sjournal
  | .events => l.stage + l.sjournal + l.maplog
  | .admin => l.stage + l.sjournal + l.maplog + l.events
  | .coveimg => l.stage + l.sjournal + l.maplog + l.events + l.admin
  | .spare => l.stage + l.sjournal + l.maplog + l.events + l.admin + l.coveimg

/-- The region that holds a page. -/
def regionOf (l : PoolLayout) (p : Nat) : Region :=
  if p < regionStart l .sjournal then .stage
  else if p < regionStart l .maplog then .sjournal
  else if p < regionStart l .events then .maplog
  else if p < regionStart l .admin then .events
  else if p < regionStart l .coveimg then .admin
  else if p < regionStart l .spare then .coveimg
  else .spare

/-! ## Occupancy, levels and floors (R79, R81, R83) -/

/-- POOL_CAPACITY.IN_SERVICE: s (R79). -/
def inService (d : Dev) : Nat := d.pool.layout.stage - (d.pool.withdrawn.filter (fun p => decide (p < d.pool.layout.stage))).length

/-- Pages charged to the shared space (R79). -/
def sharedHeld (d : Dev) : Nat := tsum d.pool.held (fun n => n)

/-- Occupancy (R79). -/
def occupancy (d : Dev) : Nat := sharedHeld d + d.pool.reserveHeld

/-- The threshold of a level: 1 WARN, 2 PRESS, 3 HALT (R83). -/
def threshold (s : Nat) : Nat → Nat
  | 1 => s * 3 / 4
  | 2 => s * 7 / 8
  | _ => s * 97 / 100

/-- The level that an occupancy gives after level `l` (R83): entered at its threshold, left 512 pages below it. -/
def nextLevel (s occ l : Nat) : Nat :=
  let up := if threshold s 3 ≤ occ then 3 else if threshold s 2 ≤ occ then 2 else if threshold s 1 ≤ occ then 1 else 0
  let stay := fun k => decide (k ≤ l) && decide (threshold s k - 512 ≤ occ)
  let kept := if stay 3 then 3 else if stay 2 then 2 else if stay 1 then 1 else 0
  max up kept

/-- Enter one level: its POOL_INT bit and its event (R83, R100). -/
def enterLevel (k occ : Nat) (d : Dev) : Dev :=
  logEvent 2 k (k - 1) (payload 0 (k - 1) k occ) (raisePool (k - 1) d)

/-- Judge the level after occupancy or s changed (R83), with PEAK (R97). -/
def judgeLevel (d : Dev) : Dev :=
  let occ := occupancy d
  let old := d.pool.level
  let new := nextLevel (inService d) occ old
  let d1 := { d with pool.level := new, pool.peak := max d.pool.peak occ }
  if new < old then
    (run (new + 1) (old - new)).reverse.foldl
      (fun a k => logEvent 2 4 0 (payload 0 k (k - 1) occ) (raisePool 8 a)) d1
  else (run (old + 1) (new - old)).foldl (fun a k => enterLevel k occ a) d1

/-- The Coves that exist (11 R339). -/
def covesOf (d : Dev) : List Nat := d.cove.tab.map (·.1)

/-- Sum of the effective floors of the Coves that exist (02 R36). -/
def floorSum (d : Dev) : Nat := lsum (covesOf d) (fun c => (coveCfg d c).floor)

/-- Judge FLOORS_SHORT (R81). -/
def judgeFloors (d : Dev) : Dev :=
  let short := decide (inService d - 2048 < floorSum d)
  let d1 := { d with pool.floorsShort := short }
  if short && !d.pool.floorsShort then raisePool 7 d1 else d1

/-! ## Admission (R78 to R80) -/

/-- Credits of a Write of so many bytes (R78). -/
def creditsFor (bytes : Nat) : Nat := (bytes + 4095) / 4096

/-- Shared-space pages that a Cove holds. -/
def heldBy (d : Dev) (c : Nat) : Nat := (tget d.pool.held c).getD 0

/-- borrowed(k) (R79). -/
def borrowed (d : Dev) (c : Nat) : Nat := heldBy d c - (coveCfg d c).floor

/-- The borrowing limit L: BORROW_MAX, as the Lighthouse limits it (R79, 14 R428, R431). -/
def borrowMax (d : Dev) : Nat :=
  if (chartOf d).light.mode = 1 ∨ d.light.fresh then (chartOf d).light.borrowMax else min (chartOf d).light.borrowMax d.light.borrow

/-- fits(c, n) of R79. -/
def fits (d : Dev) (c n : Nat) : Bool :=
  let cfg := coveCfg d c
  let total := lsum (covesOf d) (borrowed d)
  let common := inService d - 2048 - floorSum d
  let want := heldBy d c + n
  decide (want ≤ cfg.cap) &&
    (decide (want ≤ cfg.floor) ||
      ((chartOf d).light.borrow == 1 && decide (want - cfg.floor ≤ borrowMax d) &&
        decide (total - borrowed d c + (want - cfg.floor) ≤ common)))

/-- What the Breakwater answers (R79). -/
inductive Gate where
  | exhausted
  | charge (sp : PoolSpace)
  | wait
  deriving DecidableEq, Repr

/-- admit(c, n) of R79. -/
def gateWrite (d : Dev) (c n : Nat) : Gate :=
  if c ≠ 0 ∧ threshold (inService d) 3 ≤ occupancy d then .exhausted
  else if fits d c n ∧ sharedHeld d + n ≤ inService d - 2048 then .charge .shared
  else if c = 0 ∧ d.pool.reserveHeld + n ≤ 2048 then .charge .reserve
  else .wait

/-- Charge credits to a space (R79). -/
def chargeCredits (c n : Nat) (sp : PoolSpace) (d : Dev) : Dev :=
  judgeLevel (match sp with
    | .shared => { d with pool.held := tput d.pool.held c (heldBy d c + n) }
    | .reserve => { d with pool.reserveHeld := d.pool.reserveHeld + n })

/-- Return credits to the space they were charged to (R82, R87); SETTLED when held first falls to CAP after a cut (11
R348). -/
def returnCredits (c n : Nat) (sp : PoolSpace) (d : Dev) : Dev :=
  let d1 := judgeLevel (match sp with
    | .shared => { d with pool.held := tput d.pool.held c (heldBy d c - n) }
    | .reserve => { d with pool.reserveHeld := d.pool.reserveHeld - n })
  match tget d1.cove.tab c with
  | some r => if r.unsettled ∧ heldBy d1 c ≤ (coveCfg d1 c).cap then
      raiseCove c 1 { d1 with cove.tab := tput d1.cove.tab c { r with unsettled := false } } else d1
  | none => d1

/-! ## Pages (R68, R76, R87) -/

/-- Is a STAGE page free to allocate? -/
def pageFree (d : Dev) (p : Nat) : Bool :=
  decide (p < d.pool.layout.stage) && !thas d.pool.pages p && !d.pool.withdrawn.contains p

/-- The next free page from the pointer on, walking the ring (R76). -/
def nextPage (d : Dev) : Option Nat :=
  let n := d.pool.layout.stage
  let held := d.pool.pages.length + d.pool.withdrawn.length
  ((List.range (min n (held + 1))).map (fun i => (d.pool.ptr + i) % max n 1)).find? (pageFree d)

/-- Save the allocation pointer in the control block (R76). -/
def savePointer (d : Dev) : Dev :=
  { d with pool.sinceSave := 0, pool.control := d.pool.control.map (fun c => { c with pointer := d.pool.ptr }) }

/-- Allocate a page at the pointer (R76): its number, with the pointer past it, saved every 4,096 allocations. -/
def allocPage (d : Dev) : Option (Nat × Dev) :=
  (nextPage d).map (fun p =>
    let d1 := { d with pool.ptr := (p + 1) % max d.pool.layout.stage 1, pool.sinceSave := d.pool.sinceSave + 1 }
    (p, if 4096 ≤ d1.pool.sinceSave then savePointer d1 else d1))

/-- The tag slot of a page's next use: the two alternate (R68). -/
def nextSlot (d : Dev) (p : Nat) : Nat := if d.pool.lastSlot1.contains p then 0 else 1

/-- Attributes of the Tide Pool's occurrences (17 R489): the station that asks, and the page. -/
def poolAttr (src p : Nat) : Attr := { master := some src, page := some p }

/-- Write a page's data and tag (R68): the write is handed to the die and mirrored (R88). `src` is the station that its data come from. -/
def stagePage (src p : Nat) (t : Tag) (data key : Nat) (d : Dev) : Dev :=
  let pg : StagePage := { life := .writing, slot := nextSlot d p, tag := t, data := data, key := key }
  mirrorPage p t (pageText d pg) false
    (occur 4 0 1 (poolAttr src p) { d with pool.pages := tput d.pool.pages p pg })

/-- Withdraw a STAGE page from the ring (R70): s falls by one, and on a pair the partner is told (R405). -/
def withdrawPage (p : Nat) (d : Dev) : Dev :=
  if d.pool.withdrawn.contains p then d
  else
    let d1 := judgeFloors (judgeLevel { d with pool.withdrawn := d.pool.withdrawn ++ [p] })
    if d1.pair.partner = 2 ∨ d1.pair.syncing then straitControl 8 (leBytes p 4) d1 else d1

/-- Clear a page's current tag slot: the page is FREE (R68, R87), or withdrawn when it was retired in use (R70). -/
def freePage (p : Nat) (d : Dev) : Dev :=
  match tget d.pool.pages p with
  | none => d
  | some pg =>
    let ls := d.pool.lastSlot1.filter (fun q => q != p)
    let d1 := occur 4 4 1 { page := some p }
      { d with pool.pages := terase d.pool.pages p, pool.lastSlot1 := if pg.slot = 1 then p :: ls else ls
               pool.repeatWaits := d.pool.repeatWaits.filter (fun q => q != p)
               pair.mirrorPages := terase d.pair.mirrorPages p }
    if pg.retiring then withdrawPage p d1 else d1

/-- Release pages together, mirrored as RELEASE runs (R87, R88). -/
def releasePages (ps : List Nat) (d : Dev) : Dev :=
  if ps.isEmpty then d
  else mirrorRelease (pageRuns (ps.mergeSort (fun a b => decide (a ≤ b)))) (ps.foldl (fun a p => freePage p a) d)

/-- Mark pages SEALED: their blocks are in a sealed stripe (R86). -/
def sealPages (ps : List Nat) (d : Dev) : Dev :=
  { d with pool.pages := ps.foldl (fun t p => tmod t p (fun pg => { pg with life := .sealed })) d.pool.pages }

/-! ## Retirement and correction (R69, R70, R77) -/

/-- SPARE pages that are free: all but the two anchor pages, those in use and those retired (R70, R75). -/
def spareFree (d : Dev) : List Nat :=
  (run (regionStart d.pool.layout .spare) (d.pool.layout.spare - 2)).filter
    (fun p => !(d.pool.remap.any (fun e => e.2 == p || e.1 == p)) && !d.pool.retiredInPlace.contains p)

/-- The page that accesses to a page go to (R70). -/
def remapped (d : Dev) (p : Nat) : Nat := (tget d.pool.remap p).getD p

/-- SPARE_LOW when fewer than 16 SPARE pages remain (R70). -/
def judgeSpare (d : Dev) : Dev := if (spareFree d).length < 16 then raisePool 6 d else d

/-- Number of a region: its place in the order of R72. -/
def regionNum : Region → Nat
  | .stage => 0
  | .sjournal => 1
  | .maplog => 2
  | .events => 3
  | .admin => 4
  | .coveimg => 5
  | .spare => 6

/-- The event of a page's retirement names the page and what replaces it, itself where nothing does (R70, 17 R484). -/
def pageRetired (p r : Nat) (d : Dev) : Dev := logEvent 2 5 1 (payload p p r 0) d

/-- Retire a page to a free SPARE page (R70): the entries that named the page, and the page itself, name the replacement. What is
accessed through a page that has a replacement is the replacement, which retires in its turn and is not taken again. -/
def remapTo (p r : Nat) (d : Dev) : Dev :=
  let at_ := remapped d p
  let t := d.pool.remap.map (fun e => (e.1, if e.2 = at_ then r else e.2))
  judgeSpare (pageRetired p r { d with pool.remap := tput t at_ r })

/-- Pages that recovery reads before it has the remap table: the control block and the table itself (R73), and the anchor pages (R75).
They stay in place, the other copy beside them (log entry 33). -/
def fixedPage (d : Dev) (p : Nat) : Bool :=
  decide (65534 ≤ p) || (decide (regionStart d.pool.layout .admin ≤ p) && decide (p < regionStart d.pool.layout .admin + 4))

/-- Retire a page for a correction or an uncorrectable unit (R70). Without a SPARE page a STAGE page is withdrawn at its
release, and a page of another region stays in place. -/
def retirePage (p : Nat) (d : Dev) : Dev :=
  if d.pool.withdrawn.contains p ∨ d.pool.retiredInPlace.contains p then d
  else if fixedPage d p then pageRetired p p { d with pool.retiredInPlace := d.pool.retiredInPlace ++ [p] }
  else match (spareFree d).filter (fun r => r != p) with
    | r :: _ => remapTo p r d
    | [] =>
      if regionOf d.pool.layout p = .stage then
        if (tget d.pool.pages p).any (·.retiring) then d
        else if thas d.pool.pages p then
          pageRetired p p { d with pool.pages := tmod d.pool.pages p (fun pg => { pg with retiring := true }) }
        else withdrawPage p (pageRetired p p d)
      else pageRetired p p { d with pool.retiredInPlace := d.pool.retiredInPlace ++ [p] }

/-- A two-bit correction (R69, R70): on a page retired in place each further one logs a WARN event. -/
def corrected2 (p : Nat) (d : Dev) : Dev :=
  let d1 := occur 4 2 1 (poolAttr mgmtStation p) { d with pool.corr2 := satAdd 16 d.pool.corr2 1 }
  if d.pool.retiredInPlace.contains p then logEvent 2 6 1 (payload p 0 0 0) d1 else retirePage p d1

/-- An uncorrectable unit (R69, R70, R100): counted, raised, its FAULT event names page and region, the page retired. -/
def uncorrectable (p : Nat) (d : Dev) : Dev :=
  retirePage p (logEvent 2 7 2 (payload p 0 (regionNum (regionOf d.pool.layout p)) 0)
    (raisePool 5 (occur 4 3 1 (poolAttr mgmtStation p) { d with pool.uncorr := satAdd 16 d.pool.uncorr 1 })))

/-- A read of a pool unit (R69, R77): a correction of one bit is not counted. -/
def poolRead (p : Nat) (e : EccResult) (d : Dev) : Dev :=
  let d1 := occur 4 1 1 (poolAttr mgmtStation p) d
  match e with
  | .clean => d1
  | .corrected1 => d1
  | .corrected2 => corrected2 p d1
  | .uncorrectable => uncorrectable p d1

/-- Replace a failed page by another in the command that holds it (R70). -/
def movePage (p q : Nat) (d : Dev) : Dev :=
  { d with adm.cmds := tall d.adm.cmds (fun c =>
      { c with pages := c.pages.map (fun x => if x = some p then some q else x) }) }

/-- Repeat a failed STAGE write on the next page of the ring; the failed page is withdrawn at once. With no page free the repeat
waits for the next release, and the page's data with it (R70). -/
def repeatWrite (p : Nat) (d : Dev) : Dev :=
  match tget d.pool.pages p with
  | none => { d with pool.repeatWaits := d.pool.repeatWaits.filter (fun x => x != p) }
  | some pg =>
    let d0 := if d.pool.withdrawn.contains p then d else withdrawPage p (pageRetired p p d)
    match allocPage d0 with
    | none => { d0 with pool.repeatWaits := if d0.pool.repeatWaits.contains p then d0.pool.repeatWaits
                                            else d0.pool.repeatWaits ++ [p] }
    | some (q, d1) =>
      let d2 := stagePage poolStation q pg.tag pg.data pg.key (movePage p q d1)
      { d2 with pool.pages := terase d2.pool.pages p, pair.mirrorPages := terase d2.pair.mirrorPages p
                pool.repeatWaits := d2.pool.repeatWaits.filter (fun x => x != p) }

/-- Repeats that wait take the pages a release freed, in order (R70). -/
def resumeRepeats (d : Dev) : Dev := d.pool.repeatWaits.foldl (fun a p => repeatWrite p a) d

/-- A write that the die reports failed (R70): repeated once on a SPARE page; when that fails, or none is free, the page of
the ring is withdrawn and the write repeated on the next. A page of another region is replaced or stays in place. -/
def writeFailed (p : Nat) (repeatOk : Bool) (d : Dev) : Dev :=
  if d.pool.withdrawn.contains p then d
  else if regionOf d.pool.layout p ≠ .stage then retirePage p d
  else match spareFree d with
    | r :: _ => if repeatOk then remapTo p r d else repeatWrite p (remapTo p r d)
    | [] => repeatWrite p d

/-! ## The pool part of recovery (R91 steps 1 to 5, R75) -/

/-- Is a copy of the control block, or of the anchor, unreadable under the faults that recovery meets (R73, R75)? -/
def copyBad (fs : List PoolFault) (f : Bool → PoolFault) (copyB : Bool) : Bool := fs.contains (f copyB)

/-- The layout that recovery selects (R75): the anchor with the higher WRITES whose control block records the same layout,
else the running Chart's POOL on the same test; `none` when the control block counts as undecodable. The flag says that
the pool is blank. -/
def selectLayout (fs : List PoolFault) (d : Dev) : Option (PoolLayout × Bool) :=
  let badA := copyBad fs .anchor false
  let badB := copyBad fs .anchor true
  let best := match (if badA then none else d.pool.anchorA), (if badB then none else d.pool.anchorB) with
    | some a, some b => if a.writes < b.writes then some b else some a
    | some a, none => some a
    | none, b => b
  let ctl := if d.pool.controlBad || (copyBad fs .controlBlock false && copyBad fs .controlBlock true) then none
    else d.pool.control
  let test := fun (l : PoolLayout) => decide (ctl.map (·.layout) = some l)
  match best with
  | some a => if test a.layout then some (a.layout, false)
      else if test (chartOf d).pool then some ((chartOf d).pool, false) else none
  | none =>
    if test (chartOf d).pool then some ((chartOf d).pool, false)
    else if d.pool.anchorA = none ∧ d.pool.anchorB = none ∧ !badA ∧ !badB then some ((chartOf d).pool, true) else none

/-- Write both anchor copies (R75): WRITES is one higher at each write. -/
def writeAnchor (l : PoolLayout) (d : Dev) : Dev :=
  let w := max ((d.pool.anchorA.map (·.writes)).getD 0) ((d.pool.anchorB.map (·.writes)).getD 0) + 1
  { d with pool.anchorA := some { layout := l, writes := w }, pool.anchorB := some { layout := l, writes := w } }

/-- Format a blank pool (R75): control block with boot count 1, anchor, ESNs from 1. -/
def formatPool (l : PoolLayout) (d : Dev) : Dev :=
  let d1 := writeAnchor l { d with pool.layout := l, pool.control := some { layout := l, bootCount := 1 } }
  { d1 with ev.nextEsn := some 1, pool.unclean := false, pool.ptr := 0 }

/-- The next ESN at a start (17 R476). -/
def resumeEsn (d : Dev) (marker : Option (Nat × Nat × Nat)) : Nat :=
  match marker with
  | some (_, esn, _) => esn + 1
  | none => match (d.ev.slots.filterMap id).map (·.esn) with
    | [] => 1
    | es => es.foldl max 0 + 4097

/-- Steps 1 and 2 of R91 for a recorded layout: UNCLEAN without a stop marker, the boot count, the ESN counter and the
allocation pointer; the marker is spent. -/
def resumePool (l : PoolLayout) (c : ControlBlock) (d : Dev) : Dev :=
  { d with
    pool.layout := l, pool.unclean := c.stopMarker.isNone
    ev.nextEsn := some (resumeEsn d c.stopMarker)
    pool.ptr := match c.stopMarker with
      | some (_, _, p) => p
      | none => c.pointer
    pool.control := some { c with bootCount := c.bootCount + 1, stopMarker := none } }

/-- The events of a start that resumes: those that waited take their ESNs in the order in which they occurred, then POOL_UNCLEAN
where no stop marker was found (R91 step 2, 17 R475). -/
def resumeEvents (c : ControlBlock) (d : Dev) : Dev :=
  let d1 := releaseWaiting d
  if c.stopMarker.isNone then logEvent 2 8 2 (payload 0 0 0 0) d1 else d1

/-- A page whose write was under way when the power went without a stop holds its tag or not: the spec leaves it open (log
entry 3). -/
def settleWriting (d : Dev) : Dev :=
  d.pool.pages.foldl (fun a e =>
    if e.2.life = .writing then
      let (v, a1) := openValue a
      if v % 2 = 0 then { a1 with pool.pages := tput a1.pool.pages e.1 { e.2 with life := .staged } } else freePage e.1 a1
    else if e.2.life = .filling then freePage e.1 a
    else { a with pool.pages := tput a.pool.pages e.1 { e.2 with life := .staged } }) d

/-- A fault that recovery meets (R69, R93): counted, its page retired and named. The control block stands on pages 0 and 1 of ADMIN
(R73) and the anchor on the last two pages (R75), whose other copy serves. -/
def poolFault (f : PoolFault) (d : Dev) : Dev :=
  match f with
  | .controlBlock copyB => uncorrectable (regionStart d.pool.layout .admin + b2n copyB) d
  | .anchor copyB => uncorrectable (65535 - b2n copyB) d
  | .admin p => uncorrectable (regionStart d.pool.layout .admin + p) d
  | .stageData p => uncorrectable p { d with pool.pages := tmod d.pool.pages p (fun g => { g with bad := true }) }
  | .stageTag p => freePage p (uncorrectable p d)
  | .sjournal p => uncorrectable p { d with pool.journalBad := d.pool.journalBad ++ [p] }
  | .maplog p => uncorrectable p { d with pool.logBad := d.pool.logBad ++ [p] }
  | .events i => uncorrectable (regionStart d.pool.layout .events + i / 64)
      { d with ev.slots := setNth d.ev.slots i none, ev.lost := satAdd 32 d.ev.lost 1 }
  | .coveImage i n => uncorrectable (regionStart d.pool.layout .coveimg + 16 * i + n % 16)
      { d with pool.imgInvalid := if d.pool.imgInvalid.contains i then d.pool.imgInvalid else d.pool.imgInvalid ++ [i] }
  | .correction2 p => corrected2 p d

/-- Commands in STAGE: (NSID, ASN) with PAGE_COUNT, of the pages held (R91 step 4). -/
def stageGroups (d : Dev) : List (Nat × Nat × Nat) :=
  (d.pool.pages.map (fun e => (e.2.tag.nsid, e.2.tag.asn, e.2.tag.pageCount))).eraseDups

/-- Has a command a valid page for every PAGE_INDEX below PAGE_COUNT (R91 step 4)? -/
def groupWhole (d : Dev) (g : Nat × Nat × Nat) : Bool :=
  (List.range g.2.2).all (fun i => d.pool.pages.any (fun e =>
    e.2.tag.nsid == g.1 && e.2.tag.asn == g.2.1 && e.2.tag.pageIndex == i))

/-- The commands that the grouping keeps (R91 step 4). -/
def keptGroups (d : Dev) : List (Nat × Nat) := ((stageGroups d).filter (groupWhole d)).map (fun g => (g.1, g.2.1))

/-- The pool part of recovery (R91 steps 1 to 5), for a pool that is OFF; a control block that decodes in neither copy
fails it with code 6 of 15 R443. -/
def recoverPool (fs : List PoolFault) (d : Dev) : Dev :=
  let d0 := { d with pool.state := .recovering }
  match selectLayout fs d0 with
  | none => judgeAlert ((fs.filter (fun f => f == .controlBlock false || f == .controlBlock true || f == .anchor false ||
        f == .anchor true)).foldl (fun a f => poolFault f a)
      { d0 with pool.state := .failed, pool.controlBad := true, boot.code := 6, pool.layout := (chartOf d0).pool })
  | some (l, true) => releaseWaiting (formatPool l d0)
  | some (l, false) =>
    let c := d0.pool.control.getD { layout := l }
    let d1 := settleWriting (resumeEvents c (resumePool l c d0))
    let d2 := fs.foldl (fun a f => poolFault f a) d1
    { d2 with pool.kept := keptGroups d2 }

/-- The grouping made final (R91 step 6, R98): pages of commands not kept are released, and counted as DISCARDED. -/
def finalGrouping (d : Dev) : Dev :=
  let gs := stageGroups d
  let kept := keptGroups d
  let lost := gs.filter (fun g => !kept.contains (g.1, g.2.1))
  let ps := (d.pool.pages.filter (fun e => !kept.contains (e.2.tag.nsid, e.2.tag.asn))).map (·.1)
  releasePages ps { d with pool.kept := kept, pool.discarded := min lost.length 65535 }

/-! ## Applying a new layout (02 R50) -/

/-- Pages that the used part of a region takes (R50): `journalTop` is one more than the highest SJOURNAL entry in use and
`logRecords` the MAPLOG records held. -/
def usedPages (d : Dev) (journalTop logRecords : Nat) : Region → Nat
  | .stage => 0
  | .sjournal => ceilDiv journalTop 64
  | .maplog => 8 + ceilDiv logRecords 64
  | .events => ceilDiv d.ev.slots.length 64
  | .admin => 256
  | .coveimg => 16 * ((d.pool.imgUsed ++ d.pool.imgClaimed).foldl (fun a i => max a (i + 1)) 0)
  | .spare => ((d.pool.remap.map (·.2)).filter (fun p => decide (regionStart d.pool.layout .spare ≤ p))).eraseDups.length + 2

/-- Size of a region in pages. -/
def regionSize (l : PoolLayout) : Region → Nat
  | .stage => l.stage
  | .sjournal => l.sjournal
  | .maplog => l.maplog
  | .events => l.events
  | .admin => l.admin
  | .coveimg => l.coveimg
  | .spare => l.spare

/-- Does the used part of every region fit the new layout (R50)? -/
def layoutFits (d : Dev) (new : PoolLayout) (journalTop logRecords : Nat) : Bool :=
  [Region.sjournal, .maplog, .events, .admin, .coveimg, .spare].all
    (fun r => decide (usedPages d journalTop logRecords r ≤ regionSize new r))

/-- First device address of the Tide Pool window (R67). -/
def poolBase : Nat := 0x0000000100000000

/-- Device address of a page (R67). -/
def pageAddr (p : Nat) : Nat := poolBase + 4096 * p

/-- The COVEIMG bytes moved with their region (R50): slots keep their numbers. -/
def moveImages (d : Dev) (new : PoolLayout) (m : Memory) : Memory :=
  let from_ := pageAddr (regionStart d.pool.layout .coveimg)
  let dest := pageAddr (regionStart new .coveimg)
  let bytes := mgets m from_ (4096 * min d.pool.layout.coveimg (usedPages d 0 0 .coveimg))
  mputs (mclear m from_ (4096 * d.pool.layout.coveimg)) dest bytes

/-- Replacements that fall outside the new SPARE move to free pages of it (R50). -/
def moveSpares (new : PoolLayout) (d : Dev) : Dev :=
  let lo := regionStart new .spare
  d.pool.remap.foldl (fun a e =>
    if e.2 < lo then match spareFree a with
      | r :: _ => { a with pool.remap := tput a.pool.remap e.1 r }
      | [] => a
    else a) { d with pool.layout := new }

/-- The choice of R50 at step 10 of recovery: apply the running Chart's layout, or keep the recorded one. -/
def settleLayout (journalTop logRecords : Nat) (d : Dev) (m : Memory) : Dev × Memory :=
  let new := (chartOf d).pool
  if new = d.pool.layout then (d, m)
  else if layoutFits d new journalTop logRecords then
    let m1 := moveImages d new m
    let d1 := moveSpares new d
    let ctl := d1.pool.control.map (fun (c : ControlBlock) => { c with layout := new })
    let d2 : Dev := { d1 with pool.control := ctl }
    let d3 := { d2 with str.logBase := d2.str.tailSeq }
    (judgeFloors (writeAnchor new d3), m1)
  else (logEvent 1 3 1 (payload 3 0 0 0) { d with pool.layoutKept := true }, m)

/-! ## Stopping (R89) -/

/-- The stop marker in both ADMIN copies, and STOPPED (R89 step 4). The key store is zeroized with it (12 R375). -/
def writeStopMarker (d : Dev) : Dev :=
  let esn := (d.ev.nextEsn.getD 1) - 1
  raisePool 4 { d with pool.state := .stopped, pool.control := d.pool.control.map (fun c =>
    { c with stopMarker := some (c.bootCount, esn, d.pool.ptr), pointer := d.pool.ptr }) }

/-! ## POOL register reads (R97 to R99) -/

/-- PEAK (R97): the highest occupancy since the field was last read, which is at least the occupancy now. -/
def peakNow (d : Dev) : Nat := max d.pool.peak (occupancy d)

/-- POOL_OCCUPANCY_READ (R97): PEAK is returned and cleared. -/
def execPoolOccupancyRead (s : State) : Result :=
  onDev s (readReg (fun d => { d with readData := occupancy d + peakNow d * 65536, pool.peak := 0 }))

/-- POOL_ECC_READ (R98): both counts are returned and cleared. -/
def execPoolEccRead (s : State) : Result :=
  onDev s (readReg (fun d => { d with readData := d.pool.corr2 + d.pool.uncorr * 65536, pool.corr2 := 0, pool.uncorr := 0 }))

end Sys2Proof.Machine
end

