-- ==== Sys2Proof/Machine/Geometry.lean ====
section
/-! DEFINITION. Shoals, rows, strips and slots (04 R101 to R105), the member behind each strip (06 R164, R184, R185), and
the 64-byte records of SJOURNAL and MAPLOG (04 R115, R126). -/

namespace Sys2Proof.Machine

/-! ## Geometry (R101, R102, R104) -/

/-- Data strips D of a geometry (R102). -/
def dataStrips (g : ShoalCfg) : Nat := g.width - g.parity - g.spareStrips

/-- Blocks B of a strip: 32, or 31 in packed-metadata mode (R104). -/
def stripBlocks (g : ShoalCfg) : Nat := if g.metaMode = 1 then 31 else 32

/-- Slots of a stripe (R104). -/
def slotCount (g : ShoalCfg) : Nat := dataStrips g * stripBlocks g

/-- Bays of a geometry by position (R101). -/
def memberBays (g : ShoalCfg) : List Nat := bitList g.members.toNat 32

/-- Position of P in a row (R102). -/
def rowOffset (g : ShoalCfg) (row : Nat) : Nat := row % max g.width 1

/-- Position of spare strip `k` in a row (R102). -/
def sparePos (g : ShoalCfg) (row k : Nat) : Nat := (rowOffset g row + g.parity + k) % max g.width 1

/-- Position of data strip `d` in a row (R102). -/
def dataPos (g : ShoalCfg) (row d : Nat) : Nat := (rowOffset g row + g.parity + g.spareStrips + d) % max g.width 1

/-- Positions that a stripe writes: data and parity, not spare (R102). -/
def writtenPos (g : ShoalCfg) (row : Nat) : List Nat :=
  (List.range g.parity).map (fun k => (rowOffset g row + k) % max g.width 1) ++ (List.range (dataStrips g)).map (dataPos g row)

/-- Position and block offset of a slot (R104). -/
def slotPos (g : ShoalCfg) (row slot : Nat) : Nat × Nat := (dataPos g row (slot / stripBlocks g), slot % stripBlocks g)

/-- Member LBA of a block of a row's strip (R101). -/
def memberLba (row blk : Nat) : Nat := 65536 + row * 32 + blk

/-- A Shoal's state. -/
def shoalOf (d : Dev) (sh : Nat) : Option ShoalSt := tget d.str.shoals sh

/-- The Shoal's current geometry, a Shoal of no member where the Chart has none. -/
def curGeom (d : Dev) (sh : Nat) : ShoalCfg :=
  ((shoalOf d sh).map (·.cfg)).getD
    { shoal := sh, geometryId := 0, width := 0, parity := 0, spareStrips := 0, streams := 1, metaMode := 0, members := 0,
      evacuating := 0 }

/-- The geometry of an ID: the current one or one that still holds stripes (R140). -/
def geomOf (d : Dev) (sh gid : Nat) : ShoalCfg :=
  let c := curGeom d sh
  if c.geometryId = gid then c
  else (((shoalOf d sh).map (·.olds)).getD []).find? (fun g => g.geometryId == gid) |>.getD c

/-- A stripe's geometry. -/
def stripeGeom (d : Dev) (s : Stripe) : ShoalCfg := geomOf d s.shoal s.geometry

/-- The stripe in a row; none for a FREE row. -/
def rowAt (d : Dev) (sh row : Nat) : Option Stripe := tget d.str.rows (rkey sh row)

/-- Replace the stripe in a row. -/
def setRow (s : Stripe) (d : Dev) : Dev := { d with str.rows := tput d.str.rows (rkey s.shoal s.row) s }

/-- The last stream of a Shoal: map-class blocks and cold relocations (R109). -/
def lastStream (g : ShoalCfg) : Nat := g.streams - 1

/-- ROWS of a Shoal (R101): what its label records. -/
def rowsOf (d : Dev) (sh : Nat) : Nat := ((shoalOf d sh).map (·.rows)).getD 0

/-- FREE rows of a Shoal (R135): those that hold no stripe. -/
def freeRows (d : Dev) (sh : Nat) : Nat := rowsOf d sh - (d.str.rows.filter (fun e => e.2.shoal == sh)).length

/-- f > FREE_RESERVE, in units of 0.1 % (R135). -/
def aboveReserve (d : Dev) (sh : Nat) : Bool :=
  decide ((chartOf d).storage.freeReserve * rowsOf d sh < 1000 * freeRows d sh)

/-- f < 2 × FREE_RESERVE (R134). -/
def belowTwice (d : Dev) (sh : Nat) : Bool :=
  decide (1000 * freeRows d sh < 2 * (chartOf d).storage.freeReserve * rowsOf d sh)

/-- Usable capacity of a Shoal in blocks (R135). -/
def usableBlocks (d : Dev) (sh : Nat) : Nat :=
  rowsOf d sh * slotCount (curGeom d sh) * (1000 - (chartOf d).storage.freeReserve) / 1000

/-- Blocks of a grain: 1, 4 or 16 (R112). -/
def grainBlocks (code : Nat) : Nat := 4 ^ code

/-- Blocks of a namespace's grain. -/
def nsGrain (d : Dev) (nsid : Nat) : Nat := grainBlocks (((tget d.host.nss nsid).map (·.grain)).getD 0)

/-- Shoal of a namespace (R109). -/
def nsShoal (d : Dev) (nsid : Nat) : Nat := ((tget d.host.nss nsid).map (·.shoal)).getD 0

/-! ## Members behind strips (06 R164, R178, R182, R185) -/

/-- The label of a Shoal. -/
def labelOf (d : Dev) (sh : Nat) : ShoalLabel := (tget d.shelf.labels sh).getD {}

/-- Replace the label of a Shoal, marking it for propagation (R171). -/
def setLabel (sh : Nat) (l : ShoalLabel) (d : Dev) : Dev :=
  { d with shelf.labels := tput d.shelf.labels sh { l with labelSeq := l.labelSeq + 1 }
           shelf.labelDirty := if d.shelf.labelDirty.contains sh then d.shelf.labelDirty else d.shelf.labelDirty ++ [sh] }

/-- The bay that a position of the running Chart's geometry, or an EVACUATING bay beside it (R141, key 32 + bay), belongs to. -/
def homeBay (g : ShoalCfg) (pos : Nat) : Nat := if 32 ≤ pos then pos - 32 else (memberBays g).getD pos 0xFF

/-- The position under which the label keeps what stands at a position of a geometry: the label goes by the current geometry, and keeps
a bay that it no longer names, which stays EVACUATING whatever a later patch says, under 32 + bay (R140, R141). -/
def labelPos (d : Dev) (g : ShoalCfg) (pos : Nat) : Nat :=
  let c := curGeom d g.shoal
  if g.geometryId = c.geometryId then pos
  else
    let b := homeBay g pos
    if thas (labelOf d g.shoal).roster (32 + b) then 32 + b else ((memberBays c).findIdx? (· == b)).getD (32 + b)

/-- The position in a stripe's geometry of a position of the label, if its geometry has that bay (R140). -/
def stripePos (d : Dev) (s : Stripe) (pos : Nat) : Option Nat :=
  let c := curGeom d s.shoal
  if s.geometry = c.geometryId then (if pos < 32 then some pos else none)
  else (memberBays (stripeGeom d s)).findIdx? (· == homeBay c pos)

/-- The roster entry of a position of a geometry. -/
def rosterAt (d : Dev) (g : ShoalCfg) (pos : Nat) : Option RosterEntry := tget (labelOf d g.shoal).roster (labelPos d g pos)

/-- State of the member at a position; a position without a roster entry is FAILED. -/
def memberState (d : Dev) (g : ShoalCfg) (pos : Nat) : MemberState := ((rosterAt d g pos).map (·.state)).getD .failed

/-- The bay of the member at a position: the roster's, which records the bay of a SPARE member that took the position
(R188). -/
def memberBay (d : Dev) (g : ShoalCfg) (pos : Nat) : Nat :=
  ((rosterAt d g pos).map (·.bay)).getD (homeBay g pos)

/-- The resync slot open for a position. -/
def resyncOf (d : Dev) (sh pos : Nat) : Option Resync := (labelOf d sh).resync.find? (fun r => r.pos == pos)

/-- Resync region of a row (R181). -/
def resyncRegion (row : Nat) : Nat := row / 131072

/-- Is a stripe in the resync set of a position of the label (R182), while G_R is still open everything from G_A up? -/
def inResync (d : Dev) (s : Stripe) (pos : Nat) : Bool :=
  match resyncOf d s.shoal pos with
  | none => false
  | some r => r.regions.contains (resyncRegion s.row) && decide (r.gA ≤ s.gen) && (r.gR == 0 || decide (s.gen < r.gR)) &&
      !r.doneGens.contains s.gen

/-- Is a position folded: a resync slot is open for it and its member's strips are not issued (R177)? -/
def folded (d : Dev) (sh pos : Nat) : Bool := (resyncOf d sh pos).isSome

/-- The substitutions of a position, the newest last (R184). -/
def substsOf (d : Dev) (sh pos : Nat) : List Subst := (labelOf d sh).subst.filter (fun s => s.pos == pos)

/-- Is the drive in a bay there to serve: present, its link up and formatted? -/
def driveUp (d : Dev) (bay : Nat) : Bool := match tget d.shelf.drives bay with
  | some v => v.linkUp && !v.formatting
  | none => false

/-- Does a substitution hold the strip of a stripe (R185): sealed from G0 on and not left out at its issue, or rebuilt at or below
CURSOR and placed? -/
def substHolds (s : Stripe) (pos : Nat) (u : Subst) : Bool :=
  if u.g0 ≤ s.gen then !s.omitted.getLsbD pos
  else decide (s.gen ≤ u.cursor) && !u.unplacedGens.contains s.gen

/-- Can a strip be read from the member at a position of a geometry, as the state of that member judges it (R164, R178)? From a REBUILDING
one in the rows that it has rebuilt. -/
def servesReads (d : Dev) (g : ShoalCfg) (s : Stripe) (pos : Nat) : Bool :=
  match memberState d g pos with
  | .online | .evacuating => true
  | .slow | .resyncing => !inResync d s (labelPos d g pos)
  | .rebuilding => driveUp d (memberBay d g pos) && (substsOf d g.shoal (labelPos d g pos)).any (fun u =>
      u.kind == 2 && u.target == memberBay d g pos && decide (s.gen ≤ u.cursor))
  | _ => false

/-- The bay from which a substituted strip of a stripe can be read (R178, R185): a spare strip from the member that holds it, as that
member's state judges it, or a drive that is there. -/
def substBay (d : Dev) (g : ShoalCfg) (s : Stripe) (u : Subst) : Option Nat :=
  if u.kind = 1 then
    let p := sparePos g s.row u.target
    if servesReads d g s p then some (memberBay d g p) else none
  else if driveUp d u.target then some u.target else none

/-- The bay to which a new stripe's substituted strip is written (R185): for a spare strip an ONLINE member's. -/
def substTo (d : Dev) (g : ShoalCfg) (row : Nat) (u : Subst) : Option Nat :=
  if u.kind = 1 then
    let p := sparePos g row u.target
    if memberState d g p = .online then some (memberBay d g p) else none
  else some u.target

/-- The newest substitution that holds a strip of a stripe. -/
def holdingSubst (d : Dev) (s : Stripe) (pos : Nat) : Option Subst :=
  (substsOf d s.shoal (labelPos d (stripeGeom d s) pos)).reverse.find? (substHolds s pos)

/-- The bay from which a strip of a stripe can be read now; none when it counts as missing (R164, R178, R182, R185). -/
def stripBay (d : Dev) (s : Stripe) (pos : Nat) : Option Nat :=
  let g := stripeGeom d s
  let own := memberBay d g pos
  let sub := (holdingSubst d s pos).bind (substBay d g s)
  let lp := labelPos d g pos
  if s.late.getLsbD pos then none
  else match memberState d g pos with
    | .online => match (substsOf d s.shoal lp).find? (fun u => decide (u.g0 ≤ s.gen)) with
      | some u => if substHolds s pos u then substBay d g s u else none
      | none => some own
    | .evacuating => some own
    | .slow => if inResync d s lp then none else some own
    | .resyncing => if inResync d s lp then none else some own
    | .rebuilding => sub
    | .failed => sub
    | .absent => none
    | .spare => none

/-- The bay that a new stripe's strip at a position is written to (R164, R185); none when the position is missing. -/
def writeBay (d : Dev) (s : Stripe) (pos : Nat) : Option Nat :=
  let g := stripeGeom d s
  let own := memberBay d g pos
  let lp := labelPos d g pos
  let dest := ((substsOf d s.shoal lp).reverse.find? (fun u => decide (u.g0 ≤ s.gen))).bind (substTo d g s.row)
  match memberState d g pos with
  | .online => if (substsOf d s.shoal lp).any (fun u => decide (u.g0 ≤ s.gen)) then dest else some own
  | .slow => if folded d s.shoal lp then none else some own
  | .resyncing => some own
  | .rebuilding => dest
  | .failed => dest
  | .absent => none
  | .evacuating => none
  | .spare => none

/-- Positions of a stripe whose strip is missing (R178). -/
def missingPos (d : Dev) (s : Stripe) : List Nat :=
  (writtenPos (stripeGeom d s) s.row).filter (fun p => (stripBay d s p).isNone)

/-- Can the blocks of a stripe be reconstructed with `extra` further strips unavailable at the offset (R178)? -/
def reconstructs (d : Dev) (s : Stripe) (extra : Nat) : Bool :=
  decide ((missingPos d s).length + extra ≤ (stripeGeom d s).parity)

/-- Bitmap keepers of a Shoal: its two lowest ONLINE members (R118). -/
def keepersOf (d : Dev) (sh : Nat) : List Nat :=
  (((labelOf d sh).roster.filter (fun e => e.2.state == .online)).map (fun e => e.2.bay)).take 2

/-! ## Records (R115, R126) -/

/-- Numbers `f i`, each of so many bytes, as one number. -/
def packNum (width : Nat) (f : Nat → Nat) : Nat → Nat
  | 0 => 0
  | n + 1 => packNum width f n + (f n % 2 ^ (8 * width)) * 2 ^ (8 * width * n)

/-- A 64-byte record whose last 4 bytes are CRC-32C over the first 60, as a number. -/
def checked (l : List Byte) : Nat :=
  let b := (l ++ List.replicate 60 0#8).take 60
  leNum (b ++ leBytes (crc32c b).toNat 4)

/-- STATE of an SJOURNAL entry (R115). -/
def lifeNum : StripeLife → Nat
  | .opened => 1
  | .sealed => 2
  | .writing => 3
  | .durable => 4
  | .committed => 5
  | .abandoned => 0

/-- Slots that hold data or fill blocks. -/
def usedSlots (s : Stripe) : Nat := (s.slots.filterMap id).length

/-- An SJOURNAL entry (R115). -/
def journalEntry (s : Stripe) (total : Nat) : Nat :=
  checked (leBytes (lifeNum s.life) 1 ++ leBytes s.shoal 1 ++ leBytes s.geometry 1 ++ leBytes (s.stream + 16 * s.sealCause) 1
    ++ leBytes s.row 4 ++ leBytes (s.gen % 2 ^ 40) 8 ++ leBytes s.done.toNat 4 ++ leBytes s.late.toNat 4
    ++ leBytes (usedSlots s) 2 ++ leBytes (total - usedSlots s) 2 ++ leBytes s.mapSeq 8)

/-- Address bits [42:0] of R122. -/
def placeNum (p : Place) : Nat := p.shoal * 2 ^ 41 + p.row * 2 ^ 10 + p.slot

/-- The place that address bits name. -/
def numPlace (n : Nat) : Place := { shoal := bits n 42 41, row := bits n 40 10, slot := bits n 9 0 }

/-- A map entry as its 8 bytes (R122). -/
def entryNum : MapEntry → Nat
  | .unmapped => 0
  | .mapped p => 2 ^ 62 + placeNum p
  | .zero => 2 ^ 63
  | .lost p => 2 ^ 62 + 2 ^ 63 + placeNum p

/-- A MAPLOG record (R126). -/
def logRecord (r : LogRec) : Nat :=
  checked (leBytes r.type 1 ++ leBytes r.flags 1 ++ leBytes r.mask 2 ++ leBytes r.nsid 4 ++ leBytes r.start 8
    ++ leBytes r.count 4 ++ leBytes 0 4 ++ leBytes ((r.phys.map placeNum).getD 0) 8 ++ leBytes r.asnLo 8
    ++ leBytes (if r.type = 6 then (r.src.map placeNum).getD 0 else r.asnHi) 8 ++ leBytes r.seq 8)

/-- SJOURNAL entries of the layout in use. -/
def journalSize (d : Dev) : Nat := d.pool.layout.sjournal * 64

/-- MAPLOG records that the ring holds (R126). -/
def logSize (d : Dev) : Nat := (d.pool.layout.maplog * 4096 - 32768) / 64

/-- SJOURNAL entries in use. -/
def journalUsed (d : Dev) : Nat := (d.str.rows.filter (fun e => e.2.inJournal)).length

/-- The lowest free SJOURNAL index. -/
def freeJournal (d : Dev) : Option Nat :=
  let used := (d.str.rows.filter (fun e => e.2.inJournal)).map (fun e => e.2.jindex)
  (List.range (min (journalSize d) (used.length + 1))).find? (fun i => !used.contains i)

/-- One more than the highest SJOURNAL index in use (02 R50). -/
def journalTop (d : Dev) : Nat :=
  (d.str.rows.filter (fun e => e.2.inJournal)).foldl (fun a e => max a (e.2.jindex + 1)) 0

/-- Mirror a stripe's SJOURNAL entry (13 R404). -/
def mirrorJournal (s : Stripe) (d : Dev) : Dev :=
  mirrorRegion (regionStart d.pool.layout .sjournal + s.jindex / 64) (s.jindex % 64) [journalEntry s (slotCount (stripeGeom d s))] d

/-- Write a stripe's SJOURNAL entry: the row, and the mirrored unit (R114, 13 R404). -/
def writeJournal (s : Stripe) (d : Dev) : Dev := mirrorJournal s (setRow s d)

/-- Free a stripe's SJOURNAL entry (R114). -/
def freeEntry (s : Stripe) (d : Dev) : Dev :=
  mirrorRegion (regionStart d.pool.layout .sjournal + s.jindex / 64) (s.jindex % 64) [0]
    (setRow { s with inJournal := false } d)

/-- Place of a record in the MAPLOG ring (R126): the record of SEQ `logBase` stands at its start, where a new layout puts the tail
(02 R50). -/
def logPlace (d : Dev) (seq : Nat) : Nat :=
  let n := max (logSize d) 1
  (seq + n - d.str.logBase % n) % n

/-- Mirror a MAPLOG record (13 R404). -/
def mirrorLogRec (q : LogRec) (d : Dev) : Dev :=
  let i := logPlace d q.seq
  mirrorRegion (regionStart d.pool.layout .maplog + 8 + i / 64) (i % 64) [logRecord q] d

/-- Append a MAPLOG record under the next SEQ, mirrored (R126, 13 R404); UNMAP, ZERO and ZERO_MASK records also queue for a
record block (R133). -/
def appendLog (r : LogRec) (d : Dev) : Dev :=
  let q := { r with seq := d.str.nextSeq }
  let d1 := { d with str.log := d.str.log ++ [q], str.nextSeq := q.seq + 1
                     str.recordQueue := if r.type = 2 ∨ r.type = 3 ∨ r.type = 8 then d.str.recordQueue ++ [q]
                                        else d.str.recordQueue }
  occur 5 5 1 {} (mirrorLogRec q d1)

/-- Free MAPLOG records (R129). -/
def logFree (d : Dev) : Nat := logSize d - d.str.log.length

end Sys2Proof.Machine
end

