-- ==== Sys2Proof/Machine/AdminRegion.lean ====
section
/-! DEFINITION. The ADMIN records as 64-byte units (03 R73): ASN marks, format progress (07 R230), the sanitise record (07
R237) and the wrapped key index (12 R383); what the Data Port reads there and what is mirrored (13 R404). -/

namespace Sys2Proof.Machine

/-- A format progress record (07 R230). -/
def formatNum (n : Ns) : Nat :=
  (match n.fmt with
    | .none => 0
    | .erasing => 1
    | .reclaiming => 2
    | .complete => 3
    | .deleting => 4) * 2 ^ 60 + (n.percent % 256) * 2 ^ 52 + (n.startS % 2 ^ 23) * 2 ^ 29 + n.cursor % 2 ^ 29

/-- The sanitise progress record (07 R237), with its CHECK. -/
def sanNum (r : SanRecord) : Nat :=
  checked (leBytes r.state 1 ++ leBytes r.sanact 1 ++ leBytes r.step 1 ++ leBytes r.percent 1 ++ leBytes r.cdw10 4
    ++ leBytes r.membersDone.toNat 4 ++ leBytes r.startS 6)

/-- The first 124 bytes of a namespace key record (12 R381). -/
def keyRecordBody (k : NsKey) : List Byte :=
  [0x57#8, 0x58#8, 0x4E#8, 0x4B#8] ++ leBytes 1 2 ++ leBytes k.rec_.kind 1 ++ leBytes 0 1 ++ leBytes k.rec_.nsid 4
    ++ leBytes k.rec_.keyGen 4 ++ leBytes k.rec_.kekEpoch 4 ++ leBytes 0 4 ++ sized 100 k.wrapped

/-- An entry of the wrapped key index (12 R383). -/
def keyIndexEntry (d : Dev) (nsid : Nat) : Nat :=
  match tget d.keys.nsKeys nsid with
  | none => 0
  | some k =>
    let body := leBytes k.rec_.keyGen 4 ++ leBytes k.rec_.kind 1
      ++ leBytes (if (tget d.host.nss nsid).any (fun n => n.fmt == .deleting) then 3 else if k.durable then 1 else 2) 1
      ++ leBytes 0 2 ++ leBytes (crc32c (keyRecordBody k)).toNat 4
    leNum (body ++ leBytes (crc32c body).toNat 4)

/-- The 32 bytes of a POOL section (02 R34). -/
def poolSection (l : PoolLayout) : List Byte :=
  leBytes l.stage 4 ++ leBytes l.sjournal 4 ++ leBytes l.maplog 4 ++ leBytes l.events 4 ++ leBytes l.admin 4 ++ leBytes l.coveimg 4
    ++ leBytes l.spare 4 ++ leBytes 0 4

/-- The control block (R73, 13 R392): the recorded POOL section, the stop marker with its boot count, last ESN and pointer, the STAGE
allocation pointer, the boot count and PAIR_EPOCH (order by log entry 33). -/
def controlBytes (epoch : Nat) (c : ControlBlock) : List Byte :=
  poolSection c.layout ++ (match c.stopMarker with
    | some (b, e, p) => leBytes 1 1 ++ leBytes 0 3 ++ leBytes p 4 ++ leBytes e 8 ++ leBytes b 8
    | none => leBytes 0 24) ++ leBytes c.pointer 4 ++ leBytes 0 4 ++ leBytes c.bootCount 8 ++ leBytes epoch 8

/-- The Ebb cursors of a Shoal (R73, 04 R134): the positions of steps 1 and 3 (order by log entry 33). -/
def cursorUnit (d : Dev) (sh : Nat) : Nat :=
  match tget d.str.shoals sh with
  | some x => leNum (leBytes x.cursor1 8 ++ leBytes x.cursor3 8)
  | none => 0

/-- A 64-byte unit of an ADMIN page, by page and unit within ADMIN (R73). -/
def adminUnit (d : Dev) (page unit : Nat) : Option Nat :=
  let rec8 := fun (base : Nat) (f : Nat → Nat) => packNum 8 (fun i => f ((page - base) * 512 + unit * 8 + i + 1)) 8
  let mark := fun n => (tget d.pool.marks n).getD 0
  let fmt := fun n => ((tget d.host.nss n).map formatNum).getD 0
  let key := fun (base : Nat) => packNum 16 (fun i => keyIndexEntry d ((page - base) * 256 + unit * 4 + i + 1)) 4
  if page < 2 then some (match d.pool.control with
    | some c => bits (leNum (controlBytes d.pair.epoch c)) (512 * unit + 511) (512 * unit)
    | none => 0)
  else if page < 4 then
    some (packNum 4 (fun i => match d.pool.remap[unit * 16 + i]? with
      | some e => e.1 % 65536 + 65536 * (e.2 % 65536)
      | none => 0) 16)
  else if page < 12 then some (rec8 4 mark)
  else if page < 20 then some (rec8 12 mark)
  else if page < 28 then some (rec8 20 fmt)
  else if page < 36 then some (rec8 28 fmt)
  else if page < 38 then some (if unit = 0 then sanNum d.host.san else 0)
  else if page < 40 then some (if unit < 4 then cursorUnit d unit else 0)
  else if page < 56 then some (key 40)
  else if page < 72 then some (key 56)
  else some 0

/-- Mirror an ADMIN unit of copy A and of copy B (13 R404): `copyB` is the distance of copy B in pages. -/
def mirrorAdmin (page unit copyB : Nat) (d : Dev) : Dev :=
  let start := regionStart d.pool.layout .admin
  match adminUnit d page unit with
  | none => d
  | some v => mirrorRegion (start + page + copyB) unit [v] (mirrorRegion (start + page) unit [v] d)

/-- Write an ASN mark (05 R146). -/
def writeMark (nsid asn : Nat) (d : Dev) : Dev :=
  let i := (nsid - 1) / 8
  mirrorAdmin (4 + i / 64) (i % 64) 8 { d with pool.marks := tput d.pool.marks nsid asn }

/-- Mirror a namespace's format record. -/
def mirrorFormat (nsid : Nat) (d : Dev) : Dev :=
  let i := (nsid - 1) / 8
  mirrorAdmin (20 + i / 64) (i % 64) 8 d

/-- Mirror a namespace's key index entry. -/
def mirrorKeyIndex (nsid : Nat) (d : Dev) : Dev :=
  let i := (nsid - 1) / 4
  mirrorAdmin (40 + i / 64) (i % 64) 16 d

/-- Write the sanitise record (07 R237). -/
def writeSan (r : SanRecord) (d : Dev) : Dev := mirrorAdmin 36 0 1 { d with host.san := r }

end Sys2Proof.Machine
end

