-- ==== Sys2Proof/Machine/Mailbox.lean ====
section
/-! DEFINITION. The firmware mailbox (18 R503 to R506): how a command begins and how its result is put in place. -/

namespace Sys2Proof.Machine

/-- First device address of the mailbox area (R503). -/
def mailboxBase : Nat := 0x0000004000400000

/-- A mailbox command completes (R504, R506): BUSY clears, DONE_SEQ takes the doorbell's SEQ and GLOBAL_INT.MBOX is raised.
The result bytes go to the mailbox area with the step (see `placeMbox`). -/
def mboxDone (r : MboxResult) (d : Dev) : Dev :=
  if d.mhi.mboxBusy then
    emit (.mailbox r.status r.dw0 r.bytes)
      (raiseGlobal 0 { d with mhi.mboxBusy := false, mhi.mboxPending := false, mhi.mboxDoneSeq := d.mhi.mboxSeq
                              mhi.mboxResult := some r })
  else d

/-- Complete with a status and nothing else. -/
def mboxStatus (st : Nat) (d : Dev) : Dev := mboxDone { status := st } d

/-- Complete with success and a DW0. -/
def mboxOk (dw0 : Nat) (d : Dev) : Dev := mboxDone { status := 0, dw0 := dw0 } d

/-- The output that the request has room for (R503): OUT_MAX of the request that a doorbell started. -/
def mboxOut (d : Dev) (r : MboxResult) : List Byte :=
  match d.mhi.mboxRoom with
  | some n => r.bytes.take n
  | none => r.bytes

/-- Put a result into the mailbox area (R503): STATUS, DW0, OUT_LEN, NVME_STATUS, and the output at 0x1000. -/
def placeMbox (d : Dev) (m : Memory) : Dev × Memory :=
  match d.mhi.mboxResult with
  | none => (d, m)
  | some r =>
    ({ d with mhi.mboxResult := none },
      mputs (mputs m (mailboxBase + 0x80) (leBytes r.status 4 ++ leBytes r.dw0 4 ++ leBytes (mboxOut d r).length 4 ++ leBytes r.nvme 4))
        (mailboxBase + 0x1000) (mboxOut d r))

/-- The outcome of a command that may complete the mailbox: it changes the device, and the mailbox area by a result. -/
def onMbox (s : State) (f : Dev → Dev) : Result := onBoth s (fun d m => placeMbox (f d) m)

/-- A mailbox command of the shelf manager (R504): its doorbell is ignored, and REFUSED set, while the mailbox is not READY
or runs another command. A doorbell row that came first has set BUSY already. -/
def mboxRun (f : Dev → Dev) (d : Dev) : Dev :=
  if !d.mhi.mboxReady ∨ (d.mhi.mboxBusy ∧ !d.mhi.mboxPending) then { d with mhi.mboxRefused := true }
  else f { d with mhi.mboxRefused := false, mhi.mboxBusy := true, mhi.mboxPending := false
                  mhi.mboxRoom := if d.mhi.mboxPending then d.mhi.mboxRoom else none }

/-- NVME_STATUS of a completion (R503). -/
def nvmeStatus (st : Status) : Nat := st.sc % 256 + 256 * (st.sct % 8) + 2147483648 * b2n st.dnr

end Sys2Proof.Machine
end

