-- ==== Sys2Proof/Machine/NetSend.lean ====
section
/-! DEFINITION. Sending on queue pairs: packets, windows, paths and their pacing (08 R253 to R271), and the completions of
host commands (07 R212, 08 R272). BTH opcodes of standard mode are IBTA's (log entry 15). -/

namespace Sys2Proof.Machine

/-- A queue pair. -/
def qpOf (d : Dev) (qpn : Nat) : Option Qp := tget d.net.qps qpn

/-- Replace a queue pair. -/
def setQp (qpn : Nat) (q : Qp) (d : Dev) : Dev := { d with net.qps := tput d.net.qps qpn q }

/-- The link that a queue pair's address holds now (R249). -/
def qpLink (d : Dev) (q : Qp) : Nat := ((tget d.net.addrs q.address).map (·.link)).getD (4 * q.port)

/-- Bytes of a packet around its payload and extension headers: Ethernet, tag, IP, UDP, BTH, ICRC and FCS (R248). -/
def packetBytes (d : Dev) (q : Qp) : Nat :=
  let a := tget d.net.addrs q.address
  42 + (if ((a.map (·.rec_.vlan)).getD 0) = 0 then 0 else 4) + (if ((a.map (·.rec_.family)).getD 4) = 6 then 40 else 20)

/-- The SACK block of a SPRAY_ACK (R263) with a syndrome and an RNR timer encoding, as a big-endian number. -/
def sackBody (q : Qp) (syn timer : Nat) : Nat :=
  let (psn, path, ts, ce, retx) := q.trigger
  let sack := q.rxSet.foldl (fun a p => a + 2 ^ (255 - ((p + 2 ^ 24 - (q.rxPsn + 1) % 2 ^ 24) % 2 ^ 24) % 256)) 0
  ((((((16 * 256 + path % 64) * 256 + syn) * 256 + timer) * 2 ^ 32 + q.rxPsn) * 2 ^ 32 + ts % 2 ^ 32) * 2 ^ 32
    + (b2n ce * 2 ^ 25 + b2n retx * 2 ^ 24 + psn)) * 2 ^ 384 + sack * 2 ^ 128

/-- PSN distance modulo 2^24. -/
def psnDiff (a b : Nat) : Nat := (a + 2 ^ 24 - b % 2 ^ 24) % 2 ^ 24

/-- Bytes of payload that a message carries. -/
def msgBytes (d : Dev) : QpMsg → Nat
  | .readData tag => 4096 * ((tget d.adm.cmds tag).map (fun c => lsum c.ranges (·.len))).getD 0
  | .readRequest _ _ _ => 0
  | .completion _ _ _ => 16

/-- Fragments of so many bytes (R262). -/
def fragCount (q : Qp) (bytes : Nat) : Nat := max 1 (ceilDiv bytes (max q.mtu 1))

/-- BTH opcode of fragment `i` of `n` (R253, R257). -/
def opcodeOf (q : Qp) (m : QpMsg) (i n : Nat) : Nat :=
  match m with
  | .completion _ _ _ => if q.spray then 0xC0 else 0x04
  | .readRequest _ _ _ => if q.spray then 0xC2 else 0x0C
  | .readData _ =>
    if q.spray then 0xC1
    else if n = 1 then 0x0A else if i = 0 then 0x06 else if i + 1 = n then 0x08 else 0x07

/-- Extension header bytes of a packet: RETH in standard mode, the placement and read extensions in Spray (R259, R260). -/
def extBytes (op : Nat) : Nat :=
  if op = 0xC2 then 48 else if 0xC0 ≤ op ∧ op ≤ 0xC3 then 32
  else if op = 0x06 ∨ op = 0x0A ∨ op = 0x0C then 16 else 0

/-- Payload of fragment `i` of `n` of a message of so many bytes (R262). -/
def fragBytes (q : Qp) (bytes i n : Nat) : Nat := if i + 1 = n then bytes - (n - 1) * q.mtu else q.mtu

/-- Nanoseconds that so many bytes take at a rate in KB/s (R271). -/
def paceNs (len rate : Nat) : Nat := ceilDiv (len * 1000000) (max rate 1)

/-- The first time at which a packet of so many bytes may leave on a path (R271): b / r after the packet before it. -/
def pathTime (now len : Nat) (p : SprayPath) : Nat :=
  match p.lastTx with
  | none => now
  | some t => max now (t + paceNs len p.rate)

/-- The up path that may send earliest, lowest index on a tie (R271), with its time. -/
def earliestPath (now len : Nat) : Nat → List SprayPath → Option (Nat × Nat)
  | _, [] => none
  | i, p :: r => match earliestPath now len (i + 1) r with
    | some (j, t) => if p.up ∧ pathTime now len p ≤ t then some (i, pathTime now len p) else some (j, t)
    | none => if p.up then some (i, pathTime now len p) else none

/-- UDP source port of a path (R255, R266). -/
def srcPort (q : Qp) (path : Nat) : Nat :=
  0xC000 + (q.portDraw + if q.spray then 257 * (path + 64 * (q.paths.getD path {}).k) else 0) % 16384

/-- Queue a packet's frame on a path of its queue pair, at the path's next permitted time (R271). -/
def queuePacket (qpn path : Nat) (retx ackReq : Bool) (pkt : SentPkt) (d : Dev) : Dev :=
  match qpOf d qpn with
  | none => d
  | some q =>
    let start := pathTime (elapsed d) pkt.len (q.paths.getD path {})
    queueCove (qpLink d q)
      { kind := 2, qpn := qpn, cove := q.cove, len := pkt.len, paceAt := start, opcode := pkt.opcode, psn := pkt.psn,
        body := pkt.msg, path := path, srcPort := srcPort q path, retx := retx, ackReq := ackReq, frag := pkt.frag,
        frags := pkt.frags }
      (setQp qpn { q with paths := modNth q.paths path (fun w => { w with lastTx := some start }) } d)

/-- Packets in the window: from the oldest not acknowledged (R261). -/
def inWindow (q : Qp) : Nat := match q.sent with
  | [] => 0
  | p :: _ => psnDiff q.txPsn p.psn

/-- Standard reads outstanding (R255). -/
def readsOut (q : Qp) : Nat := (q.sent.filter (fun p => p.opcode == 0x0C)).length

/-- Cut the next packet of a queue pair's backlog, while its window, its read limit and its paths allow (R255, R261). -/
def cutPacket (qpn : Nat) (d : Dev) : Option Dev :=
  match qpOf d qpn with
  | none => none
  | some q =>
    if q.error ∨ !q.connected then none
    else match q.backlog with
      | [] => none
      | (k, i) :: rest =>
        match tget q.msgs k with
        | none => some (setQp qpn { q with backlog := rest } d)
        | some m =>
          let bytes := msgBytes d m
          let n := fragCount q bytes
          let op := opcodeOf q m i n
          if (q.spray ∧ 256 ≤ inWindow q) ∨ (op = 0x0C ∧ min 16 q.reads ≤ readsOut q) then none
          else
            let len := packetBytes d q + extBytes op + fragBytes q bytes i n
            match earliestPath (elapsed d) len 0 q.paths with
            | none => none
            | some (path, _) =>
              let np := match m with
                | .readRequest _ _ len => if q.spray then 1 else fragCount q len
                | _ => 1
              let pkt : SentPkt :=
                { psn := q.txPsn, path := path, msg := k, frag := i, frags := n, opcode := op, npsn := np, len := len }
              let q1 := { q with txPsn := (q.txPsn + np) % 2 ^ 24, sent := q.sent ++ [pkt]
                                 backlog := if i + 1 < n then (k, i + 1) :: rest else rest }
              some (queuePacket qpn path false (i + 1 == n) pkt (setQp qpn q1 d))

/-- Cut packets as far as the queue pair's limits allow. -/
def pumpQp : Nat → Nat → Dev → Dev
  | 0, _, d => d
  | n + 1, qpn, d => match cutPacket qpn d with
    | none => d
    | some d1 => pumpQp n qpn d1

/-- Give a message to a queue pair (R262). -/
def netSend (qpn : Nat) (m : QpMsg) (d : Dev) : Dev :=
  match qpOf d qpn with
  | none => d
  | some q =>
    if q.error ∨ !q.connected then d
    else pumpQp 4096 qpn (setQp qpn { q with msgs := tput q.msgs q.nextMsg m, nextMsg := (q.nextMsg + 1) % 2 ^ 32,
                                              backlog := q.backlog ++ [(q.nextMsg, 0)] } d)

/-- Queue pair of a queue: the admin queue's for SQ 0. -/
def queueQpn (d : Dev) (cntlid sqid : Nat) : Option Nat :=
  if sqid = 0 then (tget d.host.ctrls cntlid).map (·.adminQpn) else (tget d.host.sqs (sqKey cntlid sqid)).map (·.qpn)

/-- Complete a command of a queue: the completion goes out on its queue pair. Controller 0 is the MHI, whose command
completes in the mailbox (18 R505, R506). -/
def answer (cntlid sqid cid : Nat) (st : Status) (dw0 : Nat) (d : Dev) : Dev :=
  if cntlid = 0 then
    mboxDone { status := if st.sct = 0 ∧ st.sc = 0 then 0 else 8, dw0 := dw0, nvme := nvmeStatus st } (complete 0 sqid cid st dw0 d)
  else match queueQpn d cntlid sqid with
    | none => d
    | some qpn => netSend qpn (.completion cid st dw0) (complete cntlid sqid cid st dw0 d)

/-- Complete an admin command. -/
def answerAdmin (cntlid cid : Nat) (st : Status) (dw0 : Nat) (d : Dev) : Dev := answer cntlid 0 cid st dw0 d

/-- Complete an admin command with data to the host: a transfer as long as the bytes given. -/
def answerData (cntlid cid : Nat) (bytes : List Byte) (dw0 : Nat) (d : Dev) : Dev :=
  if cntlid = 0 then
    mboxDone { status := 0, dw0 := dw0, bytes := bytes } (emit (.adminData cntlid cid bytes) (complete 0 0 cid ok dw0 d))
  else answerAdmin cntlid cid ok dw0 (emit (.adminData cntlid cid bytes) d)

end Sys2Proof.Machine
end

