-- ==== Sys2Proof/Machine/HostQueue.lean ====
section
/-! DEFINITION. What a completion of an I/O command does beside its status (07 R214 to R216, R225, 11 R351): counters, the
freeze of its queue, error entries and asynchronous events. -/

namespace Sys2Proof.Machine

/-- A controller. -/
def ctrlOf (d : Dev) (c : Nat) : Option Ctrl := tget d.host.ctrls c

/-- Replace a controller's fields. -/
def modCtrl (c : Nat) (f : Ctrl → Ctrl) (d : Dev) : Dev := { d with host.ctrls := tmod d.host.ctrls c f }

/-- A submission queue. -/
def sqOf (d : Dev) (c q : Nat) : Option Sq := tget d.host.sqs (sqKey c q)

/-- Replace a submission queue's fields. -/
def modSq (c q : Nat) (f : Sq → Sq) (d : Dev) : Dev := { d with host.sqs := tmod d.host.sqs (sqKey c q) f }

/-- Cove of a controller; the MHI is Cove 0. -/
def ctrlCove (d : Dev) (c : Nat) : Nat := ((ctrlOf d c).map (·.cove)).getD 0

/-- A Cove counter of R351 counts. -/
def coveCount (cove i n : Nat) (d : Dev) : Dev :=
  { d with cove.tab := tmod d.cove.tab cove (fun r => { r with counters := modNth r.counters i (fun x => (x + n) % 2 ^ 64) }) }

/-- DW0 of an asynchronous event's completion: type, information and log page. -/
def asyncDw0 (e : AsyncEvent) : Nat := e.type % 8 + 256 * (e.info % 256) + 65536 * (e.log % 256)

/-- Deliver an event to a controller: it completes a request, or waits for one (R205). -/
def deliverAsync (c : Nat) (e : AsyncEvent) (d : Dev) : Dev :=
  match ctrlOf d c with
  | none => d
  | some k => match k.aers with
    | cid :: rest => answerAdmin c cid ok (asyncDw0 e) (emit (.asyncEvent c cid e) (modCtrl c (fun x => { x with aers := rest }) d))
    | [] => modCtrl c (fun x => { x with pendingEvents := x.pendingEvents ++ [e] }) d

/-- Has the host enabled a notice (Asynchronous Event Configuration, R219)? Notice 0 is Namespace Attribute Changed, 1 Firmware
Activation Starting, 3 ANA Change, in bits 8, 9 and 11 (log entry 17). -/
def noticeOn (k : Ctrl) (e : AsyncEvent) : Bool := e.type != 2 || bit k.aerConfig (8 + e.info)

/-- Post an asynchronous event (R216): vendor events are masked from one until the host reads log C1h. -/
def postAsync (c : Nat) (e : AsyncEvent) (d : Dev) : Dev :=
  match ctrlOf d c with
  | none => d
  | some k =>
    if e.type = 7 then
      if k.vendorMasked then d else deliverAsync c e (modCtrl c (fun x => { x with vendorMasked := true }) d)
    else if noticeOn k e then deliverAsync c e d else d

/-- Post an event to every controller. -/
def postAll (e : AsyncEvent) (d : Dev) : Dev :=
  d.host.ctrls.foldl (fun a k => if k.2.ended then a else postAsync k.1 e a) d

/-- Add an Error Information entry (R225): 64 are kept, newest first. -/
def addError (c : Nat) (sqid cid : Nat) (st : Status) (lba nsid asn : Nat) (d : Dev) : Dev :=
  modCtrl c (fun k =>
    let e : ErrorEntry := { count := k.errorCount + 1, sqid := sqid, cid := cid, status := st.sct * 256 + st.sc,
                            lba := lba, nsid := nsid, asn := asn }
    { k with errorCount := k.errorCount + 1, errors := (e :: k.errors).take 64 }) d

/-- Freeze a submission queue (R214, R216): the first freeze makes its log entry, its event and its asynchronous event; a
further one counts in REPEATS. -/
def freezeSq (c q : Nat) (e : FreezeEntry) (d : Dev) : Dev :=
  match sqOf d c q with
  | none => d
  | some s =>
    if s.frozen then
      modSq c q (fun x => { x with entry := x.entry.map (fun f => { f with repeats := min (f.repeats + 1) 65535 }) }) d
    else
      let f := { e with esn := d.ev.nextEsn.getD 0, timeS := d.clk.tod.s, timeNs := d.clk.tod.ns }
      let n := d.host.freezeOrder
      let d1 := modSq c q (fun x => { x with frozen := true, entry := some f, order := n })
        { d with host.freezeOrder := n + 1 }
      let d2 := coveCount (ctrlCove d c) 8 1
        (logCove (ctrlCove d c) 5 1 1 (payload (q + 65536 * e.cid) 0 0 (e.status + e.asn * 2 ^ 64)) d1)
      postAsync c { type := 7, info := 0xC1, log := 0xC1 } d2

/-- Does a status freeze its queue (R212)? -/
def freezes (st : Status) : Bool := st.sct == 7 && (st.sc == 0x81 || st.sc == 0x82 || st.sc == 0x83 || st.sc == 0x85)

/-- What a completion names beside its status: its command, and the place of the failing grain. -/
structure IoEnd where
  cntlid : Nat
  sqid : Nat
  cid : Nat
  nsid : Nat := 0
  nlb : Nat := 0
  lba : Nat := 0
  asn : Nat := 0

/-- The device decides a completion (R214, 11 R351): counted, its queue frozen by a freezing status, and posted unless it is
withheld (R239). DW0 is ASN[31:0] where the host enabled it (05 R161). -/
def decideIo (x : IoEnd) (st : Status) (silent : Bool) (d : Dev) : Dev :=
  let cove := ctrlCove d x.cntlid
  let d1 := if st.sct = 7 ∧ st.sc = 0x82 then coveCount cove 9 1 d
    else if st.sct = 7 ∧ st.sc = 0x85 then coveCount cove 10 1 d
    else if st.sct = 7 ∧ st.sc = 0x83 then coveCount cove 11 1 d
    else if st.sct = 7 ∧ st.sc = 0x84 then coveCount cove 6 1 d else d
  let d2 := if freezes st then
      addError x.cntlid x.sqid x.cid st x.lba x.nsid x.asn
        (freezeSq x.cntlid x.sqid { cid := x.cid, status := st.sct * 256 + st.sc, cause := 1, nsid := x.nsid, nlb := x.nlb,
                                    asn := x.asn, lba := x.lba } d1)
    else d1
  if silent then d2
  else
    let dw0 := if ((ctrlOf d x.cntlid).map (·.asnReport)).getD false then x.asn % 2 ^ 32 else 0
    answer x.cntlid x.sqid x.cid st dw0 d2

end Sys2Proof.Machine
end

