-- ==== Sys2Proof/Machine/Content.lean ====
section
/-! DEFINITION. What the members hold of a stripe: block metadata (04 R105), strips in both formats (R106), their parity over
GF(2^8) (R103), and the checks of a block read from a member (R108). -/

namespace Sys2Proof.Machine

/-! ## Parity (R103) -/

/-- Bytes of an extended strip: 32 blocks of 4,096 bytes, with 64 bytes of metadata each in the 4096 + 64 format (R103, R106). -/
def stripSize (g : ShoalCfg) : Nat := if g.metaMode = 1 then 131072 else 133120

/-- `n` bytes that all hold `b`. -/
def repByte (n b : Nat) : Nat := b * ((256 ^ n - 1) / 255)

/-- Each of `n` bytes times g = 0x02 in GF(2^8) with the field polynomial 0x11D (R103). -/
def gfDouble (n x : Nat) : Nat :=
  ((x &&& repByte n 0x7F) * 2) ^^^ (((x / 128) &&& repByte n 1) * 0x1D)

/-- Each of `n` bytes times g^k. -/
def gfShift (n : Nat) : Nat → Nat → Nat
  | 0, x => x
  | k + 1, x => gfDouble n (gfShift n k x)

/-- Parity strip `k` of data strips (R103): the sum of g^(k·d) · D_d, with k = 0 for P, 1 for Q, 2 for S. -/
def paritySum (n k : Nat) (ds : List Nat) : Nat := ds.foldr (fun x acc => x ^^^ gfShift n k acc) 0

/-! ## Metadata and strips (R105, R106) -/

/-- GEO_GEN of a stripe's blocks (R105). -/
def geoGen (s : Stripe) : Nat := s.geometry % 256 * 2 ^ 24 + s.gen % 2 ^ 24

/-- The 64 bytes of a block's metadata (R105), as a number. -/
def metaNum (b : Block) : Nat :=
  leNum (leBytes b.asn 8 ++ leBytes b.nsid 4 ++ leBytes b.lba 8 ++ leBytes b.guard 8 ++ leBytes b.gcm 16 ++ leBytes b.geo 4)

/-- The block in a slot; a slot left empty holds a pad block, all zero apart from GEO_GEN (R105, R111). -/
def slotBlock (s : Stripe) (i : Nat) : Block :=
  ((s.slots[i]?).join).getD { asn := 0, nsid := 0, lba := 0, geo := geoGen s }

/-- The 4,096 bytes that a member holds of a block: ciphertext; pad, record and map-class blocks are stored as they are (R111, R123,
R133). -/
def blockBytes (d : Dev) (b : Block) : Nat :=
  if b.nsid = 0 ∨ 0xFFFFFFFB ≤ b.nsid then b.data
  else blockCipher (((tget d.host.nss b.nsid).map (·.auth)).getD false) b.key b.nsid b.lba b.asn b.data

/-- POSITION of the strip trailer (R106): 0 P, 1 Q, 2 S, 3 + d data strip d. -/
def trailerPos (g : ShoalCfg) (row pos : Nat) : Nat :=
  let k := (pos + max g.width 1 - rowOffset g row) % max g.width 1
  if k < g.parity then k else 3 + (k - g.parity - g.spareStrips)

/-- The strip trailer of packed-metadata mode (R106). -/
def trailerNum (g : ShoalCfg) (s : Stripe) (pos : Nat) : Nat :=
  checked (leBytes s.row 4 ++ leBytes (geoGen s) 4 ++ leBytes (trailerPos g s.row pos) 1)

/-- The metadata block of a packed strip (R106): entry b at byte 64 × b, the trailer at byte 1,984. -/
def metaBlock (g : ShoalCfg) (s : Stripe) (dn pos : Nat) : Nat :=
  packNum 64 (fun b => metaNum (slotBlock s (dn * 31 + b))) 31 + trailerNum g s pos * 2 ^ (8 * 1984)

/-- Data strip `dn` of a stripe as its member holds it (R106): 32 extended blocks, or 31 blocks and the metadata block. -/
def dataStrip (d : Dev) (s : Stripe) (dn : Nat) : Nat :=
  let g := stripeGeom d s
  if g.metaMode = 1 then
    packNum 4096 (fun b => if b < 31 then blockBytes d (slotBlock s (dn * 31 + b)) else metaBlock g s dn (dataPos g s.row dn)) 32
  else packNum 4160 (fun b =>
    let x := slotBlock s (dn * 32 + b)
    blockBytes d x + metaNum x * 2 ^ (8 * 4096)) 32

/-- The parity strips of a stripe: P, and Q and S as PARITY asks (R102, R103). -/
def parityStrips (d : Dev) (s : Stripe) : List Nat :=
  let g := stripeGeom d s
  let ds := (List.range (dataStrips g)).map (dataStrip d s)
  (List.range g.parity).map (fun k => paritySum (stripSize g) k ds)

/-- What the member at a position holds of a stripe whose strip there is written: a data or a parity strip (R102). -/
def stripNum (d : Dev) (s : Stripe) (pos : Nat) : Nat :=
  let g := stripeGeom d s
  let k := trailerPos g s.row pos
  if k < 3 then s.parity.getD k 0 else dataStrip d s (k - 3)

/-! ## The checks of a block read from a member (R108) -/

/-- What the checks of R108 say of a block: its data, unreadable, or a GCM tag that does not verify. -/
inductive BlockCheck where
  | good (data : Nat)
  | bad
  | gcm
  deriving DecidableEq, Repr

/-- Check a block that a member read gave (R108): NSID, LBA and GEO_GEN against what the map and the stripe table expect, GUARD after
decryption, and the GCM tag for an authenticated namespace. -/
def checkBlock (d : Dev) (s : Stripe) (b : Block) (r : ReadBack) : BlockCheck :=
  match r with
  | .error => .bad
  | .stored => .good b.data
  | .block m x =>
    let auth := ((tget d.host.nss b.nsid).map (·.auth)).getD false
    if bits m 95 64 ≠ b.nsid ∨ bits m 159 96 ≠ b.lba ∨ bits m 383 352 ≠ geoGen s ∨ bits m 223 160 ≠ Config.guard64 x then .bad
    else if auth ∧ bits m 351 224 ≠ blockTag b.key b.nsid b.lba (bits m 63 0) x then .gcm
    else .good x

/-! ## What cannot be read at an offset (06 R178, R190) -/

/-- The data strip that stands at a position of a row, if one does (R102). -/
def dataAt (g : ShoalCfg) (row pos : Nat) : Option Nat :=
  let k := trailerPos g row pos
  if (writtenPos g row).contains pos ∧ 3 ≤ k then some (k - 3) else none

/-- The strips of a stripe that are unavailable at a block offset (06 R178): missing positions, and those of `bad` whose block there
could not be read. -/
def unavailableAt (d : Dev) (s : Stripe) (bad : List (Nat × Nat)) (off : Nat) : List Nat :=
  (writtenPos (stripeGeom d s) s.row).filter (fun p => (stripBay d s p).isNone || bad.contains (p, off))

/-- Can the blocks at an offset be read or reconstructed (06 R178)? -/
def recoverableAt (d : Dev) (s : Stripe) (bad : List (Nat × Nat)) (off : Nat) : Bool :=
  decide ((unavailableAt d s bad off).length ≤ (stripeGeom d s).parity)

/-- CAUSE of a loss at an offset (06 R194): 1 where every unavailable strip is a missing position, else 2. -/
def lossCause (d : Dev) (s : Stripe) (bad : List (Nat × Nat)) (off : Nat) : Nat :=
  if (unavailableAt d s bad off).all (fun p => (stripBay d s p).isNone) then 1 else 2

/-- The slots that a loss at an offset takes (06 R190): the data block there, or, of the metadata block of packed mode, the blocks
whose metadata it holds. -/
def slotsAt (g : ShoalCfg) (dn off : Nat) : List Nat :=
  let b := stripBlocks g
  if off < b then [dn * b + off] else run (dn * b) b

/-- Slots of a row that cannot be recovered while `bad` is unreadable beside the missing strips, each with its CAUSE (06 R190); of a row
that this side did not write, any slot there. -/
def lostSlotsOf (d : Dev) (s : Stripe) (bad : List (Nat × Nat)) : List (Nat × Nat) :=
  let g := stripeGeom d s
  let offs := (List.range 32).filter (fun i => !recoverableAt d s bad i)
  offs.flatMap (fun i => (unavailableAt d s bad i).flatMap (fun p => match dataAt g s.row p with
    | some dn => ((slotsAt g dn i).filter (fun k => s.slots.isEmpty || ((s.slots[k]?).join).isSome)).map (fun k => (k, lossCause d s bad i))
    | none => []))

/-- Is the metadata of a slot readable though its block is lost: in packed-metadata mode, where the metadata block of its strip can be
recovered (06 R190)? -/
def metaReadable (d : Dev) (s : Stripe) (bad : List (Nat × Nat)) : Bool :=
  decide ((stripeGeom d s).metaMode = 1) && recoverableAt d s bad 31

end Sys2Proof.Machine
end

