-- ==== Sys2Proof/Machine/MapEngine.lean ====
section
/-! DEFINITION. Member commands (06 R166, R169), the map engine's rule (04 R127), LIVE counts and row release (04 R125,
R128, R169), overlays (04 R132), deferral (05 R153) and the Lost Range log (06 R190 to R195). -/

namespace Sys2Proof.Machine

/-! ## Member commands -/

/-- Host Identifier of this side toward the members (13 R396): SHELF_ID with bit 0 of its byte 15 replaced by the side. -/
def memberHost (d : Dev) : Nat := d.pair.shelfId % 2 ^ 128 - d.pair.shelfId / 2 ^ 120 % 2 * 2 ^ 120 + d.pair.side % 2 * 2 ^ 120

/-- Reservation key of a side (13 R396). -/
def memberKey (side : Nat) : Nat := 0x5758500000000000 + side % 2

/-- Register as this side (13 R396). -/
def registerOp (d : Dev) : MemberOp := .register (memberHost d) (memberKey d.pair.side)

/-- Acquire as this side (13 R396). -/
def acquireOp (d : Dev) (preempt abort : Bool) : MemberOp :=
  .acquire preempt abort (memberKey d.pair.side) (if preempt then memberKey (1 - d.pair.side % 2) else 0)

/-- Is a member command a write, which waits while a shelf record is not durable (13 R392)? -/
def memberWrites : MemberOp → Bool
  | .writeStrip _ _ _ => true
  | .rebuildWrite _ _ _ => true
  | .parityWrite _ _ _ => true
  | .deallocate _ => true
  | .labelWrite _ _ => true
  | .keeperWrite _ => true
  | .recordWrite _ _ => true
  | .format _ => true
  | .sanitize => true
  | .eraseFormat => true
  | _ => false

/-- Is FUA set on a member command: on every write to a drive whose volatile cache could not be disabled (06 R167), and on the
records of the configuration area (12 R382)? -/
def memberFua (d : Dev) (bay : Nat) : MemberOp → Bool
  | .recordWrite _ _ => true
  | .writeStrip _ _ _ | .rebuildWrite _ _ _ | .parityWrite _ _ _ | .labelWrite _ _ | .keeperWrite _ =>
    (tget d.shelf.drives bay).any (·.fua)
  | _ => false

/-- The class in which a member serves a command (06 R168): 0 A, 1 B, 2 C, 3 D. -/
def opClass : MemberOp → Nat
  | .rebuildWrite _ _ _ => 1
  | .parityWrite _ _ _ => 3
  | _ => 0

/-- Does a command go to the member's admin queue (06 R166)? -/
def adminOp : MemberOp → Bool
  | .format _ | .cacheOff | .sanitize | .eraseFormat | .abort _ => true
  | _ => false

/-- Commands sent to a bay and not terminal, on its admin queue or its I/O queues. -/
def memberFlight (d : Dev) (bay : Nat) (admin : Bool) : Nat :=
  (d.shelf.cmds.filter (fun e => e.2.bay == bay && e.2.phase != .queued && e.2.op != .resetController && adminOp e.2.op == admin)).length

/-- Has a queue of the member in a bay room (06 R166): 64 on the admin queue, 4 × 1,024 on the I/O queues? A drive that formats takes
no I/O. -/
def queueRoom (d : Dev) (bay : Nat) (admin : Bool) : Bool :=
  if admin then decide (memberFlight d bay true < 64)
  else decide (memberFlight d bay false < 4096) && !(tget d.shelf.drives bay).any (·.formatting)

/-- Commands of a bay that wait for room. -/
def queuedOf (d : Dev) (bay : Nat) (admin : Bool) : List (Nat × MemberCmd) :=
  d.shelf.cmds.filter (fun e => e.2.bay == bay && e.2.phase == .queued && adminOp e.2.op == admin)

/-- Is a member command the strip write of a sealed stripe? -/
def stripWrite : MemberOp → Bool
  | .writeStrip _ _ _ => true
  | _ => false

/-- The I/O command that a bay is served next, and what is left of the ratio 8 : 4 : 2 : 1 (06 R168); while PRESS lasts strip writes go
first (03 R84). -/
def nextIo (d : Dev) (bay : Nat) : Option (Nat × List Nat) :=
  let q := queuedOf d bay false
  let left := (tget d.shelf.shares bay).getD [8, 4, 2, 1]
  let first := fun (c : Nat) => q.find? (fun e => opClass e.2.op == c)
  match (if 2 ≤ d.pool.level then q.find? (fun e => stripWrite e.2.op) else none) with
  | some e => some (e.1, left)
  | none =>
    let work := (List.range 4).filter (fun c => (first c).isSome)
    if work.length ≤ 1 then q.head?.map (fun e => (e.1, left))
    else
      let full := if work.any (fun c => decide (0 < left.getD c 0)) then left else [8, 4, 2, 1]
      (work.find? (fun c => decide (0 < full.getD c 0))).bind (fun c =>
        (first c).map (fun e => (e.1, modNth full c (fun n => n - 1))))

/-- The cells of a member command's data, from the HBM stack that holds it to the drive complex, in the class of 09 R296: that of the
stripe's Cove for a strip write, HOUSEKEEPING_CLASS for rebuild, resync and patrol, and for labels, keepers and records (log entry 36). -/
def memberUnit (m : Nat) (c : MemberCmd) (d : Dev) : Dev :=
  let to_ := driveStation c.bay
  let key := c.bay * 65536 + m % 65536
  match c.op with
  | .writeStrip sh row _ => hostUnit (hbmStation row) [to_] (((rowAt d sh row).map (·.cove)).getD 0) key m 131072 d
  | .rebuildWrite _ row _ => upkeepUnit (hbmStation row) [to_] key m 131072 d
  | .parityWrite _ row _ => upkeepUnit (hbmStation row) [to_] key m 131072 d
  | .labelWrite _ _ => upkeepUnit (hbmStation 0) [to_] key m 65536 d
  | .keeperWrite _ => upkeepUnit (hbmStation 0) [to_] key m 131072 d
  | .recordWrite _ _ => upkeepUnit (hbmStation 0) [to_] key m 4096 d
  | _ => d

/-- Send a queued command to its drive (06 R166). -/
def startMember (m : Nat) (d : Dev) : Dev :=
  match tget d.shelf.cmds m with
  | none => d
  | some c => memberUnit m c <| emit (.member c.bay m c.op (memberFua d c.bay c.op))
      (occur 6 0 1 (memberAttr c.bay (opClass c.op))
        { d with shelf.cmds := tput d.shelf.cmds m { c with phase := .issued, issuedAt := elapsed d } })

/-- Send what a bay's queues have room for (06 R166, R168). -/
def pullBay : Nat → Nat → Dev → Dev
  | 0, _, d => d
  | k + 1, bay, d =>
    match (if queueRoom d bay true then queuedOf d bay true else []) with
    | e :: _ => pullBay k bay (startMember e.1 d)
    | [] => match (if queueRoom d bay false then nextIo d bay else none) with
      | some (m, left) => pullBay k bay (startMember m
          (if left = (tget d.shelf.shares bay).getD [8, 4, 2, 1] then d else { d with shelf.shares := tput d.shelf.shares bay left }))
      | none => d

/-- Send what a bay's queues have room for. -/
def pullMember (bay : Nat) (d : Dev) : Dev :=
  pullBay ((queuedOf d bay true).length + (queuedOf d bay false).length) bay d

/-- Give the drive in a bay a command (06 R166), under the next command number: it goes at once while the queue has room. -/
def issueNow (bay : Nat) (op : MemberOp) (d : Dev) : Dev :=
  let m := d.shelf.nextMcid
  pullMember bay { d with shelf.nextMcid := m + 1, shelf.cmds := tput d.shelf.cmds m { bay := bay, op := op, phase := .queued } }

/-- Must writes to the members wait (13 R392, R408): for a shelf record that is not durable, or at a start for the settlement that makes this
side the writer? -/
def writerHeld (d : Dev) : Bool :=
  d.pair.recordPending || d.pool.state == .recovering || d.pair.partnerWait || d.pair.settleWait || d.pair.joinWait

/-- Issue a member command: a write waits where it must, and a side that does not write members issues none (13 R391). -/
def memberIssue (bay : Nat) (op : MemberOp) (d : Dev) : Dev :=
  if !memberWrites op then issueNow bay op d
  else if writerHeld d then { d with shelf.heldOps := d.shelf.heldOps ++ [(bay, op)] }
  else if d.pair.role == .standby || d.pair.role == .fenced then d
  else issueNow bay op d

/-- Member commands that are terminal leave, and what waited for room in their queues goes. -/
def endCmds (gone : MemberCmd → Bool) (d : Dev) : Dev :=
  let bays := ((d.shelf.cmds.filter (fun e => gone e.2)).map (fun e => e.2.bay)).eraseDups
  bays.foldl (fun a b => pullMember b a) { d with shelf.cmds := d.shelf.cmds.filter (fun e => !gone e.2) }

/-- A member command is terminal. -/
def memberEnd (m : Nat) (d : Dev) : Dev :=
  match tget d.shelf.cmds m with
  | none => d
  | some c => pullMember c.bay { d with shelf.cmds := terase d.shelf.cmds m }

/-- The row that a member command reads or writes. -/
def opRow : MemberOp → Option (Nat × Nat)
  | .readBlock p => some (p.shoal, p.row)
  | .writeStrip s r _ => some (s, r)
  | .rebuildWrite s r _ => some (s, r)
  | .parityWrite s r _ => some (s, r)
  | _ => none

/-- Has a row a member command that is not terminal (06 R169)? -/
def rowBusy (d : Dev) (sh row : Nat) : Bool :=
  d.shelf.cmds.any (fun e => opRow e.2.op == some (sh, row)) || d.shelf.heldOps.any (fun e => opRow e.2 == some (sh, row))

/-! ## Keeper copies (04 R117, R118, R139) -/

/-- The regions that a keeper copy records: those marked, and those whose mark is being made. -/
def keptRegions (d : Dev) (sh : Nat) : List Nat := ((shoalOf d sh).map (fun x => x.dirty ++ x.marking)).getD []

/-- Write the whole bitmap of a Shoal to members, under the next sequence (04 R139): copy B for an odd sequence, copy A for an even
one. -/
def writeKeepers (sh : Nat) (bays : List Nat) (d : Dev) : Dev :=
  if bays.isEmpty then d
  else
    let seq := ((shoalOf d sh).map (·.keeperSeq)).getD 0 + 1
    let d1 := { d with str.shoals := tmod d.str.shoals sh (fun x => { x with keeperSeq := seq }) }
    bays.foldl (fun a b => memberIssue b (.keeperWrite { shoal := sh, seq := seq, regions := keptRegions d1 sh }) a) d1

/-- Bits of a list of places. -/
def bitsOf (l : List Nat) : Nat := l.eraseDups.foldl (fun a k => a + 2 ^ k) 0

/-- A keeper copy as its 64-byte header and region bits (04 R139): Shoal at byte 0, sequence at byte 8, CRC-32C at byte 60 over
the rest (log entry 34). -/
def keeperImage (c : KeeperCopy) : List Byte :=
  let head := leBytes c.shoal 8 ++ leBytes c.seq 8 ++ leBytes 0 44
  let body := leBytes (bitsOf c.regions) 32768
  head ++ leBytes (crc32c (head ++ body)).toNat 4 ++ body

/-- What a member's two keeper copies give a reader: the one with the higher sequence (04 R139). -/
def keeperCopy (d : Dev) (bay : Nat) : Option KeeperCopy :=
  match tget d.shelf.keeperCopies (2 * bay), tget d.shelf.keeperCopies (2 * bay + 1) with
  | some a, some b => if a.seq < b.seq then some b else some a
  | some a, none => some a
  | none, b => b

/-- The newest keeper copy of a Shoal on any drive that answers (04 R120). -/
def newestKeeper (d : Dev) (sh : Nat) : Option KeeperCopy :=
  (((d.shelf.drives.map (·.1)).filter (driveUp d)).filterMap (keeperCopy d)).foldl (fun a c =>
    if c.shoal ≠ sh then a else match a with
      | some x => if x.seq < c.seq then some c else a
      | none => some c) none

/-- Is a member command a keeper write of a Shoal? -/
def keeperOp (sh : Nat) : MemberOp → Bool
  | .keeperWrite c => c.shoal == sh
  | _ => false

/-- Keeper writes of a Shoal that are durable stand on their members (04 R139). -/
def keepersWritten (sh : Nat) (d : Dev) : Dev :=
  let done := d.shelf.cmds.filter (fun e => keeperOp sh e.2.op && e.2.phase != .queued)
  let d0 := countWritten 131072 done d
  endCmds (fun c => keeperOp sh c.op && c.phase != .queued)
    { d0 with shelf.keeperCopies := done.foldl (fun t e => match e.2.op with
        | .keeperWrite c => tput t (2 * e.2.bay + c.seq % 2) c
        | _ => t) d.shelf.keeperCopies }

/-- Rows whose deallocate waits to be sent to a bay: listed for it and in no deallocate in flight (06 R169). -/
def deallocWaiting (d : Dev) (bay : Nat) : List Nat :=
  let flying := d.shelf.cmds.flatMap (fun e => match e.2.op with
    | .deallocate rs => if e.2.bay = bay then rs else []
    | _ => []) ++ d.shelf.heldOps.flatMap (fun e => match e.2 with
    | .deallocate rs => if e.1 = bay then rs else []
    | _ => [])
  (d.shelf.deallocs.filter (fun e => e.2.contains bay && !flying.contains e.1)).map (·.1)

/-- Send a bay its next batch of up to 64 rows, one batch at a time (06 R169). -/
def sendDeallocs (bay : Nat) (d : Dev) : Dev :=
  let busy := d.shelf.cmds.any (fun e => e.2.bay == bay && (match e.2.op with
    | .deallocate _ => true
    | _ => false))
  match deallocWaiting d bay with
  | [] => d
  | r :: rs => if busy then d else memberIssue bay (.deallocate ((r :: rs).take 64)) d

/-- MEMBER_DEALLOCATE_DONE (06 R169): the rows' deallocate is terminal on one more member; the next batch follows. -/
def deallocDone (mcid : Nat) (d : Dev) : Dev :=
  match tget d.shelf.cmds mcid with
  | none => d
  | some c => match c.op with
    | .deallocate rs =>
      let t := (d.shelf.deallocs.map (fun e => if rs.contains e.1 then (e.1, e.2.filter (fun b => b != c.bay)) else e)).filter
        (fun e => !e.2.isEmpty)
      sendDeallocs c.bay (memberEnd mcid { d with shelf.deallocs := t })
    | _ => d

/-- MEMBER_DEALLOCATE_DONE (06 R169). -/
def execMemberDeallocateDone (mcid : Nat) (s : State) : Result := onDev s (deallocDone mcid)

/-! ## Rows that come free (R125, R128, R131, R141) -/

/-- ROWS that a Shoal's capacities give (R101): the smallest of the bays that its geometries name. -/
def rowsFrom (d : Dev) (sh : Nat) : Nat :=
  let l := labelOf d sh
  let st := shoalOf d sh
  let bays := ((st.map (fun x => x.cfg :: x.olds)).getD []).flatMap memberBays
  let subs := (l.subst.filter (fun u => u.kind == 2)).map (·.target)
  match ((bays ++ subs).eraseDups.filterMap (tget l.caps)) with
  | [] => 0
  | c :: cs => min (2 ^ 31) ((cs.foldl min c - 268435456) / 131072)

/-- Recompute ROWS and record a rise; ROWS never falls (R101). -/
def recomputeRows (sh : Nat) (d : Dev) : Dev :=
  match shoalOf d sh with
  | none => d
  | some st =>
    let n := max st.rows (rowsFrom d sh)
    let d1 := { d with str.shoals := tput d.str.shoals sh { st with rows := n } }
    if n = st.rows then d1 else setLabel sh { labelOf d1 sh with rows := n } d1

/-- The Shoal's record with a field changed. -/
def modShoal (sh : Nat) (f : ShoalSt → ShoalSt) (d : Dev) : Dev := { d with str.shoals := tmod d.str.shoals sh f }

/-- Roster entries of the bays marked EVACUATING, whatever the state of their members (R141): those that the current geometry names no
more. -/
def evacuating (d : Dev) (sh : Nat) : List (Nat × RosterEntry) := (labelOf d sh).roster.filter (fun e => decide (32 ≤ e.1))

/-- Bays marked EVACUATING that no stripe of a Shoal uses (R141). -/
def evacuatedBays (d : Dev) (sh : Nat) : List (Nat × RosterEntry) :=
  let used := (d.str.rows.filter (fun e => e.2.shoal == sh)).flatMap (fun e => memberBays (stripeGeom d e.2))
  (evacuating d sh).filter (fun e => !used.contains (e.1 - 32))

/-- Remove EVACUATING bays that no stripe uses, with an INFO event each (R141). -/
def endEvacuations (sh : Nat) (d : Dev) : Dev :=
  (evacuatedBays d sh).foldl (fun a e =>
    let l := labelOf a sh
    logEvent 3 4 0 (payload e.2.bay sh 0 0) (setLabel sh { l with roster := terase l.roster e.1 } a)) d

/-- The last stripe of an older geometry has gone: its ID is released (R141), and ROWS recomputed (R101). -/
def releaseGeometry (sh gid : Nat) (d : Dev) : Dev :=
  match shoalOf d sh with
  | none => d
  | some st =>
    if st.cfg.geometryId ≠ gid ∧ st.olds.any (fun g => g.geometryId == gid) ∧
        !d.str.rows.any (fun e => e.2.shoal == sh && e.2.geometry == gid) then
      endEvacuations sh (recomputeRows sh (logEvent 3 5 0 (payload gid sh 0 0)
        (modShoal sh (fun x => { x with olds := x.olds.filter (fun g => g.geometryId != gid) }) d)))
    else d

/-- Bays of the members that hold strips of a stripe: the roster's, which names a SPARE member that took a position, and the drives of
substitutions (06 R169, R188). -/
def rowBays (d : Dev) (s : Stripe) : List Nat :=
  let g := stripeGeom d s
  ((List.range g.width).map (memberBay d g) ++
    ((labelOf d s.shoal).subst.filter (fun u => u.kind == 2)).map (·.target)).eraseDups

/-- The stripe-table page of a row has changed (R129). -/
def dirtyTable (p : Place) (d : Dev) : Dev :=
  let k := (p.shoal, p.row / 512)
  { d with str.tableDirty := if d.str.tableDirty.contains k then d.str.tableDirty else d.str.tableDirty ++ [k] }

/-- A slot has been resolved, or was dead: neither the table nor the scan lists it (06 R190). -/
def dropSlot (q : Place) (d : Dev) : Dev :=
  { d with shelf.lostSlots := d.shelf.lostSlots.filter (fun x => x.1 != q), shelf.scanOnly := d.shelf.scanOnly.filter (fun x => x.1 != q)
           shelf.scanPassed := d.shelf.scanPassed.filter (fun x => x.1 != q) }

/-- A listed slot that no map entry names was dead (06 R190): its log entry is marked DEAD, and it leaves the table. -/
def deadSlot (q : Place) (d : Dev) : Dev :=
  match d.shelf.lostSlots.find? (fun x => x.1 == q) with
  | none => dropSlot q d
  | some (_, sq) =>
    let l := labelOf d q.shoal
    dropSlot q (setLabel q.shoal { l with lost := l.lost.map (fun e => if e.seq = sq ∧ !e.resolved then { e with dead := true } else e) } d)

/-- Make a row FREE (R128): its Shallows entries are dropped (R137), slots of it that are listed as lost were dead (06 R190), and its strips deallocated on each member (06 R169), which the
STANDBY side, replaying its partner's records, leaves to the writer (13 R391). -/
def freeRow (s : Stripe) (d : Dev) : Dev :=
  let bays := if d.pair.role = .standby then [] else (rowBays d s).filter (driveUp d)
  let k := rkey s.shoal s.row
  let dead := (d.shelf.lostSlots ++ d.shelf.scanOnly).filter (fun x => x.1.shoal == s.shoal && x.1.row == s.row)
  let d0 := dead.foldl (fun a x => deadSlot x.1 a) (dirtyTable { shoal := s.shoal, row := s.row, slot := 0 } d)
  let d1 := shallowsDropRow s.shoal s.row { d0 with str.rows := terase d0.str.rows k }
  let d2 := if bays.isEmpty then d1 else { d1 with shelf.deallocs := tput d1.shelf.deallocs k bays }
  endEvacuations s.shoal (releaseGeometry s.shoal s.geometry (bays.foldl (fun a b => sendDeallocs b a) d2))

/-- Does a change that waits for lower reads name a row (05 R153)? -/
def deferredInto (d : Dev) (sh row : Nat) : Bool :=
  d.str.deferred.any (fun x => match x.entry with
    | .mapped p => p.shoal == sh && p.row == row
    | _ => false)

/-- Free a row that is COMMITTED with LIVE 0, no reader, no LATE bit, no member command and no change that waits (R125, R131, 05 R153,
06 R169), or ABANDONED. -/
def tryFree (sh row : Nat) (d : Dev) : Dev :=
  match rowAt d sh row with
  | none => d
  | some s =>
    if (s.life = .committed ∧ s.live = 0 ∧ s.readers = 0 ∧ s.late = 0#32 ∨ s.life = .abandoned) ∧ !rowBusy d sh row ∧
        !deferredInto d sh row
    then freeRow s d else d

/-- A row with `n` more readers (R125). -/
def addReaders (p : Place) (n : Nat) (d : Dev) : Dev :=
  { d with str.rows := tmod d.str.rows (rkey p.shoal p.row) (fun s => { s with readers := s.readers + n }) }

/-- A reader's data has left the row (R125). -/
def dropReader (p : Place) (d : Dev) : Dev :=
  tryFree p.shoal p.row
    { d with str.rows := tmod d.str.rows (rkey p.shoal p.row) (fun s => { s with readers := s.readers - 1 }) }

/-! ## Map entries (R122, R127) -/

/-- The place that stands for a grain whose entry this side does not know: a row that no Shoal has (log entry 21). -/
def unknownPlace (sh : Nat) : Place := { shoal := sh, row := 2 ^ 31, slot := 0 }

/-- The map entry of a grain. -/
def mapGet (d : Dev) (nsid grain : Nat) : MapEntry :=
  match tget d.str.map (gkey nsid grain) with
  | some e => e
  | none => if d.str.unknownNs.contains nsid then .mapped (unknownPlace (nsShoal d nsid)) else .unmapped

/-- LIVE of a row changed (R125). -/
def addLive (p : Place) (n : Nat) (d : Dev) : Dev :=
  dirtyTable p { d with str.rows := tmod d.str.rows (rkey p.shoal p.row) (fun s => { s with live := s.live + n }) }

/-- LIVE of a row less `n`; a row that reaches 0 comes free (R131). -/
def subLive (p : Place) (n : Nat) (d : Dev) : Dev :=
  tryFree p.shoal p.row (dirtyTable p
    { d with str.rows := tmod d.str.rows (rkey p.shoal p.row) (fun s => { s with live := s.live - n }) })

/-- Set a map entry, adjusting LIVE of the old and new rows (R127). UNMAPPED is held by no entry. -/
def setEntry (nsid grain : Nat) (new : MapEntry) (d : Dev) : Dev :=
  let n := nsGrain d nsid
  let k := gkey nsid grain
  let old := mapGet d nsid grain
  let d1 := { d with str.map := match new with
    | .unmapped => if d.str.unknownNs.contains nsid then tput d.str.map k .unmapped else terase d.str.map k
    | e => tput d.str.map k e }
  let d2 := match new with
    | .mapped p => addLive p n d1
    | _ => d1
  match old with
  | .mapped p => subLive p n d2
  | _ => d2

/-- The global map page of a grain (R123). -/
def mapPage (d : Dev) (nsid grain : Nat) : Nat := ((tget d.host.nss nsid).map (·.pageBase)).getD 0 + grain / 512

/-- Directory key of a map-class block (R123). -/
def dirKey (kind number : Nat) : Nat := kind * 2 ^ 64 + number

/-- Is the map page of a grain in the map cache, or not yet written anywhere (R124)? -/
def pageResident (d : Dev) (nsid grain : Nat) : Bool :=
  let p := mapPage d nsid grain
  d.str.cached.contains p || !thas d.str.dir (dirKey 0 p)

/-- Do a command's ranges touch a grain of `n` blocks? -/
def touchesGrain (rs : List Range) (grain n : Nat) : Bool :=
  rs.any (fun r => decide (r.lba < (grain + 1) * n) && decide (grain * n < r.lba + r.len))

/-- Do a command's ranges cover a grain wholly? -/
def coversGrain (rs : List Range) (grain n : Nat) : Bool :=
  rs.any (fun r => decide (r.lba ≤ grain * n) && decide ((grain + 1) * n ≤ r.lba + r.len))

/-- Is a command of lower ASN that overlaps a grain in the tracker (R127)? -/
def lowerOverlap (d : Dev) (nsid grain asn : Nat) : Bool :=
  let n := nsGrain d nsid
  d.adm.cmds.any (fun e => e.2.inTracker && e.2.nsid == nsid && decide (e.2.asn < asn) && touchesGrain e.2.ranges grain n)

/-- Drop the shadows that no lower command needs (R127). -/
def pruneShadows (d : Dev) : Dev :=
  { d with str.shadow := d.str.shadow.filter (fun e => lowerOverlap d (e.1 / 2 ^ 40) (e.1 % 2 ^ 40) e.2) }

/-- Does recovery run (R127)? -/
def recovering (d : Dev) : Bool := d.pool.state == .recovering || d.pool.state == .replaying

/-- metadata_asn of a grain's entry (R127, 06 R191): the highest ASN in its blocks' metadata, or the ASN of the record that
set an entry without data, or in a row of the partner's the entry itself (log entry 21). -/
def entryAsn (d : Dev) (nsid grain : Nat) : Nat :=
  match mapGet d nsid grain with
  | .mapped p =>
    match rowAt d p.shoal p.row with
    | some s =>
      if s.slots.isEmpty then (tget d.str.shadow (gkey nsid grain)).getD 0
      else ((s.slots.drop p.slot).take (nsGrain d nsid)).foldl (fun a b => max a ((b.map (·.asn)).getD 0)) 0
    | none => (tget d.str.shadow (gkey nsid grain)).getD 0
  | _ => (tget d.str.shadow (gkey nsid grain)).getD 0

/-- Retire overlays of a grain that a change of ASN `asn` covers (R132). -/
def retireOverlays (nsid grain asn : Nat) (d : Dev) : Dev :=
  { d with str.overlays := d.str.overlays.filter (fun o => !(o.nsid == nsid && o.grain == grain && decide (o.asn ≤ asn))) }

/-- A change takes a grain: its entry, its shadow, and the overlays that it covers. -/
def takeGrain (nsid grain : Nat) (new : MapEntry) (asn : Nat) (d : Dev) : Dev :=
  let d1 := retireOverlays nsid grain asn (setEntry nsid grain new d)
  { d1 with str.shadow := tput d1.str.shadow (gkey nsid grain) asn }

/-- Apply a change to a grain under the rule of R127: skipped where a higher ASN has taken the grain. -/
def applyGrain (nsid grain : Nat) (new : MapEntry) (asn : Nat) (d : Dev) : Dev :=
  let k := gkey nsid grain
  let skip := if recovering d then decide (asn < entryAsn d nsid grain)
    else match tget d.str.shadow k with
      | some sh => decide (asn < sh)
      | none => false
  if skip then d
  else if recovering d then takeGrain nsid grain new asn d
  else pruneShadows (takeGrain nsid grain new asn d)

/-- Apply a MOVE (R127, R136): skipped when a later write took the grain; the shadow is unchanged. -/
def applyMove (nsid grain : Nat) (src new : Place) (d : Dev) : Dev :=
  if mapGet d nsid grain = .mapped src then setEntry nsid grain (.mapped new) d
  else occur 5 8 1 {} d

/-! ## Deferral (05 R153) -/

/-- Has a read an uncaptured block in a grain (05 R150, R153)? -/
def uncaptured (n grain : Nat) (c : Cmd) : Bool :=
  match c.ranges with
  | r :: _ => (List.range c.blocks.length).any (fun i =>
      (c.blocks.getD i .waiting == .waiting) && decide ((r.lba + i) / max n 1 = grain))
  | [] => false

/-- Does a read of lower ASN, or a fill or masked rewrite that is still to read the grain, hold a change back (05 R153,
R154)? -/
def heldBack (d : Dev) (nsid grain asn : Nat) : Bool :=
  let n := nsGrain d nsid
  d.adm.cmds.any (fun e => e.2.nsid == nsid && decide (e.2.asn < asn) &&
    (match e.2.kind with
      | .read => e.2.inTracker && uncaptured n grain e.2
      | .compare => e.2.inTracker && uncaptured n grain e.2
      | .verify => e.2.inTracker && uncaptured n grain e.2
      | .write => e.2.inTracker && !e.2.absent && e.2.toPlace.contains grain && !coversGrain e.2.ranges grain n
      | _ => false))

/-- A change of a grain: applied, or deferred to the last lower read's capture (05 R153). -/
def changeGrain (nsid grain : Nat) (new : MapEntry) (asn : Nat) (cmd : Option Nat) (d : Dev) : Dev :=
  if heldBack d nsid grain asn then
    { d with str.deferred := d.str.deferred ++ [{ nsid := nsid, grain := grain, entry := new, asn := asn, cmd := cmd }] }
  else applyGrain nsid grain new asn d

/-! ## The tracker's end (05 R150) -/

/-- Has a write-kind command's map update applied or been skipped for every grain (05 R150)? -/
def appliedAll (d : Dev) (tag : Nat) (c : Cmd) : Bool :=
  c.absent || (c.toPlace.isEmpty && c.uncommitted.isEmpty && (c.kind != .writeZeroes && c.kind != .dealloc || c.logged) &&
    !d.str.deferred.any (fun x => x.cmd == some tag))

/-- Drop a command's tracker record when R150 says so, and the command once it has completed and holds no page. -/
def settleCmd (tag : Nat) (d : Dev) : Dev :=
  match tget d.adm.cmds tag with
  | none => d
  | some c =>
    let stay := match c.kind with
      | .write => !(appliedAll d tag c)
      | .writeZeroes => !(appliedAll d tag c)
      | .dealloc => !(appliedAll d tag c)
      | .read => c.blocks.any (· == .waiting) && !c.completed
      | .compare => c.blocks.any (· == .waiting) && !c.completed
      | .verify => c.blocks.any (· == .waiting) && !c.completed
      | _ => false
    let tr := c.inTracker && stay
    let c1 := { c with inTracker := tr }
    let d1 := if c.completed && !tr && c.pages.all (·.isNone) then { d with adm.cmds := terase d.adm.cmds tag }
      else { d with adm.cmds := tput d.adm.cmds tag c1 }
    if c.inTracker && !tr then pruneShadows d1 else d1

/-- Free the row that a change named, where nothing holds it (R127). -/
def freeNamed (e : MapEntry) (d : Dev) : Dev :=
  match e with
  | .mapped p => tryFree p.shoal p.row d
  | _ => d

/-- Apply the deferred changes of a grain that nothing holds back any more (05 R153), in the order in which they came; a row
whose change was skipped comes free. -/
def applyDeferred (nsid grain : Nat) (d : Dev) : Dev :=
  let mine := d.str.deferred.filter (fun x => x.nsid == nsid && x.grain == grain && !heldBack d nsid grain x.asn)
  let d1 := mine.foldl (fun a x =>
    let a1 := applyGrain nsid grain x.entry x.asn { a with str.deferred := a.str.deferred.erase x }
    match x.cmd with
    | some t => settleCmd t a1
    | none => a1) d
  mine.foldl (fun a x => freeNamed x.entry a) d1

/-- DEFERRED_MAP_APPLY (05 R153). -/
def execDeferredMapApply (nsid grain : Nat) (s : State) : Result := onDev s (applyDeferred nsid grain)

/-! ## Loss (06 R190 to R195) -/

/-- LOW_WATER of a namespace (05 R162). -/
def lowWater (d : Dev) (nsid : Nat) : Nat :=
  (d.adm.cmds.filter (fun e => e.2.inTracker && e.2.nsid == nsid)).foldl (fun a e => min a e.2.asn)
    (((tget d.host.nss nsid).map (·.nextAsn)).getD 1)

/-- Do two entries of the Lost Range log merge (06 R194)? Resolved, of one NSID and cause, with contiguous LBAs. -/
def mergeable (a b : LostEntry) : Bool :=
  a.resolved && b.resolved && a.nsid == b.nsid && a.cause == b.cause && (a.lba + a.count == b.lba || b.lba + b.count == a.lba)

/-- Two entries as one: the older keeps its ENTRY_SEQ and the rest, and a flag of either stands (log entry 31). -/
def merged (a b : LostEntry) : LostEntry :=
  let o := if a.seq ≤ b.seq then a else b
  { o with lba := min a.lba b.lba, count := a.count + b.count, filled := a.filled || b.filled,
           superseded := a.superseded || b.superseded }

/-- Merge the entries of a log with one of its own, as far as it goes: it has a neighbour on either side at most (06 R194). -/
def mergeAt : Nat → LostEntry → List LostEntry → List LostEntry
  | 0, _, l => l
  | k + 1, e, l => match l.find? (mergeable e) with
    | none => l
    | some x => mergeAt k (merged x e) ((l.filter (fun y => y != e)).map (fun y => if y = x then merged x e else y))

/-- Add an entry to the Lost Range log of a Shoal, merged where it can be (06 R194); a full log counts LOST_OVERFLOW with a FAULT
event (06 R195). -/
def lostEntry (sh : Nat) (e : LostEntry) (d : Dev) : Dev :=
  let l := labelOf d sh
  let n := d.shelf.labels.foldl (fun a x => max a x.2.lostSeq) 0 + 1
  let e1 := { e with seq := n, timeS := d.clk.tod.s, timeNs := d.clk.tod.ns }
  if l.lost.any (mergeable e1) then setLabel sh { l with lost := mergeAt 2 e1 (l.lost ++ [e1]) } d
  else if l.lost.length < 768 then setLabel sh { l with lost := l.lost ++ [e1], lostSeq := n } d
  else
    let subj := if e.resolved then e.nsid else placeNum { shoal := e.shoal, row := e.row, slot := e.slot }
    logEvent 4 8 2 (payload subj e.lba 0 0) (setLabel sh { l with lostOverflow := l.lostOverflow + 1 } d)

/-- The ASN that a LOST record carries (06 R191): the grain's shadow, or LOW_WATER - 1. -/
def lossAsn (d : Dev) (nsid grain : Nat) : Nat := (tget d.str.shadow (gkey nsid grain)).getD (lowWater d nsid - 1)

/-- The address of an entry (R122): an UNMAPPED or ZERO entry holds 0. -/
def entryPlace : MapEntry → Place
  | .mapped p => p
  | .lost p => p
  | _ => { shoal := 0, row := 0, slot := 0 }

/-- The LOST record of a run of grains (06 R191), and their entries, which keep the address they had. -/
def setLost (nsid grain count asn : Nat) (d : Dev) : Dev :=
  let n := nsGrain d nsid
  let d1 := appendLog { type := 4, seq := 0, nsid := nsid, start := grain * n, count := count, asnLo := asn, asnHi := asn } d
  (run grain count).foldl (fun a g => match mapGet a nsid g with
    | .mapped p => subLive p n { a with str.map := tput a.str.map (gkey nsid g) (.lost p) }
    | .lost _ => a
    | e => { a with str.map := tput a.str.map (gkey nsid g) (.lost (entryPlace e)) }) d1

/-- Mark a grain LOST through the map engine (06 R191): only while its entry still names the slot's place. -/
def markLost (nsid grain : Nat) (p : Place) (cause : Nat) (asn : Option Nat) (d : Dev) : Dev :=
  if mapGet d nsid grain = .mapped p then
    let n := nsGrain d nsid
    let a := asn.getD (lossAsn d nsid grain)
    lostEntry p.shoal { seq := 0, nsid := nsid, count := n, lba := grain * n, asn := a, cause := cause, resolved := true
                        shoal := p.shoal, row := p.row, slot := p.slot } (setLost nsid grain 1 a d)
  else d

/-- Is a slot listed as unrecoverable: in the lost-slot table, or carried by the map scan alone (06 R190, R195)? -/
def slotListed (d : Dev) (q : Place) : Bool := d.shelf.lostSlots.any (fun x => x.1 == q) || d.shelf.scanOnly.any (fun x => x.1 == q)

/-- An unrecoverable slot whose metadata is unreadable enters the lost-slot table, with an unresolved entry of the log (06 R190). Without
room in the log or the table the map scan carries it (06 R195). -/
def lostSlot (p : Place) (cause : Nat) (d : Dev) : Dev :=
  if slotListed d p then d
  else
    let d1 := lostEntry p.shoal { seq := 0, cause := cause, shoal := p.shoal, row := p.row, slot := p.slot } d
    if (labelOf d p.shoal).lost.length < 768 ∧ d.shelf.lostSlots.length < 768 then
      { d1 with shelf.lostSlots := d1.shelf.lostSlots ++ [(p, (labelOf d1 p.shoal).lostSeq)] }
    else { d1 with shelf.scanOnly := d1.shelf.scanOnly ++ [(p, cause)] }

/-- Does a slot lie in the grain of `n` blocks that stands at a place? -/
def slotIn (p : Place) (n : Nat) (q : Place) : Bool :=
  q.shoal == p.shoal && q.row == p.row && decide (p.slot ≤ q.slot) && decide (q.slot < p.slot + n)

/-- Resolve a listed slot that a map entry names (06 R190): the grain becomes LOST, and the slot's log entry names it. A slot without one
takes an entry if the log has room by now; its loss has been counted (06 R195). -/
def resolveSlot (nsid grain : Nat) (p : Place) (d : Dev) : Dev :=
  let n := nsGrain d nsid
  if mapGet d nsid grain ≠ .mapped p then d
  else match d.shelf.lostSlots.find? (fun x => slotIn p n x.1) with
  | some (q, sq) =>
    let a := lossAsn d nsid grain
    let d2 := setLost nsid grain 1 a d
    let l := labelOf d2 p.shoal
    let mark := fun (x : LostEntry) => { x with nsid := nsid, count := n, lba := grain * n, asn := a, resolved := true }
    let lost := l.lost.map (fun x => if x.seq = sq then mark x else x)
    let d3 := setLabel p.shoal { l with lost := match lost.find? (fun x => x.seq == sq) with
      | some e => mergeAt 2 e lost
      | none => lost } d2
    dropSlot q d3
  | none => match d.shelf.scanOnly.find? (fun x => slotIn p n x.1) with
    | some (q, cause) =>
      dropSlot q (if (labelOf d p.shoal).lost.length < 768 then markLost nsid grain p cause none d
        else setLost nsid grain 1 (lossAsn d nsid grain) d)
    | none => d

/-- Place of the grain that holds a slot. -/
def grainPlace (n lba : Nat) (p : Place) : Place := { p with slot := p.slot - lba % max n 1 }

/-- An unrecoverable slot that a block's map entry names (06 R190): the grain becomes LOST at once. -/
def loseBlock (nsid lba : Nat) (p : Place) (cause : Nat) (d : Dev) : Dev :=
  let n := max (nsGrain d nsid) 1
  resolveSlot nsid (lba / n) (grainPlace n lba p) (lostSlot p cause d)

/-- The Lost Range entries of a grain record a fill, or that a write replaced it (06 R193, R194). -/
def noteReplaced (nsid lba : Nat) (filled : Bool) (d : Dev) : Dev :=
  let hit := fun (x : LostEntry) => x.resolved && x.nsid == nsid && decide (x.lba ≤ lba) && decide (lba < x.lba + x.count)
  d.shelf.labels.foldl (fun a e => if e.2.lost.any hit then
      setLabel e.1 { e.2 with lost := e.2.lost.map (fun x => if hit x then
        (if filled then { x with filled := true } else { x with superseded := true }) else x) } a
    else a) d

end Sys2Proof.Machine
end

