-- ==== Sys2Proof/Machine/Ordering.lean ====
section
/-! DEFINITION. Which value a block has at an ASN (05 R151 to R154), and the stored blocks of rows. -/

namespace Sys2Proof.Machine

/-- A zero block at an LBA, carrying an ASN (04 R113, R132): the encryption of zeros under the namespace's key. -/
def zeroBlock (d : Dev) (nsid lba asn : Nat) : Block :=
  let ns := tget d.host.nss nsid
  let key := nsKeyValue d nsid
  { asn := asn, nsid := nsid, lba := lba, guard := Config.guard64 0
    gcm := if (ns.map (·.auth)).getD false then blockTag key nsid lba asn 0 else 0, key := key, data := 0 }

/-- The block stored in a slot of a row, pad and unwritten slots included as none. -/
def storedBlock (d : Dev) (p : Place) : Option Block :=
  ((rowAt d p.shoal p.row).bind (fun s => s.slots[p.slot]?)).join

/-- The block of a write in the tracker (05 R152): from its STAGE page, or from its assembly copy. -/
def cmdBlock (d : Dev) (tag : Nat) (c : Cmd) (lba : Nat) : Option Block :=
  let i := lba - ((c.ranges.head?).map (·.lba)).getD 0
  match (c.pages[i]?).join with
  | some p => (tget d.pool.pages p).map (fun g =>
      { asn := c.asn, nsid := c.nsid, lba := lba, guard := g.tag.guard, gcm := g.tag.gcm, key := g.key, data := g.data })
  | none =>
    let n := nsGrain d c.nsid
    (d.str.rows.findSome? (fun e => (e.2.placed.find? (fun q => q.cmd == some tag && q.grain == lba / max n 1)).bind
      (fun q => (e.2.slots[q.slot + lba % max n 1]?).join)))

/-- What a block resolves to. -/
inductive Resolved where
  /-- a lower write that covers it is not settled (05 R152) -/
  | wait
  /-- its map page is not in the map cache (04 R124) -/
  | fetch (page : Nat)
  | zero
  | data (b : Block)
  | stored (p : Place)
  | lost
  deriving DecidableEq, Repr

/-- Is a command a write for ordering (05 R143)? -/
def isWrite : CmdKind → Bool
  | .write => true
  | .writeZeroes => true
  | .dealloc => true
  | _ => false

/-- Is a command a read for ordering (05 R143)? -/
def isRead : CmdKind → Bool
  | .read => true
  | .compare => true
  | .verify => true
  | _ => false

/-- Does a command cover a block? -/
def coversBlock (c : Cmd) (lba : Nat) : Bool := c.ranges.any (fun r => decide (r.lba ≤ lba) && decide (lba < r.lba + r.len))

/-- Writes in the tracker below an ASN that cover a block and have not ended absent. -/
def lowerWrites (d : Dev) (nsid lba asn : Nat) : List (Nat × Cmd) :=
  d.adm.cmds.filter (fun e => e.2.inTracker && isWrite e.2.kind && !e.2.absent && e.2.nsid == nsid &&
    decide (e.2.asn < asn) && coversBlock e.2 lba)

/-- The record of largest ASN. -/
def newest : List (Nat × Cmd) → Option (Nat × Cmd)
  | [] => none
  | e :: r => match newest r with
    | some f => if e.2.asn < f.2.asn then some f else some e
    | none => some e

/-- Does an overlay above `lo` and at or below an ASN mask a block (04 R132)? -/
def overlayAbove (d : Dev) (nsid lba lo asn : Nat) : Bool :=
  let n := max (nsGrain d nsid) 1
  d.str.overlays.any (fun o => o.nsid == nsid && o.grain == lba / n && decide (lo < o.asn) && decide (o.asn ≤ asn) &&
    bit o.mask (lba % n))

/-- What the map says of a block (05 R151 case 2). -/
def mapResolve (d : Dev) (nsid lba : Nat) : Resolved :=
  let n := max (nsGrain d nsid) 1
  let g := lba / n
  if !pageResident d nsid g then .fetch (mapPage d nsid g)
  else match mapGet d nsid g with
    | .unmapped => .zero
    | .zero => .zero
    | .lost _ => .lost
    | .mapped p =>
      let q : Place := { p with slot := p.slot + lba % n }
      if slotListed d q then .lost else .stored q

/-- Has the map taken a change of a block's grain above an ASN, while the tracker still holds a write of that ASN (04 R127)? -/
def mapAbove (d : Dev) (nsid lba asn : Nat) : Bool :=
  (tget d.str.shadow (gkey nsid (lba / max (nsGrain d nsid) 1))).any (fun sh => decide (asn < sh))

/-- The value of a block at an ASN (05 R151, R152, 04 R132): the newest settled write below it, in the tracker or already in the map,
unless a newer overlay masks the block (log entry 30). -/
def resolve (d : Dev) (nsid lba asn : Nat) : Resolved :=
  let ws := lowerWrites d nsid lba asn
  if ws.any (fun e => !e.2.settled) then .wait
  else match newest ws with
    | some (t, c) =>
      if overlayAbove d nsid lba c.asn asn then .zero
      else if mapAbove d nsid lba c.asn then mapResolve d nsid lba
      else if c.kind = .write then
        match cmdBlock d t c lba with
        | some b => .data b
        | none => .wait
      else .zero
    | none => if overlayAbove d nsid lba 0 asn then .zero else mapResolve d nsid lba

/-- A block of a row that this side did not write: what the drives hold of it, values that the model does not know (log entry 3). -/
def unknownBlock (nsid lba : Nat) (d : Dev) : Block × Dev :=
  let (asn, d1) := openValue d
  let (guard, d2) := openValue d1
  let (gcm, d3) := openValue d2
  let (data, d4) := openValue d3
  ({ asn := asn, nsid := nsid, lba := lba, guard := guard % 2 ^ 64, gcm := gcm % 2 ^ 128
     key := nsKeyValue d nsid, data := data }, d4)

/-- The block that stands in a slot for a logical block, with its metadata: what its row holds, or what the drives hold of a row that
this side did not write. -/
def blockAt (p : Place) (nsid lba : Nat) (d : Dev) : Block × Dev :=
  match storedBlock d p with
  | some b => (b, d)
  | none => unknownBlock nsid lba d

/-- A stored block as reads see it: its data. -/
def fetchStored (p : Place) (d : Dev) : Nat × Dev :=
  match storedBlock d p with
  | some b => (b.data, d)
  | none => openValue d

/-- Can a stored block be had while the blocks `bad`, by position and offset, cannot be read (06 R178): from its own strip, or by
reconstruction? In packed-metadata mode its metadata block too (R106). -/
def readableAt (d : Dev) (p : Place) (bad : List (Nat × Nat)) : Bool :=
  match rowAt d p.shoal p.row with
  | none => true
  | some s =>
    let g := stripeGeom d s
    let (pos, off) := slotPos g s.row p.slot
    let have_ := fun (o : Nat) => ((stripBay d s pos).isSome && !bad.contains (pos, o)) || recoverableAt d s bad o
    have_ off && (g.metaMode != 1 || have_ 31)

/-- CAUSE of the loss of a stored block (06 R194). -/
def blockCause (d : Dev) (p : Place) (bad : List (Nat × Nat)) : Nat :=
  match rowAt d p.shoal p.row with
  | none => 1
  | some s => lossCause d s bad (slotPos (stripeGeom d s) s.row p.slot).2

/-- A block that a map entry names cannot be read or reconstructed (06 R190): where its metadata is readable its grain is marked LOST, else
its slot enters the lost-slot table, and the entry that names it marks the grain. -/
def loseAt (nsid lba : Nat) (p : Place) (bad : List (Nat × Nat)) (d : Dev) : Dev :=
  let n := max (nsGrain d nsid) 1
  let cause := blockCause d p bad
  if (rowAt d p.shoal p.row).any (fun s => metaReadable d s bad) then markLost nsid (lba / n) (grainPlace n lba p) cause none d
  else loseBlock nsid lba p cause d

/-- The blocks of `bad` that a read of a slot meets: of its own strip, and, where that cannot serve, of the others at the offset; in
packed-metadata mode the same for its metadata block (06 R174, R178). -/
def badMet (d : Dev) (p : Place) (bad : List (Nat × Nat)) : List (Nat × Nat) :=
  match rowAt d p.shoal p.row with
  | none => []
  | some s =>
    let g := stripeGeom d s
    let (pos, off) := slotPos g s.row p.slot
    let there := bad.filter (fun x => (stripBay d s x.1).isSome)
    (if g.metaMode = 1 then [off, 31] else [off]).flatMap (fun o =>
      there.filter (fun x => x.2 == o && (x.1 == pos || (stripBay d s pos).isNone || bad.contains (pos, o))))

/-- Block errors of a row's reads (06 R174): each adds one to its member's media count, and with `fix`, where the reconstruction succeeds,
the row waits for its repair. -/
def noteErrors (cls sh row : Nat) (met : List (Nat × Nat)) (fix : Bool) (d : Dev) : Dev :=
  match rowAt d sh row with
  | none => d
  | some s =>
    let bays := met.filterMap (fun x => stripBay d s x.1)
    let k := rkey sh row
    let d1 := bays.foldl (fun a b => occur 6 3 1 (memberAttr b cls)
      { a with shelf.drives := tmod a.shelf.drives b (fun v => { v with mediaCount := v.mediaCount + 1 }) }) d
    if bays.isEmpty ∨ !fix ∨ d1.shelf.repairs.contains k then d1 else { d1 with shelf.repairs := d1.shelf.repairs ++ [k] }

/-- Read a stored block from its member, or, where its strip is missing, from the other strips (06 R178): the command's number. None
where more than PARITY strips are missing, or the row is not known. -/
def issueRead (p : Place) (d : Dev) : Option (Nat × Dev) :=
  (rowAt d p.shoal p.row).bind (fun s =>
    let m := d.shelf.nextMcid
    match stripBay d s (slotPos (stripeGeom d s) s.row p.slot).1 with
    | some b => some (m, memberIssue b (.readBlock p) d)
    | none =>
      if readableAt d p [] then
        ((writtenPos (stripeGeom d s) s.row).findSome? (stripBay d s)).map (fun b =>
          let d1 := memberIssue b (.readBlock p) d
          (m, { d1 with shelf.cmds := tmod d1.shelf.cmds m (fun c => { c with recon := true }) }))
      else none)

/-- The first grain of a global map page and the number of its grains, with its namespace (04 R123). -/
def pageSpan (d : Dev) (page : Nat) : Option (Nat × Nat × Nat) :=
  d.host.nss.findSome? (fun e =>
    let grains := ceilDiv e.2.nsze (grainBlocks e.2.grain)
    let first := 512 * (page - e.2.pageBase)
    if e.2.pageBase ≤ page ∧ first < grains then some (e.1, first, min 512 (grains - first)) else none)

/-- Runs of consecutive grains whose LOST records share their ASN (06 R191): first grain, number and ASN. -/
def lostRuns : List (Nat × Nat) → List (Nat × Nat × Nat)
  | [] => []
  | (g, a) :: r => match lostRuns r with
    | (h, n, b) :: t => if g + 1 = h ∧ a = b then (g, n + 1, a) :: t else (g, 1, a) :: (h, n, b) :: t
    | [] => [(g, 1, a)]

/-- A map page that cannot be read or reconstructed is lost in whole (04 R124): its grains become LOST with CAUSE 3, by one record for
each run (06 R191). -/
def losePage (page : Nat) (d : Dev) : Dev :=
  match pageSpan d page with
  | none => d
  | some (nsid, first, count) =>
    let gs := (run first count).filter (fun g => match mapGet d nsid g with
      | .lost _ => false
      | _ => true)
    (lostRuns (gs.map (fun g => (g, lossAsn d nsid g)))).foldl (fun a x =>
      let n := nsGrain a nsid
      let p := entryPlace (mapGet a nsid x.1)
      lostEntry (nsShoal a nsid) { seq := 0, nsid := nsid, count := x.2.1 * n, lba := x.1 * n, asn := x.2.2, cause := 3, resolved := true
                                   shoal := p.shoal, row := p.row, slot := p.slot } (setLost nsid x.1 x.2.1 x.2.2 a)) d

/-- The namespace LBA of an occurrence about a map page (17 R489): the first that the page covers. -/
def mapPageAttr (page : Nat) (d : Dev) : Attr :=
  match pageSpan d page with
  | some (ns, first, _) => { nsid := some ns, lba := some (first * nsGrain d ns) }
  | none => {}

/-- Ask for a map page (04 R124), once; a page that cannot be reconstructed is lost. -/
def fetchPage (page : Nat) (d : Dev) : Dev :=
  if d.str.fetching.contains page then d
  else
    let d1 := occur 5 4 1 (mapPageAttr page d) d
    match tget d.str.dir (dirKey 0 page) with
    | some p => match issueRead p d1 with
      | some (_, d2) => { d2 with str.fetching := d2.str.fetching ++ [page] }
      | none =>
        if (rowAt d p.shoal p.row).isSome then losePage page { d1 with str.cached := d1.str.cached ++ [page] }
        else { d1 with str.fetching := d1.str.fetching ++ [page] }
    | none => { d1 with str.fetching := d1.str.fetching ++ [page] }

/-- Grains of the shelf whose entries a global map page holds: (NSID, grain). -/
def grainsOfPage (d : Dev) (page : Nat) : List (Nat × Nat) :=
  d.str.map.filterMap (fun e =>
    let nsid := e.1 / 2 ^ 40
    let g := e.1 % 2 ^ 40
    if thas d.host.nss nsid ∧ mapPage d nsid g = page then some (nsid, g) else none)

/-- Does a map page pass the checks of R108: as its member returned it, or as it was reconstructed from the strips that could be read? -/
def pageGood (d : Dev) (page : Nat) (res recon : ReadBack) (bad : List (Nat × Nat)) : Bool :=
  match tget d.str.dir (dirKey 0 page) with
  | none => true
  | some p => match rowAt d p.shoal p.row with
    | none => decide (res ≠ .error)
    | some s =>
      let b : Block := (storedBlock d p).getD { asn := 0, nsid := 0xFFFFFFFE, lba := page }
      let own := slotPos (stripeGeom d s) s.row p.slot
      let passes := fun (r : ReadBack) => match checkBlock d s b r with
        | .good _ => true
        | _ => false
      passes res || (recoverableAt d s (own :: bad) own.2 && passes recon)

/-- The cells of a map page read, in the class of the Cove of a command that waits for the page, else in HOUSEKEEPING_CLASS (09 R296). -/
def mapPageCells (page : Nat) (d : Dev) : Dev :=
  let nsid := ((pageSpan d page).map (·.1)).getD 0
  match (tget d.str.dir (dirKey 0 page)).bind (fun p => d.shelf.cmds.find? (fun e => e.2.op == .readBlock p)) with
  | none => d
  | some (m, c) =>
    let key := c.bay * 65536 + m % 65536
    match d.adm.cmds.find? (fun e => e.2.nsid == nsid && !e.2.completed && e.2.blocks.contains .waiting) with
    | some (_, x) => hostUnit (driveStation c.bay) [hbmStation page] x.cove key m 4096 d
    | none => upkeepUnit (driveStation c.bay) [hbmStation page] key m 4096 d

/-- MAP_PAGE_FETCH_DONE (04 R124, R108): the page enters the map cache, or is lost. -/
def mapPageDone (page : Nat) (res recon : ReadBack) (bad : List (Nat × Nat)) (d : Dev) : Dev :=
  if d.str.fetching.contains page then
    let good := pageGood d page res recon bad
    let d1 := { d with str.fetching := d.str.fetching.filter (fun p => p != page), str.cached := d.str.cached ++ [page] }
    let d2 := match tget d.str.dir (dirKey 0 page) with
      | some p => endCmds (fun c => c.op == .readBlock p) (mapPageCells page d1)
      | none => d1
    if good then d2 else losePage page d2
  else d

/-- MAP_PAGE_FETCH_DONE (04 R124). -/
def execMapPageFetchDone (page : Nat) (got : BlockRead) (s : State) : Result :=
  onDev s (mapPageDone page got.res got.recon got.bad)

end Sys2Proof.Machine
end

