-- ==== Sys2Proof/Machine/Records.lean ====
section
/-! DEFINITION. The configuration area of the members (12 R381, R382, R385, 13 R394, R395): its records, their places, and writing
them. -/

namespace Sys2Proof.Machine

/-! ## Records -/

/-- A namespace key record with its CHECK (R381), 128 bytes. -/
def keyRecord (k : NsKey) : List Byte := keyRecordBody k ++ leBytes (crc32c (keyRecordBody k)).toNat 4

/-- A Cove slot record with its CHECK (R385), 128 bytes. An empty record wraps nothing. -/
def slotRecord (r : SlotRecord) : List Byte :=
  let b := leBytes (b2n r.loaded) 1 ++ leBytes r.modes 1 ++ leBytes r.slot 1 ++ zeros 1 ++ leBytes r.kekEpoch 4
    ++ (if r.loaded then sized 48 r.wrapped else zeros 48) ++ zeros 68
  b ++ leBytes (crc32c b).toNat 4

/-- The KEK_EPOCH in force, 0 with none. -/
def kekEpoch (d : Dev) : Nat := (d.keys.kek.map (·.1)).getD 0

/-- An empty slot record. -/
def emptySlot (d : Dev) (cove slot : Nat) : SlotRecord :=
  { cove := cove, slot := slot, loaded := false, modes := 0, kekEpoch := kekEpoch d, key := 0 }

/-- A reservation record's bytes (13 R395), CHECK included. -/
def resvBytes (r : ResvRecord) : List Byte :=
  let head := [0x57#8, 0x58#8, 0x52#8, 0x53#8] ++ leBytes r.nsid 4 ++ leBytes r.gen 8 ++ leBytes r.rtype 1
    ++ leBytes (b2n r.ptpl) 1 ++ leBytes (r.holder.getD 0xFF) 1 ++ leBytes r.registrants.length 1 ++ leBytes 0 40
  let body := (r.registrants.map (fun g => leBytes g.hostid 16 ++ leBytes g.key 8 ++ leBytes g.cove 2 ++ leBytes 0 6)).flatten
  head ++ leBytes (crc32c (head ++ leBytes 0 4 ++ body)).toNat 4 ++ body

/-- The shelf record (13 R394), 64 bytes, written at a time in Tide Clock seconds. -/
def shelfRecordBytes (r : ShelfRecord) (seconds : Nat) : List Byte :=
  let b := [0x57#8, 0x58#8, 0x50#8, 0x52#8] ++ leBytes 1 2 ++ leBytes r.writer 1 ++ leBytes r.mode 1 ++ leBytes r.epoch 8
    ++ leBytes r.shelfId 16 ++ leBytes seconds 6 ++ zeros 22
  b ++ leBytes (crc32c b).toNat 4

/-! ## Places (R382, 13 R394) -/

/-- LBA of a namespace's key record. -/
def keyLba (nsid : Nat) : Nat := 16383 + nsid

/-- LBA of a Cove's slot page, which it shares with the next or the one before. -/
def slotLba (cove : Nat) : Nat := 20480 + cove / 2

/-- LBA of a namespace's reservation record. -/
def resvLba (nsid : Nat) : Nat := 22544 + (nsid - 1)

/-- LBA of the shelf record's copy that takes an epoch: the copies alternate with PAIR_EPOCH (log entry 22). -/
def shelfLba (epoch : Nat) : Nat := 22528 + epoch % 2

/-- The 16 slot records of a Cove. -/
def slotPage (d : Dev) (cove : Nat) : List Byte :=
  (List.range 16).flatMap (fun i => slotRecord ((tget d.keys.slots (cove * 16 + i)).getD (emptySlot d cove i)))

/-- The block that holds the slot pages of two Coves. -/
def slotBlockBytes (d : Dev) (cove : Nat) : List Byte := slotPage d (cove / 2 * 2) ++ slotPage d (cove / 2 * 2 + 1)

/-- Every record of the area, by LBA. -/
def allRecords (d : Dev) : List (Nat × List Byte) :=
  d.keys.nsKeys.map (fun e => (keyLba e.1, keyRecord e.2))
    ++ ((d.keys.slots.map (fun e => e.1 / 32)).eraseDups).map (fun k => (20480 + k, slotBlockBytes d (2 * k)))
    ++ (match d.pair.record with
      | some r => [(shelfLba r.epoch, shelfRecordBytes r d.clk.tod.s)]
      | none => [])
    ++ d.host.resv.map (fun e => (resvLba e.1, resvBytes e.2))

/-! ## Writing (R382, R384) -/

/-- Bays whose member takes configuration records: ONLINE and SPARE members of every Shoal, and members on their way to ONLINE, which are to
hold every record before they are. -/
def configBays (d : Dev) : List Nat :=
  (d.shelf.labels.flatMap (fun l => (l.2.roster.filter (fun r =>
      r.2.state == .online || r.2.state == .rebuilding || r.2.state == .resyncing)).map (fun r => r.2.bay))
    ++ d.shelf.spares).eraseDups

/-- Write a configuration record to every member that takes it (R382). -/
def configWrite (lba : Nat) (b : List Byte) (d : Dev) : Dev :=
  (configBays d).foldl (fun a bay => memberIssue bay (.recordWrite lba b) a) d

/-- A member that joins, or returns as RESYNCING, has every record of the area rewritten (R382). -/
def rewriteRecords (bay : Nat) (d : Dev) : Dev := (allRecords d).foldl (fun a r => memberIssue bay (.recordWrite r.1 r.2) a) d

/-- Records of a member that do not match are stale, and are rewritten (R384). -/
def freshenRecords (bay : Nat) (d : Dev) : Dev :=
  ((allRecords d).filter (fun r => tget d.shelf.records (65536 * bay + r.1) != some r.2)).foldl (fun a r =>
    memberIssue bay (.recordWrite r.1 r.2) a) d

/-- Is a command the write of a configuration record? -/
def recordOp : MemberOp → Bool
  | .recordWrite _ _ => true
  | _ => false

/-- Has a bay a record still to take (R382)? -/
def recordsOpen (d : Dev) (bay : Nat) : Bool :=
  d.shelf.cmds.any (fun e => e.2.bay == bay && recordOp e.2.op) || d.shelf.heldOps.any (fun e => e.1 == bay && recordOp e.2)

/-- Record writes that were sent are durable: the records stand on their members. -/
def recordsWritten (which : Nat → MemberCmd → Bool) (d : Dev) : Dev :=
  let mine := fun (e : Nat × MemberCmd) => recordOp e.2.op && e.2.phase != .queued && which e.1 e.2
  let done := d.shelf.cmds.filter mine
  let d0 := countWritten 4096 done d
  done.foldl (fun a e => memberEnd e.1 a) { d0 with
    shelf.records := done.foldl (fun t e => match e.2.op with
      | .recordWrite lba b => tput t (65536 * e.2.bay + lba) b
      | _ => t) d.shelf.records }

/-- Is a command the write of a record at one of some LBAs? -/
def writesLba (p : Nat → Bool) (c : MemberCmd) : Bool :=
  match c.op with
  | .recordWrite lba _ => p lba
  | _ => false

end Sys2Proof.Machine
end

