-- ==== Sys2Proof/Machine/Stripes.lean ====
section
/-! DEFINITION. Filling, sealing, writing and committing stripes (04 R109 to R121, R128, R133), write-around (06 R175) and
checkpoints (04 R129). -/

namespace Sys2Proof.Machine

/-! ## Open stripes (R109 to R111) -/

/-- The open stripe of a stream. -/
def openOf (d : Dev) (sh stream : Nat) : Option Stripe :=
  (d.str.rows.find? (fun e => e.2.shoal == sh && e.2.stream == stream && e.2.life == .opened)).map (·.2)

/-- Bytes of HBM that a stripe's assembly copy takes: its slots with metadata (log entry 9). -/
def assemblyBytes (d : Dev) (s : Stripe) : Nat := slotCount (stripeGeom d s) * 4160

/-- Bytes of HBM that late strips hold beyond COMMITTED, until their member commands are terminal (06 R176). -/
def lateBytes (d : Dev) : Nat :=
  lsum d.shelf.cmds (fun e => match e.2.op with
    | .writeStrip sh row _ => if (rowAt d sh row).any (fun s => s.life == .committed) then 133120 else 0
    | _ => 0)

/-- Room in ASSEMBLY for one more stripe (R110): the first 512 MiB serve host data only. -/
def assemblyRoom (d : Dev) (g : ShoalCfg) (hk : Bool) : Bool :=
  let live := (d.str.rows.map (·.2)).filter (fun s => s.life != .committed && s.life != .abandoned)
  let total := lsum live (assemblyBytes d) + lateBytes d
  let house := lsum (live.filter (·.housekeeping)) (assemblyBytes d)
  let size := slotCount g * 4160
  let all := (chartOf d).hbm.assembly * 1048576
  decide (total + size ≤ all) && (!hk || decide (house + size ≤ all - 512 * 1048576))

/-- A FREE row for a new stripe, from the row pointer on (R135): host data takes none at or below FREE_RESERVE; a row whose
deallocate is not terminal is not reused (06 R169). -/
def pickRow (d : Dev) (sh : Nat) (hk : Bool) : Option Nat :=
  match shoalOf d sh with
  | none => none
  | some st =>
    if !hk && !aboveReserve d sh then none
    else
      let free := fun r => !thas d.str.rows (rkey sh r) && !thas d.shelf.deallocs (rkey sh r)
      let tries := min st.rows (d.str.rows.length + d.shelf.deallocs.length + 1)
      ((List.range tries).map (fun i => (st.nextRow + i) % max st.rows 1)).find? free

/-- Mark a region dirty (R117): the mark waits for the keepers, and for a new keeper's whole bitmap (R118). -/
def markRegion (sh k : Nat) (d : Dev) : Dev :=
  match shoalOf d sh with
  | none => d
  | some st =>
    if st.dirty.contains k ∨ st.marking.contains k then d
    else
      let d1 := modShoal sh (fun x => { x with marking := x.marking ++ [k] }) d
      if st.keeperBehind then d1 else writeKeepers sh (keepersOf d1 sh) d1

/-- Open a stripe in a FREE row (R110, R114); the next region of the allocation is marked ahead of need (R117). -/
def openStripe (sh stream : Nat) (hk : Bool) (cove : Nat) (d : Dev) : Option Dev :=
  let g := curGeom d sh
  if !assemblyRoom d g hk then none
  else match pickRow d sh hk with
    | none => none
    | some r =>
      let s : Stripe := { shoal := sh, row := r, geometry := g.geometryId, stream := stream, housekeeping := hk, cove := cove }
      let d1 := modShoal sh (fun x => { x with nextRow := (r + 1) % max x.rows 1 }) (setRow s d)
      some (if 6144 ≤ r % 8192 then markRegion sh ((r / 8192 + 1) % max (ceilDiv (rowsOf d sh) 8192) 1) d1 else d1)

/-- Pad blocks of a stripe at its sealing (R111). -/
def padCount (d : Dev) (s : Stripe) : Nat := slotCount (stripeGeom d s) - usedSlots s

/-- Records that wait for a record block of a Shoal (R133). -/
def recordsOf (d : Dev) (sh : Nat) : List LogRec := d.str.recordQueue.filter (fun r => nsShoal d r.nsid == sh)

/-- Slots of the last stream's stripe that the waiting records take (R133). -/
def recordSlots (d : Dev) (sh stream : Nat) : Nat :=
  if stream = lastStream (curGeom d sh) then ceilDiv (recordsOf d sh).length 63 else 0

/-- A record block of up to 63 records (R133). -/
def recordBlock (rs : List LogRec) : Block :=
  { asn := 0, nsid := 0xFFFFFFFB, lba := 0, data := leNum ((rs.map (fun r => leBytes (logRecord r) 64)).flatten) }

/-- Records in groups of 63. -/
def recordGroups : Nat → List LogRec → List (List LogRec)
  | 0, _ => []
  | k + 1, l => if l.isEmpty then [] else l.take 63 :: recordGroups k (l.drop 63)

/-- The record blocks that a stripe of the last stream takes at sealing (R133): the records that wait, up to 63 in each, in free slots
after the blocks placed. -/
def addRecordBlock (s : Stripe) (d : Dev) : Stripe × Dev :=
  let g := stripeGeom d s
  if s.stream ≠ lastStream g then (s, d)
  else
    let mine := recordsOf d s.shoal
    let gs := (recordGroups mine.length mine).take (slotCount g - s.slots.length)
    let taken := gs.flatten
    ({ s with slots := s.slots ++ gs.map (fun rs => some (recordBlock rs)) },
     { d with str.recordQueue := d.str.recordQueue.filter (fun r => !taken.contains r) })

/-- STAGE pages whose blocks stand in a stripe (03 R86). -/
def pagesOf (d : Dev) (s : Stripe) : List Nat :=
  s.placed.flatMap (fun p => match p.cmd.bind (tget d.adm.cmds) with
    | none => []
    | some c =>
      let first := ((c.ranges.head?).map (·.lba)).getD 0
      c.pages.zipIdx.filterMap (fun x => if (first + x.2) / max p.count 1 = p.grain then x.1 else none))

/-- The parity job of a sealed stripe (04 R114) in Prism: a descriptor to the engine, a notice of the journal's entry to the Tide Pool (09
R289), and each data strip as a unit of the stripe's Cove (09 R296). -/
def parityJob (s : Stripe) (d : Dev) : Dev :=
  let g := stripeGeom d s
  let e := parityStation s.row
  (List.range (g.width - g.parity - g.spareStrips)).foldl (fun a i => hostUnit (hbmStation s.row) [e] s.cove s.row (s.row * 32 + i) 131072 a)
    (sendMessage mgmtStation poolStation s.row 64 (sendMessage mgmtStation e s.row 64 d))

/-- The parity engine's results go to the assembly buffer, with its completion record (09 R289, R296). -/
def parityResult (s : Stripe) (d : Dev) : Dev :=
  let e := parityStation s.row
  (List.range (stripeGeom d s).parity).foldl (fun a i => hostUnit e [hbmStation s.row] s.cove s.row (s.row * 32 + i) 131072 a)
    (sendMessage e mgmtStation s.row 16 d)

/-- Seal a stripe (R111, R114, R116): it takes an SJOURNAL entry and a generation, which its blocks carry, its free slots become pad
blocks, and parity starts. None while SJOURNAL has no free entry. -/
def sealStripe (cause : Nat) (s : Stripe) (d : Dev) : Option Dev :=
  match freeJournal d with
    | none => none
    | some i =>
      let (s1, d1) := addRecordBlock s d
      let gen := ((shoalOf d1 s.shoal).map (·.gen)).getD 0 + 1
      let pads := padCount d1 s1
      let s0 := { s1 with life := .sealed, gen := gen, sealCause := cause, sealWait := false, inJournal := true, jindex := i }
      let s2 := { s0 with slots := s0.slots.map (fun o => o.map (fun b => { b with geo := geoGen s0 })) }
      let d2 := modShoal s.shoal (fun x => { x with gen := gen, pads := x.pads + pads }) (sealPages (pagesOf d1 s1) d1)
      some (occur 5 2 pads {} (occur 5 (if cause = 0 then 0 else 1) 1 {} (parityJob s2 (writeJournal s2 d2))))

/-- Seal, or leave the stripe waiting unsealed (R111). -/
def sealOrWait (cause : Nat) (s : Stripe) (d : Dev) : Dev :=
  match sealStripe cause s d with
  | some d1 => d1
  | none => setRow { s with sealWait := true, sealCause := cause } d

/-- First slot at which a grain of `n` blocks can start (R110). -/
def alignSlot (used n : Nat) : Nat := ceilDiv used (max n 1) * max n 1

/-- Does a grain of `n` blocks fit an open stripe, beside the record blocks that wait for it (R133)? -/
def fitsStripe (d : Dev) (s : Stripe) (n : Nat) : Bool :=
  decide (alignSlot s.slots.length n + n + recordSlots d s.shoal s.stream ≤ slotCount (stripeGeom d s)) ||
    (s.slots.isEmpty && decide (n ≤ slotCount (stripeGeom d s)))

/-- Put a grain's blocks into an open stripe (R110); a full stripe is sealed (R111). -/
def putGrain (s : Stripe) (pl : Placed) (bs : List Block) (d : Dev) : Dev :=
  let n := bs.length
  let st := alignSlot s.slots.length n
  let slots := s.slots ++ List.replicate (st - s.slots.length) none ++ bs.map some
  let s1 := { s with slots := slots, placed := s.placed ++ [{ pl with slot := st, count := n }] }
  if slotCount (stripeGeom d s) ≤ slots.length then sealOrWait 0 s1 (setRow s1 d) else setRow s1 d

/-- Seal the open stripe of a stream where the next grain, of `n` blocks, does not fit (R111); without an SJOURNAL entry it waits, and new
blocks with it. -/
def sealFull (sh stream n : Nat) (d : Dev) : Dev :=
  match openOf d sh stream with
  | some s => if s.sealWait ∨ fitsStripe d s n then d else sealOrWait 0 s d
  | none => d

/-- Place a grain in a stream (R110): into its open stripe, or, when it does not fit, into a new one after the old is sealed. The flag
says that it was placed: it is not while there is no row, no room or no SJOURNAL entry. -/
def placeGrain (sh stream : Nat) (hk : Bool) (cove : Nat) (pl : Placed) (bs : List Block) (d : Dev) : Bool × Dev :=
  let d1 := sealFull sh stream bs.length d
  match openOf d1 sh stream with
  | some s => if s.sealWait then (false, d1) else (true, putGrain s pl bs d1)
  | none => match (openStripe sh stream hk cove d1).bind (fun d2 => (openOf d2 sh stream).map (fun t => putGrain t pl bs d2)) with
    | some d2 => (true, d2)
    | none => (false, d1)

/-- A full record block opens a housekeeping stripe where the last stream has none open (R110, R133; log entry 34). -/
def openForRecords (sh : Nat) (d : Dev) : Dev :=
  let st := lastStream (curGeom d sh)
  if (recordsOf d sh).length < 63 ∨ (openOf d sh st).isSome then d else (openStripe sh st true 0 d).getD d

/-- Full record blocks open housekeeping stripes. -/
def openAllRecords (d : Dev) : Dev := d.str.shoals.foldl (fun a e => openForRecords e.1 a) d

/-- SEAL_TIMER (R111): an open stripe that holds a block, a record block included, is sealed by its timer. -/
def execSealTimer (shoal stream : Nat) (s : State) : Result :=
  onDev s (fun d => match openOf d shoal stream with
    | some t => if (t.slots.isEmpty ∧ recordSlots d shoal stream = 0) ∨ t.sealWait then d else sealOrWait 1 t d
    | none => d)

/-- SEAL_RETRY (R111): a stripe that waited for an SJOURNAL entry. -/
def execSealRetry (shoal stream : Nat) (s : State) : Result :=
  onDev s (fun d => match openOf d shoal stream with
    | some t => if t.sealWait then (sealStripe t.sealCause t d).getD d else d
    | none => d)

/-! ## Strip writes (R114, R117, 06 R175 to R177) -/

/-- The region of a row (R117). -/
def dirtyRegion (row : Nat) : Nat := row / 8192

/-- Positions that a stripe omits and whose open resync slot has not marked its region (06 R177). -/
def unmarkedOmitted (d : Dev) (s : Stripe) : List Nat :=
  ((writtenPos (stripeGeom d s) s.row).filter (fun p => (writeBay d s p).isNone)).map (labelPos d (stripeGeom d s)) |>.filter
    (fun p => match resyncOf d s.shoal p with
      | some r => !r.regions.contains (resyncRegion s.row)
      | none => false)

/-- Mark resync regions in a Shoal's label (06 R177, R181). -/
def markResync (sh : Nat) (ps : List Nat) (region gen : Nat) (d : Dev) : Dev :=
  let l := labelOf d sh
  setLabel sh { l with resync := l.resync.map (fun r => if ps.contains r.pos then
    { r with regions := if r.regions.contains region then r.regions else r.regions ++ [region], gA := min r.gA gen } else r) } d

/-- What of a Shoal's records stands in a label (06 R170): not which rows are on their way to a target, or rewritten in a region whose bit is
still set. -/
def recorded (l : ShoalLabel) : ShoalLabel :=
  { l with subst := l.subst.map (fun u => { u with building := [], reach := 0 })
           resync := l.resync.map (fun r => { r with doneGens := [], building := [] }) }

/-- What a label copy of a Shoal says on the drive in a bay (06 R170). -/
def labelFor (d : Dev) (sh bay : Nat) : LabelCopy :=
  let l := recorded (labelOf d sh)
  match l.roster.find? (fun e => e.2.bay == bay) with
  | some (pos, e) => { shoal := sh, label := l, shelfId := d.pair.shelfId, pos := if pos < 32 then pos else 0xFF, bay := bay
                       state := e.state, serial := e.serial, labelGen := e.labelGen }
  | none =>
    let v := tget d.shelf.drives bay
    { shoal := sh, label := l, shelfId := d.pair.shelfId, bay := bay, serial := (v.map (·.serial)).getD 0
      labelGen := (v.map (·.labelGen)).getD 0 }

/-- Is a member command a label write? -/
def labelOp : MemberOp → Bool
  | .labelWrite _ _ => true
  | _ => false

/-- Is the next label copy of a member copy B (06 R171): the one that does not hold the higher LABEL_SEQ? -/
def nextCopyB (d : Dev) (bay : Nat) : Bool :=
  match tget d.shelf.labelCopies (2 * bay), tget d.shelf.labelCopies (2 * bay + 1) with
  | some a, some b => decide (b.label.labelSeq < a.label.labelSeq)
  | some _, none => true
  | none, _ => false

/-- Write the label of the member in a bay (06 R171): copies alternate, and the next waits for the one under way. -/
def writeLabel (sh bay : Nat) (d : Dev) : Dev :=
  if d.shelf.cmds.any (fun e => e.2.bay == bay && labelOp e.2.op) || d.shelf.heldOps.any (fun e => e.1 == bay && labelOp e.2) then
    { d with shelf.labelAgain := if d.shelf.labelAgain.contains bay then d.shelf.labelAgain else d.shelf.labelAgain ++ [bay] }
  else memberIssue bay (.labelWrite (nextCopyB d bay) (labelFor d sh bay)) d

/-- Write the labels of members of a Shoal, each time under a higher LABEL_SEQ (06 R171). -/
def writeLabelsTo (sh : Nat) (bays : List Nat) (d : Dev) : Dev :=
  bays.foldl (fun a b => writeLabel sh b a)
    { d with shelf.labels := tmod d.shelf.labels sh (fun l => { l with labelSeq := l.labelSeq + 1 }) }

/-- Send a dependent label change to both keepers (06 R171). -/
def writeLabels (sh : Nat) (d : Dev) : Dev := writeLabelsTo sh (keepersOf d sh) d

/-- Bits of a list of positions. -/
def posBits (ps : List Nat) : BitVec 32 := ps.foldl setBit 0#32

/-- Positions of a stripe whose strip is not durable. -/
def undurable (d : Dev) (s : Stripe) : List Nat :=
  (writtenPos (stripeGeom d s) s.row).filter (fun p => !s.done.getLsbD p)

/-- Does a placed grain join the run that follows it (R127, R128)? Consecutive grains in consecutive slots of one namespace; grains of
several commands only where none of them has a shadow. -/
def joinsRun (d : Dev) (a b : Placed) (t : List Placed) : Bool :=
  a.mapClass.isNone && b.mapClass.isNone && a.src.isNone && b.src.isNone && a.nsid == b.nsid && b.grain == a.grain + 1 &&
    b.slot == a.slot + a.count &&
    ((b :: t).all (fun x => x.asn == a.asn) || (a :: b :: t).all (fun x => !thas d.str.shadow (gkey x.nsid x.grain)))

/-- Group placed grains into runs. -/
def groupRuns (d : Dev) : List Placed → List (List Placed)
  | [] => []
  | p :: r => match groupRuns d r with
    | (q :: t) :: rest => if joinsRun d p q t then (p :: q :: t) :: rest else [p] :: (q :: t) :: rest
    | other => [p] :: other

/-- The record of a run (R126): RUN, MOVE or MAPPAGE. -/
def runRecord (s : Stripe) (run : List Placed) : LogRec :=
  match run with
  | [] => { type := 1, seq := 0 }
  | p :: _ =>
    let pl : Place := { shoal := s.shoal, row := s.row, slot := p.slot }
    let lo := run.foldl (fun a q => min a q.asn) p.asn
    let hi := run.foldl (fun a q => max a q.asn) p.asn
    match p.mapClass with
    | some k => { type := 7, seq := 0, flags := k, start := p.grain, phys := some pl, asnLo := p.asn }
    | none => match p.src with
      | some x => { type := 6, seq := 0, nsid := p.nsid, start := p.grain * p.count, count := 1, phys := some pl,
                    asnLo := p.asn, src := some x }
      | none => { type := 1, seq := 0, nsid := p.nsid, start := p.grain * p.count, count := run.length, phys := some pl,
                  asnLo := lo, asnHi := hi }

/-- Apply a committed map-class block to the directory (R124): LIVE follows it, and the segment that lists a map page has changed. -/
def applyMapClass (kind number : Nat) (new : Place) (d : Dev) : Dev :=
  let k := dirKey kind number
  let seg := number / 524288
  let d1 := addLive new 1 { d with
    str.dir := tput d.str.dir k new
    str.segDirty := if kind = 0 ∧ !d.str.segDirty.contains seg then d.str.segDirty ++ [seg] else d.str.segDirty }
  match tget d.str.dir k with
  | some old => subLive old 1 d1
  | none => d1

/-- Apply one placed grain at commit (R127): a map-class block, a MOVE, or a write's change, deferred where lower reads wait.
A write over a LOST grain is noted in the Lost Range log (06 R193). -/
def applyPlaced (s : Stripe) (p : Placed) (d : Dev) : Dev :=
  let pl : Place := { shoal := s.shoal, row := s.row, slot := p.slot }
  match p.mapClass with
  | some k => applyMapClass k p.grain pl d
  | none => match p.src with
    | some x => applyMove p.nsid p.grain x pl d
    | none =>
      let filled := ((s.slots.drop p.slot).take p.count).any (fun b => match b with
        | some x => x.asn != p.asn
        | none => false)
      let d1 := match mapGet d p.nsid p.grain with
        | .lost _ => noteReplaced p.nsid (p.grain * p.count) filled d
        | _ => d
      changeGrain p.nsid p.grain (.mapped pl) p.asn p.cmd d1

/-- The cells of a block of a Write (09 R298): from the network port to the cipher engine, and from it to the Tide Pool, the Strait where
the pair mirrors, and the assembly buffer; the engine is told its job by a descriptor (09 R289). -/
def writeCells (tag i v : Nat) (c : Cmd) (d : Dev) : Dev :=
  let e := pickEngine d false
  let port := ((tget d.net.qps c.qpn).map (·.port)).getD 0
  let unit := tag * 512 + i
  let repl := poolStation :: (if mirrors d then [straitStation] else []) ++ [hbmStation tag]
  cmdUnit (13 + e) repl c.cove (unit % 2 ^ 20) unit 4096 (blockPass e c.cove c.nsid v
    (cmdUnit port [13 + e] c.cove c.qpn unit 4096 (sendMessage mgmtStation (13 + e) unit 64 d)))

/-- Stage a block of a Write (01 R17 steps 6 and 7, 03 R68): its page, tag and mirror copy. While withdrawn pages leave none free the
block waits for the next release. -/
def stageBlock (tag i v : Nat) (d : Dev) : Dev :=
  match tget d.adm.cmds tag with
  | none => d
  | some c =>
    match allocPage d with
    | none => { d with pool.blockWaits := d.pool.blockWaits ++ [(tag, i, v)] }
    | some (p, d1) =>
      let lba := ((c.ranges.head?).map (·.lba)).getD 0 + i
      let auth := ((tget d.host.nss c.nsid).map (·.auth)).getD false
      let t : Tag := { asn := c.asn, nsid := c.nsid, lba := lba, guard := Config.guard64 v
                       gcm := if auth then blockTag c.key c.nsid lba c.asn v else 0
                       cove := c.cove, pageIndex := i, pageCount := c.pages.length }
      stagePage (13 + pickEngine d false) p t v c.key (writeCells tag i v c
        { d1 with adm.cmds := tmod d1.adm.cmds tag (fun x => { x with pages := setNth x.pages i (some p) }) })

/-- Released pages serve the repeats that wait, then the blocks that wait, in order (03 R70). -/
def resumePages (d : Dev) : Dev :=
  let d1 := resumeRepeats d
  d1.pool.blockWaits.foldl (fun a x => stageBlock x.1 x.2.1 x.2.2 a) { d1 with pool.blockWaits := [] }

/-- A command's grain is in a COMMITTED stripe; with the last of them its pages and credits return (03 R87). What the partner has not yet
acknowledged of its PAGE frames is kept by their highest MSEQ (01 R17). -/
def grainCommitted (tag grain : Nat) (d : Dev) : Dev :=
  match tget d.adm.cmds tag with
  | none => d
  | some c =>
    let c1 := { c with uncommitted := c.uncommitted.filter (fun g => g != grain) }
    if c1.uncommitted.isEmpty ∧ c1.toPlace.isEmpty ∧ c1.kind = .write then
      let ps := c1.pages.filterMap id
      let last := ps.foldl (fun a p => max a ((tget d.pair.mirrorPages p).getD 0)) 0
      let c2 := { c1 with pages := c1.pages.map (fun _ => none), released := true, lastMseq := last, credits := 0 }
      let d1 := { d with adm.cmds := tput d.adm.cmds tag c2 }
      settleCmd tag (resumePages (returnCredits c.cove c.credits c.space (releasePages ps d1)))
    else settleCmd tag { d with adm.cmds := tput d.adm.cmds tag c1 }

/-- Is a copied map-class block one that the directory no longer names in its old place: a checkpoint has written the page anew? -/
def staleCopy (d : Dev) (p : Placed) : Bool :=
  match p.mapClass, p.src with
  | some k, some x => tget d.str.dir (dirKey k p.grain) != some x
  | _, _ => false

/-- Commit a DURABLE stripe (R128): STRIPE record, then its runs, the entry COMMITTED, and the map changes. Without records
to hold them it stays DURABLE (R129). -/
def commitStripe (sh row : Nat) (d : Dev) : Dev :=
  match rowAt d sh row with
  | none => d
  | some s =>
    let live := s.placed.filter (fun p => !staleCopy d p)
    let runs := groupRuns d live
    if s.life ≠ .durable ∨ logFree d < runs.length + 1 then d
    else
      let sq := d.str.nextSeq
      let d1 := appendLog { type := 5, seq := 0, flags := s.geometry, start := s.gen,
                            phys := some { shoal := sh, row := row, slot := 0 } } d
      let d2 := runs.foldl (fun a r => appendLog (runRecord s r) a) d1
      let s1 := { s with life := .committed, mapSeq := sq }
      let d3 := writeJournal s1 d2
      let d4 := if s1.late = 0#32 then freeEntry s1 d3 else d3
      let d5 := live.foldl (fun a p => applyPlaced s p a) d4
      let d6 := s.placed.foldl (fun a p => match p.cmd with
        | some t => grainCommitted t p.grain a
        | none => a) d5
      tryFree sh row (sendMessage mgmtStation poolStation row 64 d6)

/-- Set a stripe DURABLE and commit it. -/
def durableStripe (s : Stripe) (d : Dev) : Dev := commitStripe s.shoal s.row (writeJournal { s with life := .durable } d)

/-- Complete a WRITING stripe by write-around (06 R175): at most PARITY - 1 undurable strips; LATE for those issued. -/
def writeAround (s : Stripe) (d : Dev) : Dev :=
  let u := undurable d s
  if s.life = .writing ∧ u.length ≤ (stripeGeom d s).parity - 1 then
    let late := u.filter (fun p => s.issued.getLsbD p)
    occur 6 5 late.length {} (durableStripe { s with late := s.late ||| posBits late } d)
  else d

/-- Do the conditions of write-around at PRESS hold (03 R84)? -/
def pressAround (d : Dev) : Bool := decide (2 ≤ d.pool.level) && (chartOf d).light.waAtPress == 1

/-- A stripe that comes to wait while PRESS lasts is written around (03 R84), a decision of the Lighthouse (14 R438). -/
def aroundNow (s : Stripe) (d : Dev) : Dev :=
  if s.life = .writing ∧ (undurable d s).length ≤ (stripeGeom d s).parity - 1 then
    logLight 4 5 false 0 0 0 1 (occupancy d) 0 0 (writeAround s d)
  else d

/-- Judge a WRITING stripe (R114, 06 R175): every strip durable; or only strips that were not issued are missing, within
PARITY - 1; or a strip write has been outstanding for WRITE_SOFT; or PRESS. -/
def judgeStripe (sh row : Nat) (d : Dev) : Dev :=
  match rowAt d sh row with
  | none => d
  | some s =>
    if s.life ≠ .writing then d
    else
      let u := undurable d s
      if u.isEmpty then durableStripe s d
      else if u.all (fun p => !s.issued.getLsbD p) then writeAround s d
      else if u.any (fun p => s.overdue.getLsbD p) then writeAround s d
      else if pressAround d then aroundNow s d
      else d

/-- At PRESS every stripe that waits on a strip write is written around (03 R84), a decision of the Lighthouse (14 R428, R438). -/
def aroundAll (d : Dev) : Dev :=
  if pressAround d then
    let waits := fun (x : Dev) => (x.str.rows.filter (fun e => e.2.life == .writing)).length
    let d1 := d.str.rows.foldl (fun a e => match rowAt a e.2.shoal e.2.row with
      | some s => writeAround s a
      | none => a) d
    let n := waits d - waits d1
    if n = 0 then d1 else logLight 4 5 false 0 0 0 n (occupancy d1) 0 0 d1
  else d

/-- Issue the strip writes of a SEALED stripe whose parity is complete (R114): its region marked on both keepers (R117), its
omitted positions' resync regions marked (06 R177), and no shelf-record write pending (13 R392). -/
def tryIssue (sh row : Nat) (d : Dev) : Dev :=
  match rowAt d sh row with
  | none => d
  | some s =>
    if s.life ≠ .sealed ∨ !s.parityDone ∨ d.pair.recordPending then d
    else if !(((shoalOf d sh).map (fun x => x.dirty.contains (dirtyRegion row))).getD false) then
      markRegion sh (dirtyRegion row) d
    else if d.shelf.labelWaits.contains (.issue sh row) then d
    else
      let um := unmarkedOmitted d s
      if um ≠ [] then
        writeLabels sh (markResync sh um (resyncRegion row) s.gen
          { d with shelf.labelWaits := d.shelf.labelWaits ++ [.issue sh row] })
      else
        let ps := (writtenPos (stripeGeom d s) row).filterMap (fun p => (writeBay d s p).map (fun b => (p, b)))
        let out := (writtenPos (stripeGeom d s) row).filter (fun p => (writeBay d s p).isNone)
        let s1 := { s with life := .writing, issued := posBits (ps.map (·.1)), omitted := posBits out }
        let d1 := writeJournal s1 d
        judgeStripe sh row (ps.foldl (fun a x => memberIssue x.2 (.writeStrip sh row x.1) a) d1)

/-- PARITY_JOB_DONE (R103, R114, 09 R302): the parity strips stand, and the strip writes may go; a discarded job is issued again. -/
def parityDone (sh row : Nat) (ok : Bool) (d : Dev) : Dev :=
  match rowAt d sh row with
  | some t => if ok ∧ t.life = .sealed then
      tryIssue sh row (setRow { t with parityDone := true, parity := parityStrips d t } (parityResult t d)) else d
  | none => d

/-- Try every SEALED stripe of a Shoal. -/
def issueAll (sh : Nat) (d : Dev) : Dev :=
  d.str.rows.foldl (fun a e => if e.2.shoal = sh then tryIssue sh e.2.row a else a) d

/-- The keepers' writes are durable (R117, R118, R139): the marks stand, and the strip writes that waited on them are issued. A keeper that
has received the whole bitmap lets marks be made again. -/
def keeperDone (sh : Nat) (d : Dev) : Dev :=
  match shoalOf d sh with
  | none => d
  | some st =>
    let d1 := keepersWritten sh d
    if d1.shelf.cmds.any (fun e => keeperOp sh e.2.op) ∨ d1.shelf.heldOps.any (fun e => keeperOp sh e.2) then d1
    else if st.keeperBehind ∧ st.marking ≠ [] then
      let d2 := modShoal sh (fun x => { x with keeperBehind := false }) d1
      writeKeepers sh (keepersOf d2 sh) d2
    else
      issueAll sh (modShoal sh (fun x =>
        { x with keeperBehind := false, dirty := x.dirty ++ x.marking.filter (fun k => !x.dirty.contains k), marking := []
                 clearing := [] }) d1)

/-- A strip is durable (R114): its LATE bit clears, and the entry is freed once none is left (06 R176). -/
def stripDurable (sh row pos : Nat) (d : Dev) : Dev :=
  match rowAt d sh row with
  | none => d
  | some s =>
    let s1 := { s with done := setBit s.done pos, late := clearBit s.late pos }
    let d1 := if s1.inJournal then writeJournal s1 d else setRow s1 d
    if s1.life = .committed then
      tryFree sh row (if s1.late = 0#32 ∧ s1.inJournal then freeEntry s1 d1 else d1)
    else judgeStripe sh row d1

/-- A strip write is complete (R114), or patrol's rewrite of a parity strip (06 R197). -/
def stripWriteDone (mcid : Nat) (d : Dev) : Dev :=
  match tget d.shelf.cmds mcid with
  | none => d
  | some c => match c.op with
    | .writeStrip sh row pos =>
      if c.phase = .queued then d
      else occur 6 2 131072 (memberAttr c.bay 0) (stripDurable sh row pos (memberEnd mcid d))
    | .parityWrite sh row _ =>
      if c.phase = .queued then d
      else tryFree sh row (occur 6 2 131072 (memberAttr c.bay 3) (memberEnd mcid d))
    | _ => d

/-! ## Checkpoints (R129) -/

/-- Map pages and stripe-table pages that records dirtied: (kind, Shoal, number) (R129). -/
def dirtyPages (d : Dev) (rs : List LogRec) : List (Nat × Nat × Nat) :=
  (rs.flatMap (fun r =>
    let n := max (nsGrain d r.nsid) 1
    let st := match r.phys with
      | some p => [(2, p.shoal, p.row / 512)]
      | none => []
    let mp := if r.nsid = 0 ∨ r.type = 5 ∨ r.type = 7 then []
      else
        let a := r.start / n
        (run (a / 512) ((a + max r.count 1 - 1) / 512 + 1 - a / 512)).map (fun i =>
          (0, nsShoal d r.nsid, ((tget d.host.nss r.nsid).map (·.pageBase)).getD 0 + i))
    st ++ mp)).eraseDups

/-- Contents of a map page: 512 entries of 8 bytes (R123). -/
def mapPageData (d : Dev) (page : Nat) : Nat :=
  (grainsOfPage d page).foldl (fun a e => a + entryNum (mapGet d e.1 e.2) * 2 ^ (64 * (e.2 % 512))) 0

/-- A stripe-table entry (R125). -/
def tableEntry (s : Stripe) : Nat :=
  (match s.life with
    | .committed => 2
    | .abandoned => 3
    | _ => 1) * 2 ^ 62 + s.geometry * 2 ^ 54 + (s.live % 1024) * 2 ^ 44 + s.gen % 2 ^ 40

/-- Contents of a stripe-table page: 512 entries. -/
def tablePageData (d : Dev) (sh page : Nat) : Nat :=
  d.str.rows.foldl (fun a e => if e.2.shoal = sh ∧ e.2.row / 512 = page then
    a + tableEntry e.2 * 2 ^ (64 * (e.2.row % 512)) else a) 0

/-- Contents of a directory segment (R124): an entry in the layout of R122 for each of its map pages. -/
def segmentData (d : Dev) (seg : Nat) : Nat :=
  d.str.dir.foldl (fun a e =>
    if e.1 / 2 ^ 64 = 0 ∧ e.1 % 2 ^ 64 / 524288 = seg then a + entryNum (.mapped e.2) * 2 ^ (64 * (e.1 % 524288)) else a) 0

/-- NSID of a map-class block (R123). -/
def mapClassNsid (kind : Nat) : Nat := 0xFFFFFFFE - kind

/-- LBA field of a map-class block (R123). -/
def mapClassLba (kind sh number : Nat) : Nat := if kind = 2 then sh * 2 ^ 62 + number else number

/-- Place a map-class block in the last stream of its Shoal (R123). -/
def putMapClass (kind sh lba asn data : Nat) (d : Dev) : Bool × Dev :=
  placeGrain sh (lastStream (curGeom d sh)) true 0
    { nsid := mapClassNsid kind, grain := lba, slot := 0, count := 1, asn := asn, mapClass := some kind }
    [{ asn := asn, nsid := mapClassNsid kind, lba := lba, guard := Config.guard64 data, data := data }] d

/-- Write one map page, directory segment or stripe-table page of a checkpoint as it stands (R123, R129); a directory segment stands as
one block (log entry 12). -/
def placeMapClass (gen : Nat) (x : Nat × Nat × Nat) (d : Dev) : Bool × Dev :=
  let (kind, sh, number) := x
  putMapClass kind sh (mapClassLba kind sh number) gen
    (if kind = 0 then mapPageData d number else if kind = 2 then tablePageData d sh number else segmentData d number) d

/-- Place the blocks that a checkpoint still has to write, as far as they go. -/
def placeTodo (gen : Nat) : List (Nat × Nat × Nat) → Dev → List (Nat × Nat × Nat) × Dev
  | [], d => ([], d)
  | x :: r, d => match placeMapClass gen x d with
    | (true, d1) => placeTodo gen r d1
    | (false, d1) => (x :: r, d1)

/-- Are a checkpoint's blocks all in COMMITTED stripes? -/
def ckptLanded (d : Dev) (gen : Nat) : Bool :=
  !d.str.rows.any (fun e => e.2.life != .committed && e.2.placed.any (fun p => p.mapClass.isSome && p.src.isNone && p.asn == gen))

/-- Carry a checkpoint on: place what is left, and after its pages have landed the directory segments that they changed
(R129 step 2). -/
def ckptAdvance (d : Dev) : Dev :=
  match d.str.ckpt with
  | none => d
  | some k =>
    let (left, d1) := placeTodo k.gen k.todo d
    if left = [] ∧ !k.segments ∧ ckptLanded d1 k.gen then
      let sh := (d1.str.shoals.head?.map (·.1)).getD 0
      let (left2, d2) := placeTodo k.gen (d1.str.segDirty.map (fun i => (1, sh, i))) { d1 with str.segDirty := [] }
      { d2 with str.ckpt := some { k with todo := left2, segments := true } }
    else { d1 with str.ckpt := some { k with todo := left } }

/-- Begin a checkpoint (R129): q is the SEQ of the last record. -/
def startCheckpoint (d : Dev) : Dev :=
  if d.str.ckpt.isSome ∨ d.str.shoals.isEmpty then d
  else
    let gen := d.str.ckptGen + 1
    let pages := (dirtyPages d d.str.log ++ d.str.tableDirty.map (fun x => (2, x))).eraseDups
    let cached := (pages.filter (fun p => p.1 == 0)).map (fun p => p.2.2)
    ckptAdvance (occur 5 6 1 {} { d with
      str.ckpt := some { q := d.str.nextSeq - 1, gen := gen, todo := pages, snap := d.str.map }
      str.cached := (d.str.cached ++ cached).eraseDups, str.tableDirty := [] })

/-- A checkpoint runs when MAPLOG is half full (R129). -/
def maybeCheckpoint (d : Dev) : Dev := if logSize d ≤ 2 * d.str.log.length then startCheckpoint d else d

/-- Regions whose mark a checkpoint clears (R119): every stripe sealed in the region is COMMITTED and covered. -/
def clearRegions (q sh : Nat) (d : Dev) : Dev :=
  let dirtyAfter := fun k => d.str.rows.any (fun e => e.2.shoal == sh && dirtyRegion e.2.row == k &&
    (e.2.life != .committed && e.2.life != .abandoned || decide (q < e.2.mapSeq)))
  modShoal sh (fun x =>
    let gone := x.dirty.filter (fun k => !dirtyAfter k)
    { x with dirty := x.dirty.filter dirtyAfter, clearing := x.clearing ++ gone }) d

/-- Mirror both copies of the MAPLOG header (R126, 13 R404): generation, tail and Shoal generations. -/
def mirrorHeader (d : Dev) : Dev :=
  let unit := d.str.ckptGen + d.str.tailSeq * 2 ^ 64
    + lsum d.str.ckptShoalGen (fun e => if e.1 < 4 then e.2 % 2 ^ 40 * 2 ^ (128 + 64 * e.1) else 0)
  let start := regionStart d.pool.layout .maplog
  mirrorRegion (start + 4) 0 [unit] (mirrorRegion start 0 [unit] d)

/-- The MAPLOG header is written (R129 step 3): generation one higher, tail q + 1, and records up to q free. Nothing is
written before the checkpoint's blocks have landed. -/
def ckptComplete (d : Dev) : Dev :=
  match (ckptAdvance d).str.ckpt with
  | none => d
  | some k =>
    let d1 := ckptAdvance d
    if k.todo ≠ [] ∨ !k.segments ∨ !ckptLanded d1 k.gen then d1
    else
      let d2 := { d1 with
        str.log := d1.str.log.filter (fun r => decide (k.q < r.seq)), str.tailSeq := k.q + 1, str.ckptGen := k.gen
        str.ckptMap := k.snap, str.ckpt := none
        str.ckptShoalGen := d1.str.shoals.map (fun e => (e.1, e.2.gen)) }
      let d3 := mirrorHeader d2
      d3.str.shoals.foldl (fun a e => clearRegions k.q e.1 a) d3

/-- CHECKPOINT_TIMER (R129). -/
def execCheckpointTimer (s : State) : Result := onDev s startCheckpoint

/-- CHECKPOINT_COMPLETE (R129); another starts at once when MAPLOG is half full again. -/
def execCheckpointComplete (s : State) : Result := onDev s (fun d => maybeCheckpoint (ckptComplete d))

/-- Stripes held in DURABLE commit once records are free (R129). -/
def commitRetry (d : Dev) : Dev := d.str.rows.foldl (fun a e => commitStripe e.2.shoal e.2.row a) d

/-- BITMAP_CLEAR_TIMER (R119): cleared bits are written to the keepers. -/
def execBitmapClearTimer (shoal : Nat) (s : State) : Result :=
  onDev s (fun d => match shoalOf d shoal with
    | some st => if st.clearing.isEmpty then d
        else writeKeepers shoal (keepersOf d shoal) (modShoal shoal (fun x => { x with clearing := [] }) d)
    | none => d)

/-! ## Assembly of commands and fills (R110, R113, 05 R154) -/

/-- Grains that a list of ranges touches. -/
def grainsTouched (rs : List Range) (n : Nat) : List Nat :=
  (rs.flatMap (fun r => if r.len = 0 then [] else
    run (r.lba / max n 1) ((r.lba + r.len - 1) / max n 1 + 1 - r.lba / max n 1))).eraseDups

/-- Grains that a list of ranges covers wholly. -/
def grainsCovered (rs : List Range) (n : Nat) : List Nat := (grainsTouched rs n).filter (fun g => coversGrain rs g n)

/-- Is every page of a command STAGED here (03 R86), and mirrored where REQUIRE_PARTNER asks for it (13 R412)? -/
def allStaged (d : Dev) (c : Cmd) : Bool :=
  c.pages.all (fun o => match o with
    | some p => (tget d.pool.pages p).any (fun g => g.life == .staged || g.life == .sealed) &&
        ((chartOf d).pair.requirePartner == 0 || pageMirrored d p)
    | none => false)

/-- The block that a write stores at an LBA. -/
def ownBlock (d : Dev) (tag : Nat) (c : Cmd) (lba : Nat) : Option Block := cmdBlock d tag c lba

/-- Options that are all present. -/
def allSome {α : Type} : List (Option α) → Option (List α)
  | [] => some []
  | none :: _ => none
  | some a :: r => (allSome r).map (fun l => a :: l)

/-- Place one grain of a write whose blocks are ready. -/
def placeOwn (tag : Nat) (c : Cmd) (stream grain : Nat) (bs : List Block) (d : Dev) : Bool × Dev :=
  match placeGrain (nsShoal d c.nsid) stream false c.cove
    { nsid := c.nsid, grain := grain, slot := 0, count := bs.length, asn := c.asn, cmd := some tag } bs d with
  | (true, d1) => (true, { d1 with adm.cmds := tmod d1.adm.cmds tag (fun x =>
      { x with toPlace := x.toPlace.filter (fun g => g != grain), uncommitted := x.uncommitted ++ [grain] }) })
  | (false, d1) => (false, d1)

/-- Place the wholly covered grains of a command (R110), as far as stripes take them. -/
def placeWhole (tag stream n : Nat) : List Nat → Dev → Dev
  | [], d => d
  | g :: r, d => match tget d.adm.cmds tag with
    | none => d
    | some c =>
      match allSome ((run (g * n) n).map (ownBlock d tag c)) with
      | none => d
      | some bs => match placeOwn tag c stream g bs d with
        | (true, d1) => placeWhole tag stream n r d1
        | (false, d1) => d1

/-- ASSEMBLE_COMMAND (R110): a command whose pages are all STAGED is put into a stream of its namespace's Shoal. -/
def assemble (tag : Nat) (d : Dev) : Dev :=
  match tget d.adm.cmds tag with
  | none => d
  | some c =>
    if c.kind ≠ .write ∨ c.absent ∨ c.pages.isEmpty ∨ !allStaged d c then d
    else
      let n := max (nsGrain d c.nsid) 1
      let g := curGeom d (nsShoal d c.nsid)
      let st := if g.streams ≤ 1 then 0 else min c.stream (g.streams - 2)
      let d1 := { d with adm.cmds := tput d.adm.cmds tag { c with assembled := true, stream := st } }
      placeWhole tag st n (c.toPlace.filter (fun x => coversGrain c.ranges x n)) d1

/-- ASSEMBLE_COMMAND (R110). -/
def execAssembleCommand (tag : Nat) (s : State) : Result := onDev s (assemble tag)

/-- Can a fill take a block: would the read it stands for not wait (R113)? -/
def fillReady (d : Dev) (nsid lba asn : Nat) : Bool :=
  match resolve d nsid lba asn with
  | .wait => false
  | .fetch _ => false
  | _ => true

/-- The block errors of one row. -/
def badOf (row : Nat) (bad : List (Nat × Nat × Nat)) : List (Nat × Nat) :=
  (bad.filter (fun x => x.1 == row)).map (·.2)

/-- A fill block (R113, 06 R193): a copy with its own metadata, or an encrypted zero block with ASN 0. A block that cannot be read or
reconstructed is lost, and its grain filled with zeros (06 R190). -/
def fillBlock (bad : List (Nat × Nat × Nat)) (nsid lba asn : Nat) (d : Dev) : Block × Dev :=
  match resolve d nsid lba asn with
  | .data b => (b, d)
  | .stored p =>
    let b := badOf p.row bad
    let d1 := noteErrors 0 p.shoal p.row (badMet d p b) (readableAt d p b) d
    if readableAt d p b then blockAt p nsid lba d1
    else
      let d2 := loseAt nsid lba p b d1
      (zeroBlock d2 nsid lba 0, d2)
  | _ => (zeroBlock d nsid lba 0, d)

/-- The blocks of a grain: its own by `own`, the others as fill blocks, once every one can be had. -/
def fillBlocks (bad : List (Nat × Nat × Nat)) (nsid asn : Nat) (own : Dev → Nat → Option (Option Block)) :
    List Nat → Dev → Option (List Block) × Dev
  | [], d => (some [], d)
  | l :: r, d =>
    let (ob, d1) := match own d l with
      | some o => (o, d)
      | none => if fillReady d nsid l asn then (let (b, a) := fillBlock bad nsid l asn d
                                               (some b, a)) else (none, d)
    match ob with
    | none => (none, d1)
    | some b => match fillBlocks bad nsid asn own r d1 with
      | (some bs, d2) => (some (b :: bs), d2)
      | (none, d2) => (none, d2)

/-- Ask for the map pages that a fill needs (R124). -/
def fillFetch (nsid asn : Nat) (lbas : List Nat) (d : Dev) : Dev :=
  lbas.foldl (fun a l => match resolve a nsid l asn with
    | .fetch p => fetchPage p a
    | _ => a) d

/-- Fill and place the partly written grains of a command (R113, 05 R154), each once its lower writes have settled. -/
def fillGrains (tag n : Nat) (bad : List (Nat × Nat × Nat)) : List Nat → Dev → Dev
  | [], d => d
  | g :: r, d => match tget d.adm.cmds tag with
    | none => d
    | some c =>
      let lbas := run (g * n) n
      let rest := lbas.filter (fun l => !coversBlock c l)
      let d0 := fillFetch c.nsid c.asn rest d
      if !rest.all (fun l => fillReady d0 c.nsid l c.asn) then fillGrains tag n bad r d0
      else match fillBlocks bad c.nsid c.asn (fun a l => if coversBlock c l then some (ownBlock a tag c l) else none) lbas d0 with
        | (none, d1) => fillGrains tag n bad r d1
        | (some bs, d1) => match placeOwn tag c c.stream g bs d1 with
          | (true, d2) => fillGrains tag n bad r (applyDeferred c.nsid g d2)
          | (false, d2) => d2

/-- FILL_RESOLVE (05 R154): `bad` are the blocks, by row, position and offset, that the fill's member reads could not read or that
failed a check of R108. -/
def fillResolve (tag : Nat) (bad : List (Nat × Nat × Nat)) (d : Dev) : Dev :=
  match tget d.adm.cmds tag with
  | none => d
  | some c =>
    if !c.assembled ∨ c.absent then d
    else
      let n := max (nsGrain d c.nsid) 1
      fillGrains tag n bad (c.toPlace.filter (fun x => !coversGrain c.ranges x n)) d

/-- ZERO_MASK_REWRITE (R132): a partly zeroed grain rewritten at ASN z, the masked blocks as zero blocks carrying z, once
the fill's reads can resolve. -/
def zeroRewrite (nsid grain : Nat) (bad : List (Nat × Nat × Nat)) (d : Dev) : Dev :=
  match d.str.overlays.find? (fun o => o.nsid == nsid && o.grain == grain) with
  | none => d
  | some o =>
    let n := max (nsGrain d nsid) 1
    let sh := nsShoal d nsid
    let queued := d.str.rows.any (fun e => e.2.life != .committed &&
      e.2.placed.any (fun p => p.nsid == nsid && p.grain == grain && p.asn == o.asn && p.src.isNone))
    if queued then d
    else
      let lbas := run (grain * n) n
      let rest := lbas.filter (fun l => !bit o.mask (l % n))
      let d0 := fillFetch nsid o.asn rest d
      if !rest.all (fun l => fillReady d0 nsid l o.asn) then d0
      else match fillBlocks bad nsid o.asn (fun a l => if bit o.mask (l % n) then some (some (zeroBlock a nsid l o.asn)) else none)
          lbas d0 with
        | (none, d1) => d1
        | (some bs, d1) =>
          (placeGrain sh 0 false 0 { nsid := nsid, grain := grain, slot := 0, count := n, asn := o.asn } bs d1).2

/-! ## Ebb (R134 to R136) and the rewriting of a row (06 R197) -/

/-- Grains whose entries name slots of a row, with their places. -/
def liveGrains (d : Dev) (sh row : Nat) : List (Nat × Nat × Place) :=
  d.str.map.filterMap (fun e => match e.2 with
    | .mapped p => if p.shoal = sh ∧ p.row = row then some (e.1 / 2 ^ 40, e.1 % 2 ^ 40, p) else none
    | _ => none)

/-- Map-class blocks that the directory names in a row: (kind, number, place). -/
def liveMapClass (d : Dev) (sh row : Nat) : List (Nat × Nat × Place) :=
  d.str.dir.filterMap (fun e => if e.2.shoal = sh ∧ e.2.row = row then some (e.1 / 2 ^ 64, e.1 % 2 ^ 64, e.2) else none)

/-- The cells of blocks that Ebb, a repair or a rebuild copies, from the drive complex to the assembly buffer (09 R296). -/
def copyCells (p : Place) (n : Nat) (d : Dev) : Dev :=
  match (rowAt d p.shoal p.row).bind (fun s => stripBay d s (slotPos (stripeGeom d s) s.row p.slot).1) with
  | some bay => upkeepUnit (driveStation bay) [hbmStation p.row] (bay * 65536 + p.row % 65536) (p.row * 32 + p.slot) (4096 * n) d
  | none => d

/-- Copy one live grain unchanged into a stream (R136) while the blocks `bad` of its row cannot be read; a grain that cannot be read is
lost (06 R190). The flag says that no stripe was lacking. -/
def copyGrain (cls sh stream : Nat) (bad : List (Nat × Nat)) (x : Nat × Nat × Place) (d : Dev) : Bool × Dev :=
  let (nsid, grain, p) := x
  let n := max (nsGrain d nsid) 1
  if mapGet d nsid grain ≠ .mapped p then (true, d)
  else
    let at_ := fun (i : Nat) => { p with slot := p.slot + i }
    let met := ((List.range n).flatMap (fun i => badMet d (at_ i) bad)).eraseDups
    let d0 := if cls = 3 then d else noteErrors cls p.shoal p.row met false d
    if (List.range n).any (fun i => slotListed d0 (at_ i)) then (true, resolveSlot nsid grain p d0)
    else match (List.range n).find? (fun i => !readableAt d0 (at_ i) bad) with
    | some i => (true, loseAt nsid (grain * n + i) (at_ i) bad d0)
    | none =>
      let (bs, d1) := (List.range n).foldl (fun (acc : List Block × Dev) i =>
        let (b, a) := blockAt (at_ i) nsid (grain * n + i) acc.2
        (acc.1 ++ [b], a)) ([], d0)
      let asn := bs.foldl (fun a b => max a b.asn) 0
      match placeGrain sh stream true 0 { nsid := nsid, grain := grain, slot := 0, count := n, asn := asn, src := some p } bs d1 with
      | (true, d2) => (true, occur 5 7 (n * 4096) {} (copyCells p n d2))
      | (false, d2) => (false, d2)

/-- Copy grains until a stripe takes no more. -/
def copyGrains (cls sh stream : Nat) (bad : List (Nat × Nat)) : List (Nat × Nat × Place) → Dev → Dev
  | [], d => d
  | x :: r, d => match copyGrain cls sh stream bad x d with
    | (true, d1) => copyGrains cls sh stream bad r d1
    | (false, d1) => d1

/-- Is a place's copy under way in a stripe that has not committed? -/
def copyPending (d : Dev) (p : Place) : Bool :=
  d.str.rows.any (fun e => e.2.life != .committed && e.2.placed.any (fun q => q.src == some p))

/-- Copy one map-class block unchanged (R136): one that cannot be read stays, and its loss shows when it is next fetched (R124). -/
def copyMapClass (sh stream : Nat) (bad : List (Nat × Nat)) (x : Nat × Nat × Place) (d : Dev) : Dev :=
  let (kind, number, p) := x
  if !readableAt d p bad then d
  else
    let lba := mapClassLba kind p.shoal (if kind = 2 then number % 2 ^ 62 else number)
    let (b, d1) := blockAt p (mapClassNsid kind) lba d
    match placeGrain sh stream true 0
      { nsid := mapClassNsid kind, grain := lba, slot := 0, count := 1, asn := b.asn, mapClass := some kind, src := some p } [b] d1 with
    | (true, d2) => occur 5 7 4096 {} (copyCells p 1 d2)
    | (false, d2) => d2

/-- Rewrite a row's live grains and map-class blocks unchanged into a stream (R136, 06 R197). -/
def rewriteRow (cls sh row stream : Nat) (bad : List (Nat × Nat)) (d : Dev) : Dev :=
  let d1 := copyGrains cls sh stream bad ((liveGrains d sh row).filter (fun x => !copyPending d x.2.2)) d
  ((liveMapClass d sh row).filter (fun x => !copyPending d x.2.2)).foldl (fun a x => copyMapClass sh (lastStream (curGeom d sh)) bad x a) d1

/-- Repair a row (06 R197): its live grains into a new stripe by MOVE; the repair waits while PRESS lasts. -/
def repairRow (sh row : Nat) (bad : List (Nat × Nat)) (d : Dev) : Dev :=
  let k := rkey sh row
  if 2 ≤ d.pool.level then
    if d.shelf.repairs.contains k then d else { d with shelf.repairs := d.shelf.repairs ++ [k] }
  else rewriteRow 3 sh row (lastStream (curGeom d sh)) bad { d with shelf.repairs := d.shelf.repairs.filter (fun x => x != k) }

/-- Repairs that wait (06 R197), from PRESS or from the block errors of a step. -/
def resumeRepairs (d : Dev) : Dev :=
  if 2 ≤ d.pool.level then d else d.shelf.repairs.foldl (fun a k => repairRow (k / 2 ^ 31) (k % 2 ^ 31) [] a) d

/-- Has a row an unresolved slot (06 R190), in the table or carried by the scan (06 R195)? -/
def hasLostSlot (d : Dev) (sh row : Nat) : Bool :=
  d.shelf.lostSlots.any (fun x => x.1.shoal == sh && x.1.row == row) || d.shelf.scanOnly.any (fun x => x.1.shoal == sh && x.1.row == row)

/-- LIVE rows that Ebb may take (R134): COMMITTED, LATE 0, LIVE not 0, no unresolved slot. -/
def ebbRows (d : Dev) (sh : Nat) : List Stripe :=
  (d.str.rows.map (·.2)).filter (fun s => s.shoal == sh && s.life == .committed && s.late == 0#32 && s.live != 0 &&
    !hasLostSlot d sh s.row)

/-- The rows from a cursor on; all of them where it has passed the last (R134). -/
def fromCursor (cur : Nat) (rs : List Stripe) : List Stripe :=
  let later := rs.filter (fun s => decide (cur ≤ s.row))
  if later.isEmpty then rs else later

/-- Does a stripe's geometry use a bay marked EVACUATING (R134)? -/
def usesEvacuating (d : Dev) (s : Stripe) : Bool :=
  (memberBays (stripeGeom d s)).any (fun b => (evacuating d s.shoal).any (fun e => e.1 == 32 + b))

/-- The rows that the first applicable step of R134 offers; steps 1 and 3 resume from their cursors. While evacuation pauses (R141) step 3
passes over its rows. -/
def ebbChoice (d : Dev) (sh : Nat) : List Stripe :=
  let rs := ebbRows d sh
  let g := curGeom d sh
  let leaves := fun (s : Stripe) => usesEvacuating d s
  let paused := ((shoalOf d sh).map (·.evacPaused)).getD false
  let cursor := fun (f : ShoalSt → Nat) => ((shoalOf d sh).map f).getD 0
  let s1 := if paused then [] else
    fromCursor (cursor (·.cursor1)) (rs.filter leaves)
  let dead := rs.filter (fun s => decide (s.live < slotCount (stripeGeom d s)))
  let least := dead.filter (fun s => dead.all (fun t =>
    decide (s.live * slotCount (stripeGeom d t) ≤ t.live * slotCount (stripeGeom d s))))
  let s2 := if belowTwice d sh then least else []
  let s3 := fromCursor (cursor (·.cursor3)) (rs.filter (fun s => s.geometry != g.geometryId && !(paused && leaves s)))
  let s4 := rs.filter (fun s => decide (slotCount (stripeGeom d s) < 2 * (slotCount (stripeGeom d s) - s.live)))
  if s1 ≠ [] then s1 else if s2 ≠ [] then s2 else if s3 ≠ [] then s3 else s4

/-- Pause or resume evacuation by the free fraction (R141). -/
def judgeEvacuation (sh : Nat) (d : Dev) : Dev :=
  match shoalOf d sh with
  | none => d
  | some st =>
    let busy := !(evacuating d sh).isEmpty
    if busy && !aboveReserve d sh && !st.evacPaused then
      logEvent 3 3 1 (payload sh 0 0 0) (modShoal sh (fun x => { x with evacPaused := true }) d)
    else if st.evacPaused && aboveReserve d sh then modShoal sh (fun x => { x with evacPaused := false }) d
    else d

/-- EBB_RELOCATE (R134, R136): the chosen row's live grains are copied unchanged into a stream; `bad` are the blocks of the row, by
position and offset, that its reads could not read or that failed a check of R108. Ebb is paused during PRESS (03 R84), and the
cursors of steps 1 and 3 follow it. -/
def ebbRelocate (sh row : Nat) (cold : Bool) (bad : List (Nat × Nat)) (d0 : Dev) : Dev :=
  let d := judgeEvacuation sh d0
  if 2 ≤ d.pool.level ∨ d.host.power = 3 ∨ !((ebbChoice d sh).any (fun s => s.row == row)) then d
  else
    let g := curGeom d sh
    let stream := if cold then lastStream g else 0
    let d1 := rewriteRow 2 sh row stream bad d
    let d2 := match rowAt d sh row with
      | some s =>
        mirrorAdmin 38 sh 1 (modShoal sh (fun x =>
          if usesEvacuating d s ∧ !x.evacPaused then { x with cursor1 := row + 1 }
          else if s.geometry ≠ g.geometryId then { x with cursor3 := row + 1 } else x) d1)
      | none => d1
    resumeRepairs { d2 with shelf.repairs := d2.shelf.repairs.filter (fun k => k != rkey sh row) }

/-- Do Ebb, rebuild, resync and patrol stand still: on a side that does not write the members (13 R391), and from the pause of a
role swap to its end (13 R415)? -/
def housekeepingPaused (d : Dev) : Bool :=
  !(d.pair.role == .active || d.pair.role == .solo) || (d.pair.swap != .none && d.pair.swap != .selftest)

/-- A piece of housekeeping, unless it stands still. -/
def houseWork (f : Dev → Dev) (d : Dev) : Dev := if housekeepingPaused d then d else f d

end Sys2Proof.Machine
end

