-- ==== Sys2Proof/Machine/Reservations.lean ====
section
/-! DEFINITION. Reservations toward hosts (07 R210, 13 R395): what Register, Acquire, Release and Report do follows the NVM
Express Base Specification (log entry 17). -/

namespace Sys2Proof.Machine

/-- The reservation record of a namespace. -/
def resvOf (d : Dev) (nsid : Nat) : ResvRecord := (tget d.host.resv nsid).getD { nsid := nsid }

/-- Host Identifier of a controller's association. -/
def hostOf (d : Dev) (cntlid : Nat) : Nat := ((ctrlOf d cntlid).map (·.hostid)).getD 0

/-- Registrant index of a host. -/
def registrant (r : ResvRecord) (host : Nat) : Option Nat := r.registrants.findIdx? (fun g => g.hostid == host)

/-- Is a host a holder: the one that acquired, or with the All Registrants types (5 and 6) any registrant? -/
def holds (r : ResvRecord) (host : Nat) : Bool :=
  r.rtype != 0 && (match registrant r host with
    | none => false
    | some i => decide (5 ≤ r.rtype) || r.holder == some i)

/-- Does an I/O command of a host conflict with the reservation: a read against Exclusive Access, a write against either
kind? -/
def resvConflict (r : ResvRecord) (host : Nat) (reads : Bool) : Bool :=
  let member := (registrant r host).isSome
  if holds r host then false
  else match r.rtype with
    | 0 => false
    | 1 => !reads
    | 2 => true
    | 3 => !reads && !member
    | 4 => !member
    | 5 => !reads && !member
    | _ => !member

/-- Remove the registrants that a test names, keeping the holder index right; a reservation whose holder goes ends, and so
does an All Registrants one with its last registrant. -/
def dropRegistrants (f : Registrant → Bool) (r : ResvRecord) : ResvRecord :=
  let left := r.registrants.filter (fun g => !f g)
  let held := r.holder.bind (fun i => r.registrants[i]?)
  let h := match held with
    | some g => if f g then none else left.findIdx? (fun x => x.hostid == g.hostid)
    | none => none
  let ended := if 5 ≤ r.rtype then left.isEmpty else r.rtype != 0 && h.isNone
  { r with registrants := left, holder := h, rtype := if ended then 0 else r.rtype }

/-- What a reservation command does: its status, the record after it, and the notices it posts, each with the hosts that
take it (1 registration preempted, 2 reservation released, 3 reservation preempted). -/
structure ResvOutcome where
  st : Status
  rec_ : ResvRecord
  notices : List (Nat × List Nat) := []

/-- Hosts of the registrants, one excepted. -/
def otherHosts (r : ResvRecord) (host : Nat) : List Nat := (r.registrants.map (·.hostid)).filter (fun h => h != host)

/-- Reservation Register: register, unregister or replace a key; CPTPL 2 clears and 3 sets persistence. -/
def resvRegister (r : ResvRecord) (host cove : Nat) (a : ResvArgs) : ResvOutcome :=
  let p := if a.cptpl = 2 then { r with ptpl := false } else if a.cptpl = 3 then { r with ptpl := true } else r
  let keyOk := fun (i : Nat) => a.ignoreKey || ((r.registrants[i]?).map (·.key)) == some a.currentKey
  match a.action, registrant r host with
  | 0, some i => if ((r.registrants[i]?).map (·.key)) = some a.newKey then ⟨ok, p, []⟩ else ⟨gen 0x83, r, []⟩
  | 0, none =>
    if 126 ≤ r.registrants.length then ⟨gen 0x81, r, []⟩
    else ⟨ok, { p with registrants := p.registrants ++ [{ hostid := host, key := a.newKey, cove := cove }] }, []⟩
  | 1, some i =>
    if keyOk i then
      let q := dropRegistrants (fun g => g.hostid == host) p
      ⟨ok, q, if r.rtype ≠ 0 ∧ q.rtype = 0 ∧ (r.rtype = 3 ∨ r.rtype = 4) then [(2, otherHosts r host)] else []⟩
    else ⟨gen 0x83, r, []⟩
  | 2, some i =>
    if keyOk i then ⟨ok, { p with registrants := modNth p.registrants i (fun g => { g with key := a.newKey }) }, []⟩
    else ⟨gen 0x83, r, []⟩
  | 1, none => ⟨gen 0x83, r, []⟩
  | 2, none => ⟨gen 0x83, r, []⟩
  | _, _ => ⟨gen 0x02, r, []⟩

/-- Reservation Acquire: acquire, preempt, or preempt and abort. A command that passed the assignment step earlier runs on
(R210), so the abort ends none. -/
def resvAcquire (r : ResvRecord) (host : Nat) (a : ResvArgs) : ResvOutcome :=
  match registrant r host with
  | none => ⟨gen 0x83, r, []⟩
  | some i =>
    if ((r.registrants[i]?).map (·.key)) ≠ some a.currentKey then ⟨gen 0x83, r, []⟩
    else if a.rtype = 0 ∨ 6 < a.rtype then ⟨gen 0x02, r, []⟩
    else if a.action = 0 then
      if r.rtype = 0 then ⟨ok, { r with rtype := a.rtype, holder := some i }, []⟩
      else if holds r host ∧ r.rtype = a.rtype then ⟨ok, r, []⟩ else ⟨gen 0x83, r, []⟩
    else if a.action = 1 ∨ a.action = 2 then
      let mine := fun (g : Registrant) => g.hostid == host
      let hit := fun (g : Registrant) => g.key == a.newKey && !mine g
      let holderKey := (r.holder.bind (fun j => r.registrants[j]?)).map (·.key)
      let take := fun (f : Registrant → Bool) =>
        let q := dropRegistrants f { r with rtype := 0, holder := none }
        { q with rtype := a.rtype, holder := registrant q host }
      let out := fun (f : Registrant → Bool) => (r.registrants.filter f).map (·.hostid)
      if 5 ≤ r.rtype ∧ a.newKey = 0 then
        ⟨ok, take (fun g => !mine g), [(1, out (fun g => !mine g))]⟩
      else if r.rtype ≠ 0 ∧ r.rtype < 5 ∧ holderKey = some a.newKey then
        let left := (otherHosts r host).filter (fun h => !(out hit).contains h)
        ⟨ok, take hit, [(1, out hit)] ++ (if r.rtype ≠ a.rtype then [(2, left)] else [])⟩
      else if a.newKey = 0 then ⟨gen 0x02, r, []⟩
      else if r.registrants.any (fun g => g.key == a.newKey) then ⟨ok, dropRegistrants hit r, [(1, out hit)]⟩
      else ⟨gen 0x83, r, []⟩
    else ⟨gen 0x02, r, []⟩

/-- Reservation Release: release or clear. -/
def resvRelease (r : ResvRecord) (host : Nat) (a : ResvArgs) : ResvOutcome :=
  match registrant r host with
  | none => ⟨gen 0x83, r, []⟩
  | some i =>
    if ((r.registrants[i]?).map (·.key)) ≠ some a.currentKey then ⟨gen 0x83, r, []⟩
    else if a.action = 0 then
      if !holds r host then ⟨ok, r, []⟩
      else if r.rtype ≠ a.rtype then ⟨gen 0x02, r, []⟩
      else ⟨ok, { r with rtype := 0, holder := none }, if 3 ≤ r.rtype then [(2, otherHosts r host)] else []⟩
    else if a.action = 1 then
      ⟨ok, { r with rtype := 0, holder := none, registrants := [] }, [(3, otherHosts r host)]⟩
    else ⟨gen 0x02, r, []⟩

/-- Reservation status data with 128-bit host identifiers, as Report returns it. -/
def resvReport (d : Dev) (r : ResvRecord) : List Byte :=
  let head := leBytes r.gen 4 ++ leBytes r.rtype 1 ++ leBytes r.registrants.length 2 ++ leBytes 0 2 ++ leBytes (b2n r.ptpl) 1
    ++ leBytes 0 54
  let ctl := fun (h : Nat) => ((d.host.ctrls.find? (fun e => e.2.hostid == h && !e.2.ended)).map (·.1)).getD 0xFFFF
  head ++ (r.registrants.map (fun g => leBytes (ctl g.hostid) 2 ++ leBytes (b2n (holds r g.hostid)) 1 ++ leBytes 0 5
    ++ leBytes g.key 8 ++ leBytes g.hostid 16 ++ leBytes 0 32)).flatten

/-- Post a reservation notice to the controllers of hosts: an entry of log 80h and its asynchronous event. -/
def postNotice (kind nsid : Nat) (hosts : List Nat) (d : Dev) : Dev :=
  (d.host.ctrls.filter (fun e => hosts.contains e.2.hostid && !e.2.ended)).foldl (fun a e =>
    postAsync e.1 { type := 6, info := 0, log := 0x80 }
      (modCtrl e.1 (fun k => { k with resvNotices := k.resvNotices ++ [(kind, nsid)], resvCount := k.resvCount + 1 }) a)) d

/-- Store a changed record (13 R395, R404): one higher GEN, mirrored, and written to the keepers of the namespace's Shoal, then to the
other members. -/
def storeResv (r : ResvRecord) (d : Dev) : Dev :=
  let q := { r with gen := r.gen + 1 }
  let d1 := mirrorConfig 4 (resvBytes q) { d with host.resv := tput d.host.resv r.nsid q }
  let ks := keepersOf d1 (nsShoal d1 r.nsid)
  (ks ++ (configBays d1).filter (fun b => !ks.contains b)).foldl (fun a b => memberIssue b (.recordWrite (resvLba r.nsid) (resvBytes q)) a) d1

/-- Run a reservation command at the assignment step (R210). A command that changed the record completes when it is durable
(13 R395); any other completes at once. -/
def runResv (c q cid nsid : Nat) (op : IoOp) (a : ResvArgs) (d : Dev) : Dev :=
  let r := resvOf d nsid
  let x : IoEnd := { cntlid := c, sqid := q, cid := cid, nsid := nsid }
  if op = .resvReport then decideIo x ok false (emit (.adminData c cid (resvReport d r)) d)
  else
    let o := if op = .resvRegister then resvRegister r (hostOf d c) (ctrlCove d c) a
      else if op = .resvAcquire then resvAcquire r (hostOf d c) a else resvRelease r (hostOf d c) a
    if o.rec_ = r then decideIo x o.st false d
    else
      let d1 := o.notices.foldl (fun b n => postNotice n.1 nsid n.2 b) (storeResv o.rec_ d)
      { d1 with host.waits := d1.host.waits ++ [{ cntlid := c, cid := cid, kind := 10, subject := nsid, arg := q, mseq := if mirrors d then d1.pair.txMseq else 0 }] }

/-- Commands whose reservation record stands on the members and is covered by a mirror acknowledgement complete (13 R395); without a
partner no acknowledgement is due. -/
def settleResv (d : Dev) : Dev :=
  let mine := fun (w : AdminWait) => w.kind == 10 && w.stands && (!mirrors d || decide (w.mseq ≤ d.pair.ackMseq))
  (d.host.waits.filter mine).foldl (fun a w =>
    decideIo { cntlid := w.cntlid, sqid := w.arg, cid := w.cid, nsid := w.subject } ok false a)
    { d with host.waits := d.host.waits.filter (fun w => !mine w) }

/-- RESERVATION_RECORD_DURABLE (13 R395): a namespace's record stands on both keepers. -/
def resvDurable (nsid : Nat) (d : Dev) : Dev :=
  settleResv (recordsWritten (fun _ c => writesLba (fun l => l == resvLba nsid) c && (keepersOf d (nsShoal d nsid)).contains c.bay)
      { d with host.waits := d.host.waits.map (fun w => if w.kind = 10 ∧ w.subject = nsid then { w with stands := true } else w) })

/-- RESERVATION_RECORD_DURABLE (13 R395). -/
def execReservationRecordDurable (nsid : Nat) (s : State) : Result := onDev s (resvDurable nsid)

end Sys2Proof.Machine
end

