-- ==== Sys2Proof/Machine/Heat.lean ====
section
/-! DEFINITION. The Lighthouse's heat table (14 R432) and the stream of a host write (14 R433). -/

namespace Sys2Proof.Machine

/-- Key of a 1 MiB range in the heat table. -/
def heatKey (nsid range : Nat) : Nat := nsid * 2 ^ 32 + range

/-- The bucket of a range (R432); the spec leaves the hash open. -/
def heatBucket (key : Nat) : Nat := Config.heatHash (key / 2 ^ 32) (key % 2 ^ 32) % 2 ^ 21

/-- Read heat of an entry: its four read buckets. -/
def entryReads (h : Heat) : Nat := lsum h.reads id

/-- Write heat of an entry: its four 15 min write buckets. -/
def entryWrites (h : Heat) : Nat := lsum h.writes15m id

/-- Read heat of a range; 0 with no entry. -/
def readHeat (d : Dev) (nsid range : Nat) : Nat := ((tget d.light.heat (heatKey nsid range)).map entryReads).getD 0

/-- Write heat of a range; 0 with no entry. -/
def writeHeat (d : Dev) (nsid range : Nat) : Nat := ((tget d.light.heat (heatKey nsid range)).map entryWrites).getD 0

/-- The entry of least heat in a list. -/
def coldest : List (Nat × Heat) → Option (Nat × Heat)
  | [] => none
  | e :: r => match coldest r with
    | none => some e
    | some f => if entryReads e.2 + entryWrites e.2 ≤ entryReads f.2 + entryWrites f.2 then some e else some f

/-- Count an access to a range (R432): a range without an entry takes the place of the coldest of a full bucket. -/
def touchHeat (write : Bool) (nsid range : Nat) (d : Dev) : Dev :=
  let k := heatKey nsid range
  let bump := fun (h : Heat) =>
    if write then { h with writes15s := modNth h.writes15s 0 (· + 1), writes15m := modNth h.writes15m 0 (· + 1) }
    else { h with reads := modNth h.reads 0 (· + 1) }
  match tget d.light.heat k with
  | some h => { d with light.heat := tput d.light.heat k (bump h) }
  | none =>
    let mates := d.light.heat.filter (fun e => heatBucket e.1 == heatBucket k)
    let t := if mates.length < 8 then d.light.heat else match coldest mates with
      | some e => terase d.light.heat e.1
      | none => d.light.heat
    { d with light.heat := tput t k (bump {}) }

/-- The 1 MiB ranges that a command touches. -/
def heatRanges (rs : List Range) : List Nat :=
  (rs.flatMap (fun r => run (r.lba / 256) (if r.len = 0 then 0 else (r.lba + r.len - 1) / 256 + 1 - r.lba / 256))).eraseDups

/-- Count a command's accesses (R432). -/
def noteHeat (write : Bool) (nsid : Nat) (rs : List Range) (d : Dev) : Dev :=
  (heatRanges rs).foldl (fun a r => touchHeat write nsid r a) d

/-- Band of a write heat (R433): 0, or floor(log4 w) + 1. -/
def band (w : Nat) : Nat := if w = 0 then 0 else Nat.log2 w / 2 + 1

/-- Stream of a host write in a Shoal of n streams, from its first range's write heat before it (R433). -/
def writeStream (d : Dev) (n nsid lba : Nat) : Nat :=
  if n ≤ 2 then 0 else min (n - 2) (band (writeHeat d nsid (lba / 256)))

/-- HEAT_BUCKET_ROTATE (R432): the buckets of one length age by one. -/
def rotateHeat (fifteenMin : Bool) (d : Dev) : Dev :=
  let shift := fun (l : List Nat) => 0 :: l.take 3
  { d with light.heat := tall d.light.heat (fun h =>
      if fifteenMin then { h with writes15m := shift h.writes15m }
      else { h with reads := shift h.reads, writes15s := shift h.writes15s }) }

/-- HEAT_BUCKET_ROTATE (R432). -/
def execHeatBucketRotate (fifteenMin : Bool) (s : State) : Result := onDev s (rotateHeat fifteenMin)

end Sys2Proof.Machine
end

