-- ==== Sys2Proof/Machine/Members.lean ====
section
/-! DEFINITION. Members: state changes, folds, substitution, enumeration, slow members and the retry rule (06 R164 to R184). -/

namespace Sys2Proof.Machine

/-! ## States and keepers (R118, R172) -/

/-- A state as the label holds it (R170). -/
def memberNum : MemberState → Nat
  | .online => 0
  | .slow => 1
  | .absent => 2
  | .failed => 3
  | .rebuilding => 4
  | .resyncing => 5
  | .evacuating => 6
  | .spare => 7

/-- Key of a position in the tables of times. -/
def posKey (sh pos : Nat) : Nat := sh * 64 + pos

/-- The position that the roster gives a bay: (Shoal, position). -/
def rosterOfBay (d : Dev) (bay : Nat) : Option (Nat × Nat) :=
  d.shelf.labels.findSome? (fun e => (e.2.roster.find? (fun r => r.2.bay == bay)).map (fun r => (e.1, r.1)))

/-- The position that the running Chart gives a bay (04 R101). -/
def chartOfBay (d : Dev) (bay : Nat) : Option (Nat × Nat) :=
  d.str.shoals.findSome? (fun e => ((memberBays e.2.cfg).findIdx? (· == bay)).map (fun i => (e.1, i)))

/-- The position of a bay: by the roster, else by the Chart. -/
def posOfBay (d : Dev) (bay : Nat) : Option (Nat × Nat) :=
  match rosterOfBay d bay with
  | some x => some x
  | none => chartOfBay d bay

/-- The next lowest ONLINE members become keepers and receive the whole bitmap (04 R118). -/
def changeKeeper (sh : Nat) (before : List Nat) (d : Dev) : Dev :=
  let new := (keepersOf d sh).filter (fun b => !before.contains b)
  if new.isEmpty then d else writeKeepers sh new (modShoal sh (fun x => { x with keeperBehind := true }) d)

/-- A spell of SLOW begins or ends (14 R434); spells that ended more than 24 h ago are forgotten. -/
def slowSpell (bay : Nat) (st : MemberState) (d : Dev) : Dev :=
  let now := elapsed d
  { d with shelf.drives := tmod d.shelf.drives bay (fun v => match v.slowFrom with
      | none => if st = .slow then { v with slowFrom := some now } else v
      | some t => if st = .slow then v else
          { v with slowFrom := none
                   slowSpans := (v.slowSpans ++ [(t, now)]).filter (fun x => decide (now < x.2 + 86400000000000)) }) }

/-- Set a position's state (R172), with its INFO event; a keeper that leaves ONLINE is replaced (04 R118). A bay marked EVACUATING stays so
(04 R141): its member is EVACUATING instead of ONLINE. -/
def setState (sh pos : Nat) (st0 : MemberState) (d : Dev) : Dev :=
  let l := labelOf d sh
  let st := if st0 = .online ∧ 32 ≤ pos then .evacuating else st0
  match tget l.roster pos with
  | none => d
  | some e =>
    if e.state = st then d
    else
      let before := keepersOf d sh
      let d1 := slowSpell e.bay st (setLabel sh { l with roster := tput l.roster pos { e with state := st } } d)
      changeKeeper sh before (logEvent 4 1 0 (payload e.bay (memberNum e.state) (memberNum st) 0) d1)

/-- The state that the roster gives a position. -/
def stateOf (d : Dev) (sh pos : Nat) : Option MemberState := (tget (labelOf d sh).roster pos).map (·.state)

/-- Positions missing from new stripes (R180): ABSENT, SLOW and folded, or FAILED without an open substitution. -/
def missingNew (d : Dev) (sh : Nat) : List Nat :=
  ((labelOf d sh).roster.filter (fun e => match e.2.state with
    | .absent => true
    | .slow => folded d sh e.1
    | .failed => (substsOf d sh e.1).isEmpty
    | _ => false)).map (·.1)

/-! ## Substitution (R183 to R185) -/

/-- May a SPARE member serve a Shoal: of capacity for ROWS (04 R101), and of its LBA format (04 R107)? -/
def spareFits (d : Dev) (sh bay : Nat) : Bool :=
  (tget d.shelf.drives bay).any (fun v => decide (rowsOf d sh * 131072 + 268435456 ≤ v.capacity) &&
    ((curGeom d sh).metaMode == 1 || v.ext64))

/-- The target that a substitution takes (R183): the lowest unused spare strip, else the SPARE member in the lowest bay
that may serve the Shoal. -/
def substTarget (d : Dev) (sh : Nat) : Option (Nat × Nat) :=
  let used := ((labelOf d sh).subst.filter (fun u => u.kind == 1)).map (·.target)
  match (List.range (curGeom d sh).spareStrips).find? (fun n => !used.contains n) with
  | some n => some (1, n)
  | none => ((d.shelf.spares.mergeSort (fun a b => decide (a ≤ b))).find? (spareFits d sh)).map (fun b => (2, b))

/-- SPARE members that the choice of a target passes over (04 R101, R107): a WARN event names each bay. -/
def warnPassed (sh : Nat) (target : Option (Nat × Nat)) (d : Dev) : Dev :=
  let passed := match target with
    | some (1, _) => []
    | some (_, b) => d.shelf.spares.filter (fun x => decide (x < b))
    | none => d.shelf.spares
  passed.foldl (fun a b =>
    if (curGeom a sh).metaMode = 0 ∧ (tget a.shelf.drives b).any (fun v => !v.ext64) then logEvent 3 6 1 (payload b sh 0 0) a
    else logEvent 4 0x0A 1 (payload b sh 0 0) a) d

/-- The lowest free place of the four substitution records (R184). -/
def freeSubst (l : ShoalLabel) : Nat := ((List.range 4).find? (fun i => !l.subst.any (fun u => u.idx == i))).getD 0

/-- Format a drive that joins a Shoal (04 R107): every configuration record is written again after it (12 R382). -/
def formatDrive (sh bay : Nat) (d : Dev) : Dev :=
  rewriteRecords bay (memberIssue bay (.format ((curGeom d sh).metaMode == 0)) { d with
    shelf.drives := tmod d.shelf.drives bay (fun v => { v with formatting := true })
    shelf.records := d.shelf.records.filter (fun e => e.1 / 65536 != bay) })

/-- A position whose drive is REBUILDING takes a record of KIND 2 for its own bay (R188): copy-back where a completed substitution holds
its strips. With four records in use it waits for one (R183). -/
def substituteOwn (sh pos bay : Nat) (d : Dev) : Dev :=
  let l := labelOf d sh
  if 4 ≤ l.subst.length then
    if d.shelf.substWaits.contains (sh, pos) then d else { d with shelf.substWaits := d.shelf.substWaits ++ [(sh, pos)] }
  else
    let u : Subst := { pos := pos, idx := freeSubst l, kind := 2, target := bay, g0 := ((shoalOf d sh).map (·.gen)).getD 0 + 1
                       state := if l.subst.any (fun x => x.pos == pos && x.state == 2) then 3 else 1 }
    setLabel sh { l with subst := l.subst ++ [u] } d

/-- Start a substitution of a position (R183). With four records in use the position waits for one; without a target it
stays FAILED, with a WARN event. A SPARE member chosen is formatted (04 R107) and becomes REBUILDING. -/
def substitute (sh pos : Nat) (preempt : Bool) (d : Dev) : Dev :=
  let l := labelOf d sh
  if 4 ≤ l.subst.length then
    if d.shelf.substWaits.contains (sh, pos) then d else { d with shelf.substWaits := d.shelf.substWaits ++ [(sh, pos)] }
  else
    let target := substTarget d sh
    let d0 := warnPassed sh target d
    match target with
    | none => logEvent 4 6 1 (payload sh pos 0 0) d0
    | some (k, t) =>
      let g0 := ((shoalOf d sh).map (·.gen)).getD 0 + 1
      let u : Subst := { pos := pos, idx := freeSubst l, kind := k, target := t, g0 := g0, preempt := preempt }
      let d1 := setLabel sh { l with subst := l.subst ++ [u] } (wake d0)
      if k = 2 then
        let v := tget d1.shelf.drives t
        let l1 := labelOf d1 sh
        let cap := (v.map (·.capacity)).getD 0
        let d2 := { d1 with shelf.spares := d1.shelf.spares.filter (fun b => b != t) }
        let e : RosterEntry :=
          { bay := t, state := .rebuilding, labelGen := (v.map (·.labelGen)).getD 0, serial := (v.map (·.serial)).getD 0 }
        let l2 := { l1 with caps := tput l1.caps t cap, roster := if preempt then l1.roster else tput l1.roster pos e }
        formatDrive sh t (logEvent 4 1 0 (payload t 7 4 0) (setLabel sh l2 d2))
      else d1

/-- Substitutions that waited for a record or a target (R183): a drive that joined its position in the meantime takes its own bay. -/
def resumeSubsts (d : Dev) : Dev :=
  d.shelf.substWaits.foldl (fun a x =>
    if (labelOf a x.1).subst.length < 4 then
      let a1 := { a with shelf.substWaits := a.shelf.substWaits.filter (fun y => y != x) }
      match tget (labelOf a x.1).roster x.2 with
      | some e => if e.state = .rebuilding then substituteOwn x.1 x.2 e.bay a1
        else if e.state = .failed ∧ (substsOf a x.1 x.2).isEmpty then substitute x.1 x.2 false a1 else a1
      | none => a1
    else a) d

/-- CURSOR follows the rows whose strips stand at the target (R186): it reaches the highest taken once none is on its way, and stays below
the lowest that is. -/
def advanceSubst (u : Subst) : Subst :=
  match u.building with
  | [] => { u with cursor := max u.cursor u.reach }
  | g :: r => { u with cursor := max u.cursor (r.foldl min g - 1) }

/-- Change a substitution record. -/
def modSubst (sh idx : Nat) (f : Subst → Subst) (d : Dev) : Dev :=
  let l := labelOf d sh
  setLabel sh { l with subst := l.subst.map (fun u => if u.idx = idx then f u else u) } d

/-- A row of a substitution to a spare strip could not be placed (R185). -/
def unplace (gen : Nat) (u : Subst) : Subst :=
  advanceSubst { u with building := u.building.filter (fun g => g != gen), unplaced := u.unplaced + 1
                        unplacedGens := u.unplacedGens ++ [gen] }

/-- Has a stripe the LATE bit of a position of the label? -/
def lateAt (d : Dev) (s : Stripe) (pos : Nat) : Bool := (stripePos d s pos).any (fun p => s.late.getLsbD p)

/-- Clear the LATE bits of a position in the rows that `f` takes (R176): an entry comes free once none is left. -/
def clearLateIn (f : Stripe → Bool) (sh pos : Nat) (d : Dev) : Dev :=
  d.str.rows.foldl (fun a e =>
    if e.2.shoal = sh ∧ lateAt d e.2 pos ∧ f e.2 then
      let s := { e.2 with late := clearBit e.2.late ((stripePos d e.2 pos).getD 32) }
      let a1 := if s.inJournal then writeJournal s a else setRow s a
      if s.life = .committed ∧ s.late = 0#32 ∧ s.inJournal then tryFree sh s.row (freeEntry s a1) else a1
    else a) d

/-- Clear every LATE bit of a position (R176). -/
def clearLate (sh pos : Nat) (d : Dev) : Dev := clearLateIn (fun _ => true) sh pos d

/-- A rebuilt or resynced strip did not reach its target (R182, R185, R186): the row stays in its resync set, or counts as unplaced. -/
def dropBuilt (sh row pos : Nat) (d : Dev) : Dev :=
  match rowAt d sh row with
  | none => d
  | some s =>
    let lp := labelPos d (stripeGeom d s) pos
    let l := labelOf d sh
    setLabel sh { l with
      resync := l.resync.map (fun r => if r.pos = lp then { r with building := r.building.filter (fun g => g != s.gen) } else r)
      subst := l.subst.map (fun u => if u.pos = lp ∧ u.kind = 1 ∧ u.building.contains s.gen then unplace s.gen u else u) } d

/-- The commands of a bay end without result (R173). A strip write to a member that is FAILED is no longer issued; one to a drive that has
left counts as overdue (R182; log entry 34). WRITING stripes are judged. -/
def dropWrites (bay : Nat) (left : Bool) (d : Dev) : Dev :=
  let mine := (d.shelf.cmds.filter (fun e => e.2.bay == bay)).map (·.2.op) ++ (d.shelf.heldOps.filter (fun e => e.1 == bay)).map (·.2)
  let d1 := { d with shelf.cmds := d.shelf.cmds.filter (fun e => e.2.bay != bay)
                     shelf.heldOps := d.shelf.heldOps.filter (fun e => e.1 != bay)
                     shelf.labelAgain := d.shelf.labelAgain.filter (fun b => b != bay)
                     shelf.deallocs := (d.shelf.deallocs.map (fun e => (e.1, e.2.filter (fun b => b != bay)))).filter
                       (fun e => !e.2.isEmpty) }
  mine.foldl (fun a op => match op with
    | .writeStrip sh row pos =>
      let a1 := { a with str.rows := tmod a.str.rows (rkey sh row) (fun s =>
        if s.done.getLsbD pos then s else if left then { s with overdue := setBit s.overdue pos }
        else { s with issued := clearBit s.issued pos, late := clearBit s.late pos }) }
      judgeStripe sh row a1
    | .rebuildWrite sh row pos => dropBuilt sh row pos a
    | _ => a) d1

/-- Close a position's resync slot (R172). -/
def closeResync (sh pos : Nat) (d : Dev) : Dev :=
  let l := labelOf d sh
  if l.resync.any (fun r => r.pos == pos) then
    setLabel sh { l with resync := l.resync.filter (fun r => r.pos != pos) } d
  else d

/-- The bay of a position in the roster. -/
def rosterBay (d : Dev) (sh pos : Nat) : Nat := ((tget (labelOf d sh).roster pos).map (·.bay)).getD 0xFF

/-- A member becomes FAILED (R172, R176): FAULT event, resync slot closed, LATE bits cleared, its commands at an end. The position loses the
substitution whose target the drive was. -/
def failOnly (sh pos : Nat) (d : Dev) : Dev :=
  let bay := rosterBay d sh pos
  let l := labelOf d sh
  let mine := fun (u : Subst) => u.pos == pos && u.kind == 2 && u.target == bay
  let d0 := if l.subst.any mine then setLabel sh { l with subst := l.subst.filter (fun u => !mine u) } d else d
  let d1 := logEvent 4 4 2 (payload bay sh pos 0) (setState sh pos .failed d0)
  dropWrites bay false (clearLate sh pos (closeResync sh pos d1))

/-- A member becomes FAILED and is substituted (R172, R183), unless a finished substitution still holds its strips. -/
def memberFail (sh pos : Nat) (d : Dev) : Dev :=
  if (stateOf d sh pos) = some .failed then d
  else
    let d1 := failOnly sh pos d
    if (substsOf d1 sh pos).isEmpty then substitute sh pos false d1 else resumeSubsts d1

/-- A drive that a pre-emptive substitution takes as its target is gone: the record goes, and a position that has FAILED by now is
substituted afresh (R172). -/
def dropTarget (bay : Nat) (d : Dev) : Dev :=
  d.shelf.labels.foldl (fun a e => match e.2.subst.find? (fun u => u.kind == 2 && u.target == bay) with
    | none => a
    | some u =>
      let l := labelOf a e.1
      let a1 := setLabel e.1 { l with subst := l.subst.filter (fun x => x != u) } a
      if (stateOf a1 e.1 u.pos) = some .failed ∧ (substsOf a1 e.1 u.pos).isEmpty then substitute e.1 u.pos false a1
      else resumeSubsts a1) d

/-- The position that R180 fails: the longest-absent ABSENT one, or, if none is ABSENT, the SLOW one that has been folded longest. -/
def forcedEnd (sh : Nat) (d : Dev) : Option Nat :=
  let r := (labelOf d sh).roster
  let oldest := fun (t : Table Nat) (ps : List Nat) => ps.foldl (fun best p => match best with
    | none => some p
    | some q => if (tget t (posKey sh p)).getD 0 < (tget t (posKey sh q)).getD 0 then some p else some q) none
  match oldest d.shelf.absentAt ((r.filter (fun e => e.2.state == .absent)).map (·.1)) with
  | some p => some p
  | none => oldest d.shelf.foldedAt ((r.filter (fun e => e.2.state == .slow && folded d sh e.1)).map (·.1))

/-- How many positions are missing from new stripes of a Shoal (R180). -/
def missingCount (d : Dev) (sh : Nat) : Nat := (missingNew d sh).length

/-- When the positions missing from new stripes have risen from `was` and reach PARITY, the longest-absent member, or else the
longest-folded SLOW one, is failed and substituted at once, with a FAULT event (R180). -/
def judgeMissing (sh was : Nat) (d : Dev) : Dev :=
  if (curGeom d sh).parity ≤ missingCount d sh ∧ was < missingCount d sh ∧ 0 < (curGeom d sh).width then
    match forcedEnd sh d with
    | some p => memberFail sh p (logEvent 4 7 2 (payload (rosterBay d sh p) sh p 0) d)
    | none => d
  else d

/-! ## Folds (R177) -/

/-- Rows of a Shoal that hold a position's LATE bit. -/
def lateRows (d : Dev) (sh pos : Nat) : List Stripe :=
  (d.str.rows.map (·.2)).filter (fun s => s.shoal == sh && lateAt d s pos)

/-- The lowest free place of the three resync slots (R181). -/
def freeResync (l : ShoalLabel) : Nat := ((List.range 3).find? (fun i => !l.resync.any (fun r => r.idx == i))).getD 0

/-- Open a position's resync slot, if none is open; none when all three are in use (R177, R181). In a slot that is open G_R is 0 again. -/
def openResync (sh pos : Nat) (d : Dev) : Option Dev :=
  let l := labelOf d sh
  match l.resync.find? (fun r => r.pos == pos) with
  | some r =>
    some (if r.gR = 0 then d
      else setLabel sh { l with resync := l.resync.map (fun x => if x.pos = pos then { x with gR := 0, building := [] } else x) } d)
  | none =>
    if 3 ≤ l.resync.length then none
    else
      let g := ((shoalOf d sh).map (·.gen)).getD 0 + 1
      let gA := (lateRows d sh pos).foldl (fun a s => min a s.gen) g
      some { setLabel sh { l with resync := l.resync ++ [{ pos := pos, idx := freeResync l, gA := gA, regions := [] }] } d with
        shelf.foldedAt := tput d.shelf.foldedAt (posKey sh pos) (elapsed d) }

/-- Mark the regions of every row with the member's LATE bit, and clear the bits once the marks are durable (R177). -/
def foldMarks (sh pos : Nat) (d : Dev) : Dev :=
  let rs := lateRows d sh pos
  let d1 := rs.foldl (fun a s => markResync sh [pos] (resyncRegion s.row) s.gen a) d
  writeLabels sh { d1 with shelf.labelWaits := d1.shelf.labelWaits ++ [.fold sh pos] }

/-- Is a fold's mark on its way to the labels? -/
def foldMarking (d : Dev) (sh pos : Nat) : Bool := d.shelf.labelWaits.contains (.fold sh pos)

/-- Fold a position (R177). With no slot free an ABSENT member fails at once, with a WARN event; another fold waits, and
fails its member at 12,288 entries in use. -/
def fold (sh pos : Nat) (d : Dev) : Dev :=
  match openResync sh pos d with
  | some d1 => foldMarks sh pos d1
  | none =>
    if (stateOf d sh pos) = some .absent then
      memberFail sh pos (logEvent 4 7 1 (payload (rosterBay d sh pos) sh pos 0) d)
    else if 12288 ≤ journalUsed d then memberFail sh pos d
    else if d.shelf.foldWaits.contains (sh, pos) then d
    else { d with shelf.foldWaits := d.shelf.foldWaits ++ [(sh, pos)] }

/-- A fold that its member's LATE entries trigger: the member is SLOW from then on; while the fold waits for a slot it stays in its state
(R172, R177). -/
def foldSlow (sh pos : Nat) (d : Dev) : Dev :=
  let d1 := fold sh pos d
  if folded d1 sh pos ∧ (stateOf d1 sh pos) = some .online then setState sh pos .slow d1 else d1

/-- Folds of a Shoal (R177): an ONLINE or SLOW member with 2,048 entries of its LATE bit, or with any at 12,288 entries in use; and the LATE
bits that a folded or ABSENT member has taken since. -/
def foldTriggers (sh : Nat) (d : Dev) : Dev :=
  judgeMissing sh (missingCount d sh) ((labelOf d sh).roster.foldl (fun a e =>
    let n := (lateRows a sh e.1).length
    let st := stateOf a sh e.1
    if n = 0 ∨ foldMarking a sh e.1 then a
    else if folded a sh e.1 then (if st = some .slow ∨ st = some .absent then foldMarks sh e.1 a else a)
    else if (st = some .online ∨ st = some .slow) ∧ (2048 ≤ n ∨ 12288 ≤ journalUsed a) then foldSlow sh e.1 a
    else a) d)

/-- LATE bits have changed: every Shoal's folds are judged (R177). -/
def judgeFolds (d : Dev) : Dev := d.str.shoals.foldl (fun a e => foldTriggers e.1 a) d

/-- FOLD_RESUME (R177): a waiting fold runs once a slot frees. -/
def execFoldResume (shoal pos : Nat) (s : State) : Result :=
  onDev s (fun d => if d.shelf.foldWaits.contains (shoal, pos) ∧ (labelOf d shoal).resync.length < 3 then
    judgeMissing shoal (missingCount d shoal)
      (foldSlow shoal pos { d with shelf.foldWaits := d.shelf.foldWaits.filter (fun x => x != (shoal, pos)) }) else d)

/-- WRITE_SOFT_DEADLINE (R175): the oldest undurable strip write of a stripe reaches WRITE_SOFT. -/
def softWrites (sh row : Nat) (d : Dev) : Dev :=
  match rowAt d sh row with
  | some t => if t.life = .writing then judgeStripe sh row (setRow { t with overdue := t.overdue ||| (t.issued &&& ~~~t.done) } d) else d
  | none => d

/-- WRITE_SOFT_DEADLINE (R175). -/
def execWriteSoftDeadline (shoal row : Nat) (s : State) : Result :=
  onDev s (fun d => maybeCheckpoint (aroundAll (judgeFolds (softWrites shoal row d))))

/-! ## Absence (R172, R181) -/

/-- Is a Shoal assembled (15 R445)? Before that no ABSENT position is folded or failed. -/
def assembledShoal (d : Dev) (sh : Nat) : Bool := (shoalOf d sh).any (·.assembled)

/-- A member's drive has left its bay (R172): its strip writes end, and it is ABSENT and folded; a REBUILDING position is FAILED, and substituted afresh
unless an earlier substitution still serves it; a SPARE member is forgotten. -/
def memberGone (bay : Nat) (d : Dev) : Dev :=
  let d1 := { d with shelf.drives := terase d.shelf.drives bay
                     shelf.spares := d.shelf.spares.filter (fun b => b != bay) }
  match rosterOfBay d1 bay with
  | none => dropTarget bay (dropWrites bay true d1)
  | some (sh, pos) =>
    match stateOf d1 sh pos with
    | some .failed => dropWrites bay true d1
    | some .absent => dropWrites bay true d1
    | some .rebuilding => judgeMissing sh (missingCount d1 sh) (memberFail sh pos d1)
    | _ =>
      let d2 := setState sh pos .absent { d1 with shelf.absentAt := tput d1.shelf.absentAt (posKey sh pos) (elapsed d1) }
      let d3 := dropWrites bay true d2
      if assembledShoal d3 sh then judgeMissing sh (missingCount d1 sh) (fold sh pos d3) else d3

/-- ABSENCE_TIMER_EXPIRY (R172). -/
def execAbsenceTimerExpiry (shoal pos : Nat) (s : State) : Result :=
  onDev s (fun d => if (stateOf d shoal pos) = some .absent then
    memberFail shoal pos (logEvent 4 7 2 (payload (rosterBay d shoal pos) shoal pos 0) d) else d)

/-- DRIVE_LINK_LOST (R172): the retrain window starts. -/
def execDriveLinkLost (bay : Nat) (s : State) : Result :=
  onDev s (fun d => { d with shelf.drives := tmod d.shelf.drives bay (fun v => { v with linkUp := false }) })

/-- DRIVE_LINK_RETRAINED (R172): the member keeps its state. -/
def execDriveLinkRetrained (bay : Nat) (s : State) : Result :=
  onDev s (fun d => { d with shelf.drives := tmod d.shelf.drives bay (fun v => { v with linkUp := true }) })

/-- Fail the member in a bay. -/
def failBay (bay : Nat) (d : Dev) : Dev :=
  match rosterOfBay d bay with
  | some (sh, pos) => judgeMissing sh (missingCount d sh) (memberFail sh pos d)
  | none => dropTarget bay (dropWrites bay false { d with shelf.spares := d.shelf.spares.filter (fun b => b != bay) })

/-- LINK_RETRAIN_TIMEOUT (R172). -/
def execLinkRetrainTimeout (bay : Nat) (s : State) : Result :=
  onDev s (fun d => if (tget d.shelf.drives bay).any (fun v => !v.linkUp) then failBay bay d else d)

/-- DRIVE_READY_TIMEOUT (15 R445): a position whose drive is not ready is ABSENT from this deadline. -/
def driveNotReady (bay : Nat) (d : Dev) : Dev :=
  if thas d.shelf.drives bay then d
  else match posOfBay d bay with
    | none => d
    | some (sh, pos) =>
      match stateOf d sh pos with
      | some .failed => d
      | some .absent => d
      | some .rebuilding => judgeMissing sh (missingCount d sh) (memberFail sh pos d)
      | _ =>
        let d1 := setState sh pos .absent { d with shelf.absentAt := tput d.shelf.absentAt (posKey sh pos) (elapsed d) }
        if assembledShoal d1 sh then judgeMissing sh (missingCount d sh) (fold sh pos d1) else d1

/-- DRIVE_READY_TIMEOUT (15 R445). -/
def execDriveReadyTimeout (bay : Nat) (s : State) : Result := onDev s (driveNotReady bay)

/-! ## Enumeration (R166, R167, R172, R181, R188, 04 R107) -/

/-- Does a drive meet the demands of R166 on its transfer size, queues and reservations? -/
def driveMeets (p : DriveProbe) : Bool := decide (131072 ≤ p.mdts) && decide (4 ≤ p.ioQueues) && p.reservations

/-- Has a bay a root port: with LANE_MODE 1 bays 0 to 15 alone (R165)? -/
def rootPort (d : Dev) (bay : Nat) : Bool := decide ((chartOf d).laneMode ≠ 1) || decide (bay < 16)

/-- The highest link rate in GT/s that DRIVE_GEN_CAP allows (R165, 02 R32). -/
def rateCap (d : Dev) : Nat := if (chartOf d).driveGenCap = 1 then 16 else if (chartOf d).driveGenCap = 2 then 32 else 64

/-- The record of a drive found (R165, R167): the highest rate and Max Payload Size that both ends support. -/
def driveOf (p : DriveProbe) (gen : Nat) (d : Dev) : Drive :=
  { serial := p.serial, capacity := p.capacity, ext64 := p.ext64, fua := p.volatileCache && p.cacheOffRefused
    extInline := p.extInline, gts := min p.gts (rateCap d), lanes := if (chartOf d).laneMode = 1 then 4 else 2
    mps := min p.mps 512, mrrs := 4096, sanitizes := p.sanitizes
    eraseSeconds := p.eraseSeconds, labelGen := gen }

/-- A drive that enumerates while this side runs is registered on, and the writer acquires its reservation before the first write to it
(13 R396). -/
def reserveDrive (bay : Nat) (d : Dev) : Dev :=
  if d.boot.step < 10 then d
  else
    let writer := (d.pair.role == .active || d.pair.role == .solo) && !writerHeld d
    let once := fun (op : MemberOp) (a : Dev) => memberEnd a.shelf.nextMcid (issueNow bay op a)
    let d1 := { once (registerOp d) d with
      shelf.drives := tmod d.shelf.drives bay (fun v => { v with registered := true, holder := writer }) }
    if writer then once (acquireOp d false false) d1 else d1

/-- A drive is taken: a volatile write cache is told to be off (R167), which its probe says whether it refuses. -/
def takeDrive (p : DriveProbe) (gen : Nat) (d : Dev) : Dev :=
  let d1 := { d with shelf.drives := tput d.shelf.drives p.bay (driveOf p gen d) }
  reserveDrive p.bay (if p.volatileCache then memberEnd d1.shelf.nextMcid (issueNow p.bay .cacheOff d1) else d1)

/-- Would the drive give fewer rows than ROWS (04 R101)? -/
def tooSmall (d : Dev) (sh capacity : Nat) : Bool := decide ((capacity - 268435456) / 131072 < rowsOf d sh)

/-- A drive joins a position as a new one (R172, R188), which ends PS3 (07 R233): formatted (04 R107), a fresh LABEL_GEN, REBUILDING
under a new substitution of KIND 2 whose target is its bay. -/
def joinRebuild (sh pos : Nat) (p : DriveProbe) (d : Dev) : Dev :=
  let d0 := match stateOf d sh pos with
    | some .failed => d
    | _ => failOnly sh pos d
  let (gen, d1) := draw (wake d0)
  let l := labelOf d1 sh
  let old := tget l.roster pos
  let oldBay := (old.map (·.bay)).getD p.bay
  let l1 := { l with
    roster := tput l.roster pos { bay := p.bay, state := .rebuilding, labelGen := gen, serial := p.serial }
    caps := tput l.caps p.bay p.capacity }
  let d2 := substituteOwn sh pos p.bay (setLabel sh l1 (takeDrive p gen d1))
  formatDrive sh p.bay (logEvent 4 1 0 (payload p.bay ((old.map (fun e => memberNum e.state)).getD 3) 4 oldBay) d2)

/-- A proven drive returns to its position (R172, R181): RESYNCING with G_R set while a resync slot is open for it, else
ONLINE. -/
def memberReturn (sh pos : Nat) (p : DriveProbe) (gen : Nat) (d : Dev) : Dev :=
  let l := labelOf d sh
  let open_ := l.resync.any (fun r => r.pos == pos)
  let gR := ((shoalOf d sh).map (·.gen)).getD 0 + 1
  let d1 := takeDrive p gen { d with shelf.absentAt := terase d.shelf.absentAt (posKey sh pos) }
  let d2 := if open_ then
      setLabel sh { l with resync := l.resync.map (fun r => if r.pos = pos then { r with gR := gR } else r) } d1 else d1
  let d3 := setState sh pos (if open_ then .resyncing else .online) d2
  if open_ then rewriteRecords p.bay d3 else freshenRecords p.bay d3

/-- A drive takes a position of a Shoal that forms: formatted (04 R107), with a fresh LABEL_GEN. -/
def joinNew (sh : Nat) (pos bay : Nat) (d : Dev) : Dev :=
  let l := labelOf d sh
  match tget d.shelf.drives bay with
  | none => setLabel sh { l with roster := tput l.roster pos { bay := bay, state := .absent } }
      { d with shelf.absentAt := tput d.shelf.absentAt (posKey sh pos) (elapsed d) }
  | some v =>
    let (gen, d1) := draw d
    formatDrive sh bay (setLabel sh
      { l with roster := tput l.roster pos { bay := bay, state := .online, labelGen := gen, serial := v.serial }
               caps := tput l.caps bay v.capacity }
      { d1 with shelf.drives := tput d1.shelf.drives bay { v with labelGen := gen } })

/-- A Shoal without any label forms over the drives in its bays, once at most PARITY of them are missing (04 R101, 15 R445; log entry
24): their members are ONLINE, and ROWS is recorded. -/
def formShoal (sh : Nat) (d : Dev) : Dev :=
  match shoalOf d sh with
  | none => d
  | some st =>
    let bays := memberBays st.cfg
    if !(labelOf d sh).roster.isEmpty ∨ st.cfg.parity < (bays.filter (fun b => !thas d.shelf.drives b)).length then d
    else
      let d1 := bays.zipIdx.foldl (fun a x => joinNew sh x.2 x.1 a) d
      modShoal sh (fun x => { x with assembled := true }) (recomputeRows sh d1)

/-- A drive enumerates and its label is read (R172). -/
def enumerate (p : DriveProbe) (d : Dev) : Dev :=
  if !rootPort d p.bay then d
  else if !driveMeets p then logEvent 4 0x0A 1 (payload p.bay 0 0 0) d
  else if (chartOf d).spareBays.getLsbD p.bay ∧ rosterOfBay d p.bay = none then
    if !p.ext64 ∧ d.str.shoals.all (fun e => e.2.cfg.metaMode == 0) then logEvent 3 6 1 (payload p.bay 0 0 0) d
    else
      let (gen, d1) := draw d
      let d2 := takeDrive p gen d1
      rewriteRecords p.bay <| writeLabel 0xFF p.bay
        { d2 with shelf.spares := if d2.shelf.spares.contains p.bay then d2.shelf.spares else d2.shelf.spares ++ [p.bay] }
  else match posOfBay d p.bay with
    | none => takeDrive p 0 d
    | some (sh, pos) =>
      if (curGeom d sh).metaMode = 0 ∧ !p.ext64 then logEvent 3 6 1 (payload p.bay sh 0 0) d
      else if tooSmall d sh p.capacity then logEvent 4 0x0A 1 (payload p.bay sh 0 0) d
      else if (labelOf d sh).roster.isEmpty then
        let d1 := takeDrive p 0 d
        if d.boot.step = 10 then formShoal sh d1 else d1
      else
        let e := tget (labelOf d sh).roster pos
        let agrees := (e.bind (fun r => p.label.map (fun x =>
          x.serial == r.serial && p.serial == r.serial && x.labelGen == r.labelGen))).getD false
        match (e.map (·.state) : Option MemberState) with
        | some .failed => joinRebuild sh pos p d
        | some .rebuilding =>
          if agrees then takeDrive p ((e.map (·.labelGen)).getD 0) d
          else joinRebuild sh pos p d
        | _ => if agrees then memberReturn sh pos p ((e.map (·.labelGen)).getD 0) d else joinRebuild sh pos p d

/-- DRIVE_ENUMERATE (R172); waiting substitutions may take a new SPARE member. -/
def execDriveEnumerate (probe : DriveProbe) (s : State) : Result := onDev s (fun d => resumeSubsts (enumerate probe d))

/-- Is a member command a format? -/
def formatOp : MemberOp → Bool
  | .format _ => true
  | _ => false

/-- The Shoal whose label the drive in a bay carries: its roster's, or that of the substitution whose target it is. -/
def shoalOfBay (d : Dev) (bay : Nat) : Option Nat :=
  match rosterOfBay d bay with
  | some (sh, _) => some sh
  | none => (d.shelf.labels.find? (fun e => e.2.subst.any (fun u => u.kind == 2 && u.target == bay))).map (·.1)

/-- MEMBER_FORMAT_DONE (04 R107): what waited for the drive goes, the label first, and rebuild starts. -/
def formatDone (bay : Nat) (d : Dev) : Dev :=
  if (tget d.shelf.drives bay).any (·.formatting) then
    let d1 := { d with shelf.drives := tmod d.shelf.drives bay (fun v => { v with formatting := false })
                       shelf.cmds := d.shelf.cmds.filter (fun e => !(e.2.bay == bay && formatOp e.2.op)) }
    match shoalOfBay d1 bay with
    | some sh => pullMember bay (writeLabel sh bay d1)
    | none => pullMember bay d1
  else d

/-- MEMBER_FORMAT_DONE (04 R107). -/
def execMemberFormatDone (bay : Nat) (s : State) : Result := onDev s (formatDone bay)

/-! ## Slow members (R172, R179) -/

/-- Would failing a position leave a LIVE stripe with more than PARITY unavailable strips (R179)? -/
def wouldExceed (d : Dev) (sh pos : Nat) : Bool :=
  d.str.rows.any (fun e => e.2.shoal == sh && e.2.life == .committed &&
    (stripePos d e.2 pos).any (fun q => (writtenPos (stripeGeom d e.2) e.2.row).contains q &&
      decide ((stripeGeom d e.2).parity < ((missingPos d e.2).filter (fun p => p != q)).length + 1)))

/-- Is a write to a bay outstanding past WRITE_SOFT (R172)? -/
def writeOverdue (d : Dev) (bay : Nat) : Bool :=
  d.shelf.cmds.any (fun e => e.2.bay == bay && (match e.2.op with
    | .writeStrip _ _ _ => decide (e.2.issuedAt + (chartOf d).storage.writeSoft * 1000 < elapsed d)
    | _ => false))

/-- MEMBER_LATENCY_INTERVAL (R172, R179): one 100 ms interval of a member is judged, and kept for the Lighthouse (14 R426). -/
def latencyInterval (bay p99 : Nat) (d : Dev) : Dev :=
  match tget d.shelf.drives bay, rosterOfBay d bay with
  | some v, some (sh, pos) =>
    let past := decide ((chartOf d).storage.slowThreshold < p99)
    let v1 := { v with past := if past then v.past + 1 else 0, under := if past then 0 else v.under + 1
                       lats := (p99 :: v.lats).take 6000 }
    let d1 := { d with shelf.drives := tput d.shelf.drives bay v1 }
    match stateOf d sh pos with
    | some .online => if past then
        logEvent 4 2 1 (payload bay sh pos p99) (setState sh pos .slow
          { d1 with shelf.drives := tput d1.shelf.drives bay { v1 with past := 1 } })
      else d1
    | some .slow =>
      if past ∧ (chartOf d).storage.slowWindow * 10 ≤ v1.past then
        if wouldExceed d1 sh pos then
          logEvent 4 5 1 (payload bay sh pos 0) { d1 with shelf.drives := tput d1.shelf.drives bay { v1 with past := 0 } }
        else judgeMissing sh (missingCount d sh) (memberFail sh pos (logLight 5 8 false 2 bay 0 0 0 0 0 d1))
      else if 10 ≤ v1.under ∧ !writeOverdue d1 bay then
        if folded d1 sh pos then
          let l := labelOf d1 sh
          let gR := ((shoalOf d1 sh).map (·.gen)).getD 0 + 1
          setState sh pos .resyncing (setLabel sh
            { l with resync := l.resync.map (fun r => if r.pos = pos then { r with gR := gR } else r) } d1)
        else setState sh pos .online { d1 with shelf.foldWaits := d1.shelf.foldWaits.filter (fun x => x != (sh, pos)) }
      else d1
    | _ => d1
  | _, _ => d

/-- MEMBER_LATENCY_INTERVAL (R172). -/
def execMemberLatencyInterval (bay p99us : Nat) (s : State) : Result := onDev s (latencyInterval bay p99us)

/-! ## The retry rule (R173) -/

/-- Abort a member command (R173): the NVMe Abort is sent, and the command waits for its end. -/
def abortMember (m : Nat) (d : Dev) : Dev :=
  match tget d.shelf.cmds m with
  | none => d
  | some c => if c.phase = .issued then
      memberIssue c.bay (.abort m) { d with shelf.cmds := tput d.shelf.cmds m { c with phase := .aborting } } else d

/-- Reissue a command, once (R173). -/
def reissueMember (m : Nat) (d : Dev) : Dev :=
  match tget d.shelf.cmds m with
  | none => d
  | some c => emit (.member c.bay m c.op (memberFua d c.bay c.op)) (occur 6 4 1 (memberAttr c.bay (opClass c.op))
      { d with shelf.cmds := tput d.shelf.cmds m { c with phase := .reissued, again := true, issuedAt := elapsed d } })

/-- MEMBER_ABORT_TIMEOUT (R173): the member controller is reset, which terminates every outstanding command of the member;
each is reissued. -/
def abortTimeout (m : Nat) (d : Dev) : Dev :=
  match tget d.shelf.cmds m with
  | none => d
  | some c =>
    if c.phase ≠ .aborting then d
    else
      let mine := (d.shelf.cmds.filter (fun e => e.2.bay == c.bay && (match e.2.op with
        | .abort _ => false
        | .resetController => false
        | _ => true))).map (·.1)
      let d1 := { d with shelf.cmds := d.shelf.cmds.filter (fun e => e.2.bay != c.bay || mine.contains e.1) }
      memberIssue c.bay .resetController (mine.foldl (fun a k =>
        { a with shelf.cmds := tmod a.shelf.cmds k (fun x => if x.phase = .queued then x else { x with phase := .resetting }) }) d1)

/-- MEMBER_ABORT_TIMEOUT (R173). -/
def execMemberAbortTimeout (mcid : Nat) (s : State) : Result := onDev s (abortTimeout mcid)

/-- MEMBER_RESET_TIMEOUT (R173): the member is FAILED. -/
def execMemberResetTimeout (bay : Nat) (s : State) : Result :=
  onDev s (fun d => if d.shelf.cmds.any (fun e => e.2.bay == bay && e.2.op == .resetController) then failBay bay d else d)

/-- A transient fault (R173): the count of the last 24 h goes up by one, with a WARN event. -/
def transientFault (bay : Nat) (d : Dev) : Dev :=
  let now := elapsed d
  logEvent 4 3 1 (payload bay 0 0 0)
    { d with shelf.drives := tmod d.shelf.drives bay (fun v =>
        { v with transients := (v.transients.filter (fun t => decide (now < t + 86400000000000))) ++ [now] }) }

end Sys2Proof.Machine
end

