-- ==== Sys2Proof/Machine/Rebuild.lean ====
section
/-! DEFINITION. Resync, rebuild, the loss that they find, the map scan, labels and patrol (06 R170, R171, R181 to R198), and the steps at
which a stripe's writes, its parity and its keepers' marks end (04 R103, R114, R117, R128). -/

namespace Sys2Proof.Machine

/-! ## Resync (R182) -/

/-- Rows of a position's resync set that are not rewritten yet. -/
def resyncLeft (d : Dev) (sh : Nat) (r : Resync) : List Nat :=
  ((d.str.rows.map (·.2)).filter (fun s => s.shoal == sh && s.life == .committed && inResync d s r.pos)).map (·.row)

/-- Clear the regions whose rows are all rewritten, and end an empty resync: ONLINE, slot closed (R172, R182). -/
def resyncAdvance (sh pos : Nat) (d : Dev) : Dev :=
  match resyncOf d sh pos with
  | none => d
  | some r =>
    let left := resyncLeft d sh r
    let r1 := { r with regions := r.regions.filter (fun k => left.any (fun row => resyncRegion row == k))
                       doneGens := if left.isEmpty then [] else r.doneGens }
    let l := labelOf d sh
    if left.isEmpty ∧ (stateOf d sh pos) = some .resyncing ∧ !recordsOpen d (rosterBay d sh pos) then
      closeResync sh pos (setState sh pos .online d)
    else if r1 = r then d
    else setLabel sh { l with resync := l.resync.map (fun x => if x.pos = pos then r1 else x) } d

/-- Change a resync slot as the device holds it; what a label records of it stays. -/
def modResync (sh pos : Nat) (f : Resync → Resync) (d : Dev) : Dev :=
  { d with shelf.labels := tmod d.shelf.labels sh (fun l => { l with resync := l.resync.map (fun r => if r.pos = pos then f r else r) }) }

/-- Changes of a label go to every ONLINE member (R171). -/
def propagate (sh : Nat) (d : Dev) : Dev :=
  let bays := ((labelOf d sh).roster.filter (fun e => e.2.state == .online)).map (fun e => e.2.bay)
  modShoal sh (fun x => { x with rowsSince := 0 })
    (writeLabelsTo sh bays { d with shelf.labelDirty := d.shelf.labelDirty.filter (fun x => x != sh) })

/-- A row is rebuilt or resynced: the labels take CURSOR, G_R and the regions at least every 4,096 rows (R182, R186). -/
def countRow (sh : Nat) (d : Dev) : Dev :=
  let d1 := modShoal sh (fun x => { x with rowsSince := x.rowsSince + 1 }) d
  if 4096 ≤ ((shoalOf d1 sh).map (·.rowsSince)).getD 0 then propagate sh d1 else d1

/-! ## Loss that a whole row's reads find (R189, R190) -/

/-- One slot cannot be recovered (R190): the grain that its readable metadata names is LOST at once, else the slot enters the lost-slot
table. -/
def loseSlot (p : Place) (cause : Nat) (known : Bool) (d : Dev) : Dev :=
  match storedBlock d p with
  | some b =>
    if known then
      let n := max (nsGrain d b.nsid) 1
      markLost b.nsid (b.lba / n) (grainPlace n b.lba p) cause none d
    else lostSlot p cause d
  | none => lostSlot p cause d

/-- The blocks of a row that cannot be recovered while `bad` is unreadable (R190). -/
def loseRow (s : Stripe) (bad : List (Nat × Nat)) (d : Dev) : Dev :=
  (lostSlotsOf d s bad).foldl (fun a x => loseSlot { shoal := s.shoal, row := s.row, slot := x.1 } x.2 (metaReadable d s bad) a) d

/-- The row with a zero placeholder, of metadata ASN 0, at each lost offset of the data strips at positions `ps` (R189). -/
def putHolders (d : Dev) (s : Stripe) (bad : List (Nat × Nat)) (ps : List Nat) : Stripe :=
  let g := stripeGeom d s
  let ks := ps.flatMap (fun p => match dataAt g s.row p with
    | none => []
    | some dn => ((List.range 32).filter (fun i => !recoverableAt d s bad i && (unavailableAt d s bad i).contains p)).flatMap (slotsAt g dn))
  { s with slots := s.slots.zipIdx.map (fun x => if ks.contains x.2 then some { asn := 0, nsid := 0, lba := 0, geo := geoGen s } else x.1) }

/-- What the reads of a whole row find (R174, R189, R190): block errors count, what cannot be recovered is lost, and the targets at `ps`
take placeholders there. The flag says that entries of lost slots must be durable before the row counts (R171). -/
def readRow (s : Stripe) (bad : List (Nat × Nat)) (ps : List Nat) (d : Dev) : Bool × Dev :=
  let met := bad.filter (fun x => (stripBay d s x.1).isSome)
  let lost := !(lostSlotsOf d s bad).isEmpty
  let s1 := putHolders d s bad ps
  let d1 := loseRow s bad (noteErrors 1 s.shoal s.row met (!lost) d)
  (lost, if s1.slots = s.slots then d1 else { d1 with
    str.rows := tmod d1.str.rows (rkey s.shoal s.row) (fun x => { x with slots := s1.slots }) })

/-- Blocks of a strip that its rewriting reconstructs: all where it is missing, else those its member could not read. -/
def rebuiltBlocks (d : Dev) (s : Stripe) (bad : List (Nat × Nat)) (pos : Nat) : Nat :=
  if (stripBay d s pos).isNone then stripBlocks (stripeGeom d s) else (bad.filter (fun x => x.1 == pos)).length

/-- Write the resynced strip of a row (R182), unless the member has gone meanwhile. -/
def resyncWrite (sh pos : Nat) (s : Stripe) (d : Dev) : Dev :=
  match stripePos d s pos with
  | some p =>
    if (stateOf d sh pos) = some .resyncing ∧ (resyncOf d sh pos).any (fun r => r.building.contains s.gen) then
      memberIssue (rosterBay d sh pos) (.rebuildWrite sh s.row p) d
    else d
  | none => d

/-- RESYNC_ROW (R182): the member's strip in a row of its set is rewritten by reconstruction; `bad` are the blocks, by position and offset,
that the survivors could not read or that failed a check of 04 R108. What cannot be reconstructed is lost (R190). A row in which
the position holds no strip leaves the set. -/
def resyncRow (sh pos row : Nat) (bad : List (Nat × Nat)) (d : Dev) : Dev :=
  match resyncOf d sh pos, rowAt d sh row with
  | some r, some s =>
    if (stateOf d sh pos) ≠ some .resyncing ∨ !(resyncLeft d sh r).contains row ∨ r.building.contains s.gen then resyncAdvance sh pos d
    else match (stripePos d s pos).filter (fun p => (writtenPos (stripeGeom d s) row).contains p) with
      | none => resyncAdvance sh pos (modResync sh pos (fun x => { x with doneGens := x.doneGens ++ [s.gen] }) d)
      | some p =>
        let (lost, d1) := readRow s bad [p] d
        let d2 := occur 6 6 (rebuiltBlocks d s bad p) {} (modResync sh pos (fun x => { x with building := x.building ++ [s.gen] }) d1)
        resumeRepairs (if lost then writeLabels sh { d2 with shelf.labelWaits := d2.shelf.labelWaits ++ [.rebuilt sh row (some pos)] }
          else resyncWrite sh pos s d2)
  | some _, none => resyncAdvance sh pos d
  | none, _ => d

/-! ## Rebuild (R185, R186, R188, R189) -/

/-- Running substitutions of a Shoal. -/
def runningSubsts (d : Dev) (sh : Nat) : List Subst := (labelOf d sh).subst.filter (fun u => u.state != 2)

/-- LIVE rows that a substitution has still to take: GEN above what it has taken and below G0. -/
def rebuildLeft (d : Dev) (sh : Nat) (u : Subst) : List Stripe :=
  (d.str.rows.map (·.2)).filter (fun s => s.shoal == sh && s.life == .committed && decide (max u.cursor u.reach < s.gen) &&
    decide (s.gen < u.g0))

/-- The lowest GEN of a row still IN_FLIGHT, which no CURSOR passes. -/
def inFlightGen (d : Dev) (sh : Nat) : Option Nat :=
  ((d.str.rows.map (·.2)).filter (fun s => s.shoal == sh && (s.life == .sealed || s.life == .writing || s.life == .durable))).foldl
    (fun a s => match a with
      | none => some s.gen
      | some g => some (min g s.gen)) none

/-- A pre-emptively replaced member becomes FAILED (R172, R176): its LATE bits clear and its commands end. -/
def retireMember (sh pos : Nat) (d : Dev) : Dev :=
  dropWrites (rosterBay d sh pos) false (clearLate sh pos (closeResync sh pos (setState sh pos .failed d)))

/-- A substitution has covered every row below G0 (R172, R186, R188): it is complete, and what it replaces goes. A SPARE member that gave
its place back returns to SPARE. -/
def completeSubst (sh : Nat) (u : Subst) (d : Dev) : Dev :=
  let l := labelOf d sh
  let own := homeBay (curGeom d sh) u.pos
  let d1 := setLabel sh { l with subst := l.subst.map (fun x => if x.idx = u.idx then { x with state := 2 } else x) } d
  if u.preempt then
    let d2 := if (stateOf d1 sh u.pos) = some .failed then d1 else retireMember sh u.pos d1
    if u.kind = 2 then
      let v := tget d2.shelf.drives u.target
      let l2 := labelOf d2 sh
      let e : RosterEntry :=
        { bay := u.target, state := .online, labelGen := (v.map (·.labelGen)).getD 0, serial := (v.map (·.serial)).getD 0 }
      setLabel sh { l2 with roster := tput l2.roster u.pos e } d2
    else d2
  else if u.kind = 1 then d1
  else
    let l1 := labelOf d1 sh
    let olds := l1.subst.filter (fun x => x.pos == u.pos && x.idx != u.idx)
    let back := (olds.filter (fun x => x.kind == 2 && thas d1.shelf.drives x.target)).map (·.target)
    let keep := u.target ≠ own
    let d2 := setLabel sh { l1 with subst := l1.subst.filter (fun x => x.pos != u.pos || (keep && x.idx == u.idx)) }
      { d1 with shelf.spares := d1.shelf.spares ++ back }
    resumeSubsts (setState sh u.pos .online (back.foldl (fun a b => logEvent 4 1 0 (payload b 0 7 0) a) d2))

/-- End the substitutions with nothing left below G0 (R186), once the target holds the configuration records (12 R382). -/
def settleSubsts (sh : Nat) (d : Dev) : Dev :=
  (runningSubsts d sh).foldl (fun a u =>
    if (rebuildLeft a sh u).isEmpty ∧ u.building.isEmpty ∧ ((inFlightGen a sh).all (fun g => decide (u.g0 ≤ g))) ∧
        (u.kind = 1 ∨ !recordsOpen a u.target) then
      completeSubst sh u a
    else a) d

/-- The position in a row at which the strip of a position of the label stands, if it has one there (04 R102). -/
def rowPos (d : Dev) (s : Stripe) (pos : Nat) : Option Nat :=
  (stripePos d s pos).filter (fun p => (writtenPos (stripeGeom d s) s.row).contains p)

/-- Substitutions to spare strips whose strip of a row lies on a position of the label (R185): a drive rebuilt into that position takes
them. -/
def sparesOn (d : Dev) (s : Stripe) (pos : Nat) : List Subst :=
  let g := stripeGeom d s
  (labelOf d s.shoal).subst.filter (fun x => x.kind == 1 && x.pos != pos && (decide (x.g0 ≤ s.gen) || decide (s.gen ≤ x.cursor)) &&
    stripePos d s pos == some (sparePos g s.row x.target) && (rowPos d s x.pos).isSome)

/-- The strips that a substitution writes in a row: bay and position; none where its spare strip cannot be placed (R185). -/
def rowWrites (d : Dev) (s : Stripe) (u : Subst) : Option (List (Nat × Nat)) :=
  let extra := if u.kind = 2 then (sparesOn d s u.pos).filterMap (fun x => (rowPos d s x.pos).map (fun p => (u.target, p))) else []
  match rowPos d s u.pos with
  | none => some extra
  | some p => (substTo d (stripeGeom d s) s.row u).map (fun b => (b, p) :: extra)

/-- A row of a substitution stands at its target: CURSOR advances (R186), and the strips that a rebuilt drive took for others are placed
(R185). -/
def finishRow (s : Stripe) (u : Subst) (d : Dev) : Dev :=
  let placed := if u.kind = 2 then sparesOn d s u.pos else []
  let d1 := placed.foldl (fun a x => modSubst s.shoal x.idx (fun y =>
    { y with unplaced := y.unplaced - (if y.unplacedGens.contains s.gen then 1 else 0)
             unplacedGens := y.unplacedGens.filter (fun g => g != s.gen) }) a) d
  let here := placed.filterMap (fun x => stripePos d s x.pos)
  let d2 := if here.isEmpty then d1 else { d1 with
    str.rows := tmod d1.str.rows (rkey s.shoal s.row) (fun x => { x with omitted := here.foldl clearBit x.omitted }) }
  countRow s.shoal (modSubst s.shoal u.idx (fun y => advanceSubst { y with building := y.building.filter (fun g => g != s.gen) }) d2)

/-- Write the rebuilt strips of a row to the targets of the substitutions that have taken it (R186, R188, R189). -/
def buildRow (s : Stripe) (d : Dev) : Dev :=
  ((runningSubsts d s.shoal).filter (fun u => u.building.contains s.gen)).foldl (fun a u =>
    match rowWrites a s u with
    | none => countRow s.shoal (modSubst s.shoal u.idx (unplace s.gen) a)
    | some [] => finishRow s u a
    | some ws => ws.foldl (fun b w => memberIssue w.1 (.rebuildWrite s.shoal s.row w.2) b) a) d

/-- REBUILD_ROW (R186, R189, R190): the strips of every substituted position of the next row in GEN order are copied or reconstructed
and written to their targets; `bad` are the blocks, by position and offset, that its reads could not read or that failed a check
of 04 R108. Blocks beyond parity enter the lost-slot table before the row counts. -/
def rebuildRow (sh row : Nat) (bad : List (Nat × Nat)) (d : Dev) : Dev :=
  match rowAt d sh row with
  | none => settleSubsts sh d
  | some s =>
    let us := (runningSubsts d sh).filter (fun u => decide (max u.cursor u.reach < s.gen) && decide (s.gen < u.g0))
    let next := us.all (fun u => (rebuildLeft d sh u).all (fun t => decide (s.gen ≤ t.gen))) &&
      (inFlightGen d sh).all (fun g => decide (s.gen < g))
    if s.life ≠ .committed ∨ us.isEmpty ∨ !next then settleSubsts sh d
    else
      let ps := us.filterMap (fun u => rowPos d s u.pos)
      let (lost, d1) := readRow s bad ps d
      let d2 := us.foldl (fun a u => modSubst sh u.idx (fun y => { y with reach := s.gen, building := y.building ++ [s.gen] }) a) d1
      let d3 := occur 6 6 (lsum ps (rebuiltBlocks d s bad)) {} d2
      resumeRepairs (settleSubsts sh
        (if lost then writeLabels sh { d3 with shelf.labelWaits := d3.shelf.labelWaits ++ [.rebuilt sh row none] } else buildRow s d3))

/-- The lost-slot entries of a row are durable (R171): its strips are written. -/
def rowRecorded (sh row : Nat) (resync : Option Nat) (d : Dev) : Dev :=
  match rowAt d sh row with
  | none => d
  | some s => match resync with
    | some pos => resyncWrite sh pos s d
    | none => settleSubsts sh (buildRow s d)

/-- Is another rebuilt strip of a row on its way to a bay? -/
def stillBuilding (d : Dev) (sh row bay : Nat) : Bool :=
  let mine := fun (op : MemberOp) => match op with
    | .rebuildWrite a b _ => a == sh && b == row
    | _ => false
  d.shelf.cmds.any (fun e => e.2.bay == bay && mine e.2.op) || d.shelf.heldOps.any (fun e => e.1 == bay && mine e.2)

/-- A rebuilt or resynced strip is durable at its target (R182, R186). -/
def builtDone (mcid : Nat) (d : Dev) : Dev :=
  match tget d.shelf.cmds mcid with
  | none => d
  | some c => match c.op with
    | .rebuildWrite sh row pos =>
      if c.phase = .queued then d
      else
        let d1 := occur 6 2 131072 (memberAttr c.bay 1) (memberEnd mcid d)
        match rowAt d1 sh row with
        | none => d1
        | some s =>
          let lp := labelPos d1 (stripeGeom d1 s) pos
          let rs := (resyncOf d1 sh lp).any (fun r => r.building.contains s.gen && rosterBay d1 sh lp == c.bay)
          let d2 := if rs then resyncAdvance sh lp (countRow sh (modResync sh lp (fun r =>
              { r with building := r.building.filter (fun g => g != s.gen), doneGens := r.doneGens ++ [s.gen] }) d1))
            else if stillBuilding d1 sh row c.bay then d1
            else ((runningSubsts d1 sh).filter (fun u => u.building.contains s.gen &&
              substTo d1 (stripeGeom d1 s) row u == some c.bay)).foldl (fun a u => finishRow s u a) d1
          tryFree sh row (settleSubsts sh d2)
    | _ => d

/-- A configuration record is durable on its member, which may have been the last that one on its way to ONLINE was to take (12 R382). -/
def recordDone (mcid bay : Nat) (d : Dev) : Dev :=
  let d1 := recordsWritten (fun m _ => m == mcid) d
  if recordsOpen d1 bay then d1
  else match rosterOfBay d1 bay with
    | some (sh, pos) => settleSubsts sh (resyncAdvance sh pos d1)
    | none => match shoalOfBay d1 bay with
      | some sh => settleSubsts sh d1
      | none => d1

/-- STRIP_WRITE_COMPLETE (04 R114): a strip write, the write of a rebuilt or resynced strip, patrol's rewrite of a parity strip, or the write
of a configuration record. -/
def memberWriteDone (mcid : Nat) (d : Dev) : Dev :=
  match tget d.shelf.cmds mcid with
  | none => d
  | some c => match c.op with
    | .rebuildWrite _ _ _ => builtDone mcid d
    | .recordWrite _ _ => recordDone mcid c.bay d
    | _ => stripWriteDone mcid d

/-! ## The map scan (R190, R195) -/

/-- The map pages that list a grain of the namespaces of a Shoal. -/
def shoalPages (d : Dev) (sh : Nat) : List Nat :=
  ((d.str.map.filter (fun e => thas d.host.nss (e.1 / 2 ^ 40) && nsShoal d (e.1 / 2 ^ 40) == sh)).map (fun e =>
    mapPage d (e.1 / 2 ^ 40) (e.1 % 2 ^ 40))).eraseDups

/-- A page has been passed for a listed slot; a slot for which every page of its Shoal's namespaces has been passed since it entered, and
that none names, was dead (R190). -/
def passPage (page : Nat) (q : Place) (d : Dev) : Dev :=
  let seen := (((d.shelf.scanPassed.find? (fun x => x.1 == q)).map (·.2)).getD [] ++ [page]).eraseDups
  if (shoalPages d q.shoal).all (fun g => seen.contains g) then deadSlot q d
  else { d with shelf.scanPassed := d.shelf.scanPassed.filter (fun x => x.1 != q) ++ [(q, seen)] }

/-- LOST_SLOT_SCAN (R190, R195): the scan passes a map page of a namespace: every grain of it that names a listed slot is marked LOST. -/
def lostScan (nsid page : Nat) (d : Dev) : Dev :=
  let gs := (d.str.map.filter (fun e => e.1 / 2 ^ 40 == nsid && e.1 % 2 ^ 40 / 512 == page)).map (fun e => (e.1 % 2 ^ 40, e.2))
  let d1 := gs.foldl (fun a x => match x.2 with
    | .mapped p => resolveSlot nsid x.1 p a
    | _ => a) d
  let g := mapPage d nsid (512 * page)
  ((d1.shelf.lostSlots ++ d1.shelf.scanOnly).filter (fun x => x.1.shoal == nsShoal d nsid)).foldl (fun a x => passPage g x.1 a) d1

/-- LOST_SLOT_SCAN (R190). -/
def execLostSlotScan (nsid page : Nat) (s : State) : Result := onDev s (lostScan nsid page)

/-! ## Labels (R169, R171) -/

/-- SMART_POLL (R169): Critical Warning bits are kept for the Lighthouse; waiting deallocates are sent. -/
def execSmartPoll (bay warning : Nat) (s : State) : Result :=
  onDev s (fun d => sendDeallocs bay { d with shelf.drives := tmod d.shelf.drives bay (fun v => { v with warning := warning % 256 }) })

/-- LABEL_PROPAGATE (R171): changes reach every ONLINE member. -/
def execLabelPropagate (shoal : Nat) (s : State) : Result :=
  onDev s (fun d => if d.shelf.labelDirty.contains shoal then propagate shoal d else d)

/-- Is a label write of a Shoal under way, or waiting behind another? -/
def labelWriting (d : Dev) (f : Nat → Bool) : Bool :=
  let mine := fun (op : MemberOp) => match op with
    | .labelWrite _ c => f c.shoal
    | _ => false
  d.shelf.cmds.any (fun e => mine e.2.op) || d.shelf.heldOps.any (fun e => mine e.2)

/-- The newer of two labels of a Shoal. -/
def newerLabel (t : Table ShoalLabel) (c : LabelCopy) : Table ShoalLabel :=
  if c.shoal = 0xFF then t
  else match tget t c.shoal with
    | some l => if c.label.labelSeq < l.labelSeq then t else tput t c.shoal c.label
    | none => tput t c.shoal c.label

/-- The label writes of a Shoal that were sent are complete (R171): the copies stand on their members, and a member whose label changed in
the meantime is written its other copy. -/
def labelsWritten (sh : Nat) (d : Dev) : Dev :=
  let sent := fun (c : MemberCmd) => c.phase != .queued && (match c.op with
    | .labelWrite _ i => i.shoal == sh
    | _ => false)
  let ended := d.shelf.cmds.filter (fun e => sent e.2)
  let done := ended.filterMap (fun e => match e.2.op with
    | .labelWrite b i => some (2 * e.2.bay + b2n b, i)
    | _ => none)
  let d0 := countWritten 65536 ended d
  let again := d.shelf.labelAgain.filter (fun b => done.any (fun x => x.1 / 2 == b))
  let d1 := endCmds sent { d0 with
    shelf.labelCopies := done.foldl (fun t x => tput t x.1 x.2) d.shelf.labelCopies
    shelf.onMembers := done.foldl (fun t x => newerLabel t x.2) d.shelf.onMembers
    shelf.labelAgain := d.shelf.labelAgain.filter (fun b => !again.contains b) }
  again.foldl (fun a b => writeLabel sh b a) d1

/-- LABEL_WRITE_DONE (R171): a Shoal's label writes are complete, and once none is left what waited on a dependent change proceeds. A Lost
Range Acknowledge completes when no Shoal's label is being written any more (07 R227). -/
def labelDone (sh : Nat) (d : Dev) : Dev :=
  let d1 := labelsWritten sh d
  if labelWriting d1 (fun x => x == sh) then d1
  else
    let idle := !labelWriting d1 (fun _ => true)
    let mine := d1.shelf.labelWaits.filter (fun w => match w with
      | .issue s _ => s == sh
      | .fold s _ => s == sh
      | .rebuilt s _ _ => s == sh
      | .ack _ _ _ => idle)
    mine.foldl (fun a w => match w with
      | .issue s r => tryIssue s r a
      | .fold s p => clearLateIn (fun x => (resyncOf a s p).any (fun r => r.regions.contains (resyncRegion x.row))) s p a
      | .rebuilt s r p => rowRecorded s r p a
      | .ack c cid n => answerAdmin c cid ok n a)
      { d1 with shelf.labelWaits := d1.shelf.labelWaits.filter (fun w => !mine.contains w) }

/-- LABEL_WRITE_DONE (R171). -/
def execLabelWriteDone (shoal : Nat) (s : State) : Result :=
  onMbox s (fun d => maybeCheckpoint (aroundAll (judgeFolds (labelDone shoal d))))

/-! ## The label as it stands on a member (R170, R181, R184, R194) -/

/-- The 32 bytes of a roster entry. -/
def rosterBytes (e : RosterEntry) : List Byte :=
  leBytes e.bay 1 ++ leBytes (memberNum e.state) 1 ++ leBytes 0 2 ++ leBytes e.labelGen 8 ++ leBytes e.serial 20

/-- ROSTER: 32 entries by position; bays still EVACUATING follow the members (log entry 34). -/
def rosterArea (l : ShoalLabel) : List Byte :=
  let members := l.roster.filter (fun e => decide (e.1 < 32))
  let width := members.foldl (fun a e => max a (e.1 + 1)) 0
  let leaving := l.roster.filter (fun e => decide (32 ≤ e.1))
  (List.range 32).flatMap (fun i => match tget members i with
    | some e => rosterBytes e
    | none => match (if width ≤ i then leaving[i - width]? else none) with
      | some e => rosterBytes e.2
      | none => leBytes 0 32)

/-- The 32 bytes of a substitution record (R184). -/
def substBytes (o : Option Subst) : List Byte :=
  match o with
  | none => leBytes 0xFF 32
  | some u => leBytes u.pos 1 ++ leBytes u.kind 1 ++ leBytes u.target 1 ++ leBytes u.state 1 ++ leBytes 0 4 ++ leBytes u.g0 8
      ++ leBytes u.cursor 8 ++ leBytes u.unplaced 8

/-- The 4 KiB of a resync slot (R181). -/
def resyncBytes (o : Option Resync) : List Byte :=
  match o with
  | none => leBytes 0xFF 4096
  | some r => leBytes r.pos 8 ++ leBytes r.gA 8 ++ leBytes r.gR 8 ++ leBytes 0 40 ++ leBytes (bitsOf r.regions) 2048 ++ leBytes 0 1984

/-- The 64 bytes of a Lost Range log entry (R194). -/
def lostBytes (e : LostEntry) : List Byte :=
  leBytes (checked (leBytes e.seq 8 ++ leBytes e.nsid 4 ++ leBytes e.count 4 ++ leBytes e.lba 8 ++ leBytes e.asn 8
    ++ leBytes e.cause 1 ++ leBytes (b2n e.resolved + 2 * b2n e.dead + 4 * b2n e.filled + 8 * b2n e.superseded) 1
    ++ leBytes e.shoal 1 ++ leBytes 0 1 ++ leBytes e.row 4 ++ leBytes e.slot 2 ++ leBytes 0 6 ++ leBytes e.timeS 6 ++ leBytes e.timeNs 4
    ++ leBytes 0 2)) 64

/-- Bytes 0 to 4,091 of a label copy (R170). -/
def labelHead (c : LabelCopy) : List Byte :=
  let l := c.label
  [0x57#8, 0x58#8, 0x4D#8, 0x42#8] ++ leBytes 1 2 ++ leBytes 0 2 ++ leBytes l.labelSeq 8 ++ leBytes c.shelfId 16
    ++ leBytes c.shoal 1 ++ leBytes c.pos 1 ++ leBytes c.bay 1 ++ leBytes (memberNum c.state) 1 ++ leBytes c.serial 20 ++ leBytes c.labelGen 8
    ++ rosterArea l ++ (List.range 4).flatMap (fun i => substBytes (l.subst.find? (fun u => u.idx == i)))
    ++ leBytes l.patrolRow 4 ++ leBytes l.patrolPasses 4 ++ leBytes l.lostOverflow 8 ++ leBytes l.rows 4 ++ leBytes 0 4
    ++ (List.range 32).flatMap (fun b => leBytes ((tget l.caps b).getD 0) 8) ++ leBytes 0 2596

/-- The 64 KiB of a label copy (R170): head, CHECK, resync slots, Lost Range log. -/
def labelImage (c : LabelCopy) : List Byte :=
  let h := labelHead c
  h ++ leBytes (crc32c h).toNat 4 ++ (List.range 3).flatMap (fun i => resyncBytes (c.label.resync.find? (fun r => r.idx == i)))
    ++ (List.range 768).flatMap (fun i => match c.label.lost[i]? with
      | some e => lostBytes e
      | none => leBytes 0 64)

/-! ## Patrol (R196 to R198) -/

/-- May patrol read a row (R196)? -/
def patrolReads (d : Dev) (s : Stripe) : Bool :=
  s.life == .committed && s.late == 0#32 && (missingPos d s).isEmpty && !hasLostSlot d s.shoal s.row

/-- The patrol position moves past a row (R198); past the last LIVE row a pass is complete. -/
def patrolStep (sh row : Nat) (d : Dev) : Dev :=
  let l := labelOf d sh
  let last := d.str.rows.all (fun e => e.2.shoal != sh || e.2.life != .committed || decide (e.2.row ≤ row))
  let l1 := if last then { l with patrolRow := 0, patrolPasses := l.patrolPasses + 1 } else { l with patrolRow := row + 1 }
  { d with shelf.labels := tput d.shelf.labels sh l1 }

/-- The row that patrol reads next: the lowest LIVE row from its position on (R196). -/
def patrolNext (d : Dev) (sh : Nat) : Option Nat :=
  (((d.str.rows.map (·.2)).filter (fun s => s.shoal == sh && s.life == .committed && decide ((labelOf d sh).patrolRow ≤ s.row))).map (·.row)).foldl
    (fun a r => match a with
      | none => some r
      | some b => some (min b r)) none

/-- Each parity that patrol recomputes against the stored one (R196, 04 R103): the difference that the strips' differences from what was
written make. -/
def syndromes (d : Dev) (s : Stripe) (diffs : List (Nat × Nat)) : List Nat :=
  let g := stripeGeom d s
  let diff := fun (p : Nat) => ((diffs.find? (fun x => x.1 == p)).map (·.2)).getD 0
  let ds := (List.range (dataStrips g)).map (fun k => diff (dataPos g s.row k))
  (List.range g.parity).map (fun k => paritySum (stripSize g) k ds ^^^ diff ((rowOffset g s.row + k) % max g.width 1))

/-- The data strips that the syndromes of P and Q point at (R197). -/
def syndromeHits (g : ShoalCfg) (syn : List Nat) : List Nat :=
  let p := syn.getD 0 0
  let q := syn.getD 1 0
  if g.parity < 2 ∨ p = 0 then [] else (List.range (dataStrips g)).filter (fun k => gfShift (stripSize g) k p == q)

/-- What R197 makes of a row: the bad strip by the first method that names exactly one: the checks of 04 R108, the stored parity strips, the
syndromes of P and Q. -/
def judgePatrol (d : Dev) (s : Stripe) (r : PatrolRead) : PatrolResult :=
  let g := stripeGeom d s
  let syn := syndromes d s r.diffs
  let off := (List.range syn.length).filter (fun k => syn.getD k 0 != 0)
  if off.isEmpty then .equal
  else match r.failed with
    | [p] => .badStrip p
    | _ => match off with
      | [k] => .badStrip ((rowOffset g s.row + k) % max g.width 1)
      | _ => match syndromeHits g syn with
        | [k] => .badStrip (dataPos g s.row k)
        | _ => .unnamed

/-- PATROL_ROW (R196, R197): the next row in ascending order, while the profile has PATROL set, PRESS does not last, and neither power
capping (14 R435) nor PS3 (07 R233) stops it. A strip that fails the checks of 04 R108 is a block error of its member (R174). -/
def patrol (sh row : Nat) (r : PatrolRead) (d : Dev) : Dev :=
  if (profileOf d).patrol ≠ 1 ∨ 2 ≤ d.pool.level ∨ 1 ≤ d.light.stage ∨ d.host.power = 3 ∨ patrolNext d sh ≠ some row then d
  else match rowAt d sh row with
    | none => d
    | some s =>
      if !patrolReads d s then patrolStep sh row d
      else
        let d1 := noteErrors 3 sh row (r.failed.map (fun p => (p, 0))) false d
        patrolStep sh row (match judgePatrol d s r with
          | .equal => if r.failed.isEmpty then d1 else repairRow sh row [] d1
          | .badStrip p => repairRow sh row ((List.range 32).map (fun i => (p, i))) d1
          | .unnamed => logEvent 4 9 1 (payload row sh 0 0)
              ((List.range (stripeGeom d s).parity).foldl (fun a k =>
                let p := (rowOffset (stripeGeom d s) row + k) % max (stripeGeom d s).width 1
                match stripBay a s p with
                | some b => memberIssue b (.parityWrite sh row p) a
                | none => a) d1))

/-- PATROL_CURSOR_RECORD (R198): the position is recorded in the labels. -/
def execPatrolCursorRecord (shoal : Nat) (s : State) : Result :=
  onDev s (fun d => if thas d.shelf.labels shoal then setLabel shoal (labelOf d shoal) d else d)

/-- RESYNC_ROW (R182). -/
def execResyncRow (shoal pos : Nat) (got : RowRead) (s : State) : Result :=
  onDev s (houseWork (resyncRow shoal pos got.row got.bad))

/-- REBUILD_ROW (R186). -/
def execRebuildRow (shoal : Nat) (got : RowRead) (s : State) : Result := onDev s (houseWork (rebuildRow shoal got.row got.bad))

/-- PATROL_ROW (R196). -/
def execPatrolRow (shoal row : Nat) (found : PatrolRead) (s : State) : Result := onDev s (houseWork (patrol shoal row found))

/-! ## The ends of a stripe's writes (04 R103, R114, R117, R128, R129) -/

/-- What follows a step in which stripes commit or LATE bits change: folds (R177), write-around at PRESS (03 R84) or, once it is over, the
repairs that waited (R197), record blocks that wait for a stripe (04 R133), and the checkpoint (04 R129). -/
def settleStripes (d : Dev) : Dev := maybeCheckpoint (openAllRecords (resumeRepairs (aroundAll (judgeFolds (ckptAdvance d)))))

/-- STRIP_WRITE_COMPLETE (04 R114). -/
def execStripWriteComplete (mcid : Nat) (s : State) : Result := onDev s (fun d => settleStripes (memberWriteDone mcid d))

/-- COMMIT_RETRY (04 R129): stripes held in DURABLE commit once records are free. -/
def execCommitRetry (s : State) : Result := onDev s (fun d => settleStripes (commitRetry d))

/-- PARITY_JOB_DONE (04 R114, 09 R302): a discarded job is issued again. -/
def execParityJobDone (shoal row : Nat) (ok : Bool) (s : State) : Result := onDev s (fun d => judgeFolds (parityDone shoal row ok d))

/-- KEEPER_WRITE_DONE (04 R117). -/
def execKeeperWriteDone (shoal : Nat) (s : State) : Result := onDev s (fun d => judgeFolds (keeperDone shoal d))

/-- FILL_RESOLVE (05 R154): a stripe whose block error was reconstructed is repaired (R174). -/
def execFillResolve (fill : FillRead) (s : State) : Result := onDev s (fun d => resumeRepairs (fillResolve fill.tag fill.bad d))

/-- ZERO_MASK_REWRITE (04 R132). -/
def execZeroMaskRewrite (nsid : Nat) (got : GrainRead) (s : State) : Result :=
  onDev s (fun d => resumeRepairs (zeroRewrite nsid got.grain got.bad d))

/-- EBB_RELOCATE (04 R136). -/
def execEbbRelocate (shoal : Nat) (got : RowRead) (cold : Bool) (s : State) : Result :=
  onDev s (houseWork (ebbRelocate shoal got.row cold got.bad))

end Sys2Proof.Machine
end

