-- ==== Sys2Proof/Machine/Reads.lean ====
section
/-! DEFINITION. Reads, Compares and Verifies after admission: the capture of their blocks (05 R151, R152), member reads and
joining (04 R137, R138), reconstruction and loss (06 R173, R174, R178, R190 to R192), and their completion (08 R272). -/

namespace Sys2Proof.Machine

/-! ## Commands in the tracker -/

/-- First LBA of a command. -/
def firstLba (c : Cmd) : Nat := ((c.ranges.head?).map (·.lba)).getD 0

/-- Replace an admitted command's fields. -/
def modCmd (tag : Nat) (f : Cmd → Cmd) (d : Dev) : Dev := { d with adm.cmds := tmod d.adm.cmds tag f }

/-- Set the source of block `i` of a read. -/
def setBlock (tag i : Nat) (b : BlockSource) (d : Dev) : Dev :=
  modCmd tag (fun c => { c with blocks := setNth c.blocks i b }) d

/-- Attributes of a command's occurrences: its Cove and command class (17 R489). -/
def cmdAttr (c : Cmd) : Attr :=
  { coveAttr c.cove with
    nsid := some c.nsid, lba := some (firstLba c)
    cclass := some (if isRead c.kind then 0 else if isWrite c.kind then 1 else 2) }

/-- What a completion names of a command; a failing block names the first LBA of its grain (07 R225). -/
def cmdEnd (c : Cmd) (lba : Nat) : IoEnd :=
  { cntlid := c.cntlid, sqid := c.sqid, cid := c.cid, nsid := c.nsid, nlb := lsum c.ranges (·.len), lba := lba, asn := c.asn }

/-- An admitted command completes with a status (07 R214, 11 R351, 05 R150): a read or write that succeeds is counted with
its bytes, and the command is settled. -/
def endCmdAt (tag : Nat) (st : Status) (lba : Nat) (d : Dev) : Dev :=
  match tget d.adm.cmds tag with
  | none => d
  | some c =>
    if c.completed then d
    else
      let bytes := 4096 * lsum c.ranges (·.len)
      let d1 := if st ≠ ok then d
        else if isRead c.kind then coveCount c.cove 3 bytes (coveCount c.cove 1 1 d)
        else if c.kind = .write then coveCount c.cove 4 bytes (coveCount c.cove 2 1 d)
        else if isWrite c.kind then coveCount c.cove 2 1 d else d
      settleCmd tag (decideIo (cmdEnd c lba) st c.silent
        (modCmd tag (fun x => { x with completed := true, settled := true }) d1))

/-- Complete a command, naming its first LBA. -/
def endCmd (tag : Nat) (st : Status) (d : Dev) : Dev :=
  endCmdAt tag st (((tget d.adm.cmds tag).map firstLba).getD 0) d

/-! ## Capture (R151, R152) -/

/-- A read takes the stored value of a block. -/
def takeStored (tag i : Nat) (p : Place) (d : Dev) : Dev :=
  let (v, d1) := fetchStored p d
  setBlock tag i (.value v) d1

/-- A member read that a read may join (04 R138): of the same slot, issued no longer ago than COALESCE, with fewer than 64
joined to it. -/
def joinable (d : Dev) (p : Place) : Option Nat :=
  let c := (chartOf d).storage.coalesce
  (d.shelf.cmds.find? (fun e => e.2.op == .readBlock p && !e.2.joined.isEmpty && c != 0 &&
    decide (elapsed d ≤ e.2.issuedAt + c * 1000) && decide (e.2.joined.length < 65))).map (·.1)

/-- Add a read to a member read. -/
def joinRead (m tag : Nat) (d : Dev) : Dev :=
  { d with shelf.cmds := tmod d.shelf.cmds m (fun c => { c with joined := c.joined ++ [tag] }) }

/-- A read waits on a member read for a block: it holds the row (04 R125). -/
def awaitMember (tag i m : Nat) (p : Place) (d : Dev) : Dev := addReaders p 1 (setBlock tag i (.member p) (joinRead m tag d))

/-- Capture a block that the map places in a slot (01 R19, R152, 04 R137, R138, 06 R178, R190): by joining a member read, from the Shallows,
by a member read or one that reconstructs it, or lost. -/
def captureStored (tag i nsid lba : Nat) (p : Place) (d : Dev) : Dev :=
  let at_ : Attr := { nsid := some nsid, lba := some lba }
  match joinable d p with
  | some m => awaitMember tag i m p (occur 5 11 1 at_ d)
  | none =>
    if shallowsHit p d then takeStored tag i p (shallowsTouch p (occur 5 9 1 at_ d))
    else
      let d1 := occur 5 10 1 at_ d
      match issueRead p d1 with
      | some (m, d2) => awaitMember tag i m p d2
      | none =>
        if (rowAt d1 p.shoal p.row).isNone then takeStored tag i p d1
        else setBlock tag i .lost (loseAt nsid lba p [] d1)

/-- Capture block `i` of a read where the ordering rule gives it a source (R151, R152). -/
def captureBlock (tag i : Nat) (d : Dev) : Dev :=
  match tget d.adm.cmds tag with
  | none => d
  | some c =>
    if c.blocks.getD i .lost ≠ .waiting then d
    else
      let lba := firstLba c + i
      let hit := fun (a : Dev) => if (lowerWrites a c.nsid lba c.asn).isEmpty then
        occur 5 3 1 { nsid := some c.nsid, lba := some lba } a else a
      match resolve d c.nsid lba c.asn with
      | .wait => d
      | .fetch p => fetchPage p d
      | .zero => setBlock tag i (.value 0) (hit d)
      | .data b => setBlock tag i (.value b.data) d
      | .lost =>
        let n := max (nsGrain d c.nsid) 1
        let d1 := match mapGet d c.nsid (lba / n) with
          | .mapped p => resolveSlot c.nsid (lba / n) p d
          | _ => d
        setBlock tag i .lost (hit d1)
      | .stored p => captureStored tag i c.nsid lba p (hit d)

/-- Is a member read of a place under way for a command? -/
def readUnderWay (d : Dev) (tag : Nat) (p : Place) : Bool :=
  d.shelf.cmds.any (fun e => e.2.op == .readBlock p && e.2.joined.contains tag)

/-- The blocks of a read that wait on a place. -/
def blocksOn (c : Cmd) (p : Place) : List Nat := (List.range c.blocks.length).filter (fun i => c.blocks.getD i .waiting == .member p)

/-- A member read that a read waited on is gone: the captured block is read again from the same place (R152), or is lost (06 R190). -/
def readAgain (tag : Nat) (p : Place) (d : Dev) : Dev :=
  match tget d.adm.cmds tag with
  | none => d
  | some c => match issueRead p d with
    | some (m, d1) => joinRead m tag d1
    | none => (blocksOn c p).foldl (fun a i => dropReader p (setBlock tag i .lost (loseAt c.nsid (firstLba c + i) p [] a))) d

/-- Captured blocks whose member read is gone are read again. -/
def rewait (tag : Nat) (d : Dev) : Dev :=
  match tget d.adm.cmds tag with
  | none => d
  | some c =>
    let gone := (c.blocks.filterMap (fun b => match b with
      | .member p => if readUnderWay d tag p then none else some p
      | _ => none)).eraseDups
    gone.foldl (fun a p => readAgain tag p a) d

/-- Capture every block that can be captured. -/
def captureAll (tag : Nat) (d : Dev) : Dev :=
  match tget d.adm.cmds tag with
  | none => d
  | some c => (List.range c.blocks.length).foldl (fun a i => captureBlock tag i a) d

/-- Deferred map changes that a capture has let go (R153), and its tracker record (R150). -/
def afterCapture (tag : Nat) (d : Dev) : Dev :=
  match tget d.adm.cmds tag with
  | none => d
  | some c =>
    let n := max (nsGrain d c.nsid) 1
    let gs := (d.str.deferred.filter (fun x => x.nsid == c.nsid && touchesGrain c.ranges x.grain n)).map (·.grain)
    settleCmd tag (gs.eraseDups.foldl (fun a g => applyDeferred c.nsid g a) d)

/-! ## Completion (R155, R192, R272) -/

/-- Is a block still without its value? -/
def blockPending : BlockSource → Bool
  | .waiting => true
  | .member _ => true
  | _ => false

/-- The first block that has failed, with its status. -/
def firstFailed (d : Dev) (c : Cmd) : List BlockSource → Nat → Option (Nat × Status)
  | [], _ => none
  | .lost :: _, i => some (i, vendor d c.cntlid 0x82 true 0)
  | .authFail :: _, i => some (i, vendor d c.cntlid 0x85 true 0)
  | _ :: r, i => firstFailed d c r (i + 1)

/-- The value of a block, once captured. -/
def blockValue : BlockSource → Nat
  | .value v => v
  | _ => 0

/-- Has the host's data of a Compare all come? -/
def compareReady (c : Cmd) : Bool := decide (4096 * lsum c.ranges (·.len) ≤ c.received)

/-- Does every compared block equal the host's? -/
def comparesEqual (c : Cmd) : Bool :=
  (List.range c.blocks.length).all (fun i => blockValue (c.blocks.getD i .lost) == (tget c.compareData i).getD 0)

/-- A read's blocks pass the cipher engines, one engine a block (12 R366, R367): each is decrypted at rest, a directed read's then takes
its directed pass in the same reserved engine; the data go to the network port (09 R298). -/
def readCells (tag : Nat) (c : Cmd) (vals : List Nat) (d : Dev) : Dev :=
  let port := ((tget d.net.qps c.qpn).map (·.port)).getD 0
  let one := fun (x : Dev × Nat) (v : Nat) =>
    let e := pickEngine x.1 c.transform.isSome
    let y := blockPass e c.cove c.nsid v (sendMessage mgmtStation (13 + e) (tag * 512 + x.2) 64 x.1)
    let z := match c.transform with
      | some (_, key, _) => (if c.kind = .read then occur 7 2 4096 (engineAttr e c.cove) else id) (enginePass e key v 64 y)
      | none => y
    (if c.kind = .read then cmdUnit (13 + e) [port] c.cove c.qpn (tag * 512 + x.2) 4096 z else z, x.2 + 1)
  (vals.foldl one (d, 0)).1

/-- Does the owner tag beside a directed job's key name its Cove and slot (12 R388)? -/
def ownerOk (c : Cmd) : Bool := c.transform.isNone || c.keyOwner == (c.keySlot.map (fun n => (c.cove, n)))

/-- A read with every block at hand completes, or hands its data to the transport: its completion waits until every packet is
acknowledged (R272). A directed job whose key another owner holds is discarded with Internal Error and a FAULT event (12 R388). -/
def finishRead (tag : Nat) (d : Dev) : Dev :=
  match tget d.adm.cmds tag with
  | none => d
  | some c =>
    if !isRead c.kind ∨ c.completed ∨ c.sent ∨ c.blocks.any blockPending ∨ (c.kind = .compare ∧ !compareReady c) then d
    else
      let n := max (nsGrain d c.nsid) 1
      match firstFailed d c c.blocks 0 with
      | some (i, st) => endCmdAt tag st ((firstLba c + i) / n * n) d
      | none => if !ownerOk c then logEvent 11 3 2 (payload c.cove (c.keySlot.getD 0) 0 0) (endCmd tag (gen 0x06) d) else
        let vals := c.blocks.map blockValue
        let d1 := readCells tag c vals d
        match c.kind with
        | .compare => endCmd tag (if comparesEqual c then ok else { sct := 2, sc := 0x85 }) d1
        | .read =>
          let out := match c.transform with
            | some (mode, key, iv) => directed mode key iv vals
            | none => vals
          netSend c.qpn (.readData tag)
            (emit (.readData c.cntlid c.sqid c.cid out) (modCmd tag (fun x => { x with sent := true }) d1))
        | _ => endCmd tag ok d1

/-- Start or carry on a read: capture, then complete what can complete. -/
def runRead (tag : Nat) (d : Dev) : Dev := finishRead tag (afterCapture tag (captureAll tag (rewait tag d)))

/-- READ_RESOLVE (R152). -/
def execReadResolve (tag : Nat) (s : State) : Result :=
  onDev s (fun d => match tget d.adm.cmds tag with
    | some c => if isRead c.kind then runRead tag d else d
    | none => d)

/-- Every data packet of a read is acknowledged: it completes (R272). -/
def readDelivered (tag : Nat) (d : Dev) : Dev :=
  match tget d.adm.cmds tag with
  | some c =>
    if !c.sent then d
    else match c.fail with
      | none => endCmd tag ok d
      | some st => settleCmd tag (modCmd tag (fun x => { x with completed := true, settled := true })
          (answer c.cntlid c.sqid c.cid st
            (if ((ctrlOf d c.cntlid).map (·.asnReport)).getD false then c.asn % 2 ^ 32 else 0) d))
  | none => d

/-- A read that ends early holds its rows no longer and leaves the member reads it joined. -/
def releaseBlocks (tag : Nat) (d : Dev) : Dev :=
  match tget d.adm.cmds tag with
  | none => d
  | some c =>
    let ps := c.blocks.filterMap (fun b => match b with
      | .member p => some p
      | _ => none)
    let d1 := { d with shelf.cmds := tall d.shelf.cmds (fun m => { m with joined := m.joined.filter (fun t => t != tag) }) }
    afterCapture tag (ps.foldl (fun a p => dropReader p a) (modCmd tag (fun x => { x with blocks := [] }) d1))

/-- Squash a read without a completion (07 R239). -/
def squashRead (tag : Nat) (d : Dev) : Dev :=
  settleCmd tag (modCmd tag (fun x => { x with completed := true, settled := true, sent := true }) (releaseBlocks tag d))

/-! ## Member reads (06 R173, R174, R178) -/

/-- Admit a grain that a read took from the members to the Shallows (04 R137): once the read, which covers it, has its last
block, where the 1 MiB range is hot enough (log entry 9). -/
def admitGrain (tag i : Nat) (p : Place) (d : Dev) : Dev :=
  match tget d.adm.cmds tag with
  | none => d
  | some c =>
    let n := max (nsGrain d c.nsid) 1
    let lba := firstLba c + i
    let g := lba / n
    let here := (run (g * n) n).all (fun l => !blockPending (c.blocks.getD (l - firstLba c) .waiting))
    if coversGrain c.ranges g n ∧ here ∧ (chartOf d).light.heatAdmit ≤ readHeat d c.nsid (lba / 256) then
      shallowsAdmit { place := grainPlace n lba p, blocks := n } d
    else d

/-- Hand what a member read brought to one read that joined it. -/
def deliverTo (tag : Nat) (p : Place) (src : BlockSource) (d : Dev) : Dev :=
  match tget d.adm.cmds tag with
  | none => d
  | some c =>
    let idx := (List.range c.blocks.length).filter (fun i => c.blocks.getD i .waiting == .member p)
    finishRead tag (idx.foldl (fun a i =>
      let a1 := setBlock tag i src a
      dropReader p (match src with
        | .value _ => admitGrain tag i p a1
        | _ => a1)) d)

/-- Hand it to every read that joined (04 R138). -/
def deliver (p : Place) (src : BlockSource) (tags : List Nat) (d : Dev) : Dev :=
  tags.foldl (fun a t => deliverTo t p src a) d

/-- What a read finds in a slot: NSID and LBA as the first read that joined knows them. -/
def namedBy (d : Dev) (p : Place) (tags : List Nat) : List (Nat × Nat) :=
  tags.filterMap (fun t => (tget d.adm.cmds t).map (fun c => (c.nsid, firstLba c + c.blocks.findIdx (fun b => b == .member p))))

/-- The block that a member read is to give (04 R108): what the row holds, or of a row of the partner's what its map entry names. -/
def expected (p : Place) (tags : List Nat) (d : Dev) : Block × Dev :=
  let (nsid, lba) := ((namedBy d p tags).head?).getD (0, 0)
  blockAt p nsid lba d

/-- A block that a read names is lost beyond reconstruction (06 R190, R191): each grain that names it becomes LOST. -/
def loseRead (p : Place) (bad : List (Nat × Nat)) (tags : List Nat) (d : Dev) : Dev :=
  match namedBy d p tags with
  | [] => loseSlot p (blockCause d p bad) ((rowAt d p.shoal p.row).any (fun s => metaReadable d s bad)) d
  | ns => deliver p .lost tags (ns.foldl (fun a x => loseAt x.1 x.2 p bad a) d)

/-- A block whose GCM check fails after reconstruction (04 R108, 06 R192): the grain becomes LOST with cause 5. -/
def authRead (p : Place) (tags : List Nat) (d : Dev) : Dev :=
  let d1 := (namedBy d p tags).foldl (fun a x =>
    let n := max (nsGrain a x.1) 1
    markLost x.1 (x.2 / n) (grainPlace n x.2 p) 5 none a) (occur 7 3 1 {} d)
  deliver p .authFail tags d1

/-- Reconstruct a block from the other strips (06 R178): `bad` are the blocks that cannot serve, its own among them. One that passes the
checks is delivered, and with `fix` its stripe repaired (R174, R197); one whose GCM check fails is lost with cause 5 (04 R108); what cannot
be reconstructed is lost (06 R190). -/
def rebuildBlock (p : Place) (recon : ReadBack) (bad : List (Nat × Nat)) (fix : Bool) (tags : List Nat) (d : Dev) : Dev :=
  match rowAt d p.shoal p.row with
  | none => loseRead p bad tags d
  | some s =>
    if !readableAt d p bad then loseRead p bad tags d
    else
      let (b, d1) := expected p tags d
      match checkBlock d1 s b recon with
      | .good v =>
        let d2 := deliver p (.value v) tags (occur 6 6 1 { nsid := some b.nsid, lba := some b.lba } d1)
        if fix then repairRow p.shoal p.row (bad.filter (fun x => (stripBay d s x.1).isSome)) d2 else d2
      | .gcm => authRead p tags d1
      | .bad => loseRead p bad tags d1

/-- The position and offset of a slot. -/
def ownAt (d : Dev) (p : Place) : Nat × Nat :=
  match rowAt d p.shoal p.row with
  | some s => slotPos (stripeGeom d s) s.row p.slot
  | none => (0, 0)

/-- What a member read brought (04 R108, 06 R174, R178): `res` of the block's own strip, `recon` of its reconstruction, `bad` the blocks of
other strips, by position and offset, that could not be read or failed a check. A block error counts for its member and is never reissued. -/
def readCame (c : MemberCmd) (p : Place) (res recon : ReadBack) (bad : List (Nat × Nat)) (d : Dev) : Dev :=
  match rowAt d p.shoal p.row with
  | none =>
    let (v, d1) := fetchStored p d
    deliver p (.value v) c.joined d1
  | some s =>
    let own := ownAt d p
    let (b, d1) := expected p c.joined d
    if c.recon then rebuildBlock p recon bad false c.joined (noteErrors 0 p.shoal p.row (badMet d p bad) true d1)
    else match checkBlock d1 s b res with
      | .good v => tryFree p.shoal p.row (deliver p (.value v) c.joined d1)
      | _ =>
        let met := badMet d p (own :: bad)
        rebuildBlock p recon (own :: bad) true c.joined (noteErrors 0 p.shoal p.row met false d1)

/-- The cells of a member read, from the drive complex to a cipher engine, in the class of the command's Cove (09 R296); those of a read
that no command waits on in HOUSEKEEPING_CLASS. -/
def memberCells (mcid : Nat) (c : MemberCmd) (d : Dev) : Dev :=
  let key := c.bay * 65536 + mcid % 65536
  match (c.joined.head?).bind (fun t => tget d.adm.cmds t) with
  | some x => cmdUnit (driveStation c.bay) [13 + pickEngine d x.transform.isSome] x.cove key mcid 4096 d
  | none => upkeepUnit (driveStation c.bay) [hbmStation mcid] key mcid 4096 d

/-- MEMBER_READ_COMPLETE (06 R174): a block error is reconstructed and repaired, counted, or becomes a loss. -/
def readComplete (mcid : Nat) (res recon : ReadBack) (bad : List (Nat × Nat)) (d : Dev) : Dev :=
  match tget d.shelf.cmds mcid with
  | none => d
  | some c => match c.op with
    | .readBlock p =>
      if c.phase = .queued then d
      else readCame c p res recon bad (occur 6 1 4096 (memberAttr c.bay (opClass c.op))
          (memberEnd mcid (memberCells mcid c d)))
    | _ => d

/-- MEMBER_READ_COMPLETE (06 R174). -/
def execMemberReadComplete (mcid : Nat) (res recon : ReadBack) (bad : List (Nat × Nat)) (s : State) : Result :=
  onDev s (fun d => maybeCheckpoint (resumeRepairs (readComplete mcid res recon bad d)))

/-- READ_SOFT_DEADLINE (06 R178): the block is reconstructed where the other strips allow, of which `late` are past READ_SOFT too and `bad`
could not be read; the member's own result is then discarded. -/
def softDeadline (mcid : Nat) (recon : ReadBack) (late : List Nat) (bad : List (Nat × Nat)) (d : Dev) : Dev :=
  match tget d.shelf.cmds mcid with
  | none => d
  | some c => match c.op, rowAt d (match c.op with
      | .readBlock p => p.shoal
      | _ => 0) (match c.op with
      | .readBlock p => p.row
      | _ => 0) with
    | .readBlock p, some s =>
      let own := ownAt d p
      let out := own :: late.flatMap (fun q => [(q, own.2), (q, 31)]) ++ bad
      if c.joined.isEmpty ∨ !readableAt d p out then d
      else
        let (b, d1) := expected p c.joined d
        match checkBlock d1 s b recon with
        | .good v =>
          let d2 := occur 6 6 1 { nsid := some b.nsid, lba := some b.lba } (noteErrors 0 p.shoal p.row (badMet d p (own :: bad)) true d1)
          deliver p (.value v) c.joined { d2 with shelf.cmds := tput d2.shelf.cmds mcid { c with joined := [] } }
        | _ => d
    | _, _ => d

/-- READ_SOFT_DEADLINE (06 R178). -/
def execReadSoftDeadline (got : LateRead) (s : State) : Result :=
  onDev s (fun d => resumeRepairs (softDeadline got.mcid got.recon got.late got.bad d))

/-- A reissued command that succeeded has its effect. -/
def memberDone (mcid : Nat) (c : MemberCmd) (res recon : ReadBack) (bad : List (Nat × Nat)) (d : Dev) : Dev :=
  match c.op with
  | .readBlock _ => readComplete mcid res recon bad d
  | .writeStrip _ _ _ | .rebuildWrite _ _ _ | .parityWrite _ _ _ | .recordWrite _ _ => memberWriteDone mcid d
  | .deallocate _ => deallocDone mcid d
  | _ => memberEnd mcid d

/-- A member becomes FAILED; the reads that waited on it read their captured blocks again (R152, 06 R178). -/
def failServing (bay : Nat) (d : Dev) : Dev :=
  let tags := ((d.shelf.cmds.filter (fun e => e.2.bay == bay)).flatMap (fun e => e.2.joined)).eraseDups
  tags.foldl (fun a t => runRead t a) (failBay bay d)

/-- MEMBER_REISSUE_COMPLETE (06 R173): success was a transient fault; failure makes the member FAILED. -/
def reissueComplete (mcid : Nat) (good : Bool) (res recon : ReadBack) (bad : List (Nat × Nat)) (d : Dev) : Dev :=
  match tget d.shelf.cmds mcid with
  | none => d
  | some c =>
    if c.phase ≠ .reissued then d
    else if good then memberDone mcid c res recon bad (transientFault c.bay d)
    else failServing c.bay d

/-- MEMBER_HARD_TIMEOUT (06 R173): the command is aborted; one that was reissued has failed for good. -/
def hardTimeout (mcid : Nat) (d : Dev) : Dev :=
  match tget d.shelf.cmds mcid with
  | none => d
  | some c =>
    let d1 := occur 6 3 1 (memberAttr c.bay (opClass c.op)) d
    if c.again then failServing c.bay d1
    else abortMember mcid d1

/-- MEMBER_HARD_TIMEOUT (06 R173). -/
def execMemberHardTimeout (mcid : Nat) (s : State) : Result := onDev s (fun d => settleStripes (hardTimeout mcid d))

/-- MEMBER_REISSUE_COMPLETE (06 R173). -/
def execMemberReissueComplete (mcid : Nat) (outcome : Reissue) (s : State) : Result :=
  onDev s (fun d => settleStripes (resumeRepairs (match outcome with
    | .failed => reissueComplete mcid false .error .error [] d
    | .good r => reissueComplete mcid true r.res r.recon r.bad d)))

end Sys2Proof.Machine
end

