-- ==== Sys2Proof/Machine/WriteData.lean ====
section
/-! DEFINITION. A Write's data: landing windows (08 R276 to R279), the arrival of data in blocks, staging, completion and the
absent end of a write (01 R17, 03 R82, 05 R150, 08 R275), and zero writes (04 R131, R132). -/

namespace Sys2Proof.Machine

/-- Bytes `off` to `off + len - 1` of a little-endian number replaced. -/
def putBytes (base off len v : Nat) : Nat :=
  base % 2 ^ (8 * off) + v % 2 ^ (8 * len) * 2 ^ (8 * off) + base / 2 ^ (8 * (off + len)) * 2 ^ (8 * (off + len))

/-! ## Landing windows -/

/-- The name under which a capsule holds landing slots. -/
def holderOf (c q cid : Nat) : Nat := (c * 65536 + q) * 65536 + cid

/-- Slots that a range of a landing window touches: the first and their number (R278). -/
def landSlots (off len : Nat) : Nat × Nat := (off / 65536, ceilDiv len 65536)

/-- A slot of a landing window. -/
def landSlot (l : Landing) (j : Nat) : LandSlot := (tget l.slots j).getD {}

/-- Does a range stand inside a window, slot aligned, with no slot held by another capsule (R277)? -/
def landOk (l : Landing) (off len holder : Nat) : Bool :=
  let (j, n) := landSlots off len
  off % 65536 == 0 && decide (off + len ≤ l.size) &&
    (run j n).all (fun i => (landSlot l i).heldBy.all (fun h => h == holder))

/-- Replace a queue pair's landing window. -/
def modLanding (qpn : Nat) (f : Landing → Landing) (d : Dev) : Dev :=
  { d with net.qps := tmod d.net.qps qpn (fun q => { q with landing := q.landing.map f }) }

/-- A capsule that passes R277 holds its slots from its delivery (R278). -/
def holdLanding (qpn off len holder : Nat) (d : Dev) : Dev :=
  match (qpOf d qpn).bind (·.landing) with
  | none => d
  | some l =>
    if landOk l off len holder then
      let (j, n) := landSlots off len
      modLanding qpn (fun w => { w with slots := (run j n).foldl (fun t i =>
        tput t i { (tget t i).getD {} with heldBy := some holder }) w.slots }) d
    else d

/-- Release the slots that a capsule holds (R278, R279): each generation goes up by one. -/
def releaseLanding (qpn holder : Nat) (d : Dev) : Dev :=
  modLanding qpn (fun w => { w with slots := tall w.slots (fun s =>
    if s.heldBy = some holder then { s with heldBy := none, gen := (s.gen + 1) % 256, landed := [] } else s) }) d

/-- The bytes that have landed in a slot, as one number; bytes that have not landed read 0 (log entry 5). -/
def landedNum (s : LandSlot) : Nat := s.landed.foldl (fun b f => putBytes b f.1 f.2.1 f.2.2) 0

/-- Block `i` of the data at an offset of a window. -/
def landedBlock (l : Landing) (off i : Nat) : Nat :=
  let a := off + 4096 * i
  bits (landedNum (landSlot l (a / 65536))) (8 * (a % 65536) + 32767) (8 * (a % 65536))

/-! ## Completion and absence of a write -/

/-- Has the partner acknowledged the mirror frames up to an MSEQ, where the pair needs it (13 R401, R412)? -/
def mirrorAcked (d : Dev) (m : Nat) : Bool := !(d.pair.role == .active && d.pair.partner == 2) || decide (m ≤ d.pair.ackMseq)

/-- May a write complete without more ado (R17, 05 R159, 13 R412): its mirror copies are acknowledged, those of pages that are released
already by now and those of its records, and no entry into SOLO waits for its record? -/
def mirrorDone (d : Dev) (c : Cmd) : Bool :=
  c.pages.all (fun o => o.all (pageMirrored d)) && mirrorAcked d c.lastMseq && !(d.pair.recordPending && d.pair.recordRole == some .solo)

/-- Are all of a write's pages STAGED or SEALED, or released after commit? A block that waits for a page is not. -/
def pagesStaged (d : Dev) (c : Cmd) : Bool :=
  decide (4096 * lsum c.ranges (·.len) ≤ c.received) &&
    c.pages.all (fun o => match o with
      | some p => (tget d.pool.pages p).any (fun g => g.life == .staged || g.life == .sealed)
      | none => c.released)

/-- Is a write's own part done: its pages STAGED, or the records of a zero write in MAPLOG (04 R131, R132)? -/
def writeReady (d : Dev) (c : Cmd) : Bool :=
  if c.kind = .write then pagesStaged d c else (c.kind == .writeZeroes || c.kind == .dealloc) && c.logged

/-- A write completes once it is in both pools (R17). -/
def tryCompleteWrite (tag : Nat) (d : Dev) : Dev :=
  match tget d.adm.cmds tag with
  | none => d
  | some c => if !c.completed ∧ !c.absent ∧ writeReady d c ∧ mirrorDone d c then endCmd tag ok d else d

/-- Try every write that has not completed: the mirror or the pair's role has changed. -/
def tryCompleteAll (d : Dev) : Dev := d.adm.cmds.foldl (fun a e => if e.2.completed then a else tryCompleteWrite e.1 a) d

/-- A write ends absent (03 R82, 05 R150): its pages are released without sealing and its credits return; it completes with
a status, or with none. -/
def absentWrite (tag : Nat) (st : Option Status) (d : Dev) : Dev :=
  match tget d.adm.cmds tag with
  | none => d
  | some c =>
    if c.completed ∨ c.absent then d
    else
      let d1 := modCmd tag (fun x => { x with pages := [], credits := 0, absent := true, part := [], toPlace := [] })
        (releaseLanding c.qpn (holderOf c.cntlid c.sqid c.cid) d)
      let d2 := resumePages (returnCredits c.cove c.credits c.space (releasePages (c.pages.filterMap id)
        { d1 with pool.blockWaits := d1.pool.blockWaits.filter (fun x => x.1 != tag) }))
      match st with
      | some s => endCmd tag s d2
      | none => settleCmd tag (modCmd tag (fun x => { x with completed := true, settled := true }) d2)

/-! ## Data -/

/-- A whole block of a command's data: a page of a Write, or the data of a Compare. -/
def takeBlock (tag i v : Nat) (d : Dev) : Dev :=
  match tget d.adm.cmds tag with
  | none => d
  | some c => if c.kind = .write then stageBlock tag i v d
      else modCmd tag (fun x => { x with compareData := tput x.compareData i v }) d

/-- Part of a block arrives; a block whose bytes have all come is taken. -/
def takePart (tag i off len v : Nat) (d : Dev) : Dev :=
  match tget d.adm.cmds tag with
  | none => d
  | some c =>
    let (n, w) := (tget c.part i).getD (0, 0)
    let w1 := putBytes w off len v
    let d1 := modCmd tag (fun x => { x with received := x.received + len }) d
    if 4096 ≤ n + len then takeBlock tag i w1 (modCmd tag (fun x => { x with part := terase x.part i }) d1)
    else modCmd tag (fun x => { x with part := tput x.part i (n + len, w1) }) d1

/-- Cut data at block boundaries: block index, offset in it, length and value. -/
def blockParts : Nat → Nat → Nat → Nat → List (Nat × Nat × Nat × Nat)
  | 0, _, _, _ => []
  | k + 1, off, len, v =>
    if len = 0 then []
    else
      let n := min len (4096 - off % 4096)
      (off / 4096, off % 4096, n, v % 2 ^ (8 * n)) :: blockParts k (off + n) (len - n) (v / 2 ^ (8 * n))

/-- Data of a command arrives at an offset (08 R275): staged block by block; with its last byte a Compare goes on. Data past
the transfer is not placed. -/
def dataIn (tag off len v : Nat) (d : Dev) : Dev :=
  match tget d.adm.cmds tag with
  | none => d
  | some c =>
    let total := 4096 * lsum c.ranges (·.len)
    if c.completed ∨ c.absent ∨ total < off + len then d
    else
      let d1 := (blockParts (len / 4096 + 2) off len v).foldl (fun a x => takePart tag x.1 x.2.1 x.2.2.1 x.2.2.2 a) d
      finishRead tag d1

/-- Give a command its data source (R17 step 5, 08 R274, R277): in-capsule blocks and landed data are taken at once, data
in host memory is pulled. -/
def startData (tag : Nat) (cap : Capsule) (d : Dev) : Dev :=
  match tget d.adm.cmds tag with
  | none => d
  | some c =>
    let n := lsum c.ranges (·.len)
    match c.sgl with
    | .keyed _ _ _ => netSend c.qpn (.readRequest tag 0 (4096 * n)) d
    | .inCapsule _ => (List.range n).foldl (fun a i => dataIn tag (4096 * i) 4096 (cap.data.getD i 0) a) d
    | .landing off _ =>
      match (qpOf d c.qpn).bind (·.landing) with
      | none => d
      | some l => releaseLanding c.qpn (holderOf c.cntlid c.sqid c.cid)
          ((List.range n).foldl (fun a i => dataIn tag (4096 * i) 4096 (landedBlock l off i) a) d)
    | _ => d

/-- TIDE_POOL_WRITE_DONE (03 R86, R17): the page is STAGED, and its command completes when it can; not a page whose failed write waits to be
repeated (03 R70). -/
def poolWriteDone (page : Nat) (d : Dev) : Dev :=
  match tget d.pool.pages page with
  | none => d
  | some g =>
    if g.life ≠ .writing ∨ d.pool.repeatWaits.contains page then d
    else
      let d1 := { d with pool.pages := tput d.pool.pages page { g with life := .staged } }
      match d.adm.cmds.find? (fun e => e.2.pages.contains (some page)) with
      | some e => tryCompleteWrite e.1 d1
      | none => d1

/-- TIDE_POOL_WRITE_DONE (R17). -/
def execTidePoolWriteDone (page : Nat) (s : State) : Result := onDev s (poolWriteDone page)

/-! ## Zero writes (04 R131, R132) -/

/-- Change one grain of a zero write; a LOST grain's log entry notes that it was replaced (06 R193). -/
def zeroGrain (tag nsid g : Nat) (new : MapEntry) (asn : Nat) (d : Dev) : Dev :=
  let d1 := match mapGet d nsid g with
    | .lost _ => noteReplaced nsid (g * nsGrain d nsid) false d
    | _ => d
  changeGrain nsid g new asn (some tag) d1

/-- The mask of a range within a grain of `n` blocks. -/
def grainMask (r : Range) (g n : Nat) : Nat :=
  ((List.range n).filter (fun i => decide (r.lba ≤ g * n + i) && decide (g * n + i < r.lba + r.len))).foldl
    (fun m i => m + 2 ^ i) 0

/-- Runs of consecutive grains: first and number. -/
def grainRuns (gs : List Nat) : List (Nat × Nat) := pageRuns gs

/-- Records that a zero write needs in MAPLOG. -/
def zeroRecords (ranges : List Range) (n : Nat) (dealloc : Bool) : Nat :=
  lsum ranges (fun r => b2n (!(grainsCovered [r] n).isEmpty) +
    (if dealloc then 0 else ((grainsTouched [r] n).filter (fun g => !coversGrain [r] g n)).length))

/-- One range of a zero write: its UNMAP or ZERO record, the ZERO_MASK records of grains covered in part, and the changes. -/
def zeroRange (tag nsid asn : Nat) (dealloc : Bool) (r : Range) (d : Dev) : Dev :=
  let n := max (nsGrain d nsid) 1
  let whole := grainsCovered [r] n
  let part := if dealloc then [] else (grainsTouched [r] n).filter (fun g => !coversGrain [r] g n)
  let d1 := (grainRuns whole).foldl (fun a x => appendLog
    { type := if dealloc then 2 else 3, seq := 0, nsid := nsid, start := x.1 * n, count := x.2, asnLo := asn, asnHi := asn } a) d
  let d2 := part.foldl (fun a g =>
    let m := grainMask r g n
    let a1 := appendLog { type := 8, seq := 0, nsid := nsid, mask := m, start := g * n, count := 1, asnLo := asn, asnHi := asn } a
    { a1 with str.overlays := { nsid := nsid, grain := g, mask := m, asn := asn } :: a1.str.overlays }) d1
  whole.foldl (fun a g => zeroGrain tag nsid g (if dealloc then .unmapped else .zero) asn a) d2

/-- Carry out an admitted Write Zeroes or deallocate (R131, R132); on a pair it completes once the mirror copies of its records are
acknowledged (05 R159). A full record block goes into a stripe (04 R133). -/
def runZero (tag : Nat) (d : Dev) : Dev :=
  match tget d.adm.cmds tag with
  | none => d
  | some c =>
    let d1 := c.ranges.foldl (fun a r => zeroRange tag c.nsid c.asn (c.kind == .dealloc) r a) d
    let last := if d1.pair.txMseq = d.pair.txMseq then 0 else d1.pair.txMseq
    let d2 := openForRecords (nsShoal d1 c.nsid) (modCmd tag (fun x => { x with logged := true, lastMseq := last }) d1)
    tryCompleteWrite tag (maybeCheckpoint d2)

/-! ## The pool's own writes and scrub (03 R70, R77) -/

/-- TIDE_POOL_WRITE_FAILED (03 R70): the page is retired and the write repeated. A level that the smaller pool enters has its effect (03 R83,
R84). -/
def execTidePoolWriteFailed (page : Nat) (repeatOk : Bool) (s : State) : Result :=
  onDev s (fun d => aroundAll (judgeFloors (judgeLevel (writeFailed page repeatOk d))))

/-- POOL_SCRUB (03 R69, R77): a read of any unit of the pool by the device itself, the scrub's among them (log entry 34). -/
def execPoolScrub (page : Nat) (result : EccResult) (s : State) : Result :=
  onDev s (fun d => if page < 65536 then aroundAll (judgeFloors (judgeLevel (poolRead page result
    (upkeepUnit poolStation [mgmtStation] page page 4096 d)))) else d)

end Sys2Proof.Machine
end

