-- ==== Sys2Proof/Machine/Admission.lean ====
section
/-! DEFINITION. The admission of I/O capsules: the checks of 07 R208, the order of 05 R142, the assignment of ASNs (05 R145,
R146), waiting heads (03 R80), and what each admitted command starts. -/

namespace Sys2Proof.Machine

/-! ## Capsules (07 R207, R208) -/

/-- Is an I/O command a write for ordering (05 R143)? -/
def opWrites : IoOp → Bool
  | .write => true
  | .writeZeroes => true
  | .dsm => true
  | _ => false

/-- Is an I/O command a read for ordering? -/
def opReads : IoOp → Bool
  | .read => true
  | .compare => true
  | .verify => true
  | _ => false

/-- Blocks that a capsule names. -/
def capRanges (op : IoOp) (p : Capsule) : List Range :=
  match op with
  | .dsm => p.ranges
  | .flush => []
  | .resvRegister => []
  | .resvReport => []
  | .resvAcquire => []
  | .resvRelease => []
  | _ => [{ lba := p.slba, len := p.nlb }]

/-- Bytes of the data transfer that the SGL describes (10 R335). -/
def sglBytes (p : Capsule) : Nat :=
  match p.sgl with
  | .keyed _ _ n => n
  | .inCapsule n => n
  | .landing _ n => n
  | _ => 0

/-- Does a command move its blocks' data? -/
def movesData : IoOp → Bool
  | .write => true
  | .read => true
  | .compare => true
  | _ => false

/-- The SGL step (R207, 08 R277): descriptor type, length and landing window. -/
def checkSgl (d : Dev) (c q qpn : Nat) (op : IoOp) (p : Capsule) : Option Status :=
  if !movesData op then
    match p.sgl with
    | .other _ _ => some (gen 0x11)
    | _ => none
  else match p.sgl with
    | .keyed _ _ n => if n = 4096 * p.nlb then none else some (gen 0x0F)
    | .inCapsule n =>
      if op = .read then some (gen 0x11) else if n = 4096 * p.nlb ∧ n ≤ 4096 then none else some (gen 0x0F)
    | .landing off n =>
      if op ≠ .write then some (gen 0x11)
      else match (qpOf d qpn).bind (·.landing) with
        | none => some (gen 0x11)
        | some l =>
          if !landOk l off n (holderOf c q p.cid) then some (gen 0x16)
          else if n = 4096 * p.nlb then none else some (gen 0x0F)
    | _ => some (gen 0x11)

/-- Reserved fields and limits (R200, R208), and the transform's fields (R211, 12 R371). -/
def fieldsOk (d : Dev) (cove : Nat) (op : IoOp) (p : Capsule) : Bool :=
  let slot := tget d.keys.slots (cove * 16 + p.keySlot)
  let mode := if op = .read then
      if p.mode = 0 then p.iv == 0 else decide (p.mode ≤ 4) && (chartOf d).directedMask != 0
    else p.mode == 0
  let owned := p.mode == 0 || slot.any (fun s => s.loaded && bit s.modes (p.mode - 1))
  let limit := match op with
    | .write => decide (1 ≤ p.nlb) && decide (p.nlb ≤ 512)
    | .read => decide (1 ≤ p.nlb) && decide (p.nlb ≤ 512)
    | .compare => decide (1 ≤ p.nlb) && decide (p.nlb ≤ 512)
    | .writeZeroes => decide (1 ≤ p.nlb) && decide (p.nlb ≤ 8192)
    | .verify => decide (1 ≤ p.nlb) && decide (p.nlb ≤ 65536)
    | .dsm => decide (p.ranges.length ≤ 256) && p.ranges.all (fun r => decide (r.len ≤ 8388608)) &&
        decide (lsum p.ranges (·.len) ≤ 8388608)
    | .flush => true
    | _ => p.resv.isSome
  !p.reserved && mode && owned && limit

/-- The Shoal path's ANA state (R221). -/
def anaStatus (d : Dev) : Option Status :=
  if d.pair.role = .standby ∨ d.pair.role = .fenced then some { sct := 3, sc := 2 }
  else if d.host.anaChange then some { sct := 3, sc := 3 } else none

/-- Is a namespace attached to a controller (R199)? -/
def attached (d : Dev) (c nsid : Nat) : Bool :=
  match tget d.host.nss nsid with
  | none => false
  | some n => !n.creating && (c == 0 || n.coves.contains (ctrlCove d c))

/-- The first status of a list of checks. -/
def firstStatus : List (Option Status) → Option Status
  | [] => none
  | some s :: _ => some s
  | none :: r => firstStatus r

/-- Does a deletion of a namespace run (R201): from its drain on? -/
def deletes (d : Dev) (nsid : Nat) : Bool :=
  d.host.formatDrain.contains nsid && d.host.waits.any (fun w => w.kind == 1 && w.subject == nsid)

/-- The checks of R208 in their order; a namespace whose key is not at hand answers Namespace Not Ready (12 R384). -/
def checkCapsule (d : Dev) (c q qpn : Nat) (op : IoOp) (p : Capsule) : Option Status :=
  let all := op == .flush && p.nsid == 0xFFFFFFFF
  let ns := tget d.host.nss p.nsid
  let size := (ns.map (·.nsze)).getD 0
  let when_ := fun (b : Bool) (s : Status) => if b then some s else none
  firstStatus [
    when_ (!all && (!attached d c p.nsid || ns.any (fun n => n.fmt == .deleting) || deletes d p.nsid)) (gen 0x0B),
    when_ (!all && ns.any (fun n => !n.keyAvailable)) (gen 0x82),
    when_ (d.host.san.state == 1 || d.host.san.state == 3) (gen 0x1D),
    when_ (!all && (ns.any (fun n => n.fmt == .erasing) || d.host.formatDrain.contains p.nsid)) (gen 0x84),
    anaStatus d,
    when_ (!fieldsOk d (ctrlCove d c) op p) (gen 0x02),
    checkSgl d c q qpn op p,
    when_ (!all && (capRanges op p).any (fun r => decide (size < r.lba + r.len))) (gen 0x80),
    when_ (!all && opWrites op && ns.any (fun n => n.writeProtect != 0)) (gen 0x20)]

/-! ## What admission needs (05 R142) -/

/-- Commands admitted and not terminal. -/
def liveCmds (d : Dev) : Nat :=
  (d.adm.cmds.filter (fun e => !e.2.completed)).length + (d.host.waits.filter (fun w => w.kind == 10)).length

/-- Admitted commands of a Cove that are not terminal. -/
def coveLive (d : Dev) (cove : Nat) : Nat :=
  (d.adm.cmds.filter (fun e => !e.2.completed && e.2.cove == cove)).length +
    (d.host.waits.filter (fun w => w.kind == 10 && ctrlCove d w.cntlid == cove)).length

/-- The in-flight tag count of a Cove (11 R353): its admitted commands that are not terminal, and its command units in Prism. -/
def coveInflight (d : Dev) (cove : Nat) : Nat :=
  coveLive d cove + (d.path.units.filter (fun u => u.cmd.any (fun g => g.1 == cove))).length

/-- Put an interval of 64 KiB ranges among others, by its first. -/
def putSpan (x : Nat × Nat) : List (Nat × Nat) → List (Nat × Nat)
  | [] => [x]
  | y :: r => if x.1 ≤ y.1 then x :: y :: r else y :: putSpan x r

/-- 64 KiB ranges that a command touches, each counted once: its tracker links (05 R149). -/
def linksOf (rs : List Range) : Nat :=
  let spans := (rs.filter (fun r => r.len != 0)).foldr (fun r l => putSpan (r.lba / 16, (r.lba + r.len - 1) / 16 + 1) l) []
  (spans.foldl (fun (acc : Nat × Nat) x => (max acc.1 x.2, acc.2 + (x.2 - max acc.1 x.1))) (0, 0)).2

/-- Tracker range of a capsule (05 R143): a deallocate's grains covered wholly. -/
def trackRanges (d : Dev) (op : IoOp) (p : Capsule) : List Range :=
  let n := max (nsGrain d p.nsid) 1
  match op with
  | .dsm => if p.deallocate then
      p.ranges.filterMap (fun r =>
        let a := ceilDiv r.lba n
        let b := (r.lba + r.len) / n
        if a < b then some { lba := a * n, len := (b - a) * n } else none)
    else []
  | _ => capRanges op p

/-- Room in the overlap tracker (05 R149, 07 R206) and under the 65,536 commands of R205. -/
def trackerRoom (d : Dev) (rs : List Range) : Bool :=
  let recs := d.adm.cmds.filter (fun e => e.2.inTracker)
  let links := lsum recs (fun e => linksOf e.2.ranges)
  let need := linksOf rs
  decide (liveCmds d < 65536) &&
    (rs.isEmpty || (decide (recs.length < 65536) && decide (links + need ≤ 2162688) &&
      (decide (need ≤ 33) || decide (33 * (65535 - recs.length) ≤ 2162688 - links - need))))

/-- Data bytes admitted in the last so many nanoseconds. -/
def admittedSince (d : Dev) (ns : Nat) : Nat :=
  lsum (d.light.admitted.filter (fun a => decide (elapsed d < a.1 + ns))) (·.2)

/-- Would a command pass the ceiling C (14 R435)? C is in MB/s, judged over 1 ms (log entry 18). -/
def underCeiling (d : Dev) (bytes : Nat) : Bool :=
  decide (d.light.stage < 3) || bytes == 0 || decide (admittedSince d 1000000 + bytes ≤ d.light.ceiling * 1000)

/-- Is a queue's admission stopped: frozen (R214), a pause (R244), its Cove not ACTIVE or freezing (11 R342), or its
controller ending (R239, R240)? -/
def stopped (d : Dev) (c : Nat) (s : Sq) : Bool :=
  let cove := tget d.cove.tab (ctrlCove d c)
  let ctrl := ctrlOf d c
  s.frozen || !d.host.admissionOpen || d.host.admissionHeld ||
    !(cove.any (fun r => r.state == .active && r.freezing.isNone)) ||
    !(ctrl.any (fun k => k.enabled && k.shst == 0 && !k.draining && !k.ended))

/-- Does an earlier-waiting head of the same Cove hold a Write back (03 R80)? A head that is held for another reason than the Breakwater
does not wait for credits (log entry 35). -/
def behindCove (d : Dev) (c q : Nat) : Bool :=
  let cove := ctrlCove d c
  (d.pool.waiting.takeWhile (fun k => k != (c, q))).any (fun k =>
    ctrlCove d k.1 == cove && ((sqOf d k.1 k.2).any (fun s => !stopped d k.1 s && (s.held.head?).any (fun h => h.op == .write))))

/-- Must the next ASN of a namespace be written as its mark first (05 R146)? -/
def needsMark (d : Dev) (nsid : Nat) : Bool :=
  (tget d.host.nss nsid).any (fun n => (n.mustMark || n.nextAsn % 1048576 == 0) &&
    tget d.pool.marks nsid != some n.nextAsn)

/-- Does the mark that the next ASN needs stand, so that the ASN may be assigned (05 R146)? -/
def markStands (d : Dev) (nsid : Nat) : Bool := !needsMark d nsid && !(tget d.host.nss nsid).any (·.marking)

/-- Write the mark that the next ASN of a namespace needs (05 R146): the assignment waits until it is durable. -/
def askMark (nsid : Nat) (d : Dev) : Dev :=
  if (tget d.host.nss nsid).any (·.marking) ∨ !needsMark d nsid then d
  else writeMark nsid (((tget d.host.nss nsid).map (·.nextAsn)).getD 0)
    { d with host.nss := tmod d.host.nss nsid (fun n => { n with marking := true }) }

/-! ## Rejection -/

/-- Give back the in-capsule buffer of a capsule (07 R204). -/
def freeBuffer (h : HeldCapsule) (d : Dev) : Dev :=
  if h.buffer then { d with host.buffersUsed := d.host.buffersUsed - 1 } else d

/-- Take a capsule out of its queue, with its buffer and landing slots released (07 R204, 08 R278). -/
def dropCapsule (c q : Nat) (h : HeldCapsule) (d : Dev) : Dev :=
  let qpn := ((sqOf d c q).map (·.qpn)).getD 0
  releaseLanding qpn (holderOf c q h.cap.cid)
    (freeBuffer h (modSq c q (fun s => { s with held := s.held.erase h }) d))

/-- A capsule completes without being admitted: it takes no ASN (05 R142). -/
def rejectCapsule (c q : Nat) (h : HeldCapsule) (st : Status) (d : Dev) : Dev :=
  decideIo { cntlid := c, sqid := q, cid := h.cap.cid, nsid := h.cap.nsid, nlb := h.cap.nlb, lba := h.cap.slba } st false
    (dropCapsule c q h d)

/-! ## Admission -/

/-- Set the bits of a namespace's written-block log (11 R361). -/
def setWbl (nsid : Nat) (rs : List Range) (d : Dev) : Dev :=
  { d with cove.wbl := tmod d.cove.wbl nsid (fun w =>
      if w.running then { w with live := (w.live ++ heatRanges rs).eraseDups } else w) }

/-- Kind of an admitted command (05 R143). -/
def kindOf (op : IoOp) (p : Capsule) : CmdKind :=
  match op with
  | .write => .write
  | .writeZeroes => .writeZeroes
  | .dsm => if p.deallocate then .dealloc else .dsm
  | .compare => .compare
  | .verify => .verify
  | .flush => if p.nsid = 0xFFFFFFFF then .flushAll else .flush
  | _ => .read

/-- Has every write that a Flush waits for completed (05 R159, R160)? -/
def flushReady (d : Dev) (c : Cmd) : Bool :=
  !d.adm.cmds.any (fun e => isWrite e.2.kind && !e.2.completed &&
    c.bounds.any (fun b => b.1 == e.2.nsid && decide (e.2.asn < b.2)))

/-- Complete a Flush that waits for nothing more. -/
def tryFlush (tag : Nat) (d : Dev) : Dev :=
  match tget d.adm.cmds tag with
  | none => d
  | some c => if (c.kind = .flush ∨ c.kind = .flushAll) ∧ flushReady d c then endCmd tag ok d else d

/-- FLUSH_COMPLETE (05 R159). -/
def execFlushComplete (tag : Nat) (s : State) : Result := onDev s (tryFlush tag)

/-- Bounds of a Flush (05 R159, R160). -/
def flushBounds (d : Dev) (c : Nat) (p : Capsule) (asn : Nat) : List (Nat × Nat) :=
  if p.nsid = 0xFFFFFFFF then (d.host.nss.filter (fun e => attached d c e.1)).map (fun e => (e.1, e.2.nextAsn))
  else [(p.nsid, asn)]

/-- Is a write refused for want of the partner (13 R412)? -/
def partnerRefused (d : Dev) : Bool :=
  (chartOf d).pair.requirePartner == 1 && !(d.pair.role == .active && d.pair.partner == 2)

/-- Start an admitted command. -/
def startCmd (tag : Nat) (cap : Capsule) (d : Dev) : Dev :=
  match tget d.adm.cmds tag with
  | none => d
  | some c => match c.kind with
    | .write =>
      if partnerRefused d then absentWrite tag (some (vendor d c.cntlid 0x80 false 2)) d
      else startData tag cap d
    | .read => runRead tag d
    | .verify => runRead tag d
    | .compare => startData tag cap (runRead tag d)
    | .writeZeroes => runZero tag d
    | .dealloc => runZero tag d
    | .dsm => endCmd tag ok d
    | .flush => tryFlush tag d
    | .flushAll => tryFlush tag d

/-- The admitted command's record (05 R143, R149): its ASN, ranges, pages, stream and transform. -/
def newCmd (d : Dev) (c q qpn : Nat) (h : HeldCapsule) (asn credits : Nat) (sp : PoolSpace) : Cmd :=
  let p := h.cap
  let kind := kindOf h.op p
  let rs := trackRanges d h.op p
  let n := max (nsGrain d p.nsid) 1
  let cove := ctrlCove d c
  { kind := kind, cntlid := c, sqid := q, cid := p.cid, cove := cove
    nsid := p.nsid, asn := asn, ranges := rs, inTracker := !rs.isEmpty && (isWrite kind || isRead kind)
    sgl := p.sgl, qpn := qpn, key := nsKeyValue d p.nsid
    pages := if kind = .write then List.replicate p.nlb none else []
    credits := credits, space := sp
    blocks := if isRead kind then List.replicate p.nlb .waiting else []
    landing := match p.sgl with
      | .landing off len => landSlots off len
      | _ => (0, 0)
    transform := if kind = .read ∧ p.mode ≠ 0 then
        (tget d.keys.slots (cove * 16 + p.keySlot)).map (fun s => (p.mode, s.key, p.iv)) else none
    keySlot := if kind = .read ∧ p.mode ≠ 0 then some p.keySlot else none
    keyOwner := if kind = .read ∧ p.mode ≠ 0 then (tget d.keys.slots (cove * 16 + p.keySlot)).map (fun s => (s.cove, s.slot)) else none
    stream := writeStream d (curGeom d (nsShoal d p.nsid)).streams p.nsid p.slba
    toPlace := if kind = .write then grainsTouched rs n else []
    bounds := if kind = .flush ∨ kind = .flushAll then flushBounds d c p asn else [] }

/-- Admit the head of a queue (05 R142, R145): the namespace's next ASN, tracker record, credits, log bits and heat in one
step; then it starts. A Flush of every namespace takes no ASN. -/
def admitHead (c q : Nat) (s : Sq) (h : HeldCapsule) (credits : Nat) (sp : PoolSpace) (d : Dev) : Dev :=
  let p := h.cap
  let kind := kindOf h.op p
  let asn := if kind = .flushAll then 0 else ((tget d.host.nss p.nsid).map (·.nextAsn)).getD 0
  let x := newCmd d c q s.qpn h asn credits sp
  let tag := d.adm.nextTag
  let bytes := sglBytes p
  let d1 := freeBuffer h (modSq c q (fun s => { s with held := s.held.drop 1 }) d)
  let d2 := { d1 with
    host.nss := if kind = .flushAll then d1.host.nss
      else tmod d1.host.nss p.nsid (fun n => { n with nextAsn := n.nextAsn + 1, mustMark := false })
    adm.cmds := tput d1.adm.cmds tag x, adm.nextTag := tag + 1
    light.admitted := if bytes = 0 then d1.light.admitted
      else (elapsed d, bytes) :: d1.light.admitted.filter (fun a => decide (elapsed d < a.1 + 10000000)) }
  let d3 := if credits = 0 then d2 else chargeCredits x.cove credits sp d2
  let d4 := if isWrite kind then noteHeat true p.nsid x.ranges (setWbl p.nsid (capRanges h.op p) d3)
    else if isRead kind then noteHeat false p.nsid x.ranges d3 else d3
  let d5 := coveCount x.cove 0 1 (if h.yellow then coveCount x.cove 7 1 d4 else d4)
  aroundAll (startCmd tag p (occur 2 8 bytes (cmdAttr x) (occur 2 1 1 (cmdAttr x) d5)))

/-- Attributes of an occurrence about a capsule of a Cove (17 R489). -/
def capAttr (cove : Nat) (op : IoOp) (p : Capsule) : Attr :=
  let k := kindOf op p
  { coveAttr cove with
    nsid := some p.nsid, lba := ((capRanges op p).head?).map (·.lba)
    cclass := some (if isRead k then 0 else if isWrite k then 1 else 2) }

/-- What becomes of a queue's head: gone, left waiting, or not looked at. -/
inductive HeadOut where
  | gone (d : Dev)
  | waits (d : Dev)
  | idle (d : Dev)

/-- Police the head once (10 R335): some device when it may go on, with its colour noted, else the rejected device. -/
def policeHead (c q : Nat) (s : Sq) (h : HeldCapsule) (d : Dev) : Bool × HeldCapsule × Dev :=
  if h.policed then (true, h, d)
  else
    let cove := ctrlCove d c
    let (col, d1) := police cove (sglBytes h.cap) d
    match col with
    | .red => (false, h, rejectCapsule c q h (vendor d c 0x80 false 1)
        (coveCount cove 5 1 (occur 2 2 1 (capAttr cove h.op h.cap) d1)))
    | _ =>
      let y := col == .yellow
      let h1 := { h with policed := true, yellow := y }
      (true, h1, modSq c q (fun x => { x with held := h1 :: s.held.drop 1 })
        (if y then occur 2 3 1 (capAttr cove h.op h.cap) d1 else d1))

/-- The assignment step of R142 for a head that nothing else holds: the mark (05 R146), the reservation check (R208, R210),
and admission. -/
def assignHead (c q : Nat) (s : Sq) (h : HeldCapsule) (credits : Nat) (sp : PoolSpace) (d : Dev) : HeadOut :=
  let p := h.cap
  let r := resvOf d p.nsid
  let kind := kindOf h.op p
  match p.resv, (h.op == .resvRegister || h.op == .resvReport || h.op == .resvAcquire || h.op == .resvRelease) with
  | some a, true => .gone (runResv c q p.cid p.nsid h.op a (coveCount (ctrlCove d c) 0 1 (dropCapsule c q h d)))
  | none, true => .gone (rejectCapsule c q h (gen 0x02) d)
  | _, false =>
    if kind = .flushAll then .gone (admitHead c q s h credits sp d)
    else if resvConflict r (hostOf d c) (opReads h.op) then .gone (rejectCapsule c q h (gen 0x83) d)
    else if !markStands d p.nsid then .waits (askMark p.nsid d)
    else .gone (admitHead c q s h credits sp d)

/-- Records that a zero write's head needs and MAPLOG has free. -/
def logRoom (d : Dev) (h : HeldCapsule) : Bool :=
  let n := max (nsGrain d h.cap.nsid) 1
  match kindOf h.op h.cap with
  | .writeZeroes => decide (zeroRecords (capRanges h.op h.cap) n false ≤ logFree d)
  | .dealloc => decide (zeroRecords h.cap.ranges n true ≤ logFree d)
  | _ => true

/-- Take the head of a queue through R142: checks, policer, HALT, credits, free rows, tracker, ceiling, assignment. -/
def headStep (c q : Nat) (d : Dev) : HeadOut :=
  match sqOf d c q with
  | none => .idle d
  | some s => match s.held with
    | [] => .idle d
    | h :: _ =>
      if stopped d c s then .idle d
      else match (if h.policed then none else checkCapsule d c q s.qpn h.op h.cap) with
        | some st => .gone (rejectCapsule c q h st d)
        | none =>
          match policeHead c q s h d with
          | (false, _, d1) => .gone d1
          | (true, h1, d1) =>
            let cove := ctrlCove d c
            let sh := nsShoal d h.cap.nsid
            let n := if h.op = .write then creditsFor (sglBytes h.cap) else 0
            let first := !d.pool.waiting.contains (c, q)
            let note := fun (ev : Nat) (a : Dev) => if first then occur 2 ev 1 (capAttr cove h.op h.cap) a else a
            if cove ≠ 0 ∧ threshold (inService d1) 3 ≤ occupancy d1 then
              .gone (rejectCapsule c q h1 (vendor d1 c 0x84 false 1) (occur 2 4 1 (capAttr cove h.op h.cap) d1))
            else
              let gate : Gate := if h.op = .write then (if behindCove d1 c q then .wait else gateWrite d1 cove n)
                else .charge .shared
              match gate with
              | .exhausted => .gone (rejectCapsule c q h1 (vendor d1 c 0x84 false 1) (occur 2 4 1 (capAttr cove h.op h.cap) d1))
              | .wait => .waits (note 5 d1)
              | .charge sp =>
                if (h.op = .write ∨ h.op = .writeZeroes) ∧ !aboveReserve d1 sh then .waits (note 7 d1)
                else if !trackerRoom d1 (trackRanges d1 h.op h.cap) ∨ !logRoom d1 h then .waits (note 6 d1)
                else if !underCeiling d1 (sglBytes h.cap) then .waits d1
                else assignHead c q { s with held := h1 :: s.held.drop 1 } h1 n sp d1

/-- Admit from a queue until its head waits (03 R80): a head that begins to wait goes to the end of the order, and keeps its place while
its queue stands still. -/
def runQueue : Nat → Nat → Nat → Dev → Dev
  | 0, _, _, d => d
  | k + 1, c, q, d => match headStep c q d with
    | .gone d1 => runQueue k c q { d1 with pool.waiting := d1.pool.waiting.filter (fun x => x != (c, q)) }
    | .waits d1 => { d1 with pool.waiting := if d1.pool.waiting.contains (c, q) then d1.pool.waiting
                                             else d1.pool.waiting ++ [(c, q)] }
    | .idle d1 => if (sqOf d1 c q).any (fun s => !s.held.isEmpty) then d1
        else { d1 with pool.waiting := d1.pool.waiting.filter (fun x => x != (c, q)) }

/-- Run a queue as far as it goes. -/
def runSq (c q : Nat) (d : Dev) : Dev := runQueue (((sqOf d c q).map (fun s => s.held.length)).getD 0 + 1) c q d

/-- Retest the waiting heads in the order in which they began to wait (03 R80). The capsules behind a head that is admitted follow it before
the next waiting head is retested (log entry 35). -/
def retestHeads (d : Dev) : Dev := d.pool.waiting.foldl (fun a k => runSq k.1 k.2 a) d

/-- SQ_HEAD_RETEST (03 R80). -/
def execSqHeadRetest (s : State) : Result := onDev s retestHeads

/-- Controllers and queues of the I/O submission queues. -/
def allSqs (d : Dev) : List (Nat × Nat) := d.host.sqs.map (fun e => (e.1 / 65536, e.1 % 65536))

/-- Admission resumes at every head after a pause or a thaw: first those that wait, in their order (03 R80), then the others in queue
order. -/
def resumeAll (d : Dev) : Dev :=
  (d.pool.waiting ++ (allSqs d).filter (fun k => !d.pool.waiting.contains k)).foldl (fun a k => runSq k.1 k.2 a) d

/-- Check again the capsule that waits at the head of a queue (05 R142, 07 R208). -/
def recheckHead (c q : Nat) (d : Dev) : Dev :=
  match sqOf d c q with
  | none => d
  | some s => match s.held with
    | [] => d
    | h :: _ =>
      if s.frozen ∨ !h.policed then d
      else match checkCapsule d c q s.qpn h.op h.cap with
        | some st => runSq c q (rejectCapsule c q h st d)
        | none => d

/-- Check again the heads that wait (05 R142): a namespace entered ERASING or was deleted, or a Sanitize started. -/
def recheckHeads (d : Dev) : Dev := (allSqs d).foldl (fun a k => recheckHead k.1 k.2 a) d

/-- The mark stands on both sides (05 R146), and an assignment that waited proceeds. -/
def markDurable (nsid : Nat) (d : Dev) : Dev :=
  retestHeads { d with host.nss := tmod d.host.nss nsid (fun n => { n with marking := false }) }

/-! ## Arrival -/

/-- A capsule is delivered to its submission queue (07 R142, 08 R278): it holds its landing slots, and is taken in queue
order. -/
def submit (op : IoOp) (c q : Nat) (cap : Capsule) (d : Dev) : Dev :=
  match sqOf d c q with
  | none => d
  | some s =>
    let buf := match cap.sgl with
      | .inCapsule _ => true
      | _ => false
    let h : HeldCapsule := { op := op, cap := cap, buffer := buf }
    let d1 := wake (occur 2 0 1 (capAttr (ctrlCove d c) op cap) d)
    let d2 := match cap.sgl with
      | .landing off len => holdLanding s.qpn off len (holderOf c q cap.cid) d1
      | _ => d1
    let d3 := modSq c q (fun x => { x with held := x.held ++ [h] })
      (if buf then { d2 with host.buffersUsed := d2.host.buffersUsed + 1 } else d2)
    if d3.pool.waiting.contains (c, q) then d3 else runSq c q d3

/-- WRITE (R17, 05 R142). -/
def execWrite (cntlid sqid : Nat) (cap : Capsule) (s : State) : Result := onDev s (submit .write cntlid sqid cap)

/-- READ (R19, 05 R151). -/
def execRead (cntlid sqid : Nat) (cap : Capsule) (s : State) : Result := onDev s (submit .read cntlid sqid cap)

/-- FLUSH (05 R159, R160). -/
def execFlush (cntlid sqid : Nat) (cap : Capsule) (s : State) : Result := onDev s (submit .flush cntlid sqid cap)

/-- COMPARE (05 R155). -/
def execCompare (cntlid sqid : Nat) (cap : Capsule) (s : State) : Result := onDev s (submit .compare cntlid sqid cap)

/-- WRITE_ZEROES (04 R132). -/
def execWriteZeroes (cntlid sqid : Nat) (cap : Capsule) (s : State) : Result :=
  onDev s (submit .writeZeroes cntlid sqid cap)

/-- DATASET_MANAGEMENT (04 R131). -/
def execDatasetManagement (cntlid sqid : Nat) (cap : Capsule) (s : State) : Result :=
  onDev s (submit .dsm cntlid sqid cap)

/-- VERIFY (05 R155). -/
def execVerify (cntlid sqid : Nat) (cap : Capsule) (s : State) : Result := onDev s (submit .verify cntlid sqid cap)

/-- RESERVATION_REGISTER (07 R210). -/
def execReservationRegister (cntlid sqid : Nat) (cap : Capsule) (s : State) : Result :=
  onDev s (submit .resvRegister cntlid sqid cap)

/-- RESERVATION_REPORT (07 R210). -/
def execReservationReport (cntlid sqid : Nat) (cap : Capsule) (s : State) : Result :=
  onDev s (submit .resvReport cntlid sqid cap)

/-- RESERVATION_ACQUIRE (07 R210). -/
def execReservationAcquire (cntlid sqid : Nat) (cap : Capsule) (s : State) : Result :=
  onDev s (submit .resvAcquire cntlid sqid cap)

/-- RESERVATION_RELEASE (07 R210). -/
def execReservationRelease (cntlid sqid : Nat) (cap : Capsule) (s : State) : Result :=
  onDev s (submit .resvRelease cntlid sqid cap)

end Sys2Proof.Machine
end

