-- ==== Sys2Proof/Machine/QueuePairs.lean ====
section
/-! DEFINITION. The end of queue pairs and associations: teardown, the error state (08 R280 to R284), controller disable and
shutdown (07 R239, R240), and keep-alive expiry (07 R241). -/

namespace Sys2Proof.Machine

/-! ## Queue pairs -/

/-- Revoke a landing window (08 R280). -/
def revokeLanding (qpn : Nat) (d : Dev) : Dev := modLanding qpn (fun w => { w with revoked := true }) d

/-- Remove a queue pair's frames from the links: an error state sends nothing more (08 R281). -/
def purgeFrames (qpn : Nat) (d : Dev) : Dev :=
  let mine := fun (f : TxFrame) => f.kind == 2 && f.qpn == qpn
  let gone := d.sched.links.flatMap (fun l => l.2.coves.flatMap (fun q => q.2.frames.filter mine))
  gone.foldl (fun a f => epochOut f.stamp a)
    { d with sched.links := tall d.sched.links (fun l =>
        { l with coves := tall l.coves (fun q => { q with frames := q.frames.filter (fun f => !mine f) }) }) }

/-- Does an admitted write land when its queue pair ends: with its data wholly staged in the error state (08 R282), else with its data
wholly come, so that no pull fails (07 R239)? -/
def writeLands (d : Dev) (error : Bool) (c : Cmd) : Bool :=
  if error then pagesStaged d c else decide (4096 * lsum c.ranges (·.len) ≤ c.received)

/-- End the commands of a queue pair (08 R282, 07 R239): reads are squashed, a write that does not land ends absent, and no completion
is posted. -/
def endQpCmds (qpn : Nat) (error : Bool) (d : Dev) : Dev :=
  d.adm.cmds.foldl (fun a e =>
    let c := e.2
    if c.qpn ≠ qpn ∨ c.completed then a
    else if isRead c.kind then squashRead e.1 a
    else if c.kind = .write then
      if writeLands d error c then modCmd e.1 (fun x => { x with silent := true }) a else absentWrite e.1 none a
    else settleCmd e.1 (modCmd e.1 (fun x => { x with completed := true, settled := true, silent := true }) a)) d

/-- Discard every capsule of a submission queue and delete it; with a status each discarded capsule completes with it. -/
def deleteSq (c q : Nat) (st : Option Status) (d : Dev) : Dev :=
  match sqOf d c q with
  | none => d
  | some s =>
    let d1 := s.held.foldl (fun a h => match st with
      | some x => rejectCapsule c q h x a
      | none => dropCapsule c q h a) d
    { d1 with host.sqs := terase d1.host.sqs (sqKey c q)
              pool.waiting := d1.pool.waiting.filter (fun k => k != (c, q)) }

/-- Close a queue pair: nothing more leaves on it, its window is revoked and a connection manager disconnect goes out (08
R281, R284). -/
def closeQp (qpn : Nat) (d : Dev) : Dev :=
  match qpOf d qpn with
  | none => d
  | some q =>
    if q.disconnecting then d
    else
      let d1 := purgeFrames qpn (revokeLanding qpn d)
      emit (.cmDisconnect qpn) { d1 with net.qps := tmod d1.net.qps qpn (fun w =>
        { w with disconnecting := true, connected := false, msgs := [], backlog := [], sent := [] }) }

/-- The I/O queue that a queue pair carries. -/
def sqOfQp (d : Dev) (qpn : Nat) : Option (Nat × Nat) :=
  (d.host.sqs.find? (fun e => e.2.qpn == qpn)).map (fun e => (e.1 / 65536, e.1 % 65536))

/-- The controller whose admin queue a queue pair carries. -/
def adminOfQp (d : Dev) (qpn : Nat) : Option Nat :=
  (d.host.ctrls.find? (fun e => e.2.adminQpn == qpn && !e.2.ended)).map (·.1)

/-! ## Associations (07 R239 to R241) -/

/-- Submission queues of a controller. -/
def sqsOf (d : Dev) (c : Nat) : List Nat := (d.host.sqs.filter (fun e => e.1 / 65536 == c)).map (fun e => e.1 % 65536)

/-- Queue pairs of a controller. -/
def qpsOf (d : Dev) (c : Nat) : List Nat := (d.net.qps.filter (fun e => e.2.cntlid == c)).map (·.1)

/-- Steps of R239: capsules discarded, reads squashed, writes run on silently, the I/O queues deleted, ASN Reporting
disabled; outstanding event requests go with the association. -/
def quiesce (c : Nat) (d : Dev) : Dev :=
  let d1 := (sqsOf d c).foldl (fun a q => deleteSq c q none a) d
  let d2 := d1.adm.cmds.foldl (fun a e =>
    if e.2.cntlid ≠ c ∨ e.2.completed then a
    else if isRead e.2.kind then squashRead e.1 a
    else if isWrite e.2.kind then modCmd e.1 (fun x => { x with silent := true }) a
    else settleCmd e.1 (modCmd e.1 (fun x => { x with completed := true, settled := true, silent := true }) a)) d1
  modCtrl c (fun k => { k with enabled := false, draining := true, asnReport := false, aers := [], pendingEvents := [] })
    { d2 with host.waits := d2.host.waits.filter (fun w => !(w.kind == 10 && w.cntlid == c)) }

/-- Has a controller an admitted command that is not terminal? -/
def ctrlBusy (d : Dev) (c : Nat) : Bool :=
  d.adm.cmds.any (fun e => e.2.cntlid == c && !e.2.completed) || d.host.waits.any (fun w => w.kind == 10 && w.cntlid == c)

/-- An association that has drained: CSTS.RDY clears; an ended one goes, with its place in its binding (11 R345), and a
shutdown that waited reads complete (R240). -/
def settleCtrl (c : Nat) (d : Dev) : Dev :=
  match ctrlOf d c with
  | none => d
  | some k =>
    if ctrlBusy d c then d
    else if k.ended then
      { d with host.ctrls := terase d.host.ctrls c
               cove.bindings := tmod d.cove.bindings k.binding (fun b => { b with assoc := b.assoc - 1 }) }
    else if k.shst = 1 then modCtrl c (fun x => { x with shst := 2 }) d
    else if k.draining then modCtrl c (fun x => { x with ready := false, draining := false }) d
    else d

/-- End an association (R239, R241): its queue pairs close at once, and a write whose data has not all come ends absent. -/
def endAssociation (c : Nat) (d : Dev) : Dev :=
  match ctrlOf d c with
  | none => d
  | some k =>
    if k.ended then d
    else
      let d1 := modCtrl c (fun x => { x with ended := true }) (quiesce c d)
      settleCtrl c ((qpsOf d1 c).foldl (fun a q => closeQp q (endQpCmds q false a)) d1)

/-- CONTROLLER_DISABLE (R239). -/
def execControllerDisable (cntlid : Nat) (s : State) : Result :=
  onDev s (fun d => match ctrlOf d cntlid with
    | some k => if k.enabled ∧ !k.ended then quiesce cntlid d else d
    | none => d)

/-- CONTROLLER_DRAINED (R239, R240). -/
def execControllerDrained (cntlid : Nat) (s : State) : Result := onDev s (settleCtrl cntlid)

/-- SHUTDOWN_NOTIFICATION (R240): admission stops, held capsules are discarded and admitted commands complete. -/
def shutdown (c : Nat) (d : Dev) : Dev :=
  match ctrlOf d c with
  | none => d
  | some k =>
    if k.ended ∨ k.shst ≠ 0 then d
    else
      let d1 := (sqsOf d c).foldl (fun a q => match sqOf a c q with
        | some s => s.held.foldl (fun b h => dropCapsule c q h b) a
        | none => a) d
      settleCtrl c (modCtrl c (fun x => { x with shst := 1 })
        { d1 with pool.waiting := d1.pool.waiting.filter (fun w => w.1 != c) })

/-- SHUTDOWN_NOTIFICATION (R240). -/
def execShutdownNotification (cntlid : Nat) (s : State) : Result := onDev s (shutdown cntlid)

/-- KEEP_ALIVE_EXPIRY (R241): an association with a keep-alive timer ends; the pause of R244 is not counted. -/
def execKeepAliveExpiry (cntlid : Nat) (s : State) : Result :=
  onDev s (fun d => match ctrlOf d cntlid with
    | some k => if k.kato = 0 ∨ k.ended ∨ d.host.admissionHeld then d
        else endAssociation cntlid (logEvent 5 4 1 (payload cntlid 0 0 0) d)
    | none => d)

/-! ## Error state and disconnect (08 R280 to R284) -/

/-- Why a queue pair enters the error state (R281): 0 remote access, 1 invalid request, 2 remote operational, 3 retry
exhaustion. A packet goes to the far end for the first two, when this side detected them. -/
def errorQp (qpn cause : Nat) (tell : Bool) (d : Dev) : Dev :=
  match qpOf d qpn with
  | none => d
  | some q =>
    if q.error then d
    else
      let a : Attr := coveAttr q.cove
      let d1 := if tell then queueAck (qpLink d q) (coveCfg d q.cove).tclass
          { kind := 1, qpn := qpn, cove := q.cove, len := packetBytes d q + (if q.spray then 64 else 4)
            opcode := if q.spray then 0xC4 else 0x11, psn := q.rxPsn, body := if q.spray then sackBody q (3 - cause) 0 else 0x62 - cause
            path := if q.spray then q.trigger.2.1 else 0, srcPort := srcPort q (if q.spray then q.trigger.2.1 else 0) }
          (occur 1 2 1 a d) else d
      let d2 := occur 1 5 1 a (logEvent 6 1 1 (payload qpn 0 cause q.cove) d1)
      let d3 := endQpCmds qpn true { d2 with net.qps := tmod d2.net.qps qpn (fun w => { w with error := true, cause := cause }) }
      let d4 := match sqOfQp d3 qpn with
        | some (c, s) => deleteSq c s none d3
        | none => d3
      let d5 := closeQp qpn d4
      match adminOfQp d5 qpn with
      | some c => endAssociation c d5
      | none => d5

/-- HOST_DISCONNECT (R280, 07 R218): the queue pair is torn down; its queue's held capsules complete 08h. -/
def hostDisconnect (qpn : Nat) (d : Dev) : Dev :=
  match qpOf d qpn with
  | none => d
  | some q =>
    if q.disconnecting then d
    else
      let d1 := match sqOfQp d qpn with
        | some (c, s) => deleteSq c s (some (gen 0x08)) d
        | none => d
      let d2 := closeQp qpn (endQpCmds qpn false d1)
      match adminOfQp d2 qpn with
      | some c => endAssociation c d2
      | none => d2

/-- HOST_DISCONNECT (R280). -/
def execHostDisconnect (qpn : Nat) (s : State) : Result := onDev s (hostDisconnect qpn)

/-- Context slots of a queue pair (R250). -/
def contextsOf (q : Qp) : Nat := if q.spray then 8 else 1

/-- Forget a queue pair: its QPMAP entry clears (11 R346, 09 R305). -/
def dropQp (qpn : Nat) (d : Dev) : Dev :=
  { d with net.qps := terase d.net.qps qpn, prism.changes := d.prism.changes ++ [.qpmap qpn] }

/-- Does an admitted command or a waiting capsule hold a slot of a queue pair's window? -/
def windowHeld (q : Qp) : Bool := (q.landing.map (fun l => l.slots.any (fun s => s.2.heldBy.isSome))).getD false

/-- CM_DISCONNECT (R284): the context slots are released; a window keeps its memory until nothing holds a slot of it. -/
def cmDisconnect (qpn : Nat) (d : Dev) : Dev :=
  match qpOf d qpn with
  | none => d
  | some q =>
    if !q.disconnecting ∨ q.released then d
    else
      let d1 := { d with net.contexts := d.net.contexts - contextsOf q }
      if q.landing.isNone then dropQp qpn d1
      else { d1 with net.qps := tmod d1.net.qps qpn (fun w => { w with released := true }) }

/-- CM_DISCONNECT (R284). -/
def execCmDisconnect (qpn : Nat) (s : State) : Result := onDev s (cmDisconnect qpn)

/-- LANDING_WINDOW_RETURN (R280): a revoked window's memory returns to the pool. -/
def landingReturn (qpn : Nat) (d : Dev) : Dev :=
  match qpOf d qpn with
  | none => d
  | some q => match q.landing with
    | none => d
    | some l =>
      if !l.revoked ∨ windowHeld q then d
      else
        let d1 := { d with net.landingUsed := d.net.landingUsed - l.size
                           net.qps := tmod d.net.qps qpn (fun w => { w with landing := none }) }
        if q.released then dropQp qpn d1 else d1

/-- LANDING_WINDOW_RETURN (R280). -/
def execLandingWindowReturn (qpn : Nat) (s : State) : Result := onDev s (landingReturn qpn)

end Sys2Proof.Machine
end

