-- ==== Sys2Proof/Machine/Wire.lean ====
section
/-! DEFINITION. The bytes of a RoCEv2 frame that the device sends, as they stand on the wire: Ethernet, tag, IP, UDP and BTH
(08 R247, R258), the placement and read extensions (R259, R260), RETH and AETH of standard mode, and the SACK block (R263).
Fields of network headers are big-endian (00 R5). What the model does not hold (MAC addresses, IPv4 identification, TTL, the
AETH's MSN, payload) is taken from open bytes (log entry 3). -/

namespace Sys2Proof.Machine

/-- A number as `n` big-endian bytes (00 R5). -/
def beBytes (v n : Nat) : List Byte := (leBytes v n).reverse

/-- The one's complement sum of 16-bit words that an IPv4 header carries (RFC 791). -/
def ipChecksum (l : List Byte) : Nat :=
  let sum := (List.range (l.length / 2)).foldl (fun a i => a + (l.getD (2 * i) 0).toNat * 256 + (l.getD (2 * i + 1) 0).toNat) 0
  let once := sum % 65536 + sum / 65536
  65535 - (once % 65536 + once / 65536)

/-- Ethernet and the tag (08 R247): addresses open, PCP equal to TCLASS when the link is tagged. -/
def ethBytes (open_ : List Byte) (vlan tclass family : Nat) : List Byte :=
  open_.take 12 ++ (if vlan = 0 then [] else beBytes 0x8100 2 ++ beBytes (tclass * 8192 + vlan % 4096) 2)
    ++ beBytes (if family = 6 then 0x86DD else 0x0800) 2

/-- IPv4 (08 R247): DSCP 8 × TCLASS, ECT(0), DF set, protocol UDP; identification and TTL open. -/
def ipv4Bytes (open_ : List Byte) (tclass total src dst : Nat) : List Byte :=
  let head := beBytes 0x45 1 ++ beBytes (tclass * 32 + 2) 1 ++ beBytes total 2 ++ ((open_.drop 12).take 2) ++ beBytes 0x4000 2
    ++ ((open_.drop 14).take 1) ++ beBytes 17 1
  let ends := beBytes src 4 ++ beBytes dst 4
  head ++ beBytes (ipChecksum (head ++ ends)) 2 ++ ends

/-- IPv6 (08 R247): the same class, and a flow label equal to the UDP source port; hop limit open. -/
def ipv6Bytes (open_ : List Byte) (tclass payload port src dst : Nat) : List Byte :=
  beBytes (6 * 2 ^ 28 + (tclass * 32 + 2) * 2 ^ 20 + port) 4 ++ beBytes payload 2 ++ beBytes 17 1 ++ ((open_.drop 14).take 1)
    ++ beBytes src 16 ++ beBytes dst 16

/-- The BTH (08 R258): SE, M and TVer 0, PadCnt to 4 bytes, P_Key 0xFFFF, the far end's QPN; a SPRAY_ACK has PSN 0 and AckReq 0. -/
def bthBytes (op payload destQp psn : Nat) (ackReq : Bool) : List Byte :=
  beBytes op 1 ++ beBytes ((4 - payload % 4) % 4 * 16) 1 ++ beBytes 0xFFFF 2 ++ beBytes (destQp % 2 ^ 24) 4
    ++ (if op = 0xC4 then beBytes 0 4 else beBytes (b2n ackReq * 2 ^ 31 + psn % 2 ^ 24) 4)

/-- The placement extension header (08 R259). -/
def placementBytes (x : SprayHdr) : List Byte :=
  beBytes (16 * (x.version % 16) + b2n x.retx) 1 ++ beBytes (x.path % 64) 1 ++ beBytes x.gen 1 ++ beBytes 0 1 ++ beBytes x.msgId 4
    ++ beBytes x.fragIndex 2 ++ beBytes x.fragCount 2 ++ beBytes x.rkey 4 ++ beBytes x.vaddr 8 ++ beBytes x.txTs 4
    ++ beBytes x.totalLen 4

/-- The read extension of a SPRAY_READ_REQ (08 R260). -/
def readExtBytes (sinkVaddr sinkKey : Nat) : List Byte := beBytes sinkVaddr 8 ++ beBytes sinkKey 4 ++ beBytes 0 4

/-- Host address and key of a command's SGL (07 R207). -/
def sglTarget : Sgl → Nat × Nat
  | .keyed a k _ => (a, k)
  | _ => (0, 0)

/-- Where a message's bytes lie at the far end, and how many there are: a Send names no address (08 R259, R262). -/
def msgTarget (d : Dev) (m : QpMsg) : Nat × Nat × Nat :=
  let sgl := fun (tag : Nat) => sglTarget (((tget d.adm.cmds tag).map (·.sgl)).getD .none)
  match m with
  | .completion _ _ _ => (0, 0, msgBytes d m)
  | .readData tag => ((sgl tag).1, (sgl tag).2, msgBytes d m)
  | .readRequest tag got total => ((sgl tag).1 + got, (sgl tag).2, total)

/-- The placement header of a frame that leaves now (08 R259). -/
def placementOf (d : Dev) (q : Qp) (f : TxFrame) : SprayHdr :=
  let (va, key, total) := msgTarget d ((tget q.msgs f.body).getD (.completion 0 ok 0))
  { retx := f.retx, path := f.path, msgId := f.body % 2 ^ 32, fragIndex := f.frag, fragCount := f.frags, rkey := key
    vaddr := va + f.frag * q.mtu, txTs := elapsed d % 2 ^ 32, totalLen := total }

/-- What follows the BTH, but for payload: extension headers, AETH or SACK block, CNP's reserved bytes. -/
def extensionBytes (d : Dev) (q : Qp) (f : TxFrame) (open_ : List Byte) : List Byte :=
  let p := placementOf d q f
  if f.opcode = 0xC4 then beBytes f.body 64
  else if f.opcode = 0xC2 then placementBytes { p with fragIndex := 0, fragCount := 1 } ++ readExtBytes (leNum (((open_.drop 18).take 8))) (leNum (((open_.drop 26).take 4)))
  else if 0xC0 ≤ f.opcode ∧ f.opcode ≤ 0xC3 then placementBytes p
  else if f.opcode = 0x11 then beBytes f.body 1 ++ ((open_.drop 15).take 3)
  else if f.opcode = 0x81 then List.replicate 16 0
  else if f.opcode = 0x06 ∨ f.opcode = 0x0A ∨ f.opcode = 0x0C then beBytes p.vaddr 8 ++ beBytes p.rkey 4 ++ beBytes p.totalLen 4
  else []

/-- The first bytes of a RoCEv2 frame that leaves now, as captured (09 R311); the payload is open. -/
def wireBytes (d : Dev) (f : TxFrame) (open_ : List Byte) : List Byte :=
  match tget d.net.qps f.qpn with
  | none => open_
  | some q =>
    let a := (tget d.net.addrs q.address).map (·.rec_)
    let vlan := (a.map (·.vlan)).getD 0
    let family := (a.map (·.family)).getD 4
    let src := (a.map (·.address)).getD 0
    let cls := (coveCfg d f.cove).tclass
    let ip := f.len - 18 - (if vlan = 0 then 0 else 4)
    let around := packetBytes d q + (extensionBytes d q f open_).length
    let udp := (if family = 6 then ip - 40 else ip - 20)
    let head := ethBytes open_ vlan cls family
      ++ (if family = 6 then ipv6Bytes open_ cls udp f.srcPort src q.farAddr else ipv4Bytes open_ cls ip src q.farAddr)
      ++ beBytes f.srcPort 2 ++ beBytes 4791 2 ++ beBytes udp 2 ++ beBytes 0 2
      ++ bthBytes f.opcode (f.len - around) q.farQpn f.psn f.ackReq ++ extensionBytes d q f open_
    (head ++ open_.drop head.length).take (min 128 f.len)

end Sys2Proof.Machine
end

