-- ==== Sys2Proof/Machine/Transport.lean ====
section
/-! DEFINITION. The RDMA transport beside Spray's receiver: connection (08 R246 to R252), rate control (R270, R271), standard
mode as requester and responder (R253 to R256), links and addresses (R249), and the departure of frames (09 R303, 10
R328). -/

namespace Sys2Proof.Machine

/-! ## Rates (R270, R271) -/

/-- R_MIN and AI in KB/s. -/
def rMin : Nat := 10000

/-- AI. -/
def rateStep : Nat := 50000

/-- R_MAX of a queue pair in KB/s: its link's rate. -/
def rMax (d : Dev) (q : Qp) : Nat := linkRate d (qpLink d q) * 125

/-- T_OFF in ns: the negotiated offset, 8 µs in standard mode. -/
def tOffNs (q : Qp) : Nat := if q.spray then q.tOff * 1000 else 8000

/-- A round-trip sample on a path (R271). -/
def rttSample (now s tOff top : Nat) (p : SprayPath) : SprayPath :=
  let srtt := if p.sampled then ((p.srtt : Int) + ((s : Int) - (p.srtt : Int)).tdiv 8).toNat else s
  let base := if p.sampled then min p.base s else s
  let p1 := { p with sampled := true, srtt := srtt, base := base, lowest := some (min (p.lowest.getD s) s) }
  let target := base + tOff
  if s ≤ target then
    if srtt ≤ now - p.lastChange then { p1 with rate := min (p.rate + rateStep) top, lastChange := now } else p1
  else if srtt ≤ now - p.lastCut then
    { p1 with rate := max (p.rate - p.rate * (s - target) / (2 * s)) rMin, lastCut := now, lastChange := now }
  else p1

/-- A congestion mark on a path (R271): a cut to three quarters. -/
def markCut (now : Nat) (p : SprayPath) : SprayPath :=
  if max p.srtt 20000 ≤ now - p.lastCut then
    { p with rate := max (p.rate * 3 / 4) rMin, lastCut := now, lastChange := now }
  else p

/-- A retransmission timeout on a path (R271). -/
def timeoutCut (now : Nat) (p : SprayPath) : SprayPath :=
  { p with rate := max (p.rate / 2) rMin, lastCut := now, lastChange := now }

/-- Change paths of a queue pair, counting those whose rate was cut. -/
def changePaths (qpn : Nat) (f : Nat → SprayPath → SprayPath) (d : Dev) : Dev :=
  match qpOf d qpn with
  | none => d
  | some q =>
    let new := (List.range q.paths.length).map (fun i => f i (q.paths.getD i {}))
    let cuts := ((List.range q.paths.length).filter (fun i =>
      decide ((new.getD i {}).rate < (q.paths.getD i {}).rate))).length
    let d1 := setQp qpn { q with paths := new } d
    if cuts = 0 then d1 else occur 1 6 cuts (netAttr q.port q.cove) d1

/-- RECV_CNP (R256, R271): every path of the queue pair, whatever its mode. -/
def recvCnp (qpn : Nat) (d : Dev) : Dev :=
  match qpOf d qpn with
  | none => { d with net.drops := d.net.drops + 1 }
  | some q => changePaths qpn (fun _ p => markCut (elapsed d) p) (occur 0 10 1 (netAttr q.port q.cove) d)

/-- RECV_CNP (R271). -/
def execRecvCnp (qpn : Nat) (s : State) : Result := onDev s (recvCnp qpn)

/-- BASE_RTT_REFRESH (R271): unchanged where the past 10 s gave no sample. -/
def execBaseRttRefresh (qpn : Nat) (s : State) : Result :=
  onDev s (changePaths qpn (fun _ p => { p with base := p.lowest.getD p.base, lowest := none }))

/-! ## Connection (R246 to R252, R276) -/

/-- The largest path MTU that a port's frames allow (R248). -/
def portMtu (maxFrame : Nat) : Nat :=
  if 4096 + 118 ≤ maxFrame then 4096 else if 2048 + 118 ≤ maxFrame then 2048 else 1024

/-- Number of context slots (R250). -/
def contextSlots : Nat := 262144

/-- In-capsule buffers in use (07 R203, R276): those of capsules, and the landing windows' share. -/
def buffersTaken (d : Dev) : Nat :=
  d.host.buffersUsed + d.net.landingUsed / 4096 +
    tsum d.net.qps (fun q => (q.rxMsgs.filter (fun m => !m.2.2.data.isEmpty)).length)

/-- A little-endian field of a connection request's private data (R251). -/
def cmField (r : CmRequest) (off n : Nat) : Nat := leNum ((r.priv.drop off).take n)

/-- Is a request the device's own, with MAGIC ("WXSP") and VERSION 1 (R251, R252)? Any other asks for neither Spray nor push. -/
def cmKnown (r : CmRequest) : Bool := (r.priv.drop 8).take 5 == [0x57, 0x58, 0x53, 0x50, 1]

/-- SPRAY offered (R251). -/
def cmSpray (r : CmRequest) : Bool := cmKnown r && bit (cmField r 13 1) 0

/-- PUSH requested (R251). -/
def cmPush (r : CmRequest) : Bool := cmKnown r && bit (cmField r 13 1) 1

/-- PATHS that a request offers, 0 standing for 16, of which at most 64 are granted (R251, R252). -/
def cmPaths (r : CmRequest) : Nat := min (if cmField r 14 1 = 0 then 16 else cmField r 14 1) 64

/-- T_OFF in µs that a Spray request is granted: 8 for a value outside 2 to 64 (R251, R252). -/
def cmTOff (r : CmRequest) : Nat := if 2 ≤ cmField r 15 1 ∧ cmField r 15 1 ≤ 64 then cmField r 15 1 else 8

/-- LANDING in units of 64 KiB (R251). -/
def cmLanding (r : CmRequest) : Nat := cmField r 16 2

/-- The landing window that a request is granted (R252, R276), in bytes. -/
def grantLanding (d : Dev) (r : CmRequest) : Option Nat :=
  let size := cmLanding r * 65536
  if cmPush r ∧ 1 ≤ cmLanding r ∧ cmLanding r ≤ 128 ∧ d.net.landingUsed + size ≤ 1073741824 ∧
      buffersTaken d * 4096 + size ≤ 2147483648 then some size else none

/-- The private data of an accept (R252): CRQSIZE is the binding's, an open value (log entry 3). -/
def acceptBytes (crq : Nat) (q : Qp) : List Byte :=
  let l := q.landing
  leBytes 0 2 ++ leBytes crq 2 ++ [0x57, 0x58, 0x53, 0x50, 1] ++ leBytes (b2n q.spray + 2 * b2n l.isSome) 1 ++ leBytes q.paths.length 1
    ++ leBytes q.tOff 1 ++ leBytes ((l.map (·.rkey)).getD 0) 4 ++ leBytes ((l.map (·.base)).getD 0) 8
    ++ leBytes ((l.map (·.size)).getD 0) 4 ++ leBytes 0 4

/-- CM_CONNECT_REQUEST (R248 to R252, R276): accepted in the mode granted, or rejected for its MTU, for want of a context
slot, or for a queue pair number in use or whose old entry an epoch still uses (11 R346). -/
def cmConnect (r : CmRequest) (d : Dev) : Dev :=
  match tget d.net.addrs r.address with
  | none => d
  | some a =>
    if r.mtu < 1024 ∨ contextSlots < d.net.contexts + 1 ∨ (qpOf d r.qpn).isSome ∨
        (entryBusy d (.qpmap r.qpn)) then emit (.cmReject r.qpn) d
    else
      let spray := cmSpray r && decide (d.net.contexts + 8 ≤ contextSlots)
      let paths := if spray then cmPaths r else 1
      let tOff := if spray then cmTOff r else 8
      let port := a.link / 4
      let (b, d1) := draw d
      let (key, d2) := openValue d1
      let (base, d3) := openValue d2
      let size := grantLanding d r
      let land : Option Landing := size.map (fun n => { base := base % 2 ^ 63, size := n, rkey := key % 2 ^ 32 })
      let q0 : Qp :=
        { port := port, address := r.address, spray := spray, tOff := tOff, landing := land
          mtu := min r.mtu (portMtu (((chartOf d).ports.getD port {}).maxFrame)), txPsn := r.psn % 2 ^ 24
          rxPsn := r.hostPsn % 2 ^ 24, reads := r.reads, portDraw := b % 16384, farQpn := r.farQpn % 2 ^ 24, farAddr := r.farAddr }
      let q : Qp := { q0 with paths := List.replicate paths { rate := rMax d q0 / paths } }
      let (crq, d4) := openValue (setQp r.qpn q (if size.isSome then d3 else d1))
      emit (.cmAccept r.qpn (acceptBytes crq q))
        { d4 with net.contexts := d.net.contexts + contextsOf q, net.landingUsed := d.net.landingUsed + size.getD 0
                  prism.changes := d.prism.changes ++ [.qpmap r.qpn] }

/-- CM_CONNECT_REQUEST (R252). -/
def execCmConnectRequest (req : CmRequest) (s : State) : Result := onDev s (cmConnect req)

/-! ## Delivery of capsules and placement -/

/-- The NVMe opcodes of the I/O commands (07 R209). -/
def ioOpOf : Nat → Option IoOp
  | 0x00 => some .flush
  | 0x01 => some .write
  | 0x02 => some .read
  | 0x05 => some .compare
  | 0x08 => some .writeZeroes
  | 0x09 => some .dsm
  | 0x0C => some .verify
  | 0x0D => some .resvRegister
  | 0x0E => some .resvReport
  | 0x11 => some .resvAcquire
  | 0x15 => some .resvRelease
  | _ => none

/-- Would a capsule pass the depth of its queue (R254)? -/
def pastDepth (d : Dev) (qpn : Nat) : Bool :=
  match sqOfQp d qpn with
  | none => false
  | some (c, s) => (sqOf d c s).any (fun q => decide (q.size ≤ q.held.length))

/-- Deliver a capsule to the front end (R267, 07 R208): an opcode that the device does not serve completes Invalid Command
Opcode. What an admin capsule does is its command's own row (log entry 6). -/
def deliverCapsule (qpn op : Nat) (cap : Capsule) (d : Dev) : Dev :=
  match sqOfQp d qpn with
  | none => d
  | some (c, s) => match ioOpOf op with
    | some o => submit o c s cap d
    | none => answer c s cap.cid (gen 0x01) 0 d

/-- Is a range within a queue pair's landing window, which is not revoked (R265, R280)? -/
def landingOk (q : Qp) (rkey addr len : Nat) : Bool :=
  q.landing.any (fun l => !l.revoked && l.rkey == rkey && decide (l.base ≤ addr) && decide (addr + len ≤ l.base + l.size))

/-- Cut a range of a window at its slots: slot, offset in it, length and value. -/
def slotParts : Nat → Nat → Nat → Nat → List (Nat × Nat × Nat × Nat)
  | 0, _, _, _ => []
  | k + 1, off, len, v =>
    if len = 0 then []
    else
      let n := min len (65536 - off % 65536)
      (off / 65536, off % 65536, n, v % 2 ^ (8 * n)) :: slotParts k (off + n) (len - n) (v / 2 ^ (8 * n))

/-- Place bytes in a landing window (R276). -/
def placeLanding (qpn addr len v : Nat) (d : Dev) : Dev :=
  modLanding qpn (fun l =>
    { l with slots := (slotParts (len / 65536 + 2) (addr - l.base) len v).foldl (fun t x =>
        let s := (tget t x.1).getD {}
        tput t x.1 { s with landed := s.landed ++ [(x.2.1, x.2.2.1, x.2.2.2)] }) l.slots }) d

/-! ## Messages sent -/

/-- Messages whose packets are all acknowledged (R272): a read's completion follows its data. A read request stands until its
data is in. -/
def finishMsgs (qpn : Nat) (d : Dev) : Dev :=
  match qpOf d qpn with
  | none => d
  | some q => q.msgs.foldl (fun a m =>
      if q.backlog.any (fun b => b.1 == m.1) || q.sent.any (fun p => p.msg == m.1) then a
      else
        let drop := fun (x : Dev) => { x with net.qps := tmod x.net.qps qpn (fun w => { w with msgs := terase w.msgs m.1 }) }
        match m.2 with
        | .readRequest _ _ _ => a
        | .readData tag => readDelivered tag (drop a)
        | .completion _ _ _ => drop a) d

/-- Queue packets again in their order, each with RETX where Spray says so (R255, R268). -/
def resend (qpn : Nat) (pkts : List SentPkt) (d : Dev) : Dev :=
  match qpOf d qpn with
  | none => d
  | some q => pkts.foldl (fun a p => queuePacket qpn p.path q.spray true p
      (occur 1 0 1 (netAttr q.port q.cove) a)) d

/-- Is a PSN at or past another, in the window's sense? -/
def psnFrom (start psn : Nat) : Bool := decide (psnDiff psn start < 8388608)

/-- Go back to a PSN (R255): everything sent from it on leaves again, in order. -/
def goBack (qpn psn : Nat) (d : Dev) : Dev :=
  match qpOf d qpn with
  | none => d
  | some q =>
    let pkts := q.sent.filter (fun p => psnFrom psn (p.psn + p.npsn - 1))
    let d1 := purgeFrames qpn (setQp qpn { q with
      sent := q.sent.map (fun p => if psnFrom psn (p.psn + p.npsn - 1) then { p with left := false, rnrWait := false } else p),
      timed := none } d)
    resend qpn pkts d1

/-- A retry of standard mode (R255): the eighth is retry exhaustion. -/
def retryFrom (qpn psn : Nat) (d : Dev) : Dev :=
  match qpOf d qpn with
  | none => d
  | some q =>
    if 7 ≤ q.retries then errorQp qpn 3 false d
    else goBack qpn psn (setQp qpn { q with retries := q.retries + 1 } d)

/-! ## Standard mode: requester (R255, R272) -/

/-- Packets up to a PSN are acknowledged; a read request is not, since its data answers it. A timed packet gives a sample. -/
def ackUpTo (qpn psn : Nat) (d : Dev) : Dev :=
  match qpOf d qpn with
  | none => d
  | some q =>
    let gone := fun (p : SentPkt) => p.opcode != 0x0C && psnFrom ((p.psn + p.npsn - 1) % 2 ^ 24) psn
    let some_ := q.sent.any gone
    let now := elapsed d
    let sample : Option Nat := match q.timed with
      | some (x, t) => if psnFrom x psn then some (now - t) else none
      | none => none
    let q1 := { q with sent := q.sent.filter (fun p => !gone p), retries := if some_ then 0 else q.retries
                       rnrs := if some_ then 0 else q.rnrs, timed := if sample.isSome then none else q.timed }
    let d1 := setQp qpn q1 d
    let d2 := match sample with
      | some s => changePaths qpn (fun _ p => rttSample now s (tOffNs q) (rMax d q) p) d1
      | none => d1
    pumpQp 4096 qpn (finishMsgs qpn d2)

/-- A standard reply to a queue pair that is usable: unknown ones are dropped and counted, one of Spray mode is an invalid
request (R257). -/
def standardReply (qpn : Nat) (f : Qp → Dev → Dev) (d : Dev) : Dev :=
  match qpOf d qpn with
  | none => { d with net.drops := d.net.drops + 1 }
  | some q =>
    if q.error ∨ !q.connected then { d with net.drops := d.net.drops + 1 }
    else if q.spray then errorQp qpn 1 true d else f q d

/-- RECV_ACKNOWLEDGE (R272). -/
def execRecvAcknowledge (qpn psn : Nat) (s : State) : Result :=
  onDev s (standardReply qpn (fun _ d => ackUpTo qpn psn d))

/-- RECV_NAK (R255, R281): code 0 is a PSN sequence error, 1 an invalid request, 2 a remote access error, 3 a remote
operational error; other codes are reserved and ignored. -/
def execRecvNak (qpn psn code : Nat) (s : State) : Result :=
  onDev s (standardReply qpn (fun _ d => match code with
    | 0 => retryFrom qpn psn (ackUpTo qpn ((psn + 2 ^ 24 - 1) % 2 ^ 24) d)
    | 1 => errorQp qpn 1 false d
    | 2 => errorQp qpn 0 false d
    | 3 => errorQp qpn 2 false d
    | _ => d))

/-- RECV_RNR_NAK (R255): the packet waits for the timer; a seventh one in a row is retry exhaustion. -/
def recvRnrNak (qpn psn : Nat) (q : Qp) (d : Dev) : Dev :=
  if 6 ≤ q.rnrs then errorQp qpn 3 false d
  else setQp qpn { q with rnrs := q.rnrs + 1
                          sent := q.sent.map (fun p => if p.psn = psn then { p with rnrWait := true } else p) } d

/-- RECV_RNR_NAK (R255). The timer that the NAK names is the time until RNR_RETRY_TIMER (log entry 18). -/
def execRecvRnrNak (qpn psn _timer : Nat) (s : State) : Result := onDev s (standardReply qpn (recvRnrNak qpn psn))

/-- RNR_RETRY_TIMER (R255). -/
def execRnrRetryTimer (qpn : Nat) (s : State) : Result :=
  onDev s (fun d => match (qpOf d qpn).bind (fun q => q.sent.find? (·.rnrWait)) with
    | some p => goBack qpn p.psn d
    | none => d)

/-- LOCAL_ACK_TIMEOUT (R255, R271). -/
def localAckTimeout (qpn : Nat) (d : Dev) : Dev :=
  match qpOf d qpn with
  | none => d
  | some q => match q.sent with
    | [] => d
    | p :: _ =>
      if q.spray then d
      else retryFrom qpn p.psn (changePaths qpn (fun _ w => timeoutCut (elapsed d) w)
        (occur 1 1 1 (netAttr q.port q.cove) d))

/-- LOCAL_ACK_TIMEOUT (R255). -/
def execLocalAckTimeout (qpn : Nat) (s : State) : Result := onDev s (localAckTimeout qpn)

/-- A CE-marked packet is answered with a CNP, at most once in 10 µs (R256). -/
def notePoint (qpn : Nat) (f : FrameInfo) (d : Dev) : Dev :=
  match qpOf d qpn with
  | none => d
  | some q =>
    if f.ce ∧ q.cnpAt.all (fun t => decide (t + 10000 ≤ elapsed d)) then
      occur 0 9 1 (netAttr q.port q.cove) (queueAck (qpLink d q) (coveCfg d q.cove).tclass
        { kind := 1, qpn := qpn, cove := q.cove, len := packetBytes d q + 16, opcode := 0x81, srcPort := srcPort q 0 }
        (setQp qpn { q with cnpAt := some (elapsed d) } d))
    else d

/-- A pulled write's data arrives at its sink (R274, R275); with its last byte the read is over. `k` names the read. -/
def sinkData (qpn k tag got total : Nat) (dt : Frag) (d : Dev) : Dev :=
  let whole := decide (total ≤ got + dt.len)
  let d1 := { d with net.qps := tmod d.net.qps qpn (fun w =>
    if whole then { w with msgs := terase w.msgs k, sent := w.sent.filter (fun p => p.msg != k) }
    else { w with msgs := tput w.msgs k (.readRequest tag (got + dt.len) total) }) }
  pumpQp 4096 qpn (dataIn tag dt.offset dt.len dt.value d1)

/-- RECV_RDMA_READ_RESPONSE (R253 to R255, R274): the oldest read outstanding takes the reply whose PSN is next; an earlier PSN
is a duplicate, a later one is dropped. -/
def recvReadResponse (qpn psn tag : Nat) (dt : Frag) (q : Qp) (d : Dev) : Dev :=
  match q.sent.find? (fun p => p.opcode == 0x0C) with
  | none => occur 1 4 1 (netAttr q.port q.cove) d
  | some p =>
    if psn = p.psn then
      match tget q.msgs p.msg with
      | some (.readRequest t got total) =>
        if tag = t ∧ dt.offset = got ∧ got + dt.len ≤ total then
          sinkData qpn p.msg t got total dt (setQp qpn { q with retries := 0, sent := q.sent.map (fun w =>
            if w.psn = psn then { w with psn := (w.psn + 1) % 2 ^ 24, npsn := w.npsn - 1 } else w) } d)
        else errorQp qpn 0 true d
      | _ => d
    else if psnFrom p.psn psn then d
    else occur 1 4 1 (netAttr q.port q.cove) d

/-- RECV_RDMA_READ_RESPONSE (R274). -/
def execRecvRdmaReadResponse (qpn psn tag : Nat) (dt : Frag) (f : FrameInfo) (s : State) : Result :=
  onDev s (receive f (standardReply qpn (fun q d =>
    let d1 := notePoint qpn f d
    recvReadResponse qpn psn tag dt ((qpOf d1 qpn).getD q) d1)))

/-! ## Standard mode: responder (R253, R254, R256) -/

/-- Queue an acknowledgement, NAK or RNR NAK with an AETH syndrome (R254). -/
def standardAck (qpn psn syndrome : Nat) (d : Dev) : Dev :=
  match qpOf d qpn with
  | none => d
  | some q => queueAck (qpLink d q) (coveCfg d q.cove).tclass
      { kind := 1, qpn := qpn, cove := q.cove, len := packetBytes d q + 4, opcode := 0x11, psn := psn, body := syndrome
        srcPort := srcPort q 0 } d

/-- Acknowledge everything received. -/
def ackNow (qpn : Nat) (d : Dev) : Dev :=
  match qpOf d qpn with
  | none => d
  | some q => standardAck qpn ((q.rxPsn + 2 ^ 24 - 1) % 2 ^ 24) 0 (setQp qpn { q with unacked := 0 } d)

/-- A request of `n` packets in standard mode (R253, R254): taken in PSN order, re-acknowledged when it is a duplicate, NAKed
once per gap. -/
def standardRequest (qpn psn n : Nat) (f : FrameInfo) (take : Qp → Dev → Dev) (d : Dev) : Dev :=
  match qpOf d qpn with
  | none => countDrop f d
  | some q =>
    if q.error ∨ !q.connected then countDrop f d
    else if q.spray then errorQp qpn 1 true d
    else
      let d1 := notePoint qpn f d
      if psn = q.rxPsn then take q d1
      else if psnFrom q.rxPsn psn then
        if q.nakSent then d1
        else occur 1 2 1 (netAttr q.port q.cove) (standardAck qpn q.rxPsn 0x60
          { d1 with net.qps := tmod d1.net.qps qpn (fun w => { w with nakSent := true }) })
      else occur 1 4 n (netAttr q.port q.cove) (ackNow qpn d1)

/-- `n` packets are received: 16 not acknowledged are acknowledged at once (R254). -/
def countIn (qpn n : Nat) (d : Dev) : Dev :=
  let d1 := { d with net.qps := tmod d.net.qps qpn (fun w =>
    { w with rxPsn := (w.rxPsn + n) % 2 ^ 24, unacked := w.unacked + n, nakSent := false }) }
  if (qpOf d1 qpn).any (fun q => decide (16 ≤ q.unacked)) then ackNow qpn d1 else d1

/-- A Send of one capsule (R254): an invalid request when it is too long or passes the queue's depth, an RNR NAK when its
data finds no buffer. -/
def takeSend (qpn n op : Nat) (cap : Capsule) (q : Qp) (d : Dev) : Dev :=
  if 1 < cap.data.length ∨ pastDepth d qpn then errorQp qpn 1 true d
  else if !cap.data.isEmpty ∧ 524288 ≤ buffersTaken d then
    occur 1 3 1 (netAttr q.port q.cove) (standardAck qpn q.rxPsn 0x21 d)
  else deliverCapsule qpn op cap (countIn qpn n d)

/-- RECV_SEND (R254): a capsule in as many packets as 64 bytes and its in-capsule data take. -/
def execRecvSend (qpn psn : Nat) (op : Nat) (cap : Capsule) (f : FrameInfo) (s : State) : Result :=
  onDev s (receive f (fun d =>
    let n := fragCount ((qpOf d qpn).getD {}) (64 + 4096 * cap.data.length)
    standardRequest qpn psn n f (takeSend qpn n op cap) d))

/-- An RDMA Write from the host (R253, R276): into its landing window, or a remote access error. -/
def takeWrite (qpn rkey : Nat) (dt : Frag) (q : Qp) (d : Dev) : Dev :=
  if landingOk q rkey dt.offset dt.len then countIn qpn 1 (placeLanding qpn dt.offset dt.len dt.value d)
  else errorQp qpn 0 true d

/-- RECV_RDMA_WRITE (R276). -/
def execRecvRdmaWrite (qpn psn rkey : Nat) (dt : Frag) (f : FrameInfo) (s : State) : Result :=
  onDev s (receive f (standardRequest qpn psn 1 f (takeWrite qpn rkey dt)))

/-- ACK_TIMER (R254). -/
def execAckTimer (qpn : Nat) (s : State) : Result :=
  onDev s (fun d => if (qpOf d qpn).any (fun q => !q.spray && !q.error && decide (0 < q.unacked)) then ackNow qpn d else d)

/-- RECV_REFUSED_OPCODE (R253, R257): an invalid request; an unknown queue pair's packet, or one of UD, UC, RD or XRC (an
opcode whose upper bits are not RC's 000), is dropped and counted. -/
def recvRefused (qpn opcode : Nat) (d : Dev) : Dev :=
  match qpOf d qpn with
  | none => { d with net.drops := d.net.drops + 1 }
  | some q =>
    if q.error ∨ !q.connected ∨ (!q.spray ∧ 0x20 ≤ opcode ∧ opcode < 0xC0) then { d with net.drops := d.net.drops + 1 }
    else errorQp qpn 1 true d

/-- RECV_REFUSED_OPCODE (R253). -/
def execRecvRefusedOpcode (qpn opcode : Nat) (s : State) : Result := onDev s (recvRefused qpn opcode)

/-! ## Links and addresses (R246, R249, 09 R304) -/

/-- Is a link up? -/
def linkUp (d : Dev) (link : Nat) : Bool := ((tget d.net.links link).map (·.up)).getD false

/-- Links of a port's BREAKOUT (R246). -/
def linksOfPort (p : PortCfg) : Nat := match p.breakout with
  | 0 => 1
  | 1 => 2
  | _ => 4

/-- Lanes of link `k` of a port (R246): w lanes from 4p + k × w on. -/
def linkLanes (d : Dev) (link : Nat) : List Nat :=
  let w := 4 / linksOfPort ((chartOf d).ports.getD (link / 4) {})
  (List.range w).map (fun i => 4 * (link / 4) + link % 4 * w + i)

/-- The record of a link that is up (R246): a CR or KR link (MEDIA 0) has negotiated and trained, a C2M link has not. -/
def linkRecord (d : Dev) (link : Nat) : NetLink :=
  { up := true, lanes := linkLanes d link, trained := ((chartOf d).ports.getD (link / 4) {}).media == 0, gbps := linkRate d link / 1000 }

/-- Move an address to a link and announce it with a gratuitous ARP or an unsolicited Neighbor Advertisement (R249). -/
def moveAddr (i link : Nat) (d : Dev) : Dev :=
  match tget d.net.addrs i with
  | none => d
  | some a =>
    if a.link = link then d
    else logEvent 6 2 0 (payload i a.link link 0)
      (queueMgmt link { kind := 0, len := if a.rec_.family = 6 then 90 else 64, opcode := 2, body := i }
        { d with net.addrs := tput d.net.addrs i { a with link := link } })

/-- The link an address moves to when its own is down (R249): the first listed backup that is up, or its home link. -/
def moveTarget (d : Dev) (a : AddrState) : Option Nat :=
  (a.rec_.backups ++ [a.rec_.home]).find? (fun l => l != a.link && linkUp d l)

/-- Addresses on a link that is down move where they can. -/
def moveAll (d : Dev) : Dev :=
  d.net.addrs.foldl (fun x e => if linkUp x e.2.link then x else match moveTarget x e.2 with
    | some l => moveAddr e.1 l x
    | none => x) d

/-- Flush a link (09 R304): its queued cells are counted and their units ended. -/
def flushLink (link : Nat) (d : Dev) : Dev :=
  let l := linkOf d link
  let gone := l.mgmt ++ l.ack.flatMap (·.2) ++ l.coves.flatMap (fun q => q.2.frames)
  let d1 := setLink link { l with mgmt := [], ack := [], coves := tall l.coves (fun q => { q with frames := [] }) } d
  gone.foldl (fun a f => epochOut f.stamp (occur 0 8 (ceilDiv f.len 256) (netAttr (link / 4) f.cove) a)) d1

/-- NET_LINK_DOWN (R249, 09 R304). -/
def netLinkDown (link : Nat) (d : Dev) : Dev :=
  if linkUp d link then
    let d1 := flushLink link { d with net.links := tput d.net.links link { up := false } }
    moveAll (if outputDown d1 (link / 4) then dropOutput (link / 4) d1 else d1)
  else d

/-- NET_LINK_DOWN (R249). -/
def execNetLinkDown (link : Nat) (s : State) : Result := onDev s (netLinkDown link)

/-- A link comes up (R246): a link that its port has and enables. An address none of whose links was up moves to it. -/
def netLinkUp (link : Nat) (d : Dev) : Dev :=
  let p := (chartOf d).ports.getD (link / 4) {}
  if 32 ≤ link ∨ linksOfPort p ≤ link % 4 ∨ p.enable ≠ 1 ∨ linkUp d link then d
  else moveAll { d with net.links := tput d.net.links link (linkRecord d link) }

/-- NET_LINK_UP (R246): the links train from step 10 of bring-up on (15 R442). -/
def execNetLinkUp (link : Nat) (s : State) : Result :=
  onDev s (fun d => if d.host.admissionOpen then netLinkUp link d else d)

/-- ADDRESS_RETURN (R249): the home link has been up for 10 s. -/
def execAddressReturn (index : Nat) (s : State) : Result :=
  onDev s (fun d => match tget d.net.addrs index with
    | some a => if linkUp d a.rec_.home then moveAddr index a.rec_.home d else d
    | none => d)

/-- RECV_ARP_ND (R247): answered for the device's own addresses. -/
def execRecvArpNd (f : FrameInfo) (index : Nat) (s : State) : Result :=
  onDev s (receive f (fun d => match tget d.net.addrs index with
    | some a => queueMgmt (4 * f.port + f.link)
        { kind := 0, len := if a.rec_.family = 6 then 90 else 64, opcode := 2, body := index } d
    | none => d))

/-! ## Departure of frames (10 R328, 09 R303) -/

/-- Frames passed over at an opportunity (17 R489): heads held by a shaper, and by a guard band. -/
def countHeld (link : Nat) (d : Dev) : Dev :=
  let l := linkOf d link
  let now := elapsed d
  let shut := guarded d link
  l.coves.foldl (fun a e =>
    if e.2.frames.isEmpty then a
    else
      let cove := e.1 % 4096
      let c := coveCfg d cove
      let at_ : Attr := { netAttr (link / 4) cove with tclass := some e.2.cls }
      let a1 := if bit shut e.2.cls && gateOpen (gatesOf d (link / 4)) e.2.cls then occur 9 3 1 at_ a else a
      if (tier c (shaperNow c ((tget l.shapers cove).getD (shaperFull c now)) now)).isNone then occur 9 2 1 at_ a1 else a1) d

/-- A data packet leaves (R261, R268, R271): its time and place in the order of transmissions, and the packets behind it on
its path leave no sooner than their own pace after it. -/
def packetLeft (link : Nat) (f : TxFrame) (d : Dev) : Dev :=
  match qpOf d f.qpn with
  | none => d
  | some q =>
    let now := elapsed d
    let rate := (q.paths.getD f.path {}).rate
    let q1 := { q with
      txCount := q.txCount + 1
      sent := q.sent.map (fun p => if p.psn = f.psn then { p with left := true, at_ := now, order := q.txCount } else p)
      paths := modNth q.paths f.path (fun w => { w with lastTx := some (max (w.lastTx.getD 0) now) })
      timed := if q.spray ∨ q.timed.isSome ∨ f.retx then q.timed else some (f.psn, now) }
    let l := linkOf d link
    let l1 := { l with coves := tall l.coves (fun c => { c with frames := c.frames.map (fun g =>
      if g.qpn = f.qpn ∧ g.path = f.path then { g with paceAt := max g.paceAt (now + paceNs g.len rate) } else g) }) }
    setLink link l1 (setQp f.qpn q1 d)

/-- A frame as the capture filters see it: its bytes as they stand on the wire (00 R5), those that the model does not hold
being open (log entry 3). -/
def egressInfo (link : Nat) (f : TxFrame) (d : Dev) : FrameInfo × Dev :=
  let (h, d1) := openValue d
  ({ port := link / 4, link := link % 4, len := f.len, qpn := f.qpn, opcode := f.opcode, cove := f.cove
     kind := if f.kind = 0 then (if f.opcode = 1 then 1 else 2) else 0
     bytes := if f.kind = 0 then leBytes h 128 else wireBytes d1 f (leBytes h 128) }, d1)

/-- A picked frame leaves (09 R303): `bad` 0 good, 1 found bad before sending started, 2 poisoned after it, 3 underrun. -/
def departFrame (link bad : Nat) (old : Dev) (f : TxFrame) (d : Dev) : Dev :=
  let a : Attr := { netAttr (link / 4) f.cove with mgmt := some (f.kind == 0 || f.cove == 0),
                                                   tclass := some (coveCfg d f.cove).tclass }
  let (x, d0) := egressInfo link f d
  let d1 := epochOut f.stamp d0
  if bad = 1 then
    capture true true (captureFlags x false true false) x (occur 0 4 1 a (occur 3 3 1 a
      (setLink link { linkOf d1 link with shapers := (linkOf old link).shapers } { d1 with perf := old.perf })))
  else
    let d2 := if f.kind = 2 then coveCount f.cove 12 f.len (packetLeft link f d1) else d1
    let d3 := occur 0 3 f.len a (occur 0 2 1 a d2)
    let d4 := if bad = 2 then occur 0 6 1 a d3 else if bad = 3 then occur 0 7 1 a d3 else d3
    emit (.frame link { f with txTs := elapsed d % 2 ^ 32 } (bad != 0))
      (capture true false (captureFlags x (bad == 2) false (bad == 3)) x d4)

/-- TX_OPPORTUNITY (10 R328): a link that is up starts the frame that the scheduler picks. -/
def txOpportunity (link bad : Nat) (d : Dev) : Dev :=
  if linkUp d link then
    let d0 := countHeld link d
    match pickFrame link d0 with
    | none => d0
    | some (f, d1) => departFrame link bad d0 f d1
  else d

/-- TX_OPPORTUNITY (R328). -/
def execTxOpportunity (link bad : Nat) (s : State) : Result := onDev s (txOpportunity link bad)

end Sys2Proof.Machine
end

