-- ==== Sys2Proof/Machine/Spray.lean ====
section
/-! DEFINITION. Spray mode (08 R257 to R269): the receiver's checks and acknowledgements, and the sender's loss detection,
retransmission and path replacement. -/

namespace Sys2Proof.Machine

/-! ## Receiver (R263 to R267) -/

/-- Send a SPRAY_ACK with a syndrome on the trigger's path (R263, R264). -/
def sprayAck (qpn syn timer : Nat) (d : Dev) : Dev :=
  match qpOf d qpn with
  | none => d
  | some q =>
    let p := q.trigger.2.1
    queueAck (qpLink d q) (coveCfg d q.cove).tclass
      { kind := 1, qpn := qpn, cove := q.cove, len := packetBytes d q + 64, opcode := 0xC4, body := sackBody q syn timer
        path := p, srcPort := srcPort q p } (setQp qpn { q with unacked := 0 } d)

/-- Move CUM_PSN over the PSNs received (R263). -/
def advanceCum : Nat → Nat → List Nat → Nat × List Nat
  | 0, cum, set => (cum, set)
  | n + 1, cum, set => if set.contains cum then advanceCum n ((cum + 1) % 2 ^ 24) (set.erase cum) else (cum, set)

/-- Deliver the Sends whose last fragment CUM_PSN has passed, in order (R267). -/
def deliverSends (qpn old : Nat) (d : Dev) : Dev :=
  match qpOf d qpn with
  | none => d
  | some q =>
    let ready := (q.rxMsgs.filter (fun m => decide (psnDiff m.1 old < psnDiff q.rxPsn old))).mergeSort
      (fun a b => decide (psnDiff a.1 old ≤ psnDiff b.1 old))
    ready.foldl (fun a m => deliverCapsule qpn m.2.1 m.2.2 a)
      (setQp qpn { q with rxMsgs := q.rxMsgs.filter (fun m => !ready.any (fun r => r.1 == m.1)) } d)

/-- A packet is received (R264): acknowledged at once when it opens or fills a gap, asks for it, or is the eighth. -/
def markReceived (qpn : Nat) (h : SprayHdr) (x : FrameInfo) (d : Dev) : Dev :=
  match qpOf d qpn with
  | none => d
  | some q =>
    let top := q.rxSet.foldl (fun m p => max m (psnDiff p q.rxPsn + 1)) 0
    let here := psnDiff h.psn q.rxPsn
    let gap := decide (top < here) || decide (here < top)
    let (cum, set) := advanceCum 257 q.rxPsn (h.psn :: q.rxSet)
    let d1 := setQp qpn { q with rxPsn := cum, rxSet := set, unacked := q.unacked + 1
                                 trigger := (h.psn, h.path, h.txTs, x.ce, h.retx) } d
    let d2 := if gap ∨ h.ackReq ∨ 8 ≤ q.unacked + 1 then sprayAck qpn 0 0 d1 else d1
    deliverSends qpn q.rxPsn d2

/-- Payload of a fragment (R262). -/
def sprayLen (q : Qp) (h : SprayHdr) : Nat :=
  if h.fragIndex + 1 = h.fragCount then h.totalLen - (h.fragCount - 1) * q.mtu else q.mtu

/-- What the checks after R265's PSN checks decide. -/
inductive SprayCheck where
  /-- a remote access error -/
  | access
  /-- an invalid request -/
  | invalid
  /-- no in-capsule buffer: RNR -/
  | rnr
  /-- not placed, marked received -/
  | skip
  | place

/-- The checks of R265, in their order. -/
def sprayIn (qpn : Nat) (h : SprayHdr) (len : Option Nat) (x : FrameInfo) (check : Qp → Dev → SprayCheck) (place : Qp → Dev → Dev)
    (d : Dev) : Dev :=
  match qpOf d qpn with
  | none => countDrop x d
  | some q =>
    if q.error ∨ !q.connected then countDrop x d
    else if !q.spray ∨ h.version ≠ 1 ∨ h.fragCount ≤ h.fragIndex ∨ 2048 < h.fragCount ∨ 64 ≤ h.path ∨
        h.totalLen ≤ (h.fragCount - 1) * q.mtu ∨ h.fragCount * q.mtu < h.totalLen ∨
        len.any (fun n => n != sprayLen q h) then errorQp qpn 1 true d
    else
      let trig := { q with trigger := (h.psn, h.path, h.txTs, x.ce, h.retx) }
      let ahead := psnDiff h.psn q.rxPsn
      if 8388608 ≤ ahead ∨ q.rxSet.contains h.psn then
        sprayAck qpn 0 0 (occur 1 4 1 (netAttr q.port q.cove) (setQp qpn trig d))
      else if 256 ≤ ahead then countDrop x d
      else match check q d with
        | .access => errorQp qpn 0 true (setQp qpn trig d)
        | .invalid => errorQp qpn 1 true (setQp qpn trig d)
        | .rnr => sprayAck qpn 1 1 (occur 1 3 1 (netAttr q.port q.cove) (setQp qpn trig d))
        | .skip => markReceived qpn h x d
        | .place => markReceived qpn h x (place q d)

/-- PSN of a message's last fragment (R261). -/
def lastPsn (h : SprayHdr) : Nat := (h.psn + 2 ^ 24 - h.fragIndex + (h.fragCount - 1)) % 2 ^ 24

/-- RECV_SPRAY_SEND (R267): every fragment's row names the capsule that its message carries; it is delivered once CUM_PSN
passes the last one. -/
def recvSpraySend (qpn : Nat) (h : SprayHdr) (op : Nat) (cap : Capsule) (x : FrameInfo) : Dev → Dev :=
  sprayIn qpn h none x
    (fun q d =>
      if h.totalLen ≠ 64 + 4096 * cap.data.length ∨ 1 < cap.data.length ∨ pastDepth d qpn then .invalid
      else if !cap.data.isEmpty ∧ !(thas q.rxMsgs (lastPsn h)) ∧ 524288 ≤ buffersTaken d then .rnr
      else .place)
    (fun q d => setQp qpn { q with rxMsgs := tput q.rxMsgs (lastPsn h) (op, cap) } d)

/-- RECV_SPRAY_SEND (R267). -/
def execRecvSpraySend (qpn : Nat) (h : SprayHdr) (op : Nat) (cap : Capsule) (f : FrameInfo) (s : State) : Result :=
  onDev s (receive f (recvSpraySend qpn h op cap f))

/-- RECV_SPRAY_WRITE (R265, R279): the window, then the generation of every slot it touches. -/
def recvSprayWrite (qpn : Nat) (h : SprayHdr) (dt : Frag) (x : FrameInfo) : Dev → Dev :=
  sprayIn qpn h (some dt.len) x
    (fun q _ =>
      if !landingOk q h.rkey h.vaddr dt.len then .access
      else if q.landing.any (fun l => (slotParts (dt.len / 65536 + 2) (h.vaddr - l.base) dt.len 0).all
          (fun s => (landSlot l s.1).gen == h.gen)) then .place
      else .skip)
    (fun _ d => placeLanding qpn h.vaddr dt.len dt.value d)

/-- RECV_SPRAY_WRITE (R265). -/
def execRecvSprayWrite (qpn : Nat) (h : SprayHdr) (dt : Frag) (f : FrameInfo) (s : State) : Result :=
  onDev s (receive f (recvSprayWrite qpn h dt f))

/-- The read that a reply's MSG_ID names, while it is outstanding (R260, R274): command, bytes got, total. -/
def readOf (q : Qp) (h : SprayHdr) : Option (Nat × Nat × Nat) :=
  match tget q.msgs h.msgId with
  | some (.readRequest t got total) => some (t, got, total)
  | _ => none

/-- RECV_SPRAY_READ_RESP (R260, R274): the reply's place in its sink is its fragment's. -/
def recvSprayReadResp (qpn : Nat) (h : SprayHdr) (tag : Nat) (dt : Frag) (x : FrameInfo) : Dev → Dev :=
  sprayIn qpn h (some dt.len) x
    (fun q _ => match readOf q h with
      | some (t, _, total) =>
        if t = tag ∧ dt.offset = h.fragIndex * q.mtu ∧ dt.offset + dt.len ≤ total then .place else .access
      | none => .access)
    (fun q d => match readOf q h with
      | some (t, got, total) => sinkData qpn h.msgId t got total dt d
      | none => d)

/-- RECV_SPRAY_READ_RESP (R274). -/
def execRecvSprayReadResp (qpn : Nat) (h : SprayHdr) (tag : Nat) (dt : Frag) (f : FrameInfo) (s : State) : Result :=
  onDev s (receive f (recvSprayReadResp qpn h tag dt f))

/-- SPRAY_ACK_TIMER (R264): a data packet is not yet acknowledged. -/
def execSprayAckTimer (qpn : Nat) (s : State) : Result :=
  onDev s (fun d => if (qpOf d qpn).any (fun q => q.spray && !q.error && decide (0 < q.unacked)) then sprayAck qpn 0 0 d
    else d)

/-! ## Sender (R266, R268, R271) -/

/-- The next up path in index order after one (R268); the same one when no other is up. -/
def nextUp (q : Qp) (p : Nat) : Nat :=
  let n := max q.paths.length 1
  (((List.range n).map (fun i => (p + 1 + i) % n)).find? (fun i => (q.paths.getD i {}).up)).getD p

/-- Replace a packet not yet acknowledged. -/
def modPkt (qpn psn : Nat) (f : SentPkt → SentPkt) (d : Dev) : Dev :=
  { d with net.qps := tmod d.net.qps qpn (fun w => { w with sent := w.sent.map (fun p => if p.psn = psn then f p else p) }) }

/-- A PSN is lost (R268): resent on the next up path; the eighth time is retry exhaustion. -/
def lostPkt (qpn psn : Nat) (d : Dev) : Dev :=
  match qpOf d qpn with
  | none => d
  | some q => match q.sent.find? (fun p => p.psn == psn) with
    | none => d
    | some p =>
      if 7 ≤ p.losses then errorQp qpn 3 false d
      else
        let p1 := { p with losses := p.losses + 1, left := false, rnrWait := false, path := nextUp q p.path }
        resend qpn [p1] (modPkt qpn psn (fun _ => p1) d)

/-- Does an acknowledgement show a PSN received (R263, R272)? -/
def sackHas (b : SackBlock) (psn : Nat) : Bool :=
  let i := psnDiff psn (b.cumPsn + 1)
  (psnFrom psn b.cumPsn && psn != b.cumPsn) || (decide (i < 256) && b.sack.getLsbD i)

/-- A path is up again on the first acknowledgement of a packet sent on it (R266). -/
def pathAcked (paths : List Nat) (i : Nat) (p : SprayPath) : SprayPath :=
  if paths.contains i then { p with up := true, timeouts := 0 } else p

/-- RECV_SPRAY_ACK (R263, R268, R271). An RNR's trigger waits for the timer; an error syndrome ends the queue pair. -/
def recvSprayAck (qpn : Nat) (b : SackBlock) (d : Dev) : Dev :=
  match qpOf d qpn with
  | none => { d with net.drops := d.net.drops + 1 }
  | some q =>
    if q.error ∨ !q.connected then { d with net.drops := d.net.drops + 1 }
    else if !q.spray then errorQp qpn 1 true d
    else match b.syndrome with
      | 2 => errorQp qpn 1 false d
      | 3 => errorQp qpn 0 false d
      | 4 => errorQp qpn 2 false d
      | _ =>
        if 4 < b.syndrome then d
        else
          let got := q.sent.filter (fun p => sackHas b p.psn)
          let rest := q.sent.filter (fun p => !sackHas b p.psn)
          let now := elapsed d
          let d1 := setQp qpn { q with sent := rest } d
          let d2 := changePaths qpn (fun i p =>
            let p1 := pathAcked (b.path :: got.map (·.path)) i p
            if i ≠ b.path then p1
            else
              let p2 := if b.retx then p1
                else rttSample now ((now + 2 ^ 32 - b.echoTs % 2 ^ 32) % 2 ^ 32) (tOffNs q) (rMax d q) p1
              if b.ce then markCut now p2 else p2) d1
          let lost := rest.filter (fun p => p.left && got.any (fun g => g.path == p.path && decide (p.order < g.order)))
          let d3 := lost.foldl (fun a p => lostPkt qpn p.psn a) d2
          let d4 := if b.syndrome = 1 then
              match (qpOf d3 qpn).bind (fun w => w.sent.find? (fun p => p.psn == b.trigger)) with
              | some p => if 6 ≤ p.rnr then errorQp qpn 3 false d3
                  else modPkt qpn b.trigger (fun w => { w with rnr := w.rnr + 1, rnrWait := true }) d3
              | none => d3
            else d3
          pumpQp 4096 qpn (finishMsgs qpn d4)

/-- RECV_SPRAY_ACK (R268). -/
def execRecvSprayAck (qpn : Nat) (b : SackBlock) (s : State) : Result := onDev s (recvSprayAck qpn b)

/-- A path goes down after its third timeout in a row (R266): its port changes, its rate is R_MIN, and one packet that asks
for an acknowledgement probes it. -/
def pathDown (qpn i : Nat) (p : SentPkt) (d : Dev) : Dev :=
  match qpOf d qpn with
  | none => d
  | some q =>
    let w := q.paths.getD i {}
    if w.up ∧ 3 ≤ w.timeouts then
      queuePacket qpn i true true { p with path := i }
        (setQp qpn { q with paths := modNth q.paths i (fun v => { v with up := false, k := v.k + 1, rate := rMin }) } d)
    else d

/-- SPRAY_RETX_TIMEOUT (R266, R268, R271). -/
def sprayTimeout (qpn psn : Nat) (d : Dev) : Dev :=
  match qpOf d qpn with
  | none => d
  | some q => match q.sent.find? (fun p => p.psn == psn) with
    | none => d
    | some p =>
      if !q.spray then d
      else
        let d1 := changePaths qpn (fun i w =>
          if i = p.path then { timeoutCut (elapsed d) w with timeouts := w.timeouts + 1 } else w)
          (occur 1 1 1 (netAttr q.port q.cove) d)
        lostPkt qpn psn (pathDown qpn p.path p d1)

/-- SPRAY_RETX_TIMEOUT (R268). -/
def execSprayRetxTimeout (qpn psn : Nat) (s : State) : Result := onDev s (sprayTimeout qpn psn)

/-- SPRAY_RNR_RETRY (R263): the trigger packet leaves again. -/
def sprayRnrRetry (qpn psn : Nat) (d : Dev) : Dev :=
  match (qpOf d qpn).bind (fun q => q.sent.find? (fun p => p.psn == psn && p.rnrWait)) with
  | none => d
  | some p => resend qpn [p] (modPkt qpn psn (fun w => { w with rnrWait := false, left := false }) d)

/-- SPRAY_RNR_RETRY (R263). -/
def execSprayRnrRetry (qpn psn : Nat) (s : State) : Result := onDev s (sprayRnrRetry qpn psn)

end Sys2Proof.Machine
end

