-- ==== Sys2Proof/Machine/AdminQueue.lean ====
section
/-! DEFINITION. Admin commands that read and set: permissions, Abort, features, asynchronous events, log pages, Identify, Get
ASN Status and Queue Thaw (07 R199, R200, R215 to R238, 05 R161, R162). Layouts that the spec takes from the NVM Express
Base Specification are that specification's (log entry 17). -/

namespace Sys2Proof.Machine

/-! ## Who may issue a command (R219, R222, R227) -/

/-- Who may issue an admin command. -/
inductive Who where
  /-- every host -/
  | hosts
  /-- every host and the MHI -/
  | all
  /-- Cove 0 and the MHI -/
  | cove0
  deriving DecidableEq

/-- Run an admin command of a controller, or of the MHI through the mailbox (18 R505): a command refused to its Cove completes
with Invalid Command Opcode. A controller that is not enabled runs none. -/
def admin (c cid : Nat) (w : Who) (f : Dev → Dev) (d : Dev) : Dev :=
  if c = 0 then mboxRun (fun a => if w = .hosts then answerAdmin 0 cid (gen 0x01) 0 a else f a) d
  else match ctrlOf d c with
    | none => d
    | some k =>
      if !k.enabled ∨ k.ended then d
      else if w = .cove0 ∧ k.cove ≠ 0 then answerAdmin c cid (gen 0x01) 0 d else f d

/-- Complete with success and no DW0. -/
def succeed (c cid : Nat) (d : Dev) : Dev := answerAdmin c cid ok 0 d

/-- Complete with Invalid Field in Command. -/
def badField (c cid : Nat) (d : Dev) : Dev := answerAdmin c cid (gen 0x02) 0 d

/-- `len` bytes of a page from an offset; past its end zeros (R224). -/
def window (page : List Byte) (off len : Nat) : List Byte :=
  let l := (page.drop off).take len
  l ++ List.replicate (len - l.length) 0#8

/-- Answer a log page. -/
def logPage (c cid off len : Nat) (page : List Byte) (d : Dev) : Dev := answerData c cid (window page off len) 0 d

/-! ## Log pages (R224 to R230, R238, R221) -/

/-- An Error Information entry (R225). -/
def errorBytes (e : ErrorEntry) : List Byte :=
  leBytes e.count 8 ++ leBytes e.sqid 2 ++ leBytes e.cid 2 ++ leBytes (2 * e.status) 2 ++ zeros 2 ++ leBytes e.lba 8
    ++ leBytes e.nsid 4 ++ zeros 4 ++ leBytes e.asn 8 ++ zeros 24

/-- GET_LOG_ERROR_INFORMATION (R225). -/
def execGetLogErrorInformation (cntlid cid offset len : Nat) (s : State) : Result :=
  onMbox s (admin cntlid cid .hosts (fun d =>
    let k := (ctrlOf d cntlid).map (·.errors)
    logPage cntlid cid offset len ((k.getD []).flatMap errorBytes) d))

/-- GET_LOG_SMART (R224): the temperature is the shelf's hottest junction in kelvins; the page's other figures are open
values (log entry 3). -/
def execGetLogSmart (cntlid cid offset len : Nat) (s : State) : Result :=
  onMbox s (admin cntlid cid .hosts (fun d =>
    let (v, d1) := openValue d
    logPage cntlid cid offset len (leBytes v 1 ++ leBytes (d.mhi.temp + 273).toNat 2 ++ leBytes (v / 256) 509) d1))

/-- Byte of an ANA state in log 0Ch (R221): 01h optimized, 03h inaccessible, 0Fh change. -/
def anaByte (d : Dev) : Nat :=
  if d.host.anaChange then 0x0F else if d.pair.role = .standby ∨ d.pair.role = .fenced then 3 else 1

/-- The ANA log: one group for each Shoal, with the namespaces attached to the controller. -/
def anaLog (d : Dev) (c : Nat) : List Byte :=
  let groups := d.str.shoals.map (·.1)
  leBytes d.host.anaChanges 8 ++ leBytes groups.length 2 ++ zeros 6 ++ groups.flatMap (fun g =>
    let ns := (d.host.nss.filter (fun n => n.2.shoal == g && attached d c n.1)).map (·.1)
    leBytes (g + 1) 4 ++ leBytes ns.length 4 ++ leBytes d.host.anaChanges 8 ++ leBytes (anaByte d) 1 ++ zeros 15
      ++ ns.flatMap (fun n => leBytes n 4))

/-- GET_LOG_ANA (R221). -/
def execGetLogAna (cntlid cid offset len : Nat) (s : State) : Result :=
  onMbox s (admin cntlid cid .hosts (fun d => logPage cntlid cid offset len (anaLog d cntlid) d))

/-- GET_LOG_RESERVATION_NOTIFICATION (R224): the oldest notification, which a read removes; an empty page where there is
none. -/
def execGetLogReservationNotification (cntlid cid offset len : Nat) (s : State) : Result :=
  onMbox s (admin cntlid cid .hosts (fun d =>
    match ctrlOf d cntlid with
    | none => d
    | some k =>
      let n := k.resvCount - k.resvNotices.length + 1
      let page := match k.resvNotices with
        | [] => zeros 64
        | (t, ns) :: r => leBytes n 8 ++ leBytes t 1 ++ leBytes (min r.length 255) 1 ++ zeros 2 ++ leBytes ns 4 ++ zeros 48
      logPage cntlid cid offset len page (modCtrl cntlid (fun x => { x with resvNotices := x.resvNotices.drop 1 }) d)))

/-- Estimated seconds of a block erase (R238): the largest that any member reports plus 120, or FFFFFFFFh where a member reports none. -/
def eraseEstimate (d : Dev) : Nat :=
  let bays := ((d.shelf.labels.flatMap (fun l => l.2.roster.map (fun r => r.2.bay)) ++ d.shelf.spares).eraseDups).filter (driveUp d)
  let told := bays.map (fun b => (tget d.shelf.drives b).bind (·.eraseSeconds))
  if told.contains none then 0xFFFFFFFF else (told.filterMap id).foldl max 0 + 120

/-- Sanitize Status (R238): SPROG, SSTAT, SCDW10 and the estimated times of an overwrite, a block erase and a crypto erase. -/
def execGetLogSanitizeStatus (cntlid cid offset len : Nat) (s : State) : Result :=
  onMbox s (admin cntlid cid .hosts (fun d =>
    let r := d.host.san
    let sstat := match r.state with
      | 1 => 2
      | 2 => 1
      | n => n
    logPage cntlid cid offset len
      (leBytes (min (r.percent * 65536 / 100) 65535) 2 ++ leBytes sstat 2 ++ leBytes r.cdw10 4 ++ leBytes 0xFFFFFFFF 4
        ++ leBytes (eraseEstimate d) 4 ++ leBytes 30 4 ++ zeros 492) d))

/-- Every entry of the Lost Range log, oldest first. -/
def lostEntries (d : Dev) : List LostEntry :=
  (d.shelf.labels.flatMap (fun l => l.2.lost)).mergeSort (fun a b => decide (a.seq ≤ b.seq))

/-- LOST_OVERFLOW over the Shoals. -/
def lostOverflow (d : Dev) : Nat := tsum d.shelf.labels (·.lostOverflow)

/-- GET_LOG_LOST_RANGE (R226). -/
def execGetLogLostRange (cntlid cid offset len : Nat) (s : State) : Result :=
  onMbox s (admin cntlid cid .hosts (fun d =>
    let every := lostEntries d
    let seen := if ctrlCove d cntlid = 0 then every
      else every.filter (fun e => e.resolved && attached d cntlid e.nsid)
    let top := every.foldl (fun a e => max a e.seq) 0
    logPage cntlid cid offset len (leBytes seen.length 4 ++ zeros 4 ++ leBytes (lostOverflow d) 8 ++ leBytes top 8 ++ zeros 40
      ++ seen.flatMap lostBytes) d))

/-- A Queue Freeze entry (R228). -/
def freezeBytes (sqid held : Nat) (e : FreezeEntry) : List Byte :=
  leBytes sqid 2 ++ leBytes e.cid 2 ++ leBytes e.status 2 ++ leBytes e.cause 1 ++ zeros 1 ++ leBytes e.nsid 4
    ++ leBytes e.nlb 4 ++ leBytes e.asn 8 ++ leBytes e.lba 8 ++ leBytes held 2 ++ leBytes e.repeats 2 ++ zeros 4
    ++ leBytes e.esn 8 ++ leBytes e.timeS 6 ++ leBytes e.timeNs 4 ++ zeros 6

/-- GET_LOG_QUEUE_FREEZE (R228): a read with Retain Asynchronous Event clear unmasks vendor events (R216). -/
def execGetLogQueueFreeze (cntlid cid offset len : Nat) (rae : Bool) (s : State) : Result :=
  onMbox s (admin cntlid cid .hosts (fun d =>
    let mine := (d.host.sqs.filter (fun e => e.1 / 65536 == cntlid && e.2.frozen)).mergeSort
      (fun a b => decide (a.2.order ≤ b.2.order))
    let page := leBytes mine.length 4 ++ zeros 12 ++ mine.flatMap (fun e =>
      match e.2.entry with
      | some f => freezeBytes (e.1 % 65536) e.2.held.length f
      | none => [])
    logPage cntlid cid offset len page (if rae then d else modCtrl cntlid (fun k => { k with vendorMasked := false }) d)))

/-- BAY_STATE of log C2h (R229): by the rosters, else a spare, a powered drive, or empty. -/
def bayStateByte (d : Dev) (bay : Nat) : Nat :=
  match rosterOfBay d bay with
  | some (sh, pos) => ((stateOf d sh pos).map memberNum).getD 0xFF
  | none =>
    if d.shelf.spares.contains bay then memberNum .spare
    else if ((tget d.bay.bays bay).map (·.state)).getD .empty = .on then 0xFE else 0xFF

/-- Shelf Health (R229). -/
def shelfHealth (d : Dev) : List Byte :=
  let san := match d.host.san.state with
    | 1 => 1
    | 3 => 2
    | _ => 0
  let free := fun (sh : Nat) => if (shoalOf d sh).isSome then freeRows d sh * 1000 / max (rowsOf d sh) 1 else 0xFFFF
  leBytes (roleNum d.pair.role) 1 ++ leBytes d.pair.partner 1 ++ leBytes d.pool.level 1 ++ leBytes d.host.power 1
    ++ leBytes d.clk.profile 1 ++ leBytes d.clk.state 1 ++ leBytes san 1 ++ zeros 1 ++ leBytes (occupancy d) 4
    ++ leBytes (inService d) 4 ++ [0, 1, 2, 3].flatMap (fun sh => leBytes (free sh) 2)
    ++ (List.range 32).flatMap (fun b => leBytes (bayStateByte d b) 1) ++ leBytes (d.mhi.temp.emod 65536).toNat 2
    ++ leBytes (d.mhi.power / 100) 2 ++ leBytes (lostEntries d).length 4 ++ zeros 64

/-- GET_LOG_SHELF_HEALTH (R229). -/
def execGetLogShelfHealth (cntlid cid offset len : Nat) (s : State) : Result :=
  onMbox s (admin cntlid cid .hosts (fun d => logPage cntlid cid offset len (shelfHealth d) d))

/-- STATE of a format record (R230). -/
def formatStateNum : FormatState → Nat
  | .none => 0
  | .erasing => 1
  | .reclaiming => 2
  | .complete => 3
  | .deleting => 4

/-- GET_LOG_FORMAT_PROGRESS (R230): START_S is rebuilt from its 23 stored bits and the clock. -/
def execGetLogFormatProgress (cntlid cid offset len : Nat) (s : State) : Result :=
  onMbox s (admin cntlid cid .hosts (fun d =>
    let mine := d.host.nss.filter (fun n => n.2.fmt != .none && attached d cntlid n.1)
    let start := fun (n : Ns) => d.clk.tod.s - (d.clk.tod.s + 8388608 - n.startS % 8388608) % 8388608
    logPage cntlid cid offset len (leBytes mine.length 4 ++ zeros 12 ++ mine.flatMap (fun n =>
      leBytes n.1 4 ++ leBytes (formatStateNum n.2.fmt) 1 ++ leBytes n.2.percent 1 ++ zeros 2 ++ leBytes (start n.2) 6 ++ zeros 2)) d))

/-! ## Identify (R200, R201, R231) -/

/-- Fields laid over a page: offset, size and value. -/
def overlayFields (fs : List (Nat × Nat × Nat)) (i : Nat) (b : Byte) : Byte :=
  match fs.find? (fun f => decide (f.1 ≤ i) && decide (i < f.1 + f.2.1)) with
  | some f => BitVec.ofNat 8 (f.2.2 / 2 ^ (8 * (i - f.1)))
  | none => b

/-- 4,096 bytes of Identify data: the fields given over what the Base Specification gives. -/
def identifyPage (cns : Nat) (fs : List (Nat × Nat × Nat)) : List Byte :=
  (List.range 4096).map (fun i => overlayFields fs i (Config.identifyByte cns i))

/-- The Controller Capabilities property (R200): MQES in bits 15:0, TO in units of 500 ms in bits 31:24, NSSRS in bit 36 and MPSMIN in
bits 51:48, over what the Base Specification gives. -/
def capProperty : Nat :=
  leNum ((List.range 8).map (fun i => overlayFields [(0, 2, 1023), (3, 1, 30)] i (Config.identifyByte 256 i))) &&& (2 ^ 64 - 1 - 2 ^ 36 - 15 * 2 ^ 48)

/-- Identify Controller (R200, R231, R1): OACS shows Format NVM to every Cove, and the firmware and namespace commands, with SANICAP, to
Cove 0 alone (R219). -/
def controllerFields (d : Dev) (c : Nat) : List (Nat × Nat × Nat) :=
  let all := ctrlCove d c == 0
  [(0, 2, d.mhi.pci.vendor), (77, 1, 9), (78, 2, c), (128, 2, 1), (130, 2, 10), (132, 2, 100), (256, 2, if all then 0x0E else 2),
   (259, 1, 3), (260, 1, 0x14), (262, 1, 63), (263, 1, 3), (320, 2, 1), (328, 4, if all then 3 else 0), (343, 1, 0x15), (344, 4, 4), (348, 4, 4), (514, 2, 1024), (516, 4, 4096), (520, 2, 0xAD),
   (522, 2, 0), (525, 1, 0), (526, 2, 511), (528, 2, 511), (532, 2, 0), (1792, 4, 260), (1796, 4, 1), (1800, 2, 0), (1803, 1, 1),
   (2048, 2, 24500), (2051, 1, 0), (2052, 4, 0), (2056, 4, 0), (2060, 1, 0), (2061, 1, 0), (2062, 1, 0), (2063, 1, 0),
   (2080, 2, 19000), (2083, 1, 0), (2084, 4, 1000), (2088, 4, 1000), (2092, 1, 1), (2093, 1, 1), (2094, 1, 1), (2095, 1, 1),
   (2112, 2, 14000), (2115, 1, 0), (2116, 4, 1000), (2120, 4, 1000), (2124, 1, 2), (2125, 1, 2), (2126, 1, 2), (2127, 1, 2),
   (2144, 2, 6000), (2147, 1, 2), (2148, 4, 5000), (2152, 4, 5000), (2156, 1, 3), (2157, 1, 3), (2158, 1, 3), (2159, 1, 3)]

/-- Identify Namespace (R200, R201). -/
def namespaceFields (n : Ns) : List (Nat × Nat × Nat) :=
  let g := grainBlocks n.grain - 1
  [(0, 8, n.nsze), (8, 8, n.nsze), (25, 1, 0), (26, 1, 0), (27, 2, 0), (29, 1, 0), (33, 1, 1), (64, 2, g), (66, 2, g), (68, 2, g),
   (70, 2, g), (72, 2, 511), (92, 4, n.shoal + 1), (99, 1, b2n (n.writeProtect != 0)), (128, 4, 12 * 65536), (3072, 1, n.grain),
   (3073, 1, n.shoal), (3074, 1, b2n n.auth), (3075, 1021, 0)]

/-- Identify data by CNS: 00h namespace, 01h controller, 02h and 10h namespace lists, 06h the NVM command set's controller
limits; others fail. -/
def identifyData (d : Dev) (c cns nsid : Nat) : Option (List Byte) :=
  let list := ((d.host.nss.filter (fun n => decide (nsid < n.1) && attached d c n.1)).map (·.1)).take 1024
  match cns with
  | 0x00 => some (match tget d.host.nss nsid with
      | some n => if attached d c nsid then identifyPage 0 (namespaceFields n) else zeros 4096
      | none => zeros 4096)
  | 0x01 => some (identifyPage 1 (controllerFields d c))
  | 0x02 => some (window (list.flatMap (fun n => leBytes n 4)) 0 4096)
  | 0x03 => if attached d c nsid then some (identifyPage 3 []) else none
  | 0x06 => some (identifyPage 6 [(1, 1, 13), (3, 1, 256), (4, 4, 8388608), (8, 8, 8388608)])
  | 0x10 => some (window (list.flatMap (fun n => leBytes n 4)) 0 4096)
  | _ => none

/-- IDENTIFY (R200). -/
def execIdentify (cntlid cid cns nsid : Nat) (s : State) : Result :=
  onMbox s (admin cntlid cid .hosts (fun d => match identifyData d cntlid cns nsid with
    | some l => answerData cntlid cid l 0 d
    | none => badField cntlid cid d))

/-! ## Abort, event requests, keep-alive (R205, R220, R241) -/

/-- ABORT (R220): a capsule not yet admitted completes with Command Abort Requested. -/
def abortCmd (c cid q target : Nat) (d : Dev) : Dev :=
  match (sqOf d c q).bind (fun s => s.held.find? (fun h => h.cap.cid == target)) with
  | some h => runSq c q (answerAdmin c cid ok 0 (rejectCapsule c q h (gen 0x07)
      { d with pool.waiting := if ((sqOf d c q).bind (·.held.head?)) = some h then d.pool.waiting.filter (fun k => k != (c, q))
                               else d.pool.waiting }))
  | none => answerAdmin c cid ok 1 d

/-- ABORT (R220). -/
def execAbort (cntlid cid sqid target : Nat) (s : State) : Result :=
  onMbox s (admin cntlid cid .hosts (abortCmd cntlid cid sqid target))

/-- ASYNCHRONOUS_EVENT_REQUEST (R205): held, up to four; an event that waits completes it at once. -/
def eventRequest (c cid : Nat) (d : Dev) : Dev :=
  match ctrlOf d c with
  | none => d
  | some k =>
    if 4 ≤ k.aers.length then answerAdmin c cid (cmdSpec 0x05) 0 d
    else
      let d1 := modCtrl c (fun x => { x with aers := x.aers ++ [cid], pendingEvents := x.pendingEvents.drop 1 }) d
      match k.pendingEvents with
      | e :: _ => deliverAsync c e d1
      | [] => d1

/-- ASYNCHRONOUS_EVENT_REQUEST (R205). -/
def execAsynchronousEventRequest (cntlid cid : Nat) (s : State) : Result :=
  onMbox s (admin cntlid cid .hosts (eventRequest cntlid cid))

/-- KEEP_ALIVE (R241). -/
def execKeepAlive (cntlid cid : Nat) (s : State) : Result :=
  onMbox s (admin cntlid cid .hosts (fun d => succeed cntlid cid d))

/-! ## Features (R161, R213, R215, R219, R227, R232, 17 R482) -/

/-- Set the shelf's power state (R232, R233): PS3 is entered later; a state above PS3 is an invalid field. -/
def setPower (ps : Nat) (d : Dev) : Dev :=
  if ps = 3 then { d with host.ps3Wanted := true }
  else judgeService { d with host.power := ps, host.lastOperational := ps, host.ps3Wanted := false }

/-- SET_FEATURES_POWER_MANAGEMENT (R232): FLAGS bit 0 of the Cove is POWER_AUTH (02 R36). -/
def execSetFeaturesPowerManagement (cntlid cid ps : Nat) (s : State) : Result :=
  onMbox s (admin cntlid cid .hosts (fun d =>
    if !bit (coveCfg d (ctrlCove d cntlid)).flags 0 then answerAdmin cntlid cid (gen 0x15) 0 d
    else if 3 < ps then badField cntlid cid d else succeed cntlid cid (setPower ps d)))

/-- May the device enter PS3 now (R233)? -/
def ps3Ready (d : Dev) : Bool :=
  d.host.ps3Wanted && decide (liveCmds d = 0) && d.host.sqs.all (fun q => q.2.held.isEmpty) &&
    d.str.rows.all (fun r => r.2.life == .committed || r.2.life == .abandoned) &&
    d.shelf.labels.all (fun l => l.2.resync.isEmpty && l.2.subst.all (fun u => u.state == 2))

/-- PS3_ENTER (R233). -/
def execPs3Enter (s : State) : Result :=
  onDev s (fun d => if ps3Ready d then { d with host.power := 3, host.ps3Wanted := false } else d)

/-- GET_FEATURES_POWER_MANAGEMENT (R232). -/
def execGetFeaturesPowerManagement (cntlid cid : Nat) (s : State) : Result :=
  onMbox s (admin cntlid cid .hosts (fun d => answerAdmin cntlid cid ok d.host.power d))

/-- SET_FEATURES_ASN_REPORTING (05 R161). -/
def execSetFeaturesAsnReporting (cntlid cid cdw11 : Nat) (s : State) : Result :=
  onMbox s (admin cntlid cid .hosts (fun d =>
    if 2 ≤ cdw11 then badField cntlid cid d
    else succeed cntlid cid (modCtrl cntlid (fun k => { k with asnReport := cdw11 == 1 }) d)))

/-- GET_FEATURES_ASN_REPORTING (05 R161). -/
def execGetFeaturesAsnReporting (cntlid cid : Nat) (s : State) : Result :=
  onMbox s (admin cntlid cid .hosts (fun d =>
    answerAdmin cntlid cid ok (b2n (((ctrlOf d cntlid).map (·.asnReport)).getD false)) d))

/-- A write-protect transition (R215): every I/O SQ of every attached controller freezes, and an error entry names no
command (R225). -/
def writeProtect (nsid wp : Nat) (d : Dev) : Dev :=
  let d1 := { d with host.nss := tmod d.host.nss nsid (fun n => { n with writeProtect := wp })
                     prism.changes := d.prism.changes ++ [.nsmap nsid] }
  d.host.ctrls.foldl (fun a k =>
    if k.2.ended ∨ !attached d k.1 nsid then a
    else addError k.1 0xFFFF 0xFFFF { sct := 0, sc := 0 } 0 nsid 0
      ((sqsOf a k.1).foldl (fun b q => freezeSq k.1 q { cid := 0xFFFF, cause := 2, nsid := nsid } b) a)) (mirrorNamespace nsid d1)

/-- SET_FEATURES_WRITE_PROTECTION (R215): states 0 none, 1 protected, 2 until power cycle, 3 for good; a namespace protected in
the last two ways keeps its state (log entry 17). -/
def execSetFeaturesWriteProtection (cntlid cid nsid wp : Nat) (s : State) : Result :=
  onMbox s (admin cntlid cid .hosts (fun d =>
    match tget d.host.nss nsid with
    | none => answerAdmin cntlid cid (gen 0x0B) 0 d
    | some n =>
      if !attached d cntlid nsid then answerAdmin cntlid cid (gen 0x0B) 0 d
      else if 3 < wp then badField cntlid cid d
      else if n.writeProtect = wp then succeed cntlid cid d
      else if 2 ≤ n.writeProtect then answerAdmin cntlid cid (cmdSpec 0x0E) 0 d
      else succeed cntlid cid (writeProtect nsid wp d)))

/-- GET_FEATURES_WRITE_PROTECTION (R215). -/
def execGetFeaturesWriteProtection (cntlid cid nsid : Nat) (s : State) : Result :=
  onMbox s (admin cntlid cid .hosts (fun d =>
    match tget d.host.nss nsid with
    | some n => if attached d cntlid nsid then answerAdmin cntlid cid ok n.writeProtect d
        else answerAdmin cntlid cid (gen 0x0B) 0 d
    | none => answerAdmin cntlid cid (gen 0x0B) 0 d))

/-- Set Features C2h (17 R482): with both bits the clear alone runs. -/
def eventLogControl (c cid cdw11 : Nat) : Dev → Dev :=
  admin c cid .hosts (fun d =>
    if ctrlCove d c ≠ 0 ∨ 4 ≤ cdw11 then badField c cid d
    else succeed c cid (if bit cdw11 1 then clearEvents 1 d else if bit cdw11 0 then requestFlush d else d))

/-- EVENT_LOG_CONTROL_FLUSH (17 R482). -/
def execEventLogControlFlush (cntlid cid cdw11 : Nat) (s : State) : Result := onMbox s (eventLogControl cntlid cid (Nat.lor cdw11 1))

/-- EVENT_LOG_CONTROL_CLEAR (17 R482). -/
def execEventLogControlClear (cntlid cid cdw11 : Nat) (s : State) : Result := onMbox s (eventLogControl cntlid cid (Nat.lor cdw11 2))

/-- GET_FEATURES_EVENT_LOG_CONTROL (17 R482). -/
def execGetFeaturesEventLogControl (cntlid cid : Nat) (s : State) : Result :=
  onMbox s (admin cntlid cid .hosts (fun d =>
    answerAdmin cntlid cid ok (d.ev.slots.length % 262144 + 262144 * min d.ev.lost 0x3FFF) d))

/-- LOST_RANGE_ACKNOWLEDGE (R227): resolved and dead entries up to an ENTRY_SEQ go; it completes once the labels are
written. -/
def lostAcknowledge (c cid cdw11 seq : Nat) (d : Dev) : Dev :=
  if ctrlCove d c ≠ 0 ∨ 2 ≤ cdw11 then badField c cid d
  else
    let gone := fun (e : LostEntry) => decide (e.seq ≤ seq) && (e.resolved || e.dead)
    let n := ((lostEntries d).filter gone).length
    let touched := d.shelf.labels.filter (fun l => l.2.lost.any gone || (cdw11 == 1 && l.2.lostOverflow != 0))
    if touched.isEmpty then answerAdmin c cid ok 0 d
    else
      let d1 := touched.foldl (fun a l => writeLabels l.1 (setLabel l.1
        { l.2 with lost := l.2.lost.filter (fun e => !gone e), lostOverflow := if cdw11 = 1 then 0 else l.2.lostOverflow } a)) d
      { d1 with shelf.labelWaits := d1.shelf.labelWaits ++ [.ack c cid n] }

/-- LOST_RANGE_ACKNOWLEDGE (R227). -/
def execLostRangeAcknowledge (cntlid cid cdw11 entrySeq : Nat) (s : State) : Result :=
  onMbox s (admin cntlid cid .all (lostAcknowledge cntlid cid cdw11 entrySeq))

/-- GET_FEATURES_LOST_RANGE (R227). -/
def execGetFeaturesLostRange (cntlid cid : Nat) (s : State) : Result :=
  onMbox s (admin cntlid cid .all (fun d => answerAdmin cntlid cid ok (lostEntries d).length d))

/-- SET_FEATURES_KEEP_ALIVE_TIMER (R241, R200): in ms, rounded up to the granularity of 100 ms; 0 disables it. -/
def execSetFeaturesKeepAliveTimer (cntlid cid kato : Nat) (s : State) : Result :=
  onMbox s (admin cntlid cid .hosts (fun d =>
    succeed cntlid cid (modCtrl cntlid (fun k => { k with kato := ceilDiv kato 100 * 100}) d)))

/-- GET_FEATURES_KEEP_ALIVE_TIMER (R219). -/
def execGetFeaturesKeepAliveTimer (cntlid cid : Nat) (s : State) : Result :=
  onMbox s (admin cntlid cid .hosts (fun d => answerAdmin cntlid cid ok (((ctrlOf d cntlid).map (·.kato)).getD 0) d))

/-- SET_FEATURES_HOST_BEHAVIOR (R213). -/
def execSetFeaturesHostBehavior (cntlid cid acre : Nat) (s : State) : Result :=
  onMbox s (admin cntlid cid .hosts (fun d =>
    if 2 ≤ acre then badField cntlid cid d
    else succeed cntlid cid (modCtrl cntlid (fun k => { k with acre := acre == 1 }) d)))

/-- GET_FEATURES_HOST_BEHAVIOR (R219): 512 bytes, ACRE in byte 0. -/
def execGetFeaturesHostBehavior (cntlid cid : Nat) (s : State) : Result :=
  onMbox s (admin cntlid cid .hosts (fun d =>
    answerData cntlid cid (leBytes (b2n (((ctrlOf d cntlid).map (·.acre)).getD false)) 512) 0 d))

/-- SET_FEATURES_ASYNC_EVENT_CONFIG (R219). -/
def execSetFeaturesAsyncEventConfig (cntlid cid cdw11 : Nat) (s : State) : Result :=
  onMbox s (admin cntlid cid .hosts (fun d =>
    succeed cntlid cid (modCtrl cntlid (fun k => { k with aerConfig := cdw11 % 2 ^ 32 }) d)))

/-- GET_FEATURES_ASYNC_EVENT_CONFIG (R219). -/
def execGetFeaturesAsyncEventConfig (cntlid cid : Nat) (s : State) : Result :=
  onMbox s (admin cntlid cid .hosts (fun d => answerAdmin cntlid cid ok (((ctrlOf d cntlid).map (·.aerConfig)).getD 0) d))

/-- DW0 of Number of Queues: the count granted for SQs and CQs, each less one. -/
def queuesDw0 (n : Nat) : Nat := (n - 1) % 65536 * 65537

/-- SET_FEATURES_NUMBER_OF_QUEUES (R219, R199): up to QP_QUOTA - 1 I/O queues; 65,535 asked for is an invalid field, and a
change after an I/O queue exists a Command Sequence Error (log entry 17). -/
def execSetFeaturesNumberOfQueues (cntlid cid nsqr ncqr : Nat) (s : State) : Result :=
  onMbox s (admin cntlid cid .hosts (fun d =>
    if 65535 ≤ nsqr ∨ 65535 ≤ ncqr then badField cntlid cid d
    else if !(sqsOf d cntlid).isEmpty then answerAdmin cntlid cid (gen 0x0C) 0 d
    else
      let n := min (min nsqr ncqr + 1) ((coveCfg d (ctrlCove d cntlid)).qpQuota - 1)
      answerAdmin cntlid cid ok (queuesDw0 n) (modCtrl cntlid (fun k => { k with nQueues := n }) d)))

/-- GET_FEATURES_NUMBER_OF_QUEUES (R219). -/
def execGetFeaturesNumberOfQueues (cntlid cid : Nat) (s : State) : Result :=
  onMbox s (admin cntlid cid .hosts (fun d =>
    answerAdmin cntlid cid ok (queuesDw0 (((ctrlOf d cntlid).map (·.nQueues)).getD 0)) d))

/-! ## Get ASN Status and Queue Thaw (05 R162, R217, R222) -/

/-- GET_ASN_STATUS (05 R162). -/
def execGetAsnStatus (cntlid cid nsid : Nat) (s : State) : Result :=
  onMbox s (admin cntlid cid .all (fun d =>
    match tget d.host.nss nsid with
    | some n => if attached d cntlid nsid then
        answerData cntlid cid (leBytes n.nextAsn 8 ++ leBytes (lowWater d nsid) 8 ++ leBytes ((tget d.pool.marks nsid).getD 0) 8
          ++ leBytes n.resumes 4 ++ zeros 4) 0 d
      else answerAdmin cntlid cid (gen 0x0B) 0 d
    | none => answerAdmin cntlid cid (gen 0x0B) 0 d))

/-- The failures of Queue Thaw (R217). -/
def thawFails (d : Dev) (c sqid : Nat) : Option Status :=
  match (if sqid = 0 then none else sqOf d c sqid) with
  | none => some (cmdSpec 0x01)
  | some s => if s.frozen then none else some (gen 0x0C)

/-- QUEUE_THAW_RESUME (R217): the entry is removed and admission resumes at the head, which is checked now (R208). -/
def thawResume (c cid sqid : Nat) (d : Dev) : Dev :=
  match thawFails d c sqid with
  | some st => answerAdmin c cid st 0 d
  | none =>
    let held := ((sqOf d c sqid).map (fun s => s.held.length)).getD 0
    let d1 := modSq c sqid (fun s => { s with frozen := false, entry := none }) d
    runSq c sqid (recheckHead c sqid (answerAdmin c cid ok held d1))

/-- QUEUE_THAW_RESUME (R217). -/
def execQueueThawResume (cntlid cid sqid : Nat) (s : State) : Result :=
  onMbox s (admin cntlid cid .all (thawResume cntlid cid sqid))

/-- QUEUE_THAW_DISCARD (R217): every held capsule completes with 81h; the queue stays frozen with CAUSE 3. -/
def thawDiscard (c cid sqid : Nat) (d : Dev) : Dev :=
  match thawFails d c sqid with
  | some st => answerAdmin c cid st 0 d
  | none =>
    let held := ((sqOf d c sqid).map (·.held)).getD []
    let d1 := held.foldl (fun a h => rejectCapsule c sqid h (vendor a c 0x81 true 0) a) d
    answerAdmin c cid ok held.length
      (modSq c sqid (fun s => { s with entry := s.entry.map (fun e => { e with cause := 3 }) }) d1)

/-- QUEUE_THAW_DISCARD (R217). -/
def execQueueThawDiscard (cntlid cid sqid : Nat) (s : State) : Result :=
  onMbox s (admin cntlid cid .all (thawDiscard cntlid cid sqid))

end Sys2Proof.Machine
end

