-- ==== Sys2Proof/Machine/ChartFormat.lean ====
section
/-! DEFINITION. The Chart image as bytes: header, signature block, sections, field ranges, defaults and constraints
(02 R25 to R47, R58). An image is a function from byte offset to byte value. -/

namespace Sys2Proof.Machine

/-- The bytes of an image, by offset. -/
abbrev Img := Nat → Nat

/-- An image at a device address. -/
def imgAt (m : Memory) (base : Nat) : Img := fun o => (mget m (base + o)).toNat

/-- Little-endian number of `n` bytes at an offset (00 R5). -/
def rdLe (g : Img) (o : Nat) : Nat → Nat
  | 0 => 0
  | n + 1 => g o + 256 * rdLe g (o + 1) n

/-- Why an image fails: ERR code, SECTION, FIELD and error offset (R63, R64). -/
structure ChartErr where
  code : Nat
  section_ : Nat := 0
  field : Nat := 0
  offset : Nat := 0
  deriving DecidableEq, Repr

/-- The first failure of a list of checks. -/
def firstErr : List (Option ChartErr) → Option ChartErr
  | [] => none
  | some e :: _ => some e
  | none :: r => firstErr r

/-- A check: fails unless the condition holds. -/
def need (c : Bool) (e : ChartErr) : Option ChartErr := if c then none else some e

/-- The first offset of a list at which a byte is not the one required. -/
def firstBad (g : Img) : Nat → List Nat → Option Nat
  | _, [] => none
  | o, b :: r => if g o = b then firstBad g (o + 1) r else some o

/-- Offset of the first non-zero byte from `o`, within `n` bytes. -/
def firstNonZero (g : Img) (o : Nat) : Nat → Option Nat
  | 0 => none
  | n + 1 => if g o = 0 then firstNonZero g (o + 1) n else some o

/-! ## Header and signature (R25 to R27, R47 steps 1 to 5) -/

/-- Step 1 of R47: MAGIC, FORMAT, HDR_LEN. -/
def checkMagic (g : Img) : Option ChartErr :=
  match firstBad g 0 [0x57, 0x58, 0x43, 0x48] with
  | some o => some { code := 1, field := 0, offset := o }
  | none =>
    if g 5 ≠ 1 then some { code := 1, field := 4, offset := 5 }
    else match firstBad g 6 [64, 0] with
      | some o => some { code := 1, field := 6, offset := o }
      | none => none

/-- IMAGE_LEN. -/
def imageLen (g : Img) : Nat := rdLe g 8 4

/-- Step 2 of R47: IMAGE_LEN against R25, and CHART_STAGE_LEN for a staged image. DESIGN CHOICE (log entry 33): the first failing byte
(R64) is the first of IMAGE_LEN. -/
def checkLen (g : Img) (stageLen : Option Nat) : Option ChartErr :=
  let l := imageLen g
  need (l % 8 == 0 && decide (264 ≤ l) && decide (l ≤ 4194304) &&
      (match stageLen with
        | some n => n == l
        | none => true))
    { code := 2, field := 8, offset := 8 }

/-- Step 3 of R47: DEVICE_ID and SILICON_REV. -/
def checkDevice (g : Img) : Option ChartErr :=
  firstErr [need (rdLe g 0x0C 2 == 0x3240) { code := 3, field := 0x0C }, need (g 0x0E == 0xB1) { code := 3, field := 0x0E }]

/-- Bytes of an image from an offset. -/
def imgBytes (g : Img) (o n : Nat) : List Byte := (run o n).map (fun i => BitVec.ofNat 8 (g i))

/-- Step 4 of R47: KEY_INDEX, key hash and revoke state (R27), for a set of key-hash slots. -/
def keyOk (g : Img) (l : Nat) (keys : Table Nat) (revoked : BitVec 4) : Bool :=
  let b := l - 200
  let k := g b
  decide (k < 4) && !revoked.getLsbD k && (tget keys k == some (Config.sha384 (imgBytes g (b + 8) 96)))

/-- Step 5 of R47: r and s verify over the SHA-384 of bytes 0 to L - 97 (R27). -/
def sigOk (g : Img) (l : Nat) : Bool :=
  let b := l - 200
  Config.ecdsaVerifies (imgBytes g (b + 8) 96) (Config.sha384 (imgBytes g 0 (l - 96))) (imgBytes g (b + 104) 48)
    (imgBytes g (b + 152) 48)

/-! ## Sections (R28, R29, R47 step 6) -/

/-- A section of an image: TYPE, VERSION, offset of its body, LENGTH. -/
structure Sec where
  type : Nat
  version : Nat
  body : Nat
  len : Nat
  deriving DecidableEq, Repr

/-- The smallest body of a known type's layout, from its own counts (R31); none for a type not known. -/
def layoutLen (g : Img) (t b : Nat) : Option Nat :=
  match t with
  | 1 => some 72
  | 2 => some (8 + 16 * g b)
  | 3 => some 32
  | 4 => some 16
  | 5 => some (76 + 72 * rdLe g b 2)
  | 6 => some 144
  | 7 => some 8
  | 8 => some 8
  | 9 => some (16 + 16 * g (b + 4) + 8 * g (b + 5))
  | 10 => some 32
  | 11 => some 8
  | 12 => some (8 + 8 * rdLe g b 2)
  | 13 => some (20 + 16 * g (b + 1))
  | 14 => some 8
  | 15 => some 32
  | _ => none

/-- Offsets of the gate lists of GATES, and the end of the last (R38). -/
def gateOffsets (g : Img) (o : Nat) : Nat → List Nat × Nat
  | 0 => ([], o)
  | n + 1 =>
    let r := gateOffsets g (o + 24 + 8 * rdLe g (o + 2) 2) n
    (o :: r.1, r.2)

/-- The layout length of a section, the gate lists of GATES included. -/
def fullLayout (g : Img) (t b : Nat) : Option Nat :=
  if t = 7 then some ((gateOffsets g (b + 8) (min (g b) 255)).2 - b) else layoutLen g t b

/-- Read the section list (R28, R29): the sections, or the framing error 0x07. `left` sections remain from offset `o`;
`prev` is the TYPE before. DESIGN CHOICE (log entry 33): a header that does not fit reports the TYPE before, FIELD 0 and its own offset;
a byte of padding that is not zero reports its section's TYPE and FIELD 0. -/
def readSections (g : Img) (limit : Nat) : Nat → Nat → Nat → List Sec → Except ChartErr (List Sec)
  | 0, o, prev, acc =>
    match firstNonZero g o (limit - o) with
    | some x => .error { code := 7, section_ := prev, field := 0, offset := x }
    | none => .ok acc.reverse
  | n + 1, o, prev, acc =>
    if limit < o + 8 then .error { code := 7, section_ := prev, field := 0, offset := o }
    else
      let t := rdLe g o 2
      let v := g (o + 2)
      let len := rdLe g (o + 4) 4
      let next := (o + 8 + len + 7) / 8 * 8
      if acc ≠ [] ∧ t ≤ prev then .error { code := 7, section_ := t, field := 0, offset := o }
      else if t < 0x8000 ∧ (layoutLen g t (o + 8)).isNone then .error { code := 7, section_ := t, field := 0, offset := o }
      else if t < 0x8000 ∧ v = 0 then .error { code := 7, section_ := t, field := 2, offset := o + 2 }
      else if g (o + 3) ≠ 0 then .error { code := 7, section_ := t, field := 3, offset := o + 3 }
      else if limit < o + 8 + len then .error { code := 7, section_ := t, field := 4, offset := o + 4 }
      else if len < (if t < 0x8000 then (fullLayout g t (o + 8)).getD 0 else 0) then
        .error { code := 7, section_ := t, field := 4, offset := o + 4 }
      else match firstNonZero g (o + 8 + len) (min next limit - (o + 8 + len)) with
        | some x => .error { code := 7, section_ := t, field := 0, offset := x }
        | none => readSections g limit n next t ({ type := t, version := v, body := o + 8, len := len } :: acc)

/-! ## Field ranges (R32 to R46, R47 step 7) -/

/-- A field's place and range: its values are lo to hi, in multiples of `mult`; 0 where the default is "0 → d"; and one
special value. A reserved field has lo = hi = 0. Where another field bounds the range, lo and hi are the widest that it allows, and the
bound itself is a constraint of step 8 (log entry 29). -/
structure Field where
  off : Nat
  size : Nat
  lo : Nat := 0
  hi : Nat := 0
  zero : Bool := false
  special : Option Nat := none
  mult : Nat := 1
  /-- bits outside it must be 0, where the table says so; a reserved field has none -/
  mask : Option Nat := none
  deriving DecidableEq, Repr

/-- A reserved field: every byte 0. -/
def rsv (off size : Nat) : Field := { off := off, size := size, mask := some 0 }

/-- A field of a range. -/
def fld (off size lo hi : Nat) : Field := { off := off, size := size, lo := lo, hi := hi }

/-- A field of a range whose 0 takes the default. -/
def fldZ (off size lo hi : Nat) : Field := { off := off, size := size, lo := lo, hi := hi, zero := true }

/-- A field whose bits from a power of two up must be 0. -/
def fldBits (off size n : Nat) : Field := { off := off, size := size, lo := 0, hi := 2 ^ n - 1, mask := some (2 ^ n - 1) }

/-- The first byte of a field that holds a bit outside its mask (R64). -/
def maskedBad (g : Img) (o mask : Nat) : Nat → Option Nat
  | 0 => none
  | n + 1 => if g o % 256 &&& (255 - mask % 256) = 0 then maskedBad g (o + 1) (mask / 256) n else some o

/-- The check of one field of the record at `base` (R47 step 7, R64): the error offset is the first byte in which a bit that must be 0
is set. DESIGN CHOICE (log entry 33): the field's first byte, where its value as a whole is out of range. -/
def checkField (g : Img) (t base : Nat) (f : Field) : Option ChartErr :=
  let v := rdLe g (base + f.off) f.size
  if (f.zero ∧ v = 0) ∨ some v = f.special ∨ (f.lo ≤ v ∧ v ≤ f.hi ∧ v % f.mult = 0) then none
  else
    let o := (f.mask.bind (fun k => maskedBad g (base + f.off) k f.size)).getD (base + f.off)
    some { code := 8, section_ := t, field := f.off % 256, offset := o }

/-- The checks of a record. -/
def checkRec (g : Img) (t base : Nat) (fs : List Field) : Option ChartErr := firstErr (fs.map (checkField g t base))

/-- The checks of `n` records of `size` bytes. -/
def checkRecs (g : Img) (t base size n : Nat) (fs : List Field) : Option ChartErr :=
  firstErr ((List.range n).map (fun i => checkRec g t (base + size * i) fs))

/-- Header fields checked at step 7 (R26). -/
def headerFields : List Field := [rsv 0x0F 1, fld 0x10 4 1 0xFFFFFFFE, fld 0x14 2 0 16, rsv 0x16 10]

def portFields : List Field := [fld 0 1 0 2, fld 1 1 0 1, fld 2 1 0 1, rsv 3 1, fldZ 4 2 1518 9216, rsv 6 2]
def driveFields : List Field := [fld 64 1 0 1, fld 65 1 0 3, rsv 66 6]
def shoalsHead : List Field := [fld 0 1 1 4, rsv 1 3, fld 4 4 0 0xFFFFFFFF]
def shoalFields : List Field :=
  [fld 0 1 0 3, fld 1 1 1 255, fld 2 1 4 32, fld 3 1 1 3, fld 4 1 0 3, fldZ 5 1 1 8, fld 6 1 0 1, rsv 7 1,
   fld 8 4 0 0xFFFFFFFF, fld 12 4 0 0xFFFFFFFF]
def poolFields : List Field :=
  [{ fldZ 0 4 16384 61440 with mult := 512 }, fldZ 4 4 64 1024, fldZ 8 4 1024 16384, fldZ 12 4 128 2048,
   fldZ 16 4 256 256, { fldZ 20 4 256 4080 with mult := 16 }, fldZ 24 4 128 1024, rsv 28 4]
def hbmFields : List Field := [fldZ 0 4 8192 73728, fld 4 4 0 49152, fldZ 8 4 1024 4096, fld 12 4 0 1024]
def covesHead : List Field := [fld 0 2 0 4096, rsv 2 2]

/-- Fields of a Cove record; `lo` to `hi` is the range of COVE (R36). -/
def coveFields (lo hi : Nat) : List Field :=
  let u := some 0xFFFFFFFF
  [fld 0 2 lo hi, fldBits 2 2 1, fldZ 4 4 1 262144, fldZ 8 2 1 4096, fld 10 1 0 7, fldZ 11 1 1 255, fld 12 4 0 59392,
   fldZ 16 4 512 59392, fldZ 20 4 1 400000, fldZ 24 4 9216 16777216, { fldZ 28 4 1 400000 with special := u },
   fldZ 32 4 9216 16777216, fldZ 36 4 1 50000000, fldZ 40 4 1 65536, { fldZ 44 4 1 50000000 with special := u },
   fldZ 48 4 1 65536, fldZ 52 4 1 400000, fldZ 56 4 2097152 268435456, { fldZ 60 4 1 400000 with special := u },
   fldZ 64 4 2097152 268435456, rsv 68 4]

def classPort : List Field := [fld 0 1 0 255, rsv 1 3] ++ (List.range 8).map (fun i => fldZ (4 + i) 1 1 255) ++ [rsv 12 4]
def classTail : List Field := (List.range 8).map (fun i => fld (128 + i) 1 0 255) ++ [fld 136 1 0 7, rsv 137 7]
def gateHead : List Field := [fld 0 1 0 8, rsv 1 7]
def gateListFields : List Field :=
  [fld 0 1 0 7, rsv 1 1, fld 2 2 1 256, fld 4 4 1000 1000000000, fldBits 8 8 48, fld 16 4 0 999999999, rsv 20 4]
def gateEntryFields : List Field := [fld 0 1 0 255, rsv 1 3, fld 4 4 64 0xFFFFFFFF]
def clockFields : List Field :=
  [fld 0 1 0 3, fld 1 1 0 1, fld 2 1 0 127, fld 3 1 0 7, { fld 4 1 0 7 with special := some 0xFF }, fld 5 1 0 1,
   fld 6 1 0 1, rsv 7 1]
def tideHead : List Field := [fldZ 0 4 3600 604800, fld 4 1 1 8, fld 5 1 1 64, rsv 6 2, fldBits 8 8 48]
def profileFields : List Field := [fld 0 4 100 40000, fld 4 4 0 40000, fld 8 4 0 49152, fld 12 1 0 1, fld 13 1 0 1, rsv 14 2]
def entryFields : List Field := [fld 0 4 0 604799, fld 4 1 0 7, fld 5 1 0 3, rsv 6 2]
def lightFields : List Field :=
  [fld 0 1 0 1, fld 1 1 0 1, fld 2 1 0 1, rsv 3 1, fldZ 4 4 100 20000, fldZ 8 4 100 40000, fld 12 4 0 20000,
   fldZ 16 4 0 40000, fld 20 4 0 59392, fldZ 24 2 1 65535, rsv 26 6]
def cipherFields : List Field := [fldBits 0 4 24, rsv 4 4]
def eventsHead : List Field := [fld 0 2 0 1024, rsv 2 6]
def eventFields : List Field := [fld 0 2 0 0xFFFF, fld 2 2 0 0xFFFF, fld 4 1 0 3, rsv 5 3]
def bayHead : List Field := [fldZ 0 1 1 4, fld 1 1 0 32, rsv 2 2]

/-- Fields of a bay record; `lo` to `hi` is the range of BAY, with 0xFF in the default record (R44). -/
def bayFields (lo hi : Nat) : List Field :=
  [fld 0 1 lo hi, fldZ 1 1 1 255, fldZ 2 1 2 20, rsv 3 1, fldZ 4 2 9000 11400, fldZ 6 2 12600 15000, fldZ 8 2 500 8000,
   fldZ 10 2 1 100, fldZ 12 2 500 10000, rsv 14 2]

def pairFields : List Field := [fld 0 1 0 1, fld 1 1 0 1, rsv 2 2, fldZ 4 2 50 300, rsv 6 2]
def storageFields : List Field :=
  [fldZ 0 2 100 10000, fldZ 2 2 10 3600, fldZ 4 4 500 20000, fldZ 8 4 1000 50000, fldZ 12 4 1000 1000000, fldZ 16 2 1 600,
   fldZ 18 2 1 1000, fldZ 20 2 50 10000, fld 22 2 0 1000, fldZ 24 2 20 200, rsv 26 6]

/-- Step 7 of R47 for one section, bytes beyond the layout of VERSION 1 included (R29). -/
def checkSec (g : Img) (x : Sec) : Option ChartErr :=
  let b := x.body
  let t := x.type
  let body := match t with
    | 1 => firstErr [checkRecs g t b 8 8 portFields, checkRec g t b driveFields]
    | 2 => firstErr [checkRec g t b shoalsHead, checkRecs g t (b + 8) 16 (g b) shoalFields]
    | 3 => checkRec g t b poolFields
    | 4 => checkRec g t b hbmFields
    | 5 => firstErr [checkRec g t b covesHead, checkRec g t (b + 4) (coveFields 0xFFFF 0xFFFF),
        checkRecs g t (b + 76) 72 (rdLe g b 2) (coveFields 0 4095)]
    | 6 => firstErr [checkRecs g t b 16 8 classPort, checkRec g t b classTail]
    | 7 => firstErr (checkRec g t b gateHead :: ((gateOffsets g (b + 8) (g b)).1.map (fun o =>
        firstErr [checkRec g t o gateListFields, checkRecs g t (o + 24) 8 (rdLe g (o + 2) 2) gateEntryFields])))
    | 8 => checkRec g t b clockFields
    | 9 => firstErr [checkRec g t b tideHead, checkRecs g t (b + 16) 16 (g (b + 4)) profileFields,
        checkRecs g t (b + 16 + 16 * g (b + 4)) 8 (g (b + 5)) entryFields]
    | 10 => checkRec g t b lightFields
    | 11 => firstErr [checkRec g t b cipherFields,
        need (decide ((bitList (rdLe g b 4) 24).length ≤ 8)) { code := 8, section_ := t, field := 0, offset := b }]
    | 12 => firstErr [checkRec g t b eventsHead, checkRecs g t (b + 8) 8 (rdLe g b 2) eventFields]
    | 13 => firstErr [checkRec g t b bayHead, checkRec g t (b + 4) (bayFields 0xFF 0xFF),
        checkRecs g t (b + 20) 16 (g (b + 1)) (bayFields 0 31)]
    | 14 => checkRec g t b pairFields
    | 15 => checkRec g t b storageFields
    | _ => none
  match body with
  | some e => some e
  | none =>
    if x.version = 1 ∧ t < 0x8000 then
      let n := (fullLayout g t b).getD x.len
      (firstNonZero g (b + n) (x.len - n)).map (fun o => { code := 8, section_ := t, field := (o - b) % 256, offset := o })
    else none

/-! ## Values with defaults (R30, R32 to R46) -/

/-- A "0 → d" field. -/
def dz (v d : Nat) : Nat := if v = 0 then d else v

/-- The section of a type. -/
def secOf (ss : List Sec) (t : Nat) : Option Nat := (ss.find? (fun x => x.type == t)).map (·.body)

def buildPort (g : Img) (b : Nat) : PortCfg :=
  { breakout := g b, media := g (b + 1), enable := g (b + 2), maxFrame := dz (rdLe g (b + 4) 2) 9216 }

def buildShoal (g : Img) (b : Nat) : ShoalCfg :=
  { shoal := g b, geometryId := g (b + 1), width := g (b + 2), parity := g (b + 3), spareStrips := g (b + 4)
    streams := dz (g (b + 5)) 8, metaMode := g (b + 6), members := reg (rdLe g (b + 8) 4)
    evacuating := reg (rdLe g (b + 12) 4) }

/-- The Shoal that an omitted SHOALS section forms (R30). -/
def defaultShoal (laneMode : Nat) : ShoalCfg :=
  { shoal := 0, geometryId := 1, width := if laneMode = 1 then 16 else 32, parity := 3, spareStrips := 1, streams := 8
    metaMode := 0, members := if laneMode = 1 then 0xFFFF#32 else 0xFFFFFFFF#32, evacuating := 0 }

def buildCove (g : Img) (b : Nat) : CoveCfg :=
  { cove := rdLe g b 2, flags := rdLe g (b + 2) 2, qpQuota := dz (rdLe g (b + 4) 4) 64
    nsQuota := dz (rdLe g (b + 8) 2) 16, tclass := g (b + 10), weight := dz (g (b + 11)) 16
    floor := rdLe g (b + 12) 4, cap := dz (rdLe g (b + 16) 4) 8192
    shCir := dz (rdLe g (b + 20) 4) 1000, shCbs := dz (rdLe g (b + 24) 4) 65536
    shPir := dz (rdLe g (b + 28) 4) 0xFFFFFFFF, shPbs := dz (rdLe g (b + 32) 4) 262144
    cmdCir := dz (rdLe g (b + 36) 4) 100000, cmdCbs := dz (rdLe g (b + 40) 4) 1024
    cmdPir := dz (rdLe g (b + 44) 4) 1000000, cmdPbs := dz (rdLe g (b + 48) 4) 4096
    byteCir := dz (rdLe g (b + 52) 4) 8000, byteCbs := dz (rdLe g (b + 56) 4) 4194304
    bytePir := dz (rdLe g (b + 60) 4) 0xFFFFFFFF, bytePbs := dz (rdLe g (b + 64) 4) 16777216 }

def buildGates (g : Img) (b : Nat) : List GateList :=
  (gateOffsets g (b + 8) (g b)).1.map (fun o =>
    { port := g o, cycleNs := rdLe g (o + 4) 4, baseS := rdLe g (o + 8) 8, baseNs := rdLe g (o + 16) 4
      entries := (List.range (rdLe g (o + 2) 2)).map (fun i =>
        { openMask := g (o + 24 + 8 * i), intervalNs := rdLe g (o + 28 + 8 * i) 4 }) })

def buildTide (g : Img) (b : Nat) : TideCfg :=
  let np := g (b + 4)
  let eb := b + 16 + 16 * np
  { omitted := false, periodS := dz (rdLe g b 4) 86400, anchorS := rdLe g (b + 8) 8
    profiles := (List.range np).map (fun i =>
      let o := b + 16 + 16 * i
      { rebuildCap := rdLe g o 4, ebbCap := rdLe g (o + 4) 4, shallows := rdLe g (o + 8) 4, patrol := g (o + 12)
        swapPermit := g (o + 13) })
    entries := (List.range (g (b + 5))).map (fun i =>
      let o := eb + 8 * i
      { offsetS := rdLe g o 4, profile := g (o + 4), swap := bit (g (o + 5)) 0, rack := bit (g (o + 5)) 1 }) }

def buildLight (g : Img) (b : Nat) : LightCfg :=
  { mode := g b, borrow := g (b + 1), waAtPress := g (b + 2), rebuildMin := dz (rdLe g (b + 4) 4) 1000
    rebuildMax := dz (rdLe g (b + 8) 4) 16000, ebbMin := rdLe g (b + 12) 4, ebbMax := dz (rdLe g (b + 16) 4) 20000
    borrowMax := rdLe g (b + 20) 4, heatAdmit := dz (rdLe g (b + 24) 2) 8 }

def buildBay (g : Img) (b : Nat) : BayCfg :=
  { bay := g b, insertDelay := dz (g (b + 1)) 20, ramp := dz (g (b + 2)) 6, uv := dz (rdLe g (b + 4) 2) 10200
    ov := dz (rdLe g (b + 6) 2) 13800, breaker := dz (rdLe g (b + 8) 2) 3500, breakerTime := dz (rdLe g (b + 10) 2) 10
    shunt := dz (rdLe g (b + 12) 2) 2000 }

def buildStorage (g : Img) (b : Nat) : StorageCfg :=
  { hardTimeout := dz (rdLe g b 2) 1000, absence := dz (rdLe g (b + 2) 2) 120, writeSoft := dz (rdLe g (b + 4) 4) 2000
    readSoft := dz (rdLe g (b + 8) 4) 5000, slowThreshold := dz (rdLe g (b + 12) 4) 20000
    slowWindow := dz (rdLe g (b + 16) 2) 10, transientBound := dz (rdLe g (b + 18) 2) 16
    sealTime := dz (rdLe g (b + 20) 2) 500, coalesce := rdLe g (b + 22) 2, freeReserve := dz (rdLe g (b + 24) 2) 20 }

/-- A value that a section gives, with its default where the section is omitted (R30). -/
def secVal {β : Type} (ss : List Sec) (t : Nat) (d : β) (f : Nat → β) : β :=
  match secOf ss t with
  | some b => f b
  | none => d

/-- The Chart of an image's sections, with every default (R30). -/
def buildChart (g : Img) (ss : List Sec) : Chart :=
  let lane := secVal ss 1 0 (fun b => g (b + 64))
  { sequence := rdLe g 0x10 4
    ports := secVal ss 1 (List.replicate 8 {}) (fun b => (List.range 8).map (fun i => buildPort g (b + 8 * i)))
    laneMode := lane
    driveGenCap := secVal ss 1 0 (fun b => g (b + 65))
    spareBays := secVal ss 2 0#32 (fun b => reg (rdLe g (b + 4) 4))
    shoals := secVal ss 2 [defaultShoal lane] (fun b => (List.range (g b)).map (fun i => buildShoal g (b + 8 + 16 * i)))
    pool := secVal ss 3 {} (fun b =>
      { stage := dz (rdLe g b 4) 59392, sjournal := dz (rdLe g (b + 4) 4) 256, maplog := dz (rdLe g (b + 8) 4) 4096
        events := dz (rdLe g (b + 12) 4) 512, admin := 256, coveimg := dz (rdLe g (b + 20) 4) 768
        spare := dz (rdLe g (b + 24) 4) 256 })
    hbm := secVal ss 4 {} (fun b =>
      { mapCache := dz (rdLe g b 4) 49152, shallowsMax := rdLe g (b + 4) 4, assembly := dz (rdLe g (b + 8) 4) 2048
        capture := rdLe g (b + 12) 4 })
    template := secVal ss 5 {} (fun b => buildCove g (b + 4))
    coves := secVal ss 5 [] (fun b => (List.range (rdLe g b 2)).map (fun i => buildCove g (b + 76 + 72 * i)))
    classes := secVal ss 6 (List.replicate 8 {}) (fun b => (List.range 8).map (fun i =>
      { strictMask := g (b + 16 * i), weights := (List.range 8).map (fun k => dz (g (b + 16 * i + 4 + k)) 16) }))
    prismWeights := secVal ss 6 (List.replicate 8 16) (fun b => (List.range 8).map (fun i => g (b + 128 + i)))
    housekeepingClass := secVal ss 6 1 (fun b => g (b + 136))
    gates := secVal ss 7 [] (buildGates g)
    clock := secVal ss 8 {} (fun b =>
      { reference := g b, ptpProfile := g (b + 1), domain := g (b + 2), ptpPort := g (b + 3), backupPort := g (b + 4)
        ppsOut := g (b + 5), tidelineTime := g (b + 6) })
    tide := secVal ss 9 { omitted := true, periodS := 86400, anchorS := 0, profiles := [], entries := [] } (buildTide g)
    light := secVal ss 10 {} (buildLight g)
    directedMask := secVal ss 11 3 (fun b => rdLe g b 4)
    events := secVal ss 12 [] (fun b => (List.range (rdLe g b 2)).map (fun i =>
      { source := rdLe g (b + 8 + 8 * i) 2, code := rdLe g (b + 10 + 8 * i) 2, cls := g (b + 12 + 8 * i) }))
    maxRamping := secVal ss 13 4 (fun b => dz (g b) 4)
    bayDefault := secVal ss 13 {} (fun b => buildBay g (b + 4))
    bays := secVal ss 13 [] (fun b => (List.range (g (b + 1))).map (fun i => buildBay g (b + 20 + 16 * i)))
    pair := secVal ss 14 {} (fun b =>
      { requirePartner := g b, swapEnable := g (b + 1), swapPauseMax := dz (rdLe g (b + 4) 2) 300 })
    storage := secVal ss 15 {} (buildStorage g) }

/-! ## Constraints (R33 to R46, R58; R47 step 8) -/

/-- Number of bits set in a bay bitmap. -/
def popcount (v : BitVec 32) : Nat := (bitList v.toNat 32).length

/-- The built-in classes of R484 and R438 that are FAULT: (source, code). -/
def faultCodes : List (Nat × Nat) :=
  [(0, 2), (0, 4), (2, 3), (2, 7), (2, 8), (3, 1), (3, 2), (4, 4), (4, 7), (4, 8), (7, 1), (0x0B, 1), (0x0B, 2), (0x0B, 3),
   (0x0C, 3), (0x0C, 4), (0x0C, 6), (0x0E, 3), (0x0E, 4), (0x11, 2)]

/-- A 09 failure at an offset of a section's body; `field` is the last field checked, within its record (R64). An omitted section has
no place in the image. -/
def crossAt (ss : List Sec) (t off field : Nat) (c : Bool) : Option ChartErr :=
  need c { code := 9, section_ := t, field := field % 256, offset := ((secOf ss t).map (· + off)).getD 0 }

/-- A 09 failure at a field of the section's body. -/
def cross (ss : List Sec) (t field : Nat) (c : Bool) : Option ChartErr := crossAt ss t field field c

/-- A constraint on each of the records of `size` bytes from offset `base`: it fails at the first that breaks it. -/
def crossRecs {β : Type} (ss : List Sec) (t base size field : Nat) (l : List β) (ok : β → Bool) : Option ChartErr :=
  (l.findIdx? (fun x => !ok x)).bind (fun i => crossAt ss t (base + size * i + field) field false)

/-- A value that each record holds at most once: it fails at the second that holds it. -/
def crossOnce (ss : List Sec) (t base size field : Nat) (l : List Nat) : Option ChartErr :=
  crossRecs ss t base size field l.zipIdx (fun e => !((l.take e.2).contains e.1))

/-- The bay bitmaps of SHOALS in image order, with their offset in the body and in their record. -/
def bayMaps (c : Chart) : List (Nat × Nat × BitVec 32) :=
  (4, 4, c.spareBays) :: c.shoals.zipIdx.flatMap (fun e =>
    [(16 + 16 * e.2, 8, e.1.members), (20 + 16 * e.2, 12, e.1.evacuating)])

/-- No bay in more than one bitmap, and with LANE_MODE 1 none above 15 (R33). -/
def crossBays (ss : List Sec) (lane : Nat) : BitVec 32 → List (Nat × Nat × BitVec 32) → Option ChartErr
  | _, [] => none
  | used, (off, field, v) :: r =>
    if used &&& v ≠ 0#32 ∨ (lane = 1 ∧ v &&& 0xFFFF0000#32 ≠ 0#32) then crossAt ss 2 off field false
    else crossBays ss lane (used ||| v) r

/-- SHOALS (R33). -/
def crossShoals (c : Chart) (ss : List Sec) : Option ChartErr :=
  firstErr
    [crossOnce ss 2 8 16 0 (c.shoals.map (·.shoal)),
     crossOnce ss 2 8 16 1 (c.shoals.map (·.geometryId)),
     crossRecs ss 2 8 16 8 c.shoals (fun r => r.width == popcount r.members),
     crossRecs ss 2 8 16 4 c.shoals (fun r => decide (r.parity + r.spareStrips + 1 ≤ r.width)),
     crossBays ss c.laneMode 0 (bayMaps c)]

/-- POOL and HBM (R34, R35): the region sizes sum to 65,536, the allocations to at most 89,856 MiB. -/
def crossSizes (c : Chart) (ss : List Sec) : Option ChartErr :=
  let p := c.pool
  firstErr
    [cross ss 3 24 (p.stage + p.sjournal + p.maplog + p.events + p.admin + p.coveimg + p.spare == 65536),
     cross ss 4 12 (decide (c.hbm.mapCache + c.hbm.shallowsMax + c.hbm.assembly + c.hbm.capture ≤ 89856))]

/-- COVES (R36): COVE at most once, CIR at most PIR, FLOOR and CAP within STAGE - 2,048, FLOOR at most CAP, the image
rule, and the running rule over the Coves that exist where one runs. The template is the record at offset 4. -/
def crossCoves (c : Chart) (ss : List Sec) (existing : Option (List Nat)) : Option ChartErr :=
  let rs := c.template :: c.coves
  let lim := c.pool.stage - 2048
  let eff := fun k => ((c.coves.find? (fun r => r.cove == k)).getD c.template).floor
  firstErr
    [crossOnce ss 5 76 72 0 (c.coves.map (·.cove)),
     crossRecs ss 5 4 72 12 rs (fun r => decide (r.floor ≤ lim)),
     crossRecs ss 5 4 72 16 rs (fun r => decide (r.cap ≤ lim)),
     crossRecs ss 5 4 72 16 rs (fun r => decide (r.floor ≤ r.cap)),
     crossRecs ss 5 4 72 28 rs (fun r => decide (r.shCir ≤ r.shPir)),
     crossRecs ss 5 4 72 44 rs (fun r => decide (r.cmdCir ≤ r.cmdPir)),
     crossRecs ss 5 4 72 60 rs (fun r => decide (r.byteCir ≤ r.bytePir)),
     crossAt ss 5 (4 + 72 * c.coves.length + 12) 12 (decide (lsum c.coves (·.floor) ≤ lim)),
     match existing with
     | some ks => crossAt ss 5 16 12 (decide (lsum ks eff ≤ lim))
     | none => none]

/-- Offset in the body of GATES of each gate list (R38). -/
def gatePlaces : Nat → List GateList → List (Nat × GateList)
  | _, [] => []
  | o, l :: r => (o, l) :: gatePlaces (o + 24 + 8 * l.entries.length) r

/-- GATES and CLOCK (R38, R39): a port at most once, the intervals sum to CYCLE_NS, DOMAIN and BACKUP_PORT. -/
def crossGates (c : Chart) (ss : List Sec) : Option ChartErr :=
  let ls := gatePlaces 8 c.gates
  let ports := c.gates.map (·.port)
  firstErr
    [(ls.zipIdx.find? (fun e => (ports.take e.2).contains e.1.2.port)).bind (fun e => crossAt ss 7 e.1.1 0 false),
     (ls.find? (fun e => lsum e.2.entries (·.intervalNs) != e.2.cycleNs)).bind (fun e =>
       crossAt ss 7 (e.1 + 24 + 8 * (e.2.entries.length - 1) + 4) 4 false),
     cross ss 8 2 (c.clock.ptpProfile != 1 || c.clock.domain == 0),
     cross ss 8 4 (c.clock.backupPort != c.clock.ptpPort)]

/-- TIDETABLE and LIGHTHOUSE (R40, R41). DESIGN CHOICE (log entry 33): BORROW_MAX is held to its limit where the image omits LIGHTHOUSE
too, so that its default fails with 0x09 beside a STAGE below 18,432. -/
def crossTide (c : Chart) (ss : List Sec) : Option ChartErr :=
  let ps := c.tide.profiles
  let es := c.tide.entries
  let eb := 16 + 16 * ps.length
  let before := 0 :: es.map (fun e => e.offsetS + 1)
  firstErr
    [crossRecs ss 9 16 16 0 ps (fun p => decide (c.light.rebuildMin ≤ p.rebuildCap)),
     crossRecs ss 9 16 16 4 ps (fun p => decide (c.light.ebbMin ≤ p.ebbCap)),
     crossRecs ss 9 16 16 8 ps (fun p => decide (p.shallows ≤ c.hbm.shallowsMax)),
     crossRecs ss 9 eb 8 0 es.zipIdx (fun e => decide (e.1.offsetS < c.tide.periodS) && decide (before.getD e.2 0 ≤ e.1.offsetS)),
     crossRecs ss 9 eb 8 4 es (fun e => c.tide.omitted || decide (e.profile < ps.length)),
     cross ss 10 8 (decide (c.light.rebuildMin ≤ c.light.rebuildMax)),
     cross ss 10 16 (decide (c.light.ebbMin ≤ c.light.ebbMax)),
     cross ss 10 20 (decide (c.light.borrowMax ≤ c.pool.stage - 2048))]

/-- EVENTS, BAYPOWER and STORAGE (R43, R44, R46). -/
def crossRest (c : Chart) (ss : List Sec) : Option ChartErr :=
  firstErr
    [crossRecs ss 12 8 8 4 c.events (fun o => o.cls == 2 || !(faultCodes.contains (o.source, o.code))),
     crossRecs ss 12 8 8 4 c.events (fun o => !(o.cls == 3 && o.source == 0x0F && o.code == 1)),
     crossOnce ss 13 20 16 0 (c.bays.map (·.bay)),
     cross ss 15 4 (decide (c.storage.writeSoft < c.storage.hardTimeout * 1000)),
     cross ss 15 8 (decide (c.storage.readSoft < c.storage.hardTimeout * 1000)),
     cross ss 15 12 (decide (c.storage.readSoft < c.storage.slowThreshold))]

/-- Do two records describe the same structure (R58)? -/
def sameShape (a b : ShoalCfg) : Bool :=
  a.width == b.width && a.parity == b.parity && a.spareStrips == b.spareStrips && a.members == b.members

/-- The second and third rules of R58 (0x09): a changed structure carries a new GEOMETRY_ID, an unchanged one keeps its
own. DESIGN CHOICE (log entry 33): the field that fails is GEOMETRY_ID, the one that R58 is about, and not MEMBERS, which stands last. -/
def crossGeometry (c : Chart) (ss : List Sec) (running : List ShoalCfg) : Option ChartErr :=
  crossRecs ss 2 8 16 1 c.shoals (fun r => match running.find? (fun o => o.shoal == r.shoal) with
    | none => true
    | some o => if sameShape o r then o.geometryId == r.geometryId else o.geometryId != r.geometryId)

/-- The first rule of R58 (0x0F): a new GEOMETRY_ID holds no stripe anywhere on the shelf. -/
def crossHeld (c : Chart) (running : List ShoalCfg) (held : List Nat) : Option ChartErr :=
  need (c.shoals.all (fun r => running.any (fun o => o.shoal == r.shoal && o.geometryId == r.geometryId) ||
    !(held.contains r.geometryId))) { code := 0x0F, section_ := 2, field := 1 }

/-- What an image is checked against: CHART_STAGE_LEN for a staged image, the signer keys, the running Shoals, the Coves
that exist (none at start-up), and the geometry IDs that hold stripes. -/
structure ChartEnv where
  stageLen : Option Nat := none
  keys : Table Nat
  revoked : BitVec 4
  running : List ShoalCfg := []
  existing : Option (List Nat) := none
  held : List Nat := []

/-- Validation in the order of R47, stopping at the first failure: the Chart, or the error. DESIGN CHOICE (log entry 33): FIELD is 0 for
error 0x05, be it the slot number or the key that fails. -/
def validate (g : Img) (e : ChartEnv) : Except ChartErr Chart :=
  match firstErr [checkMagic g, checkLen g e.stageLen, checkDevice g] with
  | some x => .error x
  | none =>
    let l := imageLen g
    if !keyOk g l e.keys e.revoked then .error { code := 5, section_ := 0xFFFF, field := 0 }
    else if !sigOk g l then .error { code := 4, section_ := 0xFFFF, field := 104 }
    else match readSections g (l - 200) (rdLe g 0x14 2) 64 0 [] with
      | .error x => .error x
      | .ok ss =>
        match firstErr (checkRec g 0 0 headerFields :: ss.map (checkSec g) ++ [checkRec g 0xFFFF (l - 200) [rsv 1 7]]) with
        | some x => .error x
        | none =>
          let c := buildChart g ss
          match firstErr [crossShoals c ss, crossSizes c ss, crossCoves c ss e.existing, crossGates c ss, crossTide c ss,
              crossRest c ss, crossGeometry c ss e.running, crossHeld c e.running e.held] with
          | some x => .error x
          | none => .ok c

/-- Types of the restart sections (R31). -/
def restartTypes : List Nat := [1, 3, 4, 8, 11]

/-- Types of the live sections (R31). -/
def liveTypes : List Nat := [2, 5, 6, 7, 9, 10, 12, 13, 14, 15]

/-- The sections of a valid image; none where its framing fails. -/
def sectionsOf (g : Img) : List Sec :=
  match readSections g (imageLen g - 200) (rdLe g 0x14 2) 64 0 [] with
  | .ok ss => ss
  | .error _ => []

/-- Are two images' sections of a type equal byte for byte, an omitted one only to an omitted one (R51)? -/
def sameSection (a b : Img) (t : Nat) : Bool :=
  match (sectionsOf a).find? (fun x => x.type == t), (sectionsOf b).find? (fun x => x.type == t) with
  | none, none => true
  | some x, some y =>
    x.len == y.len && x.version == y.version && (List.range x.len).all (fun i => a (x.body + i) == b (y.body + i))
  | _, _ => false

end Sys2Proof.Machine
end

