-- ==== Sys2Proof/Machine/Flash.lean ====
section
/-! DEFINITION. The serial flash: its layout (15 R445), firmware images and their checks (R447, R448), the choice of the
firmware slot, and the boot record. -/

namespace Sys2Proof.Machine

/-! ## Layout (R445) -/

/-- Is the flash a two-device configuration (R444)? -/
def twoDevices (d : Dev) : Bool := d.boot.flash0.qualifies && d.boot.flash1.present && d.boot.flash1.qualifies

/-- First device address of the flash device that holds slot `k` of firmware or Chart (R445). -/
def slotDevice (d : Dev) (k : Nat) : Nat := flashBase + (if twoDevices d ∧ k = 1 then 0x10000000 else 0)

/-- Device address of a firmware slot (R445). -/
def fwAddr (d : Dev) (k : Nat) : Nat := slotDevice d k + 0x1000000 * (1 + k)

/-- Device address of a Chart slot (R445). -/
def chartAddr (d : Dev) (k : Nat) : Nat := slotDevice d k + 0x3000000 + 0x400000 * k

/-- Bytes of a firmware slot (R445). -/
def fwSlotSize : Nat := 0x1000000

/-- Bytes of a Chart slot (R445). -/
def chartSlotSize : Nat := 0x400000

/-! ## Firmware images (R448) -/

/-- Check 1 of R448: the header fields hold their required values. -/
def fwHeaderOk (g : Img) : Bool :=
  (firstBad g 0 [0x57, 0x58, 0x46, 0x57]).isNone && g 5 == 1 && rdLe g 6 2 == 64 && imageLen g % 8 == 0 &&
    decide (264 ≤ imageLen g) && decide (imageLen g ≤ fwSlotSize) && rdLe g 0x0C 2 == 0x3240 && g 0x0E == 0xB1 && g 0x0F == 0 &&
    decide (g 0x14 < 64) && (firstNonZero g 0x15 11).isNone

/-- The firmware key-hash slots, fused at manufacture (R448). -/
def fwKeys : Table Nat := (List.range 4).filterMap (fun i => (Config.fwKeyHash i).map (fun h => (i, h)))

/-- The four checks of R448, in order. -/
def fwOk (d : Dev) (g : Img) : Bool :=
  fwHeaderOk g && keyOk g (imageLen g) fwKeys Config.fwKeyRevoked && sigOk g (imageLen g) &&
    decide (d.boot.fuses.svn ≤ g 0x14)

/-- VERSION of a firmware image. -/
def fwVersionOf (g : Img) : Nat := rdLe g 0x10 4

/-- The image in a firmware slot. -/
def fwImage (d : Dev) (m : Memory) (k : Nat) : Img := imgAt m (fwAddr d k)

/-- The slot tried first (R447). -/
def firstSlot (d : Dev) : Nat :=
  if d.boot.straps.bootSlot then 1
  else if !d.boot.recordValid then 0
  else if 3 ≤ d.boot.attempts ∧ d.boot.lastGood ≠ 0xFF then d.boot.lastGood
  else d.boot.nextSlot

/-- The slot that runs: the first of the two that passes R448 (R447). -/
def runSlot (d : Dev) (m : Memory) : Option Nat :=
  let f := firstSlot d
  [f, 1 - f].find? (fun k => fwOk d (fwImage d m k))

/-! ## Boot record (R447) -/


/-- The boot record as its 64 bytes. -/
def bootRecordBytes (b : Boot) : List Byte :=
  let body := [0x57#8, 0x58#8, 0x42#8, 0x52#8] ++ leBytes 1 2 ++ leBytes 0 2 ++ leBytes b.recordSeq 4 ++ leBytes b.nextSlot 1
    ++ leBytes b.attempts 1 ++ leBytes b.lastGood 1 ++ List.replicate 45 0#8
  body ++ leBytes (crc32c body).toNat 4

/-- Write the boot record, in the other copy and under the next SEQ; the copy that held it keeps the older one (R447). -/
def writeBoot (next attempts good : Nat) (d : Dev) : Dev :=
  { d with boot.recordValid := true, boot.recordSeq := (d.boot.recordSeq + 1) % 2 ^ 32, boot.nextSlot := next,
           boot.attempts := attempts, boot.lastGood := good
           boot.recordOld := if d.boot.recordValid then bootRecordBytes d.boot else d.boot.recordOld }

/-- What the ROM writes before the firmware starts: ATTEMPTS of NEXT_SLOT (R447). -/
def countAttempt (k : Nat) (d : Dev) : Dev :=
  if k = d.boot.nextSlot then writeBoot d.boot.nextSlot (min (d.boot.attempts + 1) 255) d.boot.lastGood d else d

/-! ## Firmware slots -/

/-- Replace a slot by an image (R242): the rest of the slot is erased. -/
def writeFwSlot (d : Dev) (k : Nat) (bytes : List Byte) (m : Memory) : Memory :=
  mputs (mclear m (fwAddr d k) fwSlotSize) (fwAddr d k) bytes

/-- The image in the download buffer (R242). -/
def fwDownload (d : Dev) : Img := imgAt d.host.fwBuffer 0

end Sys2Proof.Machine
end

