-- ==== Sys2Proof/Machine/Keys.lean ====
section
/-! DEFINITION. Keys: the entropy source (12 R374), the shelf secret and its KEK (R375 to R379), namespace keys and crypto
erase (R380 to R384, R389), and Cove key slots (R385 to R388). -/

namespace Sys2Proof.Machine

/-! ## Namespace keys (R380, R389) -/

/-- Draw and wrap a namespace's key of a generation (R380): the DRBG takes a new seed first (R374), and the index entry and record are
mirrored and written. -/
def drawKey (nsid gen_ : Nat) (d : Dev) : Dev :=
  match tget d.host.nss nsid with
  | none => d
  | some n =>
    let (v, d1) := draw d
    let r : KeyRecord := { nsid := nsid, kind := if n.auth then 2 else 1, keyGen := gen_, kekEpoch := kekEpoch d }
    let key := v % 2 ^ (8 * kindBytes r.kind)
    let k : NsKey := { rec_ := r, wrapped := wrapNs d r key, key := key }
    let d2 := { kwPass (if n.auth then 30 else 54) d1 with
                        keys.seeds := d.keys.seeds + 1, keys.nsKeys := tput d1.keys.nsKeys nsid k
                        host.nss := tmod d1.host.nss nsid (fun x => { x with keyGen := gen_, keyAvailable := true }) }
    configWrite (keyLba nsid) (keyRecord k) (mirrorConfig 5 (keyRecord k) (mirrorKeyIndex nsid d2))

/-- Draw the key of a new namespace, or wait for entropy (R374). -/
def firstKey (nsid : Nat) (d : Dev) : Dev :=
  if d.keys.entropyOk then drawKey nsid 1 d else { d with keys.drawWaits := d.keys.drawWaits ++ [nsid] }

/-- Crypto erase of a namespace (R389): the key is replaced by one of KEY_GEN + 1, and every copy of the record overwritten. -/
def rotateKey (nsid : Nat) (d : Dev) : Dev :=
  let g := ((tget d.keys.nsKeys nsid).map (·.rec_.keyGen)).getD 0 + 1
  let d1 := drawKey nsid g d
  mirrorKeyIndex nsid { d1 with keys.nsKeys := tmod d1.keys.nsKeys nsid (fun k => { k with durable := true }) }

/-- Crypto erase of a namespace that is deleted (R389): a record of KIND 0 stands in its place. -/
def eraseKey (nsid : Nat) (d : Dev) : Dev :=
  match tget d.keys.nsKeys nsid with
  | none => d
  | some k =>
    let e : NsKey := { rec_ := { k.rec_ with kind := 0, keyGen := k.rec_.keyGen + 1 }, wrapped := zeros 80, key := 0 }
    let d1 := configWrite (keyLba nsid) (keyRecord e) (mirrorConfig 5 (keyRecord e) (mirrorKeyIndex nsid { d with keys.nsKeys := tput d.keys.nsKeys nsid e }))
    mirrorKeyIndex nsid { d1 with keys.nsKeys := terase d1.keys.nsKeys nsid }

/-! ## Entropy (R374) -/

/-- ENTROPY_TEST_FAIL (R374). -/
def execEntropyTestFail (s : State) : Result :=
  onDev s (fun d => if d.keys.entropyOk then
      judgeAlert (logEvent 0x0B 1 2 (payload 0 0 0 0) { d with keys.entropyOk := false }) else d)

/-- ENTROPY_RECOVER (R374): draws that waited are made. -/
def execEntropyRecover (s : State) : Result :=
  onDev s (fun d => if d.keys.entropyOk then d
    else judgeAlert (d.keys.drawWaits.foldl (fun a n => drawKey n 1 a)
      { d with keys.entropyOk := true, keys.drawWaits := [] }))

/-! ## The shelf secret (R376 to R379) -/

/-- Does a blob hold its required fields (R376): magic, version, zeros, EPOCH in range, and this shelf's SHELF_ID? -/
def blobOk (d : Dev) (b : List Byte) : Bool :=
  b.length == 168 && b.take 4 == [0x57#8, 0x58#8, 0x53#8, 0x4B#8] && wide b 4 2 == 1 && wide b 6 2 == 0 &&
    decide (1 ≤ wide b 8 4) && decide (wide b 8 4 ≤ 0xFFFFFFFE) && wide b 12 4 == 0 && wide b 16 16 == d.pair.shelfId

/-- EPOCH of a blob. -/
def blobEpoch (b : List Byte) : Nat := wide b 8 4

/-- Records are unwrapped under the KEKs at hand (R384, R385): a namespace's key that one gives becomes available. -/
def loadKeys (d : Dev) : Dev :=
  let d1 := { d with
    keys.nsKeys := tall d.keys.nsKeys (fun k => { k with key := (unwrapNs d k).getD k.key })
    keys.slots := tall d.keys.slots (fun r => { r with key := (slotKey d r).getD r.key })
    host.nss := d.host.nss.map (fun e =>
      if (tget d.keys.nsKeys e.1).any (fun k => (unwrapNs d k).isSome) then (e.1, { e.2 with keyAvailable := true }) else e) }
  judgeAlert (kwPass (54 * d.keys.nsKeys.length + 30 * d.keys.slots.length) d1)

/-- A KEK comes into force (R377). -/
def formKek (epoch secret : Nat) (d : Dev) : Dev :=
  loadKeys { d with keys.kek := some (epoch, secret), keys.kekCheck := kekCheckOf (kekValue secret d.pair.shelfId epoch) }

/-- Take a loaded secret (R376, R379): the first one forms the KEK; one of another epoch, and that of a rotation under way, is held beside
it. -/
def takeSecret (epoch secret : Nat) (d : Dev) : Dev :=
  let beside := loadKeys { d with keys.extra := tput d.keys.extra epoch secret }
  if d.keys.rotating = some epoch then beside
  else match d.keys.kek with
    | none => formKek epoch secret d
    | some (e, _) => if e = epoch then formKek epoch secret d else beside

/-- Namespace keys that no copy gives under the KEKs at hand: a FAULT event each (R384). -/
def keysMissing (d : Dev) : Dev :=
  if d.keys.kek.isNone then judgeAlert d
  else judgeAlert (d.host.nss.foldl (fun a n => if n.2.keyAvailable || n.2.creating then a else logEvent 0x0B 2 2 (payload n.1 0 0 0) a) d)

/-- Mailbox SHELFKEY_LOAD (R376, R378): the blob is kept in the key area of the flash on request. -/
def shelfkeyLoad (b : List Byte) (persist : Bool) (d : Dev) : Dev :=
  if !blobOk d b then mboxStatus 2 d
  else match unsealBlob b with
    | none => mboxStatus 7 d
    | some s =>
      let e := blobEpoch b
      let d1 := (if 6 ≤ d.boot.step then keysMissing else id) (takeSecret e s (kwPass 24 d))
      let d2 := noteFlash d (if !persist then d1
        else if d.keys.blob0.isEmpty ∨ blobEpoch d.keys.blob0 = e then { d1 with keys.blob0 := b }
        else { d1 with keys.blob1 := b })
      mboxOk e (if d2.boot.code = 7 then judgeAlert { d2 with boot.code := 0 } else d2)

/-- Start a rotation (R379): the new blob is of a higher EPOCH; it waits for entropy with the drawing of keys (R374). -/
def shelfkeyRotate (b : List Byte) (persist : Bool) (d : Dev) : Dev :=
  match d.keys.kek with
  | none => mboxStatus 3 d
  | some (e, _) =>
    if d.keys.rotating.isSome ∨ d.pair.role = .standby ∨ d.pair.role = .fenced then mboxStatus 3 d
    else if !blobOk d b ∨ blobEpoch b ≤ e then mboxStatus 2 d
    else match unsealBlob b with
      | none => mboxStatus 7 d
      | some s => noteFlash d { d with keys.rotating := some (blobEpoch b), keys.rotatePersist := persist
                                       keys.extra := tput d.keys.extra (blobEpoch b) s
                                       keys.blob1 := if persist then b else d.keys.blob1
                                       host.waits := d.host.waits ++ [{ cntlid := 0, cid := 0, kind := 8 }] }

/-- MBOX_SHELFKEY_ROTATE (R379). -/
def execMboxShelfkeyRotate (blob : List Byte) (persist : Bool) (s : State) : Result :=
  onMbox s (mboxRun (shelfkeyRotate blob persist))

/-- Every record is written to the members that take it. -/
def writeRecords (d : Dev) : Dev :=
  let d1 := d.keys.nsKeys.foldl (fun a k => configWrite (keyLba k.1) (keyRecord k.2) a) d
  ((d.keys.slots.map (fun e => e.1 / 32)).eraseDups).foldl (fun a k => configWrite (20480 + k) (slotBlockBytes d (2 * k)) a) d1

/-- KEY_ROTATION_DONE (R379): every record is rewrapped, mirrored and written; the old KEK is zeroized and its blob erased
from the flash. While the entropy source fails a rotation does not end (R374), nor does one that a restart resumed before both blobs
are loaded. -/
def rotationDone (d : Dev) : Dev :=
  match d.keys.rotating, d.keys.rotating.bind (tget d.keys.extra) with
  | none, _ => d
  | _, none => d
  | some e, some s =>
    if !d.keys.entropyOk ∨ d.keys.kek.isNone then d
    else
      let old := kekEpoch d
      let d1 := { d with
        keys.nsKeys := tall d.keys.nsKeys (fun k =>
          { k with rec_ := { k.rec_ with kekEpoch := e }, wrapped := wrapNs d { k.rec_ with kekEpoch := e } k.key })
        keys.slots := tall d.keys.slots (fun r => { r with kekEpoch := e, wrapped := if r.loaded then wrapSlot d e r.key r.slot r.modes else r.wrapped })
        keys.rotating := none, keys.extra := terase (terase d.keys.extra e) old
        keys.blob0 := if d.keys.rotatePersist then d.keys.blob1
          else if blobEpoch d.keys.blob1 = e then d.keys.blob1 else []
        keys.blob1 := []
        keys.kek := some (e, s), keys.kekCheck := kekCheckOf (kekValue s d.pair.shelfId e)
        host.waits := d.host.waits.filter (fun w => w.kind != 8) }
      let d2 := d1.keys.nsKeys.foldl (fun a k => mirrorConfig 5 (keyRecord k.2) (mirrorKeyIndex k.1 a)) (noteFlash d d1)
      let d3 := d1.keys.slots.foldl (fun a r => mirrorConfig 6 (slotRecord r.2) a) d2
      mboxOk 0 (logEvent 0x0B 4 0 (payload 0 old e 0) (writeRecords (kwPass (54 * d.keys.nsKeys.length + 30 * d.keys.slots.length) d3)))

/-- KEY_ROTATION_DONE (R379). -/
def execKeyRotationDone (s : State) : Result := onMbox s rotationDone

/-! ## Cove key slots (R385 to R387) -/

/-- LAST_SLOT and LAST_RESULT of a Cove (R386). -/
def slotResult (cove slot r : Nat) (d : Dev) : Dev := { d with keys.lastResult := tput d.keys.lastResult cove (slot, r) }

/-- Admitted directed reads of a slot that are not terminal (R387). -/
def slotReads (d : Dev) (cove slot : Nat) : List Nat :=
  (d.adm.cmds.filter (fun e => e.2.cove == cove && e.2.keySlot == some slot && !e.2.completed)).map (·.1)

/-- A load or clear takes effect (R387): reads admitted before it keep the old key, which is held until they are terminal. It
is mirrored and written to the configuration area (R386). -/
def applySlot (r : SlotRecord) (d : Dev) : Dev :=
  let i := r.cove * 16 + r.slot
  let tags := slotReads d r.cove r.slot
  let d1 := { d with
    keys.slots := tput d.keys.slots i r
    keys.oldKeys := if tags.isEmpty then d.keys.oldKeys
      else d.keys.oldKeys ++ [{ cove := r.cove, slot := r.slot, tags := tags, key := ((tget d.keys.slots i).map (·.key)).getD 0 }] }
  slotResult r.cove r.slot 0 (configWrite (slotLba r.cove) (slotBlockBytes d1 r.cove) (mirrorConfig 6 (slotRecord r) d1))

/-- A write to a slot (R387): it waits while the slot's old key is held, and replaces a write that waits. -/
def writeSlot (r : SlotRecord) (d : Dev) : Dev :=
  if d.keys.oldKeys.any (fun o => o.cove == r.cove && o.slot == r.slot) then
    slotResult r.cove r.slot 4 { d with keys.slotPending := tput d.keys.slotPending (r.cove * 16 + r.slot) r }
  else applySlot r d

/-- A slot command of a Cove's page (R386): its staging bytes are zeroized; a page of no Cove takes none. -/
def slotCmd (cove slot : Nat) (f : Dev → Dev) (d : Dev) : Dev :=
  if 16 ≤ slot ∨ !thas d.cove.tab cove ∨ !blocksOpen d then d
  else f { d with keys.stage := terase d.keys.stage (cove * 16 + slot) }

/-- CMD 1: load a clear key with its MODES (R386). -/
def loadClear (cove slot modes key : Nat) (d : Dev) : Dev :=
  if 16 ≤ modes then slotResult cove slot 3 d
  else
    let k := key % 2 ^ 256
    writeSlot { cove := cove, slot := slot, loaded := true, modes := modes, kekEpoch := kekEpoch d, key := k
                wrapped := wrapSlot d (kekEpoch d) k slot modes } (kwPass 30 d)

/-- KEY_SLOT_LOAD_CLEAR (R386). -/
def execKeySlotLoadClear (cove slot modes key : Nat) (s : State) : Result :=
  onDev s (slotCmd cove slot (loadClear cove slot modes key))

/-- KEY_SLOT_LOAD_WRAPPED (R386): `wrapped` is the slot's WRAPPED and KEK_EPOCH, 52 bytes. -/
def loadWrapped (cove slot : Nat) (wrapped : List Byte) (d : Dev) : Dev :=
  let e := wide wrapped 48 4
  if (kekOf d e).isNone then slotResult cove slot 2 d
  else match unwrapSlot d e (wrapped.take 48) with
    | none => slotResult cove slot 1 d
    | some (k, n, m) =>
      if n ≠ slot then slotResult cove slot 1 d
      else if 16 ≤ m then slotResult cove slot 3 d
      else writeSlot { cove := cove, slot := slot, loaded := true, modes := m, kekEpoch := e, key := k, wrapped := wrapped.take 48 } (kwPass 30 d)

/-- KEY_SLOT_LOAD_WRAPPED (R386). -/
def execKeySlotLoadWrapped (cove slot : Nat) (wrapped : List Byte) (s : State) : Result :=
  onDev s (slotCmd cove slot (loadWrapped cove slot wrapped))

/-- KEY_SLOT_CLEAR (R386). -/
def execKeySlotClear (cove slot : Nat) (s : State) : Result :=
  onDev s (slotCmd cove slot (fun d => writeSlot (emptySlot d cove slot) d))

/-- OLD_KEY_ZEROIZE (R387): once the last command admitted before the change is terminal; a write that waited takes effect. -/
def oldKeyZeroize (cove slot : Nat) (d : Dev) : Dev :=
  let live := fun (t : Nat) => (tget d.adm.cmds t).any (fun c => !c.completed)
  if d.keys.oldKeys.any (fun o => o.cove == cove && o.slot == slot && o.tags.any live) then d
  else
    let i := cove * 16 + slot
    let d1 := { d with keys.oldKeys := d.keys.oldKeys.filter (fun o => !(o.cove == cove && o.slot == slot))
                       keys.slotPending := terase d.keys.slotPending i }
    match tget d.keys.slotPending i with
    | some r => applySlot r d1
    | none => d1

/-- OLD_KEY_ZEROIZE (R387). -/
def execOldKeyZeroize (cove slot : Nat) (s : State) : Result := onDev s (oldKeyZeroize cove slot)

/-- The slot status entry of a Cove (R386), 8 bytes as a number. -/
def slotStatus (d : Dev) (cove : Nat) : Nat :=
  let bitsOf := fun (p : Nat → Bool) => ((List.range 16).filter p).foldl (fun a i => a + 2 ^ i) 0
  let (l, r) := (tget d.keys.lastResult cove).getD (0, 0)
  bitsOf (fun i => (tget d.keys.slots (cove * 16 + i)).any (·.loaded)) + bitsOf (fun i => thas d.keys.slotPending (cove * 16 + i)) * 65536
    + l * 2 ^ 32 + r * 2 ^ 40

/-- The key-store table of R375, 128 bytes. -/
def keyTable (d : Dev) : List Byte :=
  (Config.sealingKey ++ zeros 96).take 96 ++ leBytes (if d.keys.kek.isSome then d.keys.kekCheck else 0) 8
    ++ leBytes (kekEpoch d) 4 ++ zeros 20

/-- The on-die key store is zeroized (R375): the KEK, every namespace and slot key in clear, and secrets held beside it. The
records, which are wrapped, stay; a namespace's key is not at hand until a KEK unwraps it (R384). -/
def zeroizeKeys (d : Dev) : Dev :=
  { d with keys.kek := none, keys.kekCheck := 0, keys.extra := [], keys.oldKeys := [], keys.slotPending := [], keys.stage := []
           host.nss := tall d.host.nss (fun n => { n with keyAvailable := false }) }

end Sys2Proof.Machine
end

