-- ==== Sys2Proof/Machine/Coves.lean ====
section
/-! DEFINITION. Coves (11 R339 to R355): creation, deletion, binding, Connect, freeze, thaw and reset. -/

namespace Sys2Proof.Machine

/-! ## Records -/

/-- A Cove's record. -/
def coveOf (d : Dev) (c : Nat) : Option CoveRec := tget d.cove.tab c

/-- State of a Cove that exists. -/
def coveStateOf (d : Dev) (c : Nat) : Option CoveState := (coveOf d c).map (fun r => r.state)

/-- Is a freeze of a Cove under way? -/
def coveFreezing (d : Dev) (c : Nat) : Bool := (coveOf d c).any (fun r => r.freezing.isSome)

/-- Replace a Cove's fields. -/
def modCove (c : Nat) (f : CoveRec → CoveRec) (d : Dev) : Dev := { d with cove.tab := tmod d.cove.tab c f }

/-- The bytes of a string of ASCII characters. -/
def ascii (s : String) : List Byte := s.toList.map (fun c => BitVec.ofNat 8 c.toNat)

/-- Hexadecimal digit, lowercase. -/
def hexDigit (n : Nat) : Byte := BitVec.ofNat 8 (if n < 10 then 48 + n else 87 + n)

/-- NQN of Cove 0 (R339): SHELF_ID as 32 hexadecimal digits, from its most significant bit. -/
def managementNqn (shelfId : Nat) : List Byte :=
  ascii "nqn.2021-06.com.larnanum:wxl3240:shelf-" ++ (List.range 32).map (fun i => hexDigit (shelfId / 16 ^ (31 - i) % 16))

/-- Subsystem NQN of a Cove. -/
def coveNqn (d : Dev) (c : Nat) (r : CoveRec) : List Byte := if c = 0 then managementNqn d.pair.shelfId else r.nqn

/-- The Cove that an NQN names. -/
def coveOfNqn (d : Dev) (nqn : List Byte) : Option Nat := (d.cove.tab.find? (fun e => coveNqn d e.1 e.2 == nqn)).map (·.1)

/-- Namespaces attached to a Cove, in rising order. -/
def coveNamespaces (d : Dev) (c : Nat) : List Nat := (d.host.nss.filter (fun n => n.2.coves.contains c)).map (·.1)

/-- A Cove's Chart record as its 72 bytes (02 R36). -/
def coveRecordBytes (r : CoveCfg) : List Byte :=
  leBytes r.cove 2 ++ leBytes r.flags 2 ++ leBytes r.qpQuota 4 ++ leBytes r.nsQuota 2 ++ leBytes r.tclass 1 ++ leBytes r.weight 1
    ++ leBytes r.floor 4 ++ leBytes r.cap 4 ++ leBytes r.shCir 4 ++ leBytes r.shCbs 4 ++ leBytes r.shPir 4 ++ leBytes r.shPbs 4
    ++ leBytes r.cmdCir 4 ++ leBytes r.cmdCbs 4 ++ leBytes r.cmdPir 4 ++ leBytes r.cmdPbs 4 ++ leBytes r.byteCir 4
    ++ leBytes r.byteCbs 4 ++ leBytes r.bytePir 4 ++ leBytes r.bytePbs 4 ++ zeros 4

/-- STATE of a Cove (R342). -/
def coveStateNum : CoveState → Nat
  | .free => 0
  | .active => 1
  | .frozen => 2
  | .resetting => 3
  | .deleting => 4

/-- A binding entry as its 32 bytes (R344). -/
def bindingBytes (b : Binding) : List Byte :=
  leBytes b.hostid 16 ++ leBytes (b.cove % 4096) 2 ++ leBytes (b2n b.valid + 2 * b2n b.anyHost) 1 ++ leBytes b.maxAssoc 1
    ++ leBytes b.assoc 2 ++ zeros 10

/-- Mirror a Cove's definition: state, NQN, effective record and attachments (13 R399, R404; layout of log entry 19). -/
def mirrorCove (c : Nat) (d : Dev) : Dev :=
  let r := (coveOf d c).getD { state := .free }
  mirrorConfig 2 (leBytes c 2 ++ leBytes (coveStateNum r.state) 1 ++ (coveNqn d c r ++ zeros 256).take 256
    ++ coveRecordBytes (coveCfg d c) ++ (coveNamespaces d c).flatMap (fun n => leBytes n 4)) d

/-- Mirror a binding entry. -/
def mirrorBinding (i : Nat) (d : Dev) : Dev :=
  let b := (tget d.cove.bindings i).getD { hostid := 0, cove := 0, valid := false, anyHost := false, maxAssoc := 0 }
  mirrorConfig 3 (leBytes i 4 ++ zeros 4 ++ bindingBytes b) d

/-- Does this side serve, so that definitions change here (13 R404)? -/
def serves (d : Dev) : Bool := d.pair.role == .active || d.pair.role == .solo

/-- A mailbox command that changes definitions: STATUS 3 on a side that does not serve (log entry 19). -/
def onServing (f : Dev → Dev) (d : Dev) : Dev := if serves d then f d else mboxStatus 3 d

/-! ## Creation and deletion (R341, R343) -/

/-- Would the effective floors, with those of one more Cove, break the running rule (02 R36)? -/
def floorsBroken (d : Dev) (c : Nat) : Bool := decide ((chartOf d).pool.stage - 2048 < floorSum d + (coveCfg d c).floor)

/-- Put a new Cove in place (R341): full buckets, empty key slots, ACTIVE. -/
def bornCove (c : Nat) (r : CoveRec) (d : Dev) : Dev :=
  judgeFloors { d with
    cove.tab := tput d.cove.tab c r
    sched.cmdPolicer := terase d.sched.cmdPolicer c, sched.bytePolicer := terase d.sched.bytePolicer c
    sched.links := tall d.sched.links (fun l => { l with shapers := terase l.shapers c }) }

/-- Mailbox COVE_CREATE (R341). -/
def coveCreate (c : Nat) (nqn : List Byte) (d : Dev) : Dev :=
  if c = 0 ∨ 4096 ≤ c ∨ nqn.isEmpty ∨ 223 < nqn.length then mboxStatus 2 d
  else if thas d.cove.tab c ∨ (coveOfNqn d nqn).isSome then mboxStatus 4 d
  else if floorsBroken d c then mboxStatus 6 d
  else mboxOk 0 (mirrorCove c (bornCove c { nqn := nqn } d))

/-- MBOX_COVE_CREATE (R341). -/
def execMboxCoveCreate (cove : Nat) (nqn : List Byte) (s : State) : Result := onMbox s (mboxRun (onServing (coveCreate cove nqn)))

/-- Controllers of a Cove. -/
def ctrlsOfCove (d : Dev) (c : Nat) : List Nat := (d.host.ctrls.filter (fun k => k.2.cove == c && !k.2.ended)).map (·.1)

/-- Answer the commands of a kind that wait for a Cove, and forget them. -/
def answerWaits (kind c : Nat) (st : Status) (d : Dev) : Dev :=
  let mine := fun (w : AdminWait) => w.kind == kind && w.subject == c
  (d.host.waits.filter mine).foldl (fun a w => answerAdmin w.cntlid w.cid st 0 a)
    { d with host.waits := d.host.waits.filter (fun w => !mine w) }

/-- A freeze ends before it is reached, or before the image it was for is taken (R355): the requests that began it fail. -/
def dropFreeze (c : Nat) (d : Dev) : Dev :=
  match coveOf d c with
  | none => d
  | some r =>
    if r.freezing.isNone ∧ !r.exporting ∧ !d.host.waits.any (fun w => w.kind == 6 && w.subject == c) then d
    else
      let d1 := answerWaits 6 c (gen 0x0C) (answerWaits 3 c (gen 0x0C)
        (modCove c (fun x => { x with freezing := none, exporting := false }) d))
      let d2 := if r.freezing = some 0 then logCove c (0x8000 + c) 2 1 (payload c 0 0 0) d1 else d1
      if r.exporting then raiseCove c 2 (modCove c (fun x => { x with imageSlot := 0xFF, imageLen := 0 }) d2) else d2

/-- Steps 1 and 2 of a deletion (R343). -/
def startDelete (c : Nat) (d : Dev) : Dev :=
  let d1 := modCove c (fun r => { r with state := .deleting, resetWaits := none }) (answerWaits 4 c (gen 0x0C) (dropFreeze c d))
  mirrorCove c ((ctrlsOfCove d1 c).foldl (fun a k => endAssociation k a) d1)

/-- Mailbox COVE_DELETE (R343): a deletion of a RESETTING Cove waits for the reset. -/
def coveDelete (c : Nat) (d : Dev) : Dev :=
  match coveOf d c with
  | none => mboxStatus 5 d
  | some r =>
    if c = 0 ∨ r.state = .deleting then mboxStatus 3 d
    else
      let d1 := { d with host.waits := d.host.waits ++ [{ cntlid := 0, cid := 0, kind := 7, subject := c }] }
      if r.state = .resetting then d1 else startDelete c d1

/-- MBOX_COVE_DELETE (R343). -/
def execMboxCoveDelete (cove : Nat) (s : State) : Result := onMbox s (mboxRun (onServing (coveDelete cove)))

/-- Destroy a Cove's key slots: every copy becomes an empty record (R343, 12 R386). -/
def destroySlots (c : Nat) (d : Dev) : Dev :=
  let mine := fun (i : Nat) => i / 16 == c
  let d1 := { d with
    keys.slots := d.keys.slots.filter (fun e => !mine e.1), keys.slotPending := d.keys.slotPending.filter (fun e => !mine e.1)
    keys.stage := d.keys.stage.filter (fun e => !mine e.1), keys.oldKeys := d.keys.oldKeys.filter (fun o => o.cove != c)
    keys.lastResult := terase d.keys.lastResult c }
  let old := d.keys.slots.filter (fun e => mine e.1)
  let d2 := old.foldl (fun a e => mirrorConfig 6 (slotRecord (emptySlot a c (e.1 % 16))) a) d1
  if old.isEmpty then d2 else configWrite (slotLba c) (slotBlockBytes d2 c) d2

/-- May a deletion end (R343 step 3): nothing in flight, no credit, no association left? -/
def deleteReady (d : Dev) (c : Nat) : Bool :=
  coveInflight d c == 0 && heldBy d c == 0 && !d.host.ctrls.any (fun k => k.2.cove == c)

/-- COVE_DELETE_DRAINED (R343 steps 4 and 5). -/
def deleteDrained (c : Nat) (d : Dev) : Dev :=
  match coveOf d c with
  | none => d
  | some r =>
    if r.state ≠ .deleting ∨ !deleteReady d c then d
    else
      let gone := (d.cove.bindings.filter (fun b => b.2.cove == c)).map (·.1)
      let nss := coveNamespaces d c
      let d1 := destroySlots c { d with
        cove.bindings := d.cove.bindings.filter (fun b => b.2.cove != c)
        host.nss := tall d.host.nss (fun n => { n with coves := n.coves.filter (fun x => x != c) })
        prism.changes := d.prism.changes ++ nss.map TableChange.nsmap
        pool.held := terase d.pool.held c }
      let d2 := mirrorCove c (judgeFloors { d1 with cove.tab := terase d1.cove.tab c })
      let d3 := gone.foldl (fun a i => mirrorBinding i a) d2
      if d3.host.waits.any (fun w => w.kind == 7 && w.subject == c) then
        mboxOk 0 { d3 with host.waits := d3.host.waits.filter (fun w => !(w.kind == 7 && w.subject == c)) }
      else d3

/-- COVE_DELETE_DRAINED (R343). -/
def execCoveDeleteDrained (cove : Nat) (s : State) : Result := onMbox s (deleteDrained cove)

/-! ## Binding (R344, R346) -/

/-- Associations bound through an entry keep their Cove when it changes, but count under it no longer (R346). -/
def detachBinding (i : Nat) (d : Dev) : Dev :=
  { d with host.ctrls := tall d.host.ctrls (fun k => if k.binding = i then { k with binding := 16384 } else k) }

/-- Set a binding entry: its number, or the lowest free one for FFFF_FFFFh; STATUS 4 for a duplicate, 6 for excess. -/
def bindSet (index : Nat) (b : Binding) (d : Dev) : Dev :=
  let i := if index = 0xFFFFFFFF then (tfree d.cove.bindings 0 16384).getD 16384 else index
  let others := d.cove.bindings.filter (fun e => e.1 != i && e.2.valid && e.2.cove == b.cove)
  if 4096 ≤ b.cove ∨ 255 < b.maxAssoc ∨ (16384 ≤ index ∧ index ≠ 0xFFFFFFFF) then mboxStatus 2 d
  else if !thas d.cove.tab b.cove then mboxStatus 5 d
  else if b.valid ∧ others.any (fun e => (e.2.anyHost && b.anyHost) || (!e.2.anyHost && !b.anyHost && e.2.hostid == b.hostid)) then
    mboxStatus 4 d
  else if i = 16384 ∨ (b.valid ∧ 1024 ≤ others.length) then mboxStatus 6 d
  else
    let same := (tget d.cove.bindings i).any (fun o => o.hostid == b.hostid && o.cove == b.cove && o.anyHost == b.anyHost)
    let kept := if same then ((tget d.cove.bindings i).map (·.assoc)).getD 0 else 0
    let d1 := if same then d else detachBinding i d
    mboxOk i (mirrorBinding i { d1 with cove.bindings := tput d1.cove.bindings i { b with assoc := kept } })

/-- MBOX_BIND_SET (R344). -/
def execMboxBindSet (index : Nat) (entry : Binding) (s : State) : Result := onMbox s (mboxRun (onServing (bindSet index entry)))

/-- Clear a binding entry. -/
def bindClear (i : Nat) (d : Dev) : Dev :=
  if 16384 ≤ i then mboxStatus 2 d
  else if !thas d.cove.bindings i then mboxStatus 5 d
  else mboxOk i (mirrorBinding i (detachBinding i { d with cove.bindings := terase d.cove.bindings i }))

/-- MBOX_BIND_CLEAR (R344). -/
def execMboxBindClear (index : Nat) (s : State) : Result := onMbox s (mboxRun (onServing (bindClear index)))

/-! ## Connect (R345, R347, 07 R202, R203) -/

/-- A queue pair's count toward QP_QUOTA (R347). -/
def qpCost (q : Qp) : Nat := if q.spray then 8 else 1

/-- COVE_QP.USED: queue pairs of a Cove's queues (R347). -/
def coveQps (d : Dev) (c : Nat) : Nat :=
  lsum (d.net.qps.filter (fun e => e.2.cntlid != 0 && e.2.cove == c)) (fun e => qpCost e.2)

/-- Entries of all connected queues (07 R203). -/
def sqeEntries (d : Dev) : Nat := tsum d.host.sqs (·.size) + tsum d.host.ctrls (·.adminSize)

/-- The queue limits of R202 and R203 for one more queue. -/
def queueFits (d : Dev) (c : Nat) (q : Qp) (entries : Nat) (adminQ : Bool) : Bool :=
  (if adminQ then decide (32 ≤ entries) && decide (entries ≤ 128) else decide (2 ≤ entries) && decide (entries ≤ 1024)) &&
    decide (sqeEntries d + entries ≤ 33554432) && decide (coveQps d c + qpCost q ≤ (coveCfg d c).qpQuota) &&
    decide (lsum (d.net.qps.filter (fun e => e.2.cntlid != 0)) (fun e => qpCost e.2) + qpCost q ≤ 262144)

/-- The binding entry that a host connects under (R345). -/
def bindingFor (d : Dev) (c hostid : Nat) : Option (Nat × Binding) :=
  match d.cove.bindings.find? (fun e => e.2.valid && e.2.cove == c && !e.2.anyHost && e.2.hostid == hostid) with
  | some e => some e
  | none => d.cove.bindings.find? (fun e => e.2.valid && e.2.cove == c && e.2.anyHost)

/-- Answer a Connect that no controller carries. -/
def refuseConnect (x : ConnectArgs) (sc : Nat) (d : Dev) : Dev :=
  netSend x.qpn (.completion x.cid (cmdSpec sc) 0) (complete 0 x.qid x.cid (cmdSpec sc) 0 d)

/-- The status of a Connect on an admin queue that fails a check of R345, or the Cove, the binding entry and the controller
ID. -/
def adminConnectCheck (d : Dev) (x : ConnectArgs) (q : Qp) : Except Nat (Nat × Nat × Nat) :=
  match coveOfNqn d x.subnqn with
  | none => .error 0x82
  | some c =>
    match ((coveOf d c).map (·.state)).getD .free with
    | .resetting => .error 0x81
    | .deleting => .error 0x82
    | .free => .error 0x82
    | _ =>
      match bindingFor d c x.hostid with
      | none => .error 0x84
      | some (i, b) =>
        if b.maxAssoc ≠ 0 ∧ b.maxAssoc ≤ b.assoc then .error 0x82
        else match tfree d.host.ctrls 1 65519 with
          | none => .error 0x82
          | some k => if x.cntlid = 0xFFFF ∧ queueFits d c q (x.sqsize + 1) true then .ok (c, i, k) else .error 0x82

/-- A Connect on an admin queue (R345). Its controller is enabled and ready at once (log entry 17). -/
def connectAdmin (x : ConnectArgs) (q : Qp) (d : Dev) : Dev :=
  match adminConnectCheck d x q with
  | .error sc =>
    let d1 := match coveOfNqn d x.subnqn with
      | some c => coveCount c 14 1 d
      | none => d
    refuseConnect x sc d1
  | .ok (c, i, k) =>
    let d1 := { d with
      host.ctrls := tput d.host.ctrls k { cove := c, hostid := x.hostid, adminQpn := x.qpn, adminSize := x.sqsize + 1, binding := i
                                          hostnqn := x.hostnqn, kato := ceilDiv x.kato 100 * 100 }
      cove.bindings := tmod d.cove.bindings i (fun b => { b with assoc := b.assoc + 1 })
      net.qps := tmod d.net.qps x.qpn (fun w => { w with cntlid := k, sqid := 0, cove := c })
      prism.changes := d.prism.changes ++ [.qpmap x.qpn] }
    answerAdmin k x.cid ok k (coveCount c 13 1 d1)

/-- A Connect of an I/O queue (R345): it belongs to its association's Cove, and only R202 and R203 can refuse it. -/
def connectIo (x : ConnectArgs) (q : Qp) (d : Dev) : Dev :=
  match ctrlOf d x.cntlid with
  | none => refuseConnect x 0x82 d
  | some k =>
    if k.ended ∨ !k.enabled ∨ k.shst ≠ 0 ∨ thas d.host.sqs (sqKey x.cntlid x.qid) ∨ !queueFits d k.cove q (x.sqsize + 1) false then
      refuseConnect x 0x82 (coveCount k.cove 14 1 d)
    else
      let d1 := { d with
        host.sqs := tput d.host.sqs (sqKey x.cntlid x.qid) { qpn := x.qpn, size := x.sqsize + 1 }
        net.qps := tmod d.net.qps x.qpn (fun w => { w with cntlid := x.cntlid, sqid := x.qid, cove := k.cove })
        prism.changes := d.prism.changes ++ [.qpmap x.qpn] }
      answer x.cntlid x.qid x.cid ok x.cntlid (coveCount k.cove 13 1 d1)

/-- CONNECT (R345): on a connected queue pair that carries no queue yet. SQSIZE is one less than the entries. -/
def connect (x : ConnectArgs) (d : Dev) : Dev :=
  match qpOf d x.qpn with
  | none => d
  | some q =>
    if q.error ∨ !q.connected ∨ q.cntlid ≠ 0 then d
    else if x.qid = 0 then connectAdmin x q d else connectIo x q d

/-- CONNECT (R345). -/
def execConnect (args : ConnectArgs) (s : State) : Result := onDev s (connect args)

/-! ## Freeze and thaw (R342, R355) -/

/-- Resume admission at each SQ head of a Cove, in queue order (R342). -/
def resumeCove (c : Nat) (d : Dev) : Dev :=
  ((allSqs d).filter (fun k => ctrlCove d k.1 == c)).foldl (fun a k => runSq k.1 k.2 a) d

/-- A request on COVE_CTRL that the Cove's state does not allow (R350). -/
def refuseControl (c : Nat) (d : Dev) : Dev := logCove c (0x8000 + c) 2 1 (payload c 0 0 0) d

/-- A COVE_CTRL write (R350): with more than one of its four requests set it is ignored; a Cove number that no page has does
nothing. -/
def coveCtrl (c : Nat) (v : Reg) (f : Dev → Dev) (d : Dev) : Dev :=
  let n := [0, 2, 3, 4].filter (fun i => v.getLsbD i)
  if n.length ≠ 1 ∨ 4096 ≤ c ∨ !thas d.cove.tab c ∨ !blocksOpen d then d else f d

/-- Cove Control (R352): served to Cove 0 only; a reset of Cove 0 is an invalid field. -/
def coveFeature (c cid cove : Nat) (reset : Bool) (f : Dev → Dev) : Dev → Dev :=
  admin c cid .hosts (fun d =>
    if ctrlCove d c ≠ 0 ∨ 4096 ≤ cove ∨ (reset ∧ cove = 0) then badField c cid d else f d)

/-- Add a command that waits for a Cove. -/
def waitFor (c cid kind cove arg : Nat) (d : Dev) : Dev :=
  { d with host.waits := d.host.waits ++ [{ cntlid := c, cid := cid, kind := kind, subject := cove, arg := arg }] }

/-- A freeze request that meets a freeze under way (R355): it completes with it, so that one begun by an export alone now counts as a
freeze asked for (3). -/
def joinFreeze (c : Nat) (d : Dev) : Dev :=
  modCove c (fun x => { x with freezing := x.freezing.map (fun k => if k = 2 then 3 else k) }) d

/-- COVE_CTRL_FREEZE (R342, R355). -/
def freezeByCtrl (c : Nat) (d : Dev) : Dev :=
  match coveOf d c with
  | none => refuseControl c d
  | some r => match r.state with
    | .active => if r.freezing.isSome then joinFreeze c d else modCove c (fun x => { x with freezing := some 0 }) d
    | .frozen => raiseCove c 0 d
    | _ => refuseControl c d

/-- COVE_CTRL_FREEZE (R342). -/
def execCoveCtrlFreeze (cove : Nat) (v : Reg) (s : State) : Result := onMbox s (coveCtrl cove (v ||| 4#32) (freezeByCtrl cove))

/-- COVE_CONTROL_FREEZE (R352): completes when the Cove is FROZEN. -/
def execCoveControlFreeze (cntlid cid cove : Nat) (s : State) : Result :=
  onMbox s (coveFeature cntlid cid cove false (fun d =>
    match coveStateOf d cove with
    | some .active => waitFor cntlid cid 3 cove 0
        (if coveFreezing d cove then joinFreeze cove d else modCove cove (fun x => { x with freezing := some 1 }) d)
    | some .frozen => raiseCove cove 0 (succeed cntlid cid d)
    | _ => answerAdmin cntlid cid (gen 0x0C) 0 d))

/-- Start a reset (R352 step 1); in mode 1 its writes post no completion. -/
def startReset (c : Nat) (ends : Bool) (d : Dev) : Dev :=
  let frozen := ((coveOf d c).map (fun r => r.state == .frozen)).getD false
  let d1 := modCove c (fun r =>
    { r with state := .resetting, freezing := none, resetEnds := ends, resetToFrozen := frozen, squashed := false
             resetWaits := none }) d
  mirrorCove c (if ends then { d1 with adm.cmds := tall d1.adm.cmds (fun x =>
    if x.cove = c ∧ isWrite x.kind ∧ !x.completed then { x with silent := true } else x) } else d1)

/-- A thaw (R342, R355): it ends a freeze, or one under way whose requests then fail; a reset that waited for the freeze runs. -/
def thawCove (c : Nat) (d : Dev) : Dev :=
  match coveOf d c with
  | none => d
  | some r =>
    let d1 := dropFreeze c (modCove c (fun x => { x with state := .active, resetWaits := none }) d)
    let d2 := raiseCove c 0 d1
    match r.resetWaits with
    | some m => startReset c m d2
    | none => resumeCove c (if r.state = .frozen then mirrorCove c d2 else d2)

/-- COVE_CTRL_THAW (R342). -/
def execCoveCtrlThaw (cove : Nat) (v : Reg) (s : State) : Result :=
  onMbox s (coveCtrl cove (v ||| 8#32) (fun d =>
    match coveStateOf d cove with
    | some .active => thawCove cove d
    | some .frozen => thawCove cove d
    | _ => refuseControl cove d))

/-- COVE_CONTROL_THAW (R352). -/
def execCoveControlThaw (cntlid cid cove : Nat) (s : State) : Result :=
  onMbox s (coveFeature cntlid cid cove false (fun d =>
    match coveStateOf d cove with
    | some .active => succeed cntlid cid (thawCove cove d)
    | some .frozen => succeed cntlid cid (thawCove cove d)
    | _ => answerAdmin cntlid cid (gen 0x0C) 0 d))

/-- COVE_FROZEN (R342): admission has stopped and every command that the Cove admitted is terminal. A reset that waited runs,
unless an export is to be taken first. -/
def coveFrozen (c : Nat) (d : Dev) : Dev :=
  match coveOf d c with
  | none => d
  | some r =>
    if r.freezing.isNone ∨ r.state ≠ .active ∨ coveLive d c ≠ 0 then d
    else
      let d1 := mirrorCove c (modCove c (fun x => { x with state := .frozen, freezing := none }) d)
      let exports := r.exporting || d.host.waits.any (fun w => w.kind == 6 && w.subject == c)
      let d2 := answerWaits 3 c ok (if r.freezing = some 2 then d1 else raiseCove c 0 d1)
      match r.resetWaits with
      | some m => if exports then d2 else startReset c m d2
      | none => d2

/-- COVE_FROZEN (R342). -/
def execCoveFrozen (cove : Nat) (s : State) : Result := onMbox s (coveFrozen cove)

/-! ## Reset (R352 to R355) -/

/-- A reset asked for: it runs, waits for a freeze under way, or is refused (R355). -/
def requestReset (c : Nat) (ends : Bool) (d : Dev) : Option Dev :=
  match coveOf d c with
  | none => none
  | some r => match r.state with
    | .active => some (if r.freezing.isSome then modCove c (fun x => { x with resetWaits := some ends }) d else startReset c ends d)
    | .frozen => some (startReset c ends d)
    | _ => none

/-- COVE_CTRL_RESET (R352): RESET_MODE is bit 1. -/
def execCoveCtrlReset (cove : Nat) (v : Reg) (s : State) : Result :=
  onMbox s (coveCtrl cove (v ||| 1#32) (fun d => (requestReset cove (v.getLsbD 1) d).getD (refuseControl cove d)))

/-- Set Features C1h, ACTION 0 and 1 (R352): it completes when the reset does. -/
def resetByFeature (c cid cove : Nat) (ends : Bool) : Dev → Dev :=
  coveFeature c cid cove true (fun d => match requestReset cove ends d with
    | some d1 => waitFor c cid 4 cove 0 d1
    | none => answerAdmin c cid (gen 0x0C) 0 d)

/-- COVE_CONTROL_RESET (R352). -/
def execCoveControlReset (cntlid cid cove : Nat) (s : State) : Result := onMbox s (resetByFeature cntlid cid cove false)

/-- COVE_CONTROL_RESET_END (R352). -/
def execCoveControlResetEnd (cntlid cid cove : Nat) (s : State) : Result := onMbox s (resetByFeature cntlid cid cove true)

/-- Step 3 of a reset in mode 0 for one admitted read (R352): 83h is decided now, and its queue freezes; a read whose data is on
its way completes once that data is acknowledged (08 R272). -/
def resetRead (tag : Nat) (c : Cmd) (d : Dev) : Dev :=
  let st := vendor d c.cntlid 0x83 false 0
  let x : IoEnd := { cntlid := c.cntlid, sqid := c.sqid, cid := c.cid, nsid := c.nsid, nlb := lsum c.ranges (·.len)
                     lba := (c.ranges.head?.map (·.lba)).getD 0, asn := c.asn }
  if c.sent then decideIo x st true (modCmd tag (fun y => { y with fail := some st }) d)
  else squashRead tag (decideIo x st false d)

/-- Steps 3 and 4 of a reset (R352), once its writes are terminal. -/
def resetDrained (c : Nat) (d : Dev) : Dev :=
  match coveOf d c with
  | none => d
  | some r =>
    if r.state ≠ .resetting ∨ r.squashed ∨ d.adm.cmds.any (fun e => e.2.cove == c && isWrite e.2.kind && !e.2.completed) then d
    else
      let d1 := if r.resetEnds then (ctrlsOfCove d c).foldl (fun a k => endAssociation k a) d
        else
          let a1 := d.adm.cmds.foldl (fun a e =>
            if e.2.cove = c ∧ isRead e.2.kind ∧ !e.2.completed then resetRead e.1 e.2 a else a) d
          ((allSqs a1).filter (fun k => ctrlCove a1 k.1 == c)).foldl (fun a k => match sqOf a k.1 k.2 with
            | some s => s.held.foldl (fun b h => rejectCapsule k.1 k.2 h (vendor b k.1 0x83 false 0) b)
                { a with pool.waiting := a.pool.waiting.filter (fun w => w != k) }
            | none => a) a1
      modCove c (fun x => { x with squashed := true, gen := (x.gen + 1) % 256 }) d1

/-- COVE_RESET_WRITES_DRAINED (R352). -/
def execCoveResetWritesDrained (cove : Nat) (s : State) : Result := onDev s (resetDrained cove)

/-- COVE_RESET_DONE (R352 step 5): a deletion that waited for the reset starts (R343). -/
def resetDone (c : Nat) (d : Dev) : Dev :=
  match coveOf d c with
  | none => d
  | some r =>
    if r.state ≠ .resetting ∨ !r.squashed ∨ coveInflight d c ≠ 0 then d
    else
      let d1 := modCove c (fun x => { x with state := if x.resetToFrozen then .frozen else .active, squashed := false }) d
      let d2 := mirrorCove c (logCove c (0x8000 + c) 1 0 (payload c 0 r.gen 0) (raiseCove c 0 (coveCount c 15 1 d1)))
      let d3 := answerWaits 4 c ok d2
      if d3.host.waits.any (fun w => w.kind == 7 && w.subject == c) then startDelete c d3
      else if r.resetToFrozen then d3 else resumeCove c d3

/-- COVE_RESET_DONE (R352). -/
def execCoveResetDone (cove : Nat) (s : State) : Result := onMbox s (resetDone cove)

/-- GET_FEATURES_COVE_CONTROL (R352): STATE and GEN. -/
def execGetFeaturesCoveControl (cntlid cid cove : Nat) (s : State) : Result :=
  onMbox s (coveFeature cntlid cid cove false (fun d =>
    let r := (coveOf d cove).getD { state := .free }
    answerAdmin cntlid cid ok (coveStateNum r.state + 256 * r.gen) d))

end Sys2Proof.Machine
end

