-- ==== Sys2Proof/Machine/CoveImages.lean ====
section
/-! DEFINITION. Cove images (11 R356 to R359), the COVEIMG slots (18 R505) and written-block logs (11 R360 to R364, 07 R223). -/

namespace Sys2Proof.Machine

/-! ## The image (R356) -/

/-- The 16 key slot records of a Cove (R356 KEYPAGE). -/
def keyPage (d : Dev) (c : Nat) : List Byte :=
  slotPage d c

/-- A Cove's image without its CHECK. -/
def imageBody (d : Dev) (c : Nat) (r : CoveRec) (esn : Nat) : List Byte × List Byte :=
  let nss := coveNamespaces d c
  let binds := (d.cove.bindings.filter (fun b => b.2.cove == c)).map (fun b => bindingBytes { b.2 with assoc := 0 })
  let tail := (coveRecordBytes (coveCfg d c) ++ (coveNqn d c r ++ zeros 256).take 256 ++ r.counters.flatMap (fun x => leBytes x 8)
    ++ keyPage d c ++ nss.flatMap (fun n => leBytes n 4) ++ zeros (4 * (nss.length % 2)) ++ binds.flatten)
  let len := 64 + tail.length
  ([0x57#8, 0x58#8, 0x43#8, 0x49#8] ++ leBytes 1 2 ++ leBytes 64 2 ++ leBytes len 4 ++ leBytes c 2 ++ leBytes nss.length 2
      ++ leBytes binds.length 2 ++ zeros 2,
    leBytes d.pair.shelfId 16 ++ leBytes d.clk.tod.s 6 ++ zeros 2 ++ leBytes esn 8 ++ zeros 8 ++ tail)

/-- A whole image: CHECK is over the image with that field zero (R356). -/
def imageOf (d : Dev) (c : Nat) (r : CoveRec) (esn : Nat) : List Byte :=
  let (a, b) := imageBody d c r esn
  a ++ leBytes (crc32c (a ++ zeros 4 ++ b)).toNat 4 ++ b

/-! ## COVEIMG slots (03 R74, 18 R505) -/

/-- Slots of the layout in use: 16 pages each. -/
def imageSlots (d : Dev) : Nat := d.pool.layout.coveimg / 16

/-- Slots in use: written, claimed for loading, or invalid (03 R93). -/
def slotInUse (d : Dev) (i : Nat) : Bool := d.pool.imgUsed.contains i || d.pool.imgClaimed.contains i

/-- The lowest free slot. -/
def freeImage (d : Dev) : Option Nat := (List.range (imageSlots d)).find? (fun i => !slotInUse d i)

/-- First page of a slot. -/
def imagePage (d : Dev) (i : Nat) : Nat := regionStart d.pool.layout .coveimg + 16 * i

/-- Free a slot. -/
def freeImageSlot (i : Nat) (d : Dev) : Dev :=
  { d with pool.imgUsed := d.pool.imgUsed.filter (fun x => x != i), pool.imgClaimed := d.pool.imgClaimed.filter (fun x => x != i)
           pool.imgInvalid := d.pool.imgInvalid.filter (fun x => x != i) }

/-- The 64-byte units of bytes, in pages of 64. -/
def unitPages (bytes : List Byte) : List (List Nat) :=
  let units := (List.range (ceilDiv bytes.length 64)).map (fun i => leNum ((bytes.drop (64 * i)).take 64))
  (List.range (ceilDiv units.length 64)).map (fun p => (units.drop (64 * p)).take 64)

/-- Write an image to a slot, mirrored as REGION frames (R357, 13 R404). -/
def writeImage (i : Nat) (bytes : List Byte) (d : Dev) (m : Memory) : Dev × Memory :=
  let p := imagePage d i
  let ps := unitPages bytes
  ((List.range ps.length).foldl (fun a k => mirrorRegion (p + k) 0 (ps.getD k []) a)
      { d with pool.imgUsed := d.pool.imgUsed ++ [i] },
    mputs m (pageAddr p) bytes)

/-- MBOX_COVEIMG_CLAIM (18 R505). -/
def imageClaim (d : Dev) : Dev :=
  match freeImage d with
  | some i => mboxOk i { d with pool.imgClaimed := d.pool.imgClaimed ++ [i] }
  | none => mboxStatus 6 d

/-- MBOX_COVEIMG_CLAIM (18 R505). -/
def execMboxCoveimgClaim (s : State) : Result := onMbox s (mboxRun imageClaim)

/-- MBOX_COVEIMG_FREE (18 R505). -/
def execMboxCoveimgFree (slot : Nat) (s : State) : Result :=
  onMbox s (mboxRun (fun d =>
    if imageSlots d ≤ slot then mboxStatus 2 d
    else if !slotInUse d slot then mboxStatus 5 d else mboxOk 0 (freeImageSlot slot d)))

/-- MBOX_COVEIMG_LIST (18 R505): output bit n is slot n. -/
def execMboxCoveimgList (s : State) : Result :=
  onMbox s (mboxRun (fun d =>
    let v := ((List.range (imageSlots d)).filter (slotInUse d)).foldl (fun a i => a + 2 ^ i) 0
    mboxDone { status := 0, bytes := leBytes v (ceilDiv (imageSlots d) 8) } d))

/-! ## Export (R357, R358) -/

/-- The outcome of a command that may complete the mailbox and changes memory. -/
def onMboxMem (s : State) (f : Dev → Memory → Dev × Memory) : Result :=
  onBoth s (fun d m => placeMbox (f d m).1 (f d m).2)

/-- The exports that wait for a Cove: Cove Image Export commands, and one by COVE_CTRL. -/
def exportsOf (d : Dev) (c : Nat) : List AdminWait := d.host.waits.filter (fun w => w.kind == 6 && w.subject == c)

/-- Answer a Cove Image Export (07 R222): DW0 holds the image length and the slot, or FFh. -/
def answerExport (w : AdminWait) (img : List Byte) (slot : Option Nat) (d : Dev) : Dev :=
  answerData w.cntlid w.cid img (img.length % 65536 + 65536 * slot.getD 0xFF) d

/-- Take a FROZEN Cove's image (R357 steps 3 to 5): a copy goes to the lowest free slot where one was asked for. The spec names
an export event and gives it no code, so its ESN is an open value (log entry 3). -/
def takeExport (c : Nat) (d : Dev) (m : Memory) : Dev × Memory :=
  match coveOf d c with
  | none => (d, m)
  | some r =>
    let ws := exportsOf d c
    if r.state ≠ .frozen ∨ (!r.exporting ∧ ws.isEmpty) then (d, m)
    else
      let (esn, d0) := openValue d
      let img := imageOf d c r esn
      let want := r.exporting || ws.any (fun w => w.arg == 1)
      let slot := if want then freeImage d else none
      let (d1, m1) := match slot with
        | some i => writeImage i img d0 m
        | none => (d0, m)
      let d2 := { d1 with host.waits := d1.host.waits.filter (fun w => !(w.kind == 6 && w.subject == c)) }
      let d3 := ws.foldl (fun a w =>
        if w.arg = 1 ∧ slot.isNone then answerAdmin w.cntlid w.cid (gen 0x81) 0 a
        else answerExport w img (if w.arg = 1 then slot else none) a) d2
      let d4 := if !r.exporting then d3
        else
          let a := modCove c (fun x => { x with exporting := false, imageSlot := slot.getD 0xFF
                                                imageLen := if slot.isSome then img.length / 8 else 0 }) d3
          raiseCove c (if slot.isSome then 0 else 2) a
      match r.resetWaits with
      | some mo => (startReset c mo d4, m1)
      | none => (d4, m1)

/-- COVE_EXPORT_TAKE (R357). -/
def execCoveExportTake (cove : Nat) (s : State) : Result := onMboxMem s (takeExport cove)

/-- The status of a Cove Image Export that fails before step 2 (R358). -/
def exportFails (d : Dev) (c : Nat) (copy : Bool) : Option Status :=
  match coveOf d c with
  | none => some (gen 0x02)
  | some r =>
    if c = 0 then some (gen 0x02)
    else if r.state = .resetting ∨ r.state = .deleting ∨ r.freezing.isSome then some (gen 0x0C)
    else if copy ∧ (freeImage d).isNone then some (gen 0x81) else none

/-- Begin an export that has passed its checks: freeze the Cove, or take the image of one that is FROZEN (R357). -/
def beginExport (c : Nat) (d : Dev) (m : Memory) : Dev × Memory :=
  if coveStateOf d c = some .frozen then takeExport c d m
  else (modCove c (fun x => { x with freezing := some 2 }) d, m)

/-- COVE_IMAGE_EXPORT (C2h, R357). -/
def imageExport (c cid cove : Nat) (keep : Bool) (d : Dev) (m : Memory) : Dev × Memory :=
  let go := admin c cid .cove0 (fun a => match exportFails a cove keep with
    | some st => answerAdmin c cid st 0 a
    | none => waitFor c cid 6 cove (b2n keep) a) d
  if (exportsOf go cove).length = (exportsOf d cove).length + 1 then beginExport cove go m else (go, m)

/-- COVE_IMAGE_EXPORT (C2h, R357). -/
def execCoveImageExport (cntlid cid cove : Nat) (keep : Bool) (s : State) : Result :=
  onMboxMem s (imageExport cntlid cid cove keep)

/-- An export by COVE_CTRL (R357, R358): a failure sets FAIL and SLOT 0xFF; in a state that refuses it a WARN event is logged
too (R350). -/
def exportByCtrl (c : Nat) (d : Dev) (m : Memory) : Dev × Memory :=
  match exportFails d c true with
  | none => beginExport c (modCove c (fun x => { x with exporting := true }) d) m
  | some st =>
    let d1 := raiseCove c 2 (modCove c (fun x => { x with imageSlot := 0xFF, imageLen := 0 }) d)
    (if st = gen 0x0C ∨ (coveOf d c).isNone then refuseControl c d1 else d1, m)

/-- COVE_CTRL_EXPORT (R357). -/
def execCoveCtrlExport (cove : Nat) (v : Reg) (s : State) : Result :=
  onMboxMem s (fun d m =>
    let w := v ||| 16#32
    if ([0, 2, 3, 4].filter (fun i => w.getLsbD i)).length ≠ 1 ∨ 4096 ≤ cove ∨ !thas d.cove.tab cove ∨ !blocksOpen d then (d, m) else exportByCtrl cove d m)

/-! ## Import (R359) -/

/-- The image's NS_COUNT and BIND_COUNT. -/
def imageCounts (b : List Byte) : Nat × Nat := (wide b 14 2, wide b 16 2)

/-- Length that the counts give. -/
def imageLength (ns binds : Nat) : Nat := 2568 + (4 * ns + 7) / 8 * 8 + 32 * binds

/-- MAGIC, VERSION, HDR_LEN, LENGTH and CHECK of an image (R359). -/
def imageOk (b : List Byte) : Bool :=
  let (ns, bn) := imageCounts b
  let len := wide b 8 4
  b.take 4 == [0x57#8, 0x58#8, 0x43#8, 0x49#8] && wide b 4 2 == 1 && wide b 6 2 == 64 && decide (ns ≤ 4096) && decide (bn ≤ 1024) &&
    len == imageLength ns bn && decide (len ≤ b.length) &&
    wide b 20 4 == (crc32c (b.take 20 ++ zeros 4 ++ (b.drop 24).take (len - 24))).toNat

/-- NQN of an image, without its padding. -/
def imageNqn (b : List Byte) : List Byte := ((b.drop 136).take 256).takeWhile (fun x => x != 0#8)

/-- Attached NSIDs of an image. -/
def imageNamespaces (b : List Byte) : List Nat := (List.range (imageCounts b).1).map (fun i => wide b (2568 + 4 * i) 4)

/-- Bindings of an image, for a target Cove. -/
def imageBindings (b : List Byte) (c : Nat) : List Binding :=
  let base := 2568 + (4 * (imageCounts b).1 + 7) / 8 * 8
  (List.range (imageCounts b).2).map (fun i =>
    let o := base + 32 * i
    { hostid := wide b o 16, cove := c, valid := bit (wide b (o + 18) 1) 0, anyHost := bit (wide b (o + 18) 1) 1
      maxAssoc := wide b (o + 19) 1 })

/-- A key slot record of an image (12 R385): none when a slot that is not empty fails its check or does not unwrap. -/
def imageSlot (d : Dev) (b : List Byte) (c i : Nat) : Option SlotRecord :=
  let o := 520 + 128 * i
  let r := (b.drop o).take 128
  let e := wide r 4 4
  if !bit (wide r 0 1) 0 then some (emptySlot d c i)
  else if wide r 124 4 ≠ (crc32c (r.take 124)).toNat then none
  else match unwrapSlot d e ((r.drop 8).take 48) with
    | some (k, n, mo) => if n = i ∧ mo < 16 then
        some { cove := c, slot := i, loaded := true, modes := mo, kekEpoch := e, key := k, wrapped := (r.drop 8).take 48 }
        else none
    | none => none

/-- The key slots of an image. -/
def imageKeys (d : Dev) (b : List Byte) (c : Nat) : Option (List SlotRecord) :=
  (List.range 16).foldr (fun i l => (imageSlot d b c i).bind (fun r => l.map (fun t => r :: t))) (some [])

/-- The checks of R359 in their order: an NVMe status and a mailbox STATUS. -/
def importFails (d : Dev) (c : Nat) (b : List Byte) : Option (Status × Nat) :=
  let (ns, bn) := imageCounts b
  if !imageOk b then some (gen 0x02, 2)
  else if c = 0 ∨ 4096 ≤ c ∨ thas d.cove.tab c then some (gen 0x0C, 4)
  else if (coveOfNqn d (imageNqn b)).isSome then some (gen 0x15, 4)
  else if !(imageNamespaces b).all (fun n => (tget d.host.nss n).any (fun x => !x.creating)) then some (gen 0x0B, 5)
  else if (coveCfg d c).nsQuota < ns ∨ 16384 < d.cove.bindings.length + bn then some (gen 0x81, 6)
  else if floorsBroken d c then some (gen 0x81, 6)
  else if (imageKeys d b c).isNone then some (gen 0x15, 7) else none

/-- Put an image's bindings into the lowest free entries. -/
def addBindings : List Binding → Dev → Dev
  | [], d => d
  | b :: r, d => match tfree d.cove.bindings 0 16384 with
    | some i => addBindings r (mirrorBinding i { d with cove.bindings := tput d.cove.bindings i b })
    | none => d

/-- The first byte in which two byte strings differ. -/
def firstDiff (a b : List Byte) : Option Nat := (List.range (min a.length b.length)).find? (fun i => a[i]? != b[i]?)

/-- Create a Cove from an image that passed (R359). -/
def importCove (c : Nat) (b : List Byte) (d : Dev) : Dev :=
  let keys := ((imageKeys d b c).getD []).filter (·.loaded)
  let d1 := bornCove c { nqn := imageNqn b, counters := (List.range 16).map (fun i => wide b (392 + 8 * i) 8) } d
  let nss := imageNamespaces b
  let d2 := { d1 with
    host.nss := d1.host.nss.map (fun n => if nss.contains n.1 then (n.1, { n.2 with coves := n.2.coves ++ [c] }) else n)
    prism.changes := d1.prism.changes ++ nss.map TableChange.nsmap
    keys.slots := keys.foldl (fun t r => tput t (c * 16 + r.slot) r) d1.keys.slots }
  let d3 := keys.foldl (fun a r => mirrorConfig 6 (slotRecord r) a) (addBindings (imageBindings b c) (mirrorCove c d2))
  let d4 := if keys.isEmpty then d3 else configWrite (slotLba c) (slotBlockBytes d3 c) d3
  match firstDiff (coveRecordBytes (coveCfg d c)) ((b.drop 64).take 72) with
  | some o => logCove c (0x8000 + c) 3 0 (payload c 0 0 o) d4
  | none => d4

/-- COVE_IMAGE_IMPORT (C3h, R359). -/
def execCoveImageImport (cntlid cid cove : Nat) (image : List Byte) (s : State) : Result :=
  onMbox s (admin cntlid cid .cove0 (fun d => match importFails d cove image with
    | some (st, _) => answerAdmin cntlid cid st 0 d
    | none => succeed cntlid cid (importCove cove image d)))

/-- Mailbox COVE_IMPORT (R359, 18 R505): the image stands in a COVEIMG slot, which is freed. -/
def importFromSlot (c slot : Nat) (d : Dev) (m : Memory) : Dev × Memory :=
  (mboxRun (onServing (fun a =>
    if imageSlots a ≤ slot then mboxStatus 2 a
    else if !slotInUse a slot then mboxStatus 5 a
    else if a.pool.imgInvalid.contains slot then mboxStatus 2 a
    else
      let b := mgets m (pageAddr (imagePage a slot)) 65536
      match importFails a c b with
      | some (_, n) => mboxStatus n a
      | none => mboxOk 0 (freeImageSlot slot (importCove c b a)))) d, m)

/-- MBOX_COVE_IMPORT (R359). -/
def execMboxCoveImport (cove slot : Nat) (s : State) : Result := onMboxMem s (importFromSlot cove slot)

/-! ## Written-block logs (R360 to R364, 07 R223) -/

/-- A namespace's running log. -/
def wblOf (d : Dev) (nsid : Nat) : Option Wbl := (tget d.cove.wbl nsid).bind (fun w => if w.running then some w else none)

/-- Start a namespace's log (R360, R362), or none where the logs would pass SHALLOWS_MAX. -/
def wblStart (nsid : Nat) (d : Dev) : Option Dev :=
  match tget d.host.nss nsid with
  | none => none
  | some n =>
    let d1 := { d with cove.wbl := tput d.cove.wbl nsid { running := true, swapAsn := n.nextAsn } }
    if (chartOf d).hbm.shallowsMax < wblMiB d1 then none else some (setShallows (profileOf d1).shallows d1)

/-- Swap the halves of a running log (R362). -/
def wblSwap (nsid : Nat) (d : Dev) : Dev :=
  let next := ((tget d.host.nss nsid).map (·.nextAsn)).getD 0
  { d with cove.wbl := tmod d.cove.wbl nsid (fun w =>
      if w.running then { w with live := [], retired := w.live, swapAsn := next, retiredHalf := 1 - w.retiredHalf } else w) }

/-- Stop a namespace's log (R363). -/
def wblStop (nsid : Nat) (d : Dev) : Dev :=
  let d1 := { d with cove.wbl := terase d.cove.wbl nsid }
  setShallows (profileOf d1).shallows d1

/-- A byte of a half's bitmap. -/
def wblByte (bitsSet : List Nat) (i : Nat) : Byte :=
  BitVec.ofNat 8 (((List.range 8).filter (fun k => bitsSet.contains (8 * i + k))).foldl (fun a k => a + 2 ^ k) 0)

/-- What C4h returns (07 R223): the 64-byte header, then bitmap bytes from an offset in 4 KiB units. -/
def wblBytes (d : Dev) (nsid offset len : Nat) (w : Wbl) : List Byte :=
  let r := wblRegions d nsid
  let head := leBytes nsid 4 ++ zeros 4 ++ leBytes w.swapAsn 8 ++ leBytes r 8 ++ leBytes (offset * 4096) 8 ++ zeros 32
  let n := min (ceilDiv r 8 - offset * 4096) (len - 64)
  window (head ++ (List.range n).map (fun i => wblByte w.retired (offset * 4096 + i))) 0 len

/-- A C4h command (07 R222, R223): the namespace must be attached. -/
def wblCmd (c cid nsid : Nat) (f : Dev → Dev) : Dev → Dev :=
  admin c cid .all (fun d => if attached d c nsid then f d else answerAdmin c cid (gen 0x0B) 0 d)

/-- WBL_START (R362). -/
def execWblStart (cntlid cid nsid : Nat) (s : State) : Result :=
  onMbox s (wblCmd cntlid cid nsid (fun d => match wblStart nsid d with
    | some d1 => succeed cntlid cid d1
    | none => answerAdmin cntlid cid (gen 0x81) 0 d))

/-- Return bytes of the retired half, or a Command Sequence Error without a running log (07 R223). -/
def wblReturn (c cid nsid offset len : Nat) (d : Dev) : Dev :=
  match wblOf d nsid with
  | some w => answerData c cid (wblBytes d nsid offset len w) 0 d
  | none => answerAdmin c cid (gen 0x0C) 0 d

/-- WBL_SWAP_READ (R362). -/
def execWblSwapRead (cntlid cid nsid offset len : Nat) (s : State) : Result :=
  onMbox s (wblCmd cntlid cid nsid (fun d => wblReturn cntlid cid nsid offset len (wblSwap nsid d)))

/-- WBL_READ (07 R223). -/
def execWblRead (cntlid cid nsid offset len : Nat) (s : State) : Result :=
  onMbox s (wblCmd cntlid cid nsid (wblReturn cntlid cid nsid offset len))

/-- WBL_STOP (R363). -/
def execWblStop (cntlid cid nsid : Nat) (s : State) : Result :=
  onMbox s (wblCmd cntlid cid nsid (fun d => succeed cntlid cid (wblStop nsid d)))

/-- Device address of the control table of written-block logs (R364). -/
def wblTable : Nat := 0x0000000300100000

/-- WBL_TABLE_START (R364): a start that does not fit leaves the log as it is. -/
def execWblTableStart (nsid : Nat) (s : State) : Result := onDev s (onTable (wblTable + 32 * (nsid - 1)) (fun d => (wblStart nsid d).getD d))

/-- WBL_TABLE_SWAP (R364). -/
def execWblTableSwap (nsid : Nat) (s : State) : Result := onDev s (onTable (wblTable + 32 * (nsid - 1)) (wblSwap nsid))

/-- WBL_TABLE_STOP (R364). -/
def execWblTableStop (nsid : Nat) (s : State) : Result := onDev s (onTable (wblTable + 32 * (nsid - 1)) (wblStop nsid))

/-- A namespace's entry of the control table (R364), 32 bytes. -/
def wblEntry (d : Dev) (nsid : Nat) : List Byte :=
  match wblOf d nsid with
  | some w => zeros 1 ++ leBytes 1 1 ++ zeros 6 ++ leBytes w.swapAsn 8 ++ leBytes (Config.wblBase nsid w.retiredHalf) 8
      ++ leBytes (wblRegions d nsid) 4 ++ zeros 4
  | none => zeros 32

end Sys2Proof.Machine
end

