-- ==== Sys2Proof/Machine/Namespaces.lean ====
section
/-! DEFINITION. Namespace Management and Attachment (07 R201, 11 R347), Format NVM and the walk behind it (07 R234, R235), and
Sanitize (07 R236 to R238). -/

namespace Sys2Proof.Machine

/-- A management command of namespaces: refused on a path whose ANA state does not serve (R221, log entry 17), and while a
Sanitize runs. -/
def managing (c cid : Nat) (f : Dev → Dev) (d : Dev) : Dev :=
  match anaStatus d with
  | some st => answerAdmin c cid st 0 d
  | none => if d.host.san.state = 1 then answerAdmin c cid (gen 0x1D) 0 d else f d

/-! ## Creation (R201, 04 R123, 05 R148, 12 R380) -/

/-- Blocks reserved against a Shoal's capacity. -/
def reservedBlocks (d : Dev) (sh : Nat) : Nat := lsum (d.host.nss.filter (fun n => n.2.shoal == sh)) (fun n => n.2.nsze)

/-- Map pages of a namespace of so many blocks (04 R123). -/
def mapPagesFor (nsze grain : Nat) : Nat := ceilDiv (ceilDiv nsze (grainBlocks grain)) 512

/-- Map pages of a namespace. -/
def nsPages (n : Ns) : Nat := mapPagesFor n.nsze n.grain

/-- The lowest place among the 2^29 global map page numbers that holds a range of `n` pages (04 R123). -/
def placePages (d : Dev) (n : Nat) : Option Nat :=
  let used := d.host.nss.map (fun e => (e.2.pageBase, nsPages e.2))
  let clear := fun (b : Nat) => decide (b + n ≤ 2 ^ 29) && used.all (fun u => decide (b + n ≤ u.1) || decide (u.1 + u.2 ≤ b))
  ((0 :: used.map (fun u => u.1 + u.2)).mergeSort (fun a b => decide (a ≤ b))).find? clear

/-- A new namespace's first ASN (05 R148). -/
def firstAsn (d : Dev) (nsid : Nat) : Nat :=
  match tget d.pool.marks nsid with
  | some m => m + 1048576
  | none => 1

/-- Namespace Management create (R201): a Shoal that the running Chart defines, capacity, map pages and an NSID; the first mark
and the key, whose durable record completes the command. -/
def nsCreate (c cid : Nat) (x : NsCreateArgs) (d : Dev) : Dev :=
  if x.nsze = 0 ∨ 2 < x.grain ∨ (shoalOf d x.shoal).isNone ∨ 1 < x.flags ∨ x.reserved then badField c cid d
  else if usableBlocks d x.shoal < reservedBlocks d x.shoal + x.nsze then answerAdmin c cid (cmdSpec 0x15) 0 d
  else match placePages d (mapPagesFor x.nsze x.grain) with
    | none => answerAdmin c cid (cmdSpec 0x15) 0 d
    | some base => match tfree d.host.nss 1 4096 with
      | none => answerAdmin c cid (cmdSpec 0x16) 0 d
      | some nsid =>
        let s := firstAsn d nsid
        let d1 := { d with
          host.nss := tput d.host.nss nsid { nsze := x.nsze, grain := x.grain, shoal := x.shoal, auth := x.flags == 1
                                             pageBase := base, nextAsn := s, creating := true, keyAvailable := false }
          prism.changes := d.prism.changes ++ [.nsmap nsid] }
        firstKey nsid (waitFor c cid 0 nsid 0 (mirrorNamespace nsid (writeMark nsid s d1)))

/-- NAMESPACE_CREATE (R201). -/
def execNamespaceCreate (cntlid cid : Nat) (args : NsCreateArgs) (s : State) : Result :=
  onMbox s (admin cntlid cid .cove0 (managing cntlid cid (nsCreate cntlid cid args)))

/-- NAMESPACE_KEY_DURABLE (12 R380): the record stands in every place, and the create completes with its NSID. -/
def keyDurable (nsid : Nat) (d : Dev) : Dev :=
  if (tget d.host.nss nsid).any (·.creating) && thas d.keys.nsKeys nsid then
    let mine := fun (w : AdminWait) => w.kind == 0 && w.subject == nsid
    let d0 := recordsWritten (fun _ c => writesLba (fun l => l == keyLba nsid) c) d
    let d1 := mirrorKeyIndex nsid { d0 with
      keys.nsKeys := tmod d.keys.nsKeys nsid (fun k => { k with durable := true })
      host.nss := tmod d.host.nss nsid (fun n => { n with creating := false })
      host.waits := d.host.waits.filter (fun w => !mine w) }
    (d.host.waits.filter mine).foldl (fun a w => answerAdmin w.cntlid w.cid ok nsid a) d1
  else d

/-- NAMESPACE_KEY_DURABLE (12 R380). -/
def execNamespaceKeyDurable (nsid : Nat) (s : State) : Result := onMbox s (keyDurable nsid)

/-! ## Attachment (R199, 11 R347) -/

/-- The Coves that a controller list reaches, or none where the list is empty or names no controller (log entry 17). -/
def covesReached (d : Dev) (ctrls : List Nat) : Option (List Nat) :=
  if ctrls.isEmpty ∨ !ctrls.all (fun k => (ctrlOf d k).any (fun x => !x.ended)) then none
  else some (ctrls.map (ctrlCove d)).eraseDups

/-- Set the Coves that a namespace is attached to. -/
def setAttached (nsid : Nat) (coves touched : List Nat) (d : Dev) : Dev :=
  touched.foldl (fun a c => mirrorCove c a)
    { d with host.nss := tmod d.host.nss nsid (fun n => { n with coves := coves }), prism.changes := d.prism.changes ++ [.nsmap nsid] }

/-- Namespace Attachment (R199): to a controller's Cove, within NS_QUOTA. -/
def nsAttach (c cid nsid : Nat) (ctrls : List Nat) (d : Dev) : Dev :=
  match tget d.host.nss nsid with
  | none => answerAdmin c cid (gen 0x0B) 0 d
  | some n =>
    if n.creating ∨ n.fmt = .deleting then answerAdmin c cid (gen 0x0B) 0 d
    else match covesReached d ctrls with
      | none => answerAdmin c cid (cmdSpec 0x1C) 0 d
      | some cs =>
        if cs.any (fun x => n.coves.contains x) then answerAdmin c cid (cmdSpec 0x18) 0 d
        else if cs.any (fun x => decide ((coveCfg d x).nsQuota ≤ (coveNamespaces d x).length)) then answerAdmin c cid (cmdSpec 0x27) 0 d
        else succeed c cid (setAttached nsid (n.coves ++ cs) cs d)

/-- NAMESPACE_ATTACH (11 R347). -/
def execNamespaceAttach (cntlid cid nsid : Nat) (ctrls : List Nat) (s : State) : Result :=
  onMbox s (admin cntlid cid .cove0 (managing cntlid cid (nsAttach cntlid cid nsid ctrls)))

/-- Namespace detachment (R199). -/
def nsDetach (c cid nsid : Nat) (ctrls : List Nat) (d : Dev) : Dev :=
  match tget d.host.nss nsid with
  | none => answerAdmin c cid (gen 0x0B) 0 d
  | some n => match covesReached d ctrls with
    | none => answerAdmin c cid (cmdSpec 0x1C) 0 d
    | some cs =>
      if !cs.all (fun x => n.coves.contains x) then answerAdmin c cid (cmdSpec 0x1A) 0 d
      else succeed c cid (setAttached nsid (n.coves.filter (fun x => !cs.contains x)) cs d)

/-- NAMESPACE_DETACH (R199). -/
def execNamespaceDetach (cntlid cid nsid : Nat) (ctrls : List Nat) (s : State) : Result :=
  onMbox s (admin cntlid cid .cove0 (managing cntlid cid (nsDetach cntlid cid nsid ctrls)))

/-! ## Unmapping a namespace (R234 step 4) -/

/-- Take the next ASN of a namespace (05 R145), whose mark stands (R146). -/
def takeAsn (nsid : Nat) (d : Dev) : Nat × Dev :=
  let asn := ((tget d.host.nss nsid).map (·.nextAsn)).getD 0
  (asn, { d with host.nss := tmod d.host.nss nsid (fun n => { n with nextAsn := asn + 1, mustMark := false }) })

/-- UNMAP records that cover a namespace: one per 2^31 grains. -/
def unmapCount (n : Ns) : Nat := ceilDiv (ceilDiv n.nsze (grainBlocks n.grain)) (2 ^ 31)

/-- Write the UNMAP records of a namespace under an ASN. -/
def unmapRecords (nsid asn : Nat) (n : Ns) (d : Dev) : Dev :=
  let grains := ceilDiv n.nsze (grainBlocks n.grain)
  (List.range (unmapCount n)).foldl (fun a i => appendLog
    { type := 2, seq := 0, nsid := nsid, start := i * 2 ^ 31 * grainBlocks n.grain, count := min (2 ^ 31) (grains - i * 2 ^ 31)
      asnLo := asn, asnHi := asn } a) d

/-- Key of an old map page's own block among the entries that a walk visits. -/
def oldPageKey (i : Nat) : Nat := 2 ^ 41 + i

/-- Move every grain of a namespace to UNMAPPED (R234 step 4): the old entries and map pages are kept for the walk; a write of
lower ASN whose stripe has yet to commit finds its grain taken (04 R127). -/
def unmapAll (nsid : Nat) (d : Dev) : Dev :=
  match tget d.host.nss nsid with
  | none => d
  | some n =>
    let (asn, d1) := takeAsn nsid d
    let d2 := unmapRecords nsid asn n d1
    let mine := fun (k : Nat) => k / 2 ^ 40 == nsid
    let pages := fun (p : Nat) => decide (n.pageBase ≤ p) && decide (p < n.pageBase + nsPages n)
    let old := (d2.str.map.filter (fun e => mine e.1)).map (fun e => (e.1 % 2 ^ 40, e.2))
    let blocks := (d2.str.dir.filter (fun e => pages e.1)).map (fun e => (oldPageKey (e.1 - n.pageBase), MapEntry.mapped e.2))
    let late := d2.adm.cmds.flatMap (fun e => if e.2.nsid = nsid then e.2.toPlace ++ e.2.uncommitted else [])
    { d2 with
      str.map := d2.str.map.filter (fun e => !mine e.1)
      str.unknownNs := d2.str.unknownNs.filter (fun x => x != nsid)
      str.shadow := late.foldl (fun t g => tput t (gkey nsid g) asn) (d2.str.shadow.filter (fun e => !mine e.1))
      str.overlays := d2.str.overlays.filter (fun o => o.nsid != nsid)
      str.deferred := d2.str.deferred.filter (fun x => x.nsid != nsid)
      str.dir := d2.str.dir.filter (fun e => !pages e.1)
      str.cached := d2.str.cached.filter (fun p => !pages p)
      host.nss := tmod d2.host.nss nsid (fun x => { x with oldMap := old ++ blocks }) }

/-- Take one old map entry out of its row's LIVE count (R234 step 6). -/
def dropOld (n : Ns) (e : Nat × MapEntry) (d : Dev) : Dev :=
  match e.2 with
  | .mapped p => subLive p (if 2 ^ 41 ≤ e.1 then 1 else grainBlocks n.grain) d
  | _ => d

/-- Visit every old entry that is left: before the namespace is unmapped again, and at its deletion (log entry 18). -/
def finishWalk (nsid : Nat) (d : Dev) : Dev :=
  match tget d.host.nss nsid with
  | none => d
  | some n => n.oldMap.foldl (fun a e => dropOld n e a) { d with host.nss := tmod d.host.nss nsid (fun x => { x with oldMap := [] }) }

/-- A namespace's entries leave the Lost Range log (R227, R234). -/
def dropLost (keep : LostEntry → Bool) (d : Dev) : Dev :=
  (d.shelf.labels.filter (fun l => !l.2.lost.all keep)).foldl (fun a l => setLabel l.1 { l.2 with lost := l.2.lost.filter keep } a) d

/-! ## Format and deletion (R234, R235) -/

/-- Record a change of format state: the ADMIN record, mirrored, and its event (17 R484). -/
def setFormat (nsid : Nat) (st : FormatState) (percent cursor : Nat) (d : Dev) : Dev :=
  let old := ((tget d.host.nss nsid).map (·.fmt)).getD .none
  let d1 := mirrorFormat nsid { d with host.nss := tmod d.host.nss nsid (fun n =>
    { n with fmt := st, percent := percent, cursor := cursor, startS := if st = .erasing ∨ st = .deleting then d.clk.tod.s else n.startS }) }
  if old = st then d1 else logEvent 5 2 0 (payload nsid (formatStateNum old) (formatStateNum st) 0) d1

/-- Every bit of a running log's live half (11 R361). -/
def fillWbl (nsid : Nat) (d : Dev) : Dev :=
  { d with cove.wbl := tmod d.cove.wbl nsid (fun w => if w.running then { w with live := List.range (wblRegions d nsid) } else w) }

/-- Steps 3 to 5 of a format (R234, R235). -/
def eraseFormat (nsid : Nat) (d : Dev) : Dev :=
  let d1 := dropLost (fun e => !(e.resolved && e.nsid == nsid)) (unmapAll nsid (finishWalk nsid (rotateKey nsid d)))
  setFormat nsid .reclaiming 0 0 d1

/-- Steps 3 and 4 for a deletion, and the NSID's end (R201): its logs and reservation go, the mark slot stays (05 R148). -/
def eraseDelete (nsid : Nat) (d : Dev) : Dev :=
  let coves := ((tget d.host.nss nsid).map (·.coves)).getD []
  let d1 := wblStop nsid (dropLost (fun e => !(e.resolved && e.nsid == nsid)) (finishWalk nsid (unmapAll nsid (finishWalk nsid d))))
  let d2 := eraseKey nsid d1
  let d3 := { d2 with host.nss := terase d2.host.nss nsid, host.resv := terase d2.host.resv nsid
                      prism.changes := d2.prism.changes ++ [.nsmap nsid] }
  coves.foldl (fun a c => mirrorCove c a) (mirrorNamespace nsid (mirrorFormat nsid d3))

/-- Has a namespace an admitted command that is not terminal? -/
def nsBusy (d : Dev) (nsid : Nat) : Bool :=
  d.adm.cmds.any (fun e => e.2.nsid == nsid && !e.2.completed) || d.host.waits.any (fun w => w.kind == 10 && w.subject == nsid)

/-- A format or deletion that waits (R234 step 1): kind 2 or 1. -/
def formatWait (d : Dev) (nsid : Nat) : Option AdminWait :=
  d.host.waits.find? (fun w => (w.kind == 1 || w.kind == 2) && w.subject == nsid)

/-- Start the namespace that a command formats or deletes next (R234: one after another): its admission stops and it is written
ERASING or DELETING when it has drained. -/
def startFormat (nsid : Nat) (d : Dev) : Dev :=
  recheckHeads (fillWbl nsid { d with host.formatDrain := d.host.formatDrain ++ [nsid] })

/-- Run a format whose namespace has drained, whose key can be drawn (12 R374) and whose ASN's mark stands (05 R146); the command completes
with its last namespace. -/
def runFormat (nsid : Nat) (d : Dev) : Dev :=
  match formatWait d nsid with
  | none => d
  | some w =>
    let room := decide (((tget d.host.nss nsid).map unmapCount).getD 0 ≤ logFree d)
    if !d.host.formatDrain.contains nsid ∨ nsBusy d nsid ∨ !d.keys.entropyOk ∨ !room then d
    else if !markStands d nsid then askMark nsid d
    else
      let d1 := { d with host.formatDrain := d.host.formatDrain.filter (fun x => x != nsid), host.waits := d.host.waits.erase w }
      let d2 := if w.kind = 1 then eraseDelete nsid (setFormat nsid .deleting 0 0 d1)
        else eraseFormat nsid (setFormat nsid .erasing 0 0 d1)
      match d2.host.waits.find? (fun x => x.kind == w.kind && x.cntlid == w.cntlid && x.cid == w.cid) with
      | some x => startFormat x.subject d2
      | none => answerAdmin w.cntlid w.cid ok 0 d2

/-- Formats that wait, and those that follow them, as far as they go. -/
def runFormatsN : Nat → Dev → Dev
  | 0, d => d
  | k + 1, d => runFormatsN k (d.host.formatDrain.foldl (fun a n => runFormat n a) d)

/-- Every format that waits, as far as it can go. -/
def runFormats (d : Dev) : Dev := runFormatsN (d.host.waits.length + 1) d

/-- Begin a command over a list of namespaces. -/
def beginFormats (kind c cid : Nat) (nsids : List Nat) (d : Dev) : Dev :=
  match nsids with
  | [] => succeed c cid d
  | n :: _ =>
    let ws : List AdminWait := nsids.map (fun x => { cntlid := c, cid := cid, kind := kind, subject := x })
    runFormats (startFormat n { d with host.waits := d.host.waits ++ ws })

/-- The namespaces that a command names; FFFFFFFFh names every one that `p` admits. -/
def namedNs (d : Dev) (nsid : Nat) (p : Nat → Bool) : List Nat :=
  if nsid = 0xFFFFFFFF then (d.host.nss.map (·.1)).filter p else if p nsid then [nsid] else []

/-- Is a namespace being formatted or deleted by a command that waits? -/
def inFormat (d : Dev) (nsid : Nat) : Bool := (formatWait d nsid).isSome

/-- Format NVM (R234). -/
def formatNvm (c cid nsid lbaf pi mset ses : Nat) (d : Dev) : Dev :=
  let ns := namedNs d nsid (attached d c)
  if lbaf ≠ 0 ∨ pi ≠ 0 ∨ mset ≠ 0 then answerAdmin c cid (cmdSpec 0x0A) 0 d
  else if 2 < ses then badField c cid d
  else if ns.isEmpty ∧ nsid ≠ 0xFFFFFFFF then answerAdmin c cid (gen 0x0B) 0 d
  else if ns.any (inFormat d) then answerAdmin c cid (gen 0x84) 0 d
  else beginFormats 2 c cid ns d

/-- FORMAT_NVM (R234). -/
def execFormatNvm (cntlid cid nsid lbaf pi mset ses : Nat) (s : State) : Result :=
  onMbox s (admin cntlid cid .all (managing cntlid cid (formatNvm cntlid cid nsid lbaf pi mset ses)))

/-- Namespace Management delete (R201). -/
def nsDelete (c cid nsid : Nat) (d : Dev) : Dev :=
  let ns := namedNs d nsid (fun n => (tget d.host.nss n).any (fun x => !x.creating))
  if ns.isEmpty ∧ nsid ≠ 0xFFFFFFFF then answerAdmin c cid (gen 0x0B) 0 d
  else if ns.any (inFormat d) then answerAdmin c cid (gen 0x84) 0 d
  else beginFormats 1 c cid ns d

/-- NAMESPACE_DELETE (R201). -/
def execNamespaceDelete (cntlid cid nsid : Nat) (s : State) : Result :=
  onMbox s (admin cntlid cid .cove0 (managing cntlid cid (nsDelete cntlid cid nsid)))

/-- One old map page of the walk (R234 step 6): it pauses where Ebb does, during PRESS (03 R84), in PS3 (R233), and on a side that does
not write the members. -/
def walkPage (nsid : Nat) (d : Dev) : Dev :=
  match tget d.host.nss nsid with
  | none => d
  | some n =>
    if n.fmt ≠ .reclaiming ∨ 2 ≤ d.pool.level ∨ d.host.power = 3 ∨ housekeepingPaused d then d
    else
      let here := fun (e : Nat × MapEntry) => e.1 / 512 == n.cursor || e.1 == oldPageKey n.cursor
      let d1 := (n.oldMap.filter here).foldl (fun a e => dropOld n e a)
        { d with host.nss := tmod d.host.nss nsid (fun x => { x with oldMap := x.oldMap.filter (fun e => !here e) }) }
      let next := n.cursor + 1
      if nsPages n ≤ next then setFormat nsid .complete 100 next d1
      else setFormat nsid .reclaiming (next * 100 / nsPages n) next d1

/-- FORMAT_WALK (R234): a format that waits for its drain runs first. -/
def execFormatWalk (nsid : Nat) (s : State) : Result := onMbox s (fun d => walkPage nsid (runFormat nsid d))

/-! ## Sanitize (R236 to R238) -/

/-- Record a change of the sanitise record, in ADMIN and mirrored, with its event (17 R484). -/
def setSan (r : SanRecord) (d : Dev) : Dev :=
  let d1 := writeSan r d
  if d.host.san.state = r.state then d1 else logEvent 5 3 0 (payload 0 d.host.san.state r.state 0) d1

/-- Every capsule not admitted completes with Sanitize In Progress (R236). -/
def rejectAll (st : Status) (d : Dev) : Dev :=
  (allSqs d).foldl (fun a k => match sqOf a k.1 k.2 with
    | some s => s.held.foldl (fun b h => rejectCapsule k.1 k.2 h st b) a
    | none => a) { d with pool.waiting := [] }

/-- Formats and deletions under way are abandoned (R236 step 1). -/
def abandonFormats (d : Dev) : Dev :=
  let mine := fun (w : AdminWait) => w.kind == 1 || w.kind == 2
  let d1 := d.host.nss.foldl (fun a n => if n.2.fmt = .none then a else setFormat n.1 .none 0 0 (finishWalk n.1 a)) d
  let asked := ((d.host.waits.filter mine).map (fun w => (w.cntlid, w.cid))).eraseDups
  asked.foldl (fun a w => answerAdmin w.1 w.2 (gen 0x1D) 0 a)
    { d1 with host.formatDrain := [], host.waits := d1.host.waits.filter (fun w => !mine w) }

/-- Bays of members: every roster position with a drive that serves, and every spare. -/
def memberBaysUp (d : Dev) : List Nat :=
  ((d.shelf.labels.flatMap (fun l => l.2.roster.map (fun r => r.2.bay)) ++ d.shelf.spares).eraseDups).filter (driveUp d)

/-- Every row becomes FREE, with the pages and credits of the writes behind them (R236 step 3). -/
def freeAllRows (d : Dev) : Dev :=
  let d1 := d.adm.cmds.foldl (fun a e => resumePages (returnCredits e.2.cove e.2.credits e.2.space (releasePages (e.2.pages.filterMap id) a)))
    { d with adm.cmds := [] }
  let d2 := d1.str.rows.foldl (fun a e => if e.2.inJournal then freeEntry e.2 a else a) d1
  let d3 := d2.str.rows.foldl (fun a e => freeRow e.2 a) d2
  { d3 with str.map := [], str.unknownNs := [], str.shadow := [], str.overlays := [], str.deferred := [], str.cached := [], str.fetching := [], str.dir := []
            str.ckptMap := [], str.ckpt := none, str.recordQueue := [], str.shallows := [], shelf.lostSlots := [], shelf.scanOnly := [], shelf.scanPassed := []
            host.nss := tall d3.host.nss (fun n => { n with oldMap := [] }) }

/-- Step 3 of a Sanitize (R236): keys, maps, rows, caches and the Lost Range log. -/
def sanErase (d : Dev) : Dev :=
  let d1 := d.host.nss.foldl (fun a n => unmapAll n.1 (rotateKey n.1 a)) d
  dropLost (fun _ => false) (freeAllRows d1)

/-- May step 3 begin: every admitted command terminal, no member command on a row, keys to be drawn (12 R374), and the marks of the
ASNs that it takes durable (05 R146)? -/
def sanReady (d : Dev) : Bool :=
  d.host.sanDrain && decide (liveCmds d = 0) && d.keys.entropyOk && d.host.nss.all (fun n => markStands d n.1) &&
    decide (lsum d.host.nss (fun n => unmapCount n.2) ≤ logFree d) &&
    !d.shelf.cmds.any (fun e => match e.2.op with
      | .readBlock _ => true
      | .writeStrip _ _ _ => true
      | .rebuildWrite _ _ _ => true
      | _ => false)

/-- Send a member its block erase (R236 step 4): Sanitize, or Format NVM with SES 1 where it does not support Sanitize. -/
def eraseMember (bay : Nat) (d : Dev) : Dev :=
  memberIssue bay (if (tget d.shelf.drives bay).any (fun v => !v.sanitizes) then .eraseFormat else .sanitize) d

/-- Is a member command a block erase? -/
def isErase (op : MemberOp) : Bool := op == .sanitize || op == .eraseFormat

/-- Steps 3 and 4 of a Sanitize (R236): for a block erase each member is sent its erase, and STAGE and MAPLOG are zeroed. -/
def runSan (d : Dev) : Dev :=
  if !sanReady d then
    (if d.host.sanDrain ∧ liveCmds d = 0 then d.host.nss.foldl (fun a n => askMark n.1 a) d else d)
  else
    let d1 := sanErase (setSan { d.host.san with step := 3 } { d with host.sanDrain := false })
    if d.host.san.sanact = 2 then
      let d2 := { d1 with str.log := [], str.tailSeq := d1.str.nextSeq, pool.pages := [] }
      (memberBaysUp d2).foldl (fun a b => eraseMember b a) (setSan { d1.host.san with step := 4 } d2)
    else d1

/-- A Sanitize starts (R236 steps 1 and 2); the command completes with it. -/
def startSan (c cid act cdw10 : Nat) (d : Dev) : Dev :=
  let r : SanRecord := { state := 1, sanact := act, step := 1, cdw10 := cdw10 % 2 ^ 32, startS := d.clk.tod.s }
  let d1 := setSan { r with step := 2 } (rejectAll (gen 0x1D) (abandonFormats (setSan r d)))
  let d2 := d1.host.nss.foldl (fun a n => fillWbl n.1 a) { d1 with host.sanDrain := true }
  runSan (succeed c cid d2)

/-- A Sanitize command of one SANACT (R236); another value in CDW10 is an invalid field. -/
def sanitizeAs (act c cid cdw10 : Nat) : Dev → Dev :=
  admin c cid .cove0 (managing c cid (fun d =>
    if cdw10 % 8 ≠ act then badField c cid d
    else if act = 1 then succeed c cid (if d.host.san.state = 3 then setSan { d.host.san with state := 0 } d else d)
    else startSan c cid act cdw10 d))

/-- SANITIZE_CRYPTO_ERASE (R236). -/
def execSanitizeCryptoErase (cntlid cid cdw10 : Nat) (s : State) : Result := onMbox s (sanitizeAs 4 cntlid cid cdw10)

/-- SANITIZE_BLOCK_ERASE (R236). -/
def execSanitizeBlockErase (cntlid cid cdw10 : Nat) (s : State) : Result := onMbox s (sanitizeAs 2 cntlid cid cdw10)

/-- SANITIZE_EXIT_FAILURE (R236). -/
def execSanitizeExitFailure (cntlid cid cdw10 : Nat) (s : State) : Result := onMbox s (sanitizeAs 1 cntlid cid cdw10)

/-- SANITIZE_MEMBER_DONE (R237): MEMBERS_DONE and PERCENT follow, and the member's labels are rewritten; a member that fails
puts the shelf into failure mode. -/
def sanMember (bay : Nat) (good : Bool) (d : Dev) : Dev :=
  let r := d.host.san
  match d.shelf.cmds.find? (fun e => e.2.bay == bay && isErase e.2.op) with
  | none => d
  | some (m, _) =>
    if r.state ≠ 1 ∨ r.step ≠ 4 then d
    else
      let d1 := memberEnd m d
      if !good then setSan { r with state := 3 } d1
      else
        let done := setBit r.membersDone bay
        let n := (memberBaysUp d).length
        let d2 := setSan { r with membersDone := done, percent := min 99 ((bitList done.toNat 32).length * 100 / max n 1) } d1
        match rosterOfBay d2 bay with
        | some (sh, _) => writeLabel sh bay d2
        | none => d2

/-- SANITIZE_MEMBER_DONE (R237). -/
def execSanitizeMemberDone (bay : Nat) (good : Bool) (s : State) : Result := onDev s (sanMember bay good)

/-- SANITIZE_COMPLETE (R236 step 5), once step 3, or step 4 on every member, is done. -/
def sanComplete (d0 : Dev) : Dev :=
  let d := runSan d0
  let r := d.host.san
  let done := r.step == 3 && r.sanact == 4 && !d.host.sanDrain ||
    r.step == 4 && !d.shelf.cmds.any (fun e => isErase e.2.op)
  if r.state = 1 ∧ done then
    postAll { type := 6, info := 1, log := 0x81 } (setSan { r with state := 2, step := 5, percent := 100 } d)
  else d

/-- SANITIZE_COMPLETE (R236). -/
def execSanitizeComplete (s : State) : Result := onDev s sanComplete

/-- What a start does with a Sanitize under way (R237): step 3 whole, or step 4 for the members not done. -/
def resumeSan (d : Dev) : Dev :=
  if d.host.san.state ≠ 1 then d
  else if d.host.san.step < 4 then { d with host.sanDrain := true }
  else (memberBaysUp d).foldl (fun a b => if d.host.san.membersDone.getLsbD b then a else eraseMember b a) d

/-- A namespace in ERASING repeats steps 3 to 5 (R235), and one in DELETING its deletion, once the mark of the ASN that it takes stands (05
R146). -/
def resumeFormat (nsid : Nat) (d : Dev) : Dev :=
  match (tget d.host.nss nsid).map (fun (n : Ns) => n.fmt) with
  | some .erasing => if markStands d nsid then eraseFormat nsid d else askMark nsid d
  | some .deleting => if markStands d nsid then eraseDelete nsid d else askMark nsid d
  | _ => d

/-- What a start does with formats (R235). -/
def resumeFormats (d : Dev) : Dev := d.host.nss.foldl (fun a n => resumeFormat n.1 a) d

/-- ASN_MARK_DURABLE (05 R146): what waited for the mark goes on, a head's assignment, a format, a deletion or a Sanitize. -/
def execAsnMarkDurable (nsid : Nat) (s : State) : Result :=
  onMbox s (fun d => if (tget d.host.nss nsid).any (·.marking) then
    runSan (runFormats (resumeFormat nsid (markDurable nsid d))) else d)

end Sys2Proof.Machine
end

