-- ==== Sys2Proof/Machine/Stops.lean ====
section
/-! DEFINITION. Stopping (03 R89, R90), the reset of the core and what outlives it, and the beginning of bring-up step 1
(15 R442, 10 R313, 18 R501). -/

namespace Sys2Proof.Machine

/-! ## Stopping (03 R89) -/

/-- What the device served is dropped without completion (R89 step 1): associations and their capsules, commands, member
commands in flight, and a mailbox command, which has no effect (18 R501). -/
def dropHosts (d : Dev) : Dev :=
  { d with host.ctrls := [], host.sqs := [], host.waits := [], host.buffersUsed := 0, host.formatDrain := [], host.sanDrain := false,
           host.fwActivating := none, host.admissionHeld := false, host.admissionOpen := false, boot.serving := false,
           net.qps := [], net.contexts := 0, net.landingUsed := 0, adm := {}, shelf.cmds := [],
           pool.waiting := [], pool.held := [], pool.reserveHeld := 0, mhi.mboxBusy := false, mhi.mboxPending := false,
           cove.bindings := tall d.cove.bindings (fun b => { b with assoc := 0 }) }

/-- Every Tide Pool write begun is finished, and no other is (R89 step 2): a failed write whose repeat waits for a page stays unwritten. -/
def finishWrites (d : Dev) : Dev :=
  { d with
    pool.pages := tall (d.pool.pages.filter (fun p => p.2.life != .filling && !d.pool.repeatWaits.contains p.1)) (fun p =>
      if p.life = .writing then { p with life := .staged } else p)
    pool.repeatWaits := [], pool.blockWaits := [] }

/-- The stop of R89, steps 1 to 4, with the key store zeroized at STOPPED (12 R375). Before step 5 of bring-up nothing is
written to the Tide Pool (15 R443), nor to one whose control block does not decode. -/
def stopDevice (d : Dev) : Dev :=
  let d1 := (if d.boot.serving then raiseGlobal 3 else id) (dropHosts d)
  match d.pool.state with
  | .off => d1
  | .failed => d1
  | .stopped => d1
  | _ =>
    let d2 := flushEvents (finishWrites { d1 with pool.state := .stopping })
    zeroizeKeys (writeStopMarker d2)

/-- Step 10 is reached (15 R442): the START event gives the boot count, the firmware VERSION and the Chart's SEQUENCE (17 R484). -/
def toStep10 (d : Dev) : Dev :=
  if d.boot.step = 10 then d
  else setStep 10 (logEvent 0 1 0 (payload ((d.pool.control.map (·.bootCount)).getD 0) d.mhi.fwVersion d.chart.runSeq 0) d)

/-- A step of bring-up cannot complete (15 R443): its code, and its FAULT event. -/
def bringupFail (code : Nat) (d : Dev) : Dev := judgeAlert (logEvent 0 2 2 (payload 0 0 code 0) { d with boot.code := code })

/-! ## Reset (19 R523, R524) -/

/-- The Tide Pool as a reset leaves it: its contents and what they record (03 R68 to R75, R91). -/
def poolAfterReset (p : PoolSt) : PoolSt :=
  { layout := p.layout, pages := p.pages, lastSlot1 := p.lastSlot1, anchorA := p.anchorA, anchorB := p.anchorB, control := p.control
    controlBad := p.controlBad, remap := p.remap, withdrawn := p.withdrawn, retiredInPlace := p.retiredInPlace, imgUsed := p.imgUsed
    imgClaimed := p.imgClaimed, imgInvalid := p.imgInvalid, marks := p.marks }

/-- Stripes and map as a reset leaves them: what the members, SJOURNAL and MAPLOG hold; HBM is lost (04 R120, R124, R126). An
entry without data keeps the ASN of the MAPLOG record that set it (04 R127), and one in a row of the partner's its own. -/
def stripesAfterReset (x : StripeSt) : StripeSt :=
  let bare := fun (k : Nat) => match tget x.map k with
    | some (.mapped p) => ((tget x.rows (rkey p.shoal p.row)).map (·.slots.isEmpty)).getD true
    | _ => true
  { x with shadow := x.shadow.filter (fun e => bare e.1), deferred := x.deferred.map (fun e => { e with cmd := none }), cached := [], fetching := [], ckpt := none, shallows := [], shallowsMiB := 0
           rows := tall x.rows (fun r => { r with readers := 0, issued := if r.life = .writing then r.issued else 0
                                                  placed := r.placed.map (fun p => { p with cmd := none }) })
           shoals := tall x.shoals (fun h => { h with assembled := false, marking := [], rowsSince := 0, evacPaused := false }) }

/-- The lost-slot table that Lost Range logs give (06 R190, R195): their unresolved entries. -/
def tabSlots (t : Table ShoalLabel) : List (Place × Nat) :=
  t.flatMap (fun e => (e.2.lost.filter (fun x => !x.resolved && !x.dead)).map (fun x =>
    ({ shoal := x.shoal, row := x.row, slot := x.slot }, x.seq)))

/-- The member manager as a reset leaves it: the labels and keeper copies that the members hold (06 R171, 04 R139). What is known only while
it runs is built again from the Lost Range log (06 R195). -/
def shelfAfterReset (x : ShelfSt) : ShelfSt :=
  { labels := x.onMembers, onMembers := x.onMembers, labelCopies := x.labelCopies, keeperCopies := x.keeperCopies, records := x.records
    lostSlots := tabSlots x.onMembers }

/-- Namespaces, reservations and progress records as a reset leaves them (07 R201, R230, R237, 13 R395): a namespace whose creation
had not completed is gone, and registrations do not outlive a reset where PTPL is 0. -/
def hostAfterReset (x : HostSt) : HostSt :=
  { nss := tall (x.nss.filter (fun n => !n.2.creating)) (fun n => { n with keyAvailable := false, marking := false })
    resv := tall x.resv (fun r => if r.ptpl then r else { r with rtype := 0, holder := none, registrants := [] })
    san := x.san }

/-- Coves and bindings as a reset leaves them (11 R349, R355): written-block logs stop, counters restart (13 R405), and a reset
under way is finished as one that ends associations. -/
def coveAfterReset (x : CoveSt) : CoveSt :=
  { tab := tall x.tab (fun r => { r with int := 0, intEn := 0, counters := List.replicate 16 0, freezing := none, exporting := false
                                         resetEnds := true, squashed := false, resetWaits := none, unsettled := false })
    bindings := tall x.bindings (fun b => { b with assoc := 0 }) }

/-- Key records and blobs, which are wrapped, outlive a reset (12 R376, R379, R381, R385). -/
def keysAfterReset (x : KeySt) : KeySt :=
  { nsKeys := x.nsKeys, slots := x.slots, blob0 := x.blob0, blob1 := x.blob1, rotating := x.rotating, rotatePersist := x.rotatePersist
    entropyOk := x.entropyOk }

/-- The pair's state as a reset leaves it: what ADMIN holds, and the always-on domain's fence (13 R392, R393, 19 R525). -/
def pairAfterReset (x : PairSt) : PairSt :=
  { side := x.side, epoch := x.epoch, shelfId := x.shelfId, fenceOut := x.fenceOut, fencingPartner := x.fencingPartner }

/-- Pins, monitors, fuses, straps and the boot record outlive a reset. A device that PFAIL_N stopped starts again at PORST_N only (03 R90). -/
def bootAfterReset (x : Boot) : Boot :=
  { straps := x.straps, started := x.started, porstN := x.porstN, pfailN := x.pfailN, fenceHold := x.fenceHold, tlineHold := x.tlineHold
    junctionHold := x.junctionHold || x.pfailStopped, railsLow := x.railsLow, alwaysOn := x.alwaysOn, clocksStopped := x.clocksStopped, fuses := x.fuses
    recordValid := x.recordValid, nextSlot := x.nextSlot, attempts := x.attempts, lastGood := x.lastGood, recordSeq := x.recordSeq, recordOld := x.recordOld
    flashOld := x.flashOld, torn := x.torn }

/-- The chain interface runs on; what it timed by the elapsed time is now before 0 (15 R451). -/
def tlineAfterReset (now : Nat) (x : TlineSt) : TlineSt :=
  { x with roster := tall x.roster (fun r => { r with at_ := r.at_ - (now : Int) }), query := none }

/-- Bays as a reset leaves them: the bay die keeps every gate, and PERST# is asserted (16 R469). -/
def bayAfterReset (x : BaySt) : BaySt := { bays := tall x.bays (fun b => { b with perst := true }) }

/-- The MHI as a reset leaves it: the endpoint with its MSI-X table resets with the device, and stays only over a restart by
GLOBAL_RESET (R501, R524). -/
def mhiAfterReset (keep : Bool) (x : Mhi) : Mhi :=
  if keep then { temp := x.temp, power := x.power, msixTable := x.msixTable, msixPending := x.msixPending, inReset := x.inReset
                 perstN := x.perstN, restarting := true }
  else { temp := x.temp, power := x.power, inReset := true, perstN := x.perstN }

/-- Reset of the core: every block at its reset values but for what outlives a reset. The output record and the count of
draws are the model's own. -/
def resetCore (keepMhi : Bool) (d : Dev) : Dev :=
  { ev := { slots := d.ev.slots }
    mhi := mhiAfterReset keepMhi d.mhi
    boot := bootAfterReset d.boot
    pair := pairAfterReset d.pair
    pool := poolAfterReset d.pool
    str := stripesAfterReset d.str
    shelf := shelfAfterReset d.shelf
    host := hostAfterReset d.host
    net := { persisted := d.net.persisted }
    cove := coveAfterReset d.cove
    keys := keysAfterReset d.keys
    tline := tlineAfterReset (elapsed d) d.tline
    bay := bayAfterReset d.bay
    out := d.out
    readData := d.readData
    readBytes := d.readBytes
    draws := d.draws }

/-- Stop, and hold in reset. -/
def stopAndHold (d : Dev) : Dev := resetCore false (stopDevice d)

/-! ## Step 1 of bring-up (15 R442) -/

/-- The chain interface starts numbering (15 R455): the head takes address 0; an interface that holds an address keeps it
(R456). -/
def startNumbering (d : Dev) : Dev :=
  if d.boot.straps.tliHead then { d with tline.addr := some 0, tline.head := true, tline.settled := true }
  else { d with tline.head := false, tline.settled := d.tline.addr.isSome }

/-- Bring-up begins at step 1 (R442): the Tide Clock restarts (10 R313), OFF commands of the bays are cleared (16 R469). Nothing
starts while the core is held in reset. -/
def beginStart (d : Dev) : Dev :=
  if coreHeld d then d
  else
    let d1 := { d with boot.started := true, boot.step := 1, boot.code := 0, boot.clocksStopped := false,
                       pair.side := b2n d.boot.straps.pairSide, mhi.inReset := !d.mhi.perstN,
                       bay.bays := tall d.bay.bays (fun b => if b.cmdOff then
                         { b with cmdOff := false, state := if b.state = .off then (if b.prsnt then .insert else .empty) else b.state }
                         else b) }
    startNumbering (clockStart d1)

/-- A restart of the device (18 R501, 13 R406, 07 R243): the stop of R89 and then bring-up from step 1; the straps stand. -/
def restartDevice (keepMhi : Bool) (d : Dev) : Dev := beginStart (resetCore keepMhi (stopDevice d))

end Sys2Proof.Machine
end

