-- ==== Sys2Proof/Machine/ChartEngine.lean ====
section
/-! DEFINITION. The Chart engine: slots at start (02 R48, R49), staging, storing and committing (R51 to R57), and the switch of
each commit group at its epoch boundary (R54, R55, 09 R306). -/

namespace Sys2Proof.Machine

/-! ## Errors and validation (R47, R51, R63, R64) -/

/-- Device address of the staging buffer (R52). -/
def stageBase : Nat := 0x0000004000000000

/-- An ERR code: set with its place, raising ERR (R63 to R65). -/
def chartError (e : ChartErr) (d : Dev) : Dev :=
  raiseChart 1 { d with chart.err := e.code, chart.errSection := e.section_, chart.errField := e.field, chart.errOffset := e.offset }

/-- A write that is ignored (R49, R53, R60). -/
def chartIgnore (code : Nat) (d : Dev) : Dev := chartError { code := code } d

/-- An accepted CHART_CTRL write clears ERR (R62). -/
def chartAccept (d : Dev) : Dev := { d with chart.err := 0, chart.errSection := 0, chart.errField := 0, chart.errOffset := 0 }

/-- Geometry IDs that hold a stripe anywhere on the shelf (R58). -/
def heldGeometries (d : Dev) : List Nat := (d.str.rows.map (fun e => e.2.geometry)).eraseDups

/-- What a staged image is checked against. -/
def stagedEnv (d : Dev) (len : Nat) : ChartEnv :=
  { stageLen := some len, keys := d.boot.fuses.signer, revoked := d.boot.fuses.signerRevoked
    running := if d.chart.inForce.isSome then (chartOf d).shoals else []
    existing := if d.chart.inForce.isSome then some (d.cove.tab.map (·.1)) else none, held := heldGeometries d }

/-- R51: SEQUENCE above the running one, and every restart section as the running image has it. DESIGN CHOICE (log entry 33): FIELD is 0
for error 0x0A, whichever field of the section differs. -/
def checkPatch (d : Dev) (m : Memory) (g : Img) : Option ChartErr :=
  if rdLe g 0x10 4 ≤ d.chart.runSeq then some { code := 6, field := 0x10 }
  else (restartTypes.find? (fun t => !sameSection (imgAt m (chartAddr d d.chart.runSlot)) g t)).map
    (fun t => { code := 0x0A, section_ := t })

/-- The check of a live patch (R47, R51). -/
def checkLive (d : Dev) (m : Memory) (g : Img) (len : Nat) : Except ChartErr Chart :=
  match validate g (stagedEnv d len) with
  | .error e => .error e
  | .ok c => match checkPatch d m g with
    | some e => .error e
    | none => .ok c

/-! ## Slots (R48, R49, R62) -/

/-- SEQUENCE that a slot's stored header counts for (R48). -/
def headerSeq (d : Dev) (m : Memory) (k : Nat) : Nat :=
  let g := imgAt m (chartAddr d k)
  if (checkMagic g).isNone then rdLe g 0x10 4 else 0

/-- The slot that the stored headers prefer (R48). -/
def preferredSlot (d : Dev) (m : Memory) : Nat := if headerSeq d m 0 < headerSeq d m 1 then 1 else 0

/-- The slot that a store or commit writes (R49, R52, R56). -/
def targetSlot (d : Dev) (m : Memory) : Nat := if d.chart.inForce.isSome then 1 - d.chart.runSlot else 1 - preferredSlot d m

/-- Record the validity and SEQUENCE of a slot (R62). -/
def setSlot (k : Nat) (ok : Bool) (seq : Nat) (d : Dev) : Dev :=
  let q := if ok then seq else 0xFFFFFFFF
  if k = 0 then { d with chart.slot0Valid := ok, chart.slot0Seq := q } else { d with chart.slot1Valid := ok, chart.slot1Seq := q }

/-- Put an image into a Chart slot; the rest of the slot is erased (R52). -/
def writeChartSlot (d : Dev) (k : Nat) (bytes : List Byte) (m : Memory) : Memory :=
  mputs (mclear m (chartAddr d k) chartSlotSize) (chartAddr d k) bytes

/-- Start writing a slot: it is erased first, and neither valid nor numbered until its read-back matches (R52, R62). DESIGN CHOICE (log
entry 33): until then, and after a read-back that failed, the slot is wholly erased, and so never preferred. -/
def startSlot (d : Dev) (m : Memory) : Dev × Memory :=
  let k := targetSlot d m
  (setSlot k false 0 { d with chart.state := .writing }, mclear m (chartAddr d k) chartSlotSize)

/-- The bytes being written: the image that the partner sent (R57, 13 R406), else the staging buffer's, which holds the image that was
validated until STATE is IDLE again. -/
def writtenBytes (d : Dev) (m : Memory) : List Byte :=
  if d.chart.partnerHeld then d.chart.partnerImage else mgets m stageBase d.chart.imageLen

/-- The slot write and its read-back end: the image stands in its slot, or the slot stays invalid (R52). -/
def endSlot (ok : Bool) (d : Dev) (m : Memory) : Dev × Memory :=
  let k := targetSlot d m
  let b := writtenBytes d m
  if ok then (setSlot k true (leNum ((b.drop 0x10).take 4)) d, writeChartSlot d k b m)
  else (setSlot k false 0 d, mclear m (chartAddr d k) chartSlotSize)

/-! ## Staging (R52, R53, R57, R60) -/

/-- Is more than one of bits [2:0] of a CHART_CTRL write set (R60)? -/
def chartCtrlBad (v : Reg) : Bool := decide (1 < (bitList v.toNat 3).length)

/-- A chunk of CONFIG KIND 7 (log entry 19): a mirror frame of a pair, else a frame of the Chart exchange (13 R399, R406). -/
def sendChunk (body : List Byte) (d : Dev) : Dev :=
  if mirrors d then mirrorConfig 7 body d else straitSend { type := 8, payload := leBytes 7 1 ++ leBytes 0 7 ++ body } d

/-- The image in the chunks of CONFIG KIND 7 (R57, log entry 19): offset, last, and up to 4,096 bytes. -/
def sendChunks (b : List Byte) (off : Nat) : Nat → Dev → Dev
  | 0, d => d
  | n + 1, d =>
    let c := (b.drop off).take 4096
    let last := decide (b.length ≤ off + 4096)
    let d1 := sendChunk (leBytes off 4 ++ leBytes (b2n last) 4 ++ c) d
    if last then d1 else sendChunks b (off + 4096) n d1

/-- Does a patch go to a partner: on the ACTIVE side (R57)? -/
def paired (d : Dev) : Bool := d.pair.role == .active && d.pair.partner == 2

/-- A write of CHART_CTRL.STAGE (R52): with no running Chart, on the STANDBY side or in a mixed pair it is ignored. DESIGN CHOICE (log
entry 33): a write refused under R57 sets CHART_INT.ERR (R65) as one ignored under R53 does. -/
def chartStage (v : Reg) (d : Dev) (m : Memory) : Dev :=
  if chartCtrlBad v ∨ d.chart.state ≠ .idle ∨ d.chart.inForce.isNone ∨ d.pair.role = .standby ∨ d.pair.mixed then chartIgnore 0x0B d
  else
    let d1 := chartAccept { d with chart.state := .checking, chart.storing := false, chart.partnerStaged := false,
                                   chart.commitWaits := false, chart.imageLen := d.chart.stageLen, chart.partnerHeld := false }
    if paired d1 then sendChunks (mgets m stageBase d1.chart.imageLen) 0 1025 d1 else d1

/-- CHART_CTRL_STAGE (R52). -/
def execChartCtrlStage (v : Reg) (s : State) : Result := onDevMem s (fun d m => whenReg (fun x => chartStage (v ||| 1#32) x m) d)

/-- Drop a patch: the shadow values go, and STATE is IDLE. -/
def dropPatch (d : Dev) : Dev :=
  { d with chart.shadow := none, chart.state := .idle, chart.partnerStaged := false, chart.commitWaits := false, chart.stageSeq := 0,
           chart.partnerImage := [], chart.partnerHeld := false, chart.adopt := 0 }

/-- A patch is STAGED (R52): shadow values and CHART_STAGE_SEQ. -/
def stagePatch (c : Chart) (d : Dev) : Dev := { d with chart.shadow := some c, chart.stageSeq := c.sequence, chart.state := .staged }

/-- The commit of R52 step 4 begins. -/
def startCommit (d : Dev) (m : Memory) : Dev × Memory := startSlot { d with chart.commitWaits := false } m

/-- What the partner did with the image (R57): staged it, which a commit may have waited for, or refused it. -/
def partnerAnswer (p : Option Bool) (d : Dev) (m : Memory) : Dev × Memory :=
  match p with
  | none => (d, m)
  | some false => (chartError { code := 0x0E } (dropPatch d), m)
  | some true =>
    let d1 := { d with chart.partnerStaged := true }
    if d1.chart.commitWaits then startCommit d1 m else (d1, m)

/-- Validation ends (R52 step 3), or the partner's answer to an image that is STAGED here arrives (R57). -/
def checkDone (p : Option Bool) (d : Dev) (m : Memory) : Dev × Memory :=
  match d.chart.state with
  | .checking => match checkLive d m (imgAt m stageBase) d.chart.imageLen with
    | .error e => (chartError e (dropPatch d), m)
    | .ok c => partnerAnswer p (raiseChart 0 (stagePatch c d)) m
  | .staged => if paired d then partnerAnswer p d m else (d, m)
  | _ => (d, m)

/-- A write of CHART_CTRL.STORE (R56): the image is validated under R47 with a SEQUENCE above the running one, or any with no
running Chart, and its slot write starts. -/
def chartStore (v : Reg) (d : Dev) (m : Memory) : Dev × Memory :=
  if chartCtrlBad v ∨ d.chart.state ≠ .idle then (chartIgnore 0x0B d, m)
  else
    let d1 := chartAccept { d with chart.storing := true, chart.imageLen := d.chart.stageLen, chart.partnerHeld := false }
    let g := imgAt m stageBase
    match validate g (stagedEnv d1 d1.chart.imageLen) with
    | .error e => (chartError e { d1 with chart.storing := false }, m)
    | .ok c =>
      if d1.chart.inForce.isSome ∧ c.sequence ≤ d1.chart.runSeq then
        (chartError { code := 6, field := 0x10 } { d1 with chart.storing := false }, m)
      else startSlot { d1 with chart.stageSeq := c.sequence } m

/-- CHART_CTRL_STORE (R56). -/
def execChartCtrlStore (v : Reg) (s : State) : Result := onBoth s (fun d m => if blocksOpen d then chartStore (v ||| 2#32) d m else (d, m))

/-- A stored slot's write and read-back end (R56). An image that the Chart exchange of 13 R406 stored restarts a joining side, and
makes the pair of a serving side mixed. -/
def storeDone (ok : Bool) (d : Dev) (m : Memory) : Dev × Memory :=
  if d.chart.state ≠ .writing ∨ !d.chart.storing then (d, m)
  else
    let (d1, m1) := endSlot ok d m
    let d2 := { d1 with chart.state := .idle, chart.storing := false, chart.adopt := 0, chart.partnerImage := []
                        chart.partnerHeld := false }
    if !ok then (chartError { code := 0x0D } { d2 with chart.stageSeq := 0 }, m1)
    else if d.chart.adopt = 2 then (restartDevice false (raiseChart 0 d2), m1)
    else if d.chart.adopt = 3 then (raiseChart 0 { d2 with pair.mixed := true }, m1)
    else (raiseChart 0 d2, m1)

/-- A write of CHART_CTRL.DISCARD (R53). -/
def chartDiscard (v : Reg) (d : Dev) : Dev :=
  if chartCtrlBad v ∨ d.chart.state ≠ .staged then chartIgnore 0x0B d else dropPatch (chartAccept d)

/-- A write of CHART_COMMIT (R52 step 4): while a partner is still to stage the patch, it waits (R57). DESIGN CHOICE (log entry 33): the
same write on a STANDBY side that is STAGED begins a commit of that side's own. -/
def chartCommit (v : Reg) (d : Dev) (m : Memory) : Dev × Memory :=
  if d.chart.inForce.isNone ∨ d.chart.state ≠ .staged then (chartIgnore 0x0B d, m)
  else if v.toNat ≠ d.chart.stageSeq then (chartIgnore 0x0C d, m)
  else if (d.pair.partner = 1 ∨ paired d) ∧ !d.chart.partnerStaged then ({ d with chart.commitWaits := true }, m)
  else startCommit d m

/-- CHART_COMMIT (R52). -/
def execChartCommit (v : Reg) (s : State) : Result := onBoth s (fun d m => if blocksOpen d then chartCommit v d m else (d, m))

/-- A commit that waited for a partner goes ahead alone once no partner is there (R53, R57). -/
def resumeCommit (d : Dev) (m : Memory) : Dev × Memory :=
  if d.chart.commitWaits ∧ d.chart.state = .staged ∧ d.pair.partner = 0 then startCommit d m else (d, m)

/-- A role change (R53): a STAGED patch, or one in CHECKING, is discarded with a WARN event and ERR 0x0B. -/
def chartRoleChange (d : Dev) : Dev :=
  if d.chart.state = .staged ∨ d.chart.state = .checking then
    chartError { code := 0x0B } (logEvent 1 2 1 (payload 0 0 0x0B 0) (dropPatch d))
  else d

/-! ## Commit groups (R54) -/

/-- The effective record of a Cove in a Chart; 0xFFFF is the template (R36). -/
def coveIn (c : Chart) (k : Nat) : CoveCfg :=
  if k = 0xFFFF then c.template else (c.coves.find? (fun r => r.cove == k)).getD c.template

/-- Change the record of a Cove in a Chart. A Cove that followed the template takes a record of its own for the group. -/
def setCoveIn (k : Nat) (f : CoveCfg → CoveCfg) (c : Chart) : Chart :=
  if k = 0xFFFF then { c with template := f c.template }
  else if c.coves.any (fun r => r.cove == k) then { c with coves := c.coves.map (fun r => if r.cove = k then f r else r) }
  else { c with coves := c.coves ++ [f { c.template with cove := k }] }

/-- The effective record of a bay in a Chart (R44). -/
def bayIn (c : Chart) (b : Nat) : BayCfg := (c.bays.find? (fun r => r.bay == b)).getD { c.bayDefault with bay := b }

/-- The gate list of a port in a Chart (R38). -/
def gatesIn (c : Chart) (p : Nat) : Option GateList := c.gates.find? (fun l => l.port == p)

/-- Every commit group of a change from one Chart to another (R54). DESIGN CHOICE (log entry 33): the groups of one commit switch in the
order listed here; the spec fixes none. -/
def allGroups (o n : Chart) : List CommitGroup :=
  let cs := 0xFFFF :: ((o.coves ++ n.coves).map (·.cove)).eraseDups
  List.flatten
    [[.shoalStructure, .breakwaterShares], cs.map .coveShaper, cs.map .coveCommandPolicer, cs.map .coveBytePolicer,
      cs.map .coveAttributes, (List.range 8).map .portClasses, [.fabricClasses], (List.range 8).map .gateList,
      [.pacing, .lighthousePolicy, .eventClasses], (List.range 32).map .bayLimits, [.rampConcurrency, .pairPolicy, .storageTiming]]

/-- A Chart with one group's fields taken from another (R54). -/
def switchFields (g : CommitGroup) (n o : Chart) : Chart :=
  match g with
  | .shoalStructure => { o with spareBays := n.spareBays, shoals := n.shoals }
  | .breakwaterShares =>
    let cs := ((o.coves ++ n.coves).map (·.cove)).eraseDups
    (0xFFFF :: cs).foldl (fun c k => setCoveIn k (fun r => { r with floor := (coveIn n k).floor, cap := (coveIn n k).cap }) c) o
  | .coveShaper k => setCoveIn k (fun r => let x := coveIn n k
      { r with shCir := x.shCir, shCbs := x.shCbs, shPir := x.shPir, shPbs := x.shPbs }) o
  | .coveCommandPolicer k => setCoveIn k (fun r => let x := coveIn n k
      { r with cmdCir := x.cmdCir, cmdCbs := x.cmdCbs, cmdPir := x.cmdPir, cmdPbs := x.cmdPbs }) o
  | .coveBytePolicer k => setCoveIn k (fun r => let x := coveIn n k
      { r with byteCir := x.byteCir, byteCbs := x.byteCbs, bytePir := x.bytePir, bytePbs := x.bytePbs }) o
  | .coveAttributes k => setCoveIn k (fun r => let x := coveIn n k
      { r with flags := x.flags, qpQuota := x.qpQuota, nsQuota := x.nsQuota, tclass := x.tclass, weight := x.weight }) o
  | .portClasses p => { o with classes := setNth o.classes p (n.classes.getD p {}) }
  | .fabricClasses => { o with prismWeights := n.prismWeights, housekeepingClass := n.housekeepingClass }
  | .gateList p => { o with gates := (o.gates.filter (fun l => l.port != p)) ++ (gatesIn n p).toList }
  | .pacing => { o with tide := n.tide, light := { o.light with rebuildMin := n.light.rebuildMin, rebuildMax := n.light.rebuildMax
                                                                ebbMin := n.light.ebbMin, ebbMax := n.light.ebbMax } }
  | .lighthousePolicy => { o with light := { o.light with mode := n.light.mode, borrow := n.light.borrow, waAtPress := n.light.waAtPress
                                                          borrowMax := n.light.borrowMax, heatAdmit := n.light.heatAdmit } }
  | .eventClasses => { o with events := n.events }
  | .bayLimits b => { o with bays := (o.bays.filter (fun r => r.bay != b)) ++ [bayIn n b] }
  | .rampConcurrency => { o with maxRamping := n.maxRamping }
  | .pairPolicy => { o with pair := n.pair }
  | .storageTiming => { o with storage := n.storage }

/-- A Chart in which every Cove of either has a record of its own, with the values it has in the first: no Cove follows another's
switch while the groups of one commit change over (R54). -/
def ownRecords (o n : Chart) : Chart :=
  { o with coves := (((o.coves ++ n.coves).map (·.cove)).eraseDups).map (fun k => { coveIn o k with cove := k }) }

/-- The groups in which two Charts differ: those whose switch changes a value. -/
def changedGroups (o n : Chart) : List CommitGroup :=
  (allGroups o n).filter (fun g => match g with
    | .shoalStructure => decide (o.shoals ≠ n.shoals ∨ o.spareBays ≠ n.spareBays)
    | .breakwaterShares => (0xFFFF :: ((o.coves ++ n.coves).map (·.cove))).any (fun k =>
        (coveIn o k).floor != (coveIn n k).floor || (coveIn o k).cap != (coveIn n k).cap)
    | .gateList p => decide (gatesIn o p ≠ gatesIn n p)
    | .bayLimits b => decide (bayIn o b ≠ bayIn n b)
    | g => decide (switchFields g n o ≠ switchFields g o o))

/-! ### What a switch does to work under way -/

/-- A bucket clipped to new bursts (10 R331). -/
def clip (b full : Buckets) : Buckets := { b with cTok := min b.cTok full.cTok, pTok := min b.pTok full.pTok }

/-- Every shaper refilled at its old rates and clipped to its new bursts (10 R331). -/
def reshape (o : Dev) (d : Dev) : Dev :=
  let now := elapsed d
  { d with sched.links := tall d.sched.links (fun l => { l with shapers := l.shapers.map (fun e =>
      (e.1, clip (shaperNow (coveCfg o e.1) e.2 now) (shaperFull (coveCfg d e.1) now))) }) }

/-- Every policer likewise (10 R336). -/
def repolice (o : Dev) (d : Dev) : Dev :=
  let now := elapsed d
  { d with
    sched.cmdPolicer := d.sched.cmdPolicer.map (fun e =>
      (e.1, clip (cmdNow (coveCfg o e.1) e.2 now) (cmdFull (coveCfg d e.1) now)))
    sched.bytePolicer := d.sched.bytePolicer.map (fun e =>
      (e.1, clip (byteNow (coveCfg o e.1) e.2 now) (byteFull (coveCfg d e.1) now))) }

/-- Coves whose CAP was cut: SETTLED is raised at once, or when held pages first fall to CAP (11 R348). -/
def settleCuts (o : Dev) (d : Dev) : Dev :=
  d.cove.tab.foldl (fun a e =>
    if (coveCfg d e.1).cap < (coveCfg o e.1).cap then
      if (tget d.pool.held e.1).getD 0 ≤ (coveCfg d e.1).cap then raiseCove e.1 1 a
      else modCove e.1 (fun r => { r with unsettled := true }) a
    else a) d

/-- A roster by the positions of a new geometry (04 R101, R141): a bay marked EVACUATING keeps its entry beside the positions, in
state EVACUATING, until no stripe uses it. -/
def reindexRoster (o n : ShoalCfg) (roster : Table RosterEntry) : Table RosterEntry :=
  roster.foldl (fun t e =>
    let home := (memberBays o).getD e.1 e.2.bay
    if 32 ≤ e.1 then tput t e.1 e.2
    else match (memberBays n).findIdx? (· == home) with
      | some i => tput t i e.2
      | none => tput t (32 + home) { e.2 with state := if e.2.state = .online then .evacuating else e.2.state }) []

/-- The position of a label record in a new geometry: that of its bay, or 32 + bay where the geometry names the bay no more, whose old
stripes still need the record (04 R141). -/
def newPos (o n : ShoalCfg) (pos : Nat) : Nat :=
  if 32 ≤ pos then pos
  else match (memberBays o)[pos]? with
    | some b => ((memberBays n).findIdx? (· == b)).getD (32 + b)
    | none => pos

/-- A label by the positions of a new geometry. -/
def reindexLabel (o n : ShoalCfg) (l : ShoalLabel) : ShoalLabel :=
  { l with
    roster := reindexRoster o n l.roster
    subst := l.subst.map (fun u => { u with pos := newPos o n u.pos })
    resync := l.resync.map (fun r => { r with pos := newPos o n r.pos }) }

/-- Times and waits by position, by the positions of a new geometry. -/
def reindexTimes (sh : Nat) (o n : ShoalCfg) (t : Table Nat) : Table Nat :=
  t.foldl (fun a e => if e.1 / 64 = sh then tput a (posKey sh (newPos o n (e.1 % 64))) e.2 else tput a e.1 e.2) []

/-- Drives present in bays that a geometry adds join as new members (06 R172, R188), unless they would lower ROWS or lack the LBA
format (04 R101, R107). -/
def joinAdded (sh : Nat) (n : ShoalCfg) (d : Dev) : Dev :=
  ((memberBays n).zipIdx).foldl (fun a e =>
    match tget a.shelf.drives e.1 with
    | none => a
    | some v =>
      if (tget (labelOf a sh).roster e.2).isSome ∨ (rosterOfBay a e.1).isSome then a
      else if n.metaMode = 0 ∧ !v.ext64 then logEvent 3 6 1 (payload e.1 sh 0 0) a
      else if tooSmall a sh v.capacity then logEvent 4 0x0A 1 (payload e.1 sh 0 0) a
      else joinRebuild sh e.2 { bay := e.1, serial := v.serial, capacity := v.capacity, ext64 := v.ext64 } a) d

/-- Open stripes of a Shoal. -/
def openStripes (d : Dev) (sh : Nat) : List Stripe :=
  (d.str.rows.filter (fun e => e.2.shoal == sh && e.2.life == .opened)).map (·.2)

/-- A Shoal takes a record of SHOALS (04 R140, R141): a new Shoal forms; a new geometry seals the open stripes of the old one,
re-numbers the roster and takes drives in; bays newly marked EVACUATING change state. -/
def switchShoal (n : ShoalCfg) (d : Dev) : Dev :=
  match shoalOf d n.shoal with
  | none =>
    let d1 := { d with str.shoals := tput d.str.shoals n.shoal { cfg := n } }
    if d.boot.step = 10 then formShoal n.shoal d1 else d1
  | some st =>
    if st.cfg.geometryId = n.geometryId then recomputeRows n.shoal (modShoal n.shoal (fun x => { x with cfg := n }) d)
    else
      let o := st.cfg
      let d1 := (openStripes d n.shoal).foldl (fun a s => sealOrWait 2 s a) d
      let d2 := modShoal n.shoal (fun x => { x with cfg := n, olds := o :: x.olds.filter (fun g => g.geometryId != n.geometryId) }) d1
      let d3 := setLabel n.shoal (reindexLabel o n (labelOf d2 n.shoal)) { d2 with
        shelf.absentAt := reindexTimes n.shoal o n d2.shelf.absentAt
        shelf.foldedAt := reindexTimes n.shoal o n d2.shelf.foldedAt
        shelf.foldWaits := d2.shelf.foldWaits.map (fun w => if w.1 = n.shoal then (w.1, newPos o n w.2) else w)
        shelf.substWaits := d2.shelf.substWaits.map (fun w => if w.1 = n.shoal then (w.1, newPos o n w.2) else w) }
      let d4 := changeKeeper n.shoal (keepersOf d2 n.shoal) d3
      let d5 := recomputeRows n.shoal (joinAdded n.shoal n d4)
      releaseGeometry n.shoal o.geometryId (endEvacuations n.shoal d5)

/-- The Shoal structure group, after its fields have switched. -/
def switchShoals (d : Dev) : Dev := resumeSubsts ((chartOf d).shoals.foldl (fun a n => switchShoal n a) d)

/-- One commit group switches at an epoch boundary (R54, R55). -/
def switchGroup (g : CommitGroup) (d : Dev) : Dev :=
  match d.chart.shadow with
  | none => d
  | some n =>
    let d1 := { d with chart.inForce := some (switchFields g n (chartOf d)), chart.groupsLeft := d.chart.groupsLeft.erase g }
    match g with
    | .shoalStructure => switchShoals d1
    | .breakwaterShares => retestHeads (judgeFloors (settleCuts d d1))
    | .coveShaper _ => reshape d d1
    | .coveCommandPolicer _ => repolice d d1
    | .coveBytePolicer _ => repolice d d1
    | .gateList p => { d1 with sched.gates := tput d1.sched.gates p { gatesOf d1 p with waiting := some (gatesIn n p) } }
    | .pacing => recompute d1
    | .lighthousePolicy => aroundAll d1
    | _ => d1

/-- The next table change or commit group: it waits until fewer than four epochs are live, then the epoch advances, and older versions that
no live epoch uses are retired (09 R306). -/
def epochAdvance (d : Dev) : Dev :=
  match d.prism.changes with
  | [] => d
  | c :: rest =>
    if 4 ≤ liveEpochs d then d
    else
      let d0 := { d with prism.changes := rest, prism.epoch := d.prism.epoch + 1 }
      let d1 := { d0 with prism.versions := (d0.prism.versions ++ [(c, d0.prism.epoch)]).filter (fun v => olderLive d0 v.2) }
      match c with
      | .group g => switchGroup g d1
      | _ => d1

/-- TABLE_EPOCH_ADVANCE (09 R306). -/
def execTableEpochAdvance (s : State) : Result := onDev s epochAdvance

/-! ## The switch (R52 steps 5 and 6, R57) -/

/-- Every group switches from here on. -/
def startSwitch (d : Dev) : Dev :=
  match d.chart.shadow with
  | none => d
  | some n =>
    let o := ownRecords (chartOf d) n
    let gs := changedGroups o n
    { d with chart.inForce := some o, chart.groupsLeft := gs, chart.pairWait := false, prism.changes := d.prism.changes ++ gs.map .group }

/-- The read-back of a commit ends (R52, R57). The STANDBY side writes its own flash with a patch that it holds STAGED; both sides
of a pair wait for the instant that the ACTIVE side names. -/
def readbackDone (ok : Bool) (d : Dev) (m : Memory) : Dev × Memory :=
  let begun := d.chart.state == .writing && !d.chart.storing
  if !begun ∧ !(d.pair.role = .standby ∧ d.chart.state = .staged) then (d, m)
  else
    let (d1, m1) := endSlot ok d m
    if !ok then
      (chartError { code := 0x0D } (logEvent 1 2 1 (payload 0 0 0x0D 0) (dropPatch d1)), m1)
    else
      let d2 := { d1 with chart.state := .switching }
      (if d2.pair.partner = 2 ∧ (d2.chart.partnerHeld ∨ d2.chart.partnerStaged) then { d2 with chart.pairWait := true }
        else startSwitch d2, m1)

/-- CHART_PAIR_SWITCH (R57): the instant that the ACTIVE side named. -/
def execChartPairSwitch (s : State) : Result :=
  onDev s (fun d => if d.chart.state = .switching ∧ d.chart.pairWait then startSwitch d else d)

/-- Every group has switched (R52 step 6): the image's slot now holds the running Chart. -/
def switchDone (d : Dev) : Dev :=
  match d.chart.shadow with
  | none => d
  | some n =>
    if d.chart.state ≠ .switching ∨ d.chart.pairWait ∨ !d.chart.groupsLeft.isEmpty then d
    else
      let old := d.chart.runSeq
      let d1 := { d with chart.inForce := some n, chart.shadow := none, chart.state := .idle, chart.runSeq := n.sequence,
                         chart.runSlot := 1 - d.chart.runSlot, chart.fallback := false, chart.partnerStaged := false, chart.stageSeq := 0,
                         chart.partnerImage := [], chart.partnerHeld := false, chart.adopt := 0 }
      logEvent 1 1 0 (payload 0 old n.sequence 0) (raiseChart 0 d1)

/-! ## The partner's side (R57) -/

/-- What becomes of a whole image from the partner (R57, 13 R406): it is held STAGED, adopted by commit, or stored; one that fails
its validation is dropped. -/
def chartArrived (g : Img) (len : Nat) (d : Dev) (m : Memory) : Dev × Memory :=
  let drop := fun (e : ChartErr) => (chartError e { d with chart.partnerImage := [], chart.adopt := 0 }, m)
  let h := { d with chart.partnerHeld := true }
  if d.chart.adopt < 2 then match checkLive d m g len with
    | .error e => drop e
    | .ok c => if d.chart.adopt = 0 then (raiseChart 0 (stagePatch c h), m) else startCommit (stagePatch c h) m
  else match validate g (stagedEnv d len) with
    | .error e => drop e
    | .ok c => if c.sequence ≤ d.chart.runSeq then drop { code := 6, field := 0x10 }
        else startSlot { h with chart.stageSeq := c.sequence, chart.storing := true } m

/-- A chunk of a Chart image from the partner: its bytes in place; the last one ends the image, which is validated under R47 and
R51. -/
def chartChunk (off : Nat) (last : Bool) (bytes : List Byte) (d : Dev) (m : Memory) : Dev × Memory :=
  let d0 := if off = 0 ∧ d.chart.state = .staged ∧ d.pair.role = .standby then dropPatch d else d
  if d0.chart.partnerHeld then (d0, m)
  else
  let img := d0.chart.partnerImage.take off ++ bytes
  let d1 := { d0 with chart.partnerImage := img }
  if !last ∨ d1.chart.state ≠ .idle ∨ d1.chart.inForce.isNone then (d1, m)
  else chartArrived (fun o => ((img[o]?).map (·.toNat)).getD 0) img.length d1 m

end Sys2Proof.Machine
end

