-- ==== Sys2Proof/Machine/Replay.lean ====
section
/-! DEFINITION. The replay part of recovery (03 R91 steps 5 to 10, R93), the dirty-region scan (04 R120, R121, R133), what
counters resume at (04 R116, 05 R147), and the mirrored SJOURNAL and MAPLOG units that a partner's replay reads (13 R404,
R413). -/

namespace Sys2Proof.Machine

/-! ## Counters that resume (04 R116, 05 R147) -/

/-- The highest generation of a Shoal in the MAPLOG header, SJOURNAL and MAPLOG (04 R116). -/
def highestGen (d : Dev) (sh : Nat) : Nat :=
  let j := (d.str.rows.filter (fun e => e.2.shoal == sh && e.2.inJournal)).map (fun e => e.2.gen)
  let l := (d.str.log.filter (fun r => r.type == 5 && (r.phys.map (·.shoal)) == some sh)).map (·.start)
  (j ++ l).foldl max ((tget d.str.ckptShoalGen sh).getD 0)

/-- Generation counters resume at the highest generation found plus 2^20 (04 R116). -/
def resumeGens (d : Dev) : Dev :=
  { d with str.shoals := d.str.shoals.map (fun e => (e.1, { e.2 with gen := max e.2.gen (highestGen d e.1 + 2 ^ 20) })) }

/-- ASN counters resume at the last mark plus 2^20, to be written as a mark before its first use (05 R146, R147). A namespace
without a mark has assigned no ASN. -/
def resumeAsns (d : Dev) : Dev :=
  { d with host.nss := d.host.nss.map (fun e => match tget d.pool.marks e.1 with
      | some m => (e.1, { e.2 with nextAsn := m + 2 ^ 20, mustMark := true, marking := false, resumes := e.2.resumes + 1 })
      | none => (e.1, { e.2 with marking := false })) }

/-! ## The dirty-region scan (R93, 04 R120, R121, R133) -/

/-- Is a stripe complete in the sense of 04 R121: do all its data and parity strips show its generation, which is above the checkpoint's? A
strip whose write was in flight at the stop stands on its member or not: the spec leaves it open (log entry 3). -/
def stripeWhole (s : Stripe) (d : Dev) : Bool × Dev :=
  let left := (writtenPos (stripeGeom d s) s.row).filter (fun p => !s.done.getLsbD p)
  if s.gen ≤ (tget d.str.ckptShoalGen s.shoal).getD 0 ∨ left.any (fun p => !s.issued.getLsbD p) then (false, d)
  else if left.isEmpty then (true, d)
  else
    let (v, d1) := openValue d
    (v % 2 == 0, d1)

/-- What the scan makes of a row whose entry is not LIVE (04 R121): complete, and so durable, or torn. -/
def scanRow (s : Stripe) (d : Dev) : Dev :=
  match s.life with
  | .committed => d
  | .opened => d
  | .abandoned => d
  | _ =>
    let (whole, d1) := stripeWhole s d
    setRow { s with life := if whole then .durable else .sealed } d1

/-- The scan of a Shoal (04 R120): the regions that a keeper's copy on any member that answers marks, or every region, with a FAULT event,
where there is none. -/
def scanShoal (sh : Nat) (d : Dev) : Dev :=
  let kept := newestKeeper d sh
  let d1 := if kept.isSome then d else logEvent 3 1 2 (payload sh 0 0 0) d
  let marked := fun (row : Nat) => kept.all (fun c => c.regions.contains (dirtyRegion row))
  (d1.str.rows.filter (fun e => e.2.shoal == sh && marked e.2.row)).foldl (fun a e => scanRow e.2 a) d1

/-- MAPLOG page of a record (04 R126). -/
def recordPage (d : Dev) (r : LogRec) : Nat := regionStart d.pool.layout .maplog + 8 + logPlace d r.seq / 64

/-- MAPLOG pages whose contents cannot be had: a page of the header only where the other copy is unreadable too (03 R73, 04 R126). -/
def badLog (d : Dev) : List Nat :=
  let start := regionStart d.pool.layout .maplog
  let other := fun (p : Nat) => if p < start + 4 then run (start + 4) 4 else run start 4
  d.pool.logBad.filter (fun p => decide (start + 8 ≤ p) || (other p).any (fun q => d.pool.logBad.contains q))

/-- Does a record stand in a record block of a COMMITTED stripe, or of one that the scan found complete (04 R133)? -/
def inRecordBlock (d : Dev) (r : LogRec) : Bool :=
  d.str.rows.any (fun e => (e.2.life == .committed || e.2.life == .durable) && e.2.slots.any (fun b => match b with
    | some x => x.nsid == 0xFFFFFFFB &&
        (List.range 63).any (fun i => bits x.data (512 * i + 511) (512 * i) == logRecord { r with seq := r.seq })
    | none => false))

/-- Is a record one of those that record blocks copy (04 R133)? -/
def zeroType (r : LogRec) : Bool := r.type == 2 || r.type == 3 || r.type == 8

/-- Records whose only copy an unreadable MAPLOG page held (04 R133). -/
def lostRecords (d : Dev) : List LogRec :=
  d.str.log.filter (fun r => zeroType r && (badLog d).contains (recordPage d r) && !inRecordBlock d r)

/-- Grains of a record that the map or the last checkpoint lists. -/
def recordGrains (d : Dev) (r : LogRec) : List Nat :=
  let n := max (nsGrain d r.nsid) 1
  let a := r.start / n
  (((d.str.map ++ d.str.ckptMap).map (·.1)).eraseDups.filter (fun k =>
    k / 2 ^ 40 == r.nsid && decide (a ≤ k % 2 ^ 40) && decide (k % 2 ^ 40 < a + r.count))).map (fun k => k % 2 ^ 40)

/-- metadata_asn of a mapped place (04 R127): the highest ASN in its blocks' metadata; of a row that this side did not write, `other`. -/
def placeAsn (d : Dev) (n : Nat) (p : Place) (other : Nat) : Nat :=
  match rowAt d p.shoal p.row with
  | some s => if s.slots.isEmpty then other
      else ((s.slots.drop p.slot).take n).foldl (fun a b => max a ((b.map (·.asn)).getD 0)) 0
  | none => other

/-- What a record left in the log makes of a grain's entry and ASN under the rule of recovery (04 R127): a lower ASN, and a MOVE from a place
that the grain has left, are skipped. -/
def foldRecord (d : Dev) (n grain : Nat) (cur : MapEntry × Nat) (r : LogRec) : MapEntry × Nat :=
  let a := r.start / n
  if a ≤ grain ∧ grain < a + max r.count 1 then
    let take := fun (e : MapEntry) (asn : Nat) => if asn < cur.2 then cur else (e, asn)
    match r.type, r.phys with
    | 1, some p =>
      let q : Place := { p with slot := p.slot + (grain - a) * n }
      take (.mapped q) (placeAsn d n q r.asnLo)
    | 2, _ => take .unmapped r.asnLo
    | 3, _ => take .zero r.asnLo
    | 4, _ => take (.lost (entryPlace cur.1)) r.asnLo
    | 6, some p => if r.src.map MapEntry.mapped = some cur.1 then (.mapped p, cur.2) else cur
    | _, _ => cur
  else cur

/-- The effect of a lost record is lost (04 R133): its grains stand as the checkpoint and the other records leave them; a FAULT
event gives its SEQ. -/
def loseRecord (bad : List LogRec) (r : LogRec) (d : Dev) : Dev :=
  let n := max (nsGrain d r.nsid) 1
  let d1 := (recordGrains d r).foldl (fun a g =>
    let e0 := (tget a.str.ckptMap (gkey r.nsid g)).getD .unmapped
    let m0 := match e0 with
      | .mapped p => placeAsn a n p 0
      | _ => 0
    let e := (a.str.log.filter (fun x => x.nsid == r.nsid && !bad.contains x)).foldl (foldRecord a n g) (e0, m0)
    setEntry r.nsid g e.1 a) d
  logEvent 3 2 2 (payload r.seq 0 0 0)
    { d1 with str.overlays := d1.str.overlays.filter (fun o => !(r.type == 8 && o.nsid == r.nsid && o.asn == r.asnLo)) }

/-- What recovery does when SJOURNAL or MAPLOG could not be read in whole, here or at the partner (R93): the dirty-region scan, whose complete
stripes give the records of their record blocks (04 R133); what no record block holds is lost. -/
def scanDirty (d : Dev) : Dev :=
  if d.pool.journalBad.isEmpty ∧ (badLog d).isEmpty then { d with pool.logBad := [] }
  else
    let d1 := d.str.shoals.foldl (fun a e => scanShoal e.1 a) d
    let bad := lostRecords d1
    bad.foldl (fun a r => loseRecord bad r a) { d1 with pool.journalBad := [], pool.logBad := [] }

/-! ## Commands kept in STAGE (R91 step 9, R93) -/

/-- The pages of a kept command, by PAGE_INDEX: one page for each. -/
def keptPages (d : Dev) (g : Nat × Nat) : List (Nat × StagePage) :=
  let mine := d.pool.pages.filter (fun e => e.2.tag.nsid == g.1 && e.2.tag.asn == g.2)
  let n := (mine.head?.map (fun e => e.2.tag.pageCount)).getD 0
  (List.range n).filterMap (fun i => mine.find? (fun e => e.2.tag.pageIndex == i))

/-- Is a block of a kept command in a COMMITTED stripe? -/
def blockCommitted (d : Dev) (t : Tag) : Bool :=
  d.str.rows.any (fun e => e.2.life == .committed && e.2.slots.any (fun b => match b with
    | some x => x.nsid == t.nsid && x.lba == t.lba && x.asn == t.asn
    | none => false))

/-- A kept command that recovery stripes again: completed to its host or to none, in the tracker until its map changes stand. -/
def keptCmd (d : Dev) (g : Nat × Nat) (ps : List (Nat × StagePage)) : Cmd :=
  let lba := (ps.head?.map (fun e => e.2.tag.lba)).getD 0
  let r : Range := { lba := lba, len := ps.length }
  let bad := (ps.filter (fun e => e.2.bad)).map (fun e => e.2.tag.lba / max (nsGrain d g.1) 1)
  { kind := .write, cntlid := 0, sqid := 0, cid := 0, cove := (ps.head?.map (fun e => e.2.tag.cove)).getD 0, nsid := g.1, asn := g.2
    ranges := [r], inTracker := true, key := (ps.head?.map (fun e => e.2.key)).getD 0, pages := ps.map (fun e => some e.1)
    received := 4096 * ps.length, completed := true, settled := true, silent := true
    toPlace := (grainsTouched [r] (max (nsGrain d g.1) 1)).filter (fun x => !bad.contains x) }

/-- A grain that holds a bad block of a kept command (R93): a LOST record of the command's ASN, applied in the command's place, and
an entry of CAUSE 4. -/
def loseKept (nsid asn grain : Nat) (d : Dev) : Dev :=
  let n := max (nsGrain d nsid) 1
  let sh := nsShoal d nsid
  let p := entryPlace (mapGet d nsid grain)
  let d1 := appendLog { type := 4, seq := 0, nsid := nsid, start := grain * n, count := 1, asnLo := asn, asnHi := asn } d
  lostEntry sh { seq := 0, nsid := nsid, count := n, lba := grain * n, asn := asn, cause := 4, resolved := true
                 shoal := p.shoal, row := p.row, slot := p.slot }
    (applyGrain nsid grain (.lost p) asn d1)

/-- One kept command (R91 step 9): its pages are released where its blocks are all committed, or its namespace is gone; else it is
put back for striping. -/
def restripe (g : Nat × Nat) (d : Dev) : Dev :=
  let ps := keptPages d g
  if ps.all (fun e => blockCommitted d e.2.tag) ∨ !thas d.host.nss g.1 then releasePages (ps.map (·.1)) d
  else
    let c := keptCmd d g ps
    let bad := ((ps.filter (fun e => e.2.bad)).map (fun e => e.2.tag.lba / max (nsGrain d g.1) 1)).eraseDups
    let d1 := bad.foldl (fun a x => loseKept g.1 g.2 x a)
      { d with pool.restriped := min (d.pool.restriped +
          (ps.filter (fun e => !bad.contains (e.2.tag.lba / max (nsGrain d g.1) 1))).length) 65535 }
    if c.toPlace.isEmpty then releasePages (ps.map (·.1)) d1
    else { d1 with adm.cmds := tput d1.adm.cmds d1.adm.nextTag c, adm.nextTag := d1.adm.nextTag + 1 }

/-! ## Replay (R91 steps 6 to 10) -/

/-- The blocks that record blocks in abandoned stripes held are copied again (04 R133). -/
def requeueRecords (d : Dev) : Dev :=
  { d with str.recordQueue := d.str.log.filter (fun r => zeroType r && !inRecordBlock d r) }

/-- Map changes that waited for reads at the stop stand in MAPLOG: replay applies them (04 R127). -/
def applyWaiting (d : Dev) : Dev :=
  d.str.deferred.foldl (fun a x => applyGrain x.nsid x.grain x.entry x.asn a) { d with str.deferred := [] }

/-- Steps 7 and 8 of R91: DURABLE stripes are committed; OPEN, SEALED and WRITING ones are abandoned. -/
def settleRow (k : Nat) (d : Dev) : Dev :=
  match tget d.str.rows k with
  | none => d
  | some s => match s.life with
    | .durable => commitStripe s.shoal s.row d
    | .committed => tryFree s.shoal s.row d
    | _ => freeRow s (if s.inJournal then freeEntry { s with life := .abandoned } d else d)

/-- Steps 6 to 8 of R91: the grouping is final, and the stripes in flight are settled. -/
def replayRows (d : Dev) : Dev :=
  let d1 := applyWaiting (scanDirty (resumeGens (finalGrouping { d with pool.state := .replaying, pool.restriped := 0 })))
  requeueRecords ((d1.str.rows.map (·.1)).foldl (fun a k => settleRow k a) d1)

/-- Step 9 of R91: every kept command is put back for striping. -/
def replayKept (d : Dev) : Dev := d.pool.kept.foldl (fun a g => restripe g a) { d with boot.replayHeld := false }

/-- Steps 6 to 9 of R91. Without a KEK replay holds at step 9, the first that needs a key, with code 7 (12 R378, 15 R443). -/
def replay (d : Dev) : Dev :=
  let d1 := replayRows d
  if d1.keys.kek.isNone ∧ !d1.pool.kept.isEmpty then bringupFail 7 { d1 with boot.replayHeld := true } else replayKept d1

/-! ## Mirrored units (13 R404): what the partner's SJOURNAL and MAPLOG say -/

/-- Field of a record: `n` bytes from byte `i`. -/
def recField (x i n : Nat) : Nat := bits x (8 * (i + n) - 1) (8 * i)

/-- Does a 64-byte record carry its CHECK (04 R115, R126)? -/
def recordOk (x : Nat) : Bool := checked (leBytes x 60) == x

/-- STATE of an SJOURNAL entry (04 R115). -/
def numLife : Nat → Option StripeLife
  | 1 => some .opened
  | 2 => some .sealed
  | 3 => some .writing
  | 4 => some .durable
  | 5 => some .committed
  | _ => none

/-- The stripe of an SJOURNAL entry (04 R115), whose blocks this side does not hold (log entry 21). -/
def readJournal (x i : Nat) : Option Stripe :=
  if !recordOk x then none
  else (numLife (recField x 0 1)).map (fun l =>
    { shoal := recField x 1 1, row := recField x 4 4, geometry := recField x 2 1, stream := recField x 3 1 % 8
      sealCause := recField x 3 1 / 16 % 4, gen := recField x 8 8, life := l, inJournal := true, jindex := i, parityDone := true
      done := BitVec.ofNat 32 (recField x 16 4), late := BitVec.ofNat 32 (recField x 20 4), mapSeq := recField x 28 8 })

/-- Store one mirrored SJOURNAL entry: the row that held the entry gives it up; a stripe that ended without commit is gone. -/
def putJournal (i x : Nat) (d : Dev) : Dev :=
  let rows := (d.str.rows.filter (fun e => !(e.2.inJournal && e.2.jindex == i && e.2.life != .committed))).map (fun e =>
    if e.2.inJournal ∧ e.2.jindex = i then (e.1, { e.2 with inJournal := false }) else e)
  match readJournal x i with
  | none => { d with str.rows := rows }
  | some s => { d with str.rows := tput rows (rkey s.shoal s.row) s }

/-- The MAPLOG record of 64 bytes (04 R126). -/
def readLog (x : Nat) : Option LogRec :=
  let t := recField x 0 1
  if !recordOk x ∨ t = 0 ∨ 8 < t then none
  else some
    { type := t, flags := recField x 1 1, mask := recField x 2 2, nsid := recField x 4 4, start := recField x 8 8
      count := recField x 16 4, seq := recField x 48 8, asnLo := recField x 32 8, asnHi := if t = 6 then 0 else recField x 40 8
      phys := if t = 1 ∨ t = 5 ∨ t = 6 ∨ t = 7 then some (numPlace (recField x 24 8)) else none
      src := if t = 6 then some (numPlace (recField x 40 8)) else none }

/-- Put a record into the log in SEQ order. -/
def insertLog (r : LogRec) : List LogRec → List LogRec
  | [] => [r]
  | x :: l => if r.seq < x.seq then r :: x :: l else if r.seq = x.seq then r :: l else x :: insertLog r l

/-- Store one mirrored MAPLOG record. -/
def putLog (x : Nat) (d : Dev) : Dev :=
  match readLog x with
  | none => d
  | some r => if r.seq < d.str.tailSeq then d
      else { d with str.log := insertLog r d.str.log, str.nextSeq := max d.str.nextSeq (r.seq + 1) }

/-- A row that the partner wrote, which a record names: this side holds its place in the map, not its blocks (log entry 21). -/
def partnerRow (p : Place) (geometry gen : Nat) (d : Dev) : Dev :=
  match rowAt d p.shoal p.row with
  | some s => if gen = 0 ∨ s.gen = gen then d
      else setRow { shoal := p.shoal, row := p.row, geometry := geometry, gen := gen, life := .committed } d
  | none => setRow { shoal := p.shoal, row := p.row, geometry := geometry, gen := gen, life := .committed } d

/-- metadata_asn of a grain's entry (04 R127). In a row that this side did not write the drives hold it, a value that the model knows only
where the record that set the entry gave it (log entries 3 and 21). -/
def metadataAsn (nsid grain : Nat) (d : Dev) : Nat × Dev :=
  match mapGet d nsid grain with
  | .mapped p =>
    if (rowAt d p.shoal p.row).any (fun s => !s.slots.isEmpty) ∨ thas d.str.shadow (gkey nsid grain) then (entryAsn d nsid grain, d)
    else openValue d
  | _ => (entryAsn d nsid grain, d)

/-- The ASN that a grain of a run takes (04 R126, R127): a run of several commands gives only the bounds of what the drives hold. -/
def runAsn (r : LogRec) (d : Dev) : Nat × Dev :=
  if r.asnHi ≤ r.asnLo then (r.asnLo, d)
  else
    let (v, d1) := openValue d
    (r.asnLo + v % (r.asnHi - r.asnLo + 1), d1)

/-- A grain takes what a replayed record says, unless it stands at a higher ASN (04 R127). -/
def replayGrain (nsid grain : Nat) (e : MapEntry) (asn : Nat) (d : Dev) : Dev :=
  let (old, d1) := metadataAsn nsid grain d
  if asn < old then d1 else takeGrain nsid grain e asn d1

/-- Replay one record of the partner's MAPLOG (04 R126, R127). -/
def replayRecord (r : LogRec) (d : Dev) : Dev :=
  let n := max (nsGrain d r.nsid) 1
  let g0 := r.start / n
  let gs := if r.type = 2 ∨ r.type = 3 then (recordGrains d r ++ (if r.count ≤ 4096 then run g0 r.count else [])).eraseDups else run g0 r.count
  match r.type with
  | 1 => match r.phys with
    | some p => gs.foldl (fun a g =>
        let (asn, b) := runAsn r a
        replayGrain r.nsid g (.mapped { p with slot := p.slot + (g - g0) * n }) asn b)
        (partnerRow p (curGeom d p.shoal).geometryId 0 d)
    | none => d
  | 2 => gs.foldl (fun a g => replayGrain r.nsid g .unmapped r.asnLo a)
      (if r.start = 0 ∧ decide (((tget d.host.nss r.nsid).map (·.nsze)).getD 0 ≤ r.count * n) then { d with str.unknownNs := d.str.unknownNs.filter (fun x => x != r.nsid) } else d)
  | 3 => gs.foldl (fun a g => replayGrain r.nsid g .zero r.asnLo a) d
  | 4 => gs.foldl (fun a g => replayGrain r.nsid g (.lost (entryPlace (mapGet a r.nsid g))) r.asnLo a) d
  | 5 => match r.phys with
    | some p => partnerRow p r.flags r.start d
    | none => d
  | 6 => match r.phys, r.src with
    | some p, some q => applyMove r.nsid g0 q p (partnerRow p (curGeom d p.shoal).geometryId 0 d)
    | _, _ => d
  | 7 => match r.phys with
    | some p => applyMapClass r.flags r.start p (partnerRow p (curGeom d p.shoal).geometryId 0 d)
    | none => d
  | _ => { d with str.overlays := { nsid := r.nsid, grain := g0, mask := r.mask, asn := r.asnLo }
                    :: d.str.overlays.filter (fun o => !(o.nsid == r.nsid && o.grain == g0 && o.asn == r.asnLo)) }

/-- The mirrored MAPLOG header (04 R126): generation, tail and Shoal generations; the records below the tail are covered by the
checkpoint, and what they say of the map stays. -/
def putHeader (x : Nat) (d : Dev) : Dev :=
  let tail := recField x 8 8
  let d1 := (d.str.log.filter (fun r => decide (r.seq < tail))).foldl (fun a r => replayRecord r a) d
  { d1 with str.log := d1.str.log.filter (fun r => decide (tail ≤ r.seq)), str.tailSeq := max d1.str.tailSeq tail,
            str.nextSeq := max d1.str.nextSeq tail, str.ckptGen := max d1.str.ckptGen (recField x 0 8),
            str.ckptShoalGen := (List.range 4).foldl (fun t i => tput t i (recField x (16 + 8 * i) 8)) d1.str.ckptShoalGen }

/-- Replay of the mirrored MAPLOG from its tail, in SEQ order (04 R126, 13 R413). -/
def replayLog (d : Dev) : Dev := d.str.log.foldl (fun a r => replayRecord r a) d

end Sys2Proof.Machine
end

