-- ==== Sys2Proof/Machine/TlineSend.lean ====
section
/-! DEFINITION. Frames of the Tideline chain: their fields, sending and forwarding (15 R452 to R454). -/

namespace Sys2Proof.Machine

/-! ## Fields (R452) -/

/-- TYPE of a frame. -/
def tlType (w : Word64) : Nat := bits w.toNat 63 60

/-- BCAST. -/
def tlBcast (w : Word64) : Bool := bit w.toNat 59

/-- NUMBERED. -/
def tlNumbered (w : Word64) : Bool := bit w.toNat 58

/-- DST. -/
def tlDst (w : Word64) : Nat := bits w.toNat 57 52

/-- SRC. -/
def tlSrc (w : Word64) : Nat := bits w.toNat 51 46

/-- HOP. -/
def tlHop (w : Word64) : Nat := bits w.toNat 45 40

/-- PAYLOAD. -/
def tlPayload (w : Word64) : Nat := bits w.toNat 39 8

/-- CRC over bits [63:8], most significant byte first (R451, R452). -/
def tlCrc (body : Nat) : Nat := (crc8 ((leBytes (body / 256) 7).reverse)).toNat

/-- A frame with its CRC. -/
def tlFrame (type : Nat) (bcast numbered : Bool) (dst src hop payload : Nat) : Word64 :=
  let body := (type % 16) * 2 ^ 60 + b2n bcast * 2 ^ 59 + b2n numbered * 2 ^ 58 + (dst % 64) * 2 ^ 52 + (src % 64) * 2 ^ 46
    + (hop % 64) * 2 ^ 40 + (payload % 2 ^ 32) * 2 ^ 8
  BitVec.ofNat 64 (body + tlCrc body)

/-- Does a frame's CRC hold (R452)? -/
def tlCrcOk (w : Word64) : Bool := tlCrc (w.toNat / 256 * 256) == w.toNat % 256

/-- A frame as it is forwarded: HOP + 1 and a new CRC (R454). -/
def tlForwarded (w : Word64) : Word64 :=
  tlFrame (tlType w) (tlBcast w) (tlNumbered w) (tlDst w) (tlSrc w) (tlHop w + 1) (tlPayload w)

/-! ## Sending (R454, R455) -/

/-- Is the interface powered: it runs from the controller's own supplies, in reset too (R451)? -/
def tlPowered (d : Dev) : Bool := d.boot.alwaysOn

/-- A frame dropped under R454 or R457 is counted. -/
def tlDrop (d : Dev) : Dev := { d with tline.dropped := satAdd 32 d.tline.dropped 1 }

/-- QUERY, ANSWER, FENCE, UNFENCE and FENCE_ACK are sent ahead of other frames (R454). -/
def tlUrgent (w : Word64) : Bool := decide (6 ≤ tlType w ∧ tlType w ≤ 10)

/-- The frames of a link with one more: behind those of its kind, the urgent ones first (R454). -/
def tlQueued (q : List Word64) (w : Word64) : List Word64 :=
  if tlUrgent w then q.takeWhile tlUrgent ++ w :: q.dropWhile tlUrgent else q ++ [w]

/-- Frames that a link's queue holds (R454). -/
def tlRoom : Nat := 16

/-- Send a frame on a link: true is TLI_OUT. It waits for a free slot; one that finds 16 frames queued is dropped and counted (R454), and
nothing leaves on a link that is down. -/
def tlSend (onOut : Bool) (w : Word64) (d : Dev) : Dev :=
  if tlPowered d ∧ (if onOut then d.tline.outUp else d.tline.inUp) then
    if tlRoom ≤ (if onOut then d.tline.outQ else d.tline.inQ).length then tlDrop d
    else if onOut then { d with tline.outQ := tlQueued d.tline.outQ w } else { d with tline.inQ := tlQueued d.tline.inQ w }
  else d

/-- The NULL frame of this controller (R453, R455). -/
def tlNullOf (d : Dev) : Word64 := tlFrame 0 false d.tline.addr.isSome 0 (d.tline.addr.getD 0) 0 0

/-- The next slot of TLI_OUT (R451, R454): the first frame of its queue, else a NULL frame that is due. -/
def tlSlotOut (d : Dev) : Dev :=
  match d.tline.outQ with
  | w :: r => emit (.tline true w) { d with tline.outQ := r }
  | [] => if d.tline.outNull then emit (.tline true (tlNullOf d)) { d with tline.outNull := false } else d

/-- The next slot of TLI_IN. -/
def tlSlotIn (d : Dev) : Dev :=
  match d.tline.inQ with
  | w :: r => emit (.tline false w) { d with tline.inQ := r }
  | [] => if d.tline.inNull then emit (.tline false (tlNullOf d)) { d with tline.inNull := false } else d

/-- One link cycle (R451): a slot of each link, in reset too. -/
def tlCycle (d : Dev) : Dev := if tlPowered d then tlSlotOut (tlSlotIn d) else d

/-- The 80 bits of a slot: the sync word, then the frame, most significant bit first (R451). -/
def tlSlotBits (w : Word64) : Nat := 0x7E5A * 2 ^ 64 + w.toNat

/-- Originate a broadcast on both links. An unnumbered controller originates only CLAIM (R455). -/
def tlBroadcast (type src payload : Nat) (numbered : Bool) (d : Dev) : Dev :=
  let w := tlFrame type true numbered 0 src 0 payload
  tlSend false w (tlSend true w d)

/-- Originate a unicast: downstream when DST is above the own address, upstream when it is below (R454). -/
def tlUnicast (type dst payload : Nat) (d : Dev) : Dev :=
  match d.tline.addr with
  | none => d
  | some a => tlSend (decide (a < dst)) (tlFrame type false true dst a 0 payload) d

/-- Originate a broadcast under the own address; nothing while there is none. -/
def tlAnnounce (type payload : Nat) (d : Dev) : Dev :=
  match d.tline.addr with
  | none => d
  | some a => tlBroadcast type a payload true d

/-- Forward a frame on a link: dropped and counted at the end of a segment and with HOP 63 (R454). -/
def tlForward (onOut : Bool) (w : Word64) (d : Dev) : Dev :=
  if tlHop w = 63 ∨ !(if onOut then d.tline.outUp else d.tline.inUp) then tlDrop d
  else tlSend onOut (tlForwarded w) d

/-- Pass a frame on (R454): a broadcast on the link it did not arrive on, unless its SRC is the own address; a unicast towards DST.
An unnumbered controller passes a unicast on the link it did not arrive on (log entry 18). -/
def tlPass (onIn : Bool) (w : Word64) (d : Dev) : Dev :=
  if tlBcast w then (if d.tline.addr = some (tlSrc w) then tlDrop d else tlForward onIn w d)
  else match d.tline.addr with
    | none => tlForward onIn w d
    | some a => if tlDst w = a then d else tlForward (decide (a < tlDst w)) w d

/-! ## The partner over the chain (R457) -/

/-- The low 32 bits of SHELF_ID; 0 when unknown (R453). -/
def shelfLow (d : Dev) : Nat := d.pair.shelfId % 2 ^ 32

/-- Tideline address of the partner: the one its HELLO gave (13 R400); a controller's own neighbours are the only addresses a query
or fence goes to (R457). -/
def partnerAddr (d : Dev) : Option Nat :=
  match d.tline.addr, d.pair.helloIn with
  | some a, some h => if h.tlineAddr = a + 1 ∨ h.tlineAddr + 1 = a then some h.tlineAddr else none
  | _, _ => none

/-- Send a frame to the partner's chain interface, where the chain can name it. -/
def tlPartner (type payload : Nat) (d : Dev) : Dev :=
  match partnerAddr d with
  | some p => tlUnicast type p payload d
  | none => d

/-- Send a QUERY (R457) with a value from the DRBG. -/
def tlQuery (d : Dev) : Dev :=
  let (v, d1) := draw d
  tlPartner 6 (v % 65536) { d1 with tline.query := some (v % 65536, false) }

/-- The NULL frame of this controller on a link (R453, R455), sent in slots with nothing else to send: the model records one when the
link comes up and when the address changes (log entry 18). Before the first release of PORST_N none is originated (19 R519). -/
def tlNull (onOut : Bool) (d : Dev) : Dev :=
  if !d.boot.started ∨ !(if onOut then d.tline.outUp else d.tline.inUp) then d
  else if onOut then { d with tline.outNull := true } else { d with tline.inNull := true }

/-- Take an address and store it in the flash settings (R455, R456). -/
def tlTake (a : Nat) (d : Dev) : Dev :=
  tlNull true (tlNull false (noteFlash d
    { d with tline.addr := some a, tline.stored := some a, tline.claim := none, tline.settled := true }))

end Sys2Proof.Machine
end

