-- ==== Sys2Proof/Machine/Roles.lean ====
section
/-! DEFINITION. Roles, the shelf record, fencing, the SOLO role, unplanned takeover and forced starts (13 R390 to R396, R409 to
R414, R418, R419). -/

namespace Sys2Proof.Machine

/-! ## Roles (R391) -/

/-- Report an ANA change, or its end, to every controller (R413, R415, 07 R221): the change is counted and noticed. -/
def setAna (change : Bool) (d : Dev) : Dev :=
  postAll { type := 2, info := 3, log := 0x0C } { d with host.anaChange := change, host.anaChanges := d.host.anaChanges + 1 }

/-- The code of a FENCED side (15 R443). -/
def fenceCode (r : Role) (d : Dev) : Dev :=
  if r = .fenced then { d with boot.code := 9 } else if d.boot.code = 9 then { d with boot.code := 0 } else d

/-- A side that becomes the writer starts with an empty heat table, chosen values at their fixed values and capping at stage 0
(14 R436). -/
def newWriter (r : Role) (d : Dev) : Dev :=
  let writes := fun (x : Role) => x == .active || x == .solo
  if writes r && !writes d.pair.role then { d with light := { steps := d.light.steps, suppressed := d.light.suppressed } } else d

/-- A role change (R391): its event (17 R484), the end of a patch that is not being written (02 R53), and the ANA state of the new
role (07 R221). -/
def setRole (r : Role) (d : Dev) : Dev :=
  if d.pair.role = r then d
  else
    let d0 := newWriter r d
    let d1 := fenceCode r { d0 with pair.role := r, pair.joinWait := false, pair.fenceReason := if r = .fenced then d.pair.fenceReason else 0 }
    let d2 := logEvent 0x0C 1 0 (payload 0 (roleNum d.pair.role) (roleNum r) d1.pair.epoch) (chartRoleChange d1)
    judgeAlert (setAna d2.host.anaChange d2)

/-- Writes that have not completed get no completion any more (R418). -/
def silenceWrites (d : Dev) : Dev :=
  { d with adm.cmds := tall d.adm.cmds (fun c => if isWrite c.kind ∧ !c.completed then { c with silent := true } else c) }

/-- A switch that waits for the instant of both sides goes ahead on this side alone (02 R53). -/
def switchAlone (d : Dev) : Dev := if d.chart.state = .switching ∧ d.chart.pairWait then startSwitch d else d

/-- What a pairing had reached is dropped. -/
def clearPairing (d : Dev) : Dev :=
  switchAlone { d with pair.partner := 0, pair.syncing := false, pair.syncEnd := none, pair.mixed := false, pair.takeover := .none
                       pair.swap := .none, pair.swapForFirmware := false, pair.swapDeferred := false, pair.settleWait := false
                       pair.partnerWait := false, pair.joinWait := false, pair.helloSent := false, pair.poisoned := []
                       chart.adopt := 0 }

/-- Is this side one that joins, or has joined, a serving side (R407, R408)? -/
def joining (d : Dev) : Bool := d.pair.role == .fenced || d.pair.role == .standby || d.pair.joinWait

/-- This side becomes FENCED (R391, R418): its event with the reason, member I/O at an end, a record under way dropped, and the
heads that wait answered by their new ANA state. -/
def becomeFenced (reason : Nat) (d : Dev) : Dev :=
  let d1 := clearPairing (silenceWrites { d with shelf.cmds := [], shelf.heldOps := []
                                                 shelf.drives := tall d.shelf.drives (fun v => { v with registered := false, holder := false })
                                                 pair.recordPending := false, pair.recordNext := none
                                                 pair.fenceReason := reason, host.admissionHeld := false })
  let d2 := setRole .fenced { d1 with pair.fenceReason := reason }
  recheckHeads (raisePair 4 (logEvent 0x0C 3 2 (payload 0 0 reason 0) { d2 with pair.fenceReason := reason, host.anaChange := false }))

/-! ## The shelf record (R392 to R396) -/

/-- A shelf record is eligible for this side (R408): its epoch is this side's, and it is PAIRED or this side's own. -/
def recordEligible (d : Dev) : Bool :=
  match d.pair.record with
  | none => true
  | some r => d.pair.epoch == r.epoch && (r.mode == 0 || r.writer == d.pair.side)

/-- Begin to write a shelf record with the next PAIR_EPOCH (R392, R394): no other member write is issued until it is durable on
both keepers of every Shoal. The epoch follows the higher of this side's and the members' (log entry 22). -/
def recordBegin (cause : RecordCause) (mode : Nat) (role : Option Role) (d : Dev) : Dev :=
  let e_ := max d.pair.epoch ((d.pair.record.map (·.epoch)).getD 0) + 1
  let r : ShelfRecord := { writer := d.pair.side, mode := mode, epoch := e_, shelfId := d.pair.shelfId }
  let d1 := { d with pair.recordPending := true, pair.recordRole := role, pair.recordNext := some r, pair.recordFor := cause }
  d1.str.shoals.foldl (fun a e => (keepersOf a e.1).foldl (fun b k =>
    issueNow k (.recordWrite (shelfLba e_) (shelfRecordBytes r d.clk.tod.s)) b) a) d1

/-- Send every present member an acquire (R396): Preempt, or Preempt and Abort naming the partner's key. -/
def acquireAll (preempt abort : Bool) (d : Dev) : Dev :=
  (memberBaysUp d).foldl (fun a b => memberIssue b (acquireOp d preempt abort) a) d

/-- The acquires are complete: this side holds the reservation of every present member (R396). -/
def acquired (d : Dev) : Dev :=
  { d with shelf.drives := tall d.shelf.drives (fun v => { v with registered := true, holder := true })
           shelf.cmds := d.shelf.cmds.filter (fun e => match e.2.op with
             | .acquire _ _ _ _ => false
             | _ => true) }

/-! ## Losing the partner (R409, R410, R412) -/

/-- Does a command lack a mirror acknowledgement (R401, R412)? -/
def lacksMirror (d : Dev) (c : Cmd) : Bool :=
  c.pages.any (fun o => match o with
    | some p => (match tget d.pair.mirrorPages p with
      | some m => decide (d.pair.ackMseq < m)
      | none => true)
    | none => true)

/-- Writes that lacked their acknowledgement when the partner was lost (R412): with REQUIRE_PARTNER 1 they complete with Admission
Rejected and end absent; else they complete when their pages are staged here. -/
def settleWrites (d : Dev) : Dev :=
  let d1 := if (chartOf d).pair.requirePartner = 1 then
    d.adm.cmds.foldl (fun a e =>
      if e.2.kind = .write ∧ !e.2.completed ∧ lacksMirror d e.2 then absentWrite e.1 (some (vendor a e.2.cntlid 0x80 false 2)) a
      else a) d
    else d
  settleResv (tryCompleteAll { d1 with pair.mirrorPages := [] })

/-- The ACTIVE side enters SOLO (R412): the mirror is at an end, a swap is abandoned, and the record is written first. -/
def enterSolo (d : Dev) : Dev :=
  let d1 := if d.pair.swap = .none then d
    else resumeAll (setAna false (raisePair 0 { d with pair.result := 4, host.admissionHeld := false }))
  recordBegin .solo 1 (some .solo) (clearPairing d1)

/-- Send a Tideline fence to the partner (R410). -/
def tlineFence (d : Dev) : Dev := tlPartner 8 (shelfLow d) { d with pair.fencingPartner := true }

/-- Assert FENCE_OUT (R410, R411). -/
def wireFence (d : Dev) : Dev := { d with pair.fenceOut := true, pair.fencingPartner := true }

/-- An unplanned takeover begins (R413 steps 3 and 4): ANA Change, every association ended, written-block logs stopped (11 R363),
and Preempt and Abort on every present member; a side that is not eligible is FENCED. -/
def startTakeover (d : Dev) : Dev :=
  let d1 := (d.host.ctrls.map (·.1)).foldl (fun a c => endAssociation c a) (setAna true d)
  let d2 := { d1 with cove.wbl := [] }
  if recordEligible d2 then acquireAll true true { d2 with pair.takeover := .acquiring } else becomeFenced 3 d2

/-- What a query found (R409). -/
inductive PartnerState where
  | alive | dead | noAnswer
  deriving DecidableEq, Repr

/-- The action of R410 on an answer. -/
def actOnAnswer (x : PartnerState) (d : Dev) : Dev :=
  match d.pair.role with
  | .active =>
    if d.pair.fenceWired then enterSolo (wireFence d)
    else if x = .noAnswer then enterSolo d
    else tlineFence { d with pair.takeover := .soloFencing }
  | .standby => match x with
    | .alive => { d with pair.takeover := .waitFence }
    | .dead =>
      let d1 := tlineFence d
      if d.pair.fenceWired then startTakeover (wireFence d1) else { d1 with pair.takeover := .fencing }
    | .noAnswer => if d.pair.fenceWired then { d with pair.takeover := .grace } else becomeFenced 6 d
  | _ => { d with pair.takeover := .none }

/-- A query has its answer (R409, R422). -/
def queryDone (x : PartnerState) (d : Dev) : Dev :=
  let d1 := { d with tline.query := none, pair.tidelinePartner := decide (x ≠ .noAnswer) }
  if d.pair.takeover = .querying then actOnAnswer x { d1 with pair.takeover := .none } else d1

/-- TIDELINE_QUERY_TIMEOUT (15 R457): the QUERY is sent once more, and then there is no answer. -/
def queryTimeout (d : Dev) : Dev :=
  match d.tline.query with
  | none => d
  | some (v, false) => tlPartner 6 v { d with tline.query := some (v, true) }
  | some (_, true) => queryDone .noAnswer d

/-- TIDELINE_QUERY_TIMEOUT (15 R457). -/
def execTidelineQueryTimeout (s : State) : Result := onDev s queryTimeout

/-- FENCE_GRACE_TIMER (R410): the wire path of a STANDBY that nobody has fenced meanwhile. -/
def execFenceGraceTimer (s : State) : Result :=
  onDev s (fun d => if d.pair.takeover = .grace ∧ !d.boot.fenceHold then startTakeover (wireFence { d with pair.takeover := .none })
    else d)

/-- STANDBY_FENCE_WAIT (R410): the ALIVE partner has not fenced this side. -/
def execStandbyFenceWait (s : State) : Result :=
  onDev s (fun d => if d.pair.takeover = .waitFence then becomeFenced 5 d else d)

/-- The fence is acknowledged (R410): the waiting entry into SOLO, or takeover, goes on. -/
def fenceAcked (d : Dev) : Dev :=
  match d.pair.takeover with
  | .fencing => startTakeover { d with pair.takeover := .none }
  | .soloFencing => enterSolo d
  | _ => d

/-- FENCE_HOLD_EXPIRY (R411): a fence by FENCE_OUT or the Tideline ends after 10 s, on the side that fences and on the side that the
Tideline holds, which starts as after PORST_N. -/
def fenceExpiry (d : Dev) : Dev :=
  let d1 := { d with pair.fenceOut := false, pair.fencingPartner := false }
  if d1.boot.tlineHold then beginStart { d1 with boot.tlineHold := false, tline.fencedBy := none } else d1

/-- FENCE_HOLD_EXPIRY (R411). -/
def execFenceHoldExpiry (s : State) : Result := onDev s fenceExpiry

/-- What a sync brings, or what it replaces, is emptied: the pool's contents and the definitions. -/
def emptySide (d : Dev) : Dev :=
  let d0 := d.adm.cmds.foldl (fun a e => returnCredits e.2.cove e.2.credits e.2.space a) { d with adm.cmds := [] }
  let d1 := (d0.pool.pages.map (·.1)).foldl (fun a p => freePage p a) { d0 with pool.blockWaits := [], pool.repeatWaits := [] }
  { d1 with
    pool.kept := [], pool.marks := [], pool.imgUsed := [], pool.imgClaimed := [], pool.imgInvalid := [], pool.journalBad := [], pool.logBad := []
    str := { shoals := d1.str.shoals }
    host.nss := [], host.resv := [], host.san := {}
    cove.tab := d1.cove.tab.filter (fun e => e.1 == 0), cove.bindings := [], cove.wbl := []
    keys.nsKeys := [], keys.slots := [], adm := { nextTag := d1.adm.nextTag } }

/-- A pairing under way fails (R407, R420): the joining side discards what it received, and the serving side stays SOLO. -/
def abandonPairing (d : Dev) (m : Memory) : Dev × Memory :=
  let d1 := { clearPairing d with pair.partnerWait := d.pair.partnerWait, pair.joinWait := d.pair.joinWait }
  resumeCommit (if joining d ∧ d.pair.syncing then emptySide d1 else d1) m

/-- Three missed heartbeats make the partner suspect (R409): PARTNER_LOST, and a QUERY to its chain interface. -/
def heartbeatMissed (d : Dev) (m : Memory) : Dev × Memory :=
  let d1 := { d with pair.hbMissed := d.pair.hbMissed + 1 }
  if d1.pair.hbMissed ≠ 3 then (d1, m)
  else if d1.pair.partner = 1 then abandonPairing (raisePair 1 d1) m
  else if d1.pair.partner = 2 then (tlQuery (raisePair 1 { d1 with pair.takeover := .querying }), m)
  else (d1, m)

/-- HEARTBEAT_MISSED (R409). -/
def execHeartbeatMissed (s : State) : Result := onBoth s heartbeatMissed

/-! ## Recovery on a side that was not stopped (R413 step 6, R419) -/

/-- What this side held for hosts is at an end; the pages written stay, as STAGE after a stop holds them. -/
def dropWork (d : Dev) : Dev :=
  judgeLevel (finishWrites { d with
    adm := { nextTag := d.adm.nextTag }, shelf.cmds := [], pool.held := [], pool.reserveHeld := 0, pool.waiting := [], str.ckpt := none
    str.fetching := [], str.deferred := d.str.deferred.map (fun e => { e with cmd := none })
    str.rows := tall d.str.rows (fun r =>
      { r with readers := 0, issued := if r.life = .writing then r.issued else 0
               placed := r.placed.map (fun p => { p with cmd := none }) }) })

/-- A reset that the survivor finds recorded is finished as one that ends associations (11 R355), and the Cove counters restart
(R405). -/
def coveTakeover (d : Dev) : Dev :=
  { d with cove.tab := tall d.cove.tab (fun r => { r with resetEnds := true, counters := List.replicate 16 0 }) }

/-- R91 from step 1 on a pool that was never stopped (R413 step 6): no layout, boot count, ESN or UNCLEAN change. -/
def liveRecover (faults : List PoolFault) (d : Dev) : Dev :=
  let d1 := coveTakeover (replayLog (dropWork d))
  let d2 := faults.foldl (fun a f => poolFault f a) { d1 with pool.state := .recovering, pair.liveRecovery := true, pool.journalBad := []
                                                              pool.logBad := [] }
  replay (resumeAsns { d2 with pool.kept := keptGroups d2 })

/-- TAKEOVER_ACQUIRED (R413 steps 5 and 6): the new epoch is recorded SOLO, and recovery runs on the local pool. -/
def takeoverAcquired (faults : List PoolFault) (d : Dev) : Dev :=
  if d.pair.takeover ≠ .acquiring then d
  else liveRecover faults (recordBegin .takeover 1 (some .solo) (clearPairing (acquired d)))

/-- TAKEOVER_ACQUIRED (R413). -/
def execTakeoverAcquired (faults : List PoolFault) (s : State) : Result := onDev s (takeoverAcquired faults)

/-- PAIR_CTRL (R424): is a write with one of its bits good? -/
def pairCtrlOk (v : Reg) : Bool := bits v.toNat 15 8 == 0xA5 && decide ((bitList v.toNat 3).length ≤ 1)

/-- A PAIR_CTRL write that is ignored logs a WARN event (R424); 17 R484 lists no code for it (log entry 3). -/
def pairIgnore (d : Dev) : Dev := logEvent 0x0C (Config.unlistedCode 1) 1 (payload 0 0 0 0) d

/-- PAIR_CTRL.FORCE (R419): a FENCED side, or one that is not yet eligible, acquires, records MODE FORCED and serves. -/
def pairForce (v : Reg) (faults : List PoolFault) (d : Dev) : Dev :=
  if !pairCtrlOk v then pairIgnore d
  else if d.pair.role ≠ .fenced ∧ !(d.pair.partnerWait && !recordEligible d) then d
  else
    let d1 := acquired (acquireAll true true (clearPairing d))
    let d2 := recordBegin .forced 2 (some .solo) (logEvent 0x0C 6 2 (payload 0 0 0 0) { d1 with pair.foreignPool := false })
    liveRecover faults (setAna true d2)

/-- PAIR_CTRL_FORCE (R419). -/
def execPairCtrlForce (v : Reg) (faults : List PoolFault) (s : State) : Result := onDev s (whenReg (pairForce (v ||| 2#32) faults))

/-- PAIR_CTRL.UNFENCE (R424, 15 R457): FENCE_OUT is released, and an UNFENCE goes to the partner. -/
def pairUnfence (v : Reg) (d : Dev) : Dev :=
  if !pairCtrlOk v then pairIgnore d
  else if d.pair.fencingPartner ∨ d.pair.fenceOut then
    tlPartner 9 (shelfLow d) { d with pair.fenceOut := false, pair.fencingPartner := false }
  else d

/-- PAIR_CTRL_UNFENCE (R424). -/
def execPairCtrlUnfence (v : Reg) (s : State) : Result := onDev s (whenReg (pairUnfence (v ||| 4#32)))

/-! ## Reservation conflict and retryable errors (R418, 06 R173) -/

/-- MEMBER_COMMAND_ERROR (06 R173): a retryable error is reissued once, but that of a configuration record, which is not retried (12 R382);
a Reservation Conflict of a write fences this side (R418). -/
def memberError (mcid : Nat) (conflict : Bool) (d : Dev) : Dev :=
  match tget d.shelf.cmds mcid with
  | none => d
  | some c =>
    let writes : Bool := match c.op with
      | .readBlock _ => false
      | .abort _ => false
      | .resetController => false
      | _ => true
    if c.phase = .queued then d
    else if conflict ∧ writes then becomeFenced 2 d
    else if recordOp c.op then memberEnd mcid d
    else if c.phase = .reissued then failServing c.bay d
    else reissueMember mcid (occur 6 3 1 (memberAttr c.bay (opClass c.op)) d)

/-- MEMBER_COMMAND_ERROR (06 R173). -/
def execMemberCommandError (mcid : Nat) (conflict : Bool) (s : State) : Result := onDev s (memberError mcid conflict)

end Sys2Proof.Machine
end

