-- ==== Sys2Proof/Machine/Strait.lean ====
section
/-! DEFINITION. The Strait's link layer (13 R397 to R403), what the mirroring side does with mirror frames (R401, R404), and the
wiring test (R411). -/

namespace Sys2Proof.Machine

/-! ## The link layer (R402) -/

/-- Take a frame of the link: nothing arrives on a link that is down, and after an LLNAK frames are dropped until the LSEQ that it
named arrives good. -/
def takeFrame' (h : StraitHdr) (f : Dev → Memory → Dev × Memory) (d : Dev) (m : Memory) : Dev × Memory :=
  if !d.pair.straitUp then (d, m)
  else if d.pair.nakFor.any (fun n => n != h.lseq) then (d, m)
  else f { d with pair.nakFor := none, pair.rxLseq := h.lseq } m

/-- A meaning on the device alone, for a frame. -/
def onFrame (h : StraitHdr) (f : Dev → Dev) (s : State) : Result := onBoth s (takeFrame' h (fun d m => (f d, m)))

/-- The link goes down: nothing of it stays to be replayed (R397, R402). A pairing under way fails (R407). -/
def linkDown (d : Dev) (m : Memory) : Dev × Memory :=
  let d1 := dropOutput straitStation
    { d with pair.straitUp := false, pair.lanes := 0, pair.replayBuffer := [], pair.sendWaits := [], pair.nakFor := none, pair.helloSent := false }
  if d1.pair.partner = 1 then abandonPairing d1 m else (d1, m)

/-- STRAIT_LINK_DOWN (R397). -/
def execStraitLinkDown (s : State) : Result := onBoth s linkDown

/-- STRAIT_REPLAY_TIMEOUT (R402): a replay buffer full for 100 µs, which has no room for a frame that waits, or a frame replayed 16 times,
takes the link down. -/
def execStraitReplayTimeout (s : State) : Result :=
  onBoth s (fun d m => if !d.pair.sendWaits.isEmpty ∨ 2 ^ 20 ≤ replayBytes d ∨ d.pair.replayBuffer.any (fun f => decide (16 ≤ f.replays)) then linkDown d m
    else (d, m))

/-- Frames up to an LSEQ have arrived good (R402): the sender keeps them no longer. -/
def dropAcked (lseq : Nat) : List StraitFrame → List StraitFrame
  | [] => []
  | f :: r => if f.lseq = lseq then r else
      if r.any (fun g => g.lseq == lseq) then dropAcked lseq r else f :: r

/-- STRAIT_LLACK (R402). -/
def execStraitLlack (lseq : Nat) (s : State) : Result :=
  onDev s (fun d => if d.pair.straitUp then
      sendWaiting d.pair.sendWaits { d with pair.replayBuffer := dropAcked lseq d.pair.replayBuffer }
    else d)

/-- Replay from a named LSEQ (R402, R423): each frame again, in order; one that has been replayed 16 times takes the link down. -/
def replayFrom (lseq : Nat) (d : Dev) (m : Memory) : Dev × Memory :=
  if !d.pair.straitUp ∨ !(d.pair.replayBuffer.any (fun f => f.lseq == lseq)) then (d, m)
  else
    let pre := d.pair.replayBuffer.takeWhile (fun f => f.lseq != lseq)
    let again := (d.pair.replayBuffer.drop pre.length).map (fun f => { f with replays := f.replays + 1 })
    let d1 := again.foldl (fun a f => emit (.strait f) a) { d with pair.replayBuffer := pre ++ again, pair.replays := satAdd 16 d.pair.replays 1 }
    if again.any (fun f => decide (16 ≤ f.replays)) then linkDown d1 m else (d1, m)

/-- STRAIT_LLNAK (R402). -/
def execStraitLlnak (lseq : Nat) (s : State) : Result := onBoth s (replayFrom lseq)

/-- STRAIT_FRAME_CRC_FAIL (R402): an LLNAK names the first LSEQ received bad; while one is outstanding, a frame is only dropped. -/
def execStraitFrameCrcFail (lseq : Nat) (s : State) : Result :=
  onDev s (fun d => if !d.pair.straitUp ∨ d.pair.nakFor.isSome then d else straitLink 7 lseq { d with pair.nakFor := some lseq })

/-- STRAIT_LLACK_TIMER (R402): the highest LSEQ received good. -/
def execStraitLlackTimer (s : State) : Result := onDev s (fun d => straitLink 6 d.pair.rxLseq d)

/-! ## Heartbeats (R403) -/

/-- Payload of a HEARTBEAT (R403). -/
def heartbeatBytes (d : Dev) : List Byte :=
  leBytes (roleNum d.pair.role) 1 ++ leBytes d.pair.partner 1 ++ leBytes d.pair.side 1 ++ leBytes 1 1 ++ leBytes d.pair.liveness 4
    ++ leBytes d.pair.epoch 8 ++ leBytes d.chart.runSeq 4 ++ leBytes 0 12

/-- HEARTBEAT_SEND (R403): only while the liveness counter has advanced within the last 2 ms. -/
def heartbeatSend (advanced : Bool) (d : Dev) : Dev :=
  if !coreRuns d then d
  else if advanced then
    let d1 := { d with pair.liveness := (d.pair.liveness + 1) % 2 ^ 32, pair.stalled := false }
    straitSend { type := 5, payload := heartbeatBytes d1 } d1
  else { d with pair.stalled := true }

/-- HEARTBEAT_SEND (R403). -/
def execHeartbeatSend (advanced : Bool) (s : State) : Result := onDev s (heartbeatSend advanced)

/-- A HEARTBEAT (R403, R409): the partner lives. While paired, a STANDBY side records a new epoch that its ACTIVE partner shows
(R392; log entry 22). -/
def heartbeat (role partner side epoch : Nat) (d : Dev) : Dev :=
  let d1 := { d with pair.hbMissed := 0 }
  if d1.pair.role = .standby ∧ role = 0 ∧ partner = 2 ∧ d1.pair.epoch < epoch then
    { d1 with pair.epoch := epoch
              pair.record := some { writer := side, mode := 0, epoch := epoch, shelfId := d1.pair.shelfId } }
  else d1

/-- STRAIT_HEARTBEAT (R403). -/
def execStraitHeartbeat (h : StraitHdr) (role partner side _version _counter epoch _chartSeq : Nat) (s : State) : Result :=
  onFrame h (heartbeat role partner side epoch) s

/-! ## Mirror frames at the mirroring side (R401, R404) -/

/-- Does this side apply mirror frames: from SYNC_BEGIN on (R404)? -/
def mirroring (d : Dev) : Bool := joining d && (d.pair.partner == 2 || d.pair.syncing)

/-- A MACK states that every mirror frame so far is durable here (R401); it waits while a page is poisoned (09 R302). -/
def sendMack (d : Dev) : Dev :=
  if d.pair.poisoned.isEmpty then straitSend { type := 4, payload := leBytes d.pair.rxMseq 4 ++ leBytes 0 4 } d else d

/-- Apply a mirror frame in its order and acknowledge it (R401). -/
def applyMirror (h : StraitHdr) (f : Dev → Memory → Dev × Memory) (d : Dev) (m : Memory) : Dev × Memory :=
  if mirroring d then
    let (d1, m1) := f d m
    (sendMack { d1 with pair.rxMseq := h.mseq }, m1)
  else (d, m)

/-- A mirror frame that changes the device alone. -/
def onMirror (h : StraitHdr) (f : Dev → Dev) (s : State) : Result :=
  onBoth s (takeFrame' h (applyMirror h (fun d m => (f d, m))))

/-- Store a mirrored STAGE page at its own index (03 R88): a poisoned one, or one whose tag does not verify, is not stored before a
good frame brings it (09 R302). -/
def putPage (page : Nat) (t : Tag) (data : Nat) (good : Bool) (d : Dev) : Dev :=
  if regionOf d.pool.layout page ≠ .stage ∨ d.pool.withdrawn.contains page then d
  else if !good then { d with pair.poisoned := page :: d.pair.poisoned.filter (fun p => p != page) }
  else
    occur 4 0 1 (poolAttr straitStation page)
      { d with pool.pages := tput d.pool.pages page { life := .staged, slot := nextSlot d page, tag := t, data := data, key := nsKeyValue d t.nsid }
               pair.poisoned := d.pair.poisoned.filter (fun p => p != page) }

/-- Has this side's STAGE a page of the same command and index (R408)? -/
def hasPage (d : Dev) (t : Tag) : Bool :=
  d.pool.pages.any (fun e => e.2.tag.nsid == t.nsid && e.2.tag.asn == t.asn && e.2.tag.pageIndex == t.pageIndex)

/-- The writer keeps a page that the settlement brings and that it lacks (R408): at its own index where that is free. A page whose data it
could not read takes the partner's (03 R93). -/
def settlePage (page : Nat) (t : Tag) (data : Nat) (good : Bool) (d : Dev) : Dev :=
  if !good then d
  else if hasPage d t then
    { d with pool.pages := tall d.pool.pages (fun g =>
        if g.bad ∧ g.tag = t then { g with data := data, bad := false } else g) }
  else if pageFree d page then putPage page t data true d
  else match nextPage d with
    | some q => putPage q t data true d
    | none => d

/-- STRAIT_PAGE (R399, R401, R408). -/
def execStraitPage (h : StraitHdr) (page : Nat) (tag : Tag) (data : Nat) (tagOk : Bool) (s : State) : Result :=
  onBoth s (takeFrame' h (fun d m =>
    let good := tagOk && !h.poison
    if d.pair.settleWait ∧ h.sync then (settlePage page tag data good d, m)
    else applyMirror h (fun a n => (putPage page tag data good a, n)) d m))

/-! ### Regions -/

/-- Entries of `width` bytes of a 64-byte unit, with the number of the first. -/
def unitEntries (x first width : Nat) : List (Nat × Nat) :=
  (List.range (64 / width)).map (fun i => (first + i, recField x (width * i) width))

/-- STATE of a format progress record (07 R230). -/
def numFormat : Nat → FormatState
  | 1 => .erasing
  | 2 => .reclaiming
  | 3 => .complete
  | 4 => .deleting
  | _ => .none

/-- An ASN mark (05 R146). -/
def putMark (nsid v : Nat) (d : Dev) : Dev :=
  if v = 0 then { d with pool.marks := terase d.pool.marks nsid } else { d with pool.marks := tput d.pool.marks nsid v }

/-- A format progress record (07 R230). -/
def putFormat (nsid v : Nat) (d : Dev) : Dev :=
  { d with host.nss := tmod d.host.nss nsid (fun n =>
      { n with fmt := numFormat (v / 2 ^ 60), percent := bits v 59 52, startS := bits v 51 29, cursor := bits v 28 0 }) }

/-- The sanitise progress record (07 R237). -/
def putSan (x : Nat) (d : Dev) : Dev :=
  if !recordOk x then d
  else { d with host.san := { state := recField x 0 1, sanact := recField x 1 1, step := recField x 2 1, percent := recField x 3 1
                              cdw10 := recField x 4 4, membersDone := BitVec.ofNat 32 (recField x 8 4), startS := recField x 12 6 } }

/-- An entry of the wrapped key index (12 R383). -/
def putKeyIndex (nsid v : Nat) (d : Dev) : Dev :=
  { d with keys.nsKeys := tmod d.keys.nsKeys nsid (fun k => { k with durable := decide (bits v 47 40 = 1) }) }

/-- The Ebb cursors of a Shoal (03 R73). -/
def putCursors (sh x : Nat) (d : Dev) : Dev :=
  modShoal sh (fun y => { y with cursor1 := recField x 0 8, cursor3 := recField x 8 8 }) d

/-- A mirrored ADMIN unit (03 R73), by page and unit within ADMIN. -/
def putAdmin (page unit x : Nat) (d : Dev) : Dev :=
  let each := fun (base per width : Nat) (f : Nat → Nat → Dev → Dev) =>
    (unitEntries x ((page - base) * per + unit * (64 / width) + 1) width).foldl (fun a e => f e.1 e.2 a) d
  if page < 4 then d
  else if page < 12 then each 4 512 8 putMark
  else if page < 20 then each 12 512 8 putMark
  else if page < 28 then each 20 512 8 putFormat
  else if page < 36 then each 28 512 8 putFormat
  else if page < 38 then (if unit = 0 then putSan x d else d)
  else if page < 40 then (if unit < 4 then putCursors unit x d else d)
  else if page < 56 then each 40 256 16 putKeyIndex
  else if page < 72 then each 56 256 16 putKeyIndex
  else d

/-- A mirrored unit of a region page (R404). COVEIMG pages are bytes; a page 0 of a slot puts it in use (11 R357). -/
def putUnit (page unit x : Nat) (d : Dev) (m : Memory) : Dev × Memory :=
  let l := d.pool.layout
  match regionOf l page with
  | .sjournal => (putJournal ((page - regionStart l .sjournal) * 64 + unit) x d, m)
  | .maplog =>
    let p := page - regionStart l .maplog
    if 8 ≤ p then (putLog x d, m) else if unit = 0 ∧ (p = 0 ∨ p = 4) then (putHeader x d, m) else (d, m)
  | .admin => (putAdmin (page - regionStart l .admin) unit x d, m)
  | .coveimg =>
    let i := (page - regionStart l .coveimg) / 16
    let d1 := if d.pool.imgUsed.contains i then d else { d with pool.imgUsed := d.pool.imgUsed ++ [i] }
    (d1, mputs m (pageAddr page + 64 * unit) (leBytes x 64))
  | _ => (d, m)

/-- The units of a REGION frame, in order. -/
def putUnits (page : Nat) : Nat → List Nat → Dev → Memory → Dev × Memory
  | _, [], d, m => (d, m)
  | unit, x :: r, d, m =>
    let e := putUnit page unit x d m
    putUnits page (unit + 1) r e.1 e.2

/-- The partner's copy of an SJOURNAL or MAPLOG page that this side could not read, while the two sides settle (03 R93; log entry 21). -/
def settleUnits (page offset : Nat) (units : List Nat) (d : Dev) (m : Memory) : Dev × Memory :=
  if d.pool.journalBad.contains page ∨ d.pool.logBad.contains page then
    putUnits page offset units { d with pool.journalBad := d.pool.journalBad.filter (fun p => p != page)
                                        pool.logBad := d.pool.logBad.filter (fun p => p != page) } m
  else (d, m)

/-- STRAIT_REGION (R399, R404). -/
def execStraitRegion (h : StraitHdr) (page offset : Nat) (units : List Nat) (s : State) : Result :=
  onBoth s (takeFrame' h (fun d m =>
    if 64 < offset + units.length then applyMirror h (fun a n => (a, n)) d m
    else if d.pair.settleWait ∧ h.sync then settleUnits page offset units d m
    else applyMirror h (putUnits page offset units) d m))

/-- Pages of runs that a pool holds. -/
def runPages (d : Dev) (runs : List (Nat × Nat)) : List Nat :=
  (d.pool.pages.map (·.1)).filter (fun p => runs.any (fun r => decide (r.1 ≤ p) && decide (p < r.1 + r.2)))

/-- STRAIT_RELEASE (R399, 03 R88): the tags of the pages are cleared. -/
def execStraitRelease (h : StraitHdr) (runs : List (Nat × Nat)) (s : State) : Result :=
  onMirror h (fun d => (runPages d runs).foldl (fun a p => freePage p a)
    { d with pair.poisoned := d.pair.poisoned.filter (fun p => !runs.any (fun r => decide (r.1 ≤ p) && decide (p < r.1 + r.2))) }) s

/-! ### Definitions (R399 CONFIG) -/

/-- KIND 1: a namespace, kept with what this side already knows of it. One that the sync brings stands on the members as the partner
left it (log entry 21). -/
def putNamespace (sync : Bool) (x : NsDef) (d : Dev) : Dev :=
  if !x.present then { d with host.nss := terase d.host.nss x.nsid, str.unknownNs := d.str.unknownNs.filter (fun n => n != x.nsid) }
  else
    let n : Ns := match tget d.host.nss x.nsid with
      | some o => { o with nsze := x.nsze, grain := x.grain, shoal := x.shoal, auth := x.auth, pageBase := x.pageBase
                           nextAsn := max o.nextAsn x.nextAsn, resumes := x.resumes, writeProtect := x.writeProtect }
      | none => { nsze := x.nsze, grain := x.grain, shoal := x.shoal, auth := x.auth, pageBase := x.pageBase
                  nextAsn := x.nextAsn, resumes := x.resumes, writeProtect := x.writeProtect }
    let new := sync && !thas d.host.nss x.nsid && !d.str.unknownNs.contains x.nsid
    { d with host.nss := tput d.host.nss x.nsid n, str.unknownNs := if new then d.str.unknownNs ++ [x.nsid] else d.str.unknownNs }

/-- STRAIT_CONFIG_NAMESPACE (R399). -/
def execStraitConfigNamespace (h : StraitHdr) (d : NsDef) (s : State) : Result := onMirror h (putNamespace h.sync d) s

/-- STATE of a Cove as its number says (11 R349). -/
def numCoveState : Nat → Option CoveState
  | 1 => some .active
  | 2 => some .frozen
  | 3 => some .resetting
  | 4 => some .deleting
  | _ => none

/-- KIND 2: a Cove with its state, NQN and attachments. -/
def putCove (x : CoveDef) (d : Dev) : Dev :=
  let d1 := { d with host.nss := d.host.nss.map (fun e =>
      let rest := e.2.coves.filter (fun c => c != x.cove)
      (e.1, { e.2 with coves := if x.attached.contains e.1 then rest ++ [x.cove] else rest })) }
  match numCoveState x.state with
  | none => judgeFloors { d1 with cove.tab := terase d1.cove.tab x.cove }
  | some st => match tget d1.cove.tab x.cove with
    | some r => { d1 with cove.tab := tput d1.cove.tab x.cove { r with state := st, nqn := x.nqn } }
    | none => bornCove x.cove { state := st, nqn := x.nqn } d1

/-- STRAIT_CONFIG_COVE (R399). -/
def execStraitConfigCove (h : StraitHdr) (d : CoveDef) (s : State) : Result := onMirror h (putCove d) s

/-- STRAIT_CONFIG_BINDING (R399): KIND 3. An entry that is not valid, with no Cove or host, has been cleared. -/
def execStraitConfigBinding (h : StraitHdr) (index : Nat) (b : Binding) (s : State) : Result :=
  onMirror h (fun d =>
    if !b.valid ∧ b.hostid = 0 ∧ b.maxAssoc = 0 then { d with cove.bindings := terase d.cove.bindings index }
    else { d with cove.bindings := tput d.cove.bindings index { b with assoc := 0 } }) s

/-- STRAIT_CONFIG_RESERVATION (R399): KIND 4. -/
def execStraitConfigReservation (h : StraitHdr) (r : ResvRecord) (s : State) : Result :=
  onMirror h (fun d => { d with host.resv := tput d.host.resv r.nsid r }) s

/-- A rotation on the serving side reaches this one with its last record (12 R379): where every record names another KEK_EPOCH, whose
secret is loaded, that KEK takes over and the old one is zeroized (log entry 32). -/
def followRotation (d : Dev) : Dev :=
  let epochs := (d.keys.nsKeys.map (fun e => e.2.rec_.kekEpoch) ++ (d.keys.slots.filter (fun e => e.2.loaded)).map (fun e => e.2.kekEpoch)).eraseDups
  match epochs with
  | [e] => match tget d.keys.extra e with
    | some s => if kekEpoch d = e then d
      else { d with keys.kek := some (e, s), keys.kekCheck := kekCheckOf (kekValue s d.pair.shelfId e), keys.extra := terase d.keys.extra e }
    | none => d
  | _ => d

/-- KIND 5: a namespace key record (12 R381), unwrapped under the KEK of its epoch; KIND 0 of it says that the key is erased. -/
def putNsKey (r : KeyRecord) (wrapped : List Byte) (d : Dev) : Dev :=
  if r.kind = 0 then { d with keys.nsKeys := terase d.keys.nsKeys r.nsid }
  else
    let k : NsKey := { rec_ := r, wrapped := wrapped, key := nsKeyValue d r.nsid
                       durable := ((tget d.keys.nsKeys r.nsid).map (·.durable)).getD true }
    let key := unwrapNs d k
    followRotation (kwPass 1 { d with
      keys.nsKeys := tput d.keys.nsKeys r.nsid { k with key := key.getD 0 }
      host.nss := tmod d.host.nss r.nsid (fun n => { n with keyGen := r.keyGen, keyAvailable := key.isSome }) })

/-- STRAIT_CONFIG_NS_KEY (R399). -/
def execStraitConfigNsKey (h : StraitHdr) (r : KeyRecord) (wrapped : List Byte) (s : State) : Result := onMirror h (putNsKey r wrapped) s

/-- KIND 6: a Cove slot record (12 R385), unwrapped under the KEK of its epoch. -/
def putSlotKey (r : SlotRecord) (d : Dev) : Dev :=
  followRotation (kwPass 1 { d with keys.slots := tput d.keys.slots (r.cove * 16 + r.slot) { r with key := (slotKey d r).getD 0 } })

/-- STRAIT_CONFIG_SLOT_KEY (R399): KIND 6. -/
def execStraitConfigSlotKey (h : StraitHdr) (r : SlotRecord) (s : State) : Result := onMirror h (putSlotKey r) s

/-- STRAIT_CONFIG_CHART_CHUNK (R399, 02 R57, R406): KIND 7, a mirror frame of a pair; before, a frame of the Chart exchange that this
side waits for. -/
def execStraitConfigChartChunk (h : StraitHdr) (offset : Nat) (last : Bool) (bytes : List Byte) (s : State) : Result :=
  onBoth s (takeFrame' h (fun d m =>
    if mirroring d then applyMirror h (chartChunk offset last bytes) d m
    else if d.chart.adopt ≠ 0 then chartChunk offset last bytes d m
    else (d, m)))

/-! ## Withdrawn pages (03 R70, R405) -/

/-- The partner withdrew a page: it is withdrawn here too, its tag cleared; a serving side's own data moves to another page. -/
def partnerWithdrew (p : Nat) (d : Dev) : Dev :=
  if d.pool.withdrawn.contains p ∨ regionOf d.pool.layout p ≠ .stage then d
  else if serves d ∧ !joining d ∧ thas d.pool.pages p then repeatWrite p d
  else
    let d1 := match tget d.pool.pages p with
      | some pg => freePage p { d with pool.pages := tput d.pool.pages p { pg with retiring := false } }
      | none => d
    judgeFloors (judgeLevel { d1 with pool.withdrawn := d1.pool.withdrawn ++ [p] })

/-- STRAIT_WITHDRAW (R400): a level that the smaller pool enters has its effect (03 R84). -/
def execStraitWithdraw (h : StraitHdr) (page : Nat) (s : State) : Result := onFrame h (fun d => aroundAll (partnerWithdrew page d)) s

/-! ## The wiring test (R411) -/

/-- FENCE_WIRED is set when both directions pass. -/
def judgeWired (d : Dev) : Dev := { d with pair.fenceWired := d.pair.fenceSentSeen && d.pair.fencePulseSeen }

/-- STRAIT_FENCE_TEST (R411): did the partner see this side's pulse? -/
def execStraitFenceTest (h : StraitHdr) (seen : Bool) (s : State) : Result :=
  onFrame h (fun d => judgeWired { d with pair.fenceSentSeen := seen }) s

/-- FENCE_IN_PULSE (R411): latched for the test, and reported. -/
def execFenceInPulse (s : State) : Result :=
  onDev s (fun d => if coreHeld d then d else straitControl 9 [1#8] (judgeWired { d with pair.fencePulseSeen := true }))

end Sys2Proof.Machine
end

