-- ==== Sys2Proof/Machine/Pairing.lean ====
section
/-! DEFINITION. Pairing, the start of the writer and of the joining side, and the shelf record's durability (13 R392, R400, R406 to
R408, 03 R91 step 10). -/

namespace Sys2Proof.Machine

/-! ## HELLO (R400) -/

/-- The Chart that this side runs, as its slot holds it (02 R48). -/
def runImage (d : Dev) (m : Memory) : Img := imgAt m (chartAddr d d.chart.runSlot)

/-- The bytes of a section of an image; none of one that is omitted. -/
def sectionBytes (g : Img) (type : Nat) : List Byte :=
  match (sectionsOf g).find? (fun x => x.type == type) with
  | some x => imgBytes g x.body x.len
  | none => []

/-- The digest of HELLO (R400): the first 16 bytes of SHA-384 over POOL, SHOALS and PORTS.LANE_MODE (log entry 22 for their order). -/
def ownDigest (d : Dev) (m : Memory) : Nat :=
  let g := runImage d m
  Config.sha384 (sectionBytes g 3 ++ sectionBytes g 2 ++ leBytes (chartOf d).laneMode 1) % 2 ^ 128

/-- Send HELLO, with which a new wiring test begins (R400, R411). -/
def sendHello (d : Dev) (m : Memory) : Dev :=
  let body := leBytes d.pair.shelfId 16 ++ leBytes (ownDigest d m) 16 ++ leBytes d.keys.kekCheck 8 ++ leBytes d.chart.runSeq 4
    ++ leBytes d.pair.epoch 8 ++ leBytes (d.tline.addr.getD 0xFF) 1
  if d.pair.straitUp ∧ (chartOf d).laneMode = 0 then
    straitControl 1 body { d with pair.helloSent := true, pair.fenceSentSeen := false, pair.fencePulseSeen := false }
  else d

/-- Does the chain agree (R406): it cannot reach the partner, or reports the same SHELF_ID at an address that differs by one? -/
def chainAgrees (d : Dev) (x : Hello) : Bool :=
  match d.tline.addr, tget d.tline.roster x.tlineAddr with
  | some a, some e =>
    if e.at_ + 300000000 < (elapsed d : Int) then true
    else (x.tlineAddr == a + 1 || x.tlineAddr + 1 == a) && e.shelf == shelfLow d
  | _, _ => true

/-- The first check of R406 that fails, but for the Chart exchange. A side that found no label takes the partner's SHELF_ID. -/
def helloCode (d : Dev) (x : Hello) : Option Nat :=
  if x.shelfId ≠ d.pair.shelfId ∧ x.shelfId ≠ 0 ∧ d.pair.shelfId ≠ 0 then some 1
  else if x.side = d.pair.side then some 2
  else if !chainAgrees d x then some 3
  else if x.kekCheck ≠ d.keys.kekCheck then some 5
  else if x.version ≠ 1 then some 6
  else none

/-- What the Chart exchange of R406 asks of this side. -/
inductive Exchange where
  | agreed
  /-- it takes the partner's image: 1 adopts it by commit, 2 stores it and restarts, 3 stores it for a mixed pair -/
  | take (how : Nat)
  /-- it sends its own image -/
  | send
  | refused (code : Nat)
  deriving DecidableEq, Repr

/-- The first case of R406 that matches. -/
def exchangeOf (d : Dev) (x : Hello) (sameDigest : Bool) : Exchange :=
  let no := Exchange.refused (if sameDigest then 7 else 4)
  let lower := decide (d.chart.runSeq < x.chartSeq)
  let j := joining d
  if x.chartDiff = 0 then (if sameDigest then .agreed else no)
  else if d.chart.runSeq = x.chartSeq then no
  else if x.chartDiff = 1 then (if lower then .take 1 else .send)
  else if lower = j then (if j then .take 2 else .send)
  else if x.chartDiff = 2 ∧ sameDigest then (if j then .send else .take 3)
  else no

/-- Pairing is refused (R406). -/
def refusePair (code : Nat) (d : Dev) : Dev :=
  let j := joining d
  let d1 := raisePair 3 (logEvent 0x0C 2 1 (payload 0 0 code 0)
    { clearPairing d with pair.refuse := code, pair.helloIn := none, pair.joinWait := d.pair.joinWait })
  if j then becomeFenced 4 d1 else d1

/-! ## The sync (R407) -/

/-- Mark the frames that a change sends with SYNC (R398). -/
def asSync (f : Dev → Dev) (d : Dev) : Dev :=
  let e := f d
  let mark := fun (x : StraitFrame) => { x with sync := true }
  { e with out := d.out ++ (e.out.drop d.out.length).map (fun o => match o with
             | .strait x => .strait (mark x)
             | o => o)
           pair.replayBuffer := d.pair.replayBuffer ++ (e.pair.replayBuffer.drop d.pair.replayBuffer.length).map mark
           pair.sendWaits := d.pair.sendWaits ++ (e.pair.sendWaits.drop d.pair.sendWaits.length).map mark }

/-- Every item of R404 as it stands: STAGE pages in use, SJOURNAL, MAPLOG, ADMIN, COVEIMG and every CONFIG record (R407 step 2). Units
and pages that hold nothing are not sent: SYNC_BEGIN has emptied them (log entry 19). -/
def sendAll (m : Memory) (d : Dev) : Dev :=
  let d1 := (d.pool.pages.filter (fun e => e.2.life != .filling)).foldl (fun a e => mirrorPage e.1 e.2.tag (pageText a e.2) false a) d
  let d2 := (d1.str.rows.filter (fun e => e.2.inJournal)).foldl (fun a e => mirrorJournal e.2 a) d1
  let d3 := mirrorHeader (d2.str.log.foldl (fun a r => mirrorLogRec r a) d2)
  let d4 := d3.pool.marks.foldl (fun a e => writeMark e.1 e.2 a) d3
  let nss := d4.host.nss.map (·.1)
  let d5 := nss.foldl (fun a n => mirrorKeyIndex n (mirrorFormat n (mirrorNamespace n a))) d4
  let d6 := d5.str.shoals.foldl (fun a e => mirrorAdmin 38 e.1 1 a) (mirrorAdmin 36 0 1 d5)
  let d7 := d6.pool.imgUsed.foldl (fun a i =>
    (List.range 16).foldl (fun b k => mirrorRegion (imagePage b i + k) 0
      ((List.range 64).map (fun u => leNum (mgets m (pageAddr (imagePage b i + k) + 64 * u) 64))) b) a) d6
  let d8 := (d7.cove.tab.map (·.1)).foldl (fun a c => mirrorCove c a) d7
  let d9 := (d8.cove.bindings.map (·.1)).foldl (fun a i => mirrorBinding i a) d8
  let d10 := d9.host.resv.foldl (fun a r => mirrorConfig 4 (resvBytes r.2) a) d9
  let d11 := d10.keys.nsKeys.foldl (fun a k => mirrorConfig 5 (keyRecord k.2) a) d10
  d11.keys.slots.foldl (fun a r => mirrorConfig 6 (slotRecord r.2) a) d11

/-- The serving side brings the joining side into the pair (R407): SYNC_BEGIN, the items of R404 with SYNC set, SYNC_END. -/
def beginSync (m : Memory) (d : Dev) : Dev :=
  let d1 := straitControl 3 [] { d with pair.syncing := true, pair.syncEnd := none, pair.txMseq := 0, pair.ackMseq := 0
                                        pair.mirrorPages := [] }
  let d2 := asSync (sendAll m) d1
  straitControl 4 (leBytes d2.pair.txMseq 4) { d2 with pair.syncEnd := some d2.pair.txMseq }

/-- Can this side serve a joining one: SOLO, READY, with no shelf record on its way (R407)? -/
def servesPair (d : Dev) : Bool :=
  d.pair.role == .solo && d.pool.state == .ready && !d.pair.recordPending && !d.pair.partnerWait && !d.pair.joinWait &&
    !d.pair.liveRecovery && d.pair.takeover == .none

/-- Pair with the partner whose HELLO stands (R406, R407). The joining side waits for SYNC_BEGIN. A side FENCED with reason 6 does
not: only R419 ends that (R410). -/
def tryPair (d : Dev) (m : Memory) : Dev × Memory :=
  match d.pair.helloIn with
  | none => (d, m)
  | some x =>
    if !d.pair.straitUp ∨ d.pair.partner = 2 ∨ d.pair.syncing ∨ (chartOf d).laneMode = 1 ∨ !(joining d || servesPair d) ∨
        (d.pair.role = .fenced ∧ d.pair.fenceReason = 6) then (d, m)
    else match helloCode d x with
      | some c => (refusePair c (straitControl 2 (leBytes c 1) d), m)
      | none =>
        let d1 := if d.pair.partner = 0 then emit .fencePulse { d with pair.partner := 1 } else d
        let d2 := if d1.pair.shelfId = 0 then { d1 with pair.shelfId := x.shelfId } else d1
        match exchangeOf d2 x (decide (x.digest = ownDigest d2 m)) with
        | .agreed => (if joining d2 then d2 else beginSync m d2, m)
        | .take k => ({ d2 with chart.adopt := k, chart.partnerImage := [] }, m)
        | .send =>
          let len := imageLen (runImage d2 m)
          let d3 := sendChunks (mgets m (chartAddr d2 d2.chart.runSlot) len) 0 1025 d2
          (if joining d3 ∧ x.chartDiff = 2 then { d3 with pair.mixed := true } else d3, m)
        | .refused c => (refusePair c (straitControl 2 (leBytes c 1) d2), m)

/-- This side has taken the partner's Chart (R406): a joining side says HELLO again, a serving side goes on to the sync. -/
def chartTaken (d : Dev) (m : Memory) : Dev × Memory :=
  if d.pair.partner ≠ 1 then (d, m)
  else
    let d1 := { d with pair.helloIn := d.pair.helloIn.map (fun x => { x with chartDiff := 0 }) }
    if joining d1 then (sendHello d1 m, m)
    else match d1.pair.helloIn with
      | some x => if d1.pair.mixed then (beginSync m d1, m) else tryPair { d1 with pair.helloIn := some { x with digest := ownDigest d1 m } } m
      | none => (d1, m)

/-- A stored image (02 R56, 13 R406): a serving side that has stored the image of a mixed pair goes on. -/
def chartStored (ok : Bool) (d : Dev) (m : Memory) : Dev × Memory :=
  let e := storeDone ok d m
  if d.chart.adopt = 3 ∧ e.1.pair.mixed then chartTaken e.1 e.2 else e

/-- CHART_SWITCH_DONE (02 R52 step 6, 13 R406). -/
def chartSwitched (d : Dev) (m : Memory) : Dev × Memory :=
  let d1 := switchDone d
  if d.chart.adopt = 1 ∧ d1.chart.state = .idle then chartTaken d1 m else (d1, m)

/-! ## The writer's start (R393, R396, R408, 03 R91) -/

/-- The side that becomes writer draws SHELF_ID where Shoal assembly found no label (R393). -/
def drawShelf (d : Dev) : Dev :=
  if d.pair.shelfId = 0 then
    let (v, d1) := draw d
    { d1 with pair.shelfId := v % 2 ^ 128 }
  else d

/-- The writer acquires the reservation before its first write (R396); where the other side wrote the record it preempts (log entry
22). -/
def acquireStart (d : Dev) : Dev :=
  acquired (acquireAll (d.pair.record.any (fun r => r.writer != d.pair.side)) false d)

/-- An eligible side starts SOLO (R408): PAIR_EPOCH + 1 with MODE SOLO, and recovery over the local pages. -/
def startSolo (d : Dev) : Dev :=
  replay (recordBegin .start 1 (some .solo)
    (acquireStart (drawShelf { d with pair.partnerWait := false, pair.settleWait := false, pair.joinWait := false })))

/-- Is the partner eligible under the record (R408)? -/
def partnerEligible (d : Dev) (x : Hello) : Bool :=
  match d.pair.record with
  | none => true
  | some r => x.epoch == r.epoch && r.mode == 0

/-- Is this side the writer that the record names; side A where none does (log entry 22)? -/
def isWriter (d : Dev) : Bool := (d.pair.record.map (·.writer)).getD 0 == d.pair.side

/-- The non-writer sends every valid STAGE page, then SETTLE_END (R408). -/
def sendPages (d : Dev) : Dev :=
  let d1 := asSync (fun a => a.pool.pages.foldl (fun b e =>
    let data := leBytes (pageText d e.2) 4096
    straitSend { type := 1, page := e.1, payload := tagBytes e.2.tag data ++ data } b) a) d
  straitControl 5 (leBytes d.pool.pages.length 4) { d1 with pair.joinWait := true }

/-- This side is not eligible (R408): FENCED with reason 3, and bring-up goes on to step 10 with code 9 (15 R443). -/
def startFenced (d : Dev) : Dev :=
  let d1 := bringupFail 9 (becomeFenced 3 { d with pair.partnerWait := false })
  toStep10 d1

/-- The pair is settled (R408), in step 6 of 03 R91, from which POOL_STATUS.STATE reads REPLAYING (03 R96): with the partner seen both eligible sides unite their pages; an eligible side waits for a partner
that has not been seen. -/
def settlePair (seen : Bool) (d : Dev) (m : Memory) : Dev × Memory :=
  let d1 := { d with pair.partnerWait := false, pool.state := .replaying }
  if (chartOf d1).laneMode = 1 then (startSolo d1, m)
  else if d1.pair.foreignPool ∨ !recordEligible d1 then tryPair (startFenced d1) m
  else match (if seen then d1.pair.helloIn else none) with
    | none => ({ d1 with pair.partnerWait := true }, m)
    | some x =>
      if helloCode d1 x = some 1 ∨ helloCode d1 x = some 2 ∨ !partnerEligible d1 x then (startSolo d1, m)
      else if isWriter d1 then (acquireStart (drawShelf { d1 with pair.settleWait := true }), m)
      else tryPair (sendPages d1) m

/-- PAIR_SETTLE (R408): step 9 of bring-up, once every Shoal is assembled. -/
def execPairSettle (partnerSeen : Bool) (s : State) : Result :=
  onBoth s (fun d m =>
    if coreRuns d ∧ d.boot.step = 9 ∧ d.boot.code ≠ 8 ∧ d.pool.state = .recovering ∧ !d.pair.partnerWait ∧ !d.pair.settleWait ∧
        !d.pair.joinWait ∧ !d.pair.recordPending then settlePair partnerSeen d m
    else (d, m))

/-- PARTNER_WAIT_TIMEOUT (R408): 10 s after its Shoal assembly an eligible side starts SOLO. -/
def execPartnerWaitTimeout (s : State) : Result :=
  onDev s (fun d => if coreRuns d ∧ (d.pair.partnerWait ∨ d.pair.settleWait) then startSolo d else d)

/-- STRAIT_SETTLE_END (R408): the writer has the partner's pages, and completes recovery over the union. -/
def execStraitSettleEnd (h : StraitHdr) (_pages : Nat) (s : State) : Result :=
  onFrame h (fun d => if d.pair.settleWait then replay { d with pair.settleWait := false } else d) s

/-! ## Step 10 of R91, and the end of a recovery of a running side (R413) -/

/-- What a start, or a takeover, resumes when recovery has reached step 10 (07 R235, R237, R414). -/
def resumeWork (d : Dev) : Dev := resumeFormats (resumeSan d)

/-- Step 10 of R91: with no STAGE page held the pool is READY, under the running Chart's layout where it fits (02 R50); at a start
bring-up goes on to step 10. A side that was not stopped keeps its layout, reports ANA Optimized and admits again (R413 step 7). -/
def replayComplete (d : Dev) (m : Memory) : Dev × Memory :=
  if d.pool.state ≠ .replaying ∨ !d.pool.pages.isEmpty ∨ d.pair.recordPending then (d, m)
  else
    let e := if d.pair.liveRecovery then (d, m) else settleLayout (journalTop d) d.str.log.length d m
    let d1 := pruneShadows { e.1 with pool.state := .ready, pool.kept := [] }
    let d2 := logEvent 2 9 0 (payload 0 0 0 (d1.pool.discarded + d1.pool.restriped * 2 ^ 64)) (raisePool 3 d1)
    if d.pair.liveRecovery then
      let d3 := resumeWork (setAna false { d2 with pair.liveRecovery := false, host.admissionHeld := false })
      tryPair (resumeAll d3) e.2
    else tryPair (sendHello (toStep10 d2) e.2) e.2

/-- REPLAY_COMPLETE (R91). -/
def execReplayComplete (s : State) : Result := onBoth s replayComplete

/-- MBOX_SHELFKEY_LOAD (12 R376, R378): replay that waited for a KEK goes on. -/
def execMboxShelfkeyLoad (blob : List Byte) (persist : Bool) (s : State) : Result :=
  onMbox s (mboxRun (fun d =>
    let d1 := shelfkeyLoad blob persist d
    if d1.boot.replayHeld ∧ d1.keys.kek.isSome then replayKept d1 else d1))

/-! ## The shelf record is durable (R392) -/

/-- The swap is over at the incoming side (R415 step 6): SWAP_DONE, ANA Optimized, admission open. -/
def swapTaken (d : Dev) : Dev :=
  let d1 := straitControl 7 (leBytes d.clk.tod.s 8 ++ leBytes d.clk.tod.ns 4) { d with pair.swap := .none, pair.result := 1 }
  resumeAll (raisePair 0 (setAna false { d1 with host.admissionHeld := false }))

/-- The shelf record goes to the members beside the keepers (12 R382). -/
def spreadRecord (r : ShelfRecord) (d : Dev) : Dev :=
  let ks := d.str.shoals.flatMap (fun e => keepersOf d e.1)
  ((configBays d).filter (fun b => !ks.contains b)).foldl (fun a b =>
    memberIssue b (.recordWrite (shelfLba r.epoch) (shelfRecordBytes r d.clk.tod.s)) a) d

/-- The new epoch stands (R392): the role that it brings begins, and member writes that waited are issued. -/
def epochDurable (d : Dev) : Dev :=
  match d.pair.recordNext with
  | none => d
  | some r =>
    let cause := d.pair.recordFor
    let d0 := recordsWritten (fun _ c => writesLba (fun l => l == shelfLba r.epoch) c) d
    let d1 := { d0 with pair.epoch := r.epoch, pair.record := some r, pair.recordPending := false, pair.recordNext := none
                        pair.recordRole := none, shelf.heldOps := [] }
    let d2 := match d.pair.recordRole with
      | some x => setRole x d1
      | none => d1
    let d3 := match cause with
      | .pairing => raisePair 2 { d2 with pair.partner := 2, pair.syncing := false }
      | .solo => settleWrites d2
      | .swap => swapTaken d2
      | _ => d2
    let d4 := d.shelf.heldOps.foldl (fun a o => memberIssue o.1 o.2 a) (spreadRecord r d3)
    d4.str.shoals.foldl (fun a e => issueAll e.1 a) d4

/-- EPOCH_RECORD_DURABLE (R392). -/
def execEpochRecordDurable (s : State) : Result := onDev s epochDurable

/-! ## Frames of pairing -/

/-- A HELLO (R406): it settles a start that waits for it (R408), and pairs sides that can. A side that has not said HELLO on this link
does so. -/
def hello (x : Hello) (d : Dev) (m : Memory) : Dev × Memory :=
  let d1 := { d with pair.helloIn := some x }
  if d1.boot.step < 9 ∨ d1.pair.partner = 2 then (d1, m)
  else
    let d2 := if d1.pair.helloSent then d1 else sendHello d1 m
    if d2.pair.partnerWait then settlePair true d2 m else tryPair d2 m

/-- STRAIT_HELLO (R400, R406). -/
def execStraitHello (h : StraitHdr) (d : Hello) (s : State) : Result := onBoth s (takeFrame' h (hello d))

/-- A REFUSE (R406): the partner found what this side may not have found; a refusal known already stands. -/
def refusedBy (code : Nat) (d : Dev) : Dev :=
  if d.pair.helloIn.isNone ∧ d.pair.refuse = code then d else refusePair code d

/-- STRAIT_REFUSE (R400). -/
def execStraitRefuse (h : StraitHdr) (code : Nat) (s : State) : Result := onFrame h (refusedBy (code % 16)) s

/-- The joining side empties what the sync replaces (R391, R407): its pool's contents and the definitions. DESIGN CHOICE (log entry 33): it
keeps the layout that it has, without LAYOUT_KEPT, since it never comes to 03 R91 step 10, where 02 R50 settles the layout. -/
def syncBegin (d : Dev) : Dev :=
  if !joining d ∨ d.pair.partner = 2 then d
  else { emptySide { d with pair.partner := 1 } with pair.syncing := true, pair.rxMseq := 0, pair.poisoned := []
                                                     pool.state := .ready, boot.replayHeld := false }

/-- STRAIT_SYNC_BEGIN (R407). -/
def execStraitSyncBegin (h : StraitHdr) (s : State) : Result := onFrame h syncBegin s

/-- The sync is whole (R407 step 3): the joining side becomes STANDBY and is registered on every member (R396); a start goes on to
step 10. -/
def syncEnded (d : Dev) : Dev :=
  if !(joining d && d.pair.syncing) then d
  else
    let d1 := (memberBaysUp d).foldl (fun a b => memberIssue b (registerOp d) a) d
    let d2 := setRole .standby { d1 with pair.partner := 2, pair.syncing := false, pair.foreignPool := false
                                         shelf.drives := tall d1.shelf.drives (fun v => { v with registered := true, holder := false })
                                         shelf.heldOps := d1.shelf.heldOps.filter (fun o => !memberWrites o.2)
                                         host.anaChange := false }
    recheckHeads (raisePair 2 (toStep10 d2))

/-- STRAIT_SYNC_END (R407). -/
def execStraitSyncEnd (h : StraitHdr) (_mseq : Nat) (s : State) : Result :=
  onBoth s (takeFrame' h (fun d m => (sendMack (syncEnded d), m)))

/-- A MACK (R401): pages acknowledged complete their writes; one that covers SYNC_END ends the pairing's sync (R407 step 3). -/
def mack (mseq : Nat) (d : Dev) : Dev :=
  if !mirrors d then d
  else
    let d1 := { d with pair.ackMseq := max d.pair.ackMseq (min mseq d.pair.txMseq) }
    let d2 := match d1.pair.syncEnd with
      | some e => if e ≤ d1.pair.ackMseq then recordBegin .pairing 0 (some .active) { d1 with pair.syncEnd := none } else d1
      | none => d1
    settleResv (tryCompleteAll d2)

/-- STRAIT_MACK (R401). -/
def execStraitMack (h : StraitHdr) (mseq : Nat) (s : State) : Result := onFrame h (mack mseq) s

/-- The Strait trains (R397): a half-rate link logs a WARN event. Sides that may pair say HELLO; an ACTIVE side whose pair still
stands sends every item again (log entry 22). -/
def linkUp' (lanes : Nat) (d : Dev) (m : Memory) : Dev × Memory :=
  if !coreRuns d ∨ d.pair.straitUp ∨ (lanes ≠ 8 ∧ lanes ≠ 16) then (d, m)
  else
    let d1 := { d with pair.straitUp := true, pair.lanes := lanes, pair.txLseq := 0, pair.rxLseq := 0, pair.nakFor := none
                       pair.replayBuffer := [], pair.sendWaits := [] }
    let d2 := if lanes = 8 then logEvent 0x0C 5 1 (payload 0 16 8 0) d1 else d1
    if d2.pair.partner = 2 then (if d2.pair.role = .active then asSync (sendAll m) d2 else d2, m)
    else (if 9 ≤ d2.boot.step then sendHello d2 m else d2, m)

/-- STRAIT_LINK_UP (R397). -/
def execStraitLinkUp (lanes : Nat) (s : State) : Result := onBoth s (linkUp' lanes)

end Sys2Proof.Machine
end

