-- ==== Sys2Proof/Machine/Swap.lean ====
section
/-! DEFINITION. Planned role swaps (13 R415 to R417, 11 R355, R363) and the entries of the Tide Table (10 R324, R325). -/

namespace Sys2Proof.Machine

/-! ## Starting a swap (R415) -/

/-- Is a Cove RESETTING or freezing (11 R355)? -/
def coveBusy (d : Dev) : Bool := d.cove.tab.any (fun e => e.2.state == .resetting || e.2.freezing.isSome)

/-- A swap ends with a RESULT (R423, R425). -/
def swapEnds (result : Nat) (d : Dev) : Dev :=
  raisePair 0 { d with pair.swap := .none, pair.swapDeferred := false, pair.swapForFirmware := false, pair.result := result
                       host.fwActivating := if d.pair.swapForFirmware ∧ result ≠ 1 then none else d.host.fwActivating }

/-- Step 1 of R415: SWAP_PREPARE, with the instant. -/
def beginSwap (d : Dev) : Dev :=
  straitControl 6 (leBytes d.clk.tod.s 8 ++ leBytes d.clk.tod.ns 4) { d with pair.swap := .selftest, pair.swapDeferred := false }

/-- Start a swap: RESULT 2 where the conditions of R415 are not met; it waits while a Cove resets or freezes (11 R355). -/
def startSwap (d : Dev) : Dev :=
  if d.pair.swap ≠ .none ∨ d.pair.swapDeferred then d
  else if d.pair.role ≠ .active ∨ d.pair.partner ≠ 2 ∨ d.chart.state ≠ .idle then swapEnds 2 d
  else if coveBusy d then { d with pair.swapDeferred := true }
  else beginSwap d

/-- A swap that waited for the Coves goes ahead when none is busy, while its other conditions hold. -/
def deferredSwap (d : Dev) : Dev :=
  if !d.pair.swapDeferred ∨ coveBusy d then d
  else if d.pair.role ≠ .active ∨ d.pair.partner ≠ 2 then swapEnds 2 d
  else if d.chart.state ≠ .idle then d
  else beginSwap d

/-- PAIR_CTRL.SWAP (R424). -/
def execPairCtrlSwap (v : Reg) (s : State) : Result :=
  onDev s (whenReg (fun d => if pairCtrlOk (v ||| 1#32) then startSwap d else pairIgnore d))

/-- STRAIT_SWAP_PREPARE (R400, R415 step 1): the STANDBY side runs its self-test (R416). -/
def execStraitSwapPrepare (h : StraitHdr) (s : State) : Result :=
  onFrame h (fun d => if d.pair.role = .standby ∧ d.pair.partner = 2 then { d with pair.swap := .selftest } else d) s

/-! ## The pause (R415 steps 1 to 3, R417) -/

/-- Step 2 of R415 at the outgoing side: admission stops with capsules held, ANA Change, and open stripes are sealed. -/
def swapPause (d : Dev) : Dev :=
  let d1 := setAna true { d with pair.swap := .draining, pair.swapStart := elapsed d, host.admissionHeld := true }
  (d1.str.rows.filter (fun e => e.2.life == .opened)).foldl (fun a e => sealOrWait 1 e.2 a) d1

/-- The self-test failed at the STANDBY side (R416): planes that fail the link check leave service (09 R292). -/
def selftestFailed (planesBad : List Nat) (d : Dev) : Dev :=
  let d1 := raisePair 5 (logEvent 0x0C 4 2 (payload 0 0 0 0) { d with pair.selftestFail := true, pair.swap := .none })
  planesBad.foldl (fun a p => planeOut p a) d1

/-- The self-test has ended: at the STANDBY side that ran it, and at the ACTIVE side that asked for it, which defers the swap while a patch
is in WRITING or SWITCHING (02 R53). -/
def selftestDone (ok : Bool) (planesBad : List Nat) (d : Dev) : Dev :=
  if d.pair.swap ≠ .selftest then d
  else if d.pair.role = .standby then
    if ok then setAna true { d with pair.selftestFail := false } else selftestFailed planesBad d
  else if ok ∧ (d.chart.state = .writing ∨ d.chart.state = .switching) then
    { d with pair.selftestFail := false, pair.swap := .none, pair.swapDeferred := true }
  else if ok then swapPause { d with pair.selftestFail := false }
  else swapEnds 3 (logEvent 0x0C 4 2 (payload 0 0 0 0) { d with pair.selftestFail := true })

/-- SWAP_SELFTEST_DONE (R415, R416). -/
def execSwapSelftestDone (ok : Bool) (planesBad : List Nat) (s : State) : Result := onDev s (selftestDone ok planesBad)

/-- Milliseconds since the pause began. -/
def pauseSoFar (d : Dev) : Nat := min ((elapsed d - d.pair.swapStart) / 1000000) 65535

/-- SWAP_ABANDON_TIMER (R417): step 5 has not begun in time; the outgoing side admits again. The side that was to take over stands
down. -/
def swapAbandoned (d : Dev) : Dev :=
  match d.pair.swap with
  | .draining => resumeAll (swapEnds 4 (setAna false { d with host.admissionHeld := false, pair.pauseMs := pauseSoFar d }))
  | .selftest => if d.pair.role = .standby then setAna false { d with pair.swap := .none } else d
  | _ => d

/-- SWAP_ABANDON_TIMER (R417). -/
def execSwapAbandonTimer (s : State) : Result := onDev s swapAbandoned

/-! ## Handover (R415 steps 4 and 5) -/

/-- A set of numbers as the list of its members. -/
def setBytes (l : List Nat) : List Byte := leBytes l.length 4 ++ l.flatMap (fun n => leBytes n 8)

/-- The chunks of CONFIG KIND 8 (layout of log entry 19): ASN counters, Cove counter sets, written-block logs. -/
def handoverBytes (d : Dev) : List Byte :=
  d.host.nss.flatMap (fun n => leBytes n.1 4 ++ leBytes n.2.nextAsn 8)
    ++ d.cove.tab.flatMap (fun c => leBytes c.1 4 ++ c.2.counters.flatMap (fun x => leBytes x 8))
    ++ (d.cove.wbl.filter (fun w => w.2.running)).flatMap (fun w =>
      leBytes w.1 4 ++ leBytes w.2.swapAsn 8 ++ setBytes w.2.live ++ setBytes w.2.retired)

/-- Is everything that the pause waits for done (R415 steps 3 and 4)? -/
def swapReady (d : Dev) : Bool :=
  d.chart.state != .writing && d.chart.state != .switching && liveCmds d == 0 && d.str.rows.all (fun e => e.2.life == .committed) && decide (d.pair.ackMseq = d.pair.txMseq)

/-- SWAP_DRAINED (R415 step 4). -/
def execSwapDrained (s : State) : Result :=
  onDev s (fun d => if d.pair.swap = .draining ∧ swapReady d then
    mirrorConfig 8 (handoverBytes d) { d with pair.swap := .handover } else d)

/-- A written-block log that goes on running at the incoming side (11 R363). -/
def takeWbl (w : WblState) (d : Dev) : Dev :=
  { d with cove.wbl := tput d.cove.wbl w.nsid { running := true, swapAsn := w.swapAsn, live := w.live, retired := w.retired } }

/-- Take a namespace's counter from the other side (05 R147). One that has not passed its mark + 2^20 is the first after a resumption, and
is still to be written as a mark (R146). -/
def takeCounter (nsid next : Nat) (d : Dev) : Dev :=
  let must := match tget d.pool.marks nsid with
    | some m => decide (m + 2 ^ 20 ≤ next)
    | none => true
  { d with host.nss := tmod d.host.nss nsid (fun n => { n with nextAsn := next, mustMark := must, marking := false }) }

/-- The incoming side takes what is handed over and the mirrored map, and acquires with Preempt (R415 step 5). -/
def takeHandover (x : Handover) (wbls : List WblState) (d : Dev) : Dev :=
  if d.pair.swap ≠ .selftest ∨ d.pair.role ≠ .standby then d
  else
    let d1 := x.asnNext.foldl (fun a e => takeCounter e.1 e.2 a) d
    let d2 := x.counters.foldl (fun a e => modCove e.1 (fun r => { r with counters := e.2 }) a) d1
    let d3 := wbls.foldl (fun a w => takeWbl w a) { d2 with cove.wbl := [] }
    acquireAll true false (resumeGens (replayLog { d3 with pair.swap := .acquiring }))

/-- STRAIT_CONFIG_SWAP_HANDOVER (R399, R415 step 4). -/
def execStraitConfigSwapHandover (h : StraitHdr) (d : Handover) (wbls : List WblState) (s : State) : Result :=
  onMirror h (takeHandover d wbls) s

/-- SWAP_ACQUIRED (R415 step 5): every Preempt is complete, and the new epoch is recorded with this side as WRITER. -/
def execSwapAcquired (s : State) : Result :=
  onDev s (fun d => if d.pair.swap = .acquiring then
    recordBegin .swap 0 (some .active) (acquired { d with pair.txMseq := 0, pair.ackMseq := 0, pair.mirrorPages := [] }) else d)

/-! ## The outgoing side's end (R415 step 6, 07 R243) -/

/-- The downloaded image, as far as its header says. -/
def downloadBytes (d : Dev) : List Byte := mgets d.host.fwBuffer 0 (imageLen (fwDownload d))

/-- The new STANDBY side of a firmware update writes its image, selects it and restarts on it (07 R243 step 5). -/
def updateSelf (d : Dev) (m : Memory) : Dev × Memory :=
  match d.host.fwActivating with
  | none => (d, m)
  | some k =>
    let b := downloadBytes d
    let m1 := if d.host.fwBuffer.isEmpty then m else writeFwSlot d k b m
    (restartDevice false (writeBoot k 0 d.boot.lastGood d), m1)

/-- SWAP_DONE at the outgoing side: STANDBY, Inaccessible; the capsules it held go to the checks of 07 R208, which reject them. -/
def swapGiven (d : Dev) (m : Memory) : Dev × Memory :=
  if d.pair.swap ≠ .handover ∨ d.pair.role ≠ .active then (d, m)
  else
    let fw := d.pair.swapForFirmware
    let d1 := setRole .standby { d with pair.pauseMs := pauseSoFar d, host.admissionHeld := false, host.anaChange := false
                                        pair.mirrorPages := [], pair.rxMseq := 0
                                        shelf.drives := tall d.shelf.drives (fun v => { v with holder := false }) }
    let d2 := resumeAll (swapEnds 1 d1)
    if fw then updateSelf d2 m else (d2, m)

/-- STRAIT_SWAP_DONE (R400, R415 step 6). -/
def execStraitSwapDone (h : StraitHdr) (s : State) : Result := onBoth s (takeFrame' h swapGiven)

/-! ## The Tide Table (10 R323 to R326) -/

/-- A swap that waited for the Chart engine (10 R324). -/
def waitingSwap (d : Dev) : Dev :=
  if !d.clk.swapWaiting ∨ d.chart.state ≠ .idle then d
  else
    let d1 := { d with clk.swapWaiting := false }
    if (profileOf d1).swapPermit = 1 then startSwap d1 else logEvent 9 8 1 (payload 0 0 0 0) d1

/-- A SWAP entry at its instant (10 R324). -/
def swapEntry (i : Nat) (e : TideEntry) (d : Dev) : Dev :=
  let permit := ((profilesOf (chartOf d))[e.profile]?).any (fun p => p.swapPermit == 1)
  if permit ∧ (chartOf d).pair.swapEnable = 1 ∧ d.pair.role = .active ∧ d.pair.partner = 2 ∧ d.clk.todValid then
    if d.chart.state = .idle then startSwap d else { d with clk.swapWaiting := true }
  else logEvent 9 7 0 (payload i 0 0 0) d

/-- An entry of the Tide Table at its instant: the profile, the broadcast of a RACK entry, and the swap of a SWAP entry; an occurrence is
executed once (10 R323 to R325). -/
def tideEntry (period i : Nat) (d : Dev) : Dev :=
  match (entriesOf (chartOf d))[i]? with
  | none => d
  | some e =>
    let d1 := if d.clk.todValid then recompute d else d
    if d1.clk.executed.contains (period, i) then d1
    else
      let d2 := { d1 with clk.executed := d1.clk.executed ++ [(period, i)] }
      let d3 := if e.rack ∧ d2.clk.todValid then tlAnnounce 13 e.profile d2 else d2
      if e.swap then swapEntry i e d3 else d3

/-- TIDE_TABLE_ENTRY (10 R323). -/
def execTideTableEntry (period entry : Nat) (s : State) : Result := onDev s (tideEntry period entry)

/-- What the Chart engine does, after which a swap that waited for it follows (10 R324). -/
def thenSwap (f : Dev → Memory → Dev × Memory) (d : Dev) (m : Memory) : Dev × Memory :=
  let e := f d m
  (waitingSwap e.1, e.2)

/-- CHART_CHECK_DONE (02 R52). -/
def execChartCheckDone (partner : Option Bool) (s : State) : Result := onBoth s (thenSwap (checkDone partner))

/-- CHART_STORE_DONE (02 R56, 13 R406). -/
def execChartStoreDone (ok : Bool) (s : State) : Result := onBoth s (thenSwap (chartStored ok))

/-- CHART_CTRL_DISCARD (02 R53). -/
def execChartCtrlDiscard (v : Reg) (s : State) : Result :=
  onDev s (whenReg (fun d => waitingSwap (chartDiscard (v ||| 4#32) d)))

/-- CHART_READBACK_DONE (02 R52). -/
def execChartReadbackDone (ok : Bool) (s : State) : Result := onBoth s (thenSwap (readbackDone ok))

/-- CHART_SWITCH_DONE (02 R52 step 6). -/
def execChartSwitchDone (s : State) : Result := onBoth s (thenSwap chartSwitched)

end Sys2Proof.Machine
end

