-- ==== Sys2Proof/Machine/Tideline.lean ====
section
/-! DEFINITION. What the Tideline chain interface does with frames, timers and links (15 R451 to R460). -/

namespace Sys2Proof.Machine

/-! ## Receiving (R451 to R454, R456) -/

/-- A head that hears a frame originated with SRC 0 by another controller (R456): HEAD_CONFLICT, with a FAULT event. -/
def judgeHead (w : Word64) (d : Dev) : Dev :=
  if d.tline.head ∧ tlNumbered w ∧ tlSrc w = 0 ∧ tlType w ≠ 2 ∧ !d.tline.headConflict then
    logEvent 0x11 2 2 (payload 0 0 0 0) { d with tline.headConflict := true }
  else d

/-- Receive a frame on a link: nothing arrives on a link that is down; a frame that fails its CRC or has a reserved TYPE is dropped and
counted (R452). The command's own TYPE is the frame's (log entry 6). -/
def tlReceive (type : Nat) (onIn : Bool) (w : Word64) (f : Dev → Dev) (d : Dev) : Dev :=
  if !tlPowered d ∨ !(if onIn then d.tline.inUp else d.tline.outUp) then d
  else if !tlCrcOk w ∨ 14 ≤ tlType w then { d with tline.bad := satAdd 32 d.tline.bad 1 }
  else if tlType w ≠ type then d
  else f (judgeHead w d)

/-- A unicast frame for this controller's address; another is passed on (R454). -/
def tlMine (onIn : Bool) (w : Word64) (f : Dev → Dev) (d : Dev) : Dev :=
  if !tlBcast w ∧ d.tline.addr = some (tlDst w) then f d else tlPass onIn w d

/-- A broadcast: what it does here, and its passing on; one of this controller's own is dropped (R454). -/
def tlHeard (onIn : Bool) (w : Word64) (f : Dev → Dev) (d : Dev) : Dev :=
  tlPass onIn w (if d.tline.addr = some (tlSrc w) then d else f d)

/-! ## Numbering (R455, R456) -/

/-- Send a CLAIM for a candidate address with a value from the DRBG (R455 rule 2). -/
def tlClaim (candidate : Nat) (d : Dev) : Dev :=
  let (v, d1) := draw d
  tlBroadcast 2 candidate (v % 65536) false { d1 with tline.claim := some (v % 65536, candidate) }

/-- A NULL from a neighbour (R455): it tells the neighbour's address; an unnumbered controller claims the one after its upstream
neighbour's once it has started (19 R519), and stays unnumbered behind address 63. -/
def tlNullFrame (onIn : Bool) (w : Word64) (d : Dev) : Dev :=
  let a := if tlNumbered w then some (tlSrc w) else none
  if !onIn then { d with tline.downstream := a }
  else
    let d1 := { d with tline.upstream := a }
    if d1.tline.addr.isSome ∨ d1.tline.settled ∨ d1.tline.claim.isSome ∨ !tlNumbered w ∨ !d1.boot.started then d1
    else if tlSrc w = 63 then { d1 with tline.settled := true }
    else tlClaim (tlSrc w + 1) d1

/-- TLINE_NULL (R453, R455). -/
def execTlineNull (onIn : Bool) (w : Word64) (s : State) : Result := onDev s (tlReceive 0 onIn w (tlNullFrame onIn w))

/-- TLINE_CLAIM (R455): the holder of the address denies it. -/
def execTlineClaim (onIn : Bool) (w : Word64) (s : State) : Result :=
  onDev s (tlReceive 2 onIn w (fun d =>
    if d.tline.addr = some (tlSrc w) then tlDrop (tlAnnounce 3 (tlPayload w % 65536) d) else tlPass onIn w d))

/-- TLINE_DENY (R455): a controller whose CLAIM is denied stays unnumbered. -/
def execTlineDeny (onIn : Bool) (w : Word64) (s : State) : Result :=
  onDev s (tlReceive 3 onIn w (tlHeard onIn w (fun d =>
    if d.tline.claim.any (fun c => c.1 == tlPayload w % 65536) then { d with tline.claim := none, tline.settled := true } else d)))

/-- TLINE_CLAIM_TIMEOUT (R455): no DENY within 2 ms. -/
def execTlineClaimTimeout (s : State) : Result :=
  onDev s (fun d => match d.tline.claim with
    | some (_, c) => tlTake c d
    | none => d)

/-- TLINE_IN_TIMEOUT (R455 rules 3 and 4): TLI_IN has not come up within 100 ms. -/
def execTlineInTimeout (s : State) : Result :=
  onDev s (fun d => if !tlPowered d ∨ d.tline.inUp ∨ d.tline.settled ∨ d.tline.addr.isSome ∨ !d.boot.started then d
    else match d.tline.stored with
      | some a => tlTake a d
      | none => { d with tline.settled := true })

/-- ENUM downstream from this controller's address (R456). -/
def tlEnum (d : Dev) : Dev :=
  match d.tline.addr with
  | some a => tlSend true (tlFrame 4 false true 0 a 0 0) d
  | none => d

/-- The mailbox commands that wait for the local address complete (18 R505). -/
def tlSettled (d : Dev) : Dev :=
  if d.host.waits.any (fun w => w.kind == 9) then
    mboxOk 0 { d with host.waits := d.host.waits.filter (fun w => w.kind != 9) }
  else d

/-- An ENUM on TLI_IN (R456): the controller takes SRC + 1, stores it and sends its own ENUM downstream; not before it has
started, when it originates no frame (19 R519). -/
def tlEnumerate (onIn : Bool) (w : Word64) (d : Dev) : Dev :=
  if !onIn ∨ d.tline.head ∨ tlSrc w = 63 ∨ !d.boot.started then d
  else
    let a := tlSrc w + 1
    let d1 := { tlTake a d with tline.reenums := d.tline.reenums + 1 }
    tlSettled (logEvent 0x11 3 0 (payload 0 (d.tline.addr.getD 0xFF) a 0) (tlEnum d1))

/-- TLINE_ENUM (R456). -/
def execTlineEnum (onIn : Bool) (w : Word64) (s : State) : Result := onMbox s (tlReceive 4 onIn w (tlEnumerate onIn w))

/-- TLINE_REENUM_REQ (R456): the head sends ENUM, unless it has seen another head. -/
def execTlineReenumReq (onIn : Bool) (w : Word64) (s : State) : Result :=
  onDev s (tlReceive 5 onIn w (tlMine onIn w (fun d => if d.tline.head ∧ !d.tline.headConflict then tlEnum d else d)))

/-- The mailbox's re-enumeration (R456, 18 R505): the head starts it, any other controller asks the head, and completes when its
address is settled. -/
def tlReenum (d : Dev) : Dev :=
  if d.tline.head then mboxOk 0 (if d.tline.headConflict then d else tlEnum d)
  else tlUnicast 5 0 0 { d with host.waits := d.host.waits ++ [{ cntlid := 0, cid := 0, kind := 9 }] }

/-- MBOX_TLINE_REENUM (18 R505). -/
def execMboxTlineReenum (s : State) : Result := onMbox s (mboxRun tlReenum)

/-! ## Roster (R459) -/

/-- TLINE_IDENT (R459): the roster entry of its address. -/
def execTlineIdent (onIn : Bool) (w : Word64) (s : State) : Result :=
  onDev s (tlReceive 1 onIn w (tlHeard onIn w (fun d =>
    if tlNumbered w then { d with tline.roster := tput d.tline.roster (tlSrc w) { shelf := tlPayload w, at_ := (elapsed d : Int) } } else d)))

/-- TLINE_IDENT_TIMER (R453): every 100 ms. -/
def execTlineIdentTimer (s : State) : Result := onDev s (fun d => tlAnnounce 1 (shelfLow d) d)

/-! ## Queries and fences (R457) -/

/-- State of the controller as ANSWER gives it (R453, R457). -/
def tlState (d : Dev) : Nat :=
  if coreHeld d then 2 else if !coreRuns d then 3 else if d.pair.stalled then 1 else 0

/-- TLINE_QUERY (R457): the interface answers in logic. -/
def execTlineQuery (onIn : Bool) (w : Word64) (s : State) : Result :=
  onDev s (tlReceive 6 onIn w (tlMine onIn w (fun d =>
    tlUnicast 7 (tlSrc w) (tlState d * 2 ^ 30 + tlPayload w % 65536) d)))

/-- TLINE_ANSWER (R457, 13 R409): the answer to the QUERY that is out. -/
def execTlineAnswer (onIn : Bool) (w : Word64) (s : State) : Result :=
  onDev s (tlReceive 7 onIn w (tlMine onIn w (fun d =>
    if d.tline.query.any (fun q => q.1 == tlPayload w % 65536) then
      queryDone (if tlPayload w / 2 ^ 30 = 0 then .alive else .dead) d
    else d)))

/-- A FENCE or UNFENCE acts only from a neighbour that names this shelf (R457). -/
def tlFenceOk (d : Dev) (w : Word64) : Bool :=
  (d.tline.addr.any (fun a => tlSrc w == a + 1 || tlSrc w + 1 == a)) && tlPayload w == shelfLow d

/-- A FENCE (R457, 13 R410, R411): an ALIVE controller becomes FENCED with reason 1; any other is held in reset. -/
def tlFenced (src : Nat) (d : Dev) : Dev :=
  if tlState d = 0 then tlUnicast 10 src 0 (becomeFenced 1 d)
  else tlUnicast 10 src 1 (stopAndHold { d with boot.tlineHold := true, tline.fencedBy := some src })

/-- TLINE_FENCE (R457). -/
def execTlineFence (onIn : Bool) (w : Word64) (s : State) : Result :=
  onDev s (tlReceive 8 onIn w (tlMine onIn w (fun d => if tlFenceOk d w then tlFenced (tlSrc w) d else tlDrop d)))

/-- An UNFENCE (R457) releases a fence that came from the same SRC. -/
def tlUnfenced (src : Nat) (d : Dev) : Dev :=
  if d.boot.tlineHold ∧ d.tline.fencedBy = some src then
    beginStart { d with boot.tlineHold := false, tline.fencedBy := none }
  else d

/-- TLINE_UNFENCE (R457). -/
def execTlineUnfence (onIn : Bool) (w : Word64) (s : State) : Result :=
  onDev s (tlReceive 9 onIn w (tlMine onIn w (fun d => if tlFenceOk d w then tlUnfenced (tlSrc w) d else tlDrop d)))

/-- TLINE_FENCE_ACK (R457, 13 R410). -/
def execTlineFenceAck (onIn : Bool) (w : Word64) (s : State) : Result :=
  onDev s (tlReceive 10 onIn w (tlMine onIn w fenceAcked))

/-! ## Time of day (R458) -/

/-- Is this controller a time origin: LOCKED to PTP or PPS_IN? -/
def tlOrigin (d : Dev) : Bool :=
  coreRuns d && d.clk.state == 0 && decide (1 ≤ d.clk.source ∧ d.clk.source ≤ 3)

/-- Is a time frame's origin accepted: the only one heard, or the lower SRC? -/
def tlAccepts (d : Dev) (w : Word64) : Bool :=
  d.tline.addr != some (tlSrc w) && (match d.tline.timeOrigin with
    | none => true
    | some o => decide (tlSrc w ≤ o))

/-- Regenerate an accepted time frame on the other link, keeping SRC and adding one to HOP; an origin does not. -/
def tlRegenerate (onIn : Bool) (w : Word64) (payload_ : Nat) (d : Dev) : Dev :=
  if tlOrigin d then d
  else tlSend onIn (tlFrame (tlType w) (tlBcast w) (tlNumbered w) (tlDst w) (tlSrc w) (tlHop w + 1) payload_) d

/-- TLINE_TIME_S (R458): the seconds of the coming boundary. -/
def execTlineTimeS (onIn : Bool) (w : Word64) (s : State) : Result :=
  onDev s (tlReceive 11 onIn w (fun d =>
    if tlAccepts d w then
      tlRegenerate onIn w (tlPayload w) { d with tline.timeS := some (tlPayload w), tline.timeOrigin := some (tlSrc w) }
    else d))

/-- An accepted TIME_MARK (R458): the boundary was OFFSET_NS and 10 ns ago; the regenerated frame's own OFFSET_NS is an open value (log
entry 3). -/
def tlMark (onIn : Bool) (w : Word64) (d : Dev) : Dev :=
  match d.tline.timeS with
  | none => d
  | some sec =>
    let (v, d1) := openValue { d with tline.timeHops := tlHop w, tline.timeS := none }
    let d2 := tlRegenerate onIn w v d1
    if coreRuns d2 then measure 4 ((todNs d2 : Int) - ((sec * 1000000000 + tlPayload w + 10 : Nat) : Int)) d2 else d2

/-- TLINE_TIME_MARK (R458). -/
def execTlineTimeMark (onIn : Bool) (w : Word64) (s : State) : Result :=
  onDev s (tlReceive 12 onIn w (fun d =>
    if d.tline.addr ≠ some (tlSrc w) ∧ d.tline.timeOrigin = some (tlSrc w) then tlMark onIn w d else d))

/-- TLINE_TIME_ORIGIN_TICK (R458): an origin sends TIME_S for the coming boundary and then TIME_MARK on both links; a head in conflict
sends neither (R456). -/
def tlOriginTick (d : Dev) : Dev :=
  match d.tline.addr with
  | none => d
  | some a =>
    if !tlOrigin d ∨ (d.tline.head ∧ d.tline.headConflict) then d
    else
      let ts := tlFrame 11 false true 0 a 0 ((d.clk.tod.s + 1) % 2 ^ 32)
      let (v, d1) := openValue (tlSend false ts (tlSend true ts d))
      let tm := tlFrame 12 false true 0 a 0 v
      tlSend false tm (tlSend true tm d1)

/-- TLINE_TIME_ORIGIN_TICK (R458). -/
def execTlineTimeOriginTick (s : State) : Result := onDev s tlOriginTick

/-- TLINE_TIME_TIMEOUT (R458, 10 R315): 3 s after the last accepted TIME_MARK the source is invalid. -/
def execTlineTimeTimeout (s : State) : Result :=
  onDev s (fun d => dropSource 4 { d with tline.timeOrigin := none, tline.timeS := none, tline.timeHops := 0 })

/-- TLINE_PROFILE (R459, 10 R325): applied only while the own table is suspended, for an index that it has. -/
def execTlineProfile (onIn : Bool) (w : Word64) (s : State) : Result :=
  onDev s (tlReceive 13 onIn w (tlHeard onIn w (fun d =>
    let p := tlPayload w % 256
    if coreRuns d ∧ d.clk.suspended ∧ p < (profilesOf (chartOf d)).length then setProfile p d else d)))

/-! ## Links (R451) -/

/-- TLINE_LINK_UP (R451). -/
def execTlineLinkUp (onIn : Bool) (s : State) : Result :=
  onDev s (fun d => if !tlPowered d then d
    else if onIn then tlNull false { d with tline.inUp := true } else tlNull true { d with tline.outUp := true })

/-- TLINE_LINK_DOWN (R451): no neighbour is known on it, and the frames queued for it are lost (log entry 18). -/
def execTlineLinkDown (onIn : Bool) (s : State) : Result :=
  onDev s (fun d => if onIn then { d with tline.inUp := false, tline.upstream := none, tline.inQ := [], tline.inNull := false }
    else { d with tline.outUp := false, tline.downstream := none, tline.outQ := [], tline.outNull := false })

/-! ## The status table (R460) -/

/-- STATE of the chain status. -/
def tlStateNum (t : TlineSt) : Nat := if t.addr.isSome then 0 else if t.settled then 2 else 1

/-- The 576-byte chain status (R460). -/
def tlTable (d : Dev) : List Byte :=
  let t := d.tline
  let byte := fun (o : Option Nat) => leBytes (o.getD 0xFF) 1
  let flags := b2n t.head + 2 * b2n t.headConflict + 4 * b2n t.inUp + 8 * b2n t.outUp + 16 * b2n (tlOrigin d) + 32 * b2n d.clk.tline.valid
  let head := byte t.addr ++ leBytes (tlStateNum t) 1 ++ leBytes flags 1 ++ byte t.upstream ++ byte t.downstream ++ byte t.timeOrigin
    ++ leBytes t.timeHops 1 ++ zeros 1 ++ leBytes t.bad 4 ++ leBytes t.dropped 4 ++ leBytes t.reenums 4 ++ zeros 44
  head ++ (List.range 64).flatMap (fun a => match tget t.roster a with
    | some r => leBytes r.shelf 4 ++ leBytes (min (((elapsed d : Int) - r.at_).toNat / 1000000) 65535) 2 ++ leBytes 1 1 ++ zeros 1
    | none => zeros 8)

end Sys2Proof.Machine
end

