-- ==== Sys2Proof/Machine/Firmware.lean ====
section
/-! DEFINITION. Firmware download, commit and activation (07 R242 to R245, 15 R447, R448), and the mailbox commands on fuses, addresses and
power (18 R505). -/

namespace Sys2Proof.Machine

/-! ## Download and commit (07 R242) -/

/-- FIRMWARE_IMAGE_DOWNLOAD (07 R242): a piece past the size of a slot is an invalid field. -/
def execFirmwareImageDownload (cntlid cid offset : Nat) (bytes : List Byte) (s : State) : Result :=
  onMbox s (admin cntlid cid .cove0 (fun d =>
    if fwSlotSize < offset + bytes.length then badField cntlid cid d
    else succeed cntlid cid { d with host.fwBuffer := mputs d.host.fwBuffer offset bytes }))

/-- Invalid Firmware Slot (NVM Express Base Specification; log entry 17). -/
def badSlot : Status := cmdSpec 0x06

/-- Invalid Firmware Image (07 R242). -/
def badImage : Status := cmdSpec 0x07

/-- Firmware Activation Requires Conventional Reset (07 R243, R245). -/
def needsReset : Status := cmdSpec 0x0B

/-- May a controller, or the MHI, issue a command now that is open to Cove 0 and the MHI (as `admin`)? -/
def cove0Runs (c : Nat) (d : Dev) : Bool :=
  if c = 0 then d.mhi.mboxReady && (!d.mhi.mboxBusy || d.mhi.mboxPending)
  else (ctrlOf d c).any (fun k => k.enabled && !k.ended && k.cove == 0)

/-- A commit for one of the two slots: its check, or its effect on the device and the flash. -/
def fwCommit (slot c cid : Nat) (check : Dev → Memory → Option Status) (f : Dev → Memory → Dev × Memory) (s : State) : Result :=
  onMboxMem s (fun d m =>
    let verdict := fun (a : Dev) => if 2 ≤ slot then some badSlot else check a m
    let d1 := admin c cid .cove0 (fun a => match verdict a with
      | some st => answerAdmin c cid st 0 a
      | none => (f a m).1) d
    (d1, if cove0Runs c d ∧ verdict d = none then (f d m).2 else m))

/-- Is the downloaded image one that no slot takes (15 R448)? -/
def downloadBad (d : Dev) (_m : Memory) : Option Status :=
  if d.host.fwBuffer.isEmpty ∨ !fwOk d (fwDownload d) then some badImage else none

/-- Put the downloaded image into a slot; the buffer is then empty. -/
def storeDownload (slot : Nat) (d : Dev) (m : Memory) : Dev × Memory :=
  ({ d with host.fwBuffer := [] }, writeFwSlot d slot (downloadBytes d) m)

/-- Name a slot for the next start (15 R447). -/
def selectSlot (slot : Nat) (d : Dev) : Dev := writeBoot slot 0 d.boot.lastGood d

/-- FIRMWARE_COMMIT_REPLACE (07 R242, CA 000b). -/
def execFirmwareCommitReplace (cntlid cid slot : Nat) (s : State) : Result :=
  fwCommit slot cntlid cid downloadBad (fun d m =>
    let e := storeDownload slot d m
    (succeed cntlid cid e.1, e.2)) s

/-- FIRMWARE_COMMIT_REPLACE_ACTIVATE (07 R242, CA 001b). -/
def execFirmwareCommitReplaceActivate (cntlid cid slot : Nat) (s : State) : Result :=
  fwCommit slot cntlid cid downloadBad (fun d m =>
    let e := storeDownload slot d m
    (succeed cntlid cid (selectSlot slot e.1), e.2)) s

/-- FIRMWARE_COMMIT_ACTIVATE (07 R242, CA 010b): the slot's own image is checked. -/
def execFirmwareCommitActivate (cntlid cid slot : Nat) (s : State) : Result :=
  fwCommit slot cntlid cid (fun d m => if fwOk d (fwImage d m slot) then none else some badImage)
    (fun d m => (succeed cntlid cid (selectSlot slot d), m)) s

/-! ## Activation now (07 R243 to R245) -/

/-- What refuses CA 011b: an image that fails its check, the role (a FENCED side by log entry 18), an activation under way, or the partner
(R243). -/
def activateBad (slot : Nat) (partnerOk : Bool) (d : Dev) (m : Memory) : Option Status :=
  let good := if d.host.fwBuffer.isEmpty then fwOk d (fwImage d m slot) else fwOk d (fwDownload d)
  if d.pair.role = .standby ∨ d.host.fwActivating.isSome then some (gen 0x0C)
  else if !good then some badImage
  else if d.pair.role = .fenced ∨ (d.pair.role = .active ∧ !partnerOk) then some needsReset
  else none

/-- Every controller's CSTS.PP (R244). -/
def setPp (on : Bool) (d : Dev) : Dev := { d with host.ctrls := tall d.host.ctrls (fun k => { k with pp := on }) }

/-- Activation in the SOLO role (R244 step 1): the image is in its slot for the next start too (R245), and admission stops. -/
def activateSolo (slot c cid : Nat) (d : Dev) (m : Memory) : Dev × Memory :=
  let e := if d.host.fwBuffer.isEmpty then (d, m) else storeDownload slot d m
  let d1 := selectSlot slot e.1
  (setPp true { d1 with host.fwActivating := some slot, host.admissionHeld := true
                        host.waits := d1.host.waits ++ [{ cntlid := c, cid := cid, kind := 5, subject := slot }] }, e.2)

/-- Activation on a pair (R243 steps 3 and 4): success, the notice to every controller, and the role swap. -/
def activatePair (slot c cid : Nat) (d : Dev) : Dev :=
  startSwap (postAll { type := 2, info := 1, log := 3 }
    (succeed c cid { d with host.fwActivating := some slot, pair.swapForFirmware := true }))

/-- FIRMWARE_COMMIT_ACTIVATE_NOW (07 R242, CA 011b): `partnerOk` says that the partner has taken the image and rejoined. -/
def execFirmwareCommitActivateNow (cntlid cid slot : Nat) (partnerOk : Bool) (s : State) : Result :=
  fwCommit slot cntlid cid (activateBad slot partnerOk)
    (fun d m => if d.pair.role = .active then (activatePair slot cntlid cid d, m) else activateSolo slot cntlid cid d m) s

/-- The commit that waits for an activation. -/
def fwWait (d : Dev) (drained : Nat) : Option AdminWait := d.host.waits.find? (fun w => w.kind == 5 && w.arg == drained)

/-- FW_ACTIVATION_DRAINED (R244 step 2): every admitted command is terminal. -/
def execFwActivationDrained (s : State) : Result :=
  onDev s (fun d => if (fwWait d 0).isSome ∧ liveCmds d = 0 then
    { d with host.waits := d.host.waits.map (fun w => if w.kind = 5 then { w with arg := 1 } else w) } else d)

/-- Admission resumes after an activation, done or abandoned (R244 step 4, R245): the commit completes. -/
def endActivation (w : AdminWait) (st : Status) (d : Dev) : Dev :=
  let d1 := setPp false { d with host.fwActivating := none, host.admissionHeld := false, host.waits := d.host.waits.filter (fun x => x.kind != 5) }
  answerAdmin w.cntlid w.cid st 0 (resumeAll d1)

/-- FW_ACTIVATION_RESUME (R244 steps 3 and 4): the new firmware runs; keep-alive timers restart (07 R241). -/
def fwResume (d : Dev) (m : Memory) : Dev :=
  match fwWait d 1 with
  | none => d
  | some w =>
    let g := fwImage d m w.subject
    endActivation w ok { d with mhi.fwVersion := fwVersionOf g, boot.fwSvn := g 0x14, boot.fwSlot := w.subject }

/-- FW_ACTIVATION_RESUME (R244). -/
def execFwActivationResume (s : State) : Result := onMboxMem s (fun d m => (fwResume d m, m))

/-- FW_ACTIVATION_TIMEOUT (R245): the drain has not completed within 100 ms; the image stays in its slot. -/
def execFwActivationTimeout (s : State) : Result :=
  onMbox s (fun d => match fwWait d 0 with
    | some w => endActivation w needsReset d
    | none => d)

/-- GET_LOG_FIRMWARE_SLOT (07 R224): the slot that runs and the next one, and the VERSION of each slot's image (layout of log entry 17). -/
def execGetLogFirmwareSlot (cntlid cid offset len : Nat) (s : State) : Result :=
  onMboxMem s (fun d m =>
    let rev := fun (k : Nat) => if fwHeaderOk (fwImage d m k) then leBytes (fwVersionOf (fwImage d m k)) 8 else zeros 8
    let page := leBytes (d.boot.fwSlot + 1 + 16 * (d.boot.nextSlot + 1)) 1 ++ zeros 7 ++ rev 0 ++ rev 1 ++ zeros 488
    (admin cntlid cid .hosts (logPage cntlid cid offset len page) d, m))

/-! ## Fuses (15 R448, 18 R505) -/

/-- MBOX_FW_FUSE_SVN (15 R448): the fused version rises to that of the running image. -/
def execMboxFwFuseSvn (guard_ : Nat) (s : State) : Result :=
  onMbox s (mboxRun (fun d =>
    if guard_ ≠ 0xA5 then mboxStatus 2 d
    else
      let v := max d.boot.fuses.svn d.boot.fwSvn
      mboxOk v { d with boot.fuses.svn := v }))

/-- MBOX_SIGNER_KEY_PROGRAM (18 R505): STATUS 3 for a slot that is already programmed. -/
def execMboxSignerKeyProgram (slot guard_ : Nat) (hash : List Byte) (s : State) : Result :=
  onMbox s (mboxRun (fun d =>
    if 4 ≤ slot ∨ guard_ ≠ 0xA5 ∨ hash.length ≠ 48 then mboxStatus 2 d
    else if thas d.boot.fuses.signer slot then mboxStatus 3 d
    else mboxOk 0 { d with boot.fuses.signer := tput d.boot.fuses.signer slot (leNum hash) }))

/-- Signer slots that are programmed and not revoked. -/
def goodSigners (d : Dev) : List Nat :=
  (d.boot.fuses.signer.map (·.1)).filter (fun k => !d.boot.fuses.signerRevoked.getLsbD k)

/-- MBOX_SIGNER_KEY_REVOKE (18 R505): STATUS 3 for the last slot that is good; STATUS 5 for one never programmed (log entry 18). -/
def execMboxSignerKeyRevoke (slot guard_ : Nat) (s : State) : Result :=
  onMbox s (mboxRun (fun d =>
    if 4 ≤ slot ∨ guard_ ≠ 0xA5 then mboxStatus 2 d
    else if !thas d.boot.fuses.signer slot then mboxStatus 5 d
    else if goodSigners d = [slot] then mboxStatus 3 d
    else mboxOk 0 { d with boot.fuses.signerRevoked := setBit d.boot.fuses.signerRevoked slot }))

/-! ## Addresses and power (08 R249, 18 R505) -/

/-- Is an address record within its ranges (18 R505)? -/
def netAddrOk (a : NetAddr) : Bool :=
  decide (a.index < 32) && (a.family == 4 && decide (a.prefixLen ≤ 32) || a.family == 6 && decide (a.prefixLen ≤ 128)) &&
    decide (a.home < 32) && decide (a.backups.length ≤ 3) && a.backups.all (fun l => decide (l < 32)) && decide (a.vlan < 4096)

/-- MBOX_NET_ADDR_SET (18 R505): the address begins at its home link, or at a backup link while that is down (08 R249). -/
def execMboxNetAddrSet (a : NetAddr) (persist : Bool) (s : State) : Result :=
  onMbox s (mboxRun (fun d =>
    if !netAddrOk a then mboxStatus 2 d
    else
      let d1 := moveAll { d with net.addrs := tput d.net.addrs a.index { rec_ := a, link := a.home } }
      mboxOk 0 (noteFlash d (if persist then { d1 with net.persisted := tput d1.net.persisted a.index a } else d1))))

/-- MBOX_NET_ADDR_CLEAR (18 R505). -/
def execMboxNetAddrClear (index : Nat) (persist : Bool) (s : State) : Result :=
  onMbox s (mboxRun (fun d =>
    if 32 ≤ index then mboxStatus 2 d
    else if !thas d.net.addrs index then mboxStatus 5 d
    else
      let d1 := { d with net.addrs := terase d.net.addrs index }
      mboxOk 0 (noteFlash d (if persist then { d1 with net.persisted := terase d1.net.persisted index } else d1))))

/-- An address record (18 R505). -/
def netAddrBytes (a : NetAddr) : List Byte :=
  leBytes a.index 1 ++ leBytes a.family 1 ++ leBytes a.prefixLen 1 ++ leBytes a.home 1
    ++ (a.backups.flatMap (fun l => leBytes l 1) ++ List.replicate 3 0xFF#8).take 3 ++ zeros 1 ++ leBytes (a.vlan % 4096) 2 ++ zeros 6
    ++ leBytes a.address 16 ++ leBytes a.nextHop 16

/-- MBOX_NET_ADDR_LIST (18 R505): 32 records, one that is not set as zeros (log entry 18). -/
def execMboxNetAddrList (s : State) : Result :=
  onMbox s (mboxRun (fun d => mboxDone { status := 0, bytes := (List.range 32).flatMap (fun i => match tget d.net.addrs i with
    | some a => netAddrBytes a.rec_
    | none => zeros 48) } d))

/-- MBOX_POWER_STATE (18 R505, 07 R232). -/
def execMboxPowerState (ps : Nat) (s : State) : Result :=
  onMbox s (mboxRun (fun d => if 3 < ps then mboxStatus 2 d else mboxOk 0 (setPower ps d)))

end Sys2Proof.Machine
end

