-- ==== Sys2Proof/Machine/Lighthouse.lean ====
section
/-! DEFINITION. The Lighthouse: rates, borrowing, capping, early replacement and the status table (14 R426 to R440). -/

namespace Sys2Proof.Machine

/-! ## Inputs (R426, R429) -/

/-- Has a LIVE stripe no strip of redundancy left (06 R187)? -/
def bare (d : Dev) (s : Stripe) : Bool :=
  s.life == .committed && decide ((stripeGeom d s).parity ≤ (missingPos d s).length)

/-- Has any LIVE stripe no redundancy (06 R187)? -/
def atRisk (d : Dev) : Bool := d.str.rows.any (fun e => bare d e.2)

/-- The active paths of every queue pair: how many, and how many of them have srtt beyond base + T_OFF (R429). -/
def pathPressure (d : Dev) : Nat × Nat :=
  d.net.qps.foldl (fun a q =>
    let ps := if q.2.error || q.2.released then [] else q.2.paths.filter (fun p => p.up && p.sampled)
    (a.1 + ps.length, a.2 + (ps.filter (fun p => decide (p.base + q.2.tOff < p.srtt))).length)) (0, 0)

/-- Median of a list of latencies; the lower one of two (log entry 23). -/
def median (l : List Nat) : Nat := (l.mergeSort (fun a b => decide (a ≤ b))).getD ((l.length - 1) / 2) 0

/-- Members with a latency measured, and those whose last p99 exceeds twice their 10-minute median (R429). -/
def slowPressure (d : Dev) : Nat × Nat :=
  let ms := d.shelf.drives.filter (fun e => !e.2.lats.isEmpty)
  (ms.length, (ms.filter (fun e => decide (2 * median e.2.lats < e.2.lats.headD 0))).length)

/-- A fraction in units of 2^-16; 0 of nothing. -/
def fraction (p : Nat × Nat) : Nat := if p.1 = 0 then 0 else p.2 * 65536 / p.1

/-- H in units of 2^-16 (R429): the largest of the fractions, where drives or Prism measure more than this model shows it comes with the
step (log entry 23). -/
def hostPressure (d : Dev) (measured : Nat) : Nat :=
  min 65536 (max (max measured (fraction (slowPressure d))) (max (fraction (d.path.deliveries, d.path.contended)) (fraction (pathPressure d))))

/-- The limit of the power state in force, in mW (07 R231). -/
def powerLimit (d : Dev) : Nat := [245000, 190000, 140000, 60000].getD d.host.power 245000

/-- Is power over the limit, a junction at 100 °C counted as such (R435)? -/
def overLimit (d : Dev) : Bool := decide (powerLimit d < d.mhi.power) || decide (100 ≤ d.mhi.temp)

/-- Is power at or below the limit less 5 W, and no junction above 95 °C (R435)? -/
def underLimit (d : Dev) : Bool := decide (d.mhi.power + 5000 ≤ powerLimit d) && decide (d.mhi.temp ≤ 95)

/-- Does the Lighthouse only advise (R428, R437)? -/
def advises (d : Dev) : Bool := (chartOf d).light.mode == 1

/-! ## Rates (R430) -/

/-- Lower and upper bound of the rebuild rate in MB/s (06 R187). -/
def rebuildBounds (d : Dev) : Nat × Nat :=
  let c := (chartOf d).light
  if atRisk d then (c.rebuildMax, c.rebuildMax) else (c.rebuildMin, min c.rebuildMax (profileOf d).rebuildCap)

/-- Lower and upper bound of an Ebb rate in MB/s (R430). -/
def ebbBounds (d : Dev) : Nat × Nat :=
  ((chartOf d).light.ebbMin, min (chartOf d).light.ebbMax (profileOf d).ebbCap)

/-- A value held within bounds. -/
def between (lo hi v : Nat) : Nat := max lo (min hi v)

/-- One step of a rate towards its target (R430), in units of 2^-16 MB/s. -/
def approach (b : Nat × Nat) (h rate : Nat) : Nat :=
  let span := b.2 - b.1
  let target := b.1 * 65536 + span * (65536 - h)
  let move := span * 4096
  between (b.1 * 65536) (b.2 * 65536) (min (max target (rate - move)) (rate + move))

/-- The rebuild rate that MODE 0 would apply (R430): the lower bound under capping stage 2 (R435). -/
def rebuildChosen (d : Dev) (h : Nat) : Nat :=
  let b := rebuildBounds d
  if 2 ≤ d.light.stage then b.1 * 65536 else approach b h d.light.rebuildRate

/-- The rebuild rate in force, in units of 2^-16 MB/s (R428, R435, R436). -/
def rebuildApplied (d : Dev) : Nat :=
  let b := rebuildBounds d
  if 2 ≤ d.light.stage then b.1 * 65536
  else if advises d ∨ d.light.fresh then b.2 * 65536
  else between (b.1 * 65536) (b.2 * 65536) d.light.rebuildRate

/-- The Ebb rate of a Shoal where a rule sets it outright (R430, R436): 0 at PRESS, EBB_CAP at or below FREE_RESERVE, and EBB_MIN
under capping stage 2. -/
def ebbForced (d : Dev) (sh : Nat) : Option Nat :=
  let b := ebbBounds d
  if 2 ≤ d.pool.level then some 0
  else if !aboveReserve d sh then some (b.2 * 65536)
  else if 2 ≤ d.light.stage then some (b.1 * 65536)
  else none

/-- The Ebb rate that was chosen for a Shoal; EBB_MIN before the first step. -/
def ebbRate (d : Dev) (sh : Nat) : Nat := (tget d.light.ebbRates sh).getD ((ebbBounds d).1 * 65536)

/-- The Ebb rate that MODE 0 would apply to a Shoal (R430). -/
def ebbChosen (d : Dev) (h sh : Nat) : Nat := (ebbForced d sh).getD (approach (ebbBounds d) h (ebbRate d sh))

/-- The Ebb rate of a Shoal in force (R428). -/
def ebbApplied (d : Dev) (sh : Nat) : Nat :=
  let b := ebbBounds d
  (ebbForced d sh).getD (if advises d ∨ d.light.fresh then b.1 * 65536 else between (b.1 * 65536) (b.2 * 65536) (ebbRate d sh))

/-- The borrowing limit that MODE 0 would apply after this step (R431). -/
def borrowChosen (d : Dev) : Nat :=
  let c := (chartOf d).light
  if c.borrow = 0 then 0
  else if 2 ≤ d.pool.level then d.light.borrow - c.borrowMax / 8
  else min c.borrowMax (d.light.borrow + c.borrowMax / 8)

/-- The borrowing limit in force (R428, R431). -/
def borrowApplied (d : Dev) : Nat := if (chartOf d).light.borrow = 0 then 0 else borrowMax d

/-! ## Decisions (R437, R438) -/

/-- The values that bound the rates, whose change a step can tell. -/
def boundsNow (d : Dev) : List Nat :=
  let c := (chartOf d).light
  [c.rebuildMin, c.rebuildMax, c.ebbMin, c.ebbMax, c.borrowMax, c.borrow, (profileOf d).rebuildCap, (profileOf d).ebbCap]

/-- Does the Lighthouse start anew at this step, or change its MODE (R436)? -/
def startsNow (d : Dev) : Bool := d.light.fresh || d.light.lastMode != (chartOf d).light.mode

/-- Reason of a new rate (R438), `stage0` being the capping stage before the step: what set it outright, a change of bounds, capping,
and else the host pressure that its target follows (DEDUCED, log entry 23). -/
def rateReason (d : Dev) (stage0 old new : Nat) : Nat :=
  if startsNow d then 15
  else if d.light.lastBounds != boundsNow d then (if d.light.lastProfile != d.clk.profile then 1 else 2)
  else if 2 ≤ d.light.stage then (if 100 ≤ d.mhi.temp then 13 else 11)
  else if 2 ≤ stage0 then 12
  else if new < old then 3 else 4

/-- The bound that a value stands at, or 0. -/
def boundAt (b : Nat × Nat) (v : Nat) : Nat := if v = b.2 then b.2 else if v = b.1 then b.1 else 0

/-- Decide the rebuild rate (R430). -/
def decideRebuild (stage0 h : Nat) (d : Dev) : Dev :=
  let b := rebuildBounds d
  let old := d.light.rebuildRate
  let new := rebuildChosen d h
  let reason := if atRisk d then 7 else rateReason d stage0 old new
  let d1 := { d with light.rebuildRate := new }
  if old = new ∧ !startsNow d then d1
  else logLight 1 reason (advises d) 0 0 (old / 65536) (new / 65536) h (boundAt b (new / 65536)) (b.2 - b.1) d1

/-- Decide the Ebb rate of a Shoal (R430). -/
def decideEbb (stage0 h sh : Nat) (d : Dev) : Dev :=
  let b := ebbBounds d
  let old := ebbRate d sh
  let new := ebbChosen d h sh
  let press := decide (2 ≤ d.pool.level)
  let reason := if press then 5 else if old = 0 then 6 else if !aboveReserve d sh then 14 else rateReason d stage0 old new
  let input := if press || old == 0 then occupancy d else h
  let d1 := { d with light.ebbRates := tput d.light.ebbRates sh new }
  if old = new ∧ !startsNow d then d1
  else logLight 2 reason (advises d) 1 sh (old / 65536) (new / 65536) input (boundAt b (new / 65536)) (b.2 - b.1) d1

/-- Decide the borrowing limit (R431). -/
def decideBorrow (d : Dev) : Dev :=
  let m := (chartOf d).light.borrowMax
  let old := d.light.borrow
  let new := borrowChosen d
  let reason := if startsNow d then 15 else if d.light.lastBounds != boundsNow d then 2 else if 2 ≤ d.pool.level then 5 else 6
  let d1 := { d with light.borrow := new }
  if old = new ∧ !startsNow d then d1
  else logLight 3 reason (advises d) 0 0 old new (occupancy d) (if new = m then m else 0) m d1

/-! ## Power and heat (R435) -/

/-- Reason and input of a capping decision: temperature, or power. -/
def capCause (d : Dev) (rises : Bool) : Nat × Nat :=
  if rises then (if 100 ≤ d.mhi.temp then (13, d.mhi.temp.toNat) else (11, d.mhi.power)) else (12, d.mhi.power)

/-- Enter a capping stage. -/
def setStage (n : Nat) (d : Dev) : Dev :=
  let old := d.light.stage
  let (reason, input) := capCause d (decide (old < n))
  logLight 7 reason false 0 0 old n input 0 0
    { d with light.stage := n, light.overSteps := 0, light.underSteps := 0 }

/-- Set the ceiling C, in MB/s; bounds 25 and 600 GB/s. -/
def setCeiling (c : Nat) (rises : Bool) (d : Dev) : Dev :=
  let old := d.light.ceiling
  let (reason, input) := capCause d (!rises)
  if old = c then d
  else logLight 8 reason false 0 0 old c input (if c = 25000 then 25000 else 0) 575000 { d with light.ceiling := c }

/-- The ceiling on entry to stage 3, in MB/s: the admitted data rate of the last 10 ms. -/
def admittedRate (d : Dev) : Nat := admittedSince d 10000000 / 10000

/-- One step of the ceiling at stage 3: 75 GB/s down while over the limit, not below 25 GB/s; 15 GB/s up from the tenth step in a row
under it; stage 3 ends at 600 GB/s. -/
def stepCeiling (d : Dev) : Dev :=
  let c := d.light.ceiling
  if overLimit d then setCeiling (if c ≤ 25000 then c else max 25000 (c - 75000)) false d
  else if 10 ≤ d.light.underSteps then
    if 600000 ≤ c + 15000 then { setStage 2 d with light.ceiling := 0 } else setCeiling (c + 15000) true d
  else d

/-- One step of capping (R435). -/
def capStep (d : Dev) : Dev :=
  let d1 := { d with light.overSteps := if overLimit d then d.light.overSteps + 1 else 0
                     light.underSteps := if underLimit d then d.light.underSteps + 1 else 0 }
  if d1.light.stage < 3 ∧ 5 ≤ d1.light.overSteps then
    let d2 := setStage (d1.light.stage + 1) d1
    if d2.light.stage = 3 then setCeiling (admittedRate d2) false d2 else d2
  else if 0 < d1.light.stage ∧ 100 ≤ d1.light.underSteps then
    { setStage (d1.light.stage - 1) d1 with light.ceiling := 0 }
  else if d1.light.stage = 3 then stepCeiling d1
  else d1

/-! ## Early replacement (R434) -/

/-- Nanoseconds of the last 24 h that a drive has been SLOW. -/
def slowTime (d : Dev) (v : Drive) : Nat :=
  let now := elapsed d
  let fromT := now - 86400000000000
  let spans := v.slowSpans ++ (match v.slowFrom with
    | some t => [(t, now)]
    | none => [])
  lsum spans (fun x => x.2 - max x.1 fromT)

/-- Why a member is to be replaced early: reason and input. -/
def preemptCause (d : Dev) (v : Drive) : Option (Nat × Nat) :=
  if (chartOf d).storage.transientBound < v.transients.length then some (9, v.transients.length)
  else if v.warning ≠ 0 then some (10, v.transients.length)
  else if 43200000000000 < slowTime d v then some (8, v.transients.length)
  else none

/-- May a pre-emptive substitution start in a Shoal? -/
def preemptFree (d : Dev) (sh : Nat) : Bool :=
  let l := labelOf d sh
  l.subst.all (fun u => !(u.preempt && u.state == 1)) && decide (l.subst.length < 4) && (substTarget d sh).isSome &&
    d.str.rows.all (fun e => e.2.shoal != sh || !bare d e.2)

/-- Start the early replacement of a position, where it is due. -/
def preempt (sh pos : Nat) (d : Dev) : Dev :=
  match tget (labelOf d sh).roster pos with
  | none => d
  | some e =>
    match (tget d.shelf.drives e.bay).bind (preemptCause d) with
    | none => d
    | some (reason, input) =>
      if e.state ≠ .online ∨ !(substsOf d sh pos).isEmpty ∨ !preemptFree d sh then d
      else
        let d1 := logLight 6 reason (advises d) 2 e.bay 0 0 input 0 0 d
        if advises d then d1 else substitute sh pos true d1

/-- Judge every ONLINE member. -/
def preemptAll (d : Dev) : Dev :=
  d.str.shoals.foldl (fun a x => (labelOf a x.1).roster.foldl (fun b r => preempt x.1 r.1 b) a) d

/-! ## The step (R427) -/

/-- Chosen values start at their fixed values (R436): at the first step of a writer, and when MODE switches from advise to act. -/
def startChosen (d : Dev) : Dev :=
  if d.light.fresh ∨ (d.light.lastMode = 1 ∧ !advises d) then
    { d with light.rebuildRate := (rebuildBounds d).2 * 65536, light.ebbRates := [], light.borrow := (chartOf d).light.borrowMax }
  else d

/-- What a step remembers for the next. -/
def rememberStep (h : Nat) (d : Dev) : Dev :=
  { d with light.fresh := false, light.lastMode := (chartOf d).light.mode, light.lastProfile := d.clk.profile,
           light.lastBounds := boundsNow d, light.lastH := h }

/-- The decisions of a step on the side that writes the members; heads that a raised limit or the ceiling held are retested. -/
def decideStep (measured : Nat) (d : Dev) : Dev :=
  let h := hostPressure d measured
  let stage0 := d.light.stage
  let borrow0 := borrowApplied d
  let d1 := decideRebuild stage0 h (capStep (startChosen d))
  let d2 := decideBorrow (d1.str.shoals.foldl (fun a x => decideEbb stage0 h x.1 a) d1)
  let d3 := preemptAll (rememberStep h d2)
  if stage0 = 3 ∨ borrow0 < borrowApplied d3 then retestHeads d3 else d3

/-- One step (R427): `temp` in °C and `power` in mW are the sensors' averages, `measured` the part of H that drives and Prism give. -/
def lightStep (temp : Int) (power measured : Nat) (d : Dev) : Dev :=
  let d1 := judgeAlert { d with mhi.temp := temp, mhi.power := power }
  if !coreRuns d1 then d1
  else
    let d2 := { d1 with light.steps := d1.light.steps + 1 }
    let d3 := if d2.boot.serving ∧ (d2.pair.role = .active ∨ d2.pair.role = .solo) then decideStep measured d2 else d2
    { d3 with path.deliveries := 0, path.contended := 0 }

/-- LIGHTHOUSE_STEP (R427); what PRESS asks for is done, and what it held back goes on (03 R84, 06 R197). -/
def execLighthouseStep (temp : Int) (power pressure : Nat) (s : State) : Result :=
  onDev s (fun d => resumeRepairs (aroundAll (lightStep temp power pressure d)))

/-! ## The status table (R439) -/

/-- The 64 bytes of the Lighthouse status table. -/
def lightTable (d : Dev) : List Byte :=
  leBytes (chartOf d).light.mode 1 ++ leBytes d.light.stage 1 ++ leBytes (d.light.lastH * 255 / 65536) 1 ++ zeros 1
    ++ leBytes (rebuildApplied d / 65536) 4 ++ leBytes (lsum d.str.shoals (fun x => ebbApplied d x.1 / 65536)) 4
    ++ leBytes (borrowApplied d) 4 ++ leBytes (if d.light.stage = 3 then d.light.ceiling else 0) 4
    ++ leBytes d.mhi.power 4 ++ leBytes (d.mhi.temp.emod 65536).toNat 2 ++ zeros 2 ++ leBytes d.light.steps 8
    ++ leBytes d.light.suppressed 4 ++ zeros 24

end Sys2Proof.Machine
end

