-- ==== Sys2Proof/Machine/BayPower.lean ====
section
/-! DEFINITION. Bay power (16 R461 to R472): the bay states, power-on, faults, pull and push, and BAY_CTRL. -/

namespace Sys2Proof.Machine

/-- A bay; one that nothing has happened to is EMPTY. -/
def bayOf (d : Dev) (n : Nat) : Bay := (tget d.bay.bays n).getD {}

/-- Store a bay. -/
def setBay (n : Nat) (b : Bay) (d : Dev) : Dev := { d with bay.bays := tput d.bay.bays n b }

/-- A bay's effective BAYPOWER record (02 R44). -/
def bayRecord (d : Dev) (n : Nat) : BayCfg := bayIn (chartOf d) n

/-- What the controller die does of a happening at a bay: its interrupts, events and the member manager's part, while it runs; the bay
die acts by itself (R466, R469). -/
def whileRuns (f : Dev → Dev) (d : Dev) : Dev := if coreRuns d then f d else d

/-- Is VIN inside the window of a bay (R463)? -/
def vinInside (d : Dev) (n vin : Nat) : Bool := decide ((bayRecord d n).uv ≤ vin) && decide (vin ≤ (bayRecord d n).ov)

/-! ## Bring-up step 7 (15 R442) -/

/-- Is a bay still on its way to power: its insertion delay or ramp runs, or its PERST# delay? -/
def onItsWay (d : Dev) (n : Nat) (b : Bay) : Bool :=
  match b.state with
  | .insert => b.prsnt && vinInside d n b.vin
  | .queued => true
  | .ramping => true
  | .on => b.perst
  | _ => false

/-- Step 7 ends when no bay is on its way any more (log entry 24). -/
def endStep7 (d : Dev) : Dev :=
  if coreRuns d ∧ d.boot.step = 7 ∧ d.bay.bays.all (fun e => !onItsWay d e.1 e.2) then setStep 8 d else d

/-- Step 7: the insertion delay of every bay with a drive that is not ON starts; a bay that ramps goes on. -/
def bringupBays (d : Dev) : Dev :=
  if coreRuns d ∧ d.boot.step = 7 then
    endStep7 { d with bay.bays := tall d.bay.bays (fun b => match b.state with
      | .empty => if b.prsnt then { b with state := .insert } else b
      | .queued => { b with state := .insert }
      | _ => b) }
  else d

/-- BAY_BRINGUP_POWER (15 R442 step 7). -/
def execBayBringupPower (s : State) : Result := onDev s bringupBays

/-! ## Pull and push (R463, R468) -/

/-- The gate goes down: PERST# is asserted, power-good is lost. -/
def gateDown (b : Bay) : Bay := { b with gate := 0, perst := true, pg := false }

/-- A power cut with PRSNT asserted is a lost link (R467, 06 R172). -/
def lostLink (n : Nat) (d : Dev) : Dev :=
  { d with shelf.drives := tmod d.shelf.drives n (fun v => { v with linkUp := false }) }

/-- PRSNT asserts: an EMPTY bay starts its insertion delay (R463). -/
def prsntAssert (n vin : Nat) (d : Dev) : Dev :=
  if 32 ≤ n then d
  else
    let b := bayOf d n
    let b1 := { b with prsnt := true, vin := vin, state := if b.state = .empty then .insert else b.state }
    let d1 := setBay n b1 d
    if b.prsnt then d1 else whileRuns (raiseBayChange n) d1

/-- BAY_PRSNT_ASSERT (R463). -/
def execBayPrsntAssert (bay vin : Nat) (s : State) : Result := onDev s (prsntAssert bay vin)

/-- What the member manager makes of a drive that has lost its power by a pull or an OFF command (R468, R469, 06 R172). -/
def driveGone (n : Nat) (d : Dev) : Dev := if 8 ≤ d.boot.step then resumeSubsts (memberGone n d) else d

/-- PRSNT has been high for 2 µs (R468): the gate goes down in every state, and every state but FET_FAILED becomes EMPTY with ATTEMPTS
0; an OFF command goes with it (log entry 24). -/
def prsntDeassert (n : Nat) (d : Dev) : Dev :=
  let b := bayOf d n
  if 32 ≤ n ∨ !b.prsnt then d
  else
    let b1 := gateDown { b with prsnt := false, attempts := 0 }
    let b2 := if b.state = .fetFailed then b1 else { b1 with state := .empty, cmdOff := false }
    endStep7 (whileRuns (fun x => driveGone n (raiseBayChange n x)) (setBay n b2 d))

/-- BAY_PRSNT_DEASSERT (R468). -/
def execBayPrsntDeassert (bay : Nat) (s : State) : Result := onDev s (prsntDeassert bay)

/-! ## Power-on (R464, R465) -/

/-- Do bays power up: from bring-up step 7, while the device runs? -/
def baysPower (d : Dev) : Bool := coreRuns d && decide (7 ≤ d.boot.step)

/-- PRSNT and VIN have held for INSERT_DELAY: QUEUED (R463). VIN outside its window is a break of the delay. -/
def insertExpiry (n vin : Nat) (d : Dev) : Dev :=
  let b := bayOf d n
  if baysPower d ∧ b.state = .insert ∧ b.prsnt then
    if vinInside d n vin then setBay n { b with vin := vin, state := .queued, order := elapsed d } d
    else endStep7 (setBay n { b with vin := vin } d)
  else d

/-- BAY_INSERT_DELAY_EXPIRY (R463). -/
def execBayInsertDelayExpiry (bay vin : Nat) (s : State) : Result := onDev s (insertExpiry bay vin)

/-- Bays that hold a ramp place (R465). -/
def rampingBays (d : Dev) : Nat := (d.bay.bays.filter (fun e => e.2.state == .ramping)).length

/-- The bay that ramps next: queued first, the lowest on a tie (R465). -/
def nextToRamp (d : Dev) : Option Nat :=
  ((d.bay.bays.filter (fun e => e.2.state == .queued)).foldl (fun best e => match best with
    | none => some e
    | some x => if e.2.order < x.2.order then some e else some x) none).map (·.1)

/-- A free ramp place goes to the next bay: its gate is driven at RAMP (R464 step 1, R465). -/
def rampStart (n : Nat) (d : Dev) : Dev :=
  if baysPower d ∧ nextToRamp d = some n ∧ rampingBays d < (chartOf d).maxRamping then
    setBay n { bayOf d n with state := .ramping, gate := 1 } d
  else d

/-- BAY_RAMP_START (R465). -/
def execBayRampStart (bay : Nat) (s : State) : Result := onDev s (rampStart bay)

/-- VOUT is within 0.3 V of VIN: the charge pump raises the gate (R464 step 2). -/
def rampReached (n vout : Nat) (d : Dev) : Dev :=
  let b := bayOf d n
  if b.state = .ramping ∧ b.gate = 1 ∧ b.vin ≤ vout + 300 then setBay n { b with vout := vout, gate := 2 } d else d

/-- BAY_RAMP_REACHED (R464). -/
def execBayRampReached (bay vout : Nat) (s : State) : Result := onDev s (rampReached bay vout)

/-- Power-good (R464 step 3): ON, and the ramp place is free. -/
def powerGood (n vout : Nat) (d : Dev) : Dev :=
  let b := bayOf d n
  if b.state = .ramping ∧ b.gate = 2 ∧ (vinInside d n vout ∨ !coreRuns d) then
    setBay n { b with vout := vout, state := .on, pg := true } d
  else d

/-- BAY_POWER_GOOD (R464). -/
def execBayPowerGood (bay vout : Nat) (s : State) : Result := onDev s (powerGood bay vout)

/-- Power-good has held for 100 ms: BAY_PERST_N is released (R464 step 4). -/
def perstRelease (n : Nat) (d : Dev) : Dev :=
  let b := bayOf d n
  if baysPower d ∧ b.state = .on ∧ b.pg then endStep7 (setBay n { b with perst := false } d) else d

/-- BAY_PERST_RELEASE (R464). -/
def execBayPerstRelease (bay : Nat) (s : State) : Result := onDev s (perstRelease bay)

/-! ## Faults (R466, R467) -/

/-- Record a fault's cause: the gate is down, BAY_INT sets its bit. -/
def faultAt (n : Nat) (b : Bay) (d : Dev) : Dev :=
  let was := (bayOf d n).state
  whileRuns (fun x => raiseBay n (if was = .on then lostLink n x else x)) (setBay n b d)

/-- A failed attempt (R467): RETRY, or LATCHED at the third, with its events. -/
def failedAttempt (n cause : Nat) (b : Bay) (d : Dev) : Dev :=
  let k := min 3 (b.attempts + 1)
  let b1 := { gateDown b with cause := cause, attempts := k, state := if k = 3 then .latched else .retry }
  let d1 := whileRuns (logEvent 0x0E 1 1 (payload n 0 cause k)) (faultAt n b1 d)
  endStep7 (if k = 3 then whileRuns (logEvent 0x0E 3 2 (payload n 0 cause k)) d1 else d1)

/-- Is a bay's gate driven (R466)? -/
def driven (b : Bay) : Bool := b.state == .ramping || b.state == .on

/-- A current has been seen at a bay (R472). -/
def seeCurrent (b : Bay) (ma : Nat) : Bay := { b with current := ma, peak := max b.peak ma }

/-- BAY_BREAKER_TRIP (R466): current above BREAKER for BREAKER_TIME. Where the current is past the fast trip's threshold too, cause 2 is
recorded (R469). -/
def execBayBreakerTrip (bay current : Nat) (s : State) : Result :=
  onDev s (fun d =>
    let b := seeCurrent (bayOf d bay) current
    if driven b ∧ ((bayRecord d bay).breaker < current ∨ !coreRuns d) then
      failedAttempt bay (if coreRuns d ∧ 2 * (bayRecord d bay).breaker < current then 2 else 1) b d else d)

/-- BAY_FAST_TRIP (R466): current above twice BREAKER. -/
def execBayFastTrip (bay current : Nat) (s : State) : Result :=
  onDev s (fun d =>
    let b := seeCurrent (bayOf d bay) current
    if driven b ∧ (2 * (bayRecord d bay).breaker < current ∨ !coreRuns d) then failedAttempt bay 2 b d else d)

/-- BAY_RAMP_TIMEOUT (R466). -/
def execBayRampTimeout (bay : Nat) (s : State) : Result :=
  onDev s (fun d => if (bayOf d bay).state = .ramping then failedAttempt bay 3 (bayOf d bay) d else d)

/-- BAY_POWER_GOOD_LOST (R466): in ON, with VIN inside its window. -/
def execBayPowerGoodLost (bay vout : Nat) (s : State) : Result :=
  onDev s (fun d =>
    let b := bayOf d bay
    if b.state = .on ∧ (vinInside d bay b.vin ∨ !coreRuns d) then failedAttempt bay 4 { b with vout := vout } d else d)

/-- A VIN fault (R466): the gate goes down and the bay returns to INSERT; not an attempt. -/
def vinFault (n cause vin : Nat) (d : Dev) : Dev :=
  let b := bayOf d n
  if driven b then
    endStep7 (whileRuns (logEvent 0x0E 2 1 (payload n 0 cause 0))
      (faultAt n { gateDown b with cause := cause, vin := vin, state := .insert } d))
  else endStep7 (if b.state = .insert then setBay n { b with vin := vin } d else d)

/-- BAY_VIN_UNDER (R466). In INSERT the delay breaks. -/
def execBayVinUnder (bay vin : Nat) (s : State) : Result :=
  onDev s (fun d => if vin < (bayRecord d bay).uv ∨ !coreRuns d then vinFault bay 5 vin d else d)

/-- BAY_VIN_OVER (R466). In INSERT the delay breaks. -/
def execBayVinOver (bay vin : Nat) (s : State) : Result :=
  onDev s (fun d => if (bayRecord d bay).ov < vin ∨ !coreRuns d then vinFault bay 6 vin d else d)

/-- The FET is damaged (R466): VOUT stands above 1.5 V with the gate off. -/
def fetDamaged (n vout : Nat) (d : Dev) : Dev :=
  let b := bayOf d n
  if 32 ≤ n ∨ driven b ∨ b.state = .fetFailed ∨ vout ≤ 1500 then d
  else
    endStep7 (whileRuns (logEvent 0x0E 4 2 (payload n 0 7 0))
      (faultAt n { gateDown b with cause := 7, vout := vout, state := .fetFailed } d))

/-- BAY_FET_DAMAGED (R466). -/
def execBayFetDamaged (bay vout : Nat) (s : State) : Result := onDev s (fetDamaged bay vout)

/-- BAY_RETRY_EXPIRY (R467): QUEUED again, without a new insertion delay. -/
def execBayRetryExpiry (bay : Nat) (s : State) : Result :=
  onDev s (fun d => if (bayOf d bay).state = .retry then
    setBay bay { bayOf d bay with state := .queued, order := elapsed d } d else d)

/-- BAY_ATTEMPTS_RESET (R467): power-good has held for 60 s. -/
def execBayAttemptsReset (bay : Nat) (s : State) : Result :=
  onDev s (fun d => if (bayOf d bay).pg then setBay bay { bayOf d bay with attempts := 0 } d else d)

/-! ## BAY_CTRL (R469, R471) -/

/-- Where a bay goes that is no longer held: INSERT with a drive, else EMPTY (R463). -/
def restState (b : Bay) : BayState := if b.prsnt then .insert else .empty

/-- ON (R463, R471): lifts an OFF command. -/
def bayOn (n : Nat) (d : Dev) : Dev :=
  let b := bayOf d n
  if b.cmdOff then setBay n { b with cmdOff := false, state := if b.state = .off then restState b else b.state } d else d

/-- OFF (R469): ignored in LATCHED and FET_FAILED; a bay that ramps or is ON loses its drive. -/
def bayOff (n : Nat) (d : Dev) : Dev :=
  let b := bayOf d n
  if b.state = .latched ∨ b.state = .fetFailed then d
  else
    let d1 := setBay n { gateDown b with state := .off, cmdOff := true } d
    endStep7 (if driven b then driveGone n d1 else d1)

/-- CLEAR (R463, R469): LATCHED becomes EMPTY; FET_FAILED only while VOUT is at most 0.5 V, and else a WARN event is logged. -/
def bayClear (vout n : Nat) (d : Dev) : Dev :=
  let b := bayOf d n
  match b.state with
  | .latched => setBay n { b with state := .empty, attempts := 0 } d
  | .fetFailed =>
    if vout ≤ 500 then setBay n { b with vout := vout, state := restState b, attempts := 0 } d
    else logEvent 0x0E 5 1 (payload n 0 0 0) (setBay n { b with vout := vout } d)
  | _ => if b.attempts = 0 then d else setBay n { b with attempts := 0 } d

/-- A BAY_CTRL write (R471): its command for the bay named, or for every bay. `vout` is what VOUT of a
FET_FAILED bay measures. -/
def bayCtrl (v : Reg) (vout : Nat → Nat) (d : Dev) : Dev :=
  let targets := if v.getLsbD 13 then List.range 32 else [bits v.toNat 12 8]
  let f := match bits v.toNat 1 0 with
    | 1 => bayOn
    | 2 => bayOff
    | 3 => fun n => bayClear (vout n) n
    | _ => fun _ x => x
  if coreRuns d ∧ blocksOpen d then targets.foldl (fun a n => f n a) d else d

/-- BAY_CTRL_ON (R471): CMD is 1. -/
def execBayCtrlOn (v : Reg) (s : State) : Result := onDev s (bayCtrl ((v &&& ~~~3#32) ||| 1#32) (fun _ => 0))

/-- BAY_CTRL_OFF (R469): CMD is 2. -/
def execBayCtrlOff (v : Reg) (s : State) : Result := onDev s (bayCtrl ((v &&& ~~~3#32) ||| 2#32) (fun _ => 0))

/-- BAY_CTRL_CLEAR (R469): CMD is 3. -/
def execBayCtrlClear (v : Reg) (vout : Nat) (s : State) : Result := onDev s (bayCtrl (v ||| 3#32) (fun _ => vout))

/-! ## BAY registers (R470, R472) -/

/-- BAY_STATUS.STATE (R463). -/
def bayStateNum : BayState → Nat
  | .empty => 0
  | .insert => 1
  | .queued => 2
  | .ramping => 3
  | .on => 4
  | .retry => 5
  | .latched => 6
  | .fetFailed => 7
  | .off => 8

/-- One bit a bay. -/
def bayBits (d : Dev) (p : Bay → Bool) : Nat := d.bay.bays.foldl (fun a e => if p e.2 then a + 2 ^ e.1 else a) 0

/-- BAY_LATCHED (R470). -/
def bayLatched (d : Dev) : Nat := bayBits d (fun b => b.state == .latched || b.state == .fetFailed)

/-- BAY_STATUS(n) (R472). -/
def bayStatus (b : Bay) : Nat :=
  bayStateNum b.state + b2n b.cmdOff * 2 ^ 14 + b2n b.prsnt * 2 ^ 15 + b2n b.pg * 2 ^ 16 + b2n b.perst * 2 ^ 17
    + (b.attempts % 4) * 2 ^ 18 + (b.cause % 16) * 2 ^ 20

/-- BAY_VOLT(n) (R472). -/
def bayVolt (b : Bay) : Nat := b.vout % 65536 + (b.vin % 65536) * 65536

/-- A BAY_CURR(n) read (R472): PEAK clears. -/
def bayCurrRead (n : Nat) (d : Dev) : Dev :=
  let b := bayOf d n
  if 32 ≤ n then { d with readData := 0 }
  else { setBay n { b with peak := 0 } d with readData := b.current % 65536 + (b.peak % 65536) * 65536 }

end Sys2Proof.Machine
end

