-- ==== Sys2Proof/Machine/BringUp.lean ====
section
/-! DEFINITION. Bring-up (15 R441 to R449, 02 R48, R49), resets, power fail, monitors and fence pins (03 R89, R90, 13 R411, 18 R501,
19 R519 to R527). -/

namespace Sys2Proof.Machine

/-! ## Start and stop -/

/-- PORST_N rises (15 R442 step 1): the straps are sampled, and bring-up begins unless something else holds the core (19 R521, R524). -/
def porstRelease (straps : Straps) (d : Dev) : Dev :=
  if d.boot.porstN then d
  else beginStart { d with boot.porstN := true, boot.straps := straps, boot.junctionHold := false }

/-- PORST_N_RELEASE (15 R442). -/
def execPorstNRelease (straps : Straps) (s : State) : Result := onDev s (porstRelease straps)

/-- Stop as R89 does, where the device runs, and hold in reset. -/
def stopIfRuns (d : Dev) : Dev := if coreRuns d then stopDevice d else d

/-- PORST_N falls (19 R524). -/
def porstAssert (d : Dev) : Dev :=
  if d.boot.porstN then resetCore false { stopIfRuns d with boot.porstN := false } else d

/-- PORST_N_ASSERT (19 R524). -/
def execPorstNAssert (s : State) : Result := onDev s porstAssert

/-- PFAIL_N has been low for 500 ns (03 R89): the device stops and waits for PORST_N. Before bring-up step 5 it writes nothing and
stays at its step (15 R443); while the core is held in reset the pin alone is noted (19 R524). -/
def pfailFall (d : Dev) : Dev :=
  let d1 := { d with boot.pfailN := false }
  if coreRuns d then { stopDevice d1 with boot.pfailStopped := true } else d1

/-- PFAIL_N_FALL (03 R89). -/
def execPfailNFall (s : State) : Result := onDev s pfailFall

/-- PFAIL_N_RISE (15 R443): a bring-up that waits before step 5 may go on; a stopped device stays stopped (03 R90). -/
def execPfailNRise (s : State) : Result := onDev s (fun d => { d with boot.pfailN := true })

/-- FENCE_IN has been high for 100 µs (13 R411): a stop as by PFAIL_N, and the hold in reset. -/
def fenceHold (d : Dev) : Dev :=
  if d.boot.fenceHold then d else resetCore false { stopIfRuns d with boot.fenceHold := true }

/-- FENCE_IN_HOLD (13 R411). -/
def execFenceInHold (s : State) : Result := onDev s fenceHold

/-- FENCE_IN falls (13 R411): the device starts as after PORST_N, with the straps as PORST_N's last release sampled them (15 R441). -/
def fenceRelease (d : Dev) : Dev :=
  if d.boot.fenceHold then beginStart { d with boot.fenceHold := false } else d

/-- FENCE_IN_RELEASE (13 R411). The operand is the level of the strap pins, which the device does not sample now (15 R441). -/
def execFenceInRelease (_straps : Straps) (s : State) : Result := onDev s fenceRelease

/-- MHI_PERST_N falls (19 R524): the endpoint and its configuration space alone are reset. -/
def execMhiPerstNAssert (s : State) : Result :=
  onDev s (fun d => { d with mhi.perstN := false, mhi.inReset := true, mhi.msixTable := [], mhi.msixPending := 0 })

/-- MHI_PERST_N rises (19 R524). -/
def execMhiPerstNRelease (s : State) : Result :=
  onDev s (fun d => { d with mhi.perstN := true, mhi.inReset := coreHeld d })

/-! ## Monitors (19 R519, R521, R527) -/

/-- A stop without hold-up (03 R90): whether its steps end, with the stop marker, is left open (log entry 3); where they do not, the
volatile event buffer and the writes under way are lost. -/
def abruptStop (d : Dev) : Dev :=
  let (v, d1) := openValue d
  if v % 2 = 0 then stopDevice d1
  else
    let d2 := dropHosts d1
    zeroizeKeys { d2 with ev.buffer := [], pool.state := if d.pool.state = .failed then .failed else .off }

/-- The rails that are monitored, in the order of R518: VDD_IO is the last. -/
def vddIo : Nat := 8

/-- The always-on domain loses its supply (R519): the chain interface forgets what it does not store, the fence falls, and so do the
bays' gates (16 R469, log entry 24). -/
def alwaysOnLost (d : Dev) : Dev :=
  { d with boot.alwaysOn := false, boot.started := false, boot.fenceHold := false, boot.tlineHold := false
           tline := { stored := d.tline.stored }, pair.fenceOut := false, pair.fencingPartner := false
           bay.bays := tall d.bay.bays (fun b => { prsnt := b.prsnt, state := if b.prsnt then .insert else .empty }) }

/-- A rail's monitor trips (R521): the core is held in reset; while the device runs the trip acts as PFAIL_N without hold-up, and only
PORST_N starts it again. `torn` is the copy of a flash sector whose write the loss of power cut (15 R446). -/
def railTrip (rail : Nat) (torn : FlashTear) (d : Dev) : Dev :=
  if vddIo < rail ∨ d.boot.railsLow.contains rail then d
  else
    let d1 := if coreRuns d then { abruptStop d with boot.junctionHold := true, boot.torn := torn }
      else if d.boot.clocksStopped then { d with boot.junctionHold := true } else d
    let d2 := resetCore false { d1 with boot.railsLow := d1.boot.railsLow ++ [rail] }
    if rail = vddIo then alwaysOnLost d2 else d2

/-- RAIL_MONITOR_TRIP (R521). -/
def execRailMonitorTrip (trip : RailTrip) (s : State) : Result := onDev s (railTrip trip.rail trip.torn)

/-- A rail returns (R521): with the last one the hold ends; VDD_IO starts the always-on domain (R519). -/
def railRelease (rail : Nat) (d : Dev) : Dev :=
  if d.boot.railsLow.contains rail then
    beginStart { d with boot.railsLow := d.boot.railsLow.filter (fun r => r != rail), boot.alwaysOn := d.boot.alwaysOn || rail == vddIo }
  else d

/-- RAIL_MONITOR_RELEASE (R521). -/
def execRailMonitorRelease (rail : Nat) (s : State) : Result := onDev s (railRelease rail)

/-- A junction has been at 105 °C for 1 ms (R527): FAULT event, stop, and reset until PORST_N is released. -/
def junctionLimit (temp : Int) (d : Dev) : Dev :=
  if coreRuns d ∧ 105 ≤ temp then
    let d1 := logEvent 0 4 2 (payload 0 0 temp.toNat 0) { d with mhi.temp := temp }
    resetCore false { stopDevice d1 with boot.junctionHold := true }
  else d

/-- JUNCTION_LIMIT (R527). -/
def execJunctionLimit (temp : Int) (s : State) : Result := onDev s (junctionLimit temp)

/-- THERMAL_TRIP (R527): every core clock stops at once. -/
def execThermalTrip (s : State) : Result :=
  onDev s (fun d => if coreHeld d then d
    else { (if coreRuns d then abruptStop d else d) with boot.clocksStopped := true, boot.junctionHold := true })

/-- GLOBAL_RESET.RESTART (18 R501): any other write is ignored, and so is one to a device that PFAIL_N stopped (03 R90). -/
def globalReset (v : Reg) (d : Dev) : Dev :=
  if coreRuns d ∧ !d.mhi.inReset ∧ bits v.toNat 15 8 = 0xA5 then restartDevice true d else d

/-- GLOBAL_RESET_RESTART (18 R501). -/
def execGlobalResetRestart (v : Reg) (s : State) : Result := onDev s (globalReset (v ||| 1#32))

/-! ## Steps 2 to 4 (15 R442, R444, R447) -/

/-- What the SFDP read makes of a flash device (R444); one that qualifies is switched to 4-byte addressing and to the read mode of
FLASH_MODE. -/
def flashFound (octal : Bool) (p : FlashProbe) : FlashDev :=
  let q := p.present && p.sfdpOk && decide (512 ≤ p.densityMbit) && decide (p.densityMbit ≤ 2048) && p.fourByte && p.sectorErase &&
    (if octal then p.octal else p.quad)
  { present := p.present, qualifies := q }

/-- Step 2 (R444): without a usable device on chip select 0 it ends with code 1; one on chip select 1 that does not qualify is ignored
with a WARN event (its code by log entry 3). -/
def sfdpRead (p0 p1 : FlashProbe) (d : Dev) : Dev :=
  if coreRuns d ∧ d.boot.step ≤ 2 ∧ d.boot.code = 0 then
    let octal := d.boot.straps.flashMode
    let f1 := flashFound octal p1
    let d1 := { d with boot.flash0 := flashFound octal p0, boot.flash1 := f1 }
    let d2 := if f1.present ∧ !f1.qualifies then logEvent 0 (Config.unlistedCode 0) 1 (payload 1 0 0 0) d1 else d1
    if d2.boot.flash0.qualifies then setStep 3 d2 else bringupFail 1 (setStep 2 d2)
  else d

/-- SFDP_READ (R444). -/
def execSfdpRead (p0 p1 : FlashProbe) (s : State) : Result := onDev s (sfdpRead p0 p1)

/-- A Chart slot as start-up validates it (02 R47, R48). -/
def slotChart (d : Dev) (m : Memory) (k : Nat) : Except ChartErr Chart :=
  validate (imgAt m (chartAddr d k)) { stageLen := none, keys := d.boot.fuses.signer, revoked := d.boot.fuses.signerRevoked }

/-- Take a Chart slot's outcome into CHART_STATUS (02 R62). -/
def noteSlot (k : Nat) (r : Except ChartErr Chart) (d : Dev) : Dev :=
  match r with
  | .ok c => setSlot k true c.sequence d
  | .error _ => setSlot k false 0 d

/-- The values that a Chart brings at start: Shoals, gates, the profile, and Cove 0 (02 R30, 10 R326, R333, 11 R340). -/
def chartBegins (c : Chart) (d : Dev) : Dev :=
  let d1 := switchShoals { d with chart.inForce := some c, chart.runSeq := c.sequence }
  let d2 := { d1 with sched.gates := c.gates.foldl (fun t l => tput t l.port { list := some l }) [] }
  let d3 := if c.gates.isEmpty ∨ d2.clk.todValid then d2 else logEvent 9 9 1 (payload 0 0 0 0) d2
  let d4 := if thas d3.cove.tab 0 then d3 else { d3 with cove.tab := tput d3.cove.tab 0 {} }
  recompute d4

/-- The choice of the running Chart (02 R48): the preferred slot, else the other; with neither valid, the state of R49. DESIGN CHOICE
(log entry 33): that failure sets CHART_INT.ERR too (02 R65). -/
def chooseChart (d : Dev) (m : Memory) : Dev :=
  let p := preferredSlot d m
  let rp := slotChart d m p
  let ro := slotChart d m (1 - p)
  let d1 := noteSlot (1 - p) ro (noteSlot p rp d)
  match rp, ro with
  | .ok c, _ => chartBegins c { d1 with chart.runSlot := p, chart.fallback := false }
  | .error _, .ok c => chartBegins c { d1 with chart.runSlot := 1 - p, chart.fallback := true }
  | .error e, .error _ => bringupFail 4 (chartError e d1)

/-- A blob in the key area of the flash is taken when it is one of this shelf's and unseals (12 R376, R378). -/
def flashBlob (b : List Byte) (d : Dev) : Dev :=
  if blobOk d b then match unsealBlob b with
    | some s => takeSecret (blobEpoch b) s d
    | none => d
  else d

/-- Step 3 (R446, R447, R448, 02 R48, 12 R378): the flash copies are compared, then the firmware of the first slot that passes, the Charts, and the KEK. With neither slot the ROM
goes into recovery (R449). -/
def firmwareLoad (d : Dev) (m : Memory) : Dev :=
  if coreRuns d ∧ d.boot.step = 3 ∧ d.boot.code = 0 then
    let d := flashRepair d
    match runSlot d m with
    | none => bringupFail 2 { d with boot.romRecovery := true }
    | some k =>
      let g := fwImage d m k
      let d1 := if k = firstSlot d then d else logEvent 0 3 1 (payload k 0 0 0) { d with boot.code := 3 }
      let d2 := countAttempt k { d1 with boot.fwSlot := k, boot.fwSvn := g 0x14, mhi.fwVersion := fwVersionOf g, mhi.mboxReady := true
                                         net.addrs := d1.net.persisted.map (fun a => (a.1, { rec_ := a.2, link := a.2.home })) }
      let d3 := flashBlob d2.keys.blob1 (flashBlob d2.keys.blob0 (chooseChart d2 m))
      setStep 4 { d3 with mhi.restarting := false }
  else d

/-- FIRMWARE_LOAD (R447). -/
def execFirmwareLoad (s : State) : Result := onDevMem s firmwareLoad

/-- Step 4 (R442): both stacks train, or after two failures code 5. Without a Chart it does not begin (02 R49). -/
def hbmTrain (ok0 ok1 : Bool) (d : Dev) : Dev :=
  if coreRuns d ∧ d.boot.step = 4 ∧ d.chart.inForce.isSome ∧ d.boot.code ≠ 5 then
    if ok0 && ok1 then setStep 5 d
    else if 1 ≤ d.boot.hbmFails then bringupFail 5 { d with boot.hbmFails := 2 }
    else { d with boot.hbmFails := 1 }
  else d

/-- HBM_TRAIN (R442). -/
def execHbmTrain (ok0 ok1 : Bool) (s : State) : Result := onDev s (hbmTrain ok0 ok1)

/-! ## Steps 5 and 6 -/

/-- Step 5 (R442, 03 R91): the pool part of recovery, once PFAIL_N is high; a control block that does not decode ends it with code 6. -/
def poolRecovery (faults : List PoolFault) (d : Dev) : Dev :=
  if coreRuns d ∧ d.boot.step = 5 ∧ d.boot.pfailN ∧ d.pool.state = .off then
    let d1 := recoverPool faults d
    if d1.pool.state = .failed then bringupFail 6 d1 else setStep 6 (keysMissing (judgeFloors (resumeAsns d1)))
  else d

/-- POOL_RECOVERY (03 R91). -/
def execPoolRecovery (faults : List PoolFault) (s : State) : Result := onDev s (poolRecovery faults)

/-- Step 6 (R442): the Tideline address is settled, or 2 s have passed; an unnumbered controller goes on with a WARN event. -/
def tidelineWait (timedOut : Bool) (d : Dev) : Dev :=
  if coreRuns d ∧ d.boot.step = 6 ∧ (timedOut ∨ d.tline.settled) then
    setStep 7 (if d.tline.addr.isNone then logEvent 0x11 1 1 (payload 0 0 0 0) d else d)
  else d

/-- TIDELINE_WAIT (R442). -/
def execTidelineWait (timedOut : Bool) (s : State) : Result := onDev s (tidelineWait timedOut)

/-! ## Step 8: Shoal assembly (R445, 06 R171, 13 R393, R396) -/

/-- The labels that the drives found carry. -/
def labelsOf (ps : List DriveProbe) : List LabelId := ps.filterMap (·.label)

/-- The pool is foreign (13 R393): its STAGE pages come free, and SJOURNAL and MAPLOG are disregarded. -/
def disregardPool (d : Dev) : Dev :=
  let d1 := (d.pool.pages.map (·.1)).foldl (fun a p => freePage p a) d
  logEvent 0x0C 7 1 (payload 0 0 0 0) { d1 with
    pair.foreignPool := true, pool.kept := [], str.log := [], str.deferred := [], pool.journalBad := [], pool.logBad := []
    str.rows := (d1.str.rows.filter (fun e => e.2.life == .committed)).map (fun e => (e.1, { e.2 with inJournal := false })) }

/-- SHELF_ID from the member labels (13 R393): with none anywhere the writer will draw it; one that differs from ADMIN's copy makes the
pool foreign. -/
def takeShelfId (ls : List LabelId) (d : Dev) : Dev :=
  match ls with
  | [] => { d with pair.shelfId := 0 }
  | l :: _ => if l.shelfId = d.pair.shelfId then d else disregardPool { d with pair.shelfId := l.shelfId }

/-- The decodable label copies of a Shoal on the drives that have answered, each of the drive that now carries it (06 R171). -/
def answeredCopies (ps : List DriveProbe) (sh : Nat) (d : Dev) : List LabelCopy :=
  let drives := ps.map (fun p => (p.bay, p.serial)) ++ d.shelf.drives.map (fun e => (e.1, e.2.serial))
  (drives.eraseDups.flatMap (fun x =>
    ([tget d.shelf.labelCopies (2 * x.1), tget d.shelf.labelCopies (2 * x.1 + 1)].filterMap id).filter (fun c =>
      c.shoal == sh && c.serial == x.2)))

/-- The copy of the highest LABEL_SEQ. -/
def newestCopy : List LabelCopy → Option LabelCopy
  | [] => none
  | c :: r => match newestCopy r with
    | some x => if c.label.labelSeq < x.label.labelSeq then some x else some c
    | none => some c

/-- The Shoal-wide records are those of the copy with the highest LABEL_SEQ among the Shoal's members (06 R171), the lost-slot table that of
its Lost Range log. -/
def takeRecords (sh : Nat) (c : LabelCopy) (d : Dev) : Dev :=
  { d with shelf.labels := tput d.shelf.labels sh c.label
           shelf.lostSlots := d.shelf.lostSlots.filter (fun x => x.1.shoal != sh) ++ tabSlots [(sh, c.label)] }

/-- A Shoal takes its records from the drives that have answered: at step 8, and where a later drive carries newer ones. -/
def adoptRecords (ps : List DriveProbe) (sh : Nat) (d : Dev) : Dev :=
  match newestCopy (answeredCopies ps sh d) with
  | some c => if !assembledShoal d sh ∧ (d.boot.step = 8 ∨ (labelOf d sh).labelSeq < c.label.labelSeq) then takeRecords sh c d else d
  | none => d

/-- A roster that this side does not hold, as far as the labels of the drives give it (06 R171, log entry 24). -/
def adoptRoster (ps : List DriveProbe) (sh : Nat) (d : Dev) : Dev :=
  let mine := (labelsOf ps).filter (fun l => l.shoal == sh)
  if !(labelOf d sh).roster.isEmpty ∨ mine.isEmpty then d
  else
    let bays := memberBays (curGeom d sh)
    let roster := bays.zipIdx.map (fun x => (x.2, match mine.find? (fun l => l.position == x.2) with
      | some l => ({ bay := l.bay, state := .online, labelGen := l.labelGen, serial := l.serial } : RosterEntry)
      | none => { bay := x.1, state := .absent }))
    let caps := ps.foldl (fun t p => if bays.contains p.bay then tput t p.bay p.capacity else t) []
    setLabel sh { labelOf d sh with roster := roster, caps := caps } d

/-- A Shoal assembles when at most PARITY positions are ABSENT or FAILED (R445); ABSENT members are then folded (06 R172). -/
def assembleShoal (sh : Nat) (d : Dev) : Dev :=
  let l := labelOf d sh
  let missing := l.roster.filter (fun e => e.2.state == .absent || e.2.state == .failed)
  if assembledShoal d sh ∨ l.roster.isEmpty ∨ (curGeom d sh).parity < missing.length then d
  else
    let kept := newestKeeper d sh
    let d1 := modShoal sh (fun x => { x with assembled := true, rows := max x.rows l.rows
                                             dirty := (kept.map (·.regions)).getD x.dirty
                                             keeperSeq := max x.keeperSeq ((kept.map (·.seq)).getD 0) }) d
    let d2 := recomputeRows sh d1
    judgeMissing sh 0 ((missing.filter (fun e => e.2.state == .absent)).foldl (fun a e => fold sh e.1 a) d2)

/-- Positions whose drives have not been found are ABSENT, their absence timers running (R445). -/
def missingDrives (sh : Nat) (d : Dev) : Dev :=
  (labelOf d sh).roster.foldl (fun a e => driveNotReady e.2.bay a) d

/-- Register on every member (13 R396). -/
def registerAll (d : Dev) : Dev :=
  (memberBaysUp d).foldl (fun a b => memberIssue b (registerOp d)
    { a with shelf.drives := tmod a.shelf.drives b (fun v => { v with registered := true }) }) d

/-- The Shoals with the drives found so far: those of the running Chart. -/
def assembleAll (ps : List DriveProbe) (d : Dev) : Dev :=
  let shs := d.str.shoals.map (·.1)
  let d1 := shs.foldl (fun a sh => adoptRoster ps sh (adoptRecords ps sh a)) d
  let d2 := ps.foldl (fun a p => enumerate p a) d1
  let d3 := shs.foldl (fun a sh => missingDrives sh (formShoal sh a)) d2
  resumeSubsts (shs.foldl (fun a sh => assembleShoal sh a) d3)

/-- Step 8, and the retries at step 9 (R445): the drives' labels, the roster and SHELF_ID, the shelf record, the members registered;
code 8 while a Shoal cannot assemble. HELLO is sent on entry to step 9. -/
def shoalAssembly (ps : List DriveProbe) (r : Option ShelfRecord) (d : Dev) (m : Memory) : Dev :=
  if !coreRuns d ∨ !(d.boot.step = 8 ∨ (d.boot.step = 9 ∧ d.boot.code = 8)) then d
  else
    let first := decide (d.boot.step = 8)
    let d1 := if first ∨ d.pair.shelfId = 0 then takeShelfId (labelsOf ps) d else d
    let d2 := { assembleAll ps d1 with pair.record := if r.isSome then r else d.pair.record }
    let whole := d2.str.shoals.all (fun e => e.2.assembled)
    let d3 := if whole then registerAll (if d2.boot.code = 8 then judgeAlert { d2 with boot.code := 0 } else d2)
      else if d2.boot.code = 8 then d2 else bringupFail 8 d2
    if first then sendHello (setStep 9 d3) m else d3

/-- SHOAL_ASSEMBLY (R445). -/
def execShoalAssembly (probes : List DriveProbe) (rec_ : Option ShelfRecord) (s : State) : Result :=
  onDevMem s (shoalAssembly probes rec_)

/-! ## Step 10 -/

/-- Step 10 (R442): the links train, admission opens, the boot record is updated (R447), and what a stop interrupted goes on (07 R235,
R237). Without a KEK the network stays down (12 R378). -/
def openAdmission (links : List Nat) (d : Dev) : Dev :=
  if !coreRuns d ∨ d.boot.step ≠ 10 ∨ d.host.admissionOpen then d
  else if d.keys.kek.isNone then (if d.boot.code = 0 ∨ d.boot.code = 3 then bringupFail 7 d else d)
  else
    let d1 := writeBoot d.boot.fwSlot 0 d.boot.fwSlot { d with host.admissionOpen := true, boot.serving := true, host.anaChange := false }
    let d2 := judgeService (raiseGlobal 3 (links.foldl (fun a l => netLinkUp l a) d1))
    if d2.pair.role = .active ∨ d2.pair.role = .solo then resumeWork d2 else d2

/-- OPEN_ADMISSION (R442). -/
def execOpenAdmission (linksUp : List Nat) (s : State) : Result := onDev s (openAdmission linksUp)

end Sys2Proof.Machine
end

