-- ==== Sys2Proof/Machine/DataPort.lean ====
section
/-! DEFINITION. The device address space and the Data Port (18 R507 to R514): regions, rights, what each region reads as, and the
DPORT registers and the BAR2 window. -/

namespace Sys2Proof.Machine

/-! ## Regions (R507, R508) -/

/-- Where a device address lies. -/
inductive DpRegion where
  | pool (page unit : Nat)
  | flash (chip off : Nat)
  | capture (off : Nat)
  | clock
  | sampler (off : Nat)
  | light
  | keyStore (off : Nat)
  | slotStatus (off : Nat)
  | tline (off : Nat)
  | lens (off : Nat)
  | wbl (off : Nat)
  | binding (off : Nat)
  | staging
  | mailbox
  /-- rest of the firmware area, queue-pair contexts, capsule buffers, and HBM that no area takes -/
  | closed
  /-- map directory, map cache, Shallows, stripe assembly -/
  | working
  | ring (off : Nat)
  | unmapped
  deriving DecidableEq, Repr

/-- Is an address within `size` bytes of a base? -/
def within (a base size : Nat) : Bool := decide (base ≤ a) && decide (a < base + size)

/-- 1 MiB. -/
def mib : Nat := 1048576

/-- Device address of the map directory, of the first Chart allocation and of the end of HBM (R508). -/
def mapDirBase : Nat := stageBase + 0x110000000

/-- First of the Chart allocations: the map cache (R508). -/
def chartAreaBase : Nat := stageBase + 0x210000000

/-- RING_BASE (R309, R508). -/
def ringBase (d : Dev) : Nat :=
  chartAreaBase + ((chartOf d).hbm.mapCache + (chartOf d).hbm.shallowsMax + (chartOf d).hbm.assembly) * mib

/-- Does an address lie in the Shallows (R508)? -/
def inShallows (d : Dev) (a : Nat) : Bool :=
  within a (chartAreaBase + (chartOf d).hbm.mapCache * mib) ((chartOf d).hbm.shallowsMax * mib)

/-- The region of an HBM address (R508). -/
def hbmRegion (d : Dev) (a : Nat) : DpRegion :=
  if a < stageBase + 4 * mib then .staging
  else if a < mailboxBase + 0x11000 then .mailbox
  else if a < mapDirBase then .closed
  else if a < ringBase d then .working
  else if a < ringBase d + (chartOf d).hbm.capture * mib then .ring (a - ringBase d)
  else .closed

/-- The on-die tables (R507). -/
def tableRegion (a : Nat) : DpRegion :=
  if within a captureBase 576 then .capture (a - captureBase)
  else if within a 0x300020000 64 then .clock
  else if within a samplerBase 65536 then .sampler (a - samplerBase)
  else if within a 0x300050000 64 then .light
  else if within a 0x300060000 128 then .keyStore (a - 0x300060000)
  else if within a 0x300070000 32768 then .slotStatus (a - 0x300070000)
  else if within a 0x300090000 576 then .tline (a - 0x300090000)
  else if within a lensBase 8192 then .lens (a - lensBase)
  else if within a wblTable 131072 then .wbl (a - wblTable)
  else if within a 0x300200000 524288 then .binding (a - 0x300200000)
  else .unmapped

/-- The region of a device address (R507). -/
def regionAt (d : Dev) (a : Nat) : DpRegion :=
  if within a poolBase 0x10000000 then .pool ((a - poolBase) / 4096) ((a - poolBase) % 4096 / 64)
  else if within a flashBase 0x20000000 then .flash ((a - flashBase) / 0x10000000) ((a - flashBase) % 0x10000000)
  else if within a stageBase (98304 * mib) then hbmRegion d a
  else tableRegion a

/-! ## Rights (R509) -/

/-- The byte of a running written-block log's retired half at an address of the Shallows (11 R364): its log and its place. -/
def retiredAt (d : Dev) (a : Nat) : Option (Wbl × Nat) :=
  if inShallows d a then
    (d.cove.wbl.find? (fun e => e.2.running && within a (Config.wblBase e.1 e.2.retiredHalf) (ceilDiv (wblRegions d e.1) 8))).map
      (fun e => (e.2, a - Config.wblBase e.1 e.2.retiredHalf))
  else none

/-- The code of R511 that refuses a read of a byte, 0 where it is allowed. -/
def readCode (d : Dev) (a : Nat) : Nat :=
  if d.mhi.restarting then 6
  else match regionAt d a with
    | .pool page _ => if regionOf d.pool.layout page = .stage ∧ !d.mhi.service then 2 else 0
    | .closed => 2
    | .working => if d.mhi.service ∨ (retiredAt d a).isSome then 0 else 2
    | .unmapped => 1
    | _ => 0

/-- Does a flash offset lie in a firmware slot region that is in use (15 R445)? -/
def inFwSlot (d : Dev) (a : Nat) : Bool := within a (fwAddr d 0) fwSlotSize || within a (fwAddr d 1) fwSlotSize

/-- The code of R511 that refuses a write of a byte, 0 where it is allowed. A write of a read-only field of an on-die table is
allowed and ignored (00 R8). -/
def writeCode (d : Dev) (a : Nat) : Nat :=
  if d.mhi.restarting then 6
  else match regionAt d a with
    | .pool page _ =>
      if regionOf d.pool.layout page = .coveimg ∧ d.pool.imgClaimed.contains ((page - regionStart d.pool.layout .coveimg) / 16) then 0
      else 3
    | .flash _ _ => if d.boot.romRecovery ∧ inFwSlot d a then 0 else 3
    | .staging => if d.chart.state = .idle then 0 else 3
    | .mailbox => if d.mhi.mboxBusy then 3 else 0
    | .closed => 3
    | .working => 3
    | .ring _ => 3
    | .unmapped => 1
    | _ => 0

/-- The first code that refuses one of `n` bytes from an address. -/
def firstCode (f : Nat → Nat) (a : Nat) : Nat → Nat
  | 0 => 0
  | n + 1 => if f a = 0 then firstCode f (a + 1) n else f a

/-! ## What the regions read as -/

/-- Bytes `off` to `off + 63` of a table as a number. -/
def sliceNum (t : List Byte) (off : Nat) : Nat := leNum ((t.drop off).take 64)

/-- An event record (17 R473), with its CHECK. -/
def eventBytes (r : EventRec) : List Byte :=
  let head := leBytes r.esn 8 ++ leBytes r.source 2 ++ leBytes r.code 2 ++ leBytes (r.cls % 4) 1 ++ leBytes (b2n r.reclassed) 1
    ++ leBytes (match r.cove with
      | some c => c % 4096 + 32768
      | none => 0) 2
  let tail := zeros 4 ++ leBytes r.payload 40
  head ++ leBytes (crc32c (head ++ tail)).toNat 4 ++ tail

/-- One copy of the MAPLOG header (04 R126), 16 KiB. -/
def logHeader (d : Dev) : List Byte :=
  let seg := fun (i : Nat) => ((tget d.str.dir (dirKey 1 i)).map (fun p => entryNum (.mapped p))).getD 0
  let body := leBytes d.str.ckptGen 8 ++ leBytes d.str.tailSeq 8
    ++ (List.range 4).flatMap (fun i => leBytes ((tget d.str.ckptShoalGen i).getD 0 % 2 ^ 40) 8) ++ zeros 16
    ++ (List.range 1024).flatMap (fun i => leBytes (seg i) 8) ++ zeros 8124
  body ++ leBytes (crc32c body).toNat 4

/-- A MAPLOG unit, counted from the start of the region: the header's two copies, then the ring (04 R126). -/
def logUnit (d : Dev) (i : Nat) : Nat :=
  if i < 512 then sliceNum (logHeader d) (64 * (i % 256))
  else ((d.str.log.filter (fun r => logPlace d r.seq == i - 512)).getLast?.map logRecord).getD 0

/-- An SJOURNAL unit (04 R115). -/
def journalUnit (d : Dev) (i : Nat) : Nat :=
  ((d.str.rows.find? (fun e => e.2.inJournal && e.2.jindex == i)).map (fun e => journalEntry e.2 (slotCount (stripeGeom d e.2)))).getD 0

/-- A unit of a Tide Pool page outside SPARE; a unit whose contents the spec does not give is open (log entry 3). -/
def poolUnit (d : Dev) (m : Memory) (free page unit : Nat) : Nat :=
  let l := d.pool.layout
  let i := fun (r : Region) => (page - regionStart l r) * 64 + unit
  match regionOf l page with
  | .stage => match tget d.pool.pages page with
    | some p => pageText d p / 2 ^ (512 * unit) % 2 ^ 512
    | none => free
  | .sjournal => journalUnit d (i .sjournal)
  | .maplog => logUnit d (i .maplog)
  | .events => match d.ev.slots[i .events]? with
    | some (some r) => leNum (eventBytes r)
    | _ => 0
  | .admin => (adminUnit d (page - regionStart l .admin) unit).getD 0
  | .coveimg => leNum (mgets m (pageAddr page + 64 * unit) 64)
  | .spare => 0

/-- A unit of a Tide Pool page: a SPARE page in use holds the page that it replaces (03 R70). -/
def pageUnit (d : Dev) (m : Memory) (free page unit : Nat) : Nat :=
  if regionOf d.pool.layout page = .spare then
    match d.pool.remap.find? (fun e => e.2 == page) with
    | some e => poolUnit d m free e.1 unit
    | none => 0
  else poolUnit d m free page unit

/-- Device and copy: does a flash chip hold copy `k` (0 is A) of a region (15 R445)? -/
def holdsCopy (d : Dev) (chip k : Nat) : Bool := if twoDevices d then chip == k else chip == 0

/-- A unit of the settings and progress region (15 R450). -/
def settingsUnit (d : Dev) (free off : Nat) : Nat :=
  if off < 0x10000 then free
  else if off < 0x18000 then
    packNum 8 (fun i => ((tget d.host.nss ((off - 0x10000) / 8 + i + 1)).map formatNum).getD 0) 8
  else if off = 0x18000 then sanNum d.host.san
  else 0

/-- The copy of the boot record that holds SEQ (15 R447). -/
def bootCopyOf (d : Dev) : Nat := (d.boot.recordSeq + Config.bootCopy) % 2

/-- A 64-byte unit of a flash chip (15 R445): the key areas read as zeros (R509); the copy of the boot record that this
model has not seen written is open (log entry 3). -/
def flashUnit (d : Dev) (m : Memory) (free chip off : Nat) : Nat :=
  let stored := leNum (mgets m (flashBase + chip * 0x10000000 + off) 64)
  if (off = 0 ∧ holdsCopy d chip 0 ∨ off = 0x1000 ∧ holdsCopy d chip 1) ∧ d.boot.recordValid then
    (if bootCopyOf d = off / 0x1000 then leNum (bootRecordBytes d.boot) else if d.boot.recordOld.isEmpty then free else leNum d.boot.recordOld)
  else if within off 0x100000 0x100000 ∧ holdsCopy d chip 0 then settingsUnit d free (off - 0x100000)
  else if within off 0x200000 0x100000 ∧ holdsCopy d chip 1 then settingsUnit d free (off - 0x200000)
  else if within off 0x300000 0x200000 then 0
  else stored

/-- The ring control of capture (09 R309). -/
def captureTable (d : Dev) : List Byte :=
  let c := d.prism.capture
  leBytes (b2n c.enable + 2 * b2n c.stopMode) 1 ++ zeros 3 ++ leBytes (captureRecords d) 4 ++ leBytes (ringBase d) 8
    ++ leBytes c.producer 8 ++ leBytes c.dropped 8 ++ zeros 32

/-- A capture filter (09 R310). -/
def filterBytes (f : CaptureFilter) : List Byte :=
  leBytes (b2n f.enable + 2 * b2n f.ingress + 4 * b2n f.egress) 1 ++ leBytes f.portMask 1 ++ leBytes f.sampleN 2 ++ leBytes f.qpn 4
    ++ leBytes f.qpnMask 4 ++ leBytes f.opcode 1 ++ leBytes f.opcodeMask 1 ++ leBytes f.cove 2 ++ leBytes f.coveMask 2
    ++ leBytes f.kinds 1 ++ zeros 1 ++ leBytes f.matched 4 ++ leBytes f.taken 4 ++ zeros 4

/-- The two's complement of a signed value in `w` bits. -/
def twos (w : Nat) (x : Int) : Nat := (x.emod (2 ^ w : Nat)).toNat

/-- A signed value that saturates at ±(2^31 − 1). -/
def sat31 (x : Int) : Int := max (-2147483647) (min 2147483647 x)

/-- The next Tide Table entry after now (02 R40): its second and its profile. -/
def nextEntry (d : Dev) : Option (Nat × Nat) :=
  let c := chartOf d
  let period := max c.tide.periodS 1
  let pos := (((d.clk.tod.s : Int) - (c.tide.anchorS : Int)).emod (period : Nat)).toNat
  match (entriesOf c).find? (fun e => decide (pos < e.offsetS)) with
  | some e => some (d.clk.tod.s + (e.offsetS - pos), e.profile)
  | none => (entriesOf c).head?.map (fun e => (d.clk.tod.s + (period - pos) + e.offsetS, e.profile))

/-- The clock status (10 R322). While the table is suspended the profile of the next entry is open (log entry 3). -/
def clockTable (d : Dev) (free : Nat) : List Byte :=
  let k := d.clk
  let next := if k.suspended then (0, free % 8) else (nextEntry d).getD (0, free % 8)
  leBytes k.state 1 ++ leBytes k.source 1
    ++ leBytes (b2n k.todValid + 2 * b2n k.suspended + 4 * b2n k.holdoverExceeded + 8 * b2n k.utcValid) 1 ++ leBytes k.profile 1
    ++ leBytes (if k.utcValid then twos 16 k.utcOffset else 0) 2 ++ leBytes k.steps 2 ++ leBytes k.tod.s 6 ++ leBytes k.tod.ns 4
    ++ leBytes (k.tod.frac % 16) 1 ++ zeros 1 ++ leBytes (twos 32 (sat31 k.offsetNs)) 4 ++ leBytes (twos 32 k.freqPpb) 4
    ++ leBytes (if k.state = 1 then k.holdoverS else 0) 6 ++ zeros 2 ++ (leBytes k.gmId 8).reverse ++ leBytes next.1 6
    ++ leBytes next.2 1 ++ zeros 1 ++ leBytes (elapsed d) 8 ++ zeros 4

/-- A queue sampler (10 R338). -/
def samplerBytes (x : Sampler) : List Byte :=
  leBytes (b2n x.enable) 1 ++ leBytes x.kind 1 ++ leBytes (x.link / 4 + 8 * (x.link % 4)) 1 ++ leBytes x.cls 1 ++ leBytes x.cove 2
    ++ leBytes x.intervalUs 2 ++ leBytes x.samples 4 ++ leBytes x.maxDepth 4 ++ leBytes x.maxDelay 4 ++ zeros 12
    ++ (x.depth ++ x.delay).flatMap (fun v => leBytes v 4) ++ zeros 96

/-- Two 32-byte entries as a 64-byte unit. -/
def pairNum (f : Nat → List Byte) (off : Nat) : Nat := leNum (f (off / 32) ++ f (off / 32 + 1))

/-- A unit of an on-die table, at an offset that is a multiple of 64. -/
def tableUnit (d : Dev) (free : Nat) : DpRegion → Nat
  | .capture off => if off = 0 then leNum (captureTable d)
    else pairNum (fun i => filterBytes ((tget d.prism.capture.filters i).getD {})) (off - 64)
  | .clock => leNum (clockTable d free)
  | .sampler off => sliceNum (samplerBytes ((tget d.sched.samplers (off / 256)).getD {})) (off % 256)
  | .light => leNum (lightTable d)
  | .keyStore off => sliceNum (keyTable d) off
  | .slotStatus off => packNum 8 (fun i => slotStatus d (off / 8 + i)) 8
  | .tline off => sliceNum (tlTable d) off
  | .lens off => pairNum (fun i => leBytes ((tget d.perf.lens i).getD 0) 32) off
  | .wbl off => pairNum (fun i => wblEntry d (i + 1)) off
  | .binding off => pairNum (fun i => ((tget d.cove.bindings i).map bindingBytes).getD (zeros 32)) off
  | _ => 0

/-- A byte of the map directory, map cache, Shallows or stripe assembly: of a retired half (11 R364), else open (log entry 3). -/
def workingByte (d : Dev) (free a : Nat) : Byte :=
  match retiredAt d a with
  | some (w, i) => wblByte w.retired i
  | none => BitVec.ofNat 8 (free / 2 ^ (8 * (a % 64)))

/-- The capture ring (09 R311): 192-byte records by place; a place without a record is open (log entry 3). -/
def ringUnit (d : Dev) (free off : Nat) : Nat :=
  match tget d.prism.capture.ring (off / 192) with
  | some r => r / 2 ^ (8 * (off % 192)) % 2 ^ 512
  | none => free

/-- The 64-byte unit at an aligned address, with a free value for what is open. -/
def unitValue (d : Dev) (m : Memory) (free a : Nat) : Nat :=
  match regionAt d a with
  | .pool page unit => pageUnit d m free page unit
  | .flash chip off => flashUnit d m free chip off
  | .staging => leNum (mgets m a 64)
  | .mailbox => leNum (mgets m a 64)
  | .closed => 0
  | .working => leNum ((run a 64).map (workingByte d free))
  | .ring off => ringUnit d free off
  | .unmapped => 0
  | t => tableUnit d free t

/-! ## Reading and writing units (R512 to R514) -/

/-- Is a region HBM? -/
def isHbm : DpRegion → Bool
  | .staging => true
  | .mailbox => true
  | .closed => true
  | .working => true
  | .ring _ => true
  | _ => false

/-- Read the unit at an aligned address, with the outcome of its ECC in the Tide Pool and HBM (R514, 03 R69). -/
def readUnit (ecc : EccResult) (a : Nat) (m : Memory) (d : Dev) : Nat × Dev :=
  let (free, d1) := openValue d
  let v := unitValue d m (free % 2 ^ 512) a
  let at_ : Attr := { master := some 44, hbm := some a }
  match regionAt d a with
  | .pool page _ =>
    match ecc with
    | .uncorrectable => (0, dpRefuse 4 a (aroundAll (poolRead page ecc d1)))
    | .corrected2 => (v, aroundAll (poolRead page ecc d1))
    | _ => (v, poolRead page ecc d1)
  | r =>
    if isHbm r then
      let d2 := occur 8 0 64 at_ d1
      (if ecc = .uncorrectable then (0, dpRefuse 4 a (occur 8 3 1 at_ d2)) else (v, if ecc = .clean then d2 else occur 8 2 1 at_ d2))
    else (v, d1)

/-- Read `n` bytes within one 64-byte unit: refused bytes read as zeros (R514). -/
def accessRead (ecc : EccResult) (a n : Nat) (m : Memory) (d : Dev) : List Byte × Dev :=
  let c := firstCode (readCode d) a n
  if c ≠ 0 then (zeros n, dpRefuse c a d)
  else
    let (v, d1) := readUnit ecc (a / 64 * 64) m d
    (((leBytes v 64).drop (a % 64)).take n, d1)

/-- A write of one byte of an on-die table, by its offset; a byte of a read-only field is ignored. -/
def tableByte (r : DpRegion) (k : Nat) (b : Byte) (d : Dev) : Dev :=
  match r with
  | .capture off =>
    let o := off + k
    if o = 0 then captureCtrl b d else if 64 ≤ o then filterByte ((o - 64) / 32) ((o - 64) % 32) b d else d
  | .sampler off =>
    let o := off + k
    if o % 256 = 0 then samplerCtrl (o / 256) b d else samplerByte (o / 256) (o % 256) b d
  | .lens off => lensByte ((off + k) / 32) ((off + k) % 32) b d
  | .wbl off =>
    let n := (off + k) / 32 + 1
    if (off + k) % 32 ≠ 0 then d
    else match b.toNat with
      | 1 => (wblStart n d).getD d
      | 2 => wblSwap n d
      | 3 => wblStop n d
      | _ => d
  | _ => d

/-- A write of an on-die table at one instant: a sampler's settings are taken under the ENABLE that stood before it (10 R338). -/
def tableWrite (r : DpRegion) (bytes : List Byte) (d : Dev) : Dev :=
  let es := (run 0 bytes.length).zip bytes
  let late := fun (e : Nat × Byte) => match r with
    | .sampler off => (off + e.1) % 256 == 0
    | _ => false
  (es.filter (fun e => !late e) ++ es.filter late).foldl (fun a e => tableByte r e.1 e.2 a) d

/-- Write bytes within one 64-byte unit that the rights allow; a COVEIMG unit is mirrored (13 R404). -/
def writeUnit (a : Nat) (bytes : List Byte) (d : Dev) (m : Memory) : Dev × Memory :=
  match regionAt d a with
  | .pool page unit =>
    let m1 := mputs m a bytes
    (mirrorRegion page unit [leNum (mgets m1 (a / 64 * 64) 64)] d, m1)
  | .flash _ _ => (d, mputs m a bytes)
  | .staging => (occur 8 1 bytes.length { master := some 44, hbm := some a } d, mputs m a bytes)
  | .mailbox => (occur 8 1 bytes.length { master := some 44, hbm := some a } d, mputs m a bytes)
  | r => (tableWrite r bytes d, m)

/-- Write bytes within one unit, or be refused (R514). -/
def accessWrite (a : Nat) (bytes : List Byte) (d : Dev) (m : Memory) : Dev × Memory :=
  let c := firstCode (writeCode d) a bytes.length
  if c ≠ 0 then (dpRefuse c a d, m) else writeUnit a bytes d m

/-! ## DPORT registers (R510 to R512) -/

/-- A change of DP_ADDR drops the buffer (R513). -/
def setDpAddr (a : Nat) (d : Dev) : Dev :=
  if a % 2 ^ 64 = d.mhi.dpAddr then d else { d with mhi.dpAddr := a % 2 ^ 64, mhi.dpBuffer := none }

/-- Discard a partial unit (R512). -/
def dropUnit (d : Dev) : Dev := { d with mhi.dpUnit := .none }

/-- Bytes of a unit (R511). -/
def dpSizeBytes (d : Dev) : Nat :=
  match d.mhi.dpSize with
  | 0 => 4
  | 1 => 8
  | _ => 64

/-- The last dword of a unit has passed (R512). -/
def unitDone (d : Dev) : Dev :=
  let d1 := dropUnit d
  if d1.mhi.dpAutoInc then setDpAddr (d1.mhi.dpAddr + dpSizeBytes d1) d1 else d1

/-- The dwords of a byte string. -/
def dwords (l : List Byte) (n : Nat) : List Nat := (List.range n).map (fun i => leNum ((l.drop (4 * i)).take 4))

/-- Return the next dword of a unit being read. -/
def nextDword (left : List Nat) (done : Nat) (d : Dev) : Dev :=
  match left with
  | [] => unitDone { d with readData := 0 }
  | [x] => unitDone { d with readData := x }
  | x :: r => { d with readData := x, mhi.dpUnit := .reading r (done + 1) }

/-- The unit at DP_ADDR: refused where DP_ADDR is not aligned to SIZE (R512), and then zeros. -/
def readDpUnit (ecc : EccResult) (m : Memory) (d : Dev) : List Byte × Dev :=
  let n := dpSizeBytes d
  if d.mhi.dpAddr % n ≠ 0 then (zeros n, dpRefuse 5 d.mhi.dpAddr d) else accessRead ecc d.mhi.dpAddr n m d

/-- A DP_DATA read (R512): the first dword of a unit accesses all of it; a unit being written is discarded (log entry 26). -/
def dpDataRead (ecc : EccResult) (d : Dev) (m : Memory) : Dev :=
  if !mhiOpen d then d
  else if d.mhi.restarting then dpRefuse 6 d.mhi.dpAddr { d with readData := 0 }
  else match d.mhi.dpUnit with
    | .reading left done => nextDword left done d
    | _ =>
      let (b, d1) := readDpUnit ecc m d
      nextDword (dwords b (dpSizeBytes d / 4)) 0 d1

/-- DP_DATA_READ (R512). -/
def execDpDataRead (ecc : EccResult) (s : State) : Result := onDevMem s (dpDataRead ecc)

/-- Write the gathered unit at DP_ADDR (R512); a write drops the buffer of the window (R513). -/
def writeDpUnit (bytes : List Byte) (d : Dev) (m : Memory) : Dev × Memory :=
  let d1 := { d with mhi.dpBuffer := none }
  if d1.mhi.dpAddr % dpSizeBytes d1 ≠ 0 then (dpRefuse 5 d1.mhi.dpAddr d1, m) else accessWrite d1.mhi.dpAddr bytes d1 m

/-- A DP_DATA write (R512): the unit is written when its last dword arrives; a unit being read is discarded (log entry 26). -/
def dpDataWrite (v : Reg) (d : Dev) (m : Memory) : Dev × Memory :=
  if !mhiOpen d then (d, m)
  else if d.mhi.restarting then (dpRefuse 6 d.mhi.dpAddr d, m)
  else
    let got := (match d.mhi.dpUnit with
      | .writing g => g
      | _ => []) ++ [v.toNat]
    if got.length * 4 < dpSizeBytes d then ({ d with mhi.dpUnit := .writing got }, m)
    else
      let (d1, m1) := writeDpUnit (got.flatMap (fun x => leBytes x 4)) d m
      (unitDone d1, m1)

/-- DP_DATA_WRITE (R512). -/
def execDpDataWrite (v : Reg) (s : State) : Result := onBoth s (dpDataWrite v)

/-- A DP_CTRL write (R511, R512): a SIZE of 3 is reserved and leaves SIZE as it is (00 R9). -/
def dpCtrl (v : Reg) (d : Dev) : Dev :=
  let size := bits v.toNat 1 0
  if blocksRead d then
    dropUnit { d with mhi.dpBurst := bits v.toNat 13 8, mhi.dpAutoInc := v.getLsbD 4, mhi.dpBuffer := none
                      mhi.dpSize := if size = 3 then d.mhi.dpSize else size }
  else d

/-- DP_CTRL_WRITE (R512). -/
def execDpCtrlWrite (v : Reg) (s : State) : Result := onDev s (dpCtrl v)

/-! ## The BAR2 window (R513) -/

/-- Bytes of the read-ahead (R511). -/
def burstBytes (d : Dev) : Nat := (if d.mhi.dpBurst = 0 then 64 else d.mhi.dpBurst) * 64

/-- Fill from an aligned address: `need` units that the request touches, then units of read-ahead while each may be read. -/
def fillUnits (ecc : EccResult) (need : Nat) (a : Nat) (m : Memory) : Nat → Dev → List Byte × Dev
  | 0, d => ([], d)
  | n + 1, d =>
    if need = 0 ∧ firstCode (readCode d) a 64 ≠ 0 then ([], d)
    else
      let (v, d1) := readUnit ecc a m d
      let (r, d2) := fillUnits .clean (need - 1) (a + 64) m n d1
      (leBytes v 64 ++ r, d2)

/-- Does the buffer hold `n` bytes from an address? -/
def bufferHolds (b : Option (Nat × List Byte)) (a n : Nat) : Bool :=
  b.any (fun x => decide (x.1 ≤ a) && decide (a + n ≤ x.1 + x.2.length))

/-- Refill the buffer where a read falls outside it. -/
def fillWindow (ecc : EccResult) (a n : Nat) (m : Memory) (d : Dev) : Dev :=
  if bufferHolds d.mhi.dpBuffer a n then d
  else
    let start := a / 64 * 64
    let need := ceilDiv (a + n - start) 64
    let (b, d1) := fillUnits ecc need start m (max need (burstBytes d / 64)) d
    { d1 with mhi.dpBuffer := some (start, b) }

/-- The bytes of the buffer that a read returns. -/
def fromBuffer (a n : Nat) (d : Dev) : List Byte :=
  match d.mhi.dpBuffer with
  | some (s, b) => (b.drop (a - s)).take n
  | none => zeros n

/-- With AUTO_INC a request that touches byte 65,535 advances DP_ADDR (R513). -/
def advanceWindow (offset len : Nat) (d : Dev) : Dev :=
  if d.mhi.dpAutoInc ∧ len ≠ 0 ∧ offset + len = 65536 then setDpAddr (d.mhi.dpAddr + 65536) d else d

/-- A BAR2 read (R513). A request that leaves the window reaches nothing. -/
def bar2Read (offset len : Nat) (ecc : EccResult) (d : Dev) (m : Memory) : Dev :=
  if !mhiOpen d ∨ 65536 < offset + len then d
  else
    let d0 := dropUnit d
    let a := (d0.mhi.dpAddr + offset) % 2 ^ 64
    let c := if d0.mhi.restarting then 6 else if d0.mhi.dpAddr % 64 ≠ 0 then 5 else firstCode (readCode d0) a len
    if c ≠ 0 then advanceWindow offset len (dpRefuse c a { d0 with readBytes := zeros len })
    else
      let d1 := fillWindow ecc a len m d0
      advanceWindow offset len { d1 with readBytes := fromBuffer a len d1 }

/-- BAR2_READ (R513). -/
def execBar2Read (offset len : Nat) (ecc : EccResult) (s : State) : Result := onDevMem s (bar2Read offset len ecc)

/-- Bytes of a request that fall into the unit at `a`, merged into that unit where it is of an on-die table (R513): first address
and bytes to write. -/
def mergeUnit (d : Dev) (m : Memory) (a : Nat) (bytes : List Byte) : Nat × List Byte :=
  let base := a / 64 * 64
  match regionAt d a with
  | .capture _ | .sampler _ | .lens _ | .wbl _ =>
    let old := leBytes (unitValue d m 0 base) 64
    (base, old.take (a - base) ++ bytes ++ old.drop (a - base + bytes.length))
  | _ => (a, bytes)

/-- Write a request's bytes, unit by unit. -/
def writeUnits (a : Nat) (bytes : List Byte) : Nat → Dev → Memory → Dev × Memory
  | 0, d, m => (d, m)
  | n + 1, d, m =>
    let k := 64 - a % 64
    let (w, x) := mergeUnit d m a (bytes.take k)
    let (d1, m1) := writeUnit w x d m
    if bytes.length ≤ k then (d1, m1) else writeUnits (a + k) (bytes.drop k) n d1 m1

/-- A BAR2 write (R513). -/
def bar2Write (offset : Nat) (bytes : List Byte) (d : Dev) (m : Memory) : Dev × Memory :=
  if !mhiOpen d ∨ 65536 < offset + bytes.length ∨ bytes = [] then (d, m)
  else
    let d0 := dropUnit { d with mhi.dpBuffer := none }
    let a := (d0.mhi.dpAddr + offset) % 2 ^ 64
    let c := if d0.mhi.restarting then 6 else if d0.mhi.dpAddr % 64 ≠ 0 then 5 else firstCode (writeCode d0) a bytes.length
    let (d1, m1) := if c ≠ 0 then (dpRefuse c a d0, m) else writeUnits a bytes (bytes.length / 64 + 2) d0 m
    (advanceWindow offset bytes.length d1, m1)

/-- BAR2_WRITE (R513). -/
def execBar2Write (offset : Nat) (bytes : List Byte) (s : State) : Result := onBoth s (bar2Write offset bytes)

end Sys2Proof.Machine
end

