-- ==== Sys2Proof/Machine/Registers.lean ====
section
/-! DEFINITION. BAR0 (18 R495 to R504): what every register reads as, what a write of a register without a row of its own does, the
_LO/_HI pairs (00 R7), service mode, and the mailbox doorbell. -/

namespace Sys2Proof.Machine

/-! ## What registers read as -/

/-- A bit list as a number, bit `i` from element `i`. -/
def flagNum : List Bool → Nat
  | [] => 0
  | b :: r => b2n b + 2 * flagNum r

/-- The GLOBAL registers (R499, R500). -/
def globalValue (d : Dev) : Nat → Nat
  | 0x00 => d.mhi.pci.device * 65536 + d.mhi.pci.revision * 256 + 1
  | 0x04 => d.mhi.fwVersion
  | 0x08 => d.boot.step + 16 * b2n d.boot.serving + 256 * d.boot.code + 65536 * d.boot.fwSlot
      + 16777216 * flagNum [d.boot.straps.tliHead, d.boot.straps.pairSide, d.boot.straps.flashMode, d.boot.straps.bootSlot]
  | 0x0C => (alertBits d).toNat
  | 0x14 => b2n d.mhi.service + 2 * b2n (serviceAllowed d)
  | 0x18 => flagNum ((List.range 4).map (fun i => thas d.boot.fuses.signer i)) + 16 * d.boot.fuses.signerRevoked.toNat
  | 0x20 => b2n d.mhi.mboxBusy + 2 * b2n d.mhi.mboxReady + 4 * b2n d.mhi.mboxRefused + 65536 * d.mhi.mboxDoneSeq
  | 0x24 => twos 16 d.mhi.temp + 65536 * (d.mhi.power / 100 % 65536)
  | 0x28 => d.mhi.int.toNat
  | 0x2C => d.mhi.intEn.toNat
  | _ => 0

/-- CHART_STATUS.STATE (02 R62). -/
def chartStateNum : ChartState → Nat
  | .idle => 0
  | .checking => 1
  | .staged => 2
  | .writing => 3
  | .switching => 4

/-- The CHART registers (02 R59 to R65). -/
def chartValue (d : Dev) : Nat → Nat
  | 0x04 => d.chart.stageLen
  | 0x08 => chartStateNum d.chart.state + 256 * flagNum [d.chart.runSlot == 1, d.chart.slot0Valid, d.chart.slot1Valid, d.chart.fallback,
      d.chart.partnerStaged] + 16777216 * d.chart.err
  | 0x0C => d.chart.errField + 65536 * d.chart.errSection
  | 0x10 => d.chart.errOffset
  | 0x18 => d.chart.runSeq
  | 0x1C => d.chart.stageSeq
  | 0x20 => d.chart.slot0Seq
  | 0x24 => d.chart.slot1Seq
  | 0x28 => d.chart.int.toNat
  | _ => 0

/-- Pages retired in the device's life (03 R98): from the remap table and withdrawals. -/
def retiredPages (d : Dev) : Nat := (d.pool.remap.map (·.1) ++ d.pool.withdrawn).eraseDups.length

/-- The POOL registers (03 R95 to R100). -/
def poolValue (d : Dev) : Nat → Nat
  | 0x00 => poolStateNum d.pool.state + 256 * (d.pool.level % 4)
      + 1024 * flagNum [d.pool.unclean, d.pool.layoutKept, d.pool.floorsShort]
  | 0x04 => occupancy d + 65536 * peakNow d
  | 0x08 => inService d + 65536 * d.pool.reserveHeld
  | 0x0C => threshold (inService d) 1 + 65536 * threshold (inService d) 2
  | 0x10 => threshold (inService d) 3
  | 0x14 => min (retiredPages d) 65535 + 65536 * min (spareFree d).length 2047
  | 0x18 => d.pool.corr2 + 65536 * d.pool.uncorr
  | 0x1C => d.pool.restriped + 65536 * d.pool.discarded
  | 0x20 => d.pool.coveSel
  | 0x24 => heldBy d d.pool.coveSel % 65536 + 65536 * (borrowed d d.pool.coveSel % 65536)
  | 0x28 => d.pool.int.toNat
  | 0x2C => d.pool.intEn.toNat
  | _ => 0

/-- COVE_PEND(k) (R498). -/
def covePend (d : Dev) (k : Nat) : Nat :=
  flagNum ((List.range 32).map (fun b => (tget d.cove.tab (32 * k + b)).any (fun r => r.int &&& r.intEn != 0)))

/-- Is a swap between steps 1 and 6 (13 R422)? -/
def swapActive (d : Dev) : Bool := d.pair.swap != .none

/-- The PAIR registers (13 R421 to R425) but for PAIR_EPOCH. -/
def pairValue (d : Dev) : Nat → Nat
  | 0x00 => roleNum d.pair.role + 4 * (d.pair.partner % 4)
      + 512 * flagNum [d.pair.side == 1, d.pair.straitUp, d.pair.fenceOut, d.pair.fenceWired, d.pair.tidelinePartner, swapActive d,
          d.pair.selftestFail, d.pair.mixed]
      + 16777216 * (d.pair.refuse % 16) + 268435456 * (d.pair.fenceReason % 16)
  | 0x0C => d.pair.lanes % 32 + 65536 * d.pair.replays
  | 0x10 => min d.pair.mirrorPages.length 65535
  | 0x14 => d.pair.result % 16 + 65536 * (d.pair.pauseMs % 65536)
  | 0x1C => d.pair.int.toNat
  | 0x20 => d.pair.intEn.toNat
  | _ => 0

/-- The BAY registers (16 R470 to R472). -/
def bayValue (d : Dev) (o : Nat) : Nat :=
  match o with
  | 0x00 => bayBits d (·.prsnt)
  | 0x04 => bayBits d (·.pg)
  | 0x08 => bayLatched d
  | 0x10 => d.bay.int.toNat
  | 0x14 => d.bay.intEn.toNat
  | 0x18 => d.bay.change.toNat
  | 0x1C => d.bay.changeEn.toNat
  | _ =>
    if 0x100 ≤ o ∧ o < 0x300 then
      let b := bayOf d ((o - 0x100) / 16)
      match o % 16 with
      | 0 => bayStatus b
      | 4 => bayVolt b
      | 8 => b.current % 65536 + 65536 * (b.peak % 65536)
      | _ => 0
    else 0

/-- The EVENT registers (17 R485, R486) but for the pairs. A flush or clear runs at one instant here, so that FLUSHING and CLEARING show
only those that wait for bring-up step 5. -/
def eventValue (d : Dev) : Nat → Nat
  | 0x00 => d.ev.buffer.length + 65536 * flagNum [d.ev.pendingFlush, d.ev.pendingClear.isSome, decide (eventCapacity d ≤ d.ev.slots.length)]
  | 0x08 => d.ev.slots.length
  | 0x0C => d.ev.lost
  | 0x20 => d.ev.int.toNat
  | 0x24 => d.ev.intEn.toNat
  | 0x28 => eventCapacity d
  | _ => 0

/-- PERF_OVF(k) (17 R492). -/
def perfOvf (d : Dev) (k : Nat) : Nat := flagNum ((List.range 32).map (fun b => (tget d.perf.counters (32 * k + b)).any (·.ovf)))

/-- The PERF registers (17 R492, R493) but for the pairs. -/
def perfValue (d : Dev) (o : Nat) : Nat :=
  if 0x100 ≤ o ∧ o < 0x200 then perfOvf d ((o - 0x100) / 4)
  else if 0x8000 ≤ o ∧ o < 0xA000 then
    let c := (tget d.perf.counters ((o - 0x8000) / 4)).getD {}
    c.event + 256 * c.cls + 65536 * c.lens + 2147483648 * b2n c.enable
  else 0

/-- Dwords of the current DP_DATA unit already transferred (R511). -/
def dpPartial (d : Dev) : Nat :=
  match d.mhi.dpUnit with
  | .none => 0
  | .reading _ n => n
  | .writing g => g.length

/-- The DPORT registers (R510, R511) but for DP_ADDR and DP_DATA. -/
def dportValue (d : Dev) : Nat → Nat
  | 0x08 => d.mhi.dpSize + 16 * b2n d.mhi.dpAutoInc + 256 * d.mhi.dpBurst
  | 0x0C => b2n d.mhi.dpErr + 2 * (dpPartial d % 16) + 256 * d.mhi.dpCode
  | _ => 0

/-- A register of a Cove page (11 R349, R350) but for the counters; the page of a FREE Cove reads 0, and so do the key slots. -/
def coveValue (d : Dev) (c o : Nat) : Nat :=
  match tget d.cove.tab c with
  | none => 0
  | some r => match o with
    | 0x00 => coveStateNum r.state + 256 * ((ctrlsOfCove d c).length % 65536) + 16777216 * r.gen
    | 0x08 => coveQps d c
    | 0x0C => (coveNamespaces d c).length
    | 0x10 => heldBy d c % 65536 + 65536 * (borrowed d c % 65536)
    | 0x14 => coveInflight d c
    | 0x18 => 0x8000 + c
    | 0x1C => r.imageLen % 65536 + 16777216 * r.imageSlot
    | 0x20 => r.int.toNat
    | 0x24 => r.intEn.toNat
    | _ => 0

/-- First BAR0 offset of the Cove pages, and of the MSI-X table and pending bits (R495, R496). -/
def covePages : Nat := 0x1000000

/-- Is an offset in the Cove pages? -/
def inCovePages (off : Nat) : Bool := within off covePages 0x1000000

/-- The whole 64-bit value behind the _HI register at an offset (00 R7); none where no pair stands. -/
def pairAt (d : Dev) (hi : Nat) : Option Nat :=
  if hi = 0xC0008 then some d.pair.epoch
  else if hi = 0xF0014 then some (d.ev.nextEsn.getD 0)
  else if hi = 0xF001C then some (slotEsn d.ev.slots.head?)
  else if hi = 0x10000C then some d.perf.stamp
  else if hi = 0x120004 then some d.mhi.dpAddr
  else if within hi 0x104000 0x4000 ∧ hi % 8 = 4 then
    let c := (tget d.perf.counters ((hi - 0x104000) / 8)).getD {}
    some (c.count % 2 ^ 32 + perfHiVal c * 2 ^ 32)
  else if inCovePages hi ∧ 0x100 ≤ hi % 4096 ∧ hi % 4096 < 0x180 ∧ hi % 8 = 4 then
    (tget d.cove.tab ((hi - covePages) / 4096)).map (fun r => nth r.counters ((hi % 4096 - 0x100) / 8) 0 % 2 ^ 64)
  else none

/-- The value of a register outside the pairs (R496): while the blocks restart all but GLOBAL read 0 (R501). -/
def regValue (d : Dev) (off : Nat) : Nat :=
  let o := off % 65536
  if off < 65536 then globalValue d o
  else if !blocksRead d then 0
  else if inCovePages off then coveValue d ((off - covePages) / 4096) (off % 4096)
  else match off / 65536 with
    | 1 => chartValue d o
    | 2 => poolValue d o
    | 10 => if o < 512 then covePend d (o / 4) else 0
    | 12 => pairValue d o
    | 14 => bayValue d o
    | 15 => eventValue d o
    | 16 => perfValue d o
    | 18 => dportValue d o
    | 255 => if o < 1024 then msixDword d (o / 4)
      else if 0x8000 ≤ o ∧ o < 0x8008 then d.mhi.msixPending.toNat / 2 ^ (32 * ((o - 0x8000) / 4)) % 2 ^ 32
      else 0
    | _ => 0

/-! ## Reads with an effect -/

/-- A PAIR_STRAIT read (13 R423): REPLAYS clears. -/
def pairStraitRead (d : Dev) : Dev := { d with readData := pairValue d 0x0C, pair.replays := 0 }

/-- PAIR_STRAIT_READ (13 R423). -/
def execPairStraitRead (s : State) : Result := onDev s (readReg pairStraitRead)

/-- BAY_CURR_READ (16 R472). -/
def execBayCurrRead (bay : Nat) (s : State) : Result := onDev s (readReg (bayCurrRead bay))

/-- A read of any register that is not half of a pair, with its effect where it has one. -/
def plainRead (off : Nat) (d : Dev) (m : Memory) : Dev :=
  if !blocksRead d ∨ off < 65536 then { d with readData := regValue d off }
  else if off = 0x20004 then { d with readData := regValue d off, pool.peak := 0 }
  else if off = 0x20018 then { d with readData := regValue d off, pool.corr2 := 0, pool.uncorr := 0 }
  else if off = 0xC000C then pairStraitRead d
  else if within off 0xE0100 0x200 ∧ off % 16 = 8 then bayCurrRead ((off - 0xE0100) / 16) d
  else if off = 0x120010 then dpDataRead .clean d m
  else { d with readData := regValue d off }

/-- A read of a _LO register latches its _HI (00 R7); that of PERF_CNT_LO samples the counter too (17 R490). -/
def loRead (off : Nat) (d : Dev) (m : Memory) : Dev :=
  if !blocksRead d then plainRead off d m
  else if within off 0x104000 0x4000 ∧ off % 8 = 0 then perfCntLoRead ((off - 0x104000) / 8) d
  else match pairAt d (off + 4) with
    | some v => { d with readData := v % 2 ^ 32, mhi.latches := tput d.mhi.latches (off + 4) (v / 2 ^ 32) }
    | none => plainRead off d m

/-- A read of a _HI register returns its latch and uses it up, else the live upper half (00 R7). -/
def hiRead (off : Nat) (d : Dev) (m : Memory) : Dev :=
  if !blocksRead d then plainRead off d m
  else match pairAt d off with
    | none => plainRead off d m
    | some v => match tget d.mhi.latches off with
      | some x => { d with readData := x, mhi.latches := terase d.mhi.latches off }
      | none => { d with readData := v / 2 ^ 32 }

/-- A BAR0 read of n bytes at a byte address (00 R6): the register's read, of which only the addressed bytes are returned. -/
def barRead (read : Nat → Dev → Memory → Dev) (offset n : Nat) (d : Dev) (m : Memory) : Dev :=
  if mhiOpen d then
    let d1 := read (offset / 4 * 4) d m
    { d1 with readData := d1.readData / 2 ^ (8 * (offset % 4)) % 2 ^ (8 * min n 4) }
  else d

/-- REGISTER_LO_READ (00 R6, R7). -/
def execRegisterLoRead (got : BarRead) (s : State) : Result := onDevMem s (barRead loRead got.offset got.nbytes)

/-- REGISTER_HI_READ (00 R6, R7). -/
def execRegisterHiRead (got : BarRead) (s : State) : Result := onDevMem s (barRead hiRead got.offset got.nbytes)

/-! ## GLOBAL writes: service mode and the doorbell (R502, R504) -/

/-- A GLOBAL_SERVICE write (R502): ENABLE with its KEY while ALLOWED enters service mode, with a WARN event; a write of 0 leaves it. -/
def serviceWrite (v : Reg) (d : Dev) : Dev :=
  if v.getLsbD 0 then
    if d.mhi.service ∨ bits v.toNat 15 8 ≠ 0x5A ∨ !serviceAllowed d then d
    else raiseGlobal 2 (logEvent 0 (Config.unlistedCode 2) 1 (payload 0 0 1 0) { d with mhi.service := true })
  else if d.mhi.service then raiseGlobal 2 { d with mhi.service := false } else d

/-- GLOBAL_SERVICE_WRITE (R502). -/
def execGlobalServiceWrite (v : Reg) (s : State) : Result := onDev s (fun d => if mhiOpen d then serviceWrite v d else d)

/-- The mailbox commands (R505). -/
def mboxOps : List Nat := [0x0001, 0x0010, 0x0011, 0x0012, 0x0013, 0x0014, 0x0020, 0x0021, 0x0030, 0x0031, 0x0040, 0x0041, 0x0050]

/-- The commands whose result FLAGS.PERSIST may store (R505). -/
def persistOps : List Nat := [0x0020, 0x0021, 0x0040]

/-- A doorbell write (R504): ignored with REFUSED set while BUSY or not READY; an OP that is not listed completes with STATUS 1, and
invalid FLAGS or lengths with STATUS 2. The command itself is its own row (log entry 6). -/
def doorbell (v : Reg) (d : Dev) (m : Memory) : Dev :=
  if !d.mhi.mboxReady ∨ d.mhi.mboxBusy then { d with mhi.mboxRefused := true }
  else
    let d1 := { d with mhi.mboxRefused := false, mhi.mboxBusy := true, mhi.mboxPending := true, mhi.mboxSeq := v.toNat % 65536
                       mhi.mboxRoom := some (leNum (mgets m (mailboxBase + 8) 4)) }
    let field := fun (off n : Nat) => leNum (mgets m (mailboxBase + off) n)
    let op := field 0 2
    let flags := field 2 2
    if !mboxOps.contains op then mboxStatus 1 d1
    else if 2 ≤ flags ∨ (flags = 1 ∧ !persistOps.contains op) ∨ 65536 < field 4 4 ∨ 65536 < field 8 4 then mboxStatus 2 d1
    else d1

/-- GLOBAL_MBOX_DOORBELL (R504). -/
def execGlobalMboxDoorbell (v : Reg) (s : State) : Result :=
  onBoth s (fun d m => if mhiOpen d then placeMbox (doorbell v d m) m else (d, m))

/-! ## Writes by the access codes (00 R6, R8, R9) -/

/-- A write-one-to-clear register: each 1 clears its bit. -/
def w1c {w : Nat} (x : BitVec w) (v : Reg) : BitVec w := x &&& ~~~ (v.setWidth w)

/-- A write of a GLOBAL register (R499). -/
def globalWrite (o : Nat) (v : Reg) (d : Dev) (m : Memory) : Dev :=
  match o with
  | 0x10 => if v.getLsbD 0 then globalReset v d else d
  | 0x14 => serviceWrite v d
  | 0x1C => doorbell v d m
  | 0x28 => { d with mhi.int := w1c d.mhi.int v }
  | 0x2C => { d with mhi.intEn := v.setWidth 4 }
  | _ => d

/-- A CHART_CTRL write (02 R60). -/
def chartCtrl (v : Reg) (d : Dev) (m : Memory) : Dev × Memory :=
  if v.getLsbD 0 ∨ chartCtrlBad v then (chartStage v d m, m)
  else if v.getLsbD 1 then chartStore v d m
  else if v.getLsbD 2 then (chartDiscard v d, m)
  else (d, m)

/-- A write of a CHART register (02 R59). -/
def chartWrite (o : Nat) (v : Reg) (d : Dev) (m : Memory) : Dev × Memory :=
  match o with
  | 0x00 => chartCtrl v d m
  | 0x04 => ({ d with chart.stageLen := bits v.toNat 22 0 }, m)
  | 0x14 => chartCommit v d m
  | 0x28 => ({ d with chart.int := w1c d.chart.int v }, m)
  | _ => (d, m)

/-- A write of a POOL register (03 R95). -/
def poolWrite (o : Nat) (v : Reg) (d : Dev) : Dev :=
  match o with
  | 0x20 => { d with pool.coveSel := bits v.toNat 11 0 }
  | 0x28 => { d with pool.int := w1c d.pool.int v }
  | 0x2C => { d with pool.intEn := v.setWidth 9 }
  | _ => d

/-- A PAIR_CTRL write (13 R424). -/
def pairCtrl (v : Reg) (d : Dev) : Dev :=
  if !pairCtrlOk v then pairIgnore d
  else if v.getLsbD 0 then startSwap d
  else if v.getLsbD 1 then pairForce v [] d
  else if v.getLsbD 2 then pairUnfence v d
  else d

/-- A write of a PAIR register (13 R421). -/
def pairWrite (o : Nat) (v : Reg) (d : Dev) : Dev :=
  match o with
  | 0x18 => pairCtrl v d
  | 0x1C => { d with pair.int := w1c d.pair.int v }
  | 0x20 => { d with pair.intEn := v.setWidth 6 }
  | _ => d

/-- A write of a BAY register (16 R470); CLEAR goes by the VOUT last measured. -/
def bayWrite (o : Nat) (v : Reg) (d : Dev) : Dev :=
  match o with
  | 0x0C => bayCtrl v (fun n => (bayOf d n).vout) d
  | 0x10 => { d with bay.int := w1c d.bay.int v }
  | 0x14 => { d with bay.intEn := v.setWidth 32 }
  | 0x18 => { d with bay.change := w1c d.bay.change v }
  | 0x1C => { d with bay.changeEn := v.setWidth 32 }
  | _ => d

/-- A write of an EVENT register (17 R485). -/
def eventWrite (o : Nat) (v : Reg) (d : Dev) : Dev :=
  match o with
  | 0x04 => eventCtrl v d
  | 0x20 => { d with ev.int := w1c d.ev.int v }
  | 0x24 => { d with ev.intEn := v.setWidth 6 }
  | _ => d

/-- PERF_OVF(k) written (17 R492): each 1 clears an overflow bit. -/
def perfOvfWrite (k : Nat) (v : Reg) (d : Dev) : Dev :=
  { d with perf.counters := d.perf.counters.map (fun e =>
      if e.1 / 32 = k ∧ v.getLsbD (e.1 % 32) then (e.1, { e.2 with ovf := false }) else e) }

/-- A write of a PERF register (17 R492). -/
def perfWrite (o : Nat) (v : Reg) (d : Dev) : Dev :=
  if o = 0 then (if v.getLsbD 0 then perfClearAll d else d)
  else if 0x100 ≤ o ∧ o < 0x200 then perfOvfWrite ((o - 0x100) / 4) v d
  else if 0x8000 ≤ o ∧ o < 0xA000 then perfCfgWrite ((o - 0x8000) / 4) v d
  else d

/-- A write of DP_ADDR_LO is held (00 R7), and discards a partial unit (R512). -/
def dpAddrLo (v : Reg) (d : Dev) : Dev := dropUnit { d with mhi.held := tput d.mhi.held 0x120004 v.toNat }

/-- A write of DP_ADDR_HI applies both halves, or the upper half alone (00 R7). -/
def dpAddrHi (v : Reg) (d : Dev) : Dev :=
  let lo := (tget d.mhi.held 0x120004).getD (d.mhi.dpAddr % 2 ^ 32)
  dropUnit (setDpAddr (v.toNat * 2 ^ 32 + lo) { d with mhi.held := terase d.mhi.held 0x120004 })

/-- A write of a DPORT register (R510). -/
def dportWrite (o : Nat) (v : Reg) (d : Dev) (m : Memory) : Dev × Memory :=
  match o with
  | 0x00 => (dpAddrLo v d, m)
  | 0x04 => (dpAddrHi v d, m)
  | 0x08 => (dpCtrl v d, m)
  | 0x0C => ({ d with mhi.dpErr := d.mhi.dpErr && !v.getLsbD 0 }, m)
  | 0x10 => dpDataWrite v d m
  | _ => (d, m)

/-- A COVE_CTRL write (11 R350): exactly one of its requests acts. -/
def coveCtrlWrite (c : Nat) (v : Reg) (d : Dev) (m : Memory) : Dev × Memory :=
  if ([0, 2, 3, 4].filter (fun i => v.getLsbD i)).length ≠ 1 then (d, m)
  else if v.getLsbD 0 then ((requestReset c (v.getLsbD 1) d).getD (refuseControl c d), m)
  else if v.getLsbD 2 then (freezeByCtrl c d, m)
  else if v.getLsbD 3 then
    ((match coveStateOf d c with
      | some .active => thawCove c d
      | some .frozen => thawCove c d
      | _ => refuseControl c d), m)
  else exportByCtrl c d m

/-- A key slot's CTRL word (12 R386): it acts on the staging bytes and zeroizes them. -/
def slotCtrl (c n : Nat) (v : Reg) (d : Dev) : Dev :=
  let stage := leBytes ((tget d.keys.stage (c * 16 + n)).getD 0) 128
  slotCmd c n (match bits v.toNat 7 0 with
    | 0 => fun x => x
    | 1 => loadClear c n (bits v.toNat 15 8) (leNum (stage.take 32))
    | 2 => loadWrapped c n ((stage.drop 32).take 52)
    | 3 => fun x => writeSlot (emptySlot x c n) x
    | _ => slotResult c n 3) d

/-- A write of a key slot (12 R386), at an offset of its 128 bytes. -/
def slotWrite (c n k : Nat) (v : Reg) (d : Dev) : Dev :=
  if k = 0x7C then slotCtrl c n v d
  else
    let old := (tget d.keys.stage (c * 16 + n)).getD 0
    let new := old - bits old (8 * k + 31) (8 * k) * 2 ^ (8 * k) + v.toNat * 2 ^ (8 * k)
    { d with keys.stage := tput d.keys.stage (c * 16 + n) new }

/-- A write of a Cove page (11 R349): that of a FREE Cove ignores it. -/
def coveWrite (c o : Nat) (v : Reg) (d : Dev) (m : Memory) : Dev × Memory :=
  if !thas d.cove.tab c then (d, m)
  else if o = 0x04 then coveCtrlWrite c v d m
  else if o = 0x20 then (modCove c (fun r => { r with int := w1c r.int v }) d, m)
  else if o = 0x24 then (modCove c (fun r => { r with intEn := v.setWidth 3 }) d, m)
  else if 0x800 ≤ o then (slotWrite c ((o - 0x800) / 128) (o % 128) v d, m)
  else (d, m)

/-- A write of the MSI-X table (R495): unmasking a vector whose pending bit is set sends it and clears the bit (log entry 7). -/
def msixWrite (i : Nat) (v : Reg) (d : Dev) : Dev :=
  let d1 := { d with mhi.msixTable := tput d.mhi.msixTable i (if i % 4 = 3 then v.toNat % 2 else v.toNat) }
  if i % 4 = 3 ∧ !v.getLsbD 0 ∧ d1.mhi.msixPending.getLsbD (i / 4) then
    emit (.msix (i / 4)) { d1 with mhi.msixPending := clearBit d1.mhi.msixPending (i / 4) }
  else d1

/-- A whole write of the register at an aligned offset (R496), where the MHI answers. -/
def regWrite (off : Nat) (v : Reg) (d : Dev) (m : Memory) : Dev × Memory :=
  let o := off % 65536
  if off < 65536 then (globalWrite o v d m, m)
  else if !blocksRead d then (d, m)
  else if off / 65536 = 18 then dportWrite o v d m
  else if off / 65536 = 255 then (if o < 1024 then (msixWrite (o / 4) v d, m) else (d, m))
  else if !blocksOpen d then (d, m)
  else if inCovePages off then coveWrite ((off - covePages) / 4096) (off % 4096) v d m
  else match off / 65536 with
    | 1 => chartWrite o v d m
    | 2 => (poolWrite o v d, m)
    | 12 => (pairWrite o v d, m)
    | 14 => (bayWrite o v d, m)
    | 15 => (eventWrite o v d, m)
    | 16 => (perfWrite o v d, m)
    | _ => (d, m)

/-- A BAR0 write (00 R6): one of fewer than four bytes is discarded, and so is one that is not aligned. -/
def barWrite (off nbytes : Nat) (v : Reg) (d : Dev) (m : Memory) : Dev × Memory :=
  if !mhiOpen d ∨ nbytes < 4 ∨ off % 4 ≠ 0 ∨ 0x4000000 ≤ off then (d, m) else regWrite off v d m

/-- A BAR0 write, with the result of a mailbox command that it may have completed. -/
def barWriteMbox (off nbytes : Nat) (v : Reg) (d : Dev) (m : Memory) : Dev × Memory :=
  let (d1, m1) := barWrite off nbytes v d m
  placeMbox d1 m1

/-- REGISTER_WRITE (00 R6, R8, R9). -/
def execRegisterWrite (offset nbytes : Nat) (v : Reg) (s : State) : Result := onBoth s (barWriteMbox offset nbytes v)

/-- REGISTER_LO_WRITE (00 R7). -/
def execRegisterLoWrite (offset : Nat) (v : Reg) (s : State) : Result := onBoth s (barWriteMbox offset 4 v)

/-- REGISTER_HI_WRITE (00 R7). -/
def execRegisterHiWrite (offset : Nat) (v : Reg) (s : State) : Result := onBoth s (barWriteMbox offset 4 v)

end Sys2Proof.Machine
end

