-- ==== Sys2Proof/Machine/SideBand.lean ====
section
/-! DEFINITION. The SMBus sideband (18 R515), and what the device does by itself while no command waits. -/

namespace Sys2Proof.Machine

/-! ## SMBus (R515) -/

/-- Answer a read: while VDD_IO is in specification; a value that the device does not yet know, in reset, reads as all ones of its
width. -/
def smbRead (width : Nat) (value : Dev → Nat) (known : Dev → Bool) (d : Dev) : Dev :=
  if !d.boot.alwaysOn then d
  else { d with readData := if known d then value d % 2 ^ width else 2 ^ width - 1 }

/-- The core's values are known once it is out of reset (log entry 27). -/
def smbCore (d : Dev) : Bool := !coreHeld d

/-- BAY_ALERT_N (16 R469): asserted while a bay is LATCHED or FET_FAILED. -/
def bayAlert (d : Dev) : Bool := bayLatched d != 0

/-- SMB_STATUS_READ (R515): command 0x00. -/
def execSmbStatusRead (s : State) : Result :=
  onDev s (smbRead 8 (fun d => flagNum [alertBits d != 0, bayAlert d, decide (2 ≤ d.pool.level), d.boot.serving]) smbCore)

/-- SMB_TEMP_READ (R515): command 0x01. -/
def execSmbTempRead (s : State) : Result := onDev s (smbRead 16 (fun d => twos 16 d.mhi.temp) smbCore)

/-- SMB_POWER_READ (R515): command 0x02. -/
def execSmbPowerRead (s : State) : Result := onDev s (smbRead 16 (fun d => d.mhi.power / 100) smbCore)

/-- SMB_POWER_STATE_READ (R515): command 0x03. -/
def execSmbPowerStateRead (s : State) : Result := onDev s (smbRead 8 (fun d => d.host.power) smbCore)

/-- SMB_ROLE_READ (R515): command 0x04. -/
def execSmbRoleRead (s : State) : Result :=
  onDev s (smbRead 8 (fun d => roleNum d.pair.role + 4 * (d.pair.partner % 4)) smbCore)

/-- SMB_BOOT_READ (R515): command 0x05. -/
def execSmbBootRead (s : State) : Result := onDev s (smbRead 8 (fun d => d.boot.step + 16 * d.boot.code) smbCore)

/-- SMB_ALERT_READ (R515): command 0x06. -/
def execSmbAlertRead (s : State) : Result := onDev s (smbRead 16 (fun d => (alertBits d).toNat) smbCore)

/-- SMB_LATCHED_LO_READ (R515): command 0x07; the bay die knows it at all times. -/
def execSmbLatchedLoRead (s : State) : Result := onDev s (smbRead 16 (fun d => bayLatched d) (fun _ => true))

/-- SMB_LATCHED_HI_READ (R515): command 0x08. -/
def execSmbLatchedHiRead (s : State) : Result := onDev s (smbRead 16 (fun d => bayLatched d / 65536) (fun _ => true))

/-- SMB_WRITE (R515): NACKed at the command byte. -/
def execSmbWrite (s : State) : Result := onDev s (fun d => if d.boot.alwaysOn then emit .smbNack d else d)

end Sys2Proof.Machine
end

