-- ==== Sys2Proof/Machine/Dispatch.lean ====
section
/-! DEFINITION. The dispatch of a command to its meaning: one arm per row of spec/opcode_table.json. -/

namespace Sys2Proof.Machine

def exec (i : Instr) (s : State) : Host.Outcome State Fault Refusal :=
  match i with
  | .porstNRelease straps => Sys2Proof.Machine.execPorstNRelease straps s
  | .sfdpRead p0 p1 => Sys2Proof.Machine.execSfdpRead p0 p1 s
  | .firmwareLoad => Sys2Proof.Machine.execFirmwareLoad s
  | .hbmTrain ok0 ok1 => Sys2Proof.Machine.execHbmTrain ok0 ok1 s
  | .poolRecovery faults => Sys2Proof.Machine.execPoolRecovery faults s
  | .tidelineWait timedOut => Sys2Proof.Machine.execTidelineWait timedOut s
  | .bayBringupPower => Sys2Proof.Machine.execBayBringupPower s
  | .shoalAssembly probes rec_ => Sys2Proof.Machine.execShoalAssembly probes rec_ s
  | .pairSettle partnerSeen => Sys2Proof.Machine.execPairSettle partnerSeen s
  | .replayComplete => Sys2Proof.Machine.execReplayComplete s
  | .openAdmission linksUp => Sys2Proof.Machine.execOpenAdmission linksUp s
  | .porstNAssert => Sys2Proof.Machine.execPorstNAssert s
  | .pfailNFall => Sys2Proof.Machine.execPfailNFall s
  | .fenceInHold => Sys2Proof.Machine.execFenceInHold s
  | .fenceInRelease straps => Sys2Proof.Machine.execFenceInRelease straps s
  | .fenceInPulse => Sys2Proof.Machine.execFenceInPulse s
  | .mhiPerstNAssert => Sys2Proof.Machine.execMhiPerstNAssert s
  | .railMonitorTrip trip => Sys2Proof.Machine.execRailMonitorTrip trip s
  | .junctionLimit temp => Sys2Proof.Machine.execJunctionLimit temp s
  | .thermalTrip => Sys2Proof.Machine.execThermalTrip s
  | .chartCtrlStage v => Sys2Proof.Machine.execChartCtrlStage v s
  | .chartCheckDone partner => Sys2Proof.Machine.execChartCheckDone partner s
  | .chartCtrlStore v => Sys2Proof.Machine.execChartCtrlStore v s
  | .chartStoreDone ok => Sys2Proof.Machine.execChartStoreDone ok s
  | .chartCtrlDiscard v => Sys2Proof.Machine.execChartCtrlDiscard v s
  | .chartCommit v => Sys2Proof.Machine.execChartCommit v s
  | .chartReadbackDone ok => Sys2Proof.Machine.execChartReadbackDone ok s
  | .chartPairSwitch => Sys2Proof.Machine.execChartPairSwitch s
  | .tableEpochAdvance => Sys2Proof.Machine.execTableEpochAdvance s
  | .chartSwitchDone => Sys2Proof.Machine.execChartSwitchDone s
  | .gateListTakeover port => Sys2Proof.Machine.execGateListTakeover port s
  | .tidePoolWriteFailed page repeatOk => Sys2Proof.Machine.execTidePoolWriteFailed page repeatOk s
  | .poolScrub page ecc => Sys2Proof.Machine.execPoolScrub page ecc s
  | .tidePoolWriteDone page => Sys2Proof.Machine.execTidePoolWriteDone page s
  | .assembleCommand tag => Sys2Proof.Machine.execAssembleCommand tag s
  | .sealTimer shoal stream => Sys2Proof.Machine.execSealTimer shoal stream s
  | .sealRetry shoal stream => Sys2Proof.Machine.execSealRetry shoal stream s
  | .fillResolve fill => Sys2Proof.Machine.execFillResolve fill s
  | .parityJobDone shoal row ok => Sys2Proof.Machine.execParityJobDone shoal row ok s
  | .keeperWriteDone shoal => Sys2Proof.Machine.execKeeperWriteDone shoal s
  | .stripWriteComplete mcid => Sys2Proof.Machine.execStripWriteComplete mcid s
  | .checkpointTimer => Sys2Proof.Machine.execCheckpointTimer s
  | .checkpointComplete => Sys2Proof.Machine.execCheckpointComplete s
  | .commitRetry => Sys2Proof.Machine.execCommitRetry s
  | .deferredMapApply nsid grain => Sys2Proof.Machine.execDeferredMapApply nsid grain s
  | .mapPageFetchDone page got => Sys2Proof.Machine.execMapPageFetchDone page got s
  | .bitmapClearTimer shoal => Sys2Proof.Machine.execBitmapClearTimer shoal s
  | .ebbRelocate shoal got cold => Sys2Proof.Machine.execEbbRelocate shoal got cold s
  | .zeroMaskRewrite nsid got => Sys2Proof.Machine.execZeroMaskRewrite nsid got s
  | .asnMarkDurable nsid => Sys2Proof.Machine.execAsnMarkDurable nsid s
  | .readResolve tag => Sys2Proof.Machine.execReadResolve tag s
  | .flushComplete tag => Sys2Proof.Machine.execFlushComplete tag s
  | .sqHeadRetest => Sys2Proof.Machine.execSqHeadRetest s
  | .driveEnumerate probe => Sys2Proof.Machine.execDriveEnumerate probe s
  | .memberLatencyInterval bay p99us => Sys2Proof.Machine.execMemberLatencyInterval bay p99us s
  | .foldResume shoal pos => Sys2Proof.Machine.execFoldResume shoal pos s
  | .memberCommandError mcid conflict => Sys2Proof.Machine.execMemberCommandError mcid conflict s
  | .memberHardTimeout mcid => Sys2Proof.Machine.execMemberHardTimeout mcid s
  | .memberAbortTimeout mcid => Sys2Proof.Machine.execMemberAbortTimeout mcid s
  | .memberResetTimeout bay => Sys2Proof.Machine.execMemberResetTimeout bay s
  | .memberReissueComplete mcid outcome => Sys2Proof.Machine.execMemberReissueComplete mcid outcome s
  | .memberReadComplete mcid res recon bad => Sys2Proof.Machine.execMemberReadComplete mcid res recon bad s
  | .writeSoftDeadline shoal row => Sys2Proof.Machine.execWriteSoftDeadline shoal row s
  | .readSoftDeadline got => Sys2Proof.Machine.execReadSoftDeadline got s
  | .driveLinkLost bay => Sys2Proof.Machine.execDriveLinkLost bay s
  | .linkRetrainTimeout bay => Sys2Proof.Machine.execLinkRetrainTimeout bay s
  | .absenceTimerExpiry shoal pos => Sys2Proof.Machine.execAbsenceTimerExpiry shoal pos s
  | .resyncRow shoal pos got => Sys2Proof.Machine.execResyncRow shoal pos got s
  | .rebuildRow shoal got => Sys2Proof.Machine.execRebuildRow shoal got s
  | .lostSlotScan nsid page => Sys2Proof.Machine.execLostSlotScan nsid page s
  | .smartPoll bay warning => Sys2Proof.Machine.execSmartPoll bay warning s
  | .labelPropagate shoal => Sys2Proof.Machine.execLabelPropagate shoal s
  | .labelWriteDone shoal => Sys2Proof.Machine.execLabelWriteDone shoal s
  | .patrolRow shoal row found => Sys2Proof.Machine.execPatrolRow shoal row found s
  | .patrolCursorRecord shoal => Sys2Proof.Machine.execPatrolCursorRecord shoal s
  | .connect args => Sys2Proof.Machine.execConnect args s
  | .write cntlid sqid cap => Sys2Proof.Machine.execWrite cntlid sqid cap s
  | .read cntlid sqid cap => Sys2Proof.Machine.execRead cntlid sqid cap s
  | .flush cntlid sqid cap => Sys2Proof.Machine.execFlush cntlid sqid cap s
  | .compare cntlid sqid cap => Sys2Proof.Machine.execCompare cntlid sqid cap s
  | .writeZeroes cntlid sqid cap => Sys2Proof.Machine.execWriteZeroes cntlid sqid cap s
  | .datasetManagement cntlid sqid cap => Sys2Proof.Machine.execDatasetManagement cntlid sqid cap s
  | .verify cntlid sqid cap => Sys2Proof.Machine.execVerify cntlid sqid cap s
  | .reservationRegister cntlid sqid cap => Sys2Proof.Machine.execReservationRegister cntlid sqid cap s
  | .reservationReport cntlid sqid cap => Sys2Proof.Machine.execReservationReport cntlid sqid cap s
  | .reservationAcquire cntlid sqid cap => Sys2Proof.Machine.execReservationAcquire cntlid sqid cap s
  | .reservationRelease cntlid sqid cap => Sys2Proof.Machine.execReservationRelease cntlid sqid cap s
  | .reservationRecordDurable nsid => Sys2Proof.Machine.execReservationRecordDurable nsid s
  | .getLogErrorInformation cntlid cid offset len => Sys2Proof.Machine.execGetLogErrorInformation cntlid cid offset len s
  | .getLogSmart cntlid cid offset len => Sys2Proof.Machine.execGetLogSmart cntlid cid offset len s
  | .getLogFirmwareSlot cntlid cid offset len => Sys2Proof.Machine.execGetLogFirmwareSlot cntlid cid offset len s
  | .getLogAna cntlid cid offset len => Sys2Proof.Machine.execGetLogAna cntlid cid offset len s
  | .getLogReservationNotification cntlid cid offset len => Sys2Proof.Machine.execGetLogReservationNotification cntlid cid offset len s
  | .getLogSanitizeStatus cntlid cid offset len => Sys2Proof.Machine.execGetLogSanitizeStatus cntlid cid offset len s
  | .getLogLostRange cntlid cid offset len => Sys2Proof.Machine.execGetLogLostRange cntlid cid offset len s
  | .getLogQueueFreeze cntlid cid offset len rae => Sys2Proof.Machine.execGetLogQueueFreeze cntlid cid offset len rae s
  | .getLogShelfHealth cntlid cid offset len => Sys2Proof.Machine.execGetLogShelfHealth cntlid cid offset len s
  | .getLogFormatProgress cntlid cid offset len => Sys2Proof.Machine.execGetLogFormatProgress cntlid cid offset len s
  | .identify cntlid cid cns nsid => Sys2Proof.Machine.execIdentify cntlid cid cns nsid s
  | .abort cntlid cid sqid target => Sys2Proof.Machine.execAbort cntlid cid sqid target s
  | .setFeaturesPowerManagement cntlid cid ps => Sys2Proof.Machine.execSetFeaturesPowerManagement cntlid cid ps s
  | .ps3Enter => Sys2Proof.Machine.execPs3Enter s
  | .setFeaturesAsnReporting cntlid cid cdw11 => Sys2Proof.Machine.execSetFeaturesAsnReporting cntlid cid cdw11 s
  | .setFeaturesWriteProtection cntlid cid nsid wp => Sys2Proof.Machine.execSetFeaturesWriteProtection cntlid cid nsid wp s
  | .coveControlReset cntlid cid cove => Sys2Proof.Machine.execCoveControlReset cntlid cid cove s
  | .coveControlResetEnd cntlid cid cove => Sys2Proof.Machine.execCoveControlResetEnd cntlid cid cove s
  | .coveControlFreeze cntlid cid cove => Sys2Proof.Machine.execCoveControlFreeze cntlid cid cove s
  | .coveControlThaw cntlid cid cove => Sys2Proof.Machine.execCoveControlThaw cntlid cid cove s
  | .eventLogControlFlush cntlid cid cdw11 => Sys2Proof.Machine.execEventLogControlFlush cntlid cid cdw11 s
  | .eventLogControlClear cntlid cid cdw11 => Sys2Proof.Machine.execEventLogControlClear cntlid cid cdw11 s
  | .lostRangeAcknowledge cntlid cid cdw11 entrySeq => Sys2Proof.Machine.execLostRangeAcknowledge cntlid cid cdw11 entrySeq s
  | .setFeaturesKeepAliveTimer cntlid cid kato => Sys2Proof.Machine.execSetFeaturesKeepAliveTimer cntlid cid kato s
  | .setFeaturesHostBehavior cntlid cid acre => Sys2Proof.Machine.execSetFeaturesHostBehavior cntlid cid acre s
  | .setFeaturesAsyncEventConfig cntlid cid cdw11 => Sys2Proof.Machine.execSetFeaturesAsyncEventConfig cntlid cid cdw11 s
  | .setFeaturesNumberOfQueues cntlid cid nsqr ncqr => Sys2Proof.Machine.execSetFeaturesNumberOfQueues cntlid cid nsqr ncqr s
  | .getFeaturesPowerManagement cntlid cid => Sys2Proof.Machine.execGetFeaturesPowerManagement cntlid cid s
  | .getFeaturesAsnReporting cntlid cid => Sys2Proof.Machine.execGetFeaturesAsnReporting cntlid cid s
  | .getFeaturesCoveControl cntlid cid cove => Sys2Proof.Machine.execGetFeaturesCoveControl cntlid cid cove s
  | .getFeaturesEventLogControl cntlid cid => Sys2Proof.Machine.execGetFeaturesEventLogControl cntlid cid s
  | .getFeaturesLostRange cntlid cid => Sys2Proof.Machine.execGetFeaturesLostRange cntlid cid s
  | .getFeaturesWriteProtection cntlid cid nsid => Sys2Proof.Machine.execGetFeaturesWriteProtection cntlid cid nsid s
  | .getFeaturesKeepAliveTimer cntlid cid => Sys2Proof.Machine.execGetFeaturesKeepAliveTimer cntlid cid s
  | .getFeaturesHostBehavior cntlid cid => Sys2Proof.Machine.execGetFeaturesHostBehavior cntlid cid s
  | .getFeaturesAsyncEventConfig cntlid cid => Sys2Proof.Machine.execGetFeaturesAsyncEventConfig cntlid cid s
  | .getFeaturesNumberOfQueues cntlid cid => Sys2Proof.Machine.execGetFeaturesNumberOfQueues cntlid cid s
  | .asynchronousEventRequest cntlid cid => Sys2Proof.Machine.execAsynchronousEventRequest cntlid cid s
  | .namespaceCreate cntlid cid args => Sys2Proof.Machine.execNamespaceCreate cntlid cid args s
  | .namespaceKeyDurable nsid => Sys2Proof.Machine.execNamespaceKeyDurable nsid s
  | .namespaceDelete cntlid cid nsid => Sys2Proof.Machine.execNamespaceDelete cntlid cid nsid s
  | .namespaceAttach cntlid cid nsid ctrls => Sys2Proof.Machine.execNamespaceAttach cntlid cid nsid ctrls s
  | .namespaceDetach cntlid cid nsid ctrls => Sys2Proof.Machine.execNamespaceDetach cntlid cid nsid ctrls s
  | .firmwareImageDownload cntlid cid offset bytes => Sys2Proof.Machine.execFirmwareImageDownload cntlid cid offset bytes s
  | .firmwareCommitReplace cntlid cid slot => Sys2Proof.Machine.execFirmwareCommitReplace cntlid cid slot s
  | .firmwareCommitReplaceActivate cntlid cid slot => Sys2Proof.Machine.execFirmwareCommitReplaceActivate cntlid cid slot s
  | .firmwareCommitActivate cntlid cid slot => Sys2Proof.Machine.execFirmwareCommitActivate cntlid cid slot s
  | .firmwareCommitActivateNow cntlid cid slot partnerOk => Sys2Proof.Machine.execFirmwareCommitActivateNow cntlid cid slot partnerOk s
  | .fwActivationDrained => Sys2Proof.Machine.execFwActivationDrained s
  | .fwActivationResume => Sys2Proof.Machine.execFwActivationResume s
  | .fwActivationTimeout => Sys2Proof.Machine.execFwActivationTimeout s
  | .keepAlive cntlid cid => Sys2Proof.Machine.execKeepAlive cntlid cid s
  | .keepAliveExpiry cntlid => Sys2Proof.Machine.execKeepAliveExpiry cntlid s
  | .formatNvm cntlid cid nsid lbaf pi mset ses => Sys2Proof.Machine.execFormatNvm cntlid cid nsid lbaf pi mset ses s
  | .formatWalk nsid => Sys2Proof.Machine.execFormatWalk nsid s
  | .sanitizeCryptoErase cntlid cid cdw10 => Sys2Proof.Machine.execSanitizeCryptoErase cntlid cid cdw10 s
  | .sanitizeBlockErase cntlid cid cdw10 => Sys2Proof.Machine.execSanitizeBlockErase cntlid cid cdw10 s
  | .sanitizeExitFailure cntlid cid cdw10 => Sys2Proof.Machine.execSanitizeExitFailure cntlid cid cdw10 s
  | .sanitizeMemberDone bay ok => Sys2Proof.Machine.execSanitizeMemberDone bay ok s
  | .sanitizeComplete => Sys2Proof.Machine.execSanitizeComplete s
  | .getAsnStatus cntlid cid nsid => Sys2Proof.Machine.execGetAsnStatus cntlid cid nsid s
  | .queueThawResume cntlid cid sqid => Sys2Proof.Machine.execQueueThawResume cntlid cid sqid s
  | .queueThawDiscard cntlid cid sqid => Sys2Proof.Machine.execQueueThawDiscard cntlid cid sqid s
  | .coveImageExport cntlid cid cove keep => Sys2Proof.Machine.execCoveImageExport cntlid cid cove keep s
  | .coveImageImport cntlid cid cove image => Sys2Proof.Machine.execCoveImageImport cntlid cid cove image s
  | .wblStart cntlid cid nsid => Sys2Proof.Machine.execWblStart cntlid cid nsid s
  | .wblSwapRead cntlid cid nsid offset len => Sys2Proof.Machine.execWblSwapRead cntlid cid nsid offset len s
  | .wblRead cntlid cid nsid offset len => Sys2Proof.Machine.execWblRead cntlid cid nsid offset len s
  | .wblStop cntlid cid nsid => Sys2Proof.Machine.execWblStop cntlid cid nsid s
  | .controllerDisable cntlid => Sys2Proof.Machine.execControllerDisable cntlid s
  | .controllerDrained cntlid => Sys2Proof.Machine.execControllerDrained cntlid s
  | .shutdownNotification cntlid => Sys2Proof.Machine.execShutdownNotification cntlid s
  | .cmConnectRequest req => Sys2Proof.Machine.execCmConnectRequest req s
  | .cmDisconnect qpn => Sys2Proof.Machine.execCmDisconnect qpn s
  | .recvSend qpn psn op cap f => Sys2Proof.Machine.execRecvSend qpn psn op cap f s
  | .recvRdmaWrite qpn psn rkey d f => Sys2Proof.Machine.execRecvRdmaWrite qpn psn rkey d f s
  | .recvRdmaReadResponse qpn psn tag d f => Sys2Proof.Machine.execRecvRdmaReadResponse qpn psn tag d f s
  | .recvAcknowledge qpn psn => Sys2Proof.Machine.execRecvAcknowledge qpn psn s
  | .recvNak qpn psn code => Sys2Proof.Machine.execRecvNak qpn psn code s
  | .recvRnrNak qpn psn timer => Sys2Proof.Machine.execRecvRnrNak qpn psn timer s
  | .recvCnp qpn => Sys2Proof.Machine.execRecvCnp qpn s
  | .ackTimer qpn => Sys2Proof.Machine.execAckTimer qpn s
  | .localAckTimeout qpn => Sys2Proof.Machine.execLocalAckTimeout qpn s
  | .rnrRetryTimer qpn => Sys2Proof.Machine.execRnrRetryTimer qpn s
  | .recvSpraySend qpn h op cap f => Sys2Proof.Machine.execRecvSpraySend qpn h op cap f s
  | .recvSprayWrite qpn h d f => Sys2Proof.Machine.execRecvSprayWrite qpn h d f s
  | .recvSprayReadResp qpn h tag d f => Sys2Proof.Machine.execRecvSprayReadResp qpn h tag d f s
  | .recvSprayAck qpn b => Sys2Proof.Machine.execRecvSprayAck qpn b s
  | .sprayAckTimer qpn => Sys2Proof.Machine.execSprayAckTimer qpn s
  | .sprayRetxTimeout qpn psn => Sys2Proof.Machine.execSprayRetxTimeout qpn psn s
  | .sprayRnrRetry qpn psn => Sys2Proof.Machine.execSprayRnrRetry qpn psn s
  | .baseRttRefresh qpn => Sys2Proof.Machine.execBaseRttRefresh qpn s
  | .landingWindowReturn qpn => Sys2Proof.Machine.execLandingWindowReturn qpn s
  | .netLinkDown link => Sys2Proof.Machine.execNetLinkDown link s
  | .netLinkUp link => Sys2Proof.Machine.execNetLinkUp link s
  | .addressReturn index => Sys2Proof.Machine.execAddressReturn index s
  | .recvArpNd f index => Sys2Proof.Machine.execRecvArpNd f index s
  | .recvOtherFrame f => Sys2Proof.Machine.execRecvOtherFrame f s
  | .txOpportunity link bad => Sys2Proof.Machine.execTxOpportunity link bad s
  | .planeOutOfService plane => Sys2Proof.Machine.execPlaneOutOfService plane s
  | .epochStallTimer tag => Sys2Proof.Machine.execEpochStallTimer tag s
  | .captureCtrlWrite v => Sys2Proof.Machine.execCaptureCtrlWrite v s
  | .samplerCtrlWrite n v => Sys2Proof.Machine.execSamplerCtrlWrite n v s
  | .samplerTick n => Sys2Proof.Machine.execSamplerTick n s
  | .ptpAnnounceReceive a => Sys2Proof.Machine.execPtpAnnounceReceive a s
  | .ptpSyncReceive port seq twoStep originNs rxNs => Sys2Proof.Machine.execPtpSyncReceive port seq twoStep originNs rxNs s
  | .ptpDelayRespReceive port seq receiveNs => Sys2Proof.Machine.execPtpDelayRespReceive port seq receiveNs s
  | .ptpDelayReqSend port seq txNs => Sys2Proof.Machine.execPtpDelayReqSend port seq txNs s
  | .announceReceiptTimeout port => Sys2Proof.Machine.execAnnounceReceiptTimeout port s
  | .syncReceiptTimeout port => Sys2Proof.Machine.execSyncReceiptTimeout port s
  | .ppsInEdge => Sys2Proof.Machine.execPpsInEdge s
  | .ppsInTimeout => Sys2Proof.Machine.execPpsInTimeout s
  | .ppsOutPulse => Sys2Proof.Machine.execPpsOutPulse s
  | .ppsOutFall => Sys2Proof.Machine.execPpsOutFall s
  | .sourceRevertTimer source => Sys2Proof.Machine.execSourceRevertTimer source s
  | .holdoverLimit => Sys2Proof.Machine.execHoldoverLimit s
  | .tideTableEntry period entry => Sys2Proof.Machine.execTideTableEntry period entry s
  | .gateEntry port entry => Sys2Proof.Machine.execGateEntry port entry s
  | .mboxCoveCreate cove nqn => Sys2Proof.Machine.execMboxCoveCreate cove nqn s
  | .mboxCoveDelete cove => Sys2Proof.Machine.execMboxCoveDelete cove s
  | .coveDeleteDrained cove => Sys2Proof.Machine.execCoveDeleteDrained cove s
  | .mboxCoveImport cove slot => Sys2Proof.Machine.execMboxCoveImport cove slot s
  | .mboxCoveimgClaim => Sys2Proof.Machine.execMboxCoveimgClaim s
  | .mboxCoveimgFree slot => Sys2Proof.Machine.execMboxCoveimgFree slot s
  | .mboxCoveimgList => Sys2Proof.Machine.execMboxCoveimgList s
  | .mboxBindSet index entry => Sys2Proof.Machine.execMboxBindSet index entry s
  | .mboxBindClear index => Sys2Proof.Machine.execMboxBindClear index s
  | .coveCtrlReset cove v => Sys2Proof.Machine.execCoveCtrlReset cove v s
  | .coveResetWritesDrained cove => Sys2Proof.Machine.execCoveResetWritesDrained cove s
  | .coveResetDone cove => Sys2Proof.Machine.execCoveResetDone cove s
  | .coveCtrlFreeze cove v => Sys2Proof.Machine.execCoveCtrlFreeze cove v s
  | .coveFrozen cove => Sys2Proof.Machine.execCoveFrozen cove s
  | .coveCtrlThaw cove v => Sys2Proof.Machine.execCoveCtrlThaw cove v s
  | .coveCtrlExport cove v => Sys2Proof.Machine.execCoveCtrlExport cove v s
  | .coveExportTake cove => Sys2Proof.Machine.execCoveExportTake cove s
  | .entropyTestFail => Sys2Proof.Machine.execEntropyTestFail s
  | .entropyRecover => Sys2Proof.Machine.execEntropyRecover s
  | .mboxShelfkeyLoad blob persist => Sys2Proof.Machine.execMboxShelfkeyLoad blob persist s
  | .mboxShelfkeyRotate blob persist => Sys2Proof.Machine.execMboxShelfkeyRotate blob persist s
  | .keyRotationDone => Sys2Proof.Machine.execKeyRotationDone s
  | .keySlotLoadClear cove slot modes key => Sys2Proof.Machine.execKeySlotLoadClear cove slot modes key s
  | .keySlotLoadWrapped cove slot wrapped => Sys2Proof.Machine.execKeySlotLoadWrapped cove slot wrapped s
  | .keySlotClear cove slot => Sys2Proof.Machine.execKeySlotClear cove slot s
  | .oldKeyZeroize cove slot => Sys2Proof.Machine.execOldKeyZeroize cove slot s
  | .straitPage h page tag data tagOk => Sys2Proof.Machine.execStraitPage h page tag data tagOk s
  | .straitRegion h page offset units => Sys2Proof.Machine.execStraitRegion h page offset units s
  | .straitRelease h runs => Sys2Proof.Machine.execStraitRelease h runs s
  | .straitMack h mseq => Sys2Proof.Machine.execStraitMack h mseq s
  | .straitHeartbeat h role partner side version counter epoch chartSeq => Sys2Proof.Machine.execStraitHeartbeat h role partner side version counter epoch chartSeq s
  | .straitLlack lseq => Sys2Proof.Machine.execStraitLlack lseq s
  | .straitLlnak lseq => Sys2Proof.Machine.execStraitLlnak lseq s
  | .straitConfigNamespace h d => Sys2Proof.Machine.execStraitConfigNamespace h d s
  | .straitConfigCove h d => Sys2Proof.Machine.execStraitConfigCove h d s
  | .straitConfigBinding h index b => Sys2Proof.Machine.execStraitConfigBinding h index b s
  | .straitConfigReservation h r => Sys2Proof.Machine.execStraitConfigReservation h r s
  | .straitConfigNsKey h r key => Sys2Proof.Machine.execStraitConfigNsKey h r key s
  | .straitConfigSlotKey h r => Sys2Proof.Machine.execStraitConfigSlotKey h r s
  | .straitConfigChartChunk h offset last bytes => Sys2Proof.Machine.execStraitConfigChartChunk h offset last bytes s
  | .straitConfigSwapHandover h d wbls => Sys2Proof.Machine.execStraitConfigSwapHandover h d wbls s
  | .straitHello h d => Sys2Proof.Machine.execStraitHello h d s
  | .straitRefuse h code => Sys2Proof.Machine.execStraitRefuse h code s
  | .straitSyncBegin h => Sys2Proof.Machine.execStraitSyncBegin h s
  | .straitSyncEnd h mseq => Sys2Proof.Machine.execStraitSyncEnd h mseq s
  | .straitSettleEnd h pages => Sys2Proof.Machine.execStraitSettleEnd h pages s
  | .straitSwapPrepare h => Sys2Proof.Machine.execStraitSwapPrepare h s
  | .straitSwapDone h => Sys2Proof.Machine.execStraitSwapDone h s
  | .straitWithdraw h page => Sys2Proof.Machine.execStraitWithdraw h page s
  | .straitFenceTest h seen => Sys2Proof.Machine.execStraitFenceTest h seen s
  | .straitLinkUp lanes => Sys2Proof.Machine.execStraitLinkUp lanes s
  | .straitLinkDown => Sys2Proof.Machine.execStraitLinkDown s
  | .straitLlackTimer => Sys2Proof.Machine.execStraitLlackTimer s
  | .straitReplayTimeout => Sys2Proof.Machine.execStraitReplayTimeout s
  | .heartbeatSend advanced => Sys2Proof.Machine.execHeartbeatSend advanced s
  | .heartbeatMissed => Sys2Proof.Machine.execHeartbeatMissed s
  | .tidelineQueryTimeout => Sys2Proof.Machine.execTidelineQueryTimeout s
  | .fenceGraceTimer => Sys2Proof.Machine.execFenceGraceTimer s
  | .standbyFenceWait => Sys2Proof.Machine.execStandbyFenceWait s
  | .fenceHoldExpiry => Sys2Proof.Machine.execFenceHoldExpiry s
  | .takeoverAcquired faults => Sys2Proof.Machine.execTakeoverAcquired faults s
  | .epochRecordDurable => Sys2Proof.Machine.execEpochRecordDurable s
  | .partnerWaitTimeout => Sys2Proof.Machine.execPartnerWaitTimeout s
  | .swapSelftestDone ok planesBad => Sys2Proof.Machine.execSwapSelftestDone ok planesBad s
  | .swapDrained => Sys2Proof.Machine.execSwapDrained s
  | .swapAcquired => Sys2Proof.Machine.execSwapAcquired s
  | .swapAbandonTimer => Sys2Proof.Machine.execSwapAbandonTimer s
  | .pairCtrlSwap v => Sys2Proof.Machine.execPairCtrlSwap v s
  | .pairCtrlForce v faults => Sys2Proof.Machine.execPairCtrlForce v faults s
  | .pairCtrlUnfence v => Sys2Proof.Machine.execPairCtrlUnfence v s
  | .lighthouseStep temp power pressure => Sys2Proof.Machine.execLighthouseStep temp power pressure s
  | .heatBucketRotate fifteenMin => Sys2Proof.Machine.execHeatBucketRotate fifteenMin s
  | .tlineNull onIn w => Sys2Proof.Machine.execTlineNull onIn w s
  | .tlineIdent onIn w => Sys2Proof.Machine.execTlineIdent onIn w s
  | .tlineClaim onIn w => Sys2Proof.Machine.execTlineClaim onIn w s
  | .tlineDeny onIn w => Sys2Proof.Machine.execTlineDeny onIn w s
  | .tlineEnum onIn w => Sys2Proof.Machine.execTlineEnum onIn w s
  | .tlineReenumReq onIn w => Sys2Proof.Machine.execTlineReenumReq onIn w s
  | .tlineQuery onIn w => Sys2Proof.Machine.execTlineQuery onIn w s
  | .tlineAnswer onIn w => Sys2Proof.Machine.execTlineAnswer onIn w s
  | .tlineFence onIn w => Sys2Proof.Machine.execTlineFence onIn w s
  | .tlineUnfence onIn w => Sys2Proof.Machine.execTlineUnfence onIn w s
  | .tlineFenceAck onIn w => Sys2Proof.Machine.execTlineFenceAck onIn w s
  | .tlineTimeS onIn w => Sys2Proof.Machine.execTlineTimeS onIn w s
  | .tlineTimeMark onIn w => Sys2Proof.Machine.execTlineTimeMark onIn w s
  | .tlineProfile onIn w => Sys2Proof.Machine.execTlineProfile onIn w s
  | .tlineLinkUp onIn => Sys2Proof.Machine.execTlineLinkUp onIn s
  | .tlineLinkDown onIn => Sys2Proof.Machine.execTlineLinkDown onIn s
  | .tlineIdentTimer => Sys2Proof.Machine.execTlineIdentTimer s
  | .tlineTimeOriginTick => Sys2Proof.Machine.execTlineTimeOriginTick s
  | .tlineClaimTimeout => Sys2Proof.Machine.execTlineClaimTimeout s
  | .tlineInTimeout => Sys2Proof.Machine.execTlineInTimeout s
  | .tlineTimeTimeout => Sys2Proof.Machine.execTlineTimeTimeout s
  | .mboxTlineReenum => Sys2Proof.Machine.execMboxTlineReenum s
  | .mboxFwFuseSvn guard_ => Sys2Proof.Machine.execMboxFwFuseSvn guard_ s
  | .mboxSignerKeyProgram slot guard_ hash => Sys2Proof.Machine.execMboxSignerKeyProgram slot guard_ hash s
  | .mboxSignerKeyRevoke slot guard_ => Sys2Proof.Machine.execMboxSignerKeyRevoke slot guard_ s
  | .mboxNetAddrSet a persist => Sys2Proof.Machine.execMboxNetAddrSet a persist s
  | .mboxNetAddrClear index persist => Sys2Proof.Machine.execMboxNetAddrClear index persist s
  | .mboxNetAddrList => Sys2Proof.Machine.execMboxNetAddrList s
  | .mboxPowerState ps => Sys2Proof.Machine.execMboxPowerState ps s
  | .bayPrsntAssert bay vin => Sys2Proof.Machine.execBayPrsntAssert bay vin s
  | .bayPrsntDeassert bay => Sys2Proof.Machine.execBayPrsntDeassert bay s
  | .bayInsertDelayExpiry bay vin => Sys2Proof.Machine.execBayInsertDelayExpiry bay vin s
  | .bayRampStart bay => Sys2Proof.Machine.execBayRampStart bay s
  | .bayRampReached bay vout => Sys2Proof.Machine.execBayRampReached bay vout s
  | .bayPowerGood bay vout => Sys2Proof.Machine.execBayPowerGood bay vout s
  | .bayPerstRelease bay => Sys2Proof.Machine.execBayPerstRelease bay s
  | .bayBreakerTrip bay current => Sys2Proof.Machine.execBayBreakerTrip bay current s
  | .bayFastTrip bay current => Sys2Proof.Machine.execBayFastTrip bay current s
  | .bayRampTimeout bay => Sys2Proof.Machine.execBayRampTimeout bay s
  | .bayPowerGoodLost bay vout => Sys2Proof.Machine.execBayPowerGoodLost bay vout s
  | .bayVinUnder bay vin => Sys2Proof.Machine.execBayVinUnder bay vin s
  | .bayVinOver bay vin => Sys2Proof.Machine.execBayVinOver bay vin s
  | .bayFetDamaged bay vout => Sys2Proof.Machine.execBayFetDamaged bay vout s
  | .bayRetryExpiry bay => Sys2Proof.Machine.execBayRetryExpiry bay s
  | .bayAttemptsReset bay => Sys2Proof.Machine.execBayAttemptsReset bay s
  | .bayCtrlOn v => Sys2Proof.Machine.execBayCtrlOn v s
  | .bayCtrlOff v => Sys2Proof.Machine.execBayCtrlOff v s
  | .bayCtrlClear v vout => Sys2Proof.Machine.execBayCtrlClear v vout s
  | .clockMarkTimer => Sys2Proof.Machine.execClockMarkTimer s
  | .eventCtrlFlush v => Sys2Proof.Machine.execEventCtrlFlush v s
  | .eventCtrlClear v => Sys2Proof.Machine.execEventCtrlClear v s
  | .eventDeferredClear => Sys2Proof.Machine.execEventDeferredClear s
  | .perfCtrlClearAll v => Sys2Proof.Machine.execPerfCtrlClearAll v s
  | .perfCfgWrite n v => Sys2Proof.Machine.execPerfCfgWrite n v s
  | .perfCntLoRead n => Sys2Proof.Machine.execPerfCntLoRead n s
  | .lensWrite n v => Sys2Proof.Machine.execLensWrite n v s
  | .wblTableStart nsid => Sys2Proof.Machine.execWblTableStart nsid s
  | .wblTableSwap nsid => Sys2Proof.Machine.execWblTableSwap nsid s
  | .wblTableStop nsid => Sys2Proof.Machine.execWblTableStop nsid s
  | .globalResetRestart v => Sys2Proof.Machine.execGlobalResetRestart v s
  | .globalServiceWrite v => Sys2Proof.Machine.execGlobalServiceWrite v s
  | .dpDataRead ecc => Sys2Proof.Machine.execDpDataRead ecc s
  | .dpDataWrite v => Sys2Proof.Machine.execDpDataWrite v s
  | .dpCtrlWrite v => Sys2Proof.Machine.execDpCtrlWrite v s
  | .bar2Read offset len ecc => Sys2Proof.Machine.execBar2Read offset len ecc s
  | .bar2Write offset bytes => Sys2Proof.Machine.execBar2Write offset bytes s
  | .poolOccupancyRead => Sys2Proof.Machine.execPoolOccupancyRead s
  | .poolEccRead => Sys2Proof.Machine.execPoolEccRead s
  | .pairStraitRead => Sys2Proof.Machine.execPairStraitRead s
  | .bayCurrRead bay => Sys2Proof.Machine.execBayCurrRead bay s
  | .registerLoRead got => Sys2Proof.Machine.execRegisterLoRead got s
  | .registerHiRead got => Sys2Proof.Machine.execRegisterHiRead got s
  | .registerLoWrite offset v => Sys2Proof.Machine.execRegisterLoWrite offset v s
  | .registerHiWrite offset v => Sys2Proof.Machine.execRegisterHiWrite offset v s
  | .registerWrite offset nbytes v => Sys2Proof.Machine.execRegisterWrite offset nbytes v s
  | .smbStatusRead => Sys2Proof.Machine.execSmbStatusRead s
  | .smbTempRead => Sys2Proof.Machine.execSmbTempRead s
  | .smbPowerRead => Sys2Proof.Machine.execSmbPowerRead s
  | .smbPowerStateRead => Sys2Proof.Machine.execSmbPowerStateRead s
  | .smbRoleRead => Sys2Proof.Machine.execSmbRoleRead s
  | .smbBootRead => Sys2Proof.Machine.execSmbBootRead s
  | .smbAlertRead => Sys2Proof.Machine.execSmbAlertRead s
  | .smbLatchedLoRead => Sys2Proof.Machine.execSmbLatchedLoRead s
  | .smbLatchedHiRead => Sys2Proof.Machine.execSmbLatchedHiRead s
  | .smbWrite => Sys2Proof.Machine.execSmbWrite s
  | .pfailNRise => Sys2Proof.Machine.execPfailNRise s
  | .railMonitorRelease rail => Sys2Proof.Machine.execRailMonitorRelease rail s
  | .mhiPerstNRelease => Sys2Proof.Machine.execMhiPerstNRelease s
  | .driveReadyTimeout bay => Sys2Proof.Machine.execDriveReadyTimeout bay s
  | .driveLinkRetrained bay => Sys2Proof.Machine.execDriveLinkRetrained bay s
  | .memberDeallocateDone mcid => Sys2Proof.Machine.execMemberDeallocateDone mcid s
  | .memberFormatDone bay => Sys2Proof.Machine.execMemberFormatDone bay s
  | .recvRefusedOpcode qpn opcode => Sys2Proof.Machine.execRecvRefusedOpcode qpn opcode s
  | .ptpFollowUpReceive port seq originNs => Sys2Proof.Machine.execPtpFollowUpReceive port seq originNs s
  | .hostDisconnect qpn => Sys2Proof.Machine.execHostDisconnect qpn s
  | .globalMboxDoorbell v => Sys2Proof.Machine.execGlobalMboxDoorbell v s
  | .straitFrameCrcFail lseq => Sys2Proof.Machine.execStraitFrameCrcFail lseq s

end Sys2Proof.Machine
end

