-- ==== Sys2Proof/Machine/Idle.lean ====
section
/-! DEFINITION. What the device does by itself while no command waits (log entry 8). -/

namespace Sys2Proof.Machine

/-- Work that waits for a drain or for another engine goes on as far as it can: formats (07 R234), a sanitize (07 R236) and swaps
(10 R324, 11 R355). A stopped device does none. -/
def background (d : Dev) : Dev :=
  if coreRuns d then waitingSwap (deferredSwap (runSan (runFormats d))) else d

/-- One cycle without a command: the Tide Clock ticks (10 R313) and the work that waits goes on, a clear or a flush of
the event log included (17 R481), and Prism moves its cells (09 R285); the core in reset, or without its clocks, does none of this. The chain interface
sends its frames in every state of the core (15 R451). -/
def idleDev (d : Dev) : Dev := tlCycle (if coreHeld d then d else prismClock (deferredClear (background (clockTick d))))

/-- The block idles: nothing waits in its queue. -/
def idle (s : State) : Result := onMbox s idleDev

end Sys2Proof.Machine
end

