-- ==== Sys2Proof/Safety.lean ====
section
/-! DEFINITION. What counts as a safe run, in the terms claims use: no step of it is a fault or a refusal, and memory keeps
its canonical form. Then the terms in which claims say what a command does and what it leaves as it was. -/

namespace Sys2Proof

open Machine

/-- The outcome of a step is a next state. -/
def Answers (r : Result) : Prop := ∃ t, r = .next t

/-- Memory is in its canonical form. -/
def MemOk (s : State) : Prop := Memory.wf s.mem = true

/-- Command `c` in `s` completes, with the device `d` and with memory and the queue as they were. -/
def Gives (c : Instr) (s : State) (d : Dev) : Prop := exec c s = .next { s with dev := d }

/-- Command `c` in `s` completes in a state of which `P` holds. -/
def Leads (c : Instr) (s : State) (P : State → Prop) : Prop := ∃ t, exec c s = .next t ∧ P t

/-- Command `c` in `s` completes with the device `d`; a result for the mailbox that `d` holds stands in the mailbox area (18 R503). -/
def Runs (c : Instr) (s : State) (d : Dev) : Prop :=
  exec c s = .next { s with dev := (placeMbox d s.mem).1, mem := (placeMbox d s.mem).2 }

/-- Command `c` in `s` completes with the device and the memory of `x`, and the queue as it was. -/
def Makes (c : Instr) (s : State) (x : Dev × Memory) : Prop := exec c s = .next { s with dev := x.1, mem := x.2 }

/-- As `Makes`, where a result for the mailbox that the device of `x` holds stands in the mailbox area (18 R503). -/
def Places (c : Instr) (s : State) (x : Dev × Memory) : Prop := Makes c s (placeMbox x.1 x.2)

/-- The blocks of the device, its output fields and the counter of free values (Machine/State.lean). -/
inductive Block where
  | ev | perf | chart | clk | sched | prism | mhi | boot | pair | pool | str | adm | shelf | host | net | cove | keys
  | light | tline | bay | path | out | readData | readBytes | draws
  deriving DecidableEq, Repr

/-- A device whose blocks `bs` are blanked. -/
def blank (bs : List Block) (d : Dev) : Dev :=
  { ev := if .ev ∈ bs then {} else d.ev
    perf := if .perf ∈ bs then {} else d.perf
    chart := if .chart ∈ bs then {} else d.chart
    clk := if .clk ∈ bs then {} else d.clk
    sched := if .sched ∈ bs then {} else d.sched
    prism := if .prism ∈ bs then {} else d.prism
    mhi := if .mhi ∈ bs then {} else d.mhi
    boot := if .boot ∈ bs then {} else d.boot
    pair := if .pair ∈ bs then {} else d.pair
    pool := if .pool ∈ bs then {} else d.pool
    str := if .str ∈ bs then {} else d.str
    adm := if .adm ∈ bs then {} else d.adm
    shelf := if .shelf ∈ bs then {} else d.shelf
    host := if .host ∈ bs then {} else d.host
    net := if .net ∈ bs then {} else d.net
    cove := if .cove ∈ bs then {} else d.cove
    keys := if .keys ∈ bs then {} else d.keys
    light := if .light ∈ bs then {} else d.light
    tline := if .tline ∈ bs then {} else d.tline
    bay := if .bay ∈ bs then {} else d.bay
    path := if .path ∈ bs then {} else d.path
    out := if .out ∈ bs then [] else d.out
    readData := if .readData ∈ bs then 0 else d.readData
    readBytes := if .readBytes ∈ bs then [] else d.readBytes
    draws := if .draws ∈ bs then 0 else d.draws }

/-- From `s` to `t` nothing changes but the blocks `bs` of the device: not memory, not the queue, no other block. -/
def Only (bs : List Block) (s t : State) : Prop :=
  blank bs t.dev = blank bs s.dev ∧ t.mem = s.mem ∧ t.pending = s.pending

end Sys2Proof
end

