-- ==== Sys2Proof/Certificates/Slice0/Obligations.lean ====
section
/-! DEFINITION. The statements for the provers: what every step does, then family by family what each command does to the device and
what it leaves. A statement is about every state, reached or not; `Gives`, `Leads`, `Runs` and `Only` are of Safety.lean. A value
that the spec leaves open stands as the model's free value (Config.lean, log entry 3) and is never computed with. -/

open Sys2Proof Sys2Proof.Machine

/-- A step with a command in front of the queue is that command's effect, the queue being its rest. -/
def Obligations.StepRunsFront : Prop :=
  ∀ (c : Instr) (s : State) (rest : List Instr), step { s with pending := c :: rest } = exec c { s with pending := rest }

/-- Every command completes in a next state, in every state, and leaves the waiting commands alone; every step takes at most the command
in front. An empty queue idles (log entry 8). -/
def Obligations.EveryStepAnswers : Prop :=
  (∀ (c : Instr) (s : State), ∃ t, exec c s = .next t ∧ t.pending = s.pending)
  ∧ (∀ s : State, ∃ t, step s = .next t ∧ t.pending = s.pending.tail)

/-- Every step keeps the canonical form of memory: addresses strictly rising, and no byte listed that an unlisted address reads as. -/
def Obligations.MemoryKept : Prop := ∀ s t : State, MemOk s → step s = .next t → MemOk t

/-- What reset leaves, field by field where a register map gives a reset value: 02 R61 to R65, 03 R96 to R100, 13 R422 to R425, 16 R471,
R472, 17 R486, R493, 18 R500, R511. Memory lists nothing and no command waits. -/
def Obligations.ResetState : Prop :=
  let d := State.reset.dev
  MemOk State.reset ∧ State.reset.mem = [] ∧ State.reset.pending = []
  ∧ globalValue d 0x00 = 0x3240B101
  ∧ bits (globalValue d 0x08) 3 0 = 1 ∧ bits (globalValue d 0x08) 4 4 = 0 ∧ bits (globalValue d 0x08) 11 8 = 0 ∧ bits (globalValue d 0x08) 16 16 = 0
  ∧ bits (globalValue d 0x14) 0 0 = 0 ∧ (∀ o ∈ [0x04, 0x0C, 0x20, 0x24, 0x28, 0x2C], globalValue d o = 0)
  ∧ bits (chartValue d 0x08) 31 24 = 0 ∧ bits (chartValue d 0x08) 12 11 = 0 ∧ bits (chartValue d 0x08) 2 0 = 0
  ∧ (∀ o ∈ [0x04, 0x0C, 0x28], chartValue d o = 0)
  ∧ bits (poolValue d 0x08) 31 16 = 0 ∧ (∀ o ∈ [0x00, 0x04, 0x18, 0x1C, 0x20, 0x28, 0x2C], poolValue d o = 0)
  ∧ bits (pairValue d 0x00) 1 0 = 2 ∧ bits (pairValue d 0x00) 3 2 = 0 ∧ bits (pairValue d 0x00) 31 10 = 0
  ∧ (∀ o ∈ [0x0C, 0x10, 0x14, 0x1C, 0x20], pairValue d o = 0)
  ∧ (∀ n, n < 32 → bayValue d (0x100 + 16 * n) = 0x20000 ∧ bayValue d (0x104 + 16 * n) = 0 ∧ bayValue d (0x108 + 16 * n) = 0)
  ∧ (∀ o ∈ [0x00, 0x0C, 0x20, 0x24], eventValue d o = 0)
  ∧ (∀ n, n < 2048 → perfValue d (0x8000 + 4 * n) = 0)
  ∧ d.mhi.dpAddr = 0 ∧ dportValue d 0x08 = 0 ∧ dportValue d 0x0C = 0

/-- For the pair whose _HI stands at `lo + 4` with the value `v`: a read of _LO returns the lower half and latches the upper; a read
of _HI returns its latch and uses it up, and the live upper half where none is held; a read of fewer than four bytes returns the
addressed bytes alone. The pairs of the map and their values are named. PERF_CNT_LO (17 R490) takes PERF_STAMP too. The latched half is what the first read of _HI returns, whatever other registers
are read in between: after a read of _LO, a read of another pair's half, of a register with an effect, or of DP_DATA (its unit without an error) leaves the latch as it is. A write of DP_ADDR_LO is held and changes no address; a write of DP_ADDR_HI applies the held half with it, or the
upper half alone where none is held, and uses the held half up; a second write of DP_ADDR_LO replaces the held one. A changed
address drops the buffer of the window (18 R513), and either write a partial unit (R512). Rests on 00 R7. -/
def Obligations.RegisterPairs : Prop :=
  ((∀ (s : State) (lo v k n : Nat), blocksRead s.dev = true → pairAt s.dev (lo + 4) = some v → k < 4 →
      let d := s.dev
      let lane := fun (x : Nat) => x / 2 ^ (8 * k) % 2 ^ (8 * min n 4)
      (within lo 0x104000 0x4000 = false →
        Gives (.registerLoRead { offset := lo + k, nbytes := n }) s
          { d with readData := lane (v % 2 ^ 32), mhi.latches := tput d.mhi.latches (lo + 4) (v / 2 ^ 32) })
      ∧ (∀ x, tget d.mhi.latches (lo + 4) = some x →
        Gives (.registerHiRead { offset := lo + 4 + k, nbytes := n }) s
          { d with readData := lane x, mhi.latches := terase d.mhi.latches (lo + 4) })
      ∧ (tget d.mhi.latches (lo + 4) = none →
        Gives (.registerHiRead { offset := lo + 4 + k, nbytes := n }) s { d with readData := lane (v / 2 ^ 32) }))
    ∧ (∀ (s : State) (n : Nat), n < 2048 → blocksRead s.dev = true →
      let d := s.dev
      let c := (tget d.perf.counters n).getD {}
      let t := { d with readData := c.count % 2 ^ 32, perf.stamp := d.clk.elapsed16 / 16,
                        mhi.latches := tput d.mhi.latches (0x104004 + 8 * n) (c.count / 2 ^ 32 + 2 ^ 31 * b2n c.ovf) }
      Gives (.registerLoRead { offset := 0x104000 + 8 * n }) s t ∧ Gives (.perfCntLoRead n) s t
      ∧ pairAt d (0x104004 + 8 * n) = some (c.count % 2 ^ 32 + (c.count / 2 ^ 32 + 2 ^ 31 * b2n c.ovf) * 2 ^ 32))
    ∧ (∀ d : Dev, pairAt d 0xC0008 = some d.pair.epoch ∧ pairAt d 0xF0014 = some (d.ev.nextEsn.getD 0)
      ∧ pairAt d 0xF001C = some (slotEsn d.ev.slots.head?) ∧ pairAt d 0x10000C = some d.perf.stamp
      ∧ pairAt d 0x120004 = some d.mhi.dpAddr)
    ∧ (∀ (d : Dev) (c k : Nat) (r : CoveRec), c < 4096 → k < 16 → tget d.cove.tab c = some r →
      pairAt d (0x1000000 + 4096 * c + 0x104 + 8 * k) = some (nth r.counters k 0 % 2 ^ 64)))
  ∧ (∀ (s t u : State) (lo v : Nat) (c : Instr), blocksRead s.dev = true →
    pairAt s.dev (lo + 4) = some v → within lo 0x104000 0x4000 = false →
    exec (.registerLoRead { offset := lo }) s = .next t →
    (match c with
      | .registerLoRead o => o.offset / 4 * 4 ≠ lo
      | .registerHiRead o => o.offset / 4 * 4 ≠ lo + 4
      | .dpDataRead e => e = .clean
      | .perfCntLoRead _ | .poolOccupancyRead | .poolEccRead | .pairStraitRead | .bayCurrRead _ => True
      | _ => False) →
    exec c t = .next u →
    Leads (.registerHiRead { offset := lo + 4 }) u (fun w => w.dev.readData = v / 2 ^ 32 % 2 ^ 32 ∧ tget w.dev.mhi.latches (lo + 4) = none))
  ∧ (∀ (s : State) (lo hi : Reg), s.dev.mhi.mboxResult = none → blocksRead s.dev = true →
    let d := s.dev
    let both := hi.toNat * 2 ^ 32 + (tget d.mhi.held 0x120004).getD (d.mhi.dpAddr % 2 ^ 32)
    Gives (.registerHiWrite 0x120004 hi) s
      { d with mhi.held := terase d.mhi.held 0x120004, mhi.dpUnit := .none, mhi.dpAddr := both % 2 ^ 64,
               mhi.dpBuffer := if both % 2 ^ 64 = d.mhi.dpAddr then d.mhi.dpBuffer else none }
    ∧ (∀ t, exec (.registerLoWrite 0x120000 lo) s = .next t →
      t.dev.mhi.dpAddr = d.mhi.dpAddr
      ∧ Leads (.registerHiWrite 0x120004 hi) t (fun u =>
          u.dev.mhi.dpAddr = hi.toNat * 2 ^ 32 + lo.toNat ∧ tget u.dev.mhi.held 0x120004 = none)))

/-- A write of four bytes at an aligned offset sets a RW register, clears the bits written 1 of a W1C register, and leaves a RO
register as it is; a reserved encoding leaves its field; a write of fewer than four bytes, or one that is not aligned, is discarded.
Each as the register map gives it, with nothing else changed. A write that sets ENABLE with KEY 0x5A while ALLOWED is set enters
service mode with a WARN event; other writes that set ENABLE are ignored; a write of 0 leaves service mode. ALLOWED is set while the
device does not serve, is in PS3, or its pool is FAILED. A change of ENABLE raises GLOBAL_INT.SERVICE. A doorbell while BUSY or not
READY is ignored and sets REFUSED. Else it clears REFUSED and sets BUSY, takes SEQ, and the command waits for its own row; one whose
OP is not listed completes at once with STATUS 1: BUSY clears, DONE_SEQ takes SEQ, GLOBAL_INT.MBOX is raised, and the result lies in
the mailbox area at 0x80 (R503). Rests on 00 R6, R8, R9; 18 R502; 18 R504. -/
def Obligations.RegisterWrites : Prop :=
  (∀ (s : State) (v : Reg), s.dev.mhi.mboxResult = none →
    let d := s.dev
    (∀ off n, n < 4 ∨ off % 4 ≠ 0 → Gives (.registerWrite off n v) s d)
    ∧ (mhiOpen d = true →
      (∀ off, off ∈ [0x00, 0x04, 0x08, 0x0C, 0x18, 0x20, 0x24] → Gives (.registerWrite off 4 v) s d)
      ∧ Gives (.registerWrite 0x28 4 v) s { d with mhi.int := d.mhi.int &&& ~~~ (v.setWidth 4) }
      ∧ Gives (.registerWrite 0x2C 4 v) s { d with mhi.intEn := v.setWidth 4 })
    ∧ (blocksRead d = true →
      Gives (.registerWrite 0x120008 4 v) s
        { d with mhi.dpBurst := v.toNat / 256 % 64, mhi.dpAutoInc := v.getLsbD 4, mhi.dpBuffer := none, mhi.dpUnit := .none,
                 mhi.dpSize := if v.toNat % 4 = 3 then d.mhi.dpSize else v.toNat % 4 }
      ∧ Gives (.registerWrite 0x12000C 4 v) s { d with mhi.dpErr := d.mhi.dpErr && !v.getLsbD 0 }
      ∧ Gives (.registerLoWrite 0x120000 v) s
        { d with mhi.held := tput d.mhi.held 0x120004 v.toNat, mhi.dpUnit := .none })
    ∧ (blocksOpen d = true →
      (∀ off, off ∈ [0x10008, 0x1000C, 0x10010, 0x10018, 0x1001C, 0x10020, 0x10024, 0x20000, 0x20004, 0x20008, 0x2000C, 0x20010,
          0x20014, 0x20018, 0x2001C, 0x20024, 0xC0000, 0xC000C, 0xC0010, 0xC0014, 0xE0000, 0xE0004, 0xE0008, 0xF0000, 0xF0008,
          0xF000C, 0xF0028] → Gives (.registerWrite off 4 v) s d)
      ∧ Gives (.registerWrite 0x10004 4 v) s { d with chart.stageLen := v.toNat % 2 ^ 23 }
      ∧ Gives (.registerWrite 0x10028 4 v) s { d with chart.int := d.chart.int &&& ~~~ (v.setWidth 2) }
      ∧ Gives (.registerWrite 0x20020 4 v) s { d with pool.coveSel := v.toNat % 2 ^ 12 }
      ∧ Gives (.registerWrite 0x20028 4 v) s { d with pool.int := d.pool.int &&& ~~~ (v.setWidth 9) }
      ∧ Gives (.registerWrite 0x2002C 4 v) s { d with pool.intEn := v.setWidth 9 }
      ∧ Gives (.registerWrite 0xC001C 4 v) s { d with pair.int := d.pair.int &&& ~~~ (v.setWidth 6) }
      ∧ Gives (.registerWrite 0xC0020 4 v) s { d with pair.intEn := v.setWidth 6 }
      ∧ Gives (.registerWrite 0xE0010 4 v) s { d with bay.int := d.bay.int &&& ~~~ v }
      ∧ Gives (.registerWrite 0xE0014 4 v) s { d with bay.intEn := v }
      ∧ Gives (.registerWrite 0xE0018 4 v) s { d with bay.change := d.bay.change &&& ~~~ v }
      ∧ Gives (.registerWrite 0xE001C 4 v) s { d with bay.changeEn := v }
      ∧ Gives (.registerWrite 0xF0020 4 v) s { d with ev.int := d.ev.int &&& ~~~ (v.setWidth 6) }
      ∧ Gives (.registerWrite 0xF0024 4 v) s { d with ev.intEn := v.setWidth 6 }))
  ∧ (∀ (s : State) (v : Reg), mhiOpen s.dev = true →
    let d := s.dev
    let allowed := !d.boot.serving || d.host.power == 3 || d.pool.state == .failed
    (v.getLsbD 0 = true → v.toNat / 256 % 256 = 0x5A → allowed = true → d.mhi.service = false →
      Gives (.globalServiceWrite v) s
        (raiseGlobal 2 (logEvent 0 (Config.unlistedCode 2) 1 (payload 0 0 1 0) { d with mhi.service := true })))
    ∧ (v.getLsbD 0 = true → v.toNat / 256 % 256 ≠ 0x5A ∨ allowed = false ∨ d.mhi.service = true → Gives (.globalServiceWrite v) s d)
    ∧ (v.getLsbD 0 = false → d.mhi.service = true → Gives (.globalServiceWrite v) s (raiseGlobal 2 { d with mhi.service := false }))
    ∧ (v.getLsbD 0 = false → d.mhi.service = false → Gives (.globalServiceWrite v) s d))
  ∧ (∀ (s : State) (v : Reg), mhiOpen s.dev = true → s.dev.mhi.mboxResult = none →
    let d := s.dev
    let op := leNum (mgets s.mem 0x4000400000 2)
    let flags := leNum (mgets s.mem 0x4000400002 2)
    let inLen := leNum (mgets s.mem 0x4000400004 4)
    let outMax := leNum (mgets s.mem 0x4000400008 4)
    (d.mhi.mboxReady = false ∨ d.mhi.mboxBusy = true → Gives (.globalMboxDoorbell v) s { d with mhi.mboxRefused := true })
    ∧ (d.mhi.mboxReady = true → d.mhi.mboxBusy = false →
      (op ∈ [0x0001, 0x0010, 0x0011, 0x0012, 0x0013, 0x0014, 0x0020, 0x0021, 0x0030, 0x0031, 0x0040, 0x0041, 0x0050] → flags = 0 →
        inLen ≤ 65536 → outMax ≤ 65536 →
        Gives (.globalMboxDoorbell v) s { d with mhi.mboxRefused := false, mhi.mboxBusy := true, mhi.mboxPending := true,
                                                 mhi.mboxSeq := v.toNat % 65536, mhi.mboxRoom := some outMax })
      ∧ (op ∉ [0x0001, 0x0010, 0x0011, 0x0012, 0x0013, 0x0014, 0x0020, 0x0021, 0x0030, 0x0031, 0x0040, 0x0041, 0x0050] →
        Leads (.globalMboxDoorbell v) s (fun t => t.dev.mhi.mboxBusy = false ∧ t.dev.mhi.mboxDoneSeq = v.toNat % 65536 ∧
          t.dev.mhi.mboxRefused = false ∧ t.dev.mhi.int.getLsbD 0 = true ∧ leNum (mgets t.mem 0x4000400080 4) = 1 ∧
          t.pending = s.pending))))

/-- The registers whose read clears: each returns its value, then the field clears, and nothing else changes; while the device
restarts they read 0 (18 R501). Every read of the sideband returns its word while VDD_IO is in specification, and all ones of its
width for a value of the core while the core is held in reset; BAY_LATCHED is known at all times. A write is NACKed. Nothing else
changes. Rests on 03 R97, R98, 13 R423, 16 R472, 00 R8; 18 R515. -/
def Obligations.RegisterReads : Prop :=
  (∀ s : State,
    let d := s.dev
    (blocksRead d = true →
      Gives .poolOccupancyRead s { d with readData := occupancy d + 65536 * max d.pool.peak (occupancy d), pool.peak := 0 }
      ∧ Gives .poolEccRead s { d with readData := d.pool.corr2 + 65536 * d.pool.uncorr, pool.corr2 := 0, pool.uncorr := 0 }
      ∧ Gives .pairStraitRead s { d with readData := d.pair.lanes % 32 + 65536 * d.pair.replays, pair.replays := 0 }
      ∧ (∀ b v, b < 32 → tget d.bay.bays b = some v → Gives (.bayCurrRead b) s
          { d with readData := v.current % 65536 + 65536 * (v.peak % 65536), bay.bays := tput d.bay.bays b { v with peak := 0 } }))
    ∧ (blocksRead d = false → mhiOpen d = true → ∀ c, c ∈ [.poolOccupancyRead, .poolEccRead, .pairStraitRead, .bayCurrRead 0] →
        Gives c s { d with readData := 0 }))
  ∧ (∀ s : State,
    let d := s.dev
    let word := fun (w v : Nat) => if d.boot.alwaysOn then { d with readData := if coreHeld d then 2 ^ w - 1 else v % 2 ^ w } else d
    let latched := fun (v : Nat) => if d.boot.alwaysOn then { d with readData := v % 65536 } else d
    Gives .smbStatusRead s (word 8 (b2n (alertBits d != 0) + 2 * b2n (bayLatched d != 0) + 4 * b2n (decide (2 ≤ d.pool.level))
      + 8 * b2n d.boot.serving))
    ∧ Gives .smbTempRead s (word 16 (d.mhi.temp % 65536).toNat)
    ∧ Gives .smbPowerRead s (word 16 (d.mhi.power / 100))
    ∧ Gives .smbPowerStateRead s (word 8 d.host.power)
    ∧ Gives .smbRoleRead s (word 8 (roleNum d.pair.role + 4 * (d.pair.partner % 4)))
    ∧ Gives .smbBootRead s (word 8 (d.boot.step + 16 * d.boot.code))
    ∧ Gives .smbAlertRead s (word 16 (alertBits d).toNat)
    ∧ Gives .smbLatchedLoRead s (latched (bayLatched d))
    ∧ Gives .smbLatchedHiRead s (latched (bayLatched d / 65536))
    ∧ Gives .smbWrite s (if d.boot.alwaysOn then { d with out := d.out ++ [.smbNack] } else d))

/-- A DP_CTRL write takes BURST, AUTO_INC and SIZE (a SIZE of 3 leaves SIZE as it is), discards a partial unit and drops the buffer.
A unit of 64 bits or 64 bytes passes in dwords: the dwords before the last are only gathered by a write, or returned by a read that
goes on. A unit that the rights refuse, or one at a DP_ADDR that is not aligned to SIZE (code 5), is refused: a write of it changes
no memory, a read of it returns 0. A dword that DP_DATA writes into the Chart staging buffer, while the Chart engine is IDLE, lies
there afterwards and every other byte of memory is as it was; a DP_DATA read of the same address returns it. A BAR2 read inside the
buffer returns its bytes and accesses nothing; one outside it fills the buffer from the unit of its first byte and returns from
there; a refused one returns zeros. A BAR2 write drops the buffer and writes its bytes unit by unit, or is refused and changes no
memory. A request that touches the window's last byte advances DP_ADDR where AUTO_INC is set. Rests on 18 R511, R512; 18 R507, R509,
R512; 18 R513. -/
def Obligations.DataPort : Prop :=
  (∀ s : State,
    let d := s.dev
    (∀ v, blocksRead d = true → Gives (.dpCtrlWrite v) s
      { d with mhi.dpBurst := v.toNat / 256 % 64, mhi.dpAutoInc := v.getLsbD 4, mhi.dpBuffer := none, mhi.dpUnit := .none,
               mhi.dpSize := if v.toNat % 4 = 3 then d.mhi.dpSize else v.toNat % 4 })
    ∧ (∀ x y r n b, blocksRead d = true → d.mhi.dpUnit = .reading (x :: y :: r) n →
      Gives (.dpDataRead b) s { d with readData := x, mhi.dpUnit := .reading (y :: r) (n + 1) })
    ∧ (∀ x n b, blocksRead d = true → d.mhi.dpUnit = .reading [x] n → d.mhi.dpAutoInc = false →
      Gives (.dpDataRead b) s { d with readData := x, mhi.dpUnit := .none })
    ∧ (∀ v g, blocksRead d = true → d.mhi.dpUnit = .writing g → 4 * (g.length + 1) < dpSizeBytes d →
      Gives (.dpDataWrite v) s { d with mhi.dpUnit := .writing (g ++ [v.toNat]) })
    ∧ (∀ v, blocksRead d = true → d.mhi.dpUnit = .none → d.mhi.dpSize = 0 → d.mhi.dpAutoInc = false → d.mhi.dpAddr % 4 = 0 →
      firstCode (writeCode d) d.mhi.dpAddr 4 ≠ 0 →
      Gives (.dpDataWrite v) s
        { dpRefuse (firstCode (writeCode d) d.mhi.dpAddr 4) d.mhi.dpAddr { d with mhi.dpBuffer := none } with
            mhi.dpUnit := .none })
    ∧ (∀ b, blocksRead d = true → d.mhi.dpUnit = .none → d.mhi.dpSize = 0 → d.mhi.dpAutoInc = false → d.mhi.dpAddr % 4 ≠ 0 →
      Gives (.dpDataRead b) s { dpRefuse 5 d.mhi.dpAddr d with readData := 0, mhi.dpUnit := .none }))
  ∧ (∀ (s t : State) (v : Reg), MemOk s → blocksRead s.dev = true →
    s.dev.mhi.dpUnit = .none → s.dev.mhi.dpSize = 0 → s.dev.mhi.dpAutoInc = false → s.dev.mhi.dpAddr % 4 = 0 →
    0x4000000000 ≤ s.dev.mhi.dpAddr → s.dev.mhi.dpAddr < 0x4000400000 → s.dev.chart.state = .idle →
    exec (.dpDataWrite v) s = .next t →
    t.mem = mputs s.mem s.dev.mhi.dpAddr (leBytes v.toNat 4)
    ∧ (∀ a, a < s.dev.mhi.dpAddr ∨ s.dev.mhi.dpAddr + 4 ≤ a → mget t.mem a = mget s.mem a)
    ∧ t.dev.mhi.dpAddr = s.dev.mhi.dpAddr
    ∧ Leads (.dpDataRead .clean) t (fun u => u.dev.readData = v.toNat ∧ u.mem = t.mem))
  ∧ (∀ (s : State) (off len : Nat) (bad : EccResult), blocksRead s.dev = true → off + len ≤ 65536 →
    s.dev.mhi.dpAddr % 64 = 0 → s.dev.mhi.dpAddr + 65536 ≤ 2 ^ 64 →
    let d := s.dev
    let a := d.mhi.dpAddr + off
    let d0 := { d with mhi.dpUnit := .none }
    (firstCode (readCode d) a len = 0 → bufferHolds d.mhi.dpBuffer a len = true →
      Gives (.bar2Read off len bad) s (advanceWindow off len { d0 with readBytes := fromBuffer a len d }))
    ∧ (firstCode (readCode d) a len = 0 → bufferHolds d.mhi.dpBuffer a len = false →
      let f := fillUnits bad (ceilDiv (a + len - a / 64 * 64) 64) (a / 64 * 64) s.mem
        (max (ceilDiv (a + len - a / 64 * 64) 64) (if d.mhi.dpBurst = 0 then 64 else d.mhi.dpBurst)) d0
      Gives (.bar2Read off len bad) s (advanceWindow off len
        { f.2 with mhi.dpBuffer := some (a / 64 * 64, f.1), readBytes := (f.1.drop (a - a / 64 * 64)).take len }))
    ∧ (firstCode (readCode d) a len ≠ 0 → Gives (.bar2Read off len bad) s
        (advanceWindow off len (dpRefuse (firstCode (readCode d) a len) a { d0 with readBytes := List.replicate len 0 })))
    ∧ (∀ bytes, bytes.length = len → len ≠ 0 →
      let d1 := { d0 with mhi.dpBuffer := none }
      (firstCode (writeCode d) a len = 0 →
        let w := writeUnits a bytes (len / 64 + 2) d1 s.mem
        exec (.bar2Write off bytes) s = .next { s with dev := advanceWindow off len w.1, mem := w.2 })
      ∧ (firstCode (writeCode d) a len ≠ 0 →
        Gives (.bar2Write off bytes) s (advanceWindow off len (dpRefuse (firstCode (writeCode d) a len) a d1)))))

/-- An event that finds a place in the buffer and room in EVENTS takes the next ESN and enters at the end of the buffer; a FAULT, or
the 3,072nd record, flushes the buffer to EVENTS. Else it is lost: EVENT_LOST rises by one, EVENT_INT.LOST is set, and no ESN is
taken. An event before bring-up step 5, or before a clear that waits for that step has run, waits without an ESN. A suppressed event is not recorded (R474). The buffer never holds more
than 4,096 records, nor buffer and EVENTS together more than EVENTS has room for: recording an event keeps both bounds, and changes
nothing outside the recorder, its interrupt and the output. EVENT_CTRL: FLUSH moves the buffer to the end of EVENTS in order and
raises FLUSHED; CLEAR with KEY 0xA5 leaves EVENTS with the LOG_CLEARED record alone, which takes the next ESN, with an empty buffer
and EVENT_LOST 0; before step 5 either waits, and EVENT_DEFERRED_CLEAR runs it once the counter is set; CLEAR without the KEY or
with FLUSH is ignored. CLOCK_MARK_TIMER records the mark of R477. Rests on 17 R475, R478, R479; 17 R478; 17 R479, R481, R486. -/
def Obligations.EventsRecorded : Prop :=
  (∀ (d : Dev) (r : EventRec),
    (d.ev.nextEsn = none ∨ d.ev.pendingClear.isSome = true → logRec r d = { d with ev.waiting := d.ev.waiting ++ [r] })
    ∧ (∀ n, d.ev.nextEsn = some n → d.ev.pendingClear = none → d.ev.buffer.length < 4096 → d.ev.buffer.length + d.ev.slots.length < eventCapacity d →
      let e := logRec r d
      e.ev.nextEsn = some (n + 1) ∧ e.ev.lost = d.ev.lost
      ∧ (r.cls ≠ 2 → d.ev.buffer.length + 1 < 3072 →
          e.ev.buffer = d.ev.buffer ++ [{ r with esn := n }] ∧ e.ev.slots = d.ev.slots)
      ∧ (r.cls = 2 ∨ 3072 ≤ d.ev.buffer.length + 1 →
          e.ev.buffer = [] ∧ e.ev.slots = d.ev.slots ++ (d.ev.buffer ++ [{ r with esn := n }]).map some))
    ∧ (∀ n, d.ev.nextEsn = some n → d.ev.pendingClear = none →
      ¬ (d.ev.buffer.length < 4096 ∧ d.ev.buffer.length + d.ev.slots.length < eventCapacity d) →
      let e := logRec r d
      e.ev.nextEsn = some n ∧ e.ev.buffer = d.ev.buffer ∧ e.ev.slots = d.ev.slots
      ∧ e.ev.lost = min (d.ev.lost + 1) (2 ^ 32 - 1) ∧ e.ev.int.getLsbD 3 = true)
    ∧ (∀ src code cls pl, eventClass d src code cls = none → logEvent src code cls pl d = d))
  ∧ (∀ (d : Dev) (r : EventRec), d.ev.buffer.length ≤ 4096 →
    d.ev.buffer.length + d.ev.slots.length ≤ eventCapacity d →
    let e := logRec r d
    e.ev.buffer.length ≤ 4096 ∧ e.ev.buffer.length + e.ev.slots.length ≤ eventCapacity e
    ∧ blank [.ev, .mhi, .out] e = blank [.ev, .mhi, .out] d)
  ∧ (∀ (s : State) (v : Reg),
    let d := s.dev
    let cleared := fun (requester n : Nat) (t : State) =>
      let all := d.ev.slots ++ d.ev.buffer.map some
      t.dev.ev.buffer = [] ∧ t.dev.ev.lost = 0 ∧ t.dev.ev.nextEsn = some (n + 1) ∧ t.dev.ev.int.getLsbD 2 = true
      ∧ t.dev.ev.slots = [some (EventRec.mk n 0x0F 2 (clearedClass d).1 (clearedClass d).2 none (slotEsn all.head? + slotEsn all.getLast? * 2 ^ 64
          + (d.ev.lost % 2 ^ 32) * 2 ^ 128 + (requester % 256) * 2 ^ 160))]
    (blocksOpen d = true →
      (v.getLsbD 1 = false → ∀ n, d.ev.nextEsn = some n → Leads (.eventCtrlFlush v) s (fun t =>
        t.dev.ev.buffer = [] ∧ t.dev.ev.slots = d.ev.slots ++ d.ev.buffer.map some ∧ t.dev.ev.nextEsn = some n
        ∧ t.dev.ev.int.getLsbD 2 = true ∧ t.mem = s.mem ∧ t.pending = s.pending))
      ∧ (v.getLsbD 1 = false → d.ev.nextEsn = none → Gives (.eventCtrlFlush v) s { d with ev.pendingFlush := true })
      ∧ (v.getLsbD 1 = true → Gives (.eventCtrlFlush v) s d)
      ∧ (v.getLsbD 0 = false → v.toNat / 256 % 256 = 0xA5 → ∀ n, d.ev.nextEsn = some n → Leads (.eventCtrlClear v) s (cleared 0 n))
      ∧ (v.getLsbD 0 = false → v.toNat / 256 % 256 = 0xA5 → d.ev.nextEsn = none →
          Gives (.eventCtrlClear v) s { d with ev.pendingClear := some 0 })
      ∧ (v.getLsbD 0 = true ∨ v.toNat / 256 % 256 ≠ 0xA5 → Gives (.eventCtrlClear v) s d))
    ∧ (∀ n q, d.ev.nextEsn = some n → d.ev.pendingClear = some q → d.ev.pendingFlush = false → d.ev.waiting = [] →
        Leads .eventDeferredClear s (fun t => cleared q n t ∧ t.dev.ev.pendingClear = none))
    ∧ (coreRuns d = false → Gives .clockMarkTimer s d)
    ∧ (coreRuns d = true → Gives .clockMarkTimer s (logEvent 0x0F 1 0 (d.clk.tod.s % 2 ^ 48 + (d.clk.tod.ns % 2 ^ 32) * 2 ^ 48 + (d.clk.tod.frac % 16) * 2 ^ 80
        + (d.clk.state % 256) * 2 ^ 88 + (d.clk.elapsed16 / 16 % 2 ^ 64) * 2 ^ 96) d)))

/-- PERF_CTRL.CLEAR_ALL zeroes every count and overflow bit; a PERF_CFG write sets the counter's fields and zeroes it, a reserved
CLASS or EVENT leaving that field; a Lens entry takes its 32 bytes at once, and Lens 0 takes none. An occurrence adds to each
enabled counter of its event whose Lens matches, wrapping at 2^48 with the sticky overflow bit. A sample of an enabled sampler
counts once, keeps the largest depth and delay, and adds one to a bin of each histogram, all saturating; a disabled one takes none.
Setting ENABLE when it is clear zeroes every RO field and keeps the settings. Rests on 17 R487, R488, R493; 10 R337, R338. -/
def Obligations.CountersAndSamplers : Prop :=
  (∀ (s : State) (v : Reg) (n : Nat), blocksOpen s.dev = true →
    let d := s.dev
    let old := (tget d.perf.counters n).getD {}
    let fresh := fun (cls event : Nat) => Counter.mk 0 false (v.getLsbD 31) (v.toNat / 65536 % 256) cls event
    (v.getLsbD 0 = true → Gives (.perfCtrlClearAll v) s
        { d with perf.counters := d.perf.counters.map (fun e => (e.1, { e.2 with count := 0, ovf := false })) })
    ∧ (v.getLsbD 0 = false → Gives (.perfCtrlClearAll v) s d)
    ∧ (n < 2048 → v.toNat / 256 % 256 < 11 → v.toNat % 256 < eventsOf (v.toNat / 256 % 256) → Gives (.perfCfgWrite n v) s
        { d with perf.counters := tput d.perf.counters n (fresh (v.toNat / 256 % 256) (v.toNat % 256)) })
    ∧ (n < 2048 → 11 ≤ v.toNat / 256 % 256 → eventsOf old.cls ≤ v.toNat % 256 → Gives (.perfCfgWrite n v) s
        { d with perf.counters := tput d.perf.counters n (fresh old.cls old.event) })
    ∧ (∀ x, 1 ≤ n → n < 256 → Gives (.lensWrite n x) s
        { d with perf.lens := tput d.perf.lens n (x % 2 ^ 256), perf.lensHeld := terase d.perf.lensHeld n })
    ∧ (∀ x, Gives (.lensWrite 0 x) s d)
    ∧ (∀ cls event k a c, tget d.perf.counters n = some c →
        tget (occur cls event k a d).perf.counters n = some (
          if c.enable = true ∧ c.cls = cls ∧ c.event = event ∧ (c.lens = 0 ∨ lensMatch ((tget d.perf.lens c.lens).getD 0) a = true) then
            { c with count := (c.count + k) % 2 ^ 48, ovf := c.ovf || decide (2 ^ 48 ≤ c.count + k) }
          else c)))
  ∧ (∀ (s : State) (i : Nat) (x : Sampler), i < 256 → tget s.dev.sched.samplers i = some x →
    let d := s.dev
    let depth := lsum (sampled d x) (·.len)
    let delay := d.clk.elapsed16 / 16 - oldestHead d x
    let sat := fun (c : Nat) => min c (2 ^ 32 - 1)
    let y := { x with samples := sat (x.samples + 1), maxDepth := max x.maxDepth (sat depth), maxDelay := max x.maxDelay (sat delay),
                      depth := modNth x.depth (depthBin depth) (fun c => sat (c + 1)),
                      delay := modNth x.delay (delayBin (sampled d x).isEmpty delay) (fun c => sat (c + 1)) }
    (x.enable = true → x.intervalUs ≠ 0 → Gives (.samplerTick i) s
      { d with sched.samplers := tput d.sched.samplers i y })
    ∧ (x.enable = false ∨ x.intervalUs = 0 → Gives (.samplerTick i) s d)
    ∧ (∀ v : Byte, blocksOpen d = true →
      (v.getLsbD 0 = true → x.enable = false → Gives (.samplerCtrlWrite i v) s
        { d with sched.samplers := tput d.sched.samplers i (Sampler.mk true x.kind x.link x.cls x.cove x.intervalUs 0 0 0
                                     (List.replicate 16 0) (List.replicate 16 0)) })
      ∧ (v.getLsbD 0 = true → x.enable = true → Gives (.samplerCtrlWrite i v) s
        { d with sched.samplers := tput d.sched.samplers i x })
      ∧ (v.getLsbD 0 = false → Gives (.samplerCtrlWrite i v) s
        { d with sched.samplers := tput d.sched.samplers i { x with enable := false } }))
    ∧ (∀ n, depthBin n = (if n = 0 then 0 else if n < 512 then 1 else if 4194304 ≤ n then 15 else Nat.log2 (n / 512) + 2)))

/-- A gate entry comes into force on its port; a list that waits takes over at entry 0, the classes open before and closed there
being held in their guard band, with an INFO event that names the port where the list is new; a port without a waiting list is
unchanged. A plane that leaves service gives its buckets, and only those, to the serving planes in turn, with a FAULT event, and
the cells that it holds are discarded, which poisons their units; the last plane stays. A change that waits while four epochs are live logs a WARN event. A write of the ring's CTRL byte sets ENABLE
and the stop mode; setting ENABLE from clear empties the ring's counts and restarts every filter's sample count; with CAPTURE 0
ENABLE stays clear. A frame of no served kind is counted as received and as dropped, and captured as dropped where a filter
takes it; the transport is unchanged but for its count of drops. A bad FCS counts too. Rests on 10 R332, R333, 02 R55; 09 R290,
R292, R306, R308; 09 R309, R310; 08 R247, 17 R489. -/
def Obligations.FabricAndGates : Prop :=
  (∀ (s : State) (port : Nat) (g : PortGates), tget s.dev.sched.gates port = some g →
    let d := s.dev
    (∀ l i, g.list = some l → i < l.entries.length →
      Gives (.gateEntry port i) s { d with sched.gates := tput d.sched.gates port { g with entry := i, guard := 0 } })
    ∧ (∀ l i, g.list = some l → l.entries.length ≤ i → Gives (.gateEntry port i) s d)
    ∧ (∀ l, g.waiting = some l →
      let before := openMask g
      let after := openMask { list := l, entry := 0, waiting := none, guard := 0 }
      let e := { d with sched.gates := tput d.sched.gates port (PortGates.mk l 0 none (before - (before &&& after))) }
      (l ≠ g.list → Gives (.gateListTakeover port) s (logEvent 1 1 0 (payload port d.chart.runSeq d.chart.runSeq 0) e))
      ∧ (l = g.list → Gives (.gateListTakeover port) s e))
    ∧ (g.waiting = none → Gives (.gateListTakeover port) s d))
  ∧ (∀ (s : State) (p tag : Nat),
    let d := s.dev
    let left := d.prism.planes.filter (fun q => q != p)
    let mine := (List.range 4096).filter (fun b => planeOf d b == p)
    (p ∈ d.prism.planes → 1 < d.prism.planes.length →
      Gives (.planeOutOfService p) s
        (logEvent 7 1 2 (payload p 0 0 0)
          { dropPlane p d with prism.planes := left, prism.pin := repin left 0 mine d.prism.pin })
      ∧ (∀ b, b < 4096 → left ≠ [] → Leads (.planeOutOfService p) s (fun t =>
          (planeOf d b ≠ p → planeOf t.dev b = planeOf d b) ∧ (planeOf d b = p → planeOf t.dev b ∈ left))))
    ∧ (p ∉ d.prism.planes ∨ d.prism.planes.length ≤ 1 → Gives (.planeOutOfService p) s d)
    ∧ (4 ≤ liveEpochs d → Gives (.epochStallTimer tag) s (logEvent 7 2 1 (payload tag 0 0 0) d))
    ∧ (liveEpochs d < 4 → Gives (.epochStallTimer tag) s d))
  ∧ (∀ (s : State) (v : Byte), blocksOpen s.dev = true →
    let d := s.dev
    let c := d.prism.capture
    (v.getLsbD 0 = true → captureRecords d ≠ 0 → c.enable = false → Gives (.captureCtrlWrite v) s
      { d with prism.capture := { c with enable := true, stopMode := v.getLsbD 1, producer := 0, dropped := 0, missed := 0,
                                         filters := c.filters.map (fun e => (e.1, { e.2 with sampleCount := 0 })) } })
    ∧ (v.getLsbD 0 = false ∨ captureRecords d = 0 → Gives (.captureCtrlWrite v) s
      { d with prism.capture := { c with enable := false, stopMode := v.getLsbD 1 } })
    ∧ (v.getLsbD 0 = true → captureRecords d ≠ 0 → c.enable = true → Gives (.captureCtrlWrite v) s
      { d with prism.capture := { c with enable := true, stopMode := v.getLsbD 1 } }))
  ∧ (∀ (s : State) (f : FrameInfo),
    let d := s.dev
    let a := netAttr f.port f.cove
    let seen := occur 0 1 f.len a (occur 0 0 1 a d)
    let bad := if f.fcsOk then seen else occur 0 5 1 a seen
    Gives (.recvOtherFrame f) s (capture false true (captureFlags f false true false) f
      (occur 0 4 1 a { bad with net.drops := d.net.drops + 1 }))
    ∧ Leads (.recvOtherFrame f) s (fun t => t.dev.net = { d.net with drops := d.net.drops + 1 } ∧ Only [.perf, .prism, .net] s t))

/-- Both readings advance by 10 sixteenths of a nanosecond at each cycle without a frequency adjustment, the time of day carrying
into nanoseconds and seconds; stopped core clocks do not advance them. An Announce in DOMAIN on PTP_PORT joins the masters heard,
and the best of them is selected; one of another domain, or on another port, does nothing. When a source in use becomes invalid (no
Announce, no Sync, no PPS_IN edge) it is dropped at once, and with no other valid source the state becomes HOLDOVER at the frequency
averaged over the last 60 s of lock. A higher-priority source that has stayed valid is taken back, with an INFO event. HOLDOVER of
10 minutes sets HOLDOVER_EXCEEDED with a WARN event. A PPS_IN edge within 1 µs of the second that the clock predicts measures its
offset and clears the count of misses; the third in a row beyond 1 µs makes PPS_IN invalid. While PPS_OUT is set the pin rises at
each second and falls after 10 ms. Rests on 10 R313; 10 R315, R316, R320; 10 R315, R317. -/
def Obligations.ClockSources : Prop :=
  (∀ d : Dev,
    (d.boot.clocksStopped = true → clockTick d = d)
    ∧ (d.boot.clocksStopped = false → d.clk.freqPpb = 0 → d.clk.acc < 1000000000 →
      clockTick d = { d with clk.elapsed16 := d.clk.elapsed16 + 10, clk.tod := todAdd d.clk.tod 10 })
    ∧ (∀ t : Tod, t.frac < 16 → t.ns < 1000000000 → ∀ n,
      let u := todAdd t n
      u.frac < 16 ∧ u.ns < 1000000000
      ∧ u.s * 16000000000 + u.ns * 16 + u.frac = (t.s * 16000000000 + t.ns * 16 + t.frac + n) % (2 ^ 48 * 16000000000)))
  ∧ (∀ s : State,
    let d := s.dev
    let c := (chartOf d).clock
    let lost : Dev → Prop := fun e => e.clk.state = 1 ∧ e.clk.source = 0 ∧ e.clk.lockCount = 0 ∧ e.clk.holdoverS = d.clk.tod.s
      ∧ e.clk.freqPpb = averagePpb (d.clk.elapsed16 / 16) d.clk.freqPpb d.clk.freqHist ∧ e.clk.tod = d.clk.tod
    (∀ a : Announce, a.port = c.ptpPort → a.domain = c.domain →
      let ms := d.clk.ptpA.masters.filter (fun m => m.clockId != a.clockId) ++ [a]
      Gives (.ptpAnnounceReceive a) s (masterFields { d with clk.ptpA.masters := ms, clk.ptpA.selected := bestMaster ms }))
    ∧ (∀ a : Announce, a.domain ≠ c.domain ∨ (a.port ≠ c.ptpPort ∧ a.port ≠ c.backupPort) → Gives (.ptpAnnounceReceive a) s d)
    ∧ (d.clk.source = 1 → d.clk.ptpBackup.valid = false → d.clk.pps.valid = false → d.clk.tline.valid = false → d.clk.todValid = true →
      Leads (.syncReceiptTimeout c.ptpPort) s (fun t => lost t.dev ∧ t.dev.clk.ptp.valid = false ∧ t.mem = s.mem)
      ∧ Leads (.announceReceiptTimeout c.ptpPort) s (fun t => lost t.dev ∧ t.dev.clk.ptp.valid = false ∧ t.mem = s.mem))
    ∧ (d.clk.source = 3 → d.clk.ptp.valid = false → d.clk.ptpBackup.valid = false → d.clk.tline.valid = false → d.clk.todValid = true →
      Leads .ppsInTimeout s (fun t => lost t.dev ∧ t.dev.clk.pps.valid = false ∧ t.mem = s.mem))
    ∧ (c.reference = 3 → d.clk.ptp.valid = true → 1 < d.clk.source → Gives (.sourceRevertTimer 1) s
        (masterFields (logEvent 9 1 0 (payload 0 d.clk.source 1 0) { d with clk.source := 1, clk.lockCount := 0 })))
    ∧ (d.clk.source = 1 → Gives (.sourceRevertTimer 1) s d)
    ∧ (d.clk.state = 1 → d.clk.holdoverExceeded = false → Gives .holdoverLimit s
        (logEvent 9 3 1 (payload 0 0 0 0) { d with clk.holdoverExceeded := true }))
    ∧ (d.clk.state ≠ 1 ∨ d.clk.holdoverExceeded = true → Gives .holdoverLimit s d))
  ∧ (∀ s : State,
    let d := s.dev
    let c := (chartOf d).clock
    let off : Int := if d.clk.tod.ns < 500000000 then (d.clk.tod.ns : Int) else (d.clk.tod.ns : Int) - 1000000000
    (c.reference = 2 → d.clk.todValid = true → d.clk.source = 3 → d.clk.pps.valid = true → off.natAbs ≤ 1000 →
      Leads .ppsInEdge s (fun t => t.dev.clk.ppsMisses = 0 ∧ t.dev.clk.offsetNs = off ∧ t.dev.clk.tod = d.clk.tod
        ∧ t.dev.clk.lockCount = (if off.natAbs ≤ 200 then min (d.clk.lockCount + 1) 16 else 0) ∧ Only [.clk, .draws] s t))
    ∧ (c.reference = 2 → d.clk.todValid = true → 1000 < off.natAbs → 2 ≤ d.clk.ppsMisses →
      Leads .ppsInEdge s (fun t => t.dev.clk.pps.valid = false ∧ t.dev.clk.ppsMisses = 0 ∧ t.dev.clk.tod = d.clk.tod ∧ t.mem = s.mem))
    ∧ (c.reference = 1 → Gives .ppsInEdge s d)
    ∧ (c.ppsOut = 1 → Gives .ppsOutPulse s { d with clk.ppsOut := true })
    ∧ (c.ppsOut ≠ 1 → Gives .ppsOutPulse s d)
    ∧ Gives .ppsOutFall s { d with clk.ppsOut := false })

/-- A one-step Sync, or the Follow_Up of a two-step one, from the selected master of PTP_PORT measures the offset from its times.
While time of day is valid and the offset is at most 1 ms, the source in use slews: time of day stands, the frequency adjustment
opposes the offset by at most 100 ppm, and the 16th measurement in a row within 200 ns gives LOCKED. Before the first valid time, or
beyond 1 ms, it steps to the reference. Its path delay is the mean of the two directions. Rests on 10 R316, R319. -/
def Obligations.PtpMeasurement : Prop := ∀ (s : State) (seq : Nat) (origin rx : Int) (a : Announce),
  let d := s.dev
  let port := (chartOf d).clock.ptpPort
  let off := rx - origin - d.clk.ptpA.pathDelay
  let measured : Instr → Prop := fun c =>
    (d.clk.todValid = true → off.natAbs ≤ 1000000 → Leads c s (fun t => t.dev.clk.tod = d.clk.tod ∧ t.dev.clk.offsetNs = off
      ∧ (off ≠ 0 → t.dev.clk.freqPpb.natAbs ≤ 100000) ∧ (0 < off → t.dev.clk.freqPpb ≤ 0) ∧ (off < 0 → 0 ≤ t.dev.clk.freqPpb)
      ∧ t.dev.clk.lockCount = (if off.natAbs ≤ 200 then min (d.clk.lockCount + 1) 16 else 0)
      ∧ (off.natAbs ≤ 200 → 15 ≤ d.clk.lockCount → t.dev.clk.state = 0) ∧ Only [.clk, .draws] s t))
    ∧ (d.clk.todValid = false ∨ 1000000 < off.natAbs → Leads c s (fun t => t.dev.clk.todValid = true ∧ t.dev.clk.suspended = false
      ∧ t.dev.clk.tod.s = (((todNs d : Nat) : Int) - off).toNat / 1000000000 % 2 ^ 48
      ∧ t.dev.clk.tod.ns = (((todNs d : Nat) : Int) - off).toNat % 1000000000
      ∧ t.dev.clk.steps = min (d.clk.steps + 1) 65535 ∧ t.dev.clk.lockCount = 0 ∧ t.mem = s.mem))
  (chartOf d).clock.reference = 1 → d.clk.ptp.valid = true → d.clk.source = 1 → d.clk.ptpA.selected = some a →
  measured (.ptpSyncReceive port seq false origin rx)
  ∧ (d.clk.ptpA.syncWait = some (seq, rx) → measured (.ptpFollowUpReceive port seq origin))
  ∧ Gives (.ptpSyncReceive port seq true origin rx) s { d with clk.ptpA.syncWait := some (seq, rx) }
  ∧ (∀ tx, d.clk.ptpA.delayReq = some (seq, tx) → Gives (.ptpDelayRespReceive port seq rx) s
      { d with clk.ptpA.delayReq := none, clk.ptpA.pathDelay := (d.clk.ptpA.syncDiff + (rx - tx)).tdiv 2 })
  ∧ (∀ tx, Gives (.ptpDelayReqSend port seq tx) s
      (queueMgmt (port * 4) { kind := 0, len := 64, opcode := 1, psn := seq } { d with clk.ptpA.delayReq := some (seq, tx) }))

/-- How a bay comes to power: PRSNT starts the insertion delay, its end queues the bay, a free ramp place goes to the bay queued
first, VOUT within 0.3 V of VIN enhances the gate, VOUT inside the window is power-good and ON, and 100 ms later PERST# is released;
a bay in RETRY queues again, and 60 s of power-good forget its attempts. Rests on 16 R463, R464, R465, R467, 15 R442 step 7. -/
def Obligations.BayPowersOn : Prop := ∀ (s : State) (n : Nat),
  let d := s.dev
  let b := bayOf d n
  (coreRuns d = true → d.boot.step = 7 → Leads .bayBringupPower s (fun t =>
      (∀ m x, tget d.bay.bays m = some x → (x.state = .empty → x.prsnt = true → tget t.dev.bay.bays m = some { x with state := .insert })
        ∧ (x.state = .ramping ∨ x.state = .on → tget t.dev.bay.bays m = some x))
      ∧ t.dev.boot.step = (if t.dev.bay.bays.all (fun e => !onItsWay d e.1 e.2) then 8 else 7) ∧ Only [.mhi, .boot, .bay, .out] s t))
  ∧ (∀ vin, n < 32 → coreRuns d = true → b.prsnt = false → Gives (.bayPrsntAssert n vin) s
      (raiseBayChange n (setBay n { b with prsnt := true, vin := vin, state := if b.state = .empty then .insert else b.state } d)))
  ∧ (baysPower d = true → (∀ vin, b.state = .insert → b.prsnt = true →
      (vinInside d n vin = true → Gives (.bayInsertDelayExpiry n vin) s (setBay n { b with vin := vin, state := .queued, order := elapsed d } d))
      ∧ (vinInside d n vin = false → Gives (.bayInsertDelayExpiry n vin) s (endStep7 (setBay n { b with vin := vin } d))))
    ∧ (rampingBays d < (chartOf d).maxRamping → nextToRamp d = some n →
      Gives (.bayRampStart n) s (setBay n { b with state := .ramping, gate := 1 } d))
    ∧ ((chartOf d).maxRamping ≤ rampingBays d → Gives (.bayRampStart n) s d)
    ∧ (b.state = .on → b.pg = true → Gives (.bayPerstRelease n) s (endStep7 (setBay n { b with perst := false } d))))
  ∧ (b.state = .retry → Gives (.bayRetryExpiry n) s (setBay n { b with state := .queued, order := elapsed d } d))
  ∧ (∀ v, b.state = .ramping →
      (b.gate = 1 → b.vin ≤ v + 300 → Gives (.bayRampReached n v) s (setBay n { b with vout := v, gate := 2 } d))
      ∧ (v + 300 < b.vin → Gives (.bayRampReached n v) s d)
      ∧ (b.gate = 2 → vinInside d n v = true → Gives (.bayPowerGood n v) s (setBay n { b with vout := v, state := .on, pg := true } d)))
  ∧ (b.pg = true → Gives (.bayAttemptsReset n) s (setBay n { b with attempts := 0 } d))
  ∧ (∀ m x, nextToRamp d = some m → d.bay.bays.Pairwise (fun y z => y.1 < z.1) → tget d.bay.bays m = some x →
      x.state = .queued ∧ ∀ k y, tget d.bay.bays k = some y → y.state = .queued → x.order < y.order ∨ (x.order = y.order ∧ m ≤ k))

/-- Each of faults 1 to 4 is a failed attempt: the gate goes down with PERST#, the cause stands, the third attempt latches the bay
and an earlier one leaves it in RETRY, and BAY_INT names the bay; where one current is past both thresholds, cause 2 is recorded. A VIN fault returns it to INSERT and is no attempt; a current or a
voltage inside its limit is no fault. A pull takes the gate down and leaves EMPTY with no attempts, but in FET_FAILED. OFF is
ignored in LATCHED and FET_FAILED; CLEAR takes LATCHED to EMPTY, and FET_FAILED back only while VOUT is at most 0.5 V. BAY_CTRL acts
on the bay it names. Rests on 16 R466, R467; 16 R468, R469, R471. -/
def Obligations.BayFaults : Prop :=
  (∀ (s : State) (n : Nat),
    let d := s.dev
    let b := bayOf d n
    let r := bayRecord d n
    let hit := fun (x : Bay) (t : State) => bayOf t.dev n = x ∧ t.dev.bay.int.getLsbD n = true
      ∧ (∀ m, m ≠ n → bayOf t.dev m = bayOf d m) ∧ Only [.ev, .mhi, .boot, .shelf, .bay, .out] s t
    let attempt : Nat → Bay → Bay := fun cause x => { gateDown x with
      cause := cause, attempts := min 3 (x.attempts + 1), state := if 2 ≤ x.attempts then .latched else .retry }
    (n < 32 → coreRuns d = true →
      (∀ ma, (b.state = .ramping ∨ b.state = .on) → let seen := { b with current := ma, peak := max b.peak ma }
        (r.breaker < ma → ma ≤ 2 * r.breaker → Leads (.bayBreakerTrip n ma) s (hit (attempt 1 seen)))
        ∧ (r.breaker < ma → 2 * r.breaker < ma → Leads (.bayBreakerTrip n ma) s (hit (attempt 2 seen)))
        ∧ (2 * r.breaker < ma → Leads (.bayFastTrip n ma) s (hit (attempt 2 seen))))
      ∧ (b.state = .ramping → Leads (.bayRampTimeout n) s (hit (attempt 3 b)))
      ∧ (∀ v, b.state = .on → vinInside d n b.vin = true → Leads (.bayPowerGoodLost n v) s (hit (attempt 4 { b with vout := v })))
      ∧ (∀ v, (b.state = .ramping ∨ b.state = .on) →
        (v < r.uv → Leads (.bayVinUnder n v) s (hit { gateDown b with cause := 5, vin := v, state := .insert }))
        ∧ (r.ov < v → Leads (.bayVinOver n v) s (hit { gateDown b with cause := 6, vin := v, state := .insert })))
      ∧ (∀ v, b.state ∉ [.ramping, .on, .fetFailed] → 1500 < v →
          Leads (.bayFetDamaged n v) s (hit { gateDown b with cause := 7, vout := v, state := .fetFailed })))
    ∧ (∀ ma, coreRuns d = true → ma ≤ r.breaker → Gives (.bayBreakerTrip n ma) s d ∧ Gives (.bayFastTrip n ma) s d)
    ∧ (∀ v, coreRuns d = true → (r.uv ≤ v → Gives (.bayVinUnder n v) s d) ∧ (v ≤ r.ov → Gives (.bayVinOver n v) s d))
    ∧ (∀ v, v ≤ 1500 → Gives (.bayFetDamaged n v) s d))
  ∧ (∀ (s : State) (v : Reg),
    let d := s.dev
    let n := bits v.toNat 12 8
    let b := bayOf d n
    let rest := if b.prsnt then BayState.insert else .empty
    (∀ k, k < 32 → (bayOf d k).prsnt = true → coreRuns d = true →
      let x := bayOf d k
      let y := { gateDown x with prsnt := false, attempts := 0 }
      Gives (.bayPrsntDeassert k) s (endStep7 (driveGone k (raiseBayChange k (setBay k
        (if x.state = .fetFailed then y else { y with state := .empty, cmdOff := false }) d)))))
    ∧ (coreRuns d = true → blocksOpen d = true → v.getLsbD 13 = false →
      (b.cmdOff = true → Gives (.bayCtrlOn v) s
        (setBay n { b with cmdOff := false, state := if b.state = .off then rest else b.state } d))
      ∧ (b.state = .latched ∨ b.state = .fetFailed → Gives (.bayCtrlOff v) s d)
      ∧ (b.state = .ramping ∨ b.state = .on → Gives (.bayCtrlOff v) s
        (endStep7 (driveGone n (setBay n { gateDown b with state := .off, cmdOff := true } d))))
      ∧ (b.state ∉ [.latched, .fetFailed, .ramping, .on] → Gives (.bayCtrlOff v) s
        (endStep7 (setBay n { gateDown b with state := .off, cmdOff := true } d)))
      ∧ ∀ vout, (b.state = .latched → Gives (.bayCtrlClear v vout) s (setBay n { b with state := .empty, attempts := 0 } d))
        ∧ (b.state = .fetFailed → vout ≤ 500 → Gives (.bayCtrlClear v vout) s (setBay n { b with vout := vout, state := rest, attempts := 0 } d))
        ∧ (b.state = .fetFailed → 500 < vout → Gives (.bayCtrlClear v vout) s
          (logEvent 0x0E 5 1 (payload n 0 0 0) (setBay n { b with vout := vout } d))))
    ∧ (∀ vout, blocksOpen d = false → Gives (.bayCtrlOn v) s d ∧ Gives (.bayCtrlOff v) s d ∧ Gives (.bayCtrlClear v vout) s d))

/-- The stop: what the device served is dropped without completion, writes begun are finished and no other, the event buffer is
flushed, and the stop marker gives the boot count, the last ESN and the STAGE pointer; the key store is zeroized. Before step 5 of
bring-up it writes nothing to the Tide Pool (15 R443). Then, 19 R524, the reset of the core keeps the contents of the Tide Pool, the
labels, the wrapped keys and the gates of the bays. PORST_N falling, FENCE_IN held, a monitor's trip, 105 °C and RESTART stop the
running device and reset the core; PFAIL_N stops it until PORST_N is asserted and released; without hold-up the stop may end early.
A release begins step 1 once nothing else holds the core: the time restarts, the straps are sampled, and an address on the chain is
kept. MHI_PERST_N resets the endpoint alone. Rests on 03 R89, 12 R375; 15 R442 step 1, 10 R313, 03 R90, 13 R411, 18 R501, 19 R521,
R524, R527. -/
def Obligations.ResetAndStops : Prop :=
  (∀ d : Dev,
    let e := stopDevice d
    e.host.ctrls = [] ∧ e.host.sqs = [] ∧ e.net.qps = [] ∧ e.adm = {} ∧ e.shelf.cmds = [] ∧ e.pool.waiting = []
    ∧ e.host.admissionOpen = false ∧ e.boot.serving = false ∧ e.mhi.mboxBusy = false
    ∧ (d.pool.state ∉ [.off, .failed, .stopped] → e.pool.state = .stopped ∧ e.ev.buffer = [] ∧ e.keys.kek = none ∧ e.keys.oldKeys = []
      ∧ e.ev.slots = d.ev.slots ++ d.ev.buffer.map some ∧ e.pool.pages = (finishWrites d).pool.pages
      ∧ e.pool.control = d.pool.control.map (fun c =>
          { c with stopMarker := some (c.bootCount, (d.ev.nextEsn.getD 1) - 1, d.pool.ptr), pointer := d.pool.ptr })
      ∧ ∀ n c, tget d.host.nss n = some c → tget e.host.nss n = some { c with keyAvailable := false })
    ∧ (d.pool.state = .off → e.pool.pages = d.pool.pages ∧ e.pool.control = d.pool.control ∧ e.pool.state = .off ∧ e.ev.slots = d.ev.slots)
    ∧ (let r := resetCore false d
      r.pool.pages = d.pool.pages ∧ r.pool.control = d.pool.control ∧ r.pool.state = .off ∧ r.ev.slots = d.ev.slots
      ∧ r.shelf.labels = d.shelf.onMembers ∧ r.keys.nsKeys = d.keys.nsKeys ∧ r.keys.kek = none ∧ r.chart = {} ∧ r.str.cached = []
      ∧ r.net.qps = [] ∧ r.mhi.inReset = true ∧ r.pair.epoch = d.pair.epoch ∧ r.boot.fuses = d.boot.fuses ∧ r.tline.addr = d.tline.addr
      ∧ ∀ n b, tget d.bay.bays n = some b → tget r.bay.bays n = some { b with perst := true }))
  ∧ (∀ s : State,
    let d := s.dev
    (coreRuns d = true → Gives .porstNAssert s (resetCore false { stopDevice d with boot.porstN := false })
      ∧ Gives .pfailNFall s { stopDevice { d with boot.pfailN := false } with boot.pfailStopped := true }
      ∧ (d.boot.fenceHold = false → Gives .fenceInHold s (resetCore false { stopDevice d with boot.fenceHold := true }))
      ∧ (∀ t, 105 ≤ t → Gives (.junctionLimit t) s
          (resetCore false { stopDevice (logEvent 0 4 2 (payload 0 0 t.toNat 0) { d with mhi.temp := t }) with boot.junctionHold := true }))
      ∧ (∀ x : RailTrip, x.rail < vddIo → Gives (.railMonitorTrip x) s
          (resetCore false { abruptStop d with boot.junctionHold := true, boot.torn := x.torn, boot.railsLow := [x.rail] }))
      ∧ Gives .thermalTrip s { abruptStop d with boot.clocksStopped := true, boot.junctionHold := true }
      ∧ (∀ v : Reg, d.mhi.inReset = false → bits v.toNat 15 8 = 0xA5 → Gives (.globalResetRestart v) s
          (beginStart (resetCore true (stopDevice d)))))
    ∧ (∀ v : Reg, bits v.toNat 15 8 ≠ 0xA5 → Gives (.globalResetRestart v) s d)
    ∧ Gives .pfailNRise s { d with boot.pfailN := true }
    ∧ (coreRuns d = false → Gives .pfailNFall s { d with boot.pfailN := false })
    ∧ (∀ x, d.boot.porstN = false → Gives (.porstNRelease x) s
        (beginStart { d with boot.porstN := true, boot.straps := x, boot.junctionHold := false }))
    ∧ (∀ x, (d.boot.fenceHold = true → Gives (.fenceInRelease x) s (beginStart { d with boot.fenceHold := false }))
      ∧ (d.boot.fenceHold = false → Gives (.fenceInRelease x) s d))
    ∧ (∀ r, r ∈ d.boot.railsLow → r < vddIo → Gives (.railMonitorRelease r) s
        (beginStart { d with boot.railsLow := d.boot.railsLow.filter (fun x => x != r) }))
    ∧ Gives .mhiPerstNAssert s { d with mhi.perstN := false, mhi.inReset := true, mhi.msixTable := [], mhi.msixPending := 0 }
    ∧ Gives .mhiPerstNRelease s { d with mhi.perstN := true, mhi.inReset := coreHeld d }
    ∧ (coreHeld d = true → beginStart d = d)
    ∧ (coreHeld d = false → let e := beginStart d
        e.boot.step = 1 ∧ e.boot.code = 0 ∧ e.clk = {} ∧ e.pair.side = b2n d.boot.straps.pairSide ∧ e.boot.clocksStopped = false
        ∧ (d.boot.straps.tliHead = true → e.tline.addr = some 0)
        ∧ (d.boot.straps.tliHead = false → e.tline.addr = d.tline.addr)))

/-- Each step ends in the next, or in its code: no usable flash 1, no firmware 2, no Chart 4, two failed trainings 5, a pool whose
control block does not decode 6. Step 4 needs a Chart and step 5 PFAIL_N high; step 6 lasts until the address is settled or 2 s have
passed. Step 8 takes the labels, assembles, registers on every member and sends HELLO on entry to step 9; while a Shoal cannot
assemble the code is 8, and assembly is tried again. At step 10 admission opens, the boot record notes the slot with no attempt, and
the links that train come up; without a KEK the network stays down with code 7. Rests on 15 R442 steps 2 to 6, R443, R444, R449, 02
R48, R49; 15 R442 steps 8 and 10, R443, R445, R447, 13 R393, R396. -/
def Obligations.BringUpSteps : Prop :=
  (∀ s : State,
    let d := s.dev
    let flash := fun a b => { d with boot.flash0 := flashFound d.boot.straps.flashMode a, boot.flash1 := flashFound d.boot.straps.flashMode b }
    coreRuns d = true →
    (∀ a b, d.boot.code = 0 → d.boot.step ≤ 2 → (flashFound d.boot.straps.flashMode a).qualifies = true → b.present = false →
      Gives (.sfdpRead a b) s (setStep 3 (flash a b)))
    ∧ (∀ a b, d.boot.code = 0 → d.boot.step = 2 → a.present = false → b.present = false →
      Gives (.sfdpRead a b) s (bringupFail 1 (flash a b)))
    ∧ (d.boot.code = 0 → d.boot.step = 3 → runSlot (flashRepair d) s.mem = none →
      Gives .firmwareLoad s (bringupFail 2 { flashRepair d with boot.romRecovery := true }))
    ∧ (∀ k, d.boot.code = 0 → d.boot.step = 3 → runSlot (flashRepair d) s.mem = some k →
        let r := flashRepair d
        let e := if k = firstSlot r then r else logEvent 0 3 1 (payload k 0 0 0) { r with boot.code := 3 }
        let i := fwImage r s.mem k
        let e' := { e with boot.fwSlot := k, boot.fwSvn := i 0x14, mhi.fwVersion := fwVersionOf i, mhi.mboxReady := true }
        let f := countAttempt k { e' with net.addrs := r.net.persisted.map (fun a => (a.1, { rec_ := a.2, link := a.2.home })) }
        let g := flashBlob f.keys.blob1 (flashBlob f.keys.blob0 (chooseChart f s.mem))
        Gives .firmwareLoad s (setStep 4 { g with mhi.restarting := false }))
    ∧ (∀ p, p = preferredSlot d s.mem →
        let seen := noteSlot (1 - p) (slotChart d s.mem (1 - p)) (noteSlot p (slotChart d s.mem p) d)
        (∀ c, slotChart d s.mem p = .ok c →
          chooseChart d s.mem = chartBegins c { seen with chart.runSlot := p, chart.fallback := false })
        ∧ (∀ e c, slotChart d s.mem p = .error e → slotChart d s.mem (1 - p) = .ok c →
          chooseChart d s.mem = chartBegins c { seen with chart.runSlot := 1 - p, chart.fallback := true })
        ∧ (∀ e e', slotChart d s.mem p = .error e → slotChart d s.mem (1 - p) = .error e' →
          chooseChart d s.mem = bringupFail 4 (chartError e seen)))
    ∧ (d.boot.step = 4 → d.chart.inForce.isSome = true → d.boot.code ≠ 5 → Gives (.hbmTrain true true) s (setStep 5 d)
      ∧ (∀ a b, (a && b) = false → d.boot.hbmFails = 0 → Gives (.hbmTrain a b) s { d with boot.hbmFails := 1 })
      ∧ (∀ a b, (a && b) = false → d.boot.hbmFails = 1 → Gives (.hbmTrain a b) s (bringupFail 5 { d with boot.hbmFails := 2 })))
    ∧ (d.chart.inForce = none → Gives (.hbmTrain true true) s d)
    ∧ (∀ fs, d.boot.step = 5 → d.boot.pfailN = true → d.pool.state = .off → let e := recoverPool fs d
        (e.pool.state = .failed → Gives (.poolRecovery fs) s (bringupFail 6 e))
        ∧ (e.pool.state ≠ .failed → Gives (.poolRecovery fs) s (setStep 6 (keysMissing (judgeFloors (resumeAsns e))))))
    ∧ (∀ fs, d.boot.pfailN = false → Gives (.poolRecovery fs) s d)
    ∧ (d.boot.step = 6 → d.tline.settled = true ∧ d.tline.addr.isSome = true → Gives (.tidelineWait false) s (setStep 7 d))
    ∧ (d.boot.step = 6 → d.tline.addr = none → Gives (.tidelineWait true) s (setStep 7 (logEvent 0x11 1 1 (payload 0 0 0 0) d)))
    ∧ (d.tline.settled = false → Gives (.tidelineWait false) s d))
  ∧ (∀ s : State,
    let d := s.dev
    let found := fun (ps : List DriveProbe) (r : Option ShelfRecord) (x : Dev) =>
      { assembleAll ps x with pair.record := if r.isSome then r else d.pair.record }
    let whole := fun (x : Dev) => x.str.shoals.all (fun e => e.2.assembled)
    coreRuns d = true →
    (∀ ps r, d.boot.step = 8 →
      let e := found ps r (takeShelfId (labelsOf ps) d)
      e.boot.code ≠ 8 →
      (whole e = true → Gives (.shoalAssembly ps r) s (sendHello (setStep 9 (registerAll e)) s.mem))
      ∧ (whole e = false → Gives (.shoalAssembly ps r) s (sendHello (setStep 9 (bringupFail 8 e)) s.mem)))
    ∧ (∀ ps r, d.boot.step = 9 → d.boot.code = 8 → d.pair.shelfId ≠ 0 →
      let e := found ps r d
      e.boot.code = 8 →
      (whole e = true → Gives (.shoalAssembly ps r) s (registerAll (judgeAlert { e with boot.code := 0 })))
      ∧ (whole e = false → Gives (.shoalAssembly ps r) s e))
    ∧ (d.boot.step = 10 → d.host.admissionOpen = false →
      (∀ ls, d.keys.kek = none → d.boot.code = 0 ∨ d.boot.code = 3 → Gives (.openAdmission ls) s (bringupFail 7 d))
      ∧ (∀ ls, d.keys.kek.isSome = true →
        let e := writeBoot d.boot.fwSlot 0 d.boot.fwSlot { d with host.admissionOpen := true, boot.serving := true, host.anaChange := false }
        let f := judgeService (raiseGlobal 3 (ls.foldl (fun a l => netLinkUp l a) e))
        Gives (.openAdmission ls) s (if f.pair.role = .active ∨ f.pair.role = .solo then resumeWork f else f)))
    ∧ (∀ ls, d.boot.step ≠ 10 → Gives (.openAdmission ls) s d))

/-- A write of STAGE in IDLE starts validation and clears ERR; while the engine is not IDLE, with no running Chart, on the
STANDBY side, in a mixed pair or beside another request bit it is ignored and sets ERR 0x0B. While no role swap waits for the
engine, validation ends in STAGED with the shadow values and DONE, or in IDLE with its ERR code, and DISCARD drops a staged
patch; in another state it is ignored with ERR 0x0B. A write of the staged SEQUENCE to CHART_COMMIT, and an accepted STORE,
erase the slot that does not hold the running Chart and leave every other byte of memory as it is: the slot is not valid until
its read-back ends. A CHART_COMMIT outside STAGED sets ERR 0x0B, another value ERR 0x0C; a commit while the partner is still to
stage waits. Rests on 02 R52, R53, R60, R63; 02 R52, R53, R56, R57. -/
def Obligations.ChartStaging : Prop :=
  (∀ (s : State) (v : Reg), blocksOpen s.dev = true →
    let d := s.dev
    let noErr := { d with chart.err := 0, chart.errSection := 0, chart.errField := 0, chart.errOffset := 0 }
    let refused := raiseChart 1 { noErr with chart.err := 0x0B }
    (chartCtrlBad (v ||| 1#32) = false → d.chart.state = .idle → d.chart.inForce.isSome = true → d.pair.role ≠ .standby →
      d.pair.mixed = false → ¬ (d.pair.role = .active ∧ d.pair.partner = 2) →
      Gives (.chartCtrlStage v) s { noErr with chart.state := .checking, chart.storing := false, chart.partnerStaged := false,
                                               chart.commitWaits := false, chart.imageLen := d.chart.stageLen,
                                               chart.partnerHeld := false })
    ∧ (chartCtrlBad (v ||| 1#32) = false → d.chart.state = .idle → d.chart.inForce.isSome = true → d.pair.role = .active →
      d.pair.mixed = false → Leads (.chartCtrlStage v) s (fun t => t.dev.chart.state = .checking
        ∧ t.dev.chart.imageLen = d.chart.stageLen ∧ t.mem = s.mem ∧ t.pending = s.pending))
    ∧ (chartCtrlBad (v ||| 1#32) = true ∨ d.chart.state ≠ .idle ∨ d.chart.inForce = none ∨ d.pair.role = .standby ∨ d.pair.mixed = true →
      Gives (.chartCtrlStage v) s refused)
    ∧ (∀ c, d.chart.state = .checking → checkLive d s.mem (imgAt s.mem 0x4000000000) d.chart.imageLen = .ok c →
      Gives (.chartCheckDone none) s
        (raiseChart 0 { d with chart.shadow := some c, chart.stageSeq := c.sequence, chart.state := .staged }))
    ∧ (∀ e p, d.chart.state = .checking → d.clk.swapWaiting = false →
      checkLive d s.mem (imgAt s.mem 0x4000000000) d.chart.imageLen = .error e →
      Leads (.chartCheckDone p) s (fun t => t.dev.chart.state = .idle ∧ t.dev.chart.shadow = none ∧ t.dev.chart.err = e.code
        ∧ t.dev.chart.errSection = e.section_ ∧ t.dev.chart.errField = e.field ∧ t.dev.chart.errOffset = e.offset
        ∧ t.dev.chart.int.getLsbD 1 = true ∧ t.dev.chart.inForce = d.chart.inForce ∧ Only [.chart, .mhi, .out] s t))
    ∧ (chartCtrlBad (v ||| 4#32) = false → d.chart.state = .staged → d.clk.swapWaiting = false →
      Gives (.chartCtrlDiscard v) s { noErr with chart.shadow := none, chart.state := .idle, chart.partnerStaged := false,
                                                 chart.commitWaits := false, chart.stageSeq := 0, chart.partnerImage := [],
                                                 chart.partnerHeld := false, chart.adopt := 0 })
    ∧ (chartCtrlBad (v ||| 4#32) = true ∨ d.chart.state ≠ .staged → d.clk.swapWaiting = false →
      Gives (.chartCtrlDiscard v) s refused))
  ∧ (∀ (s : State) (v : Reg), blocksOpen s.dev = true → s.dev.chart.inForce.isSome = true →
    let d := s.dev
    let k := 1 - d.chart.runSlot
    let erased := mclear s.mem (chartAddr d k) 0x400000
    let refused := fun (code : Nat) => raiseChart 1
      { d with chart.err := code, chart.errSection := 0, chart.errField := 0, chart.errOffset := 0 }
    (d.chart.state = .staged → v.toNat = d.chart.stageSeq → d.pair.partner = 0 →
      exec (.chartCommit v) s = .next { s with dev := setSlot k false 0 { d with chart.state := .writing, chart.commitWaits := false },
                                               mem := erased })
    ∧ (d.chart.state = .staged → v.toNat = d.chart.stageSeq → d.pair.partner = 1 ∨ (d.pair.role = .active ∧ d.pair.partner = 2) →
      d.chart.partnerStaged = false → Gives (.chartCommit v) s { d with chart.commitWaits := true })
    ∧ (d.chart.state = .staged → v.toNat ≠ d.chart.stageSeq → Gives (.chartCommit v) s (refused 0x0C))
    ∧ (d.chart.state ≠ .staged → Gives (.chartCommit v) s (refused 0x0B))
    ∧ (∀ c, chartCtrlBad (v ||| 2#32) = false → d.chart.state = .idle →
      validate (imgAt s.mem 0x4000000000) (stagedEnv d d.chart.stageLen) = .ok c → d.chart.runSeq < c.sequence →
      exec (.chartCtrlStore v) s = .next { s with
        dev := setSlot k false 0 { d with chart.storing := true, chart.err := 0, chart.errSection := 0, chart.errField := 0,
                                          chart.errOffset := 0, chart.stageSeq := c.sequence, chart.state := .writing,
                                          chart.imageLen := d.chart.stageLen, chart.partnerHeld := false }
        mem := erased })
    ∧ (chartCtrlBad (v ||| 2#32) = true ∨ d.chart.state ≠ .idle → Gives (.chartCtrlStore v) s (refused 0x0B))
    ∧ (∀ x : Dev, (setSlot 0 false 0 x).chart.slot0Valid = false ∧ (setSlot 0 false 0 x).chart.slot0Seq = 0xFFFFFFFF
      ∧ (setSlot 1 false 0 x).chart.slot1Valid = false ∧ (setSlot 1 false 0 x).chart.slot1Seq = 0xFFFFFFFF))

/-- While no role swap waits for the engine: when the read-back ends well, the slot holds the staging buffer's image and nothing
else, byte for byte, and is valid; after a STORE the engine is IDLE with DONE, after a commit of an unpaired device it is
SWITCHING with every changed group waiting for its epoch. When it fails, the running Chart stays, ERR is 0x0D, the state IDLE,
and the slot invalid. A waiting group switches at an epoch advance once fewer than four epochs are live: the Chart in force
takes that group's fields and no other, and the group is no longer left. A pair's switch begins at the named instant. When no
group is left the image runs: CHART_RUN_SEQ is its SEQUENCE, its slot the running one, the state IDLE, with DONE and an INFO
event. Rests on 02 R52, R56; 02 R52, R54, R57, 09 R306. -/
def Obligations.ChartSwitch : Prop :=
  (∀ (s : State), s.dev.chart.inForce.isSome = true → s.dev.chart.state = .writing →
    s.dev.chart.adopt = 0 → s.dev.pair.partner = 0 → s.dev.pair.role ≠ .standby → s.dev.clk.swapWaiting = false →
    let d := s.dev
    let k := 1 - d.chart.runSlot
    let image := if d.chart.partnerHeld then d.chart.partnerImage else mgets s.mem 0x4000000000 d.chart.imageLen
    let written := mputs (mclear s.mem (chartAddr d k) 0x400000) (chartAddr d k) image
    let valid := setSlot k true (leNum ((image.drop 0x10).take 4)) d
    (d.chart.storing = true → exec (.chartStoreDone true) s = .next { s with
        dev := raiseChart 0 { valid with chart.state := .idle, chart.storing := false, chart.adopt := 0, chart.partnerImage := [],
                                         chart.partnerHeld := false }
        mem := written })
    ∧ (∀ n, d.chart.storing = false → d.chart.shadow = some n →
      let own := ownRecords (chartOf d) n
      exec (.chartReadbackDone true) s = .next { s with
        dev := { valid with chart.state := .switching, chart.inForce := some own, chart.groupsLeft := changedGroups own n,
                            chart.pairWait := false, prism.changes := d.prism.changes ++ (changedGroups own n).map .group }
        mem := written })
    ∧ (∀ c, (c = .chartStoreDone false ∧ d.chart.storing = true) ∨ (c = .chartReadbackDone false ∧ d.chart.storing = false) →
      Leads c s (fun t => t.dev.chart.state = .idle ∧ t.dev.chart.err = 0x0D ∧ t.dev.chart.int.getLsbD 1 = true
        ∧ t.dev.chart.inForce = d.chart.inForce ∧ t.dev.chart.runSlot = d.chart.runSlot
        ∧ (k = 0 → t.dev.chart.slot0Valid = false) ∧ (k = 1 → t.dev.chart.slot1Valid = false)
        ∧ t.mem = mclear s.mem (chartAddr d k) 0x400000 ∧ t.pending = s.pending)))
  ∧ (∀ (s : State) (n : Chart), s.dev.chart.shadow = some n →
    let d := s.dev
    (∀ g rest, d.prism.changes = .group g :: rest → liveEpochs d < 4 →
      let next := { d with prism.changes := rest, prism.epoch := d.prism.epoch + 1 }
      let e := { next with prism.versions := (d.prism.versions ++ [(TableChange.group g, d.prism.epoch + 1)]).filter (fun v => olderLive next v.2),
                           chart.inForce := some (switchFields g n (chartOf d)), chart.groupsLeft := d.chart.groupsLeft.erase g }
      (g ∈ [.fabricClasses, .eventClasses, .rampConcurrency, .pairPolicy, .storageTiming]
          ∨ (∃ k, g = .coveAttributes k ∨ g = .portClasses k ∨ g = .bayLimits k) → Gives .tableEpochAdvance s e)
      ∧ (g = .lighthousePolicy → Gives .tableEpochAdvance s (aroundAll e))
      ∧ (∀ p, g = .gateList p → Gives .tableEpochAdvance s
          { e with sched.gates := tput d.sched.gates p { gatesOf d p with waiting := some (gatesIn n p) } }))
    ∧ (d.prism.changes = [] ∨ 4 ≤ liveEpochs d → Gives .tableEpochAdvance s d)
    ∧ (d.chart.state = .switching → d.chart.pairWait = true →
      let own := ownRecords (chartOf d) n
      Gives .chartPairSwitch s { d with chart.inForce := some own, chart.groupsLeft := changedGroups own n, chart.pairWait := false,
                                        prism.changes := d.prism.changes ++ (changedGroups own n).map .group })
    ∧ (d.chart.state ≠ .switching ∨ d.chart.pairWait = false → Gives .chartPairSwitch s d)
    ∧ (d.chart.state = .switching → d.chart.pairWait = false → d.chart.groupsLeft = [] → d.chart.adopt ≠ 1 →
      d.clk.swapWaiting = false → Leads .chartSwitchDone s (fun t => t.dev.chart.inForce = some n ∧ t.dev.chart.shadow = none
        ∧ t.dev.chart.state = .idle ∧ t.dev.chart.runSeq = n.sequence ∧ t.dev.chart.runSlot = 1 - d.chart.runSlot
        ∧ t.dev.chart.int.getLsbD 0 = true ∧ t.mem = s.mem ∧ t.pending = s.pending)))

/-- A Cove is created under a number and an NQN that are free, within the floors, and is ACTIVE; its deletion ends its associations
and, once nothing is in flight and no credit is held, removes its bindings, attachments and key slots. Cove 0 is neither. A binding
changes later Connects only. These are refused on a side that does not serve. Rests on 11 R339, R341, R343, R344, R346, 02 R36, 13
R404, 18 R505. -/
def Obligations.CovesDefined : Prop := ∀ (s : State) (c : Nat),
  let d := s.dev
  let e := { d with mhi.mboxRefused := false, mhi.mboxBusy := true, mhi.mboxPending := false,
                    mhi.mboxRoom := if d.mhi.mboxPending then d.mhi.mboxRoom else none }
  let ended := fun (st : Nat) => mboxDone { status := st } e
  (d.mhi.mboxReady = true → d.mhi.mboxBusy = false ∨ d.mhi.mboxPending = true →
    (serves d = false → (∀ n, Runs (.mboxCoveCreate c n) s (ended 3)) ∧ Runs (.mboxCoveDelete c) s (ended 3) ∧ (∀ b, Runs (.mboxBindSet c b) s (ended 3)) ∧ Runs (.mboxBindClear c) s (ended 3))
    ∧ (serves d = true →
      (∀ n : List Byte, (c = 0 ∨ 4096 ≤ c ∨ n = [] ∨ 223 < n.length → Runs (.mboxCoveCreate c n) s (ended 2))
        ∧ (c ≠ 0 → c < 4096 → n ≠ [] → n.length ≤ 223 →
          (thas d.cove.tab c = true ∨ (coveOfNqn d n).isSome = true → Runs (.mboxCoveCreate c n) s (ended 4))
          ∧ (thas d.cove.tab c = false → coveOfNqn d n = none →
            (floorsBroken d c = true → Runs (.mboxCoveCreate c n) s (ended 6))
            ∧ (floorsBroken d c = false → Runs (.mboxCoveCreate c n) s (mboxDone { status := 0 } (mirrorCove c (bornCove c { nqn := n } e)))))))
      ∧ (coveOf d c = none → Runs (.mboxCoveDelete c) s (ended 5))
      ∧ (∀ r, coveOf d c = some r →
        (c = 0 ∨ r.state = .deleting → Runs (.mboxCoveDelete c) s (ended 3))
        ∧ (c ≠ 0 → r.state ≠ .deleting → let x := { e with host.waits := d.host.waits ++ [{ cntlid := 0, cid := 0, kind := 7, subject := c }] }
          (r.state = .resetting → Runs (.mboxCoveDelete c) s x) ∧ (r.state ≠ .resetting → Runs (.mboxCoveDelete c) s (startDelete c x))))
      ∧ (∀ b : Binding, let same := d.cove.bindings.filter (fun y => y.1 != c && y.2.valid && y.2.cove == b.cove)
        (4096 ≤ b.cove ∨ 255 < b.maxAssoc ∨ (16384 ≤ c ∧ c ≠ 0xFFFFFFFF) → Runs (.mboxBindSet c b) s (ended 2))
        ∧ (b.cove < 4096 → b.maxAssoc ≤ 255 → c < 16384 →
          (thas d.cove.tab b.cove = false → Runs (.mboxBindSet c b) s (ended 5))
          ∧ (thas d.cove.tab b.cove = true →
            (b.valid = true → (same.any (fun y => y.2.anyHost && b.anyHost || !y.2.anyHost && !b.anyHost && y.2.hostid == b.hostid)) = true →
              Runs (.mboxBindSet c b) s (ended 4))
            ∧ (same = [] → tget d.cove.bindings c = none → Runs (.mboxBindSet c b) s (mboxDone { status := 0, dw0 := c }
                (mirrorBinding c (let x := detachBinding c e
                  { x with cove.bindings := tput d.cove.bindings c { b with assoc := 0 } })))))))
      ∧ (16384 ≤ c → Runs (.mboxBindClear c) s (ended 2)) ∧ (c < 16384 → thas d.cove.bindings c = false → Runs (.mboxBindClear c) s (ended 5))
      ∧ (c < 16384 → thas d.cove.bindings c = true → Runs (.mboxBindClear c) s (mboxDone { status := 0, dw0 := c }
          (mirrorBinding c (detachBinding c { e with cove.bindings := terase d.cove.bindings c }))))))
  ∧ (∀ r x, coveOf (bornCove c r x) c = some r)
  ∧ (∀ r, coveOf d c = some r →
    (r.state ≠ .deleting ∨ deleteReady d c = false → Runs (.coveDeleteDrained c) s d)
    ∧ (r.state = .deleting → deleteReady d c = true →
      let x := destroySlots c { d with
        cove.bindings := d.cove.bindings.filter (fun b => b.2.cove != c), pool.held := terase d.pool.held c
        host.nss := tall d.host.nss (fun n => { n with coves := n.coves.filter (fun z => z != c) })
        prism.changes := d.prism.changes ++ (coveNamespaces d c).map TableChange.nsmap }
      let y := ((d.cove.bindings.filter (fun b => b.2.cove == c)).map (·.1)).foldl (fun a i => mirrorBinding i a)
        (mirrorCove c (judgeFloors { x with cove.tab := terase x.cove.tab c }))
      ((y.host.waits.any (fun w => w.kind == 7 && w.subject == c)) = true → Runs (.coveDeleteDrained c) s
          (mboxDone { status := 0 } { y with host.waits := y.host.waits.filter (fun w => !(w.kind == 7 && w.subject == c)) }))
      ∧ ((y.host.waits.any (fun w => w.kind == 7 && w.subject == c)) = false → Runs (.coveDeleteDrained c) s y)))
  ∧ (coveOf d c = none → Runs (.coveDeleteDrained c) s d)

/-- A Connect needs a queue pair that is connected and carries no queue. On an admin queue the checks fail in their order: the NQN,
the Cove's state, the binding, MAX_ASSOC, a free controller ID, the queue limits; the controller then counts under its binding. An
I/O queue belongs to its association's Cove, and only the limits can refuse it. Rests on 11 R339, R342, R345, R347, 07 R202, R203,
log entry 17. -/
def Obligations.HostsConnect : Prop := ∀ (s : State) (x : ConnectArgs),
  let d := s.dev
  let failed := fun (sc : Nat) (e : Dev) => netSend x.qpn (.completion x.cid (cmdSpec sc) 0) (complete 0 x.qid x.cid (cmdSpec sc) 0 e)
  (qpOf d x.qpn = none → Gives (.connect x) s d)
  ∧ (∀ q, qpOf d x.qpn = some q →
    (q.error = true ∨ q.connected = false ∨ q.cntlid ≠ 0 → Gives (.connect x) s d)
    ∧ (q.error = false → q.connected = true → q.cntlid = 0 →
      (x.qid = 0 →
        (coveOfNqn d x.subnqn = none → Gives (.connect x) s (failed 0x82 d))
        ∧ ∀ c r, coveOfNqn d x.subnqn = some c → coveOf d c = some r →
          (r.state = .resetting → Gives (.connect x) s (failed 0x81 (coveCount c 14 1 d)))
          ∧ (r.state = .deleting ∨ r.state = .free → Gives (.connect x) s (failed 0x82 (coveCount c 14 1 d)))
          ∧ (r.state = .active ∨ r.state = .frozen →
            (bindingFor d c x.hostid = none → Gives (.connect x) s (failed 0x84 (coveCount c 14 1 d)))
            ∧ ∀ i b, bindingFor d c x.hostid = some (i, b) →
              (b.maxAssoc ≠ 0 → b.maxAssoc ≤ b.assoc → Gives (.connect x) s (failed 0x82 (coveCount c 14 1 d)))
              ∧ (b.maxAssoc = 0 ∨ b.assoc < b.maxAssoc →
                (tfree d.host.ctrls 1 65519 = none → Gives (.connect x) s (failed 0x82 (coveCount c 14 1 d)))
                ∧ ∀ k, tfree d.host.ctrls 1 65519 = some k →
                  (queueFits d c q (x.sqsize + 1) true = false → Gives (.connect x) s (failed 0x82 (coveCount c 14 1 d)))
                  ∧ (x.cntlid = 0xFFFF → queueFits d c q (x.sqsize + 1) true = true →
                    let e := { d with
                      host.ctrls := tput d.host.ctrls k { cove := c, hostid := x.hostid, adminQpn := x.qpn, adminSize := x.sqsize + 1, binding := i
                                                          hostnqn := x.hostnqn, kato := (x.kato + 99) / 100 * 100 }
                      cove.bindings := tmod d.cove.bindings i (fun y => { y with assoc := y.assoc + 1 })
                      net.qps := tmod d.net.qps x.qpn (fun w => { w with cntlid := k, sqid := 0, cove := c })
                      prism.changes := d.prism.changes ++ [.qpmap x.qpn] }
                    Gives (.connect x) s (answerAdmin k x.cid ok k (coveCount c 13 1 e))))))
      ∧ (x.qid ≠ 0 →
        (ctrlOf d x.cntlid = none → Gives (.connect x) s (failed 0x82 d))
        ∧ ∀ k, ctrlOf d x.cntlid = some k →
          (k.ended = true ∨ k.enabled = false ∨ thas d.host.sqs (sqKey x.cntlid x.qid) = true ∨ queueFits d k.cove q (x.sqsize + 1) false = false →
            Gives (.connect x) s (failed 0x82 (coveCount k.cove 14 1 d)))
          ∧ (k.ended = false → k.enabled = true → k.shst = 0 → thas d.host.sqs (sqKey x.cntlid x.qid) = false →
            queueFits d k.cove q (x.sqsize + 1) false = true →
            let e := { d with
              host.sqs := tput d.host.sqs (sqKey x.cntlid x.qid) { qpn := x.qpn, size := x.sqsize + 1 }
              net.qps := tmod d.net.qps x.qpn (fun w => { w with cntlid := x.cntlid, sqid := x.qid, cove := k.cove })
              prism.changes := d.prism.changes ++ [.qpmap x.qpn] }
            Gives (.connect x) s (answer x.cntlid x.qid x.cid ok x.cntlid (coveCount k.cove 13 1 e))))))
  ∧ (∀ c q n a, queueFits d c q n a = true → 2 ≤ n ∧ n ≤ 1024 ∧ coveQps d c + (if q.spray then 8 else 1) ≤ (coveCfg d c).qpQuota)

/-- Freeze and thaw, by COVE_CTRL and by Set Features C1h, in each state of the Cove: a write with another request set is ignored,
one that the state does not allow logs a WARN event, and the command then is a Command Sequence Error. A Cove is FROZEN once nothing
it admitted is left; a thaw resumes admission in queue order. Rests on 11 R342, R350, R352, R355, 07 R222. -/
def Obligations.CovesFreeze : Prop := ∀ (s : State) (c n cid : Nat) (k : Ctrl) (r : CoveRec),
  let d := s.dev
  let freezing := fun (z : Nat) => modCove c (fun x => { x with freezing := some z }) d
  c < 4096 → coveOf d c = some r → blocksOpen d = true → n ≠ 0 → ctrlOf d n = some k → k.enabled = true → k.ended = false →
  (∀ v : Reg, v.getLsbD 0 = true ∨ v.getLsbD 3 = true ∨ v.getLsbD 4 = true → Runs (.coveCtrlFreeze c v) s d)
  ∧ (r.state = .active → r.freezing = none → Runs (.coveCtrlFreeze c 4) s (freezing 0))
  ∧ (r.state = .active → r.freezing.isSome = true → Runs (.coveCtrlFreeze c 4) s (joinFreeze c d))
  ∧ (r.state = .frozen → Runs (.coveCtrlFreeze c 4) s (raiseCove c 0 d))
  ∧ (r.state = .resetting ∨ r.state = .deleting → Runs (.coveCtrlFreeze c 4) s (refuseControl c d) ∧ Runs (.coveCtrlThaw c 8) s (refuseControl c d))
  ∧ (r.state = .active ∨ r.state = .frozen → Runs (.coveCtrlThaw c 8) s (thawCove c d))
  ∧ (k.cove ≠ 0 → Runs (.coveControlFreeze n cid c) s (answerAdmin n cid (gen 0x02) 0 d) ∧ Runs (.coveControlThaw n cid c) s (answerAdmin n cid (gen 0x02) 0 d)
      ∧ Runs (.getFeaturesCoveControl n cid c) s (answerAdmin n cid (gen 0x02) 0 d))
  ∧ (k.cove = 0 →
    (r.state = .active → r.freezing = none → Runs (.coveControlFreeze n cid c) s (waitFor n cid 3 c 0 (freezing 1)))
    ∧ (r.state = .active → r.freezing.isSome = true → Runs (.coveControlFreeze n cid c) s (waitFor n cid 3 c 0 (joinFreeze c d)))
    ∧ (r.state = .frozen → Runs (.coveControlFreeze n cid c) s (raiseCove c 0 (answerAdmin n cid ok 0 d)))
    ∧ (r.state = .resetting ∨ r.state = .deleting → Runs (.coveControlFreeze n cid c) s (answerAdmin n cid (gen 0x0C) 0 d)
      ∧ Runs (.coveControlThaw n cid c) s (answerAdmin n cid (gen 0x0C) 0 d))
    ∧ (r.state = .active ∨ r.state = .frozen → Runs (.coveControlThaw n cid c) s (answerAdmin n cid ok 0 (thawCove c d)))
    ∧ Runs (.getFeaturesCoveControl n cid c) s (answerAdmin n cid ok (coveStateNum r.state + 256 * r.gen) d))
  ∧ (r.state ≠ .active ∨ r.freezing = none ∨ coveLive d c ≠ 0 → Runs (.coveFrozen c) s d)
  ∧ (∀ z, r.state = .active → r.freezing = some z → coveLive d c = 0 → r.resetWaits = none →
      let e := mirrorCove c (modCove c (fun x => { x with state := .frozen, freezing := none }) d)
      Runs (.coveFrozen c) s (answerWaits 3 c ok (if z = 2 then e else raiseCove c 0 e)))
  ∧ (r.state = .active → r.freezing = none → r.resetWaits = none → r.exporting = false →
      d.host.waits.any (fun w => w.kind == 6 && w.subject == c) = false → thawCove c d = resumeCove c (raiseCove c 0 (modCove c (fun x => { x with state := .active, resetWaits := none }) d)))

/-- A reset, by COVE_CTRL or by Set Features C1h, runs on an ACTIVE or FROZEN Cove, waits for a freeze under way, and is refused in
the other states; Cove 0 is reset by its page only. Once its writes are terminal it completes the reads and the capsules held with
83h, or ends the associations, and counts GEN; it ends with nothing in flight. Rests on 11 R343, R350, R352, R353, R355. -/
def Obligations.CovesReset : Prop := ∀ (s : State) (c n cid : Nat) (k : Ctrl) (r : CoveRec),
  let d := s.dev
  let waits := modCove c (fun x => { x with resetWaits := some false }) d
  c < 4096 → coveOf d c = some r → blocksOpen d = true → n ≠ 0 → ctrlOf d n = some k → k.enabled = true → k.ended = false →
  (r.state = .active → r.freezing = none → Runs (.coveCtrlReset c 1) s (startReset c false d) ∧ Runs (.coveCtrlReset c 3) s (startReset c true d))
  ∧ (r.state = .active → r.freezing.isSome = true → Runs (.coveCtrlReset c 1) s waits)
  ∧ (r.state = .frozen → Runs (.coveCtrlReset c 1) s (startReset c false d))
  ∧ (r.state = .resetting ∨ r.state = .deleting → Runs (.coveCtrlReset c 1) s (refuseControl c d))
  ∧ (∀ v : Reg, v.getLsbD 2 = true ∨ v.getLsbD 3 = true ∨ v.getLsbD 4 = true → Runs (.coveCtrlReset c v) s d)
  ∧ (k.cove ≠ 0 ∨ c = 0 → Runs (.coveControlReset n cid c) s (answerAdmin n cid (gen 0x02) 0 d)
      ∧ Runs (.coveControlResetEnd n cid c) s (answerAdmin n cid (gen 0x02) 0 d))
  ∧ (k.cove = 0 → c ≠ 0 →
    (r.state = .frozen ∨ (r.state = .active ∧ r.freezing = none) → Runs (.coveControlReset n cid c) s (waitFor n cid 4 c 0 (startReset c false d))
      ∧ Runs (.coveControlResetEnd n cid c) s (waitFor n cid 4 c 0 (startReset c true d)))
    ∧ (r.state = .active → r.freezing.isSome = true → Runs (.coveControlReset n cid c) s (waitFor n cid 4 c 0 waits))
    ∧ (r.state = .resetting ∨ r.state = .deleting → Runs (.coveControlReset n cid c) s (answerAdmin n cid (gen 0x0C) 0 d)
      ∧ Runs (.coveControlResetEnd n cid c) s (answerAdmin n cid (gen 0x0C) 0 d)))
  ∧ (let w := d.adm.cmds.any (fun e => e.2.cove == c && isWrite e.2.kind && !e.2.completed)
    (r.state ≠ .resetting ∨ r.squashed = true ∨ w = true → Gives (.coveResetWritesDrained c) s d)
    ∧ (r.state = .resetting → r.squashed = false → w = false → r.resetEnds = true → Gives (.coveResetWritesDrained c) s
        (modCove c (fun x => { x with squashed := true, gen := (x.gen + 1) % 256 }) ((ctrlsOfCove d c).foldl (fun a y => endAssociation y a) d)))
    ∧ (r.state = .resetting → r.squashed = false → w = false → r.resetEnds = false → allSqs d = [] → d.adm.cmds = [] →
        Gives (.coveResetWritesDrained c) s (modCove c (fun x => { x with squashed := true, gen := (x.gen + 1) % 256 }) d))
    ∧ (r.state = .resetting → r.squashed = false → ∀ t x, d.adm.cmds = [(t, x)] → x.cove = c → isRead x.kind = true → isWrite x.kind = false →
        x.completed = false → r.resetEnds = false → allSqs (resetRead t x d) = [] →
        Gives (.coveResetWritesDrained c) s (modCove c (fun y => { y with squashed := true, gen := (y.gen + 1) % 256 }) (resetRead t x d))))
  ∧ (r.state ≠ .resetting ∨ r.squashed = false ∨ coveInflight d c ≠ 0 → Runs (.coveResetDone c) s d)
  ∧ (r.state = .resetting → r.squashed = true → coveInflight d c = 0 →
      let e := modCove c (fun x => { x with state := if x.resetToFrozen then .frozen else .active, squashed := false }) d
      let f := answerWaits 4 c ok (mirrorCove c (logCove c (0x8000 + c) 1 0 (payload c 0 r.gen 0) (raiseCove c 0 (coveCount c 15 1 e))))
      ((f.host.waits.any (fun w => w.kind == 7 && w.subject == c)) = true → Runs (.coveResetDone c) s (startDelete c f))
      ∧ ((f.host.waits.any (fun w => w.kind == 7 && w.subject == c)) = false →
        Runs (.coveResetDone c) s (if r.resetToFrozen then f else resumeCove c f)))

/-- Cove images. A slot is claimed, freed and listed. An export is refused of Cove 0, in a state that does not allow it, and where
no slot is free for the copy asked for; else it freezes the Cove and takes the image when it is FROZEN. An import is all or nothing:
the first check that fails decides its status, and else the Cove is created with what the image holds. Rests on 11 R355 to R359, 07
R222, 03 R74, 12 R385, 18 R505. -/
def Obligations.CoveImages : Prop := ∀ (s : State) (c n cid : Nat) (k : Ctrl),
  let d := s.dev
  let e := { d with mhi.mboxRefused := false, mhi.mboxBusy := true, mhi.mboxPending := false,
                    mhi.mboxRoom := if d.mhi.mboxPending then d.mhi.mboxRoom else none }
  n ≠ 0 → ctrlOf d n = some k → k.enabled = true → k.ended = false → k.cove = 0 → blocksOpen d = true → c < 4096 →
  (d.mhi.mboxReady = true → d.mhi.mboxBusy = false ∨ d.mhi.mboxPending = true →
    (freeImage d = none → Runs .mboxCoveimgClaim s (mboxDone { status := 6 } e))
    ∧ (∀ i, freeImage d = some i → i < imageSlots d ∧ Runs .mboxCoveimgClaim s (mboxDone { status := 0, dw0 := i }
        { e with pool.imgClaimed := d.pool.imgClaimed ++ [i] }))
    ∧ (∀ i, (imageSlots d ≤ i → Runs (.mboxCoveimgFree i) s (mboxDone { status := 2 } e)) ∧ (i < imageSlots d → slotInUse d i = false → Runs (.mboxCoveimgFree i) s (mboxDone { status := 5 } e))
      ∧ (i < imageSlots d → slotInUse d i = true → Runs (.mboxCoveimgFree i) s (mboxDone { status := 0 } (freeImageSlot i e))))
    ∧ (let v := ((List.range (imageSlots d)).filter (slotInUse d)).foldl (fun a i => a + 2 ^ i) 0
      Runs .mboxCoveimgList s (mboxDone { status := 0, bytes := leBytes v ((imageSlots d + 7) / 8) } e))
    ∧ (serves d = true → ∀ i, i < imageSlots d → slotInUse d i = true → i ∉ d.pool.imgInvalid →
      let b := mgets s.mem (pageAddr (imagePage d i)) 65536
      (∀ st m, importFails e c b = some (st, m) → Runs (.mboxCoveImport c i) s (mboxDone { status := m } e))
      ∧ (importFails e c b = none → Runs (.mboxCoveImport c i) s (mboxDone { status := 0 } (freeImageSlot i (importCove c b e))))))
  ∧ (∀ b, (∀ st m, importFails d c b = some (st, m) → Runs (.coveImageImport n cid c b) s (answerAdmin n cid st 0 d))
    ∧ (importFails d c b = none → Runs (.coveImageImport n cid c b) s (answerAdmin n cid ok 0 (importCove c b d)))
    ∧ (imageOk b = false → importFails d c b = some (gen 0x02, 2))
    ∧ (imageOk b = true → thas d.cove.tab c = true → importFails d c b = some (gen 0x0C, 4)))
  ∧ (∀ keep st, exportFails d c keep = some st → Runs (.coveImageExport n cid c keep) s (answerAdmin n cid st 0 d))
  ∧ (∀ keep, exportFails d c keep = none → Places (.coveImageExport n cid c keep) s (beginExport c (waitFor n cid 6 c (if keep then 1 else 0) d) s.mem))
  ∧ (∀ r, coveOf d c = some r →
    (c = 0 → exportFails d c true = some (gen 0x02))
    ∧ (c ≠ 0 → r.state = .resetting ∨ r.state = .deleting ∨ r.freezing.isSome = true → exportFails d c true = some (gen 0x0C))
    ∧ (exportFails d c true = none → Places (.coveCtrlExport c 16) s (beginExport c (modCove c (fun x => { x with exporting := true }) d) s.mem))
    ∧ (exportFails d c true = some (gen 0x81) → Runs (.coveCtrlExport c 16) s
        (raiseCove c 2 (modCove c (fun x => { x with imageSlot := 0xFF, imageLen := 0 }) d)))
    ∧ (∀ v : Reg, v.getLsbD 0 = true ∨ v.getLsbD 2 = true ∨ v.getLsbD 3 = true → Runs (.coveCtrlExport c v) s d)
    ∧ Places (.coveExportTake c) s (takeExport c d s.mem)
    ∧ (r.state ≠ .frozen ∨ (r.exporting = false ∧ exportsOf d c = []) → takeExport c d s.mem = (d, s.mem))
    ∧ (r.state ≠ .frozen → beginExport c d s.mem = (modCove c (fun x => { x with freezing := some 2 }) d, s.mem)))

/-- A written-block log starts empty at the namespace's next ASN, unless the logs would pass SHALLOWS_MAX; a swap retires the live
half; a read returns the retired half after its header, and is a Command Sequence Error without a log; a stop ends it. The control
table does the same for the shelf manager. Rests on 11 R360, R362 to R364, 07 R222, R223. -/
def Obligations.WrittenBlockLogs : Prop := ∀ (s : State) (n cid nsid : Nat) (k : Ctrl) (x : Ns),
  let d := s.dev
  let started := { d with cove.wbl := tput d.cove.wbl nsid { running := true, swapAsn := x.nextAsn } }
  n ≠ 0 → ctrlOf d n = some k → k.enabled = true → k.ended = false → tget d.host.nss nsid = some x →
  (attached d n nsid = true →
    (wblMiB started ≤ (chartOf d).hbm.shallowsMax → Runs (.wblStart n cid nsid) s (answerAdmin n cid ok 0 (setShallows (profileOf d).shallows started)))
    ∧ ((chartOf d).hbm.shallowsMax < wblMiB started → Runs (.wblStart n cid nsid) s (answerAdmin n cid (gen 0x81) 0 d))
    ∧ (∀ o l, wblOf d nsid = none → Runs (.wblRead n cid nsid o l) s (answerAdmin n cid (gen 0x0C) 0 d))
    ∧ (∀ o l w, wblOf d nsid = some w → Runs (.wblRead n cid nsid o l) s (answerData n cid (wblBytes d nsid o l w) 0 d)
      ∧ (wblBytes d nsid o l w).length = l)
    ∧ (∀ o l w, tget d.cove.wbl nsid = some w → w.running = true →
      let y : Wbl := { w with live := [], retired := w.live, swapAsn := x.nextAsn, retiredHalf := 1 - w.retiredHalf }
      let e := wblSwap nsid d
      tget e.cove.wbl nsid = some y ∧ Runs (.wblSwapRead n cid nsid o l) s (answerData n cid (wblBytes e nsid o l y) 0 e))
    ∧ Runs (.wblStop n cid nsid) s (answerAdmin n cid ok 0 (wblStop nsid d)))
  ∧ (attached d n nsid = false → ∀ o l, Runs (.wblStart n cid nsid) s (answerAdmin n cid (gen 0x0B) 0 d) ∧ Runs (.wblRead n cid nsid o l) s (answerAdmin n cid (gen 0x0B) 0 d)
      ∧ Runs (.wblSwapRead n cid nsid o l) s (answerAdmin n cid (gen 0x0B) 0 d) ∧ Runs (.wblStop n cid nsid) s (answerAdmin n cid (gen 0x0B) 0 d))
  ∧ Gives (.wblTableStart nsid) s (onTable (0x300100000 + 32 * (nsid - 1)) (fun e => (wblStart nsid e).getD e) d)
  ∧ Gives (.wblTableSwap nsid) s (onTable (0x300100000 + 32 * (nsid - 1)) (wblSwap nsid) d)
  ∧ Gives (.wblTableStop nsid) s (onTable (0x300100000 + 32 * (nsid - 1)) (wblStop nsid) d)
  ∧ (wblStart nsid d = if (chartOf d).hbm.shallowsMax < wblMiB started then none else some (setShallows (profileOf d).shallows started))
  ∧ (wblOf (wblStop nsid d) nsid = none)

/-- A rate moves towards its target by at most a sixteenth of its range a step and stays within its bounds; L falls by an eighth of
BORROW_MAX a step at PRESS or HALT and rises by as much else, within 0 and BORROW_MAX, and is 0 while BORROW is 0; the change takes
no page back. Five steps over the limit in a row raise the stage; a hundred under it by 5 W lower it. On entry to stage 3, C is the
admitted rate; over the limit it falls by 75 GB/s a step, not below 25 GB/s, and after ten steps under it rises by 15 GB/s, ending
stage 3 at 600 GB/s. A step takes the sensors' averages and counts itself; on the serving writer it then decides, and elsewhere it
decides nothing; the counts of contended deliveries start anew, and what PRESS holds back or asks for is settled. The heat buckets of one length age together, and the stream of a write follows the band of its range's heat. Rests
on 14 R430, R431; 14 R435; 14 R427, R432, R433, R436. -/
def Obligations.LighthouseDecides : Prop :=
  ((∀ (b : Nat × Nat) (h rate : Nat), b.1 ≤ b.2 → h ≤ 65536 → b.1 * 65536 ≤ rate → rate ≤ b.2 * 65536 →
      let r := approach b h rate
      let target := b.1 * 65536 + (b.2 - b.1) * (65536 - h)
      b.1 * 65536 ≤ r ∧ r ≤ b.2 * 65536 ∧ r ≤ rate + (b.2 - b.1) * 4096 ∧ rate ≤ r + (b.2 - b.1) * 4096
      ∧ (rate ≤ target → rate ≤ r ∧ r ≤ target) ∧ (target ≤ rate → target ≤ r ∧ r ≤ rate)
      ∧ (rate ≤ target + (b.2 - b.1) * 4096 → target ≤ rate + (b.2 - b.1) * 4096 → r = target))
    ∧ (∀ d : Dev, let c := (chartOf d).light
      (c.borrow = 0 → borrowChosen d = 0)
      ∧ (c.borrow ≠ 0 → 2 ≤ d.pool.level → borrowChosen d = d.light.borrow - c.borrowMax / 8)
      ∧ (c.borrow ≠ 0 → d.pool.level < 2 → borrowChosen d = min c.borrowMax (d.light.borrow + c.borrowMax / 8))
      ∧ (atRisk d = true → d.light.stage < 2 → c.rebuildMax * 65536 = rebuildApplied d)
      ∧ (∀ sh, 2 ≤ d.pool.level → ebbApplied d sh = 0)
      ∧ (decideBorrow d).light.borrow = borrowChosen d ∧ (decideBorrow d).pool = d.pool))
  ∧ (∀ d : Dev,
    let e := capStep d
    (overLimit d = true → d.light.stage < 3 → 4 ≤ d.light.overSteps → e.light.stage = d.light.stage + 1 ∧ e.light.overSteps = 0
      ∧ (d.light.stage = 2 → e.light.ceiling = admittedRate d))
    ∧ (overLimit d = true → d.light.stage < 3 → d.light.overSteps < 4 → e = { d with light.overSteps := d.light.overSteps + 1, light.underSteps := 0 })
    ∧ (underLimit d = true → 0 < d.light.stage → 99 ≤ d.light.underSteps → e.light.stage = d.light.stage - 1)
    ∧ (overLimit d = true → d.light.stage = 3 → 25000 < d.light.ceiling →
      e.light.stage = 3 ∧ e.light.ceiling = max 25000 (d.light.ceiling - 75000))
    ∧ (underLimit d = true → d.light.stage = 3 → 9 ≤ d.light.underSteps → d.light.underSteps < 99 →
      (d.light.ceiling < 585000 → e.light.stage = 3 ∧ e.light.ceiling = d.light.ceiling + 15000)
      ∧ (585000 ≤ d.light.ceiling → e.light.stage = 2))
    ∧ (overLimit d = false → underLimit d = false → e.light.stage = d.light.stage ∧ e.light.ceiling = d.light.ceiling))
  ∧ (∀ s : State,
    let d := s.dev
    (∀ t p h, coreRuns d = true →
      let e := judgeAlert { d with mhi.temp := t, mhi.power := p }
      let f := { e with light.steps := d.light.steps + 1 }
      let ends := fun (x : Dev) => resumeRepairs (aroundAll { x with path.deliveries := 0, path.contended := 0 })
      (d.boot.serving = true → d.pair.role = .active ∨ d.pair.role = .solo → Gives (.lighthouseStep t p h) s (ends (decideStep h f)))
      ∧ (d.boot.serving = false ∨ d.pair.role = .standby ∨ d.pair.role = .fenced → Gives (.lighthouseStep t p h) s (ends f)))
    ∧ (∀ b, Leads (.heatBucketRotate b) s (fun t => Only [.light] s t ∧ t.dev.light.rebuildRate = d.light.rebuildRate
        ∧ ∀ k x, tget d.light.heat k = some x → tget t.dev.light.heat k = some (if b then { x with writes15m := 0 :: x.writes15m.take 3 }
          else { x with reads := 0 :: x.reads.take 3, writes15s := 0 :: x.writes15s.take 3 })))
    ∧ (∀ n nsid lba, n ≤ 2 → writeStream d n nsid lba = 0)
    ∧ (∀ n nsid lba, 3 ≤ n → writeHeat d nsid (lba / 256) = 0 → writeStream d n nsid lba = 0)
    ∧ (∀ n nsid lba k, 3 ≤ n → 4 ^ k ≤ writeHeat d nsid (lba / 256) → writeHeat d nsid (lba / 256) < 4 ^ (k + 1) →
        writeStream d n nsid lba = min (n - 2) (k + 1)))

/-- What changes a member's state: an interval beyond SLOW_THRESHOLD makes an ONLINE member SLOW, and SLOW_WINDOW of them evict it
unless a stripe would pass its parity; ten good ones bring it back; an absence timer that expires, a link that does not retrain and
a reset that does not end make it FAILED. A drive not ready is ABSENT. Every change logs old and new state. Rests on 06 R172, R173,
R179, R180, R181, 15 R445. -/
def Obligations.MemberStates : Prop := ∀ s : State,
  let d := s.dev
  (∀ sh pos st e, tget (labelOf d sh).roster pos = some e → e.state ≠ st → pos < 32 →
    stateOf (setState sh pos st d) sh pos = some st ∧ setState sh pos e.state d = d)
  ∧ (∀ b v sh pos ms, tget d.shelf.drives b = some v → rosterOfBay d b = some (sh, pos) →
    let slow := (chartOf d).storage.slowThreshold
    let seen := { v with lats := (ms :: v.lats).take 6000 }
    let up := { d with shelf.drives := tput d.shelf.drives b { seen with past := v.past + 1, under := 0 } }
    let down := { d with shelf.drives := tput d.shelf.drives b { seen with past := 0, under := v.under + 1 } }
    (stateOf d sh pos = some .online → ms ≤ slow → Gives (.memberLatencyInterval b ms) s down)
    ∧ (stateOf d sh pos = some .online → slow < ms → Gives (.memberLatencyInterval b ms) s (logEvent 4 2 1 (payload b sh pos ms)
        (setState sh pos .slow { d with shelf.drives := tput up.shelf.drives b { seen with past := 1, under := 0 } })))
    ∧ (stateOf d sh pos = some .slow → slow < ms →
      (v.past + 1 < (chartOf d).storage.slowWindow * 10 → Gives (.memberLatencyInterval b ms) s up)
      ∧ ((chartOf d).storage.slowWindow * 10 ≤ v.past + 1 →
        (wouldExceed up sh pos = false → Gives (.memberLatencyInterval b ms) s
          (judgeMissing sh (missingCount d sh) (memberFail sh pos (logLight 5 8 false 2 b 0 0 0 0 0 up))))
        ∧ (wouldExceed up sh pos = true → Gives (.memberLatencyInterval b ms) s (logEvent 4 5 1 (payload b sh pos 0)
          { d with shelf.drives := tput up.shelf.drives b { seen with past := 0, under := 0 } }))))
    ∧ (stateOf d sh pos = some .slow → ms ≤ slow →
      (v.under + 1 < 10 → Gives (.memberLatencyInterval b ms) s down)
      ∧ (writeOverdue down b = true → Gives (.memberLatencyInterval b ms) s down)
      ∧ (10 ≤ v.under + 1 → writeOverdue down b = false → folded down sh pos = true → let l := labelOf down sh
        Gives (.memberLatencyInterval b ms) s (setState sh pos .resyncing (setLabel sh (let from' := fun (r : Resync) => { r with gR := ((shoalOf down sh).map (·.gen)).getD 0 + 1 }
          { l with resync := l.resync.map (fun r => if r.pos = pos then from' r else r) }) down)))
      ∧ (10 ≤ v.under + 1 → writeOverdue down b = false → folded down sh pos = false → Gives (.memberLatencyInterval b ms) s
          (setState sh pos .online { down with shelf.foldWaits := d.shelf.foldWaits.filter (fun x => x != (sh, pos)) }))))
  ∧ (∀ b, Gives (.driveLinkLost b) s { d with shelf.drives := tmod d.shelf.drives b (fun v => { v with linkUp := false }) }
      ∧ Gives (.driveLinkRetrained b) s { d with shelf.drives := tmod d.shelf.drives b (fun v => { v with linkUp := true }) })
  ∧ (∀ b v, tget d.shelf.drives b = some v → (v.linkUp = false → Gives (.linkRetrainTimeout b) s (failBay b d))
      ∧ (v.linkUp = true → Gives (.linkRetrainTimeout b) s d))
  ∧ (∀ b, (d.shelf.cmds.any (fun e => e.2.bay == b && e.2.op == .resetController)) = true → Gives (.memberResetTimeout b) s (failBay b d))
  ∧ (∀ b sh pos, rosterOfBay d b = some (sh, pos) → failBay b d = judgeMissing sh (missingCount d sh) (memberFail sh pos d))
  ∧ (∀ sh pos, (stateOf d sh pos = some .absent → Gives (.absenceTimerExpiry sh pos) s
        (memberFail sh pos (logEvent 4 7 2 (payload (rosterBay d sh pos) sh pos 0) d)))
      ∧ (stateOf d sh pos ≠ some .absent → Gives (.absenceTimerExpiry sh pos) s d))
  ∧ (∀ b sh pos st, thas d.shelf.drives b = false → posOfBay d b = some (sh, pos) → stateOf d sh pos = some st →
      let e := setState sh pos .absent { d with shelf.absentAt := tput d.shelf.absentAt (posKey sh pos) (elapsed d) }
      (st ∉ [.failed, .absent, .rebuilding] → assembledShoal e sh = true → Gives (.driveReadyTimeout b) s (judgeMissing sh (missingCount d sh) (fold sh pos e)))
      ∧ (st ∉ [.failed, .absent, .rebuilding] → assembledShoal e sh = false → Gives (.driveReadyTimeout b) s e)
      ∧ (st = .rebuilding → Gives (.driveReadyTimeout b) s (judgeMissing sh (missingCount d sh) (memberFail sh pos d))))
  ∧ (∀ b, thas d.shelf.drives b = true → Gives (.driveReadyTimeout b) s d)

/-- A drive that enumerates: one that does not meet R166 is not taken; in a spare bay it is a SPARE member; one whose label agrees
with the roster returns, RESYNCING while a resync slot is open; any other drive is formatted and rebuilt. A format that is done
writes the label. A command past its hard timeout is aborted; an abort that does not end resets the member's controller, and its
commands are reissued. A waiting fold runs when a slot frees. Labels go to every ONLINE member, and a durable label lets what waited
on it go on. SMART warnings are kept. A stripe past its write deadline is written around. Rests on 06 R166, R167, R172, R181, R188,
04 R107; 06 R169, R171, R173, R175, R177, R198. -/
def Obligations.DrivesAndUpkeep : Prop :=
  (∀ (s : State) (p : DriveProbe),
    let d := s.dev
    let spare := (chartOf d).spareBays.getLsbD p.bay
    (rootPort d p.bay = false → Gives (.driveEnumerate p) s (resumeSubsts d))
    ∧ (rootPort d p.bay = true → driveMeets p = false →
      Gives (.driveEnumerate p) s (resumeSubsts (logEvent 4 0x0A 1 (payload p.bay 0 0 0) d)))
    ∧ (rootPort d p.bay = true → driveMeets p = true → spare = true → rosterOfBay d p.bay = none → p.ext64 = true →
      let e := takeDrive p (draw d).1 (draw d).2
      Gives (.driveEnumerate p) s (resumeSubsts (rewriteRecords p.bay (writeLabel 0xFF p.bay { e with
        shelf.spares := if e.shelf.spares.contains p.bay then e.shelf.spares else e.shelf.spares ++ [p.bay] }))))
    ∧ (∀ sh pos e, rootPort d p.bay = true → driveMeets p = true → rosterOfBay d p.bay = some (sh, pos) →
      tget (labelOf d sh).roster pos = some e → (labelOf d sh).roster.isEmpty = false →
      ((curGeom d sh).metaMode = 0 → p.ext64 = false →
        Gives (.driveEnumerate p) s (resumeSubsts (logEvent 3 6 1 (payload p.bay sh 0 0) d)))
      ∧ (p.ext64 = true → tooSmall d sh p.capacity = true →
        Gives (.driveEnumerate p) s (resumeSubsts (logEvent 4 0x0A 1 (payload p.bay sh 0 0) d)))
      ∧ (p.ext64 = true → tooSmall d sh p.capacity = false →
        (e.state ≠ .failed → e.serial = p.serial → p.label.map (fun x => (x.serial, x.labelGen)) = some (e.serial, e.labelGen) →
          Gives (.driveEnumerate p) s (resumeSubsts
            (if e.state = .rebuilding then takeDrive p e.labelGen d else memberReturn sh pos p e.labelGen d)))
        ∧ (e.state = .failed ∨ p.label = none → Gives (.driveEnumerate p) s (resumeSubsts (joinRebuild sh pos p d)))))
    ∧ (∀ sh pos gen e, tget (labelOf d sh).roster pos = some e → e.state = .absent → pos < 32 →
      stateOf (memberReturn sh pos p gen d) sh pos =
        some (if (labelOf d sh).resync.any (fun r => r.pos == pos) then .resyncing else .online))
    ∧ (∀ b v, tget d.shelf.drives b = some v →
      let e := { d with shelf.drives := tmod d.shelf.drives b (fun x => { x with formatting := false }),
                        shelf.cmds := d.shelf.cmds.filter (fun x => !(x.2.bay == b && formatOp x.2.op)) }
      (v.formatting = true → (∀ sh pos, rosterOfBay d b = some (sh, pos) → Gives (.memberFormatDone b) s (pullMember b (writeLabel sh b e)))
        ∧ (shoalOfBay d b = none → Gives (.memberFormatDone b) s (pullMember b e)))
      ∧ (v.formatting = false → Gives (.memberFormatDone b) s d)))
  ∧ (∀ s : State,
    let d := s.dev
    (∀ m c, tget d.shelf.cmds m = some c →
      let counted := occur 6 3 1 (memberAttr c.bay (opClass c.op)) d
      (c.again = false → c.phase = .issued → Gives (.memberHardTimeout m) s (settleStripes (memberIssue c.bay (.abort m)
        { counted with shelf.cmds := tput d.shelf.cmds m { c with phase := .aborting } })))
      ∧ (c.again = false → c.phase ≠ .issued → Gives (.memberHardTimeout m) s (settleStripes counted))
      ∧ (c.again = true → Gives (.memberHardTimeout m) s (settleStripes (failServing c.bay counted)))
      ∧ (c.phase ≠ .aborting → Gives (.memberAbortTimeout m) s d)
      ∧ (c.phase = .aborting → d.shelf.cmds = [(m, c)] → c.op ≠ .resetController → (∀ k, c.op ≠ .abort k) →
          Gives (.memberAbortTimeout m) s (memberIssue c.bay .resetController { d with shelf.cmds := [(m, { c with phase := .resetting })] })))
    ∧ (∀ sh pos, let e := { d with shelf.foldWaits := d.shelf.foldWaits.filter (fun x => x != (sh, pos)) }
      ((sh, pos) ∈ d.shelf.foldWaits → (labelOf d sh).resync.length < 3 →
        Gives (.foldResume sh pos) s (judgeMissing sh (missingCount d sh) (foldSlow sh pos e)))
      ∧ ((sh, pos) ∉ d.shelf.foldWaits → Gives (.foldResume sh pos) s d)
      ∧ (3 ≤ (labelOf d sh).resync.length → Gives (.foldResume sh pos) s d))
    ∧ (∀ sh row t, rowAt d sh row = some t → let ends := fun (x : Dev) => maybeCheckpoint (aroundAll (judgeFolds x))
      (t.life ≠ .writing → Gives (.writeSoftDeadline sh row) s (ends d))
      ∧ (t.life = .writing → Gives (.writeSoftDeadline sh row) s
        (ends (judgeStripe sh row (setRow { t with overdue := t.overdue ||| (t.issued &&& ~~~t.done) } d))))
      ∧ ((stripeGeom d t).parity - 1 < (undurable d t).length → writeAround t d = d))
    ∧ (∀ sh, let online := ((labelOf d sh).roster.filter (fun e => e.2.state == .online)).map (fun e => e.2.bay)
        (sh ∈ d.shelf.labelDirty → Gives (.labelPropagate sh) s (modShoal sh (fun x => { x with rowsSince := 0 })
          (writeLabelsTo sh online { d with shelf.labelDirty := d.shelf.labelDirty.filter (fun x => x != sh) })))
        ∧ (sh ∉ d.shelf.labelDirty → Gives (.labelPropagate sh) s d))
    ∧ (∀ sh, let e := labelsWritten sh d
        let ends := fun (x : Dev) => maybeCheckpoint (aroundAll (judgeFolds x))
        (labelWriting e (fun x => x == sh) = true → Runs (.labelWriteDone sh) s (ends e))
        ∧ (labelWriting e (fun x => x == sh) = false → e.shelf.labelWaits = [] → Runs (.labelWriteDone sh) s (ends e))
        ∧ (∀ r, labelWriting e (fun x => x == sh) = false → e.shelf.labelWaits = [.issue sh r] →
            Runs (.labelWriteDone sh) s (ends (tryIssue sh r { e with shelf.labelWaits := [] })))
        ∧ (∀ m b l c, d.shelf.cmds = [(m, c)] → c.op = .labelWrite b l → l.shoal = sh → c.phase = .issued → d.shelf.labelAgain = [] →
            tget e.shelf.labelCopies (2 * c.bay + b2n b) = some l ∧ e.shelf.cmds = []))
    ∧ (∀ b w, Gives (.smartPoll b w) s (sendDeallocs b { d with
        shelf.drives := tmod d.shelf.drives b (fun v => { v with warning := w % 256 }) }))
    ∧ (∀ sh, thas d.shelf.labels sh = true → Gives (.patrolCursorRecord sh) s (setLabel sh (labelOf d sh) d)))

/-- Resync rewrites the rows of a member's set, each with what the survivors' reads gave, and with the last it is ONLINE and its slot
closes. Rebuild takes rows in the order of GEN and ends a substitution with nothing left below G0; what neither can recover enters the
lost-slot table, and the row waits for the labels. Patrol reads the next LIVE row, repairs a row with a bad strip, and moves on; past
the last row a pass is complete. All of it stands still on a side that does not write the members. A listed slot that no map entry
names is dead. Rests on 06 R182, R186,
R190, R196, R197, R198, 13 R391, R415. -/
def Obligations.RebuildAndPatrol : Prop := ∀ s : State,
  let d := s.dev
  (∀ sh row pos r got, housekeepingPaused d = true →
    Gives (.rebuildRow sh got) s d ∧ Gives (.resyncRow sh pos got) s d ∧ Gives (.patrolRow sh row r) s d)
  ∧ (housekeepingPaused d = false →
    (∀ sh pos row bad r t, resyncOf d sh pos = some r → rowAt d sh row = some t →
      (∀ p, stateOf d sh pos = some .resyncing → row ∈ resyncLeft d sh r → t.gen ∉ r.building → stripePos d t pos = some p →
        p ∈ writtenPos (stripeGeom d t) row →
        let x := readRow t bad [p] d
        let e := occur 6 6 (rebuiltBlocks d t bad p) {} (modResync sh pos (fun y => { y with building := y.building ++ [t.gen] }) x.2)
        (x.1 = false → Gives (.resyncRow sh pos { row := row, bad := bad }) s (resumeRepairs (resyncWrite sh pos t e)))
        ∧ (x.1 = true → Gives (.resyncRow sh pos { row := row, bad := bad }) s (resumeRepairs
            (writeLabels sh { e with shelf.labelWaits := e.shelf.labelWaits ++ [.rebuilt sh row (some pos)] }))))
      ∧ (stateOf d sh pos ≠ some .resyncing ∨ row ∉ resyncLeft d sh r ∨ t.gen ∈ r.building →
        Gives (.resyncRow sh pos { row := row, bad := bad }) s (resyncAdvance sh pos d)))
    ∧ (∀ sh row bad t, rowAt d sh row = some t →
      (t.life ≠ .committed → Gives (.rebuildRow sh { row := row, bad := bad }) s (settleSubsts sh d))
      ∧ (∀ u p, t.life = .committed → runningSubsts d sh = [u] → u.cursor < t.gen → u.reach < t.gen → t.gen < u.g0 →
        (rebuildLeft d sh u).all (fun x => decide (t.gen ≤ x.gen)) = true → (inFlightGen d sh).all (fun g => decide (t.gen < g)) = true →
        rowPos d t u.pos = some p →
        let x := readRow t bad [p] d
        let e := occur 6 6 (rebuiltBlocks d t bad p) {}
          (modSubst sh u.idx (fun y => { y with reach := t.gen, building := y.building ++ [t.gen] }) x.2)
        (x.1 = false → Gives (.rebuildRow sh { row := row, bad := bad }) s (resumeRepairs (settleSubsts sh (buildRow t e))))
        ∧ (x.1 = true → Gives (.rebuildRow sh { row := row, bad := bad }) s (resumeRepairs (settleSubsts sh
            (writeLabels sh { e with shelf.labelWaits := e.shelf.labelWaits ++ [.rebuilt sh row none] })))))
      ∧ (∀ ps, (readRow t bad ps d).1 = true ↔ lostSlotsOf d t bad ≠ []))
    ∧ (∀ sh row t r, (profileOf d).patrol = 1 → d.pool.level < 2 → d.light.stage = 0 → d.host.power ≠ 3 → rowAt d sh row = some t →
      patrolNext d sh = some row →
      let e := noteErrors 3 sh row (r.failed.map (fun p => (p, 0))) false d
      (patrolReads d t = false → Gives (.patrolRow sh row r) s (patrolStep sh row d))
      ∧ (patrolReads d t = true →
        (judgePatrol d t r = .equal → r.failed = [] → Gives (.patrolRow sh row r) s (patrolStep sh row e))
        ∧ (judgePatrol d t r = .equal → r.failed ≠ [] → Gives (.patrolRow sh row r) s (patrolStep sh row (repairRow sh row [] e)))
        ∧ (∀ b, judgePatrol d t r = .badStrip b →
          Gives (.patrolRow sh row r) s (patrolStep sh row (repairRow sh row ((List.range 32).map (fun i => (b, i))) e)))))
    ∧ (∀ sh row r, (profileOf d).patrol ≠ 1 ∨ 2 ≤ d.pool.level ∨ 1 ≤ d.light.stage ∨ d.host.power = 3 ∨ patrolNext d sh ≠ some row →
      Gives (.patrolRow sh row r) s d))
  ∧ (∀ sh row, let last := d.str.rows.all (fun e => e.2.shoal != sh || e.2.life != .committed || decide (e.2.row ≤ row))
    let l := labelOf d sh
    let m := if last then { l with patrolRow := 0, patrolPasses := l.patrolPasses + 1 } else { l with patrolRow := row + 1 }
    patrolStep sh row d = { d with shelf.labels := tput d.shelf.labels sh m })
  ∧ (∀ nsid page q n, d.str.map = [] → d.shelf.scanOnly = [] →
    (d.shelf.lostSlots = [] → Gives (.lostSlotScan nsid page) s d)
    ∧ (d.shelf.lostSlots = [(q, n)] → q.shoal = nsShoal d nsid → Gives (.lostSlotScan nsid page) s (deadSlot q d)))

/-- The Breakwater: a charge to the shared space leaves the RESERVE whole, RESERVE serves Cove 0 alone, no Cove but 0 is charged at
HALT, and no Cove passes its CAP. A level is entered at its threshold and left 512 pages below it. A page whose write is done is
STAGED; its command then completes, once all its data is staged and mirrored. A scrub read counts a two-bit correction or an
uncorrectable unit and retires the page to a free SPARE page; a clean read or a one-bit correction changes no count. A failed STAGE write is repeated on a SPARE page; with none free the page is withdrawn at once, and the write is
repeated on the next page, which takes its place in its command. After a stop with its marker the next start finds UNCLEAN 0, the
boot count one higher, and the ESN counter and the allocation pointer where they were; without one it sets UNCLEAN and resumes
beyond every ESN on record. Rests on 03 R79, R83; 03 R86, 01 R17 step 8; 03 R69, R70, R77; 03 R89 step 4, R90, R91 steps 1 and 2, 17
R476. -/
def Obligations.TidePool : Prop :=
  (∀ (d : Dev) (c n : Nat),
    (gateWrite d c n = .charge .shared → sharedHeld d + n ≤ inService d - 2048 ∧ heldBy d c + n ≤ (coveCfg d c).cap
      ∧ (heldBy d c + n ≤ (coveCfg d c).floor ∨ ((chartOf d).light.borrow = 1 ∧ heldBy d c + n - (coveCfg d c).floor ≤ borrowMax d)))
    ∧ (gateWrite d c n = .charge .reserve → c = 0 ∧ d.pool.reserveHeld + n ≤ 2048)
    ∧ (gateWrite d c n = .exhausted ↔ c ≠ 0 ∧ inService d * 97 / 100 ≤ occupancy d)
    ∧ (∀ s occ l, l ≤ 3 → 59392 = s → let k := nextLevel s occ l
        k ≤ 3 ∧ (l < 3 → (k = 3 ↔ 57610 ≤ occ)) ∧ (l = 3 → (k = 3 ↔ 57098 ≤ occ))
        ∧ (l < k → threshold s k ≤ occ) ∧ (k < l → ∀ j, k < j → j ≤ l → occ < threshold s j - 512)
        ∧ (∀ j, 1 ≤ j → j ≤ 3 → threshold s j ≤ occ → j ≤ k)))
  ∧ (∀ (s : State) (p : Nat) (g : StagePage),
    let d := s.dev
    let e := { d with pool.pages := tput d.pool.pages p { g with life := .staged } }
    tget d.pool.pages p = some g →
    (g.life ≠ .writing ∨ p ∈ d.pool.repeatWaits → Gives (.tidePoolWriteDone p) s d)
    ∧ (g.life = .writing → p ∉ d.pool.repeatWaits →
      (d.adm.cmds.all (fun x => !x.2.pages.contains (some p)) = true → Gives (.tidePoolWriteDone p) s e)
      ∧ ∀ tag c, d.adm.cmds.find? (fun x => x.2.pages.contains (some p)) = some (tag, c) → tget d.adm.cmds tag = some c →
        c.kind = .write → c.completed = false → c.absent = false →
        (writeReady e c = true → mirrorDone e c = true → Gives (.tidePoolWriteDone p) s (endCmd tag ok e))
        ∧ (writeReady e c = false ∨ mirrorDone e c = false → Gives (.tidePoolWriteDone p) s e)
        ∧ (writeReady e c = true → pagesStaged e c = true)))
  ∧ (∀ (s : State) (p : Nat),
    let d := s.dev
    let settled := fun (x : Dev) => aroundAll (judgeFloors (judgeLevel x))
    let seen := occur 4 1 1 (poolAttr mgmtStation p) (upkeepUnit poolStation [mgmtStation] p p 4096 d)
    (p < 65536 → Gives (.poolScrub p .clean) s (settled seen) ∧ Gives (.poolScrub p .corrected1) s (settled seen)
      ∧ Gives (.poolScrub p .corrected2) s (settled (corrected2 p seen))
      ∧ Gives (.poolScrub p .uncorrectable) s (settled (uncorrectable p seen)))
    ∧ (∀ e, 65536 ≤ p → Gives (.poolScrub p e) s d)
    ∧ (∀ again, Gives (.tidePoolWriteFailed p again) s (settled (writeFailed p again d))))
  ∧ (∀ (d : Dev) (p r : Nat) (l : List Nat),
    d.pool.withdrawn.contains p = false → d.pool.retiredInPlace.contains p = false →
    let kept := fun (e : Dev) => remapped e p = r ∧ e.pool.withdrawn = d.pool.withdrawn ∧ e.pool.pages = d.pool.pages
      ∧ blank [.ev, .perf, .mhi, .pool, .out] e = blank [.ev, .perf, .mhi, .pool, .out] d
    ((spareFree d).filter (fun x => x != p) = r :: l → fixedPage d p = false →
      (let e := corrected2 p d
       kept e ∧ e.pool.corr2 = min (d.pool.corr2 + 1) 65535 ∧ e.pool.uncorr = d.pool.uncorr)
      ∧ (let e := uncorrectable p d
        kept e ∧ e.pool.uncorr = min (d.pool.uncorr + 1) 65535 ∧ e.pool.corr2 = d.pool.corr2 ∧ e.pool.int.getLsbD 5 = true)
      ∧ (regionOf d.pool.layout p ≠ .stage → ∀ again, kept (writeFailed p again d)))
    ∧ (spareFree d = r :: l → regionOf d.pool.layout p = .stage → kept (writeFailed p true d))
    ∧ (∀ g q x again, spareFree d = [] → regionOf d.pool.layout p = .stage → tget d.pool.pages p = some g →
      allocPage (withdrawPage p (pageRetired p p d)) = some (q, x) →
      let e := writeFailed p again d
      tget e.pool.pages p = none ∧ e.pool.withdrawn = d.pool.withdrawn ++ [p]
      ∧ (∃ h, tget e.pool.pages q = some h ∧ h.life = .writing ∧ h.tag = g.tag ∧ h.data = g.data)
      ∧ (∀ tag c, tget d.adm.cmds tag = some c →
        tget e.adm.cmds tag = some { c with pages := c.pages.map (fun y => if y = some p then some q else y) })
      ∧ inService e = inService d - 1))
  ∧ (∀ (d : Dev) (c : ControlBlock) (n : Nat),
    d.pool.state ∉ [.off, .failed, .stopped] → d.pool.control = some c → d.ev.nextEsn = some (n + 1) →
    ∃ m, (resetCore false (stopDevice d)).pool.control = some m
      ∧ (let e := resumePool c.layout m (resetCore false (stopDevice d))
        e.pool.unclean = false ∧ e.ev.nextEsn = some (n + 1) ∧ e.pool.ptr = d.pool.ptr
        ∧ e.pool.control.map (·.bootCount) = some (c.bootCount + 1) ∧ e.pool.control.bind (·.stopMarker) = none
        ∧ e.ev.slots = d.ev.slots ++ d.ev.buffer.map some)
      ∧ ∀ f : Dev, (let e := resumePool c.layout { c with stopMarker := none } f
        e.pool.unclean = true ∧ e.pool.ptr = c.pointer ∧ ∀ r, some r ∈ f.ev.slots → ∃ k, e.ev.nextEsn = some k ∧ r.esn + 4096 < k))

/-- The order of admission at the head of a queue: a stopped queue is not looked at; the checks come first, then the policer (80h),
HALT (84h), credits, rows, the tracker and MAPLOG, and the ceiling, where the head waits; then a reservation command runs, a
conflict is refused, a mark in the making is waited for, and else the command takes its ASN. Rests on 01 R17 steps 1 to 4, 03 R80,
R85, 05 R142, R146, 07 R208, R210, 10 R335, 14 R435. -/
def Obligations.AdmissionOrder : Prop := ∀ (d : Dev) (c q : Nat) (s : Sq) (h : HeldCapsule) (l : List HeldCapsule),
  let cove := ctrlCove d c
  let n := if h.op = .write then creditsFor (sglBytes h.cap) else 0
  let gate := if h.op = .write then (if behindCove d c q then .wait else gateWrite d cove n) else Gate.charge .shared
  let attr := capAttr cove h.op h.cap
  let note := fun k => if d.pool.waiting.contains (c, q) then d else occur 2 k 1 attr d
  let room := aboveReserve d (nsShoal d h.cap.nsid)
  sqOf d c q = some s → s.held = h :: l →
  (stopped d c s = true → headStep c q d = .idle d)
  ∧ (stopped d c s = false → h.policed = false → ∀ st, checkCapsule d c q s.qpn h.op h.cap = some st →
      headStep c q d = .gone (rejectCapsule c q h st d))
  ∧ (stopped d c s = false → h.policed = false → checkCapsule d c q s.qpn h.op h.cap = none → ∀ e, police cove (sglBytes h.cap) d = (.red, e) →
      headStep c q d = .gone (rejectCapsule c q h (vendor d c 0x80 false 1) (coveCount cove 5 1 (occur 2 2 1 attr e))))
  ∧ (stopped d c s = false → h.policed = false → checkCapsule d c q s.qpn h.op h.cap = none → ∀ e, police cove (sglBytes h.cap) d = (.green, e) →
      headStep c q d = headStep c q (modSq c q (fun y => { y with held := { h with policed := true, yellow := false } :: l }) e))
  ∧ (stopped d c s = false → h.policed = false → checkCapsule d c q s.qpn h.op h.cap = none → ∀ e, police cove (sglBytes h.cap) d = (.yellow, e) →
      headStep c q d = headStep c q (modSq c q (fun y => { y with held := { h with policed := true, yellow := true } :: l }) (occur 2 3 1 attr e)))
  ∧ (stopped d c s = false → h.policed = true →
    (cove ≠ 0 → threshold (inService d) 3 ≤ occupancy d →
      headStep c q d = .gone (rejectCapsule c q h (vendor d c 0x84 false 1) (occur 2 4 1 attr d)))
    ∧ (¬ (cove ≠ 0 ∧ threshold (inService d) 3 ≤ occupancy d) →
      (gate = .wait → headStep c q d = .waits (note 5))
      ∧ (∀ sp, gate = .charge sp →
        ((h.op = .write ∨ h.op = .writeZeroes) → room = false → headStep c q d = .waits (note 7))
        ∧ ((h.op = .write ∨ h.op = .writeZeroes → room = true) →
          (trackerRoom d (trackRanges d h.op h.cap) = false ∨ logRoom d h = false → headStep c q d = .waits (note 6))
          ∧ (trackerRoom d (trackRanges d h.op h.cap) = true → logRoom d h = true →
            (underCeiling d (sglBytes h.cap) = false → headStep c q d = .waits d)
            ∧ (underCeiling d (sglBytes h.cap) = true → headStep c q d = assignHead c q s h n sp d))))))
  ∧ (∀ sp, h.op ∉ [.resvRegister, .resvReport, .resvAcquire, .resvRelease] → kindOf h.op h.cap ≠ .flushAll →
    let r := resvConflict (resvOf d h.cap.nsid) (hostOf d c) (opReads h.op)
    (r = true → assignHead c q s h n sp d = .gone (rejectCapsule c q h (gen 0x83) d))
    ∧ (r = false → markStands d h.cap.nsid = false → assignHead c q s h n sp d = .waits (askMark h.cap.nsid d))
    ∧ (r = false → markStands d h.cap.nsid = true → assignHead c q s h n sp d = .gone (admitHead c q s h n sp d)))
  ∧ (∀ sp a, h.cap.resv = some a → h.op ∈ [.resvRegister, .resvReport, .resvAcquire, .resvRelease] →
    assignHead c q s h n sp d = .gone (runResv c q h.cap.cid h.cap.nsid h.op a (coveCount cove 0 1 (dropCapsule c q h d))))

/-- A capsule of any I/O command goes to the end of its submission queue; behind a waiting head it waits, and at the head it is
admitted, refused or left waiting by the order of admission. SQ_HEAD_RETEST takes the waiting heads in the order in which they began
to wait; a durable mark lets the assignments that waited for it go on (R146). What an admitted command starts: its record holds the
namespace's next ASN, a page for every block of a Write and a source for every block of a read. A Flush completes at once when every
earlier write has completed, and on FLUSH_COMPLETE else; REQUIRE_PARTNER without the partner refuses a Write with 80h (13 R412).
Rests on 05 R142, 03 R80, 07 R204; 05 R145, R151, R155, R159, R160, 04 R132. -/
def Obligations.CapsulesArrive : Prop :=
  (∀ (s : State) (c q : Nat) (cap : Capsule) (op : IoOp) (x : Sq),
    let d := s.dev
    let w := wake (occur 2 0 1 (capAttr (ctrlCove d c) op cap) d)
    let inside := match cap.sgl with
      | .inCapsule _ => true
      | _ => false
    let v := match cap.sgl with
      | .landing off len => holdLanding x.qpn off len (holderOf c q cap.cid) w
      | _ => w
    let e := modSq c q (fun y => { y with held := y.held ++ [{ op := op, cap := cap, buffer := inside }] })
      (if inside then { v with host.buffersUsed := v.host.buffersUsed + 1 } else v)
    let without := fun (f : Dev) => { f with pool.waiting := f.pool.waiting.filter (fun k => k != (c, q)) }
    Gives (.write c q cap) s (submit .write c q cap d) ∧ Gives (.read c q cap) s (submit .read c q cap d)
    ∧ Gives (.flush c q cap) s (submit .flush c q cap d) ∧ Gives (.compare c q cap) s (submit .compare c q cap d)
    ∧ Gives (.writeZeroes c q cap) s (submit .writeZeroes c q cap d)
    ∧ Gives (.datasetManagement c q cap) s (submit .dsm c q cap d) ∧ Gives (.verify c q cap) s (submit .verify c q cap d)
    ∧ Gives (.reservationRegister c q cap) s (submit .resvRegister c q cap d)
    ∧ Gives (.reservationReport c q cap) s (submit .resvReport c q cap d)
    ∧ Gives (.reservationAcquire c q cap) s (submit .resvAcquire c q cap d)
    ∧ Gives (.reservationRelease c q cap) s (submit .resvRelease c q cap d)
    ∧ (sqOf d c q = none → submit op c q cap d = d)
    ∧ (sqOf d c q = some x →
      ((c, q) ∈ d.pool.waiting → submit op c q cap d = e)
      ∧ ((c, q) ∉ d.pool.waiting → x.held = [] →
        (∀ f, headStep c q e = .gone f → submit op c q cap d = runQueue 1 c q (without f))
        ∧ (∀ f, headStep c q e = .waits f → (c, q) ∉ f.pool.waiting →
          submit op c q cap d = { f with pool.waiting := f.pool.waiting ++ [(c, q)] })
        ∧ (∀ f, headStep c q e = .idle f → submit op c q cap d = e)))
    ∧ (d.pool.waiting = [(c, q)] → Gives .sqHeadRetest s (runSq c q d))
    ∧ (d.pool.waiting = [] → Gives .sqHeadRetest s d)
    ∧ (∀ n y, tget d.host.nss n = some y →
      (y.marking = false → Runs (.asnMarkDurable n) s d)
      ∧ (y.marking = true → Runs (.asnMarkDurable n) s (runSan (runFormats (resumeFormat n (markDurable n d)))))
      ∧ (d.pool.waiting = [] → markDurable n d = { d with host.nss := tput d.host.nss n { y with marking := false } })))
  ∧ (∀ (d : Dev) (c q qpn tag asn credits : Nat) (h : HeldCapsule) (sp : PoolSpace) (x : Cmd) (cap : Capsule),
    let r := newCmd d c q qpn h asn credits sp
    (r.asn = asn ∧ r.cid = h.cap.cid ∧ r.nsid = h.cap.nsid ∧ r.cove = ctrlCove d c ∧ r.credits = credits ∧ r.space = sp
      ∧ (h.op = .write → r.kind = .write ∧ r.pages = List.replicate h.cap.nlb none ∧ r.ranges = [{ lba := h.cap.slba, len := h.cap.nlb }]
        ∧ r.inTracker = true)
      ∧ (h.op = .read → r.kind = .read ∧ r.blocks = List.replicate h.cap.nlb .waiting ∧ r.pages = []))
    ∧ (tget d.adm.cmds tag = some x →
      (x.kind = .write → partnerRefused d = true → startCmd tag cap d = absentWrite tag (some (vendor d x.cntlid 0x80 false 2)) d)
      ∧ (x.kind = .write → partnerRefused d = false → startCmd tag cap d = startData tag cap d)
      ∧ (x.kind = .read ∨ x.kind = .verify → startCmd tag cap d = runRead tag d)
      ∧ (x.kind = .compare → startCmd tag cap d = startData tag cap (runRead tag d))
      ∧ (x.kind = .writeZeroes ∨ x.kind = .dealloc → startCmd tag cap d = runZero tag d)
      ∧ (x.kind = .dsm → startCmd tag cap d = endCmd tag ok d)
      ∧ (x.kind = .flush ∨ x.kind = .flushAll →
        (flushReady d x = true → startCmd tag cap d = endCmd tag ok d ∧ ∀ s : State, s.dev = d → Gives (.flushComplete tag) s (endCmd tag ok d))
        ∧ (flushReady d x = false → startCmd tag cap d = d ∧ ∀ s : State, s.dev = d → Gives (.flushComplete tag) s d))
      ∧ (flushReady d x = true ↔ ∀ t y, (t, y) ∈ d.adm.cmds → isWrite y.kind = true → y.completed = false →
          ∀ b ∈ x.bounds, b.1 = y.nsid → b.2 ≤ y.asn)))

/-- Write Exclusive refuses other hosts' writes, Exclusive Access their reads too; the Registrants Only and All Registrants types
let registrants through; the holder is never refused. Register adds a registrant, at most 126; Clear leaves neither registrant nor
reservation. A command that changed the record completes once the record stands on both keepers and a mirror acknowledgement
covers it (13 R395). Rests on 07 R210 and the NVM Express
reservation types. -/
def Obligations.Reservations : Prop := ∀ (r : ResvRecord) (host cove : Nat) (a : ResvArgs),
  (holds r host = true → ∀ b, resvConflict r host b = false)
  ∧ (holds r host = false →
    (r.rtype = 0 → ∀ b, resvConflict r host b = false) ∧ (r.rtype = 1 → ∀ b, resvConflict r host b = !b) ∧ (r.rtype = 2 → ∀ b, resvConflict r host b = true)
    ∧ (r.rtype = 3 ∨ r.rtype = 5 → ∀ b, resvConflict r host b = (!b && (registrant r host).isNone))
    ∧ (r.rtype = 4 ∨ r.rtype = 6 → ∀ b, resvConflict r host b = (registrant r host).isNone))
  ∧ (a.action = 0 → registrant r host = none → r.registrants.length < 126 → a.cptpl = 0 →
    (resvRegister r host cove a).st = ok
    ∧ (resvRegister r host cove a).rec_ = { r with registrants := r.registrants ++ [{ hostid := host, key := a.newKey, cove := cove }] }
    ∧ registrant (resvRegister r host cove a).rec_ host = some r.registrants.length)
  ∧ (registrant r host = none → (resvAcquire r host a).st = gen 0x83 ∧ (resvAcquire r host a).rec_ = r ∧ (resvRelease r host a).st = gen 0x83)
  ∧ (∀ i, registrant r host = some i → (r.registrants[i]?).map (·.key) = some a.currentKey →
    (a.action = 0 → r.rtype = 0 → 1 ≤ a.rtype → a.rtype ≤ 6 →
      (resvAcquire r host a).st = ok ∧ (resvAcquire r host a).rec_ = { r with rtype := a.rtype, holder := some i } ∧ holds (resvAcquire r host a).rec_ host = true)
    ∧ (a.action = 1 → (resvRelease r host a).rec_.registrants = [] ∧ (resvRelease r host a).rec_.rtype = 0))
  ∧ (∀ (s : State) (n : Nat), let d := s.dev
    Gives (.reservationRecordDurable n) s (settleResv (recordsWritten
      (fun _ c => writesLba (fun l => l == resvLba n) c && (keepersOf d (nsShoal d n)).contains c.bay)
      { d with host.waits := d.host.waits.map (fun w => if w.kind = 10 ∧ w.subject = n then { w with stands := true } else w) })))
  ∧ (∀ (d : Dev) (w : AdminWait), w.kind = 10 → d.host.waits = [w] →
    (w.stands = true → mirrors d = false ∨ w.mseq ≤ d.pair.ackMseq →
      settleResv d = decideIo { cntlid := w.cntlid, sqid := w.arg, cid := w.cid, nsid := w.subject } ok false { d with host.waits := [] })
    ∧ (w.stands = false ∨ (mirrors d = true ∧ d.pair.ackMseq < w.mseq) → settleResv d = d))

/-- Who may run an admin command: a controller that is enabled; one for Cove 0 alone is an Invalid Command Opcode to a host of
another Cove, and one for hosts alone is so to the mailbox, which refuses any command while it is not READY or runs another. A
mailbox command's result stands in the mailbox area. Abort takes back a capsule that is not yet admitted; the fifth event request is
refused and an event that waits completes one at once; a queue that is frozen is thawed, with the count of capsules held, or its
capsules are discarded and it stays frozen. Lost Range Acknowledge waits for the labels that it changes. Rests on 07 R199, R219,
R222, R227, 18 R504, R505; 07 R205, R217, R220, R227. -/
def Obligations.AdminCommands : Prop :=
  (∀ (d : Dev) (c cid : Nat) (w : Who) (f : Dev → Dev),
    (c ≠ 0 → (ctrlOf d c = none → admin c cid w f d = d)
      ∧ ∀ k, ctrlOf d c = some k →
        (k.enabled = false ∨ k.ended = true → admin c cid w f d = d)
        ∧ (k.enabled = true → k.ended = false →
          (w = .cove0 → k.cove ≠ 0 → admin c cid w f d = answerAdmin c cid (gen 0x01) 0 d)
          ∧ (w ≠ .cove0 ∨ k.cove = 0 → admin c cid w f d = f d)))
    ∧ (d.mhi.mboxReady = false ∨ (d.mhi.mboxBusy = true ∧ d.mhi.mboxPending = false) →
        admin 0 cid w f d = { d with mhi.mboxRefused := true })
    ∧ (d.mhi.mboxReady = true → d.mhi.mboxBusy = false ∨ d.mhi.mboxPending = true →
        let e := { d with mhi.mboxRefused := false, mhi.mboxBusy := true, mhi.mboxPending := false,
                          mhi.mboxRoom := if d.mhi.mboxPending then d.mhi.mboxRoom else none }
        (w = .hosts → admin 0 cid w f d = answerAdmin 0 cid (gen 0x01) 0 e) ∧ (w ≠ .hosts → admin 0 cid w f d = f e))
    ∧ (∀ (m : Memory) (r : MboxResult), m.wf = true → d.mhi.mboxResult = some r → r.status < 2 ^ 32 →
        let n := (placeMbox d m).2
        mgets n (mailboxBase + 0x80) 4 = leBytes r.status 4 ∧ mgets n (mailboxBase + 0x84) 4 = leBytes r.dw0 4
        ∧ mgets n (mailboxBase + 0x88) 4 = leBytes (mboxOut d r).length 4 ∧ mgets n (mailboxBase + 0x8C) 4 = leBytes r.nvme 4
        ∧ mgets n (mailboxBase + 0x1000) (mboxOut d r).length = mboxOut d r ∧ n.wf = true
        ∧ (∀ room, d.mhi.mboxRoom = some room → (mboxOut d r).length ≤ room) ∧ (d.mhi.mboxRoom = none → mboxOut d r = r.bytes)))
  ∧ (∀ (s : State) (c cid q n : Nat) (k : Ctrl),
    let d := s.dev
    c ≠ 0 → ctrlOf d c = some k → k.enabled = true → k.ended = false →
    (∀ x, sqOf d c q = some x → q ≠ 0 →
      (x.frozen = true →
        Runs (.queueThawResume c cid q) s (runSq c q (recheckHead c q (answerAdmin c cid ok x.held.length
          (modSq c q (fun y => { y with frozen := false, entry := none }) d))))
        ∧ (x.held = [] → Runs (.queueThawDiscard c cid q) s (answerAdmin c cid ok 0
          (modSq c q (fun y => { y with entry := y.entry.map (fun e => { e with cause := 3 }) }) d)))
        ∧ (∀ h, x.held = [h] → Runs (.queueThawDiscard c cid q) s (answerAdmin c cid ok 1
          (modSq c q (fun y => { y with entry := y.entry.map (fun e => { e with cause := 3 }) }) (rejectCapsule c q h (vendor d c 0x81 true 0) d)))))
      ∧ (x.frozen = false → Runs (.queueThawResume c cid q) s (answerAdmin c cid (gen 0x0C) 0 d)
        ∧ Runs (.queueThawDiscard c cid q) s (answerAdmin c cid (gen 0x0C) 0 d))
      ∧ (x.held.find? (fun h => h.cap.cid == n) = none → Runs (.abort c cid q n) s (answerAdmin c cid ok 1 d))
      ∧ (∀ h l, x.held = h :: l → h.cap.cid = n → Runs (.abort c cid q n) s (runSq c q (answerAdmin c cid ok 0 (rejectCapsule c q h (gen 0x07)
          { d with pool.waiting := d.pool.waiting.filter (fun y => y != (c, q)) })))))
    ∧ (sqOf d c q = none → Runs (.queueThawResume c cid q) s (answerAdmin c cid (cmdSpec 0x01) 0 d)
      ∧ Runs (.queueThawDiscard c cid q) s (answerAdmin c cid (cmdSpec 0x01) 0 d) ∧ Runs (.abort c cid q n) s (answerAdmin c cid ok 1 d))
    ∧ (4 ≤ k.aers.length → Runs (.asynchronousEventRequest c cid) s (answerAdmin c cid (cmdSpec 0x05) 0 d))
    ∧ (k.aers.length < 4 → k.pendingEvents = [] → Runs (.asynchronousEventRequest c cid) s
        (modCtrl c (fun x => { x with aers := x.aers ++ [cid], pendingEvents := x.pendingEvents.drop 1 }) d))
    ∧ (∀ e l, k.aers = [] → k.pendingEvents = e :: l → Runs (.asynchronousEventRequest c cid) s (answerAdmin c cid ok (asyncDw0 e)
        (emit (.asyncEvent c cid e) (modCtrl c (fun x => { x with aers := [], pendingEvents := x.pendingEvents.drop 1 }) d))))
    ∧ (let gone := fun (e : LostEntry) => decide (e.seq ≤ n) && (e.resolved || e.dead)
      (k.cove = 0 → (∀ v, v < 2 → (d.shelf.labels.all (fun l => !l.2.lost.any gone && l.2.lostOverflow == 0)) = true →
          Runs (.lostRangeAcknowledge c cid v n) s (answerAdmin c cid ok 0 d))
        ∧ (∀ sh l, d.shelf.labels = [(sh, l)] → l.lost.any gone = true →
          let e := writeLabels sh (setLabel sh { l with lost := l.lost.filter (fun x => !gone x) } d)
          Runs (.lostRangeAcknowledge c cid 0 n) s { e with shelf.labelWaits := e.shelf.labelWaits ++ [.ack c cid (l.lost.filter gone).length] }))
      ∧ (k.cove ≠ 0 → ∀ v, Runs (.lostRangeAcknowledge c cid v n) s (answerAdmin c cid (gen 0x02) 0 d))))

/-- Log pages, Identify and Get ASN Status answer a window of their page, from the offset that the command names, zeros past its
end; reading log C1h without Retain unmasks vendor events, and log 80h gives up its oldest notice. Rests on 07 R200, R221, R224 to
R230, R238, 05 R162. -/
def Obligations.LogPages : Prop := ∀ (s : State) (c cid off len : Nat) (k : Ctrl),
  let d := s.dev
  let page := fun (l : List Byte) (e : Dev) => answerData c cid (window l off len) 0 e
  c ≠ 0 → ctrlOf d c = some k → k.enabled = true → k.ended = false →
  Runs (.getLogErrorInformation c cid off len) s (page (k.errors.flatMap errorBytes) d)
  ∧ Runs (.getLogSmart c cid off len) s (page (leBytes (Config.freeValue d.draws) 1 ++ leBytes (d.mhi.temp + 273).toNat 2
      ++ leBytes (Config.freeValue d.draws / 256) 509) { d with draws := d.draws + 1 })
  ∧ Runs (.getLogAna c cid off len) s (page (anaLog d c) d)
  ∧ (k.resvNotices = [] → Runs (.getLogReservationNotification c cid off len) s
      (page (zeros 64) (modCtrl c (fun x => { x with resvNotices := x.resvNotices.drop 1 }) d)))
  ∧ (∀ t n r, k.resvNotices = (t, n) :: r → Runs (.getLogReservationNotification c cid off len) s
      (page (leBytes (k.resvCount - (r.length + 1) + 1) 8 ++ leBytes t 1 ++ leBytes (min r.length 255) 1 ++ zeros 2 ++ leBytes n 4 ++ zeros 48)
        (modCtrl c (fun x => { x with resvNotices := x.resvNotices.drop 1 }) d)))
  ∧ (∃ l, Runs (.getLogSanitizeStatus c cid off len) s (page l d) ∧ l.length = 512
      ∧ (d.host.san.state ≤ 3 → (l.drop 2).take 2 = leBytes ([0, 2, 1, 3].getD d.host.san.state 0) 2) ∧ (l.drop 4).take 4 = leBytes d.host.san.cdw10 4)
  ∧ (∃ l, Runs (.getLogLostRange c cid off len) s (page l d) ∧ (l.drop 8).take 8 = leBytes (lostOverflow d) 8
      ∧ (k.cove = 0 → l.take 4 = leBytes (lostEntries d).length 4))
  ∧ (∀ rae, ∃ l, Runs (.getLogQueueFreeze c cid off len rae) s
        (page l (if rae then d else modCtrl c (fun x => { x with vendorMasked := false }) d))
      ∧ l.take 4 = leBytes (d.host.sqs.filter (fun x => x.1 / 65536 == c && x.2.frozen)).length 4)
  ∧ Runs (.getLogShelfHealth c cid off len) s (page (shelfHealth d) d)
  ∧ (∃ l, Runs (.getLogFormatProgress c cid off len) s (page l d)
      ∧ l.take 4 = leBytes (d.host.nss.filter (fun n => n.2.fmt != .none && attached d c n.1)).length 4)
  ∧ (∀ cns nsid l, identifyData d c cns nsid = some l → Runs (.identify c cid cns nsid) s (answerData c cid l 0 d))
  ∧ (∀ cns nsid, identifyData d c cns nsid = none → Runs (.identify c cid cns nsid) s (answerAdmin c cid (gen 0x02) 0 d))
  ∧ (∀ nsid n, tget d.host.nss nsid = some n → attached d c nsid = true → Runs (.getAsnStatus c cid nsid) s
      (answerData c cid (leBytes n.nextAsn 8 ++ leBytes (lowWater d nsid) 8 ++ leBytes ((tget d.pool.marks nsid).getD 0) 8
        ++ leBytes n.resumes 4 ++ zeros 4) 0 d))
  ∧ (∀ nsid, attached d c nsid = false → Runs (.getAsnStatus c cid nsid) s (answerAdmin c cid (gen 0x0B) 0 d))
  ∧ (∀ l : List Byte, (window l off len).length = len ∧ ∀ i, i < len → (window l off len)[i]? = some ((l[off + i]?).getD 0))

/-- Each feature: a Set changes the one value it names and completes, a value outside its range is an Invalid Field, and a Get
answers the value in DW0. Rests on 07 R200, R205, R213, R215, R219, R227, R231 to R233, R241, 05 R161, 17 R482. -/
def Obligations.Features : Prop := ∀ (s : State) (c cid v : Nat) (k : Ctrl),
  let d := s.dev
  let done := fun (f : Ctrl → Ctrl) => answerAdmin c cid ok 0 (modCtrl c f d)
  let bad := answerAdmin c cid (gen 0x02) 0 d
  let dw0 := fun (n : Nat) => answerAdmin c cid ok n d
  c ≠ 0 → ctrlOf d c = some k → k.enabled = true → k.ended = false →
  (v < 2 → Runs (.setFeaturesAsnReporting c cid v) s (done (fun x => { x with asnReport := v == 1 }))
    ∧ Runs (.setFeaturesHostBehavior c cid v) s (done (fun x => { x with acre := v == 1 })))
  ∧ (2 ≤ v → Runs (.setFeaturesAsnReporting c cid v) s bad ∧ Runs (.setFeaturesHostBehavior c cid v) s bad)
  ∧ Runs (.getFeaturesAsnReporting c cid) s (dw0 (if k.asnReport then 1 else 0))
  ∧ Runs (.getFeaturesHostBehavior c cid) s (answerData c cid (leBytes (if k.acre then 1 else 0) 512) 0 d)
  ∧ Runs (.setFeaturesAsyncEventConfig c cid v) s (done (fun x => { x with aerConfig := v % 2 ^ 32 }))
  ∧ Runs (.getFeaturesAsyncEventConfig c cid) s (dw0 k.aerConfig)
  ∧ Runs (.setFeaturesKeepAliveTimer c cid v) s (done (fun x => { x with kato := (v + 99) / 100 * 100 }))
  ∧ Runs (.getFeaturesKeepAliveTimer c cid) s (dw0 k.kato)
  ∧ Runs (.keepAlive c cid) s (dw0 0)
  ∧ (∀ w, let n := min (min v w + 1) ((coveCfg d k.cove).qpQuota - 1)
    (v < 65535 → w < 65535 → sqsOf d c = [] → Runs (.setFeaturesNumberOfQueues c cid v w) s
      (answerAdmin c cid ok (queuesDw0 n) (modCtrl c (fun x => { x with nQueues := n }) d)))
    ∧ (65535 ≤ v ∨ 65535 ≤ w → Runs (.setFeaturesNumberOfQueues c cid v w) s bad)
    ∧ (v < 65535 → w < 65535 → sqsOf d c ≠ [] → Runs (.setFeaturesNumberOfQueues c cid v w) s (answerAdmin c cid (gen 0x0C) 0 d)))
  ∧ Runs (.getFeaturesNumberOfQueues c cid) s (dw0 (queuesDw0 k.nQueues))
  ∧ (bit (coveCfg d k.cove).flags 0 = true → (v ≤ 3 → Runs (.setFeaturesPowerManagement c cid v) s (answerAdmin c cid ok 0 (setPower v d)))
    ∧ (3 < v → Runs (.setFeaturesPowerManagement c cid v) s bad))
  ∧ (bit (coveCfg d k.cove).flags 0 = false → Runs (.setFeaturesPowerManagement c cid v) s (answerAdmin c cid (gen 0x15) 0 d))
  ∧ Runs (.getFeaturesPowerManagement c cid) s (dw0 d.host.power)
  ∧ (∀ nsid n, tget d.host.nss nsid = some n → attached d c nsid = true →
    Runs (.getFeaturesWriteProtection c cid nsid) s (dw0 n.writeProtect)
    ∧ (n.writeProtect = v → v ≤ 3 → Runs (.setFeaturesWriteProtection c cid nsid v) s (dw0 0))
    ∧ (3 < v → Runs (.setFeaturesWriteProtection c cid nsid v) s bad)
    ∧ (v ≤ 3 → n.writeProtect < 2 → n.writeProtect ≠ v → Runs (.setFeaturesWriteProtection c cid nsid v) s
        (answerAdmin c cid ok 0 (writeProtect nsid v d)))
    ∧ (v ≤ 3 → 2 ≤ n.writeProtect → n.writeProtect ≠ v → Runs (.setFeaturesWriteProtection c cid nsid v) s
        (answerAdmin c cid (cmdSpec 0x0E) 0 d)))
  ∧ (k.cove = 0 → v < 4 → Runs (.eventLogControlClear c cid v) s (answerAdmin c cid ok 0 (clearEvents 1 d))
    ∧ (v % 4 / 2 = 0 → Runs (.eventLogControlFlush c cid v) s (answerAdmin c cid ok 0 (requestFlush d))))
  ∧ (k.cove ≠ 0 ∨ 4 ≤ v → Runs (.eventLogControlClear c cid v) s bad ∧ Runs (.eventLogControlFlush c cid v) s bad)
  ∧ Runs (.getFeaturesEventLogControl c cid) s (dw0 (d.ev.slots.length % 262144 + 262144 * min d.ev.lost 0x3FFF))
  ∧ Runs (.getFeaturesLostRange c cid) s (dw0 (lostEntries d).length)
  ∧ (d.host.ps3Wanted = true → (ps3Ready d = true → Gives .ps3Enter s { d with host.power := 3, host.ps3Wanted := false })
    ∧ (ps3Ready d = false → Gives .ps3Enter s d))
  ∧ (setPower 3 d).host.power = d.host.power ∧ (v < 3 → (setPower v d).host.power = v ∧ (setPower v d).host.lastOperational = v)

/-- A stripe is sealed by its timer with cause 1, or when an SJOURNAL entry comes free for it: it takes the lowest free entry and
the Shoal's next generation, and keeps the blocks it holds. Without an entry it waits unsealed. Strips are written once parity is
done, the row's region is marked on both keepers and no shelf record is pending. A strip write that is durable sets its bit and
clears LATE. A stripe is DURABLE when every strip is, or when those missing are at most PARITY - 1 and none of them was issued.
Rests on 04 R111, R114, R116; 04 R114, R117, R118, 06 R175, R176. -/
def Obligations.StripWrites : Prop :=
  (∀ (s : State) (sh st : Nat) (t : Stripe),
    let d := s.dev
    openOf d sh st = some t →
    (t.slots ≠ [] ∨ recordSlots d sh st ≠ 0 → t.sealWait = false →
      (∀ e, sealStripe 1 t d = some e → Gives (.sealTimer sh st) s e)
      ∧ (freeJournal d = none → Gives (.sealTimer sh st) s (setRow { t with sealWait := true, sealCause := 1 } d)))
    ∧ ((t.slots = [] ∧ recordSlots d sh st = 0) ∨ t.sealWait = true → Gives (.sealTimer sh st) s d)
    ∧ (t.sealWait = true → (∀ e, sealStripe t.sealCause t d = some e → Gives (.sealRetry sh st) s e)
      ∧ (freeJournal d = none → Gives (.sealRetry sh st) s d))
    ∧ (t.sealWait = false → Gives (.sealRetry sh st) s d)
    ∧ (∀ cause i, freeJournal d = some i → ∃ e x, sealStripe cause t d = some e ∧ rowAt e t.shoal t.row = some x ∧ x.life = .sealed
      ∧ x.sealCause = cause ∧ x.inJournal = true ∧ x.jindex = i ∧ x.gen = ((shoalOf d t.shoal).map (·.gen)).getD 0 + 1 ∧ x.placed = t.placed
      ∧ t.slots.map (fun o => o.map (fun b => { b with geo := geoGen x })) <+: x.slots ∧ x.sealWait = false
      ∧ (shoalOf e t.shoal).map (·.gen) = (shoalOf d t.shoal).map (fun h => h.gen + 1)
      ∧ blank [.perf, .pair, .pool, .str, .path, .out] e = blank [.perf, .pair, .pool, .str, .path, .out] d))
  ∧ (∀ (s : State) (sh row : Nat),
    let d := s.dev
    (∀ t, rowAt d sh row = some t →
      (t.life = .sealed → Gives (.parityJobDone sh row true) s (judgeFolds (tryIssue sh row
        (setRow { t with parityDone := true, parity := parityStrips d t } (parityResult t d)))))
      ∧ Gives (.parityJobDone sh row false) s (judgeFolds d)
      ∧ (t.life ≠ .sealed → Gives (.parityJobDone sh row true) s (judgeFolds d))
      ∧ (d.pair.recordPending = true → tryIssue sh row d = d)
      ∧ (t.life = .sealed → t.parityDone = true → d.pair.recordPending = false → ∀ h, shoalOf d sh = some h →
        (dirtyRegion row ∉ h.dirty → tryIssue sh row d = markRegion sh (dirtyRegion row) d)
        ∧ (dirtyRegion row ∈ h.dirty → .issue sh row ∉ d.shelf.labelWaits → unmarkedOmitted d t = [] →
          let ps := (writtenPos (stripeGeom d t) row).filterMap (fun p => (writeBay d t p).map (fun b => (p, b)))
          tryIssue sh row d = judgeStripe sh row (ps.foldl (fun a x => memberIssue x.2 (.writeStrip sh row x.1) a)
            (let gone := (writtenPos (stripeGeom d t) row).filter (fun p => (writeBay d t p).isNone);
              writeJournal { t with life := .writing, issued := posBits (ps.map (·.1)), omitted := posBits gone } d))))
      ∧ (t.life = .writing → (undurable d t = [] → judgeStripe sh row d = durableStripe t d)
        ∧ ((stripeGeom d t).parity - 1 < (undurable d t).length → judgeStripe sh row d = d)))
    ∧ (∀ h, shoalOf d sh = some h →
      let e := keepersWritten sh d
      let open_ := e.shelf.cmds.any (fun x => keeperOp sh x.2.op) || e.shelf.heldOps.any (fun x => keeperOp sh x.2)
      (open_ = true → Gives (.keeperWriteDone sh) s (judgeFolds e))
      ∧ (open_ = false → h.keeperBehind = false ∨ h.marking = [] → Gives (.keeperWriteDone sh) s (judgeFolds
        (issueAll sh (modShoal sh (fun x =>
          { x with keeperBehind := false, marking := [], clearing := [], dirty := x.dirty ++ x.marking.filter (fun k => !x.dirty.contains k) }) e))))
      ∧ (open_ = false → h.keeperBehind = true → h.marking ≠ [] → let f := modShoal sh (fun x => { x with keeperBehind := false }) e
        Gives (.keeperWriteDone sh) s (judgeFolds (writeKeepers sh (keepersOf f sh) f)))
      ∧ (∀ b bs, let w := writeKeepers sh (b :: bs) d
          (shoalOf w sh).map (·.keeperSeq) = some (h.keeperSeq + 1) ∧ keptRegions w sh = h.dirty ++ h.marking))
    ∧ (∀ m c, tget d.shelf.cmds m = some c → c.phase ≠ .queued →
      (∀ pos, c.op = .writeStrip sh row pos → Gives (.stripWriteComplete m) s (settleStripes
        (occur 6 2 131072 (memberAttr c.bay 0) (stripDurable sh row pos (memberEnd m d)))))
      ∧ (∀ pos, c.op = .parityWrite sh row pos → Gives (.stripWriteComplete m) s (settleStripes
        (tryFree sh row (occur 6 2 131072 (memberAttr c.bay 3) (memberEnd m d)))))
      ∧ (∀ pos, c.op = .rebuildWrite sh row pos → Gives (.stripWriteComplete m) s (settleStripes (builtDone m d)))
      ∧ (∀ lba b, c.op = .recordWrite lba b → Gives (.stripWriteComplete m) s (settleStripes (recordDone m c.bay d)))))

/-- A stripe commits only from DURABLE and only while MAPLOG has room for all its records; then its STRIPE record comes first and
its runs follow, under rising SEQ. A checkpoint takes the SEQ of the last record as q and the next generation; its header is written
only when its blocks have landed, frees the records up to q and moves the tail past it. A cleared dirty mark is then written to the
keepers. A fetched map page enters the map cache, and the fetch ends; a deallocate that is terminal on its member leaves the rows it
named waiting for the other members only. Rests on 04 R128, R129, R87; 04 R119, R129; 04 R124, 06 R169. -/
def Obligations.StripesCommit : Prop :=
  (∀ (d : Dev) (sh row : Nat) (t : Stripe), rowAt d sh row = some t →
    (t.life ≠ .durable → commitStripe sh row d = d)
    ∧ (logFree d < (groupRuns d t.placed).length + 1 → commitStripe sh row d = d)
    ∧ (t.life = .durable → t.shoal = sh → t.row = row → t.placed = [] → t.live ≠ 0 → 0 < logFree d →
      let e := commitStripe sh row d
      e.str.log = d.str.log ++ [{ type := 5, seq := d.str.nextSeq, flags := t.geometry, start := t.gen,
                                  phys := some { shoal := sh, row := row, slot := 0 } }]
      ∧ e.str.nextSeq = d.str.nextSeq + 1 ∧ ∃ x, rowAt e sh row = some x ∧ x.life = .committed ∧ x.mapSeq = d.str.nextSeq)
    ∧ (∀ s : State, s.dev = d → Gives .commitRetry s
        (settleStripes (d.str.rows.foldl (fun a e => commitStripe e.2.shoal e.2.row a) d))))
  ∧ (∀ s : State,
    let d := s.dev
    (d.str.ckpt = none → d.str.shoals ≠ [] → Leads .checkpointTimer s (fun u => u.mem = s.mem ∧ ∃ k, u.dev.str.ckpt = some k
      ∧ k.q = d.str.nextSeq - 1 ∧ k.gen = d.str.ckptGen + 1 ∧ k.snap = d.str.map))
    ∧ (d.str.ckpt.isSome = true → Gives .checkpointTimer s d)
    ∧ (∀ k, d.str.ckpt = some k → k.todo = [] → k.segments = true →
      (ckptLanded d k.gen = true → 2 * (d.str.log.filter (fun r => decide (k.q < r.seq))).length < logSize d →
        Leads .checkpointComplete s (fun u => u.dev.str.log = d.str.log.filter (fun r => decide (k.q < r.seq))
          ∧ u.dev.str.tailSeq = k.q + 1 ∧ u.dev.str.ckptGen = k.gen ∧ u.dev.str.ckptMap = k.snap ∧ u.dev.str.ckpt = none
          ∧ u.dev.str.rows = d.str.rows ∧ u.dev.str.map = d.str.map ∧ u.mem = s.mem))
      ∧ (ckptLanded d k.gen = false → 2 * d.str.log.length < logSize d → Gives .checkpointComplete s d))
    ∧ (∀ sh h, shoalOf d sh = some h →
      (h.clearing ≠ [] → Gives (.bitmapClearTimer sh) s
        (writeKeepers sh (keepersOf d sh) (modShoal sh (fun x => { x with clearing := [] }) d)))
      ∧ (h.clearing = [] → Gives (.bitmapClearTimer sh) s d)))
  ∧ (∀ s : State,
    let d := s.dev
    (∀ p, p ∈ d.str.fetching →
      let e := { d with str.fetching := d.str.fetching.filter (fun x => x != p), str.cached := d.str.cached ++ [p] }
      let f := match tget d.str.dir (dirKey 0 p) with
        | some q => endCmds (fun c => c.op == .readBlock q) (mapPageCells p e)
        | none => e
      ∀ got : BlockRead, (pageGood d p got.res got.recon got.bad = true → Gives (.mapPageFetchDone p got) s f)
        ∧ (pageGood d p got.res got.recon got.bad = false → Gives (.mapPageFetchDone p got) s (losePage p f)))
    ∧ (∀ p got, p ∉ d.str.fetching → Gives (.mapPageFetchDone p got) s d)
    ∧ (∀ m c rs, tget d.shelf.cmds m = some c → c.op = .deallocate rs →
      Gives (.memberDeallocateDone m) s (sendDeallocs c.bay (memberEnd m (
        let left := d.shelf.deallocs.map (fun e => if rs.contains e.1 then (e.1, e.2.filter (fun b => b != c.bay)) else e)
        { d with shelf.deallocs := left.filter (fun e => !e.2.isEmpty) })))))

/-- A write is put into a stripe only when every page of it is STAGED; its partly covered grains are filled afterwards, and a masked
grain is rewritten once its fill can resolve. A change held back by a lower read waits. Ebb takes the row that R134 names, and none
at PRESS, in PS3 or on a side that does not write the members. Rests on 04 R110, R113, R132, R134, R136, 03 R84, R86, 05 R153, R154,
13 R391. -/
def Obligations.AssemblyAndEbb : Prop := ∀ s : State,
  let d := s.dev
  (∀ tag c, tget d.adm.cmds tag = some c →
    let n := max (nsGrain d c.nsid) 1
    let g := curGeom d (nsShoal d c.nsid)
    let st := if g.streams ≤ 1 then 0 else min c.stream (g.streams - 2)
    (c.kind = .write → c.absent = false → c.pages ≠ [] → allStaged d c = true → Gives (.assembleCommand tag) s
      (placeWhole tag st n (c.toPlace.filter (fun x => coversGrain c.ranges x n))
        { d with adm.cmds := tput d.adm.cmds tag { c with assembled := true, stream := st } }))
    ∧ (allStaged d c = false → Gives (.assembleCommand tag) s d)
    ∧ (∀ bad, c.assembled = true → c.absent = false → Gives (.fillResolve { tag := tag, bad := bad }) s
      (resumeRepairs (fillGrains tag n bad (c.toPlace.filter (fun x => !coversGrain c.ranges x n)) d)))
    ∧ (∀ bad, c.assembled = false → Gives (.fillResolve { tag := tag, bad := bad }) s (resumeRepairs d)))
  ∧ (∀ nsid g o bs bad, d.str.overlays.find? (fun x => x.nsid == nsid && x.grain == g) = some o →
    let n := max (nsGrain d nsid) 1
    d.str.rows.any (fun e => e.2.life != .committed && e.2.placed.any (fun p =>
      p.nsid == nsid && p.grain == g && p.asn == o.asn && p.src.isNone)) = false →
    let rest := (run (g * n) n).filter (fun l => !bit o.mask (l % n))
    let e := fillFetch nsid o.asn rest d
    (rest.all (fun l => fillReady e nsid l o.asn) = false → Gives (.zeroMaskRewrite nsid { grain := g, bad := bad }) s (resumeRepairs e))
    ∧ (∀ f, rest.all (fun l => fillReady e nsid l o.asn) = true →
      fillBlocks bad nsid o.asn (fun a l => if bit o.mask (l % n) then some (some (zeroBlock a nsid l o.asn)) else none) (run (g * n) n) e = (some bs, f) →
      Gives (.zeroMaskRewrite nsid { grain := g, bad := bad }) s (resumeRepairs
        (placeGrain (nsShoal d nsid) 0 false 0 { nsid := nsid, grain := g, slot := 0, count := n, asn := o.asn } bs f).2)))
  ∧ (∀ nsid g bad, d.str.overlays.all (fun x => !(x.nsid == nsid && x.grain == g)) = true →
    Gives (.zeroMaskRewrite nsid { grain := g, bad := bad }) s (resumeRepairs d))
  ∧ (∀ nsid g x, d.str.deferred = [x] → x.nsid = nsid → x.grain = g → x.cmd = none →
    (heldBack d nsid g x.asn = false → Gives (.deferredMapApply nsid g) s
      (freeNamed x.entry (applyGrain nsid g x.entry x.asn { d with str.deferred := [] })))
    ∧ (heldBack d nsid g x.asn = true → Gives (.deferredMapApply nsid g) s d))
  ∧ (∀ sh got cold, d.pair.role = .standby ∨ d.pair.role = .fenced → Gives (.ebbRelocate sh got cold) s d)
  ∧ (∀ sh row bad cold, housekeepingPaused d = false → let e := judgeEvacuation sh d
    (2 ≤ e.pool.level ∨ e.host.power = 3 ∨ (ebbChoice e sh).any (fun y => y.row == row) = false →
      Gives (.ebbRelocate sh { row := row, bad := bad } cold) s e)
    ∧ (∀ x, e.pool.level < 2 → e.host.power ≠ 3 → (ebbChoice e sh).any (fun y => y.row == row) = true → rowAt e sh row = some x →
      let r := rewriteRow 2 sh row (if cold then lastStream (curGeom e sh) else 0) bad e
      let f := mirrorAdmin 38 sh 1 (modShoal sh (fun y =>
        if usesEvacuating e x = true ∧ y.evacPaused = false then { y with cursor1 := row + 1 }
        else if x.geometry ≠ (curGeom e sh).geometryId then { y with cursor3 := row + 1 } else y) r)
      Gives (.ebbRelocate sh { row := row, bad := bad } cold) s
        (resumeRepairs { f with shelf.repairs := f.shelf.repairs.filter (fun k => k != rkey sh row) })))

/-- While an entropy test has failed no key is drawn; the draws that waited are made when the source recovers. A rotation takes a
blob of a higher epoch, on a side that is not standby or fenced, and ends once every record is rewrapped: the old KEK is zeroized
and its blob erased. A namespace's key is rotated under its next KEY_GEN. A slot of a Cove takes a clear key whose MODES are not
reserved, a wrapped one that a KEK at hand unwraps for this slot, or is cleared, and reports each result; reads admitted before keep
the old key, and a write while it is held waits and replaces one that waits. The old key is zeroized once the last such read is
terminal, and the write that waited then takes effect. Rests on 12 R374, R376, R379, R381, R389, 18 R505; 12 R385 to R387, 11 R350.
-/
def Obligations.KeysAndRotation : Prop :=
  (∀ (s : State) (b : List Byte) (p : Bool),
    let d := s.dev
    let e := { d with mhi.mboxRefused := false, mhi.mboxBusy := true, mhi.mboxPending := false,
                      mhi.mboxRoom := if d.mhi.mboxPending then d.mhi.mboxRoom else none }
    (d.keys.entropyOk = true → Gives .entropyTestFail s (judgeAlert (logEvent 0x0B 1 2 (payload 0 0 0 0) { d with keys.entropyOk := false }))
      ∧ Gives .entropyRecover s d)
    ∧ (d.keys.entropyOk = false → Gives .entropyTestFail s d
      ∧ Gives .entropyRecover s (judgeAlert (d.keys.drawWaits.foldl (fun a n => drawKey n 1 a) { d with keys.entropyOk := true, keys.drawWaits := [] })))
    ∧ (∀ n, d.keys.entropyOk = false → firstKey n d = { d with keys.drawWaits := d.keys.drawWaits ++ [n] })
    ∧ (∀ n g x, tget d.host.nss n = some x →
        let r : KeyRecord := { nsid := n, kind := if x.auth then 2 else 1, keyGen := g, kekEpoch := kekEpoch d }
        let v := Config.drbg d.draws % 2 ^ (8 * kindBytes r.kind)
        let k : NsKey := { rec_ := r, wrapped := wrapNs d r v, key := v }
        drawKey n g d = configWrite (keyLba n) (keyRecord k) (mirrorConfig 5 (keyRecord k) (mirrorKeyIndex n
          { kwPass (if x.auth then 30 else 54) { d with draws := d.draws + 1 } with
            keys.seeds := d.keys.seeds + 1, keys.nsKeys := tput d.keys.nsKeys n k
            host.nss := tmod d.host.nss n (fun y => { y with keyGen := g, keyAvailable := true }) })))
    ∧ (d.mhi.mboxReady = true → d.mhi.mboxBusy = false ∨ d.mhi.mboxPending = true →
      (d.keys.kek = none ∨ d.keys.rotating.isSome = true ∨ d.pair.role = .standby ∨ d.pair.role = .fenced →
        Runs (.mboxShelfkeyRotate b p) s (mboxDone { status := 3 } e))
      ∧ ∀ k, d.keys.kek = some k → d.keys.rotating = none → d.pair.role = .solo ∨ d.pair.role = .active →
        (blobOk d b = false ∨ blobEpoch b ≤ k.1 → Runs (.mboxShelfkeyRotate b p) s (mboxDone { status := 2 } e))
        ∧ (blobOk d b = true → k.1 < blobEpoch b →
          (unsealBlob b = none → Runs (.mboxShelfkeyRotate b p) s (mboxDone { status := 7 } e))
          ∧ ∀ v, unsealBlob b = some v → Runs (.mboxShelfkeyRotate b p) s (noteFlash e { e with
              keys.rotating := some (blobEpoch b), keys.extra := tput d.keys.extra (blobEpoch b) v
              keys.rotatePersist := p, keys.blob1 := if p then b else d.keys.blob1
              host.waits := d.host.waits ++ [{ cntlid := 0, cid := 0, kind := 8 }] })))
    ∧ (d.keys.rotating = none ∨ d.keys.entropyOk = false ∨ d.keys.kek = none → Runs .keyRotationDone s d)
    ∧ (∀ n v, d.keys.rotating = some n → tget d.keys.extra n = some v → d.keys.entropyOk = true → d.keys.kek.isSome = true →
        d.keys.nsKeys = [] → d.keys.slots = [] →
        Runs .keyRotationDone s (mboxDone { status := 0 } (logEvent 0x0B 4 0 (payload 0 (kekEpoch d) n 0) (kwPass 0 (noteFlash d { d with
          keys.rotating := none, keys.extra := terase (terase d.keys.extra n) (kekEpoch d), keys.blob1 := []
          keys.blob0 := if d.keys.rotatePersist = true ∨ blobEpoch d.keys.blob1 = n then d.keys.blob1 else []
          keys.kek := some (n, v), keys.kekCheck := kekCheckOf (kekValue v d.pair.shelfId n)
          keys.nsKeys := [], keys.slots := [], host.waits := d.host.waits.filter (fun w => w.kind != 8) }))))))
  ∧ (∀ (s : State) (c i : Nat),
    let d := s.dev
    let e := { d with keys.stage := terase d.keys.stage (c * 16 + i) }
    let fails := fun (r : Nat) => { e with keys.lastResult := tput d.keys.lastResult c (i, r) }
    let loaded := fun (m k n : Nat) (w : List Byte) =>
      writeSlot { cove := c, slot := i, loaded := true, modes := m, kekEpoch := n, key := k, wrapped := w } (kwPass 30 e)
    (16 ≤ i ∨ thas d.cove.tab c = false ∨ blocksOpen d = false →
      (∀ m k, Gives (.keySlotLoadClear c i m k) s d) ∧ (∀ w, Gives (.keySlotLoadWrapped c i w) s d) ∧ Gives (.keySlotClear c i) s d)
    ∧ (i < 16 → thas d.cove.tab c = true → blocksOpen d = true →
      (∀ m k, (m < 16 → Gives (.keySlotLoadClear c i m k) s
          (loaded m (k % 2 ^ 256) (kekEpoch d) (wrapSlot d (kekEpoch d) (k % 2 ^ 256) i m)))
        ∧ (16 ≤ m → Gives (.keySlotLoadClear c i m k) s (fails 3)))
      ∧ Gives (.keySlotClear c i) s (writeSlot { cove := c, slot := i, loaded := false, modes := 0, kekEpoch := kekEpoch d, key := 0 } e)
      ∧ (∀ w, let n := wide w 48 4
        (kekOf d n = none → Gives (.keySlotLoadWrapped c i w) s (fails 2))
        ∧ ((kekOf d n).isSome = true → (unwrapSlot d n (w.take 48) = none → Gives (.keySlotLoadWrapped c i w) s (fails 1))
          ∧ ∀ k j m, unwrapSlot d n (w.take 48) = some (k, j, m) →
            (j ≠ i → Gives (.keySlotLoadWrapped c i w) s (fails 1))
            ∧ (j = i → 16 ≤ m → Gives (.keySlotLoadWrapped c i w) s (fails 3))
            ∧ (j = i → m < 16 → Gives (.keySlotLoadWrapped c i w) s (loaded m k n (w.take 48))))))
    ∧ (∀ r : SlotRecord, let held := d.keys.oldKeys.any (fun o => o.cove == r.cove && o.slot == r.slot)
      (held = true → writeSlot r d = { d with keys.slotPending := tput d.keys.slotPending (r.cove * 16 + r.slot) r,
                                              keys.lastResult := tput d.keys.lastResult r.cove (r.slot, 4) })
      ∧ (held = false → writeSlot r d = applySlot r d)
      ∧ (slotReads d r.cove r.slot = [] → let y := { d with keys.slots := tput d.keys.slots (r.cove * 16 + r.slot) r }
        let x := configWrite (slotLba r.cove) (slotBlockBytes y r.cove) (mirrorConfig 6 (slotRecord r) y)
        applySlot r d = { x with keys.lastResult := tput x.keys.lastResult r.cove (r.slot, 0) }))
    ∧ (let live := d.keys.oldKeys.any (fun o => o.cove == c && o.slot == i && o.tags.any (fun t => (tget d.adm.cmds t).any (fun x => !x.completed)))
      let x := { d with keys.oldKeys := d.keys.oldKeys.filter (fun o => !(o.cove == c && o.slot == i)), keys.slotPending := terase d.keys.slotPending (c * 16 + i) }
      (live = true → Gives (.oldKeyZeroize c i) s d)
      ∧ (live = false → (tget d.keys.slotPending (c * 16 + i) = none → Gives (.oldKeyZeroize c i) s x)
        ∧ ∀ r, tget d.keys.slotPending (c * 16 + i) = some r → Gives (.oldKeyZeroize c i) s (applySlot r x))))

/-- A downloaded piece lies at its offset. Each commit refuses a slot that does not exist and an image that fails its checks,
leaving the flash as it was; a replacement writes the slot, an activation names it for the next start with no attempts. Activation
now is refused on a standby side, swaps roles on an active one, and in the SOLO role holds admission until the drain, the new
firmware or the time limit. Rests on 07 R219, R242 to R245, 15 R447, R448, log entry 17. -/
def Obligations.FirmwareCommits : Prop := ∀ (s : State) (c cid slot : Nat) (k : Ctrl),
  let d := s.dev
  let failed := fun (st : Status) => answerAdmin c cid st 0 d
  let good := fun (g : Img) => fwOk d g = true
  let next := fun (e : Dev) => { e with boot.recordValid := true, boot.recordSeq := (e.boot.recordSeq + 1) % 2 ^ 32, boot.nextSlot := slot, boot.attempts := 0,
                                        boot.recordOld := if e.boot.recordValid then bootRecordBytes e.boot else e.boot.recordOld }
  let stored := writeFwSlot d slot (downloadBytes d) s.mem
  let emptied := { d with host.fwBuffer := [] }
  c ≠ 0 → ctrlOf d c = some k → k.enabled = true → k.ended = false → k.cove = 0 →
  (∀ o b, (o + b.length ≤ 2 ^ 24 → Runs (.firmwareImageDownload c cid o b) s (answerAdmin c cid ok 0 { d with host.fwBuffer := mputs d.host.fwBuffer o b }))
    ∧ (2 ^ 24 < o + b.length → Runs (.firmwareImageDownload c cid o b) s (failed (gen 0x02))))
  ∧ (2 ≤ slot → Runs (.firmwareCommitReplace c cid slot) s (failed (cmdSpec 0x06)) ∧ Runs (.firmwareCommitReplaceActivate c cid slot) s (failed (cmdSpec 0x06))
    ∧ Runs (.firmwareCommitActivate c cid slot) s (failed (cmdSpec 0x06)) ∧ ∀ p, Runs (.firmwareCommitActivateNow c cid slot p) s (failed (cmdSpec 0x06)))
  ∧ (slot < 2 →
    (d.host.fwBuffer = [] ∨ fwOk d (fwDownload d) = false →
      Runs (.firmwareCommitReplace c cid slot) s (failed (cmdSpec 0x07)) ∧ Runs (.firmwareCommitReplaceActivate c cid slot) s (failed (cmdSpec 0x07)))
    ∧ (d.host.fwBuffer ≠ [] → good (fwDownload d) →
      Places (.firmwareCommitReplace c cid slot) s ((answerAdmin c cid ok 0 emptied), stored)
      ∧ Places (.firmwareCommitReplaceActivate c cid slot) s (answerAdmin c cid ok 0 (next emptied), stored))
    ∧ (good (fwImage d s.mem slot) → Runs (.firmwareCommitActivate c cid slot) s (answerAdmin c cid ok 0 (next d)))
    ∧ (fwOk d (fwImage d s.mem slot) = false → Runs (.firmwareCommitActivate c cid slot) s (failed (cmdSpec 0x07)))
    ∧ (∀ p, d.pair.role = .standby ∨ d.host.fwActivating.isSome = true → Runs (.firmwareCommitActivateNow c cid slot p) s (failed (gen 0x0C)))
    ∧ (d.pair.role = .active → d.host.fwActivating = none → d.host.fwBuffer ≠ [] → good (fwDownload d) →
      Runs (.firmwareCommitActivateNow c cid slot false) s (failed (cmdSpec 0x0B))
      ∧ Runs (.firmwareCommitActivateNow c cid slot true) s (startSwap (postAll { type := 2, info := 1, log := 3 }
          (answerAdmin c cid ok 0 { d with host.fwActivating := some slot, pair.swapForFirmware := true }))))
    ∧ (d.pair.role = .solo → d.host.fwActivating = none → ∀ p,
      let now := fun (e : Dev) => setPp true { next e with host.fwActivating := some slot, host.admissionHeld := true,
                                                           host.waits := d.host.waits ++ [{ cntlid := c, cid := cid, kind := 5, subject := slot }] }
      (d.host.fwBuffer ≠ [] → good (fwDownload d) → Places (.firmwareCommitActivateNow c cid slot p) s (now emptied, stored))
      ∧ (d.host.fwBuffer = [] → good (fwImage d s.mem slot) → Runs (.firmwareCommitActivateNow c cid slot p) s (now d))))
  ∧ (∀ w, fwWait d 0 = some w →
    (liveCmds d = 0 → Gives .fwActivationDrained s
      { d with host.waits := d.host.waits.map (fun x => if x.kind = 5 then { x with arg := 1 } else x) })
    ∧ (liveCmds d ≠ 0 → Gives .fwActivationDrained s d)
    ∧ Runs .fwActivationTimeout s (endActivation w (cmdSpec 0x0B) d))
  ∧ (∀ w, fwWait d 1 = some w → let g := fwImage d s.mem w.subject
    Runs .fwActivationResume s (endActivation w ok { d with mhi.fwVersion := fwVersionOf g, boot.fwSvn := g 0x14, boot.fwSlot := w.subject }))
  ∧ (fwWait d 1 = none → Runs .fwActivationResume s d) ∧ (fwWait d 0 = none → Runs .fwActivationTimeout s d)
  ∧ (∀ o n, ∃ l, Runs (.getLogFirmwareSlot c cid o n) s (answerData c cid (window l o n) 0 d) ∧ l.length = 512
    ∧ l.take 1 = leBytes (d.boot.fwSlot + 1 + 16 * (d.boot.nextSlot + 1)) 1
    ∧ (fwHeaderOk (fwImage d s.mem 0) = true → (l.drop 8).take 8 = leBytes (fwVersionOf (fwImage d s.mem 0)) 8))

/-- The shelf manager's commands on fuses, addresses and power. A guard byte other than A5h is STATUS 2; a fuse once burnt is never
cleared, and the last good signer is never revoked; an address set begins at its home link and may persist; a list is 32 records.
One that comes while the mailbox is not READY, or runs another, has no effect but REFUSED. Rests on 07 R232, 08 R249, 15 R448, 18
R503, R505, log entry 18. -/
def Obligations.ManagerCommands : Prop := ∀ s : State,
  let d := s.dev
  let e := { d with mhi.mboxRefused := false, mhi.mboxBusy := true, mhi.mboxPending := false,
                    mhi.mboxRoom := if d.mhi.mboxPending then d.mhi.mboxRoom else none }
  let refused := { d with mhi.mboxRefused := true }
  (d.mhi.mboxReady = false ∨ (d.mhi.mboxBusy = true ∧ d.mhi.mboxPending = false) →
    (∀ n, Runs (.mboxPowerState n) s refused ∧ Runs (.mboxFwFuseSvn n) s refused) ∧ Runs .mboxNetAddrList s refused)
  ∧ (d.mhi.mboxReady = true → d.mhi.mboxBusy = false ∨ d.mhi.mboxPending = true →
    (∀ g, g ≠ 0xA5 → Runs (.mboxFwFuseSvn g) s (mboxDone { status := 2 } e))
    ∧ (let v := max d.boot.fuses.svn d.boot.fwSvn
      Runs (.mboxFwFuseSvn 0xA5) s (mboxDone { status := 0, dw0 := v } { e with boot.fuses.svn := v }))
    ∧ (∀ k h, k < 4 → h.length = 48 →
      (tget d.boot.fuses.signer k = none → Runs (.mboxSignerKeyProgram k 0xA5 h) s (mboxDone { status := 0 } { e with boot.fuses.signer := tput d.boot.fuses.signer k (leNum h) }))
      ∧ (thas d.boot.fuses.signer k = true → Runs (.mboxSignerKeyProgram k 0xA5 h) s (mboxDone { status := 3 } e)))
    ∧ (∀ k g, 4 ≤ k ∨ g ≠ 0xA5 → (∀ h, Runs (.mboxSignerKeyProgram k g h) s (mboxDone { status := 2 } e)) ∧ Runs (.mboxSignerKeyRevoke k g) s (mboxDone { status := 2 } e))
    ∧ (∀ k, k < 4 →
      (thas d.boot.fuses.signer k = false → Runs (.mboxSignerKeyRevoke k 0xA5) s (mboxDone { status := 5 } e))
      ∧ (thas d.boot.fuses.signer k = true →
        (goodSigners d = [k] → Runs (.mboxSignerKeyRevoke k 0xA5) s (mboxDone { status := 3 } e))
        ∧ (goodSigners d ≠ [k] → Runs (.mboxSignerKeyRevoke k 0xA5) s (mboxDone { status := 0 } { e with boot.fuses.signerRevoked := setBit d.boot.fuses.signerRevoked k }))))
    ∧ (∀ a, (netAddrOk a = false → ∀ p, Runs (.mboxNetAddrSet a p) s (mboxDone { status := 2 } e))
      ∧ (netAddrOk a = true →
        let x := moveAll { e with net.addrs := tput d.net.addrs a.index { rec_ := a, link := a.home } }
        Runs (.mboxNetAddrSet a false) s (mboxDone { status := 0 } x)
        ∧ Runs (.mboxNetAddrSet a true) s (mboxDone { status := 0 }
            (noteFlash e { x with net.persisted := tput x.net.persisted a.index a }))))
    ∧ (∀ i p, (32 ≤ i → Runs (.mboxNetAddrClear i p) s (mboxDone { status := 2 } e))
      ∧ (i < 32 → thas d.net.addrs i = false → Runs (.mboxNetAddrClear i p) s (mboxDone { status := 5 } e))
      ∧ (i < 32 → thas d.net.addrs i = true → Runs (.mboxNetAddrClear i p) s (mboxDone { status := 0 } (noteFlash e { e with
          net.addrs := terase d.net.addrs i, net.persisted := if p then terase d.net.persisted i else d.net.persisted }))))
    ∧ (∃ l, Runs .mboxNetAddrList s (mboxDone { status := 0, bytes := l } e) ∧ l.length = 32 * 48
      ∧ ∀ a x, tget d.net.addrs 0 = some x → x.rec_ = a → l.take 4 = leBytes a.index 1 ++ leBytes a.family 1 ++ leBytes a.prefixLen 1 ++ leBytes a.home 1)
    ∧ (∀ n, (3 < n → Runs (.mboxPowerState n) s (mboxDone { status := 2 } e)) ∧ (n ≤ 3 → Runs (.mboxPowerState n) s (mboxDone { status := 0 } (setPower n e)))))
  ∧ (∀ r x, x.mhi.mboxBusy = true → let y := mboxDone r x
      y.mhi.mboxBusy = false ∧ y.mhi.mboxDoneSeq = x.mhi.mboxSeq ∧ y.mhi.mboxResult = some r ∧ Out.mailbox r.status r.dw0 r.bytes ∈ y.out)
  ∧ (∀ r x, x.mhi.mboxBusy = false → mboxDone r x = x)

/-- A connection request is rejected for its MTU, for want of a context slot or for a number in use, and else accepted in the mode
and with the landing window granted. A CNP cuts every path to three quarters, once per max (srtt, 20 µs); a refresh takes the lowest
sample of the past 10 s. Rests on 08 R246, R248 to R252, R256, R270, R271, R276. -/
def Obligations.Connects : Prop := ∀ (s : State) (r : CmRequest),
  let d := s.dev
  let at_ := cmField r
  let known : Bool := (r.priv.drop 8).take 5 == [0x57, 0x58, 0x53, 0x50, 1]
  (tget d.net.addrs r.address = none → Gives (.cmConnectRequest r) s d)
  ∧ (∀ a, tget d.net.addrs r.address = some a →
    (r.mtu < 1024 ∨ 262144 ≤ d.net.contexts ∨ (qpOf d r.qpn).isSome = true ∨ entryBusy d (.qpmap r.qpn) = true → Gives (.cmConnectRequest r) s (emit (.cmReject r.qpn) d))
    ∧ (1024 ≤ r.mtu → d.net.contexts < 262144 → qpOf d r.qpn = none → entryBusy d (.qpmap r.qpn) = false → Leads (.cmConnectRequest r) s (fun t =>
      let spray := known && bit (at_ 13 1) 0 && decide (d.net.contexts + 8 ≤ 262144)
      let n := if spray then min (if at_ 14 1 = 0 then 16 else at_ 14 1) 64 else 1
      let tOff := if spray then (if 2 ≤ at_ 15 1 ∧ at_ 15 1 ≤ 64 then at_ 15 1 else 8) else 8
      ∃ q crq, qpOf t.dev r.qpn = some q ∧ q.spray = spray ∧ q.paths.length = n ∧ q.address = r.address ∧ q.mtu ≤ r.mtu ∧ q.txPsn = r.psn % 2 ^ 24
        ∧ q.rxPsn = r.hostPsn % 2 ^ 24 ∧ q.tOff = tOff ∧ q.portDraw < 16384 ∧ q.connected = true
        ∧ q.farQpn = r.farQpn % 2 ^ 24 ∧ q.farAddr = r.farAddr ∧ q.landing.map (·.size) = grantLanding d r ∧ (∀ p ∈ q.paths, p.rate = rMax d { q with paths := [] } / n)
        ∧ t.dev.net.contexts = d.net.contexts + (if spray then 8 else 1)
        ∧ t.dev.net.landingUsed = d.net.landingUsed + (grantLanding d r).getD 0
        ∧ Out.cmAccept r.qpn (acceptBytes crq q) ∈ t.dev.out ∧ Only [.prism, .net, .out, .draws] s t)))
  ∧ (known = false ∨ bit (at_ 13 1) 1 = false ∨ at_ 16 2 = 0 ∨ 128 < at_ 16 2 → grantLanding d r = none)
  ∧ (∀ n, grantLanding d r = some n → n = at_ 16 2 * 65536 ∧ d.net.landingUsed + n ≤ 2 ^ 30 ∧ buffersTaken d * 4096 + n ≤ 2 ^ 31)
  ∧ (∀ n, (qpOf d n = none → Gives (.recvCnp n) s { d with net.drops := d.net.drops + 1 } ∧ Gives (.baseRttRefresh n) s d)
    ∧ ∀ q p, qpOf d n = some q → q.paths = [p] →
      let a := netAttr q.port q.cove
      let e := occur 0 10 1 a d
      let x := markCut (elapsed d) p
      (elapsed d - p.lastCut < max p.srtt 20000 → Gives (.recvCnp n) s e)
      ∧ (max p.srtt 20000 ≤ elapsed d - p.lastCut → x = { p with rate := max (p.rate * 3 / 4) 10000, lastCut := elapsed d, lastChange := elapsed d }
        ∧ (x.rate < p.rate → Gives (.recvCnp n) s (occur 1 6 1 a (setQp n { q with paths := [x] } e))))
      ∧ Gives (.baseRttRefresh n) s (setQp n { q with paths := [{ p with base := p.lowest.getD p.base, lowest := none }] } d))
  ∧ (∀ now v off top p, p.sampled = true → v ≤ min p.base v + off →
      (rttSample now v off top p).base = min p.base v
      ∧ (now - p.lastChange < (rttSample now v off top p).srtt → (rttSample now v off top p).rate = p.rate)
      ∧ ((rttSample now v off top p).srtt ≤ now - p.lastChange → (rttSample now v off top p).rate = min (p.rate + 50000) top))

/-- Standard mode as responder. A request is taken in PSN order; a duplicate is acknowledged again and not taken, a gap is NAKed
once; a Send too long or past its queue's depth is an invalid request, one that finds no buffer is answered with RNR; a write
outside the landing window is a remote access error. Sixteen packets, or the timer, bring an acknowledgement. Rests on 08 R247,
R253, R254, R256, R267, R276, R281. -/
def Obligations.StandardResponder : Prop := ∀ (s : State) (n psn : Nat) (x : FrameInfo),
  let d := s.dev
  let gone := fun (e : Dev) => { e with net.drops := e.net.drops + 1 }
  (∀ op cap, Gives (.recvSend n psn op cap x) s (receive x (fun e =>
    let k := fragCount ((qpOf e n).getD {}) (64 + 4096 * cap.data.length)
    standardRequest n psn k x (takeSend n k op cap) e) d))
  ∧ (∀ key dt, Gives (.recvRdmaWrite n psn key dt x) s (receive x (standardRequest n psn 1 x (takeWrite n key dt)) d))
  ∧ (frameBad d x = true → x.fcsOk = true → ∀ f, receive x f d = dropFrame x (occur 0 1 x.len (netAttr x.port x.cove) (occur 0 0 1 (netAttr x.port x.cove) d)))
  ∧ (∀ k f e, qpOf e n = none → standardRequest n psn k x f e = countDrop x e)
  ∧ (∀ k (f : Qp → Dev → Dev) e q, qpOf e n = some q →
    (q.error = true ∨ q.connected = false → standardRequest n psn k x f e = countDrop x e)
    ∧ (q.error = false → q.connected = true →
      (q.spray = true → standardRequest n psn k x f e = errorQp n 1 true e)
      ∧ (q.spray = false → x.ce = false → let a := netAttr q.port q.cove
        (psn = q.rxPsn → standardRequest n psn k x f e = f q e)
        ∧ (psn ≠ q.rxPsn → psnFrom q.rxPsn psn = false → standardRequest n psn k x f e = occur 1 4 k a (ackNow n e))
        ∧ (psn ≠ q.rxPsn → psnFrom q.rxPsn psn = true →
          (q.nakSent = true → standardRequest n psn k x f e = e)
          ∧ (q.nakSent = false → standardRequest n psn k x f e = occur 1 2 1 a (standardAck n q.rxPsn 0x60
              { e with net.qps := tmod e.net.qps n (fun w => { w with nakSent := true }) }))))))
  ∧ (∀ k op cap q e,
    (1 < cap.data.length ∨ pastDepth e n = true → takeSend n k op cap q e = errorQp n 1 true e)
    ∧ (cap.data.length = 1 → pastDepth e n = false → 524288 ≤ buffersTaken e →
        takeSend n k op cap q e = occur 1 3 1 (netAttr q.port q.cove) (standardAck n q.rxPsn 0x21 e))
    ∧ (cap.data.length ≤ 1 → pastDepth e n = false → cap.data = [] ∨ buffersTaken e < 524288 →
        takeSend n k op cap q e = deliverCapsule n op cap (countIn n k e)))
  ∧ (∀ key dt q e, (landingOk q key dt.offset dt.len = false → takeWrite n key dt q e = errorQp n 0 true e)
    ∧ (landingOk q key dt.offset dt.len = true → takeWrite n key dt q e = countIn n 1 (placeLanding n dt.offset dt.len dt.value e)))
  ∧ (∀ q, qpOf d n = some q → let w := { q with rxPsn := (q.rxPsn + 1) % 2 ^ 24, unacked := q.unacked + 1, nakSent := false }
    let e := { d with net.qps := tmod d.net.qps n (fun v => { v with rxPsn := (v.rxPsn + 1) % 2 ^ 24, unacked := v.unacked + 1, nakSent := false }) }
    qpOf e n = some w ∧ (q.unacked < 15 → countIn n 1 d = e) ∧ (15 ≤ q.unacked → countIn n 1 d = ackNow n e))
  ∧ (∀ q, qpOf d n = some q →
    (q.spray = false → q.error = false → 0 < q.unacked → Gives (.ackTimer n) s (ackNow n d))
    ∧ (q.spray = true ∨ q.unacked = 0 → Gives (.ackTimer n) s d)
    ∧ ackNow n d = standardAck n ((q.rxPsn + 2 ^ 24 - 1) % 2 ^ 24) 0 (setQp n { q with unacked := 0 } d))
  ∧ (∀ op, (qpOf d n = none → Gives (.recvRefusedOpcode n op) s (gone d))
    ∧ ∀ q, qpOf d n = some q →
      (q.error = true ∨ q.connected = false ∨ (q.spray = false ∧ 0x20 ≤ op ∧ op < 0xC0) → Gives (.recvRefusedOpcode n op) s (gone d))
      ∧ (q.error = false → q.connected = true → q.spray = true ∨ op < 0x20 ∨ 0xC0 ≤ op → Gives (.recvRefusedOpcode n op) s (errorQp n 1 true d)))

/-- Standard mode as requester. An acknowledgement frees the packets up to its PSN; a sequence NAK and the ACK timeout go back to
the PSN, the eighth time in error; an RNR NAK holds its packet for the timer, the seventh in a row in error; the other NAK codes end
the queue pair. A read's replies are taken in PSN order. A reply on an unusable queue pair is dropped and counted. Rests on 08 R253,
R255, R257, R271, R272, R274, R281, R282. -/
def Obligations.StandardRequester : Prop := ∀ (s : State) (n psn : Nat),
  let d := s.dev
  let gone := { d with net.drops := d.net.drops + 1 }
  (qpOf d n = none → Gives (.recvAcknowledge n psn) s gone ∧ (∀ k, Gives (.recvNak n psn k) s gone) ∧ (∀ t, Gives (.recvRnrNak n psn t) s gone)
    ∧ Gives (.localAckTimeout n) s d ∧ Gives (.rnrRetryTimer n) s d)
  ∧ (∀ q, qpOf d n = some q → q.error = false → q.connected = true →
    (q.spray = true → Gives (.recvAcknowledge n psn) s (errorQp n 1 true d) ∧ Gives (.localAckTimeout n) s d)
    ∧ (q.spray = false →
      Gives (.recvAcknowledge n psn) s (ackUpTo n psn d)
      ∧ Gives (.recvNak n psn 0) s (retryFrom n psn (ackUpTo n ((psn + 2 ^ 24 - 1) % 2 ^ 24) d))
      ∧ Gives (.recvNak n psn 1) s (errorQp n 1 false d) ∧ Gives (.recvNak n psn 2) s (errorQp n 0 false d)
      ∧ Gives (.recvNak n psn 3) s (errorQp n 2 false d) ∧ (∀ k, 4 ≤ k → Gives (.recvNak n psn k) s d)
      ∧ (∀ t, let held := { q with rnrs := q.rnrs + 1, sent := q.sent.map (fun p => if p.psn = psn then { p with rnrWait := true } else p) }
        (q.rnrs < 6 → Gives (.recvRnrNak n psn t) s (setQp n held d))
        ∧ (6 ≤ q.rnrs → Gives (.recvRnrNak n psn t) s (errorQp n 3 false d)))
      ∧ (∀ p l, q.sent = p :: l → Gives (.localAckTimeout n) s
          (retryFrom n p.psn (changePaths n (fun _ w => timeoutCut (elapsed d) w) (occur 1 1 1 (netAttr q.port q.cove) d))))
      ∧ (q.sent = [] → Gives (.localAckTimeout n) s d)
      ∧ (q.retries < 7 → retryFrom n psn d = goBack n psn (setQp n { q with retries := q.retries + 1 } d))
      ∧ (7 ≤ q.retries → retryFrom n psn d = errorQp n 3 false d))
    ∧ (∀ p, q.sent.find? (·.rnrWait) = some p → Gives (.rnrRetryTimer n) s (goBack n p.psn d))
    ∧ (q.sent.find? (·.rnrWait) = none → Gives (.rnrRetryTimer n) s d))
  ∧ (∀ tag dt x, Gives (.recvRdmaReadResponse n psn tag dt x) s (receive x (standardReply n (recvReadResponse n psn tag dt)) d))
  ∧ (∀ tag dt q p e, q.sent.find? (fun y => y.opcode == 0x0C) = some p →
    (p.psn ≠ psn → psnFrom p.psn psn = true → recvReadResponse n psn tag dt q e = e)
    ∧ (p.psn ≠ psn → psnFrom p.psn psn = false → recvReadResponse n psn tag dt q e = occur 1 4 1 (netAttr q.port q.cove) e)
    ∧ ∀ t got total, p.psn = psn → tget q.msgs p.msg = some (.readRequest t got total) →
      (tag = t → dt.offset = got → got + dt.len ≤ total → recvReadResponse n psn tag dt q e =
        sinkData n p.msg t got total dt (setQp n (let next := fun (w : SentPkt) => { w with psn := (w.psn + 1) % 2 ^ 24, npsn := w.npsn - 1 }
          { q with retries := 0, sent := q.sent.map (fun w => if w.psn = psn then next w else w) }) e))
      ∧ (tag ≠ t ∨ dt.offset ≠ got ∨ total < got + dt.len → recvReadResponse n psn tag dt q e = errorQp n 0 true e))

/-- Spray as receiver: its checks in their order. A duplicate is acknowledged and placed nowhere; a PSN 256 or more past CUM_PSN is
dropped; a write outside the window is a remote access error and one of another generation is not placed but marked; a Send waits
for CUM_PSN to pass its last fragment. Rests on 08 R257, R261 to R265, R267, R274, R279, R281. -/
def Obligations.SprayReceives : Prop := ∀ (s : State) (n : Nat) (h : SprayHdr) (x : FrameInfo),
  let d := s.dev
  (∀ op cap, Gives (.recvSpraySend n h op cap x) s (receive x (recvSpraySend n h op cap x) d))
  ∧ (∀ dt, Gives (.recvSprayWrite n h dt x) s (receive x (recvSprayWrite n h dt x) d))
  ∧ (∀ tag dt, Gives (.recvSprayReadResp n h tag dt x) s (receive x (recvSprayReadResp n h tag dt x) d))
  ∧ (∀ q, qpOf d n = some q →
    (q.spray = true → q.error = false → 0 < q.unacked → Gives (.sprayAckTimer n) s (sprayAck n 0 0 d))
    ∧ (q.spray = false ∨ q.unacked = 0 → Gives (.sprayAckTimer n) s d))
  ∧ (∀ op cap e dt, qpOf e n = none → recvSpraySend n h op cap x e = countDrop x e ∧ recvSprayWrite n h dt x e = countDrop x e)
  ∧ (∀ e q, qpOf e n = some q → q.error = false → q.connected = true →
    let a := netAttr q.port q.cove
    let seen := setQp n { q with trigger := (h.psn, h.path, h.txTs, x.ce, h.retx) } e
    let ahead := psnDiff h.psn q.rxPsn
    let whole := q.spray = true ∧ h.version = 1 ∧ h.fragIndex < h.fragCount ∧ h.fragCount ≤ 2048 ∧ h.path < 64
      ∧ (h.fragCount - 1) * q.mtu < h.totalLen ∧ h.totalLen ≤ h.fragCount * q.mtu
    (∀ op cap dt, q.spray = false ∨ h.version ≠ 1 ∨ h.fragCount ≤ h.fragIndex →
      recvSpraySend n h op cap x e = errorQp n 1 true e ∧ recvSprayWrite n h dt x e = errorQp n 1 true e)
    ∧ (whole →
      (∀ op cap, let r := recvSpraySend n h op cap x e
        (2 ^ 23 ≤ ahead ∨ h.psn ∈ q.rxSet → r = sprayAck n 0 0 (occur 1 4 1 a seen))
        ∧ (256 ≤ ahead → ahead < 2 ^ 23 → h.psn ∉ q.rxSet → r = countDrop x e)
        ∧ (ahead < 256 → h.psn ∉ q.rxSet →
          (h.totalLen ≠ 64 + 4096 * cap.data.length ∨ 1 < cap.data.length ∨ pastDepth e n = true → r = errorQp n 1 true seen)
          ∧ (h.totalLen = 64 + 4096 * cap.data.length → pastDepth e n = false →
            (cap.data.length = 1 → thas q.rxMsgs (lastPsn h) = false → 524288 ≤ buffersTaken e → r = sprayAck n 1 1 (occur 1 3 1 a seen))
            ∧ (cap.data = [] ∨ (cap.data.length = 1 ∧ buffersTaken e < 524288) →
                r = markReceived n h x (setQp n { q with rxMsgs := tput q.rxMsgs (lastPsn h) (op, cap) } e)))))
      ∧ (∀ dt, dt.len = sprayLen q h → ahead < 256 → h.psn ∉ q.rxSet → let r := recvSprayWrite n h dt x e
        (landingOk q h.rkey h.vaddr dt.len = false → r = errorQp n 0 true seen)
        ∧ ∀ l, q.landing = some l → landingOk q h.rkey h.vaddr dt.len = true →
          let fresh := (slotParts (dt.len / 65536 + 2) (h.vaddr - l.base) dt.len 0).all (fun y => (landSlot l y.1).gen == h.gen)
          (fresh = true → r = markReceived n h x (placeLanding n h.vaddr dt.len dt.value e)) ∧ (fresh = false → r = markReceived n h x e))
      ∧ (∀ tag dt, dt.len = sprayLen q h → ahead < 256 → h.psn ∉ q.rxSet → let r := recvSprayReadResp n h tag dt x e
        (readOf q h = none → r = errorQp n 0 true seen)
        ∧ ∀ t got total, readOf q h = some (t, got, total) → t = tag → dt.offset = h.fragIndex * q.mtu → dt.offset + dt.len ≤ total →
          r = markReceived n h x (sinkData n h.msgId t got total dt e))))
  ∧ (∀ k c l, (c ∉ l → advanceCum (k + 1) c l = (c, l)) ∧ (c ∈ l → advanceCum (k + 1) c l = advanceCum k ((c + 1) % 2 ^ 24) (l.erase c)))

/-- Spray as sender. An acknowledgement takes the packets it shows received, brings its path up and samples it, and a packet that
left before one of them on its path is lost: it leaves again on the next up path, the eighth time in error. An error syndrome ends
the queue pair; an RNR holds the trigger, the seventh time in error. Three timeouts in a row take a path down. Rests on 08 R263,
R266, R268, R271, R272, R281. -/
def Obligations.SpraySends : Prop := ∀ (s : State) (n : Nat) (b : SackBlock),
  let d := s.dev
  let gone := { d with net.drops := d.net.drops + 1 }
  (qpOf d n = none → Gives (.recvSprayAck n b) s gone ∧ ∀ p, Gives (.sprayRetxTimeout n p) s d ∧ Gives (.sprayRnrRetry n p) s d)
  ∧ (∀ q, qpOf d n = some q →
    (q.error = true ∨ q.connected = false → Gives (.recvSprayAck n b) s gone)
    ∧ (q.error = false → q.connected = true → q.spray = false → Gives (.recvSprayAck n b) s (errorQp n 1 true d))
    ∧ (q.error = false → q.connected = true → q.spray = true →
      (b.syndrome = 2 → Gives (.recvSprayAck n b) s (errorQp n 1 false d)) ∧ (b.syndrome = 3 → Gives (.recvSprayAck n b) s (errorQp n 0 false d))
      ∧ (b.syndrome = 4 → Gives (.recvSprayAck n b) s (errorQp n 2 false d)) ∧ (4 < b.syndrome → Gives (.recvSprayAck n b) s d)
      ∧ (b.syndrome ≤ 1 →
        let got := q.sent.filter (fun p => sackHas b p.psn)
        let rest := q.sent.filter (fun p => !sackHas b p.psn)
        let now := elapsed d
        let e := changePaths n (fun i p =>
          let p1 := if (b.path :: got.map (·.path)).contains i then { p with up := true, timeouts := 0 } else p
          if i ≠ b.path then p1
          else
            let p2 := if b.retx then p1 else rttSample now ((now + 2 ^ 32 - b.echoTs % 2 ^ 32) % 2 ^ 32) (tOffNs q) (rMax d q) p1
            if b.ce then markCut now p2 else p2) (setQp n { q with sent := rest } d)
        let lost := rest.filter (fun p => p.left && got.any (fun g => g.path == p.path && decide (p.order < g.order)))
        let f := lost.foldl (fun a p => lostPkt n p.psn a) e
        let held := (qpOf f n).bind (fun w => w.sent.find? (fun p => p.psn == b.trigger))
        (b.syndrome = 0 ∨ held = none → Gives (.recvSprayAck n b) s (pumpQp 4096 n (finishMsgs n f)))
        ∧ ∀ p, b.syndrome = 1 → held = some p →
          (6 ≤ p.rnr → Gives (.recvSprayAck n b) s (pumpQp 4096 n (finishMsgs n (errorQp n 3 false f))))
          ∧ (p.rnr < 6 → Gives (.recvSprayAck n b) s (pumpQp 4096 n (finishMsgs n
              (modPkt n b.trigger (fun w => { w with rnr := w.rnr + 1, rnrWait := true }) f)))))
      ∧ (∀ p, q.sent.find? (fun y => y.psn == p.psn) = some p →
        (p.losses < 7 → let p1 := { p with losses := p.losses + 1, left := false, rnrWait := false, path := nextUp q p.path }
            lostPkt n p.psn d = resend n [p1] (modPkt n p.psn (fun _ => p1) d))
        ∧ (7 ≤ p.losses → lostPkt n p.psn d = errorQp n 3 false d)
        ∧ Gives (.sprayRetxTimeout n p.psn) s (lostPkt n p.psn (pathDown n p.path p (changePaths n
            (fun i w => if i = p.path then { timeoutCut (elapsed d) w with timeouts := w.timeouts + 1 } else w) (occur 1 1 1 (netAttr q.port q.cove) d))))))
    ∧ (∀ p w, q.paths[p.path]? = some w →
      (w.up = true → 3 ≤ w.timeouts → pathDown n p.path p d = queuePacket n p.path true true p
        (setQp n { q with paths := modNth q.paths p.path (fun v => { v with up := false, k := v.k + 1, rate := 10000 }) } d))
      ∧ (w.up = false ∨ w.timeouts < 3 → pathDown n p.path p d = d))
    ∧ (∀ p, q.sent.find? (fun y => y.psn == p.psn && y.rnrWait) = some p → Gives (.sprayRnrRetry n p.psn) s
        (resend n [p] (modPkt n p.psn (fun y => { y with rnrWait := false, left := false }) d))))

/-- A link that goes down drops what is queued on it, and its addresses move to the first backup that is up, each with an event and
an announcement; a link comes up only where its port has and enables it, once step 10 has begun; an address returns to its home
link. On a link that is up the frame that the scheduler picks leaves, or is dropped and counted when bad. Rests on 08 R246, R247,
R249, 09 R302, R303, R304, 10 R328, 15 R442, 17 R489. -/
def Obligations.LinksCarryFrames : Prop := ∀ (s : State) (k : Nat),
  let d := s.dev
  let p := (chartOf d).ports.getD (k / 4) {}
  (linkUp d k = true → Gives (.netLinkDown k) s (moveAll (flushLink k { d with net.links := tput d.net.links k { up := false } })))
  ∧ (linkUp d k = false → Gives (.netLinkDown k) s d ∧ ∀ bad, Gives (.txOpportunity k bad) s d)
  ∧ (d.host.admissionOpen = true → k < 32 → k % 4 < linksOfPort p → p.enable = 1 → linkUp d k = false →
      Gives (.netLinkUp k) s (moveAll (let l := { up := true, lanes := linkLanes d k, trained := p.media == 0, gbps := linkRate d k / 1000 }
        { d with net.links := tput d.net.links k l })))
  ∧ (d.host.admissionOpen = false ∨ 32 ≤ k ∨ linksOfPort p ≤ k % 4 ∨ p.enable ≠ 1 ∨ linkUp d k = true → Gives (.netLinkUp k) s d)
  ∧ (∀ i a, tget d.net.addrs i = some a →
    (linkUp d a.rec_.home = true → Gives (.addressReturn i) s (moveAddr i a.rec_.home d))
    ∧ (linkUp d a.rec_.home = false → Gives (.addressReturn i) s d)
    ∧ (a.link = k → moveAddr i k d = d)
    ∧ (a.link ≠ k → moveAddr i k d = logEvent 6 2 0 (payload i a.link k 0)
        (queueMgmt k { kind := 0, len := if a.rec_.family = 6 then 90 else 64, opcode := 2, body := i }
          { d with net.addrs := tput d.net.addrs i { a with link := k } }))
    ∧ (moveTarget d a = (a.rec_.backups ++ [a.rec_.home]).find? (fun l => l != a.link && linkUp d l))
    ∧ (d.net.addrs = [(i, a)] → (linkUp d a.link = true ∨ moveTarget d a = none → moveAll d = d)
      ∧ (linkUp d a.link = false → moveTarget d a = some k → moveAll d = moveAddr i k d)))
  ∧ (∀ x i, Gives (.recvArpNd x i) s (receive x (fun e => match tget e.net.addrs i with
      | some a => queueMgmt (4 * x.port + x.link) { kind := 0, len := if a.rec_.family = 6 then 90 else 64, opcode := 2, body := i } e
      | none => e) d))
  ∧ (linkUp d k = true → ∀ bad,
    (pickFrame k (countHeld k d) = none → Gives (.txOpportunity k bad) s (countHeld k d))
    ∧ ∀ f e, pickFrame k (countHeld k d) = some (f, e) →
      Gives (.txOpportunity k bad) s (departFrame k bad (countHeld k d) f e)
      ∧ (bad ≠ 1 → Leads (.txOpportunity k bad) s (fun t =>
          Out.frame k { f with txTs := elapsed e % 2 ^ 32 } (bad != 0) ∈ t.dev.out ∧ t.mem = s.mem)))

/-- Creation checks its fields, the Shoal's capacity, the map pages and the NSIDs in that order, and then reserves the namespace,
writes its first mark and its key; the key's durable record completes it with the NSID. Attachment reaches the Coves of a controller
list, within NS_QUOTA, and detachment takes them back. Deletion waits its turn as a format does. Rests on 07 R199, R201, 04 R123, 05
R148, 11 R347, 12 R380. -/
def Obligations.NamespacesManaged : Prop := ∀ (s : State) (c cid : Nat) (k : Ctrl),
  let d := s.dev
  let no_ := fun (st : Status) => answerAdmin c cid st 0 d
  c ≠ 0 → ctrlOf d c = some k → k.enabled = true → k.ended = false → k.cove = 0 →
  (∀ x st, anaStatus d = some st → Runs (.namespaceCreate c cid x) s (no_ st))
  ∧ (anaStatus d = none → d.host.san.state = 1 → ∀ n l, Runs (.namespaceDelete c cid n) s (no_ (gen 0x1D))
      ∧ Runs (.namespaceAttach c cid n l) s (no_ (gen 0x1D)))
  ∧ (anaStatus d = none → d.host.san.state ≠ 1 →
    (∀ x : NsCreateArgs,
      (x.nsze = 0 ∨ 2 < x.grain ∨ shoalOf d x.shoal = none ∨ 1 < x.flags ∨ x.reserved = true → Runs (.namespaceCreate c cid x) s (no_ (gen 0x02)))
      ∧ (x.nsze ≠ 0 → x.grain ≤ 2 → (shoalOf d x.shoal).isSome = true → x.flags ≤ 1 → x.reserved = false →
        (usableBlocks d x.shoal < reservedBlocks d x.shoal + x.nsze ∨ placePages d (mapPagesFor x.nsze x.grain) = none →
          Runs (.namespaceCreate c cid x) s (no_ (cmdSpec 0x15)))
        ∧ (reservedBlocks d x.shoal + x.nsze ≤ usableBlocks d x.shoal → ∀ base, placePages d (mapPagesFor x.nsze x.grain) = some base →
          (tfree d.host.nss 1 4096 = none → Runs (.namespaceCreate c cid x) s (no_ (cmdSpec 0x16)))
          ∧ ∀ nsid, tfree d.host.nss 1 4096 = some nsid →
            let asn := match tget d.pool.marks nsid with
              | some m => m + 2 ^ 20
              | none => 1
            let e := { d with
              host.nss := tput d.host.nss nsid { nsze := x.nsze, grain := x.grain, shoal := x.shoal, auth := x.flags == 1, pageBase := base,
                                                 nextAsn := asn, creating := true, keyAvailable := false }
              prism.changes := d.prism.changes ++ [.nsmap nsid] }
            Runs (.namespaceCreate c cid x) s (firstKey nsid (waitFor c cid 0 nsid 0 (mirrorNamespace nsid (writeMark nsid asn e)))))))
    ∧ (∀ n l, (tget d.host.nss n = none → Runs (.namespaceAttach c cid n l) s (no_ (gen 0x0B)) ∧ Runs (.namespaceDetach c cid n l) s (no_ (gen 0x0B)))
      ∧ ∀ x, tget d.host.nss n = some x → x.creating = false → x.fmt ≠ .deleting →
        (covesReached d l = none → Runs (.namespaceAttach c cid n l) s (no_ (cmdSpec 0x1C)) ∧ Runs (.namespaceDetach c cid n l) s (no_ (cmdSpec 0x1C)))
        ∧ ∀ v, covesReached d l = some [v] →
          (v ∈ x.coves → Runs (.namespaceAttach c cid n l) s (no_ (cmdSpec 0x18))
            ∧ Runs (.namespaceDetach c cid n l) s (answerAdmin c cid ok 0 (setAttached n (x.coves.filter (fun y => y != v)) [v] d)))
          ∧ (v ∉ x.coves → Runs (.namespaceDetach c cid n l) s (no_ (cmdSpec 0x1A))
            ∧ ((coveCfg d v).nsQuota ≤ (coveNamespaces d v).length → Runs (.namespaceAttach c cid n l) s (no_ (cmdSpec 0x27)))
            ∧ ((coveNamespaces d v).length < (coveCfg d v).nsQuota → Runs (.namespaceAttach c cid n l) s
                (answerAdmin c cid ok 0 (setAttached n (x.coves ++ [v]) [v] d)))))
    ∧ (∀ n x, n ≠ 0xFFFFFFFF → tget d.host.nss n = some x → x.creating = false →
      (formatWait d n = none → Runs (.namespaceDelete c cid n) s (beginFormats 1 c cid [n] d))
      ∧ ((formatWait d n).isSome = true → Runs (.namespaceDelete c cid n) s (no_ (gen 0x84)))))
  ∧ (∀ n x, tget d.host.nss n = some x →
    (x.creating = true → thas d.keys.nsKeys n = true →
      let mine := fun (w : AdminWait) => w.kind == 0 && w.subject == n
      let w0 := recordsWritten (fun _ c => writesLba (fun l => l == keyLba n) c) d
      let e := mirrorKeyIndex n { w0 with
        keys.nsKeys := tmod d.keys.nsKeys n (fun q => { q with durable := true })
        host.nss := tmod d.host.nss n (fun y => { y with creating := false })
        host.waits := d.host.waits.filter (fun w => !mine w) }
      (∀ w, d.host.waits.filter mine = [w] → Runs (.namespaceKeyDurable n) s (answerAdmin w.cntlid w.cid ok n e))
      ∧ (d.host.waits.filter mine = [] → Runs (.namespaceKeyDurable n) s e))
    ∧ (x.creating = false → Runs (.namespaceKeyDurable n) s d))

/-- Format NVM takes LBAF, PI and MSET of 0 and an SES of 0 to 2, and formats the namespaces it names one after another: the
first stops admitting and, once drained, goes through the erase, which rotates its key and leaves every grain unmapped; the walk
then takes one old page at a time, but not at PRESS, in PS3 or while housekeeping pauses, and ends COMPLETE. Crypto erase and
block erase start at once: every capsule not admitted is rejected, formats are abandoned, and the record reads STATE 1 until
step 3, and step 4 on every member, are done. Exit failure mode clears a failed record. A member's erase ends with its bit of
MEMBERS_DONE, or fails the sanitize. The end logs and posts the notice to every controller. Rests on 07 R199, R208, R234, R235,
03 R84, 12 R374; 07 R220, R236 to R238. -/
def Obligations.NamespacesFormatted : Prop :=
  (∀ (s : State) (c cid n : Nat) (k : Ctrl),
    let d := s.dev
    c ≠ 0 → ctrlOf d c = some k → k.enabled = true → k.ended = false → anaStatus d = none → d.host.san.state ≠ 1 →
    (∀ f p m e, f ≠ 0 ∨ p ≠ 0 ∨ m ≠ 0 → Runs (.formatNvm c cid n f p m e) s (answerAdmin c cid (cmdSpec 0x0A) 0 d))
    ∧ (∀ e, 2 < e → Runs (.formatNvm c cid n 0 0 0 e) s (answerAdmin c cid (gen 0x02) 0 d))
    ∧ (∀ e, e ≤ 2 → n ≠ 0xFFFFFFFF →
      (attached d c n = false → Runs (.formatNvm c cid n 0 0 0 e) s (answerAdmin c cid (gen 0x0B) 0 d))
      ∧ (attached d c n = true → (formatWait d n).isSome = true → Runs (.formatNvm c cid n 0 0 0 e) s (answerAdmin c cid (gen 0x84) 0 d))
      ∧ (attached d c n = true → formatWait d n = none → Runs (.formatNvm c cid n 0 0 0 e) s (beginFormats 2 c cid [n] d)))
    ∧ (∀ e, e ≤ 2 → let all := (d.host.nss.map (·.1)).filter (attached d c)
        all.any (inFormat d) = false → Runs (.formatNvm c cid 0xFFFFFFFF 0 0 0 e) s (beginFormats 2 c cid all d))
    ∧ beginFormats 2 c cid [n] d = runFormats (recheckHeads (fillWbl n { d with
        host.formatDrain := d.host.formatDrain ++ [n], host.waits := d.host.waits ++ [{ cntlid := c, cid := cid, kind := 2, subject := n }] }))
    ∧ (∀ w, formatWait d n = some w →
      (n ∉ d.host.formatDrain ∨ nsBusy d n = true ∨ d.keys.entropyOk = false → runFormat n d = d)
      ∧ (n ∈ d.host.formatDrain → nsBusy d n = false → d.keys.entropyOk = true →
        ((tget d.host.nss n).map unmapCount).getD 0 ≤ logFree d → markStands d n = false → runFormat n d = askMark n d)
      ∧ (n ∈ d.host.formatDrain → nsBusy d n = false → d.keys.entropyOk = true → markStands d n = true →
        ((tget d.host.nss n).map unmapCount).getD 0 ≤ logFree d → d.host.waits = [w] → w.kind = 2 →
        let e := eraseFormat n (setFormat n .erasing 0 0 { d with host.formatDrain := d.host.formatDrain.filter (fun x => x != n), host.waits := [] })
        e.host.waits = [] → runFormat n d = answerAdmin w.cntlid w.cid ok 0 e))
    ∧ (∀ x, tget d.host.nss n = some x → formatWait d n = none →
      (x.fmt ≠ .reclaiming ∨ 2 ≤ d.pool.level ∨ d.host.power = 3 ∨ housekeepingPaused d = true → Runs (.formatWalk n) s d)
      ∧ (x.fmt = .reclaiming → d.pool.level < 2 → d.host.power ≠ 3 → housekeepingPaused d = false →
        let here := fun (z : Nat × MapEntry) => z.1 / 512 == x.cursor || z.1 == oldPageKey x.cursor
        let e := (x.oldMap.filter here).foldl (fun a z => dropOld x z a)
          { d with host.nss := tmod d.host.nss n (fun y => { y with oldMap := y.oldMap.filter (fun z => !here z) }) }
        (nsPages x ≤ x.cursor + 1 → Runs (.formatWalk n) s (setFormat n .complete 100 (x.cursor + 1) e))
        ∧ (x.cursor + 1 < nsPages x → Runs (.formatWalk n) s (setFormat n .reclaiming ((x.cursor + 1) * 100 / nsPages x) (x.cursor + 1) e))))
    ∧ (let e := unmapAll n d
      ∀ x, tget d.host.nss n = some x → (∀ y ∈ e.str.map, y.1 / 2 ^ 40 ≠ n) ∧ n ∉ e.str.unknownNs ∧ (∀ y ∈ e.str.overlays, y.nsid ≠ n)
        ∧ (∀ p ∈ e.str.dir, p.1 < x.pageBase ∨ x.pageBase + nsPages x ≤ p.1)))
  ∧ (∀ (s : State) (c cid v : Nat) (k : Ctrl),
    let d := s.dev
    let r := d.host.san
    c ≠ 0 → ctrlOf d c = some k → k.enabled = true → k.ended = false → k.cove = 0 → anaStatus d = none →
    (r.state = 1 → Runs (.sanitizeCryptoErase c cid v) s (answerAdmin c cid (gen 0x1D) 0 d) ∧ Runs (.sanitizeBlockErase c cid v) s (answerAdmin c cid (gen 0x1D) 0 d))
    ∧ (r.state ≠ 1 →
      (v % 8 ≠ 4 → Runs (.sanitizeCryptoErase c cid v) s (answerAdmin c cid (gen 0x02) 0 d))
      ∧ (v % 8 ≠ 2 → Runs (.sanitizeBlockErase c cid v) s (answerAdmin c cid (gen 0x02) 0 d))
      ∧ (v % 8 ≠ 1 → Runs (.sanitizeExitFailure c cid v) s (answerAdmin c cid (gen 0x02) 0 d))
      ∧ (v % 8 = 1 → Runs (.sanitizeExitFailure c cid v) s (answerAdmin c cid ok 0 (if r.state = 3 then setSan { r with state := 0 } d else d)))
      ∧ (v % 8 = 4 → Runs (.sanitizeCryptoErase c cid v) s (startSan c cid 4 v d))
      ∧ (v % 8 = 2 → Runs (.sanitizeBlockErase c cid v) s (startSan c cid 2 v d)))
    ∧ (∀ act, let q : SanRecord := { state := 1, sanact := act, step := 1, cdw10 := v % 2 ^ 32, startS := d.clk.tod.s }
      let f := setSan { q with step := 2 } (rejectAll (gen 0x1D) (abandonFormats (setSan q d)))
      startSan c cid act v d = runSan (answerAdmin c cid ok 0 (f.host.nss.foldl (fun a n => fillWbl n.1 a) { f with host.sanDrain := true })))
    ∧ (sanReady d = false → (d.host.sanDrain = false ∨ liveCmds d ≠ 0 → runSan d = d)
      ∧ (d.host.sanDrain = true → liveCmds d = 0 → runSan d = d.host.nss.foldl (fun a x => askMark x.1 a) d))
    ∧ (sanReady d = true → r.sanact ≠ 2 → runSan d = sanErase (setSan { r with step := 3 } { d with host.sanDrain := false }))
    ∧ (let e := sanErase d
      e.str.map = [] ∧ e.str.dir = [] ∧ e.str.shallows = [] ∧ e.str.overlays = [] ∧ e.str.unknownNs = [])
    ∧ (∀ m x b g, d.shelf.cmds.find? (fun e => e.2.bay == b && (e.2.op == .sanitize || e.2.op == .eraseFormat)) = some (m, x) →
      (r.state ≠ 1 ∨ r.step ≠ 4 → Gives (.sanitizeMemberDone b g) s d)
      ∧ (r.state = 1 → r.step = 4 → Gives (.sanitizeMemberDone b false) s (setSan { r with state := 3 } (memberEnd m d))
        ∧ (let e := setSan { r with membersDone := setBit r.membersDone b,
                                    percent := min 99 ((bitList (setBit r.membersDone b).toNat 32).length * 100 / max (memberBaysUp d).length 1) } (memberEnd m d)
          (rosterOfBay e b = none → Gives (.sanitizeMemberDone b true) s e)
          ∧ ∀ sh pos, rosterOfBay e b = some (sh, pos) → Gives (.sanitizeMemberDone b true) s (writeLabel sh b e))))
    ∧ (∀ b, eraseMember b d = memberIssue b (if (tget d.shelf.drives b).any (fun x => !x.sanitizes) then .eraseFormat else .sanitize) d)
    ∧ (d.host.sanDrain = false →
      (r.state ≠ 1 → Gives .sanitizeComplete s d)
      ∧ (r.state = 1 → r.step = 3 → r.sanact = 4 → Gives .sanitizeComplete s
          (postAll { type := 6, info := 1, log := 0x81 } (setSan { r with state := 2, step := 5, percent := 100 } d)))
      ∧ (r.state = 1 → r.step = 4 → (∀ e ∈ d.shelf.cmds, e.2.op ≠ .sanitize ∧ e.2.op ≠ .eraseFormat) → Gives .sanitizeComplete s
          (postAll { type := 6, info := 1, log := 0x81 } (setSan { r with state := 2, step := 5, percent := 100 } d)))))

/-- A read takes each block from the newest settled lower write, from zero where nothing is mapped, or from the members; it waits
while a lower write has not settled. A member read whose block passes the checks hands it to every read that joined; any other is
reconstructed, and its row repaired, where the other strips allow, and else is a loss; past its soft deadline it is reconstructed. A
reissue that succeeds has its effect and counts a transient fault; one that fails makes the member FAILED. Rests on 04 R108, R137, R138,
05 R151, R152, 06 R173, R174, R178, R190, R192. -/
def Obligations.MemberReads : Prop := ∀ s : State,
  let d := s.dev
  (∀ tag c, tget d.adm.cmds tag = some c →
    (isRead c.kind = true → Gives (.readResolve tag) s (runRead tag d)) ∧ (isRead c.kind = false → Gives (.readResolve tag) s d)
    ∧ ∀ i, c.blocks.getD i .lost = .waiting → let lba := firstLba c + i
      (resolve d c.nsid lba c.asn = .wait → captureBlock tag i d = d)
      ∧ (∀ b, resolve d c.nsid lba c.asn = .data b → captureBlock tag i d = setBlock tag i (.value b.data) d)
      ∧ (∀ p, resolve d c.nsid lba c.asn = .fetch p → captureBlock tag i d = fetchPage p d)
      ∧ (resolve d c.nsid lba c.asn = .zero → (lowerWrites d c.nsid lba c.asn).isEmpty = false → captureBlock tag i d = setBlock tag i (.value 0) d))
  ∧ (∀ m c p, tget d.shelf.cmds m = some c → c.op = .readBlock p →
    let e := occur 6 1 4096 (memberAttr c.bay 0) (memberEnd m (memberCells m c d))
    let after := fun (x : Dev) => maybeCheckpoint (resumeRepairs x)
    (c.phase = .queued → ∀ r o l, Gives (.memberReadComplete m r o l) s (after d))
    ∧ (∀ st, c.phase ≠ .queued → rowAt e p.shoal p.row = some st →
      let own := slotPos (stripeGeom e st) st.row p.slot
      let x := expected p c.joined e
      (∀ r o l v, c.recon = false → checkBlock x.2 st x.1 r = .good v →
        Gives (.memberReadComplete m r o l) s (after (tryFree p.shoal p.row (deliver p (.value v) c.joined x.2))))
      ∧ (∀ r o l, c.recon = false → (∀ v, checkBlock x.2 st x.1 r ≠ .good v) → Gives (.memberReadComplete m r o l) s
          (after (rebuildBlock p o (own :: l) true c.joined (noteErrors 0 p.shoal p.row (badMet e p (own :: l)) false x.2))))
      ∧ (∀ r o l, c.recon = true → Gives (.memberReadComplete m r o l) s
          (after (rebuildBlock p o l false c.joined (noteErrors 0 p.shoal p.row (badMet e p l) true x.2)))))
    ∧ (∀ st, rowAt d p.shoal p.row = some st →
      let own := slotPos (stripeGeom d st) st.row p.slot
      let x := expected p c.joined d
      ∀ o late l, let out := own :: late.flatMap (fun q => [(q, own.2), (q, 31)]) ++ l
        (c.joined = [] ∨ readableAt d p out = false → Gives (.readSoftDeadline { mcid := m, recon := o, late := late, bad := l }) s (resumeRepairs d))
        ∧ ∀ v, c.joined ≠ [] → readableAt d p out = true → checkBlock x.2 st x.1 o = .good v →
          let f := occur 6 6 1 { nsid := some x.1.nsid, lba := some x.1.lba } (noteErrors 0 p.shoal p.row (badMet d p (own :: l)) true x.2)
          Gives (.readSoftDeadline { mcid := m, recon := o, late := late, bad := l }) s
            (resumeRepairs (deliver p (.value v) c.joined { f with shelf.cmds := tput f.shelf.cmds m { c with joined := [] } }))))
  ∧ (∀ p o l fix tags e st, rowAt e p.shoal p.row = some st →
    let x := expected p tags e
    (readableAt e p l = false → rebuildBlock p o l fix tags e = loseRead p l tags e)
    ∧ (readableAt e p l = true →
      (∀ v, checkBlock x.2 st x.1 o = .good v →
        let f := deliver p (.value v) tags (occur 6 6 1 { nsid := some x.1.nsid, lba := some x.1.lba } x.2)
        rebuildBlock p o l fix tags e = if fix then repairRow p.shoal p.row (l.filter (fun y => (stripBay e st y.1).isSome)) f else f)
      ∧ (checkBlock x.2 st x.1 o = .gcm → rebuildBlock p o l fix tags e = authRead p tags x.2)
      ∧ (checkBlock x.2 st x.1 o = .bad → rebuildBlock p o l fix tags e = loseRead p l tags x.2)))
  ∧ (∀ e st (b : Machine.Block) (m x : Nat), let auth : Bool := ((tget e.host.nss b.nsid).map (·.auth)).getD false
    let same := bits m 95 64 = b.nsid ∧ bits m 159 96 = b.lba ∧ bits m 383 352 = geoGen st ∧ bits m 223 160 = Config.guard64 x
    checkBlock e st b .error = .bad ∧ checkBlock e st b .stored = .good b.data
    ∧ (¬same → checkBlock e st b (.block m x) = .bad)
    ∧ (same → auth = true → bits m 351 224 ≠ blockTag b.key b.nsid b.lba (bits m 63 0) x → checkBlock e st b (.block m x) = .gcm)
    ∧ (same → auth = false ∨ bits m 351 224 = blockTag b.key b.nsid b.lba (bits m 63 0) x → checkBlock e st b (.block m x) = .good x))
  ∧ (∀ m c, tget d.shelf.cmds m = some c → c.phase = .reissued →
    (∀ r, Gives (.memberReissueComplete m (.good r)) s
      (settleStripes (resumeRepairs (memberDone m c r.res r.recon r.bad (transientFault c.bay d)))))
    ∧ Gives (.memberReissueComplete m .failed) s (settleStripes (resumeRepairs
        ((((d.shelf.cmds.filter (fun e => e.2.bay == c.bay)).flatMap (fun e => e.2.joined)).eraseDups).foldl
          (fun a t => runRead t a) (failBay c.bay d)))))

/-- Disabling a controller discards its capsules and lets its writes land, and RDY clears when it has drained; a shutdown then reads
complete; an association whose keep-alive expires ends, with a WARN event, but not during the pause of R244. A torn down queue pair
closes and sends a disconnect; its slots come back at CM_DISCONNECT, and a window's memory when nothing holds a slot. Rests on 07
R218, R239 to R241, R244, 08 R280, R284. -/
def Obligations.QueuePairsEnd : Prop := ∀ s : State,
  let d := s.dev
  (∀ c k, ctrlOf d c = some k → k.ended = false →
    (k.enabled = true → Gives (.controllerDisable c) s (quiesce c d)
      ∧ (sqsOf d c = [] → d.adm.cmds = [] → d.host.waits = [] → quiesce c d = modCtrl c (fun x => { x with
          enabled := false, draining := true, asnReport := false, aers := [], pendingEvents := [] }) d))
    ∧ (k.enabled = false → Gives (.controllerDisable c) s d)
    ∧ (k.shst = 0 → sqsOf d c = [] → Gives (.shutdownNotification c) s (settleCtrl c (modCtrl c (fun x => { x with shst := 1 })
        { d with pool.waiting := d.pool.waiting.filter (fun w => w.1 != c) })))
    ∧ (k.shst ≠ 0 → Gives (.shutdownNotification c) s d)
    ∧ (k.kato ≠ 0 → d.host.admissionHeld = false →
        Gives (.keepAliveExpiry c) s (endAssociation c (logEvent 5 4 1 (payload c 0 0 0) d)))
    ∧ (k.kato = 0 ∨ d.host.admissionHeld = true → Gives (.keepAliveExpiry c) s d)
    ∧ (ctrlBusy d c = true → Gives (.controllerDrained c) s d)
    ∧ (ctrlBusy d c = false → (k.shst = 1 → Gives (.controllerDrained c) s (modCtrl c (fun x => { x with shst := 2 }) d))
      ∧ (k.shst ≠ 1 → k.draining = true → Gives (.controllerDrained c) s (modCtrl c (fun x => { x with ready := false, draining := false }) d))))
  ∧ (∀ c k, ctrlOf d c = some k → k.ended = true → ctrlBusy d c = false → Gives (.controllerDrained c) s
      { d with host.ctrls := terase d.host.ctrls c, cove.bindings := tmod d.cove.bindings k.binding (fun b => { b with assoc := b.assoc - 1 }) })
  ∧ (∀ n q, qpOf d n = some q →
    (q.disconnecting = true → Gives (.hostDisconnect n) s d)
    ∧ (q.disconnecting = false →
      let x := match sqOfQp d n with
        | some y => deleteSq y.1 y.2 (some (gen 0x08)) d
        | none => d
      let e := closeQp n (endQpCmds n false x)
      (adminOfQp e n = none → Gives (.hostDisconnect n) s e)
      ∧ (∀ c, adminOfQp e n = some c → Gives (.hostDisconnect n) s (endAssociation c e)))
    ∧ (q.disconnecting = false → Out.cmDisconnect n ∈ (closeQp n d).out ∧ ∃ w, qpOf (closeQp n d) n = some w ∧ w.disconnecting = true
        ∧ w.connected = false ∧ w.msgs = [] ∧ w.backlog = [] ∧ w.sent = [] ∧ (w.landing.map (·.revoked)) = q.landing.map (fun _ => true))
    ∧ (q.disconnecting = true → q.released = false →
      let e := { d with net.contexts := d.net.contexts - contextsOf q }
      (q.landing = none → Gives (.cmDisconnect n) s (dropQp n e))
      ∧ (q.landing.isSome = true → Gives (.cmDisconnect n) s { e with net.qps := tmod d.net.qps n (fun w => { w with released := true }) }))
    ∧ (q.disconnecting = false ∨ q.released = true → Gives (.cmDisconnect n) s d)
    ∧ ∀ l, q.landing = some l →
      (l.revoked = true → windowHeld q = false → q.released = false → Gives (.landingWindowReturn n) s { d with
        net.landingUsed := d.net.landingUsed - l.size, net.qps := tmod d.net.qps n (fun w => { w with landing := none }) })
      ∧ (l.revoked = false ∨ windowHeld q = true → Gives (.landingWindowReturn n) s d))

/-- The Strait's link. Nothing arrives while the link is down, and after an LLNAK nothing but the LSEQ that it named. An LLNAK
replays from its LSEQ, and a frame's sixteenth replay, or a replay buffer that stays full, takes the link down; an LLACK drops what
arrived and lets the frames go that waited for room. A
heartbeat leaves only while the liveness counter advances, and one that arrives clears the count of those missed. Rests on 13 R397,
R402, R403, R409, R411. -/
def Obligations.StraitLinks : Prop := ∀ (s : State) (h : StraitHdr) (n : Nat),
  let d := s.dev
  let frame := { d with pair.nakFor := none, pair.rxLseq := h.lseq }
  (∀ f : Dev → Memory → Dev × Memory, d.pair.straitUp = false ∨ (∃ x, d.pair.nakFor = some x ∧ x ≠ h.lseq) → takeFrame' h f d s.mem = (d, s.mem))
  ∧ (∀ f : Dev → Memory → Dev × Memory, d.pair.straitUp = true → d.pair.nakFor = none ∨ d.pair.nakFor = some h.lseq → takeFrame' h f d s.mem = f frame s.mem)
  ∧ (let x := dropOutput straitStation { d with
        pair.straitUp := false, pair.lanes := 0, pair.replayBuffer := [], pair.sendWaits := [], pair.nakFor := none, pair.helloSent := false }
    Makes .straitLinkDown s (linkDown d s.mem) ∧ (d.pair.partner ≠ 1 → linkDown d s.mem = (x, s.mem)) ∧ (d.pair.partner = 1 → linkDown d s.mem = abandonPairing x s.mem))
  ∧ (d.pair.sendWaits ≠ [] ∨ 2 ^ 20 ≤ replayBytes d ∨ (∃ f ∈ d.pair.replayBuffer, 16 ≤ f.replays) → Makes .straitReplayTimeout s (linkDown d s.mem))
  ∧ (d.pair.sendWaits = [] → replayBytes d < 2 ^ 20 → (∀ f ∈ d.pair.replayBuffer, f.replays < 16) → Gives .straitReplayTimeout s d)
  ∧ (d.pair.straitUp = true →
    Gives (.straitLlack n) s (sendWaiting d.pair.sendWaits { d with pair.replayBuffer := dropAcked n d.pair.replayBuffer })
    ∧ (d.pair.nakFor = none → Gives (.straitFrameCrcFail n) s (straitLink 7 n { d with pair.nakFor := some n }))
    ∧ (d.pair.nakFor.isSome = true → Gives (.straitFrameCrcFail n) s d)
    ∧ (∀ f l, d.pair.replayBuffer = f :: l → f.lseq = n → (∀ g ∈ f :: l, g.replays < 15) →
      let again := (f :: l).map (fun x => { x with replays := x.replays + 1 })
      Gives (.straitLlnak n) s (again.foldl (fun a x => emit (.strait x) a)
        { d with pair.replayBuffer := again, pair.replays := satAdd 16 d.pair.replays 1 }))
    ∧ ((∀ f ∈ d.pair.replayBuffer, f.lseq ≠ n) → Gives (.straitLlnak n) s d))
  ∧ (d.pair.straitUp = false → Gives (.straitLlack n) s d ∧ Gives (.straitLlnak n) s d ∧ Gives (.straitFrameCrcFail n) s d)
  ∧ (∀ f l, f.lseq = n → dropAcked n (f :: l) = l) ∧ Gives .straitLlackTimer s (straitLink 6 d.pair.rxLseq d)
  ∧ (∀ f l, sendWaiting [] d = { d with pair.sendWaits := [] }
    ∧ (2 ^ 20 < replayBytes d + frameBytes f → sendWaiting (f :: l) d = { d with pair.sendWaits := f :: l })
    ∧ (replayBytes d + frameBytes f ≤ 2 ^ 20 →
      sendWaiting (f :: l) d = sendWaiting l (emit (.strait f) { d with pair.replayBuffer := d.pair.replayBuffer ++ [f] })))
  ∧ (coreRuns d = false → ∀ b, Gives (.heartbeatSend b) s d)
  ∧ (coreRuns d = true → Gives (.heartbeatSend false) s { d with pair.stalled := true }
    ∧ (let x := { d with pair.liveness := (d.pair.liveness + 1) % 2 ^ 32, pair.stalled := false }
      Gives (.heartbeatSend true) s (straitSend { type := 5, payload := heartbeatBytes x } x)))
  ∧ (d.pair.straitUp = true → d.pair.nakFor = none →
    (∀ r p w v c e q, (d.pair.role ≠ .standby ∨ r ≠ 0 ∨ p ≠ 2 ∨ e ≤ d.pair.epoch →
        Gives (.straitHeartbeat h r p w v c e q) s { frame with pair.hbMissed := 0 })
      ∧ (d.pair.role = .standby → r = 0 → p = 2 → d.pair.epoch < e → Gives (.straitHeartbeat h r p w v c e q) s { frame with
          pair.hbMissed := 0, pair.epoch := e, pair.record := some { writer := w, mode := 0, epoch := e, shelfId := d.pair.shelfId } }))
    ∧ (∀ b, Gives (.straitFenceTest h b) s { frame with pair.fenceSentSeen := b, pair.fenceWired := b && d.pair.fencePulseSeen }))
  ∧ (coreHeld d = true → Gives .fenceInPulse s d)
  ∧ (coreHeld d = false → Gives .fenceInPulse s (straitControl 9 [1#8]
      { d with pair.fencePulseSeen := true, pair.fenceWired := d.pair.fenceSentSeen }))
  ∧ (coreRuns d = false ∨ d.pair.straitUp = true ∨ (n ≠ 8 ∧ n ≠ 16) → Gives (.straitLinkUp n) s d)
  ∧ (coreRuns d = true → d.pair.straitUp = false → d.pair.partner ≠ 2 →
    let x := { d with pair.straitUp := true, pair.lanes := 16, pair.txLseq := 0, pair.rxLseq := 0, pair.nakFor := none,
                      pair.replayBuffer := [], pair.sendWaits := [] }
    (9 ≤ d.boot.step → Gives (.straitLinkUp 16) s (sendHello x s.mem)) ∧ (d.boot.step < 9 → Gives (.straitLinkUp 16) s x))

/-- The mirroring side applies each mirror frame in its order, and states with a MACK that all so far are durable, unless a page is
poisoned; a side that does not mirror applies none. Pages, journal and log units, ADMIN records, COVEIMG bytes and definitions stand
here as the partner has them; while two starts settle, a page or unit that this side could not read is the partner's. A page withdrawn by the partner is withdrawn here, and the data kept moves. Rests on 13 R391, R399,
R401, R404, R405, R408, 03 R70, R88, 09 R302. -/
def Obligations.MirrorFrames : Prop := ∀ (s : State) (h : StraitHdr),
  let d := s.dev
  let e := { d with pair.nakFor := none, pair.rxLseq := h.lseq }
  let done := fun (x : Dev) => sendMack { x with pair.rxMseq := h.mseq }
  d.pair.straitUp = true → d.pair.nakFor = none →
  (mirroring d = false → d.pair.settleWait = false →
    (∀ p t v g, Gives (.straitPage h p t v g) s e) ∧ (∀ p o u, Gives (.straitRegion h p o u) s e) ∧ (∀ r, Gives (.straitRelease h r) s e)
    ∧ (∀ x, Gives (.straitConfigNamespace h x) s e) ∧ (∀ x, Gives (.straitConfigCove h x) s e))
  ∧ (mirroring d = true →
    (∀ p t v g, d.pair.settleWait = false → Gives (.straitPage h p t v g) s (done (putPage p t v (g && !h.poison) e)))
    ∧ (∀ p o u, (o + u.length ≤ 64 → d.pair.settleWait = false →
          Makes (.straitRegion h p o u) s (done (putUnits p o u e s.mem).1, (putUnits p o u e s.mem).2))
      ∧ (64 < o + u.length → Gives (.straitRegion h p o u) s (done e)))
    ∧ (∀ r : List (Nat × Nat), Gives (.straitRelease h r) s (done ((runPages d r).foldl (fun a p => freePage p a)
        { e with pair.poisoned := d.pair.poisoned.filter (fun p => !r.any (fun y => decide (y.1 ≤ p) && decide (p < y.1 + y.2))) })))
    ∧ (∀ x : NsDef, x.present = false → Gives (.straitConfigNamespace h x) s (done { e with
        host.nss := terase d.host.nss x.nsid, str.unknownNs := d.str.unknownNs.filter (fun n => n != x.nsid) }))
    ∧ (∀ x : NsDef, x.present = true → Gives (.straitConfigNamespace h x) s (done (putNamespace h.sync x e))
      ∧ ∀ o, tget d.host.nss x.nsid = some o → putNamespace h.sync x e = { e with
          host.nss := tput d.host.nss x.nsid { o with nsze := x.nsze, grain := x.grain, shoal := x.shoal, auth := x.auth, pageBase := x.pageBase,
                                                        nextAsn := max o.nextAsn x.nextAsn, resumes := x.resumes, writeProtect := x.writeProtect } })
    ∧ (∀ x, Gives (.straitConfigCove h x) s (done (putCove x e)))
    ∧ (∀ i b, (b.valid = true → Gives (.straitConfigBinding h i b) s (done { e with cove.bindings := tput d.cove.bindings i { b with assoc := 0 } }))
      ∧ (b.valid = false → b.hostid = 0 → b.maxAssoc = 0 → Gives (.straitConfigBinding h i b) s (done { e with cove.bindings := terase d.cove.bindings i })))
    ∧ (∀ r, Gives (.straitConfigReservation h r) s (done { e with host.resv := tput d.host.resv r.nsid r }))
    ∧ (∀ r k, (r.kind = 0 → Gives (.straitConfigNsKey h r k) s (done { e with keys.nsKeys := terase d.keys.nsKeys r.nsid }))
      ∧ (r.kind ≠ 0 → Gives (.straitConfigNsKey h r k) s (done (putNsKey r k e))))
    ∧ (∀ r, Gives (.straitConfigSlotKey h r) s (done (putSlotKey r e)))
    ∧ (∀ o l b, let x := chartChunk o l b e s.mem
      Makes (.straitConfigChartChunk h o l b) s (done x.1, x.2)))
  ∧ (mirroring d = false → d.chart.adopt ≠ 0 → ∀ o l b, Makes (.straitConfigChartChunk h o l b) s (chartChunk o l b e s.mem))
  ∧ (∀ p o u, o + u.length ≤ 64 → d.pair.settleWait = true → h.sync = true → Makes (.straitRegion h p o u) s (settleUnits p o u e s.mem))
  ∧ (∀ p t v g, d.pair.settleWait = true → h.sync = true → Gives (.straitPage h p t v g) s (settlePage p t v (g && !h.poison) e))
  ∧ (∀ p t v, (regionOf d.pool.layout p ≠ .stage ∨ d.pool.withdrawn.contains p = true → ∀ g, putPage p t v g d = d)
    ∧ (regionOf d.pool.layout p = .stage → d.pool.withdrawn.contains p = false →
      putPage p t v false d = { d with pair.poisoned := p :: d.pair.poisoned.filter (fun q => q != p) }
      ∧ putPage p t v true d = occur 4 0 1 (poolAttr straitStation p) { d with
          pool.pages := tput d.pool.pages p { life := .staged, slot := nextSlot d p, tag := t, data := v, key := nsKeyValue d t.nsid }
          pair.poisoned := d.pair.poisoned.filter (fun q => q != p) }))
  ∧ (∀ x, (x.pair.poisoned = [] → sendMack x = straitSend { type := 4, payload := leBytes x.pair.rxMseq 4 ++ leBytes 0 4 } x)
      ∧ (x.pair.poisoned ≠ [] → sendMack x = x))
  ∧ (∀ p, Gives (.straitWithdraw h p) s (aroundAll (partnerWithdrew p e))
    ∧ (d.pool.withdrawn.contains p = true ∨ regionOf d.pool.layout p ≠ .stage → partnerWithdrew p d = d)
    ∧ (d.pool.withdrawn.contains p = false → regionOf d.pool.layout p = .stage →
      (tget d.pool.pages p = none → partnerWithdrew p d = judgeFloors (judgeLevel { d with pool.withdrawn := d.pool.withdrawn ++ [p] }))
      ∧ (serves d = true → joining d = false → thas d.pool.pages p = true → partnerWithdrew p d = repeatWrite p d)))

/-- A HELLO that fails a check of R406 is refused with its code, which raises PAIR_INT and fences a joining side; sides that
agree go to the sync (a side FENCED with reason 6 does not), which empties the joining side and ends with it STANDBY and
registered; the MACK that covers it records the pair. A durable record gives the side its role and lets the member writes that
waited go. Rests on 13 R392, R396, R400, R406, R407, R401, 02 R56. -/
def Obligations.SidesPair : Prop := ∀ (s : State) (h : StraitHdr),
  let d := s.dev
  let e := { d with pair.nakFor := none, pair.rxLseq := h.lseq }
  d.pair.straitUp = true → d.pair.nakFor = none →
  (∀ x, let y := { e with pair.helloIn := some x }
    (d.boot.step < 9 ∨ d.pair.partner = 2 → Gives (.straitHello h x) s y)
    ∧ (9 ≤ d.boot.step → d.pair.partner ≠ 2 → d.pair.helloSent = true →
      (d.pair.partnerWait = false → Makes (.straitHello h x) s (tryPair y s.mem)) ∧ (d.pair.partnerWait = true → Makes (.straitHello h x) s (settlePair true y s.mem)))
    ∧ (9 ≤ d.boot.step → d.pair.partner ≠ 2 → d.pair.helloSent = false → d.pair.partnerWait = false → (sendHello y s.mem).pair.partnerWait = false →
        Makes (.straitHello h x) s (tryPair (sendHello y s.mem) s.mem)))
  ∧ (∀ x, let y := { d with pair.helloIn := some x }
    (d.pair.role = .fenced → d.pair.fenceReason = 6 → tryPair y s.mem = (y, s.mem))
    ∧ (∀ c, d.pair.partner ≠ 2 → d.pair.syncing = false → (chartOf d).laneMode ≠ 1 → joining d = true ∨ servesPair d = true →
      d.pair.role ≠ .fenced ∨ d.pair.fenceReason ≠ 6 → helloCode y x = some c →
      tryPair y s.mem = (refusePair c (straitControl 2 (leBytes c 1) y), s.mem))
    ∧ (x.shelfId ≠ d.pair.shelfId → x.shelfId ≠ 0 → d.pair.shelfId ≠ 0 → helloCode d x = some 1)
    ∧ (x.shelfId = d.pair.shelfId → (x.side = d.pair.side → helloCode d x = some 2)
      ∧ (x.side ≠ d.pair.side → (chainAgrees d x = false → helloCode d x = some 3)
        ∧ (chainAgrees d x = true → (x.kekCheck ≠ d.keys.kekCheck → helloCode d x = some 5)
          ∧ (x.kekCheck = d.keys.kekCheck → helloCode d x = if x.version = 1 then none else some 6)))))
  ∧ (∀ c, (d.pair.helloIn = none → d.pair.refuse = c % 16 → Gives (.straitRefuse h c) s e)
    ∧ (d.pair.refuse ≠ c % 16 → Gives (.straitRefuse h c) s (refusePair (c % 16) e)))
  ∧ (joining d = false ∨ d.pair.partner = 2 → Gives (.straitSyncBegin h) s e)
  ∧ (joining d = true → d.pair.partner ≠ 2 → Leads (.straitSyncBegin h) s (fun t => t.dev.pair.syncing = true ∧ t.dev.pair.rxMseq = 0
      ∧ t.dev.host.nss = [] ∧ t.dev.cove.bindings = [] ∧ t.dev.keys.nsKeys = [] ∧ t.dev.keys.slots = [] ∧ t.dev.str.map = [] ∧ t.dev.str.rows = []
      ∧ t.dev.pool.marks = [] ∧ t.dev.adm.cmds = [] ∧ t.dev.pool.state = .ready ∧ t.mem = s.mem))
  ∧ (∀ n, (joining d = false ∨ d.pair.syncing = false → Gives (.straitSyncEnd h n) s (sendMack e))
    ∧ Gives (.straitSyncEnd h n) s (sendMack (syncEnded e)))
  ∧ (∀ n, (mirrors d = false → Gives (.straitMack h n) s e)
    ∧ (mirrors d = true → let y := { e with pair.ackMseq := max d.pair.ackMseq (min n d.pair.txMseq) }
      (d.pair.syncEnd = none → Gives (.straitMack h n) s (settleResv (tryCompleteAll y)))
      ∧ ∀ k, d.pair.syncEnd = some k →
        (y.pair.ackMseq < k → Gives (.straitMack h n) s (settleResv (tryCompleteAll y)))
        ∧ (k ≤ y.pair.ackMseq → Gives (.straitMack h n) s (settleResv (tryCompleteAll (recordBegin .pairing 0 (some .active) { y with pair.syncEnd := none }))))))
  ∧ (d.pair.recordNext = none → Gives .epochRecordDurable s d)
  ∧ (∀ r, d.pair.recordNext = some r →
      let y := { recordsWritten (fun _ c => writesLba (fun l => l == shelfLba r.epoch) c) d with
        pair.epoch := r.epoch, pair.record := some r, pair.recordPending := false, pair.recordNext := none, pair.recordRole := none, shelf.heldOps := [] }
      let z := match d.pair.recordRole with
        | some x => setRole x y
        | none => y
      let lets := fun (x : Dev) => d.shelf.heldOps.foldl (fun a o => memberIssue o.1 o.2 a) (spreadRecord r x)
      let goes := fun (x : Dev) => x.str.shoals.foldl (fun a e => issueAll e.1 a) x
      (d.pair.recordFor = .start ∨ d.pair.recordFor = .takeover ∨ d.pair.recordFor = .forced → Gives .epochRecordDurable s (goes (lets z)))
      ∧ (d.pair.recordFor = .pairing → Gives .epochRecordDurable s
          (goes (lets (raisePair 2 { z with pair.partner := 2, pair.syncing := false }))))
      ∧ (d.pair.recordFor = .solo → Gives .epochRecordDurable s (goes (lets (settleWrites z))))
      ∧ (d.pair.recordFor = .swap → Gives .epochRecordDurable s (goes (lets (swapTaken z)))))
  ∧ (∀ b, d.chart.adopt ≠ 3 → (storeDone b d s.mem).1.clk.swapWaiting = false → Makes (.chartStoreDone b) s (storeDone b d s.mem))

/-- How a start settles. An eligible side whose partner is not seen waits 10 s and starts SOLO: it draws SHELF_ID where none is
known, acquires the members, records its epoch and replays; one that is not eligible is FENCED with reason 3. The writer waits for
the partner's pages. Replay ends with the pool READY, once no page is held; a KEK that is loaded lets it go on. Rests on 13 R393,
R396, R408, R413, 03 R50, R91, 12 R376, R378, 15 R442, R443. -/
def Obligations.StartsSettle : Prop := ∀ (s : State) (h : StraitHdr),
  let d := s.dev
  let waits := { d with pair.partnerWait := false, pool.state := .replaying }
  (∀ b, d.boot.step ≠ 9 ∨ d.pool.state ≠ .recovering ∨ d.pair.partnerWait = true ∨ d.pair.settleWait = true ∨ d.pair.joinWait = true → Gives (.pairSettle b) s d)
  ∧ (∀ b, coreRuns d = true → d.boot.step = 9 → d.boot.code ≠ 8 → d.pool.state = .recovering → d.pair.partnerWait = false → d.pair.settleWait = false →
      d.pair.joinWait = false → d.pair.recordPending = false → Makes (.pairSettle b) s (settlePair b d s.mem))
  ∧ ((chartOf d).laneMode = 1 → ∀ b, settlePair b d s.mem = (startSolo waits, s.mem))
  ∧ ((chartOf d).laneMode ≠ 1 → ∀ b, d.pair.foreignPool = true ∨ recordEligible d = false → settlePair b d s.mem = tryPair (startFenced waits) s.mem)
  ∧ ((chartOf d).laneMode ≠ 1 → d.pair.foreignPool = false → recordEligible d = true →
    settlePair false d s.mem = ({ d with pair.partnerWait := true, pool.state := .replaying }, s.mem)
    ∧ ∀ x, d.pair.helloIn = some x →
      (helloCode waits x = some 1 ∨ helloCode waits x = some 2 ∨ partnerEligible waits x = false → settlePair true d s.mem = (startSolo waits, s.mem))
      ∧ (helloCode waits x = none → partnerEligible waits x = true →
        (isWriter waits = true → settlePair true d s.mem = (acquireStart (drawShelf { waits with pair.settleWait := true }), s.mem))
        ∧ (isWriter waits = false → settlePair true d s.mem = tryPair (sendPages waits) s.mem)))
  ∧ (coreRuns d = true → d.pair.partnerWait = true ∨ d.pair.settleWait = true → Gives .partnerWaitTimeout s (startSolo d))
  ∧ (d.pair.partnerWait = false → d.pair.settleWait = false → Gives .partnerWaitTimeout s d)
  ∧ (d.pair.shelfId = 0 → drawShelf d = { d with pair.shelfId := Config.drbg d.draws % 2 ^ 128, draws := d.draws + 1 })
  ∧ (d.pair.shelfId ≠ 0 → drawShelf d = d)
  ∧ (startSolo d = replay (recordBegin .start 1 (some .solo) (acquireStart (drawShelf
      { d with pair.partnerWait := false, pair.settleWait := false, pair.joinWait := false }))))
  ∧ (∀ n, d.pair.straitUp = true → d.pair.nakFor = none → let e := { d with pair.nakFor := none, pair.rxLseq := h.lseq }
    (d.pair.settleWait = true → Gives (.straitSettleEnd h n) s (replay { e with pair.settleWait := false }))
    ∧ (d.pair.settleWait = false → Gives (.straitSettleEnd h n) s e))
  ∧ (d.pool.state ≠ .replaying ∨ d.pool.pages ≠ [] ∨ d.pair.recordPending = true → Gives .replayComplete s d)
  ∧ (d.pool.state = .replaying → d.pool.pages = [] → d.pair.recordPending = false → d.pair.liveRecovery = true →
    let x := pruneShadows { d with pool.state := .ready, pool.kept := [] }
    let y := logEvent 2 9 0 (payload 0 0 0 (x.pool.discarded + x.pool.restriped * 2 ^ 64)) (raisePool 3 x)
    y.pair.liveRecovery = true → Makes .replayComplete s (tryPair (resumeAll (resumeWork (setAna false
      { y with pair.liveRecovery := false, host.admissionHeld := false }))) s.mem))
  ∧ (∀ b p, d.mhi.mboxReady = true → d.mhi.mboxBusy = false →
    let e := { d with mhi.mboxRefused := false, mhi.mboxBusy := true, mhi.mboxPending := false,
                      mhi.mboxRoom := if d.mhi.mboxPending then d.mhi.mboxRoom else none }
    (blobOk d b = false → d.boot.replayHeld = false → Runs (.mboxShelfkeyLoad b p) s (mboxDone { status := 2 } e))
    ∧ (blobOk d b = true → unsealBlob b = none → d.boot.replayHeld = false → Runs (.mboxShelfkeyLoad b p) s (mboxDone { status := 7 } e))
    ∧ (∀ v, blobOk d b = true → unsealBlob b = some v → let x := shelfkeyLoad b p e
      (x.boot.replayHeld = false → Runs (.mboxShelfkeyLoad b p) s x)
      ∧ (x.boot.replayHeld = true → x.keys.kek.isSome = true → Runs (.mboxShelfkeyLoad b p) s (replayKept x))))

/-- Three missed heartbeats raise PARTNER_LOST and query the partner's chain; a second timeout is no answer. Each role then acts by
R410: an ACTIVE side fences and enters SOLO, a STANDBY side fences and takes over, waits to be fenced, or is FENCED. PAIR_CTRL needs
its key and one bit. A write's reservation conflict fences this side; a record's write is not retried; other errors are reissued once,
and a second one makes the member FAILED. Rests on 13 R391, R409 to
R413, R418, R419, R424, 15 R457, 06 R173, 02 R53. -/
def Obligations.PartnerLost : Prop := ∀ s : State,
  let d := s.dev
  let missed := { d with pair.hbMissed := d.pair.hbMissed + 1 }
  let shelf := d.pair.shelfId % 2 ^ 32
  (d.pair.hbMissed ≠ 2 → Gives .heartbeatMissed s missed)
  ∧ (d.pair.hbMissed = 2 →
    (d.pair.partner = 0 → Gives .heartbeatMissed s missed)
    ∧ (d.pair.partner = 1 → Makes .heartbeatMissed s (abandonPairing (raisePair 1 missed) s.mem))
    ∧ (d.pair.partner = 2 → Gives .heartbeatMissed s (tlQuery (raisePair 1 { missed with pair.takeover := .querying }))))
  ∧ (d.tline.query = none → Gives .tidelineQueryTimeout s d)
  ∧ (∀ v, (d.tline.query = some (v, false) → Gives .tidelineQueryTimeout s (tlPartner 6 v { d with tline.query := some (v, true) }))
    ∧ (d.tline.query = some (v, true) → d.pair.takeover = .querying → Gives .tidelineQueryTimeout s
        (actOnAnswer .noAnswer { d with tline.query := none, pair.tidelinePartner := false, pair.takeover := .none })))
  ∧ (d.pair.role = .active →
    (d.pair.fenceWired = true → ∀ a, actOnAnswer a d = enterSolo { d with pair.fenceOut := true, pair.fencingPartner := true })
    ∧ (d.pair.fenceWired = false → actOnAnswer .noAnswer d = enterSolo d
      ∧ ∀ a, a ≠ .noAnswer → actOnAnswer a d = tlPartner 8 shelf { d with pair.takeover := .soloFencing, pair.fencingPartner := true }))
  ∧ (d.pair.role = .standby → actOnAnswer .alive d = { d with pair.takeover := .waitFence }
    ∧ (d.pair.fenceWired = true → actOnAnswer .noAnswer d = { d with pair.takeover := .grace })
    ∧ (d.pair.fenceWired = false → actOnAnswer .noAnswer d = becomeFenced 6 d
      ∧ actOnAnswer .dead d = (let x := tlPartner 8 shelf { d with pair.fencingPartner := true }
        if x.pair.fenceWired then startTakeover (wireFence x) else { x with pair.takeover := .fencing })))
  ∧ (d.pair.takeover = .grace → d.boot.fenceHold = false → Gives .fenceGraceTimer s
      (startTakeover { d with pair.takeover := .none, pair.fenceOut := true, pair.fencingPartner := true }))
  ∧ (d.pair.takeover ≠ .grace ∨ d.boot.fenceHold = true → Gives .fenceGraceTimer s d)
  ∧ (d.pair.takeover = .waitFence → Gives .standbyFenceWait s (becomeFenced 5 d)) ∧ (d.pair.takeover ≠ .waitFence → Gives .standbyFenceWait s d)
  ∧ (let x := { d with pair.fenceOut := false, pair.fencingPartner := false }
    (d.boot.tlineHold = false → Gives .fenceHoldExpiry s x)
    ∧ (d.boot.tlineHold = true → Gives .fenceHoldExpiry s (beginStart { x with boot.tlineHold := false, tline.fencedBy := none })))
  ∧ (∀ f, (d.pair.takeover ≠ .acquiring → Gives (.takeoverAcquired f) s d)
    ∧ (d.pair.takeover = .acquiring → Gives (.takeoverAcquired f) s (liveRecover f (recordBegin .takeover 1 (some .solo) (clearPairing (acquired d))))))
  ∧ (blocksOpen d = true →
    (∀ f, Gives (.pairCtrlForce 0 f) s (pairIgnore d) ∧ (d.pair.role = .solo → d.pair.partnerWait = false → Gives (.pairCtrlForce 0xA500 f) s d)
      ∧ (d.pair.role = .fenced → let x := acquired (acquireAll true true (clearPairing d))
        Gives (.pairCtrlForce 0xA500 f) s (liveRecover f (setAna true (recordBegin .forced 2 (some .solo)
          (logEvent 0x0C 6 2 (payload 0 0 0 0) { x with pair.foreignPool := false }))))))
    ∧ Gives (.pairCtrlUnfence 0) s (pairIgnore d)
    ∧ (d.pair.fencingPartner = true → Gives (.pairCtrlUnfence 0xA500) s (tlPartner 9 shelf { d with pair.fenceOut := false, pair.fencingPartner := false }))
    ∧ (d.pair.fencingPartner = false → d.pair.fenceOut = false → Gives (.pairCtrlUnfence 0xA500) s d))
  ∧ (∀ m x, tget d.shelf.cmds m = some x →
    (x.phase = .queued → ∀ b, Gives (.memberCommandError m b) s d)
    ∧ (∀ p, x.op = .readBlock p → ∀ b,
      (x.phase ≠ .queued → x.phase ≠ .reissued → Gives (.memberCommandError m b) s (reissueMember m (occur 6 3 1 (memberAttr x.bay 0) d)))
      ∧ (x.phase = .reissued → Gives (.memberCommandError m b) s (failServing x.bay d)))
    ∧ (∀ k i, x.op = .labelWrite k i → x.phase ≠ .queued → Gives (.memberCommandError m true) s (becomeFenced 2 d)
      ∧ (x.phase = .reissued → Gives (.memberCommandError m false) s (failServing x.bay d))
      ∧ (x.phase ≠ .reissued → Gives (.memberCommandError m false) s (reissueMember m (occur 6 3 1 (memberAttr x.bay 0) d))))
    ∧ (∀ l k, x.op = .recordWrite l k → x.phase ≠ .queued → Gives (.memberCommandError m false) s (memberEnd m d)))
  ∧ (∀ r, d.pair.role = r → setRole r d = d)

/-- A swap asked for on a paired ACTIVE side with the Chart engine idle begins with the partner's self-test, waits while a Cove
is busy or the Chart engine writes or switches a patch, and ends with RESULT 2 elsewhere. The pause stops admission and seals open stripes; once drained the counters and logs
are handed over, the new side acquires and records its epoch, and the old side is STANDBY. Past its time a swap is abandoned. A
Tide Table entry takes effect once an occurrence. A swap that waits for the Chart engine follows what ends its work. Rests on 13
R415 to R417, R423 to R425, 10 R323 to R325, 11 R355, R363, 02 R52, 07 R243. -/
def Obligations.RolesSwap : Prop := ∀ (s : State) (h : StraitHdr),
  let d := s.dev
  let e := { d with pair.nakFor := none, pair.rxLseq := h.lseq }
  let prepare := straitControl 6 (leBytes d.clk.tod.s 8 ++ leBytes d.clk.tod.ns 4)
  (blocksOpen d = true → Gives (.pairCtrlSwap 0) s (pairIgnore d) ∧ Gives (.pairCtrlSwap 0xA500) s (startSwap d))
  ∧ (d.pair.swap ≠ .none ∨ d.pair.swapDeferred = true → startSwap d = d)
  ∧ (d.pair.swap = .none → d.pair.swapDeferred = false →
    (d.pair.role ≠ .active ∨ d.pair.partner ≠ 2 ∨ d.chart.state ≠ .idle → startSwap d = swapEnds 2 d)
    ∧ (d.pair.role = .active → d.pair.partner = 2 → d.chart.state = .idle →
      (coveBusy d = true → startSwap d = { d with pair.swapDeferred := true })
      ∧ (coveBusy d = false → startSwap d = prepare { d with pair.swap := .selftest, pair.swapDeferred := false })))
  ∧ (d.pair.straitUp = true → d.pair.nakFor = none →
    (d.pair.role = .standby → d.pair.partner = 2 → Gives (.straitSwapPrepare h) s { e with pair.swap := .selftest })
    ∧ (d.pair.role ≠ .standby ∨ d.pair.partner ≠ 2 → Gives (.straitSwapPrepare h) s e)
    ∧ (∀ x w, mirroring d = true → Gives (.straitConfigSwapHandover h x w) s (sendMack (let y := takeHandover x w e
        { y with pair.rxMseq := h.mseq })))
    ∧ Makes (.straitSwapDone h) s (swapGiven e s.mem))
  ∧ (∀ p, (d.pair.swap ≠ .selftest → ∀ b, Gives (.swapSelftestDone b p) s d)
    ∧ (d.pair.swap = .selftest → d.pair.role = .standby → Gives (.swapSelftestDone true p) s (setAna true { d with pair.selftestFail := false })
      ∧ Gives (.swapSelftestDone false p) s (p.foldl (fun a k => planeOut k a)
        (raisePair 5 (logEvent 0x0C 4 2 (payload 0 0 0 0) { d with pair.selftestFail := true, pair.swap := .none }))))
    ∧ (d.pair.swap = .selftest → d.pair.role = .active →
      (d.chart.state ≠ .writing → d.chart.state ≠ .switching →
        Gives (.swapSelftestDone true p) s (swapPause { d with pair.selftestFail := false }))
      ∧ (d.chart.state = .writing ∨ d.chart.state = .switching →
        Gives (.swapSelftestDone true p) s { d with pair.selftestFail := false, pair.swap := .none, pair.swapDeferred := true })
      ∧ Gives (.swapSelftestDone false p) s (swapEnds 3 (logEvent 0x0C 4 2 (payload 0 0 0 0) { d with pair.selftestFail := true }))))
  ∧ (let x := setAna true { d with pair.swap := .draining, pair.swapStart := elapsed d, host.admissionHeld := true }
    swapPause d = (x.str.rows.filter (fun y => y.2.life == .opened)).foldl (fun a y => sealOrWait 1 y.2 a) x)
  ∧ (d.pair.swap = .draining → Gives .swapAbandonTimer s (resumeAll (swapEnds 4 (setAna false { d with
      host.admissionHeld := false, pair.pauseMs := min ((elapsed d - d.pair.swapStart) / 1000000) 65535 }))))
  ∧ (d.pair.swap = .selftest → d.pair.role = .standby → Gives .swapAbandonTimer s (setAna false { d with pair.swap := .none }))
  ∧ (d.pair.swap ≠ .draining → d.pair.swap ≠ .selftest → Gives .swapAbandonTimer s d)
  ∧ (d.pair.swap = .draining → swapReady d = true → Gives .swapDrained s (mirrorConfig 8 (handoverBytes d) { d with pair.swap := .handover }))
  ∧ (d.pair.swap ≠ .draining ∨ swapReady d = false → Gives .swapDrained s d)
  ∧ (∀ x w, d.pair.swap ≠ .selftest ∨ d.pair.role ≠ .standby → takeHandover x w d = d)
  ∧ (d.pair.swap = .acquiring → Gives .swapAcquired s (recordBegin .swap 0 (some .active) (acquired { d with
      pair.txMseq := 0, pair.ackMseq := 0, pair.mirrorPages := [] })))
  ∧ (d.pair.swap ≠ .acquiring → Gives .swapAcquired s d)
  ∧ (d.pair.swap ≠ .handover ∨ d.pair.role ≠ .active → swapGiven d s.mem = (d, s.mem))
  ∧ (d.pair.swap = .handover → d.pair.role = .active → d.pair.swapForFirmware = false → swapGiven d s.mem = (resumeAll (swapEnds 1 (setRole .standby { d with
      pair.pauseMs := min ((elapsed d - d.pair.swapStart) / 1000000) 65535, host.admissionHeld := false, host.anaChange := false
      pair.mirrorPages := [], pair.rxMseq := 0, shelf.drives := tall d.shelf.drives (fun v => { v with holder := false }) })), s.mem))
  ∧ (∀ p i x, (entriesOf (chartOf d))[i]? = some x → d.clk.todValid = true →
    ((recompute d).clk.executed.contains (p, i) = true → Gives (.tideTableEntry p i) s (recompute d))
    ∧ ((recompute d).clk.executed.contains (p, i) = false → x.swap = false → x.rack = false →
      (let y := recompute d
      Gives (.tideTableEntry p i) s { y with clk.executed := y.clk.executed ++ [(p, i)] })))
  ∧ (∀ p i, (entriesOf (chartOf d))[i]? = none → Gives (.tideTableEntry p i) s d)
  ∧ (∀ i x, ((profilesOf (chartOf d))[x.profile]?).any (fun q => q.swapPermit == 1) = true → (chartOf d).pair.swapEnable = 1 → d.pair.role = .active →
      d.pair.partner = 2 → d.clk.todValid = true → swapEntry i x d = if d.chart.state = .idle then startSwap d else { d with clk.swapWaiting := true })
  ∧ (∀ i x, d.pair.role ≠ .active ∨ d.pair.partner ≠ 2 ∨ d.clk.todValid = false → swapEntry i x d = logEvent 9 7 0 (payload i 0 0 0) d)
  ∧ (let x := chartSwitched d s.mem
    Makes .chartSwitchDone s (waitingSwap x.1, x.2) ∧ (x.1.clk.swapWaiting = false → Makes .chartSwitchDone s x))
  ∧ (∀ p, Makes (.chartCheckDone p) s (waitingSwap (checkDone p d s.mem).1, (checkDone p d s.mem).2))
  ∧ (∀ b, Makes (.chartStoreDone b) s (waitingSwap (chartStored b d s.mem).1, (chartStored b d s.mem).2)
    ∧ Makes (.chartReadbackDone b) s (waitingSwap (readbackDone b d s.mem).1, (readbackDone b d s.mem).2))

/-- The chain. Nothing arrives on a link that is down or unpowered; a frame that fails its CRC, or of a reserved TYPE, is dropped
and counted; one for another address is passed on. A controller claims the address after its upstream neighbour's unless it is
denied, takes one by ENUM, or keeps its stored one when TLI_IN does not come up. The mailbox's re-enumeration ends with the address.
Before the first start it sends no NULL and takes no ENUM. A frame waits for a slot behind those of its kind, the urgent ones first; one
that finds 16 is dropped and counted. Rests on 15 R451 to R456, R460, 18 R505, 19 R519. -/
def Obligations.ChainAddresses : Prop := ∀ (s : State) (inn : Bool) (w : Word64),
  let d := s.dev
  let dropped := { d with tline.dropped := satAdd 32 d.tline.dropped 1 }
  let up := if inn then d.tline.inUp else d.tline.outUp
  let whole := tlCrcOk w = true ∧ d.boot.alwaysOn = true ∧ up = true ∧ d.tline.head = false
  (d.boot.alwaysOn = false ∨ up = false → ∀ k f, tlReceive k inn w f d = d)
  ∧ (d.boot.alwaysOn = true → up = true → tlCrcOk w = false ∨ 14 ≤ tlType w → ∀ k f, tlReceive k inn w f d = { d with tline.bad := satAdd 32 d.tline.bad 1 })
  ∧ (whole → ∀ k f, k < 14 → (tlType w = k → tlReceive k inn w f d = f d) ∧ (tlType w < 14 → tlType w ≠ k → tlReceive k inn w f d = d))
  ∧ (d.boot.alwaysOn = true → up = true → tlCrcOk w = true → tlType w < 14 → tlType w ≠ 2 → d.tline.head = true → tlNumbered w = true → tlSrc w = 0 →
      d.tline.headConflict = false → ∀ f, tlReceive (tlType w) inn w f d = f (logEvent 0x11 2 2 (payload 0 0 0 0) { d with tline.headConflict := true }))
  ∧ (tlHop w = 63 → tlPass inn w d = dropped ∨ (tlBcast w = false ∧ ∃ a, d.tline.addr = some a ∧ tlDst w = a))
  ∧ (tlBcast w = true → d.tline.addr = some (tlSrc w) → tlPass inn w d = dropped ∧ ∀ f, tlHeard inn w f d = dropped)
  ∧ (∀ a, tlBcast w = false → d.tline.addr = some a →
      (tlDst w = a → ∀ f, tlMine inn w f d = f d)
      ∧ (tlDst w ≠ a → ∀ f, tlMine inn w f d = tlForward (decide (a < tlDst w)) w d))
  ∧ (whole →
    (tlType w = 0 →
      let a := if tlNumbered w then some (tlSrc w) else none
      (inn = false → Gives (.tlineNull inn w) s { d with tline.downstream := a })
      ∧ (inn = true → (d.tline.addr.isSome = true ∨ tlNumbered w = false → Gives (.tlineNull inn w) s { d with tline.upstream := a })
        ∧ (d.tline.addr = none → d.tline.settled = false → d.tline.claim = none → tlNumbered w = true → d.boot.started = true →
          (tlSrc w = 63 → Gives (.tlineNull inn w) s { d with tline.upstream := a, tline.settled := true })
          ∧ (tlSrc w < 63 → Gives (.tlineNull inn w) s (tlClaim (tlSrc w + 1) { d with tline.upstream := a })))))
    ∧ (tlType w = 2 → (d.tline.addr = some (tlSrc w) → Gives (.tlineClaim inn w) s (tlDrop (tlAnnounce 3 (tlPayload w % 65536) d)))
      ∧ (d.tline.addr ≠ some (tlSrc w) → Gives (.tlineClaim inn w) s (tlPass inn w d)))
    ∧ (tlType w = 3 → d.tline.addr = none →
      (∀ v c, d.tline.claim = some (v, c) → v = tlPayload w % 65536 → Gives (.tlineDeny inn w) s (tlPass inn w { d with tline.claim := none, tline.settled := true }))
      ∧ (d.tline.claim = none → Gives (.tlineDeny inn w) s (tlPass inn w d)))
    ∧ (tlType w = 4 → (inn = false ∨ tlSrc w = 63 ∨ d.boot.started = false → Runs (.tlineEnum inn w) s d)
      ∧ (inn = true → tlSrc w < 63 → d.boot.started = true → let x := tlTake (tlSrc w + 1) d
        Runs (.tlineEnum inn w) s (tlSettled (logEvent 0x11 3 0 (payload 0 (d.tline.addr.getD 0xFF) (tlSrc w + 1) 0)
          (tlEnum { x with tline.reenums := d.tline.reenums + 1 })))))
    ∧ (tlType w = 5 → Gives (.tlineReenumReq inn w) s (tlMine inn w (fun e => if e.tline.head ∧ !e.tline.headConflict then tlEnum e else e) d)))
  ∧ (∀ v c, d.tline.claim = some (v, c) → Gives .tlineClaimTimeout s (tlTake c d)) ∧ (d.tline.claim = none → Gives .tlineClaimTimeout s d)
  ∧ (d.boot.alwaysOn = true → d.tline.inUp = false → d.tline.settled = false → d.tline.addr = none → d.boot.started = true →
      (d.tline.stored = none → Gives .tlineInTimeout s { d with tline.settled := true }) ∧ ∀ a, d.tline.stored = some a → Gives .tlineInTimeout s (tlTake a d))
  ∧ (d.tline.inUp = true ∨ d.tline.settled = true ∨ d.tline.addr.isSome = true → Gives .tlineInTimeout s d)
  ∧ (let e := { d with mhi.mboxRefused := false, mhi.mboxBusy := true, mhi.mboxPending := false,
                       mhi.mboxRoom := if d.mhi.mboxPending then d.mhi.mboxRoom else none }
    d.mhi.mboxReady = true → d.mhi.mboxBusy = false →
    (d.tline.head = true → d.tline.headConflict = false → Runs .mboxTlineReenum s (mboxDone { status := 0 } (tlEnum e)))
    ∧ (d.tline.head = false → Runs .mboxTlineReenum s (tlUnicast 5 0 0 { e with host.waits := d.host.waits ++ [{ cntlid := 0, cid := 0, kind := 9 }] })))
  ∧ (d.boot.alwaysOn = true → Gives (.tlineLinkUp true) s (tlNull false { d with tline.inUp := true })
      ∧ Gives (.tlineLinkUp false) s (tlNull true { d with tline.outUp := true }))
  ∧ (d.boot.started = false → ∀ b, tlNull b d = d)
  ∧ Gives (.tlineLinkDown true) s { d with tline.inUp := false, tline.upstream := none, tline.inQ := [], tline.inNull := false }
  ∧ Gives (.tlineLinkDown false) s { d with tline.outUp := false, tline.downstream := none, tline.outQ := [], tline.outNull := false }
  ∧ (∀ f, d.boot.alwaysOn = true → d.tline.outUp = true →
    (16 ≤ d.tline.outQ.length → tlSend true f d = dropped)
    ∧ (d.tline.outQ.length < 16 → tlUrgent f = false → tlSend true f d = { d with tline.outQ := d.tline.outQ ++ [f] })
    ∧ (d.tline.outQ.length < 16 → tlUrgent f = true → tlSend true f d = { d with
        tline.outQ := d.tline.outQ.takeWhile tlUrgent ++ f :: d.tline.outQ.dropWhile tlUrgent }))
  ∧ (∀ f l, d.tline.outQ = f :: l → tlSlotOut d = emit (.tline true f) { d with tline.outQ := l })

/-- The roster keeps what each address last said of its shelf. A QUERY is answered with this controller's state, and the answer to
one's own QUERY decides. A FENCE or UNFENCE acts only from a neighbour that names this shelf: it fences an ALIVE controller and
holds any other in reset, until it is undone by the same neighbour. Time over the chain. A TIME_S and then a TIME_MARK of the one
origin heard, or of a lower one, measure the clock and are regenerated with HOP + 1, unless this controller is an origin itself; 3 s
without one make the source invalid. An origin sends both on each second. A frame's fields read as it was made. Rests on 15 R453,
R457, R459, 13 R409 to R411, 10 R325; 15 R452, R456, R458, 10 R315. -/
def Obligations.ChainQueries : Prop :=
  (∀ (s : State) (inn : Bool) (w : Word64) (a : Nat),
    let d := s.dev
    let up := if inn then d.tline.inUp else d.tline.outUp
    tlCrcOk w = true → d.boot.alwaysOn = true → up = true → d.tline.head = false → d.tline.addr = some a →
    (tlType w = 1 → tlSrc w ≠ a → (tlNumbered w = true → Gives (.tlineIdent inn w) s (tlPass inn w { d with
          tline.roster := tput d.tline.roster (tlSrc w) { shelf := tlPayload w, at_ := (elapsed d : Int) } }))
        ∧ (tlNumbered w = false → Gives (.tlineIdent inn w) s (tlPass inn w d)))
    ∧ Gives .tlineIdentTimer s (tlAnnounce 1 (d.pair.shelfId % 2 ^ 32) d)
    ∧ (tlBcast w = false → tlDst w ≠ a → (tlType w = 6 → Gives (.tlineQuery inn w) s (tlForward (decide (a < tlDst w)) w d))
        ∧ (tlType w = 8 → Gives (.tlineFence inn w) s (tlForward (decide (a < tlDst w)) w d)))
    ∧ (tlBcast w = false → tlDst w = a →
      (tlType w = 6 → Gives (.tlineQuery inn w) s (tlUnicast 7 (tlSrc w) (tlState d * 2 ^ 30 + tlPayload w % 65536) d))
      ∧ (tlType w = 7 → ∀ v again, d.tline.query = some (v, again) →
        (v = tlPayload w % 65536 → Gives (.tlineAnswer inn w) s (queryDone (if tlPayload w / 2 ^ 30 = 0 then .alive else .dead) d))
        ∧ (v ≠ tlPayload w % 65536 → Gives (.tlineAnswer inn w) s d))
      ∧ (tlType w = 8 → (tlFenceOk d w = false → Gives (.tlineFence inn w) s (tlDrop d))
        ∧ (tlFenceOk d w = true → (tlState d = 0 → Gives (.tlineFence inn w) s (tlUnicast 10 (tlSrc w) 0 (becomeFenced 1 d)))
          ∧ (tlState d ≠ 0 → Gives (.tlineFence inn w) s (tlUnicast 10 (tlSrc w) 1
              (stopAndHold { d with boot.tlineHold := true, tline.fencedBy := some (tlSrc w) })))))
      ∧ (tlType w = 9 → (tlFenceOk d w = false → Gives (.tlineUnfence inn w) s (tlDrop d))
        ∧ (tlFenceOk d w = true → (d.boot.tlineHold = true → d.tline.fencedBy = some (tlSrc w) →
            Gives (.tlineUnfence inn w) s (beginStart { d with boot.tlineHold := false, tline.fencedBy := none }))
          ∧ (d.boot.tlineHold = false ∨ d.tline.fencedBy ≠ some (tlSrc w) → Gives (.tlineUnfence inn w) s d)))
      ∧ (tlType w = 10 → (d.pair.takeover = .fencing → Gives (.tlineFenceAck inn w) s (startTakeover { d with pair.takeover := .none }))
        ∧ (d.pair.takeover = .soloFencing → Gives (.tlineFenceAck inn w) s (enterSolo d))
        ∧ (d.pair.takeover = .none → Gives (.tlineFenceAck inn w) s d)))
    ∧ (tlFenceOk d w = true ↔ (tlSrc w = a + 1 ∨ tlSrc w + 1 = a) ∧ tlPayload w = d.pair.shelfId % 2 ^ 32)
    ∧ (tlState d = if coreHeld d then 2 else if !coreRuns d then 3 else if d.pair.stalled then 1 else 0)
    ∧ (tlType w = 13 → tlSrc w ≠ a → let p := tlPayload w % 256
      (coreRuns d = true → d.clk.suspended = true → p < (profilesOf (chartOf d)).length → Gives (.tlineProfile inn w) s (tlPass inn w (setProfile p d)))
      ∧ (d.clk.suspended = false → Gives (.tlineProfile inn w) s (tlPass inn w d))))
  ∧ (∀ (s : State) (inn : Bool) (w : Word64),
    let d := s.dev
    let up := if inn then d.tline.inUp else d.tline.outUp
    let none_ := { d with tline.timeOrigin := none, tline.timeS := none, tline.timeHops := 0 }
    (tlCrcOk w = true → d.boot.alwaysOn = true → up = true → d.tline.head = false →
      (tlType w = 11 →
        (d.tline.addr = some (tlSrc w) → Gives (.tlineTimeS inn w) s d)
        ∧ (∀ o, d.tline.timeOrigin = some o → o < tlSrc w → Gives (.tlineTimeS inn w) s d)
        ∧ (d.tline.addr ≠ some (tlSrc w) → (d.tline.timeOrigin = none ∨ ∃ o, d.tline.timeOrigin = some o ∧ tlSrc w ≤ o) →
            Gives (.tlineTimeS inn w) s (tlRegenerate inn w (tlPayload w) { d with tline.timeS := some (tlPayload w), tline.timeOrigin := some (tlSrc w) })))
      ∧ (tlType w = 12 →
        (d.tline.addr = some (tlSrc w) ∨ d.tline.timeOrigin ≠ some (tlSrc w) ∨ d.tline.timeS = none → Gives (.tlineTimeMark inn w) s d)
        ∧ (∀ t, d.tline.addr ≠ some (tlSrc w) → d.tline.timeOrigin = some (tlSrc w) → d.tline.timeS = some t → tlOrigin d = true → coreRuns d = true →
            Gives (.tlineTimeMark inn w) s (measure 4 ((todNs d : Int) - ((t * 1000000000 + tlPayload w + 10 : Nat) : Int))
              { d with tline.timeHops := tlHop w, tline.timeS := none, draws := d.draws + 1 }))))
    ∧ (tlOrigin d = true → ∀ p, tlRegenerate inn w p d = d)
    ∧ (tlOrigin d = false → ∀ p, tlRegenerate inn w p d = tlSend inn (tlFrame (tlType w) (tlBcast w) (tlNumbered w) (tlDst w) (tlSrc w) (tlHop w + 1) p) d)
    ∧ (d.tline.addr = none ∨ tlOrigin d = false ∨ (d.tline.head = true ∧ d.tline.headConflict = true) → Gives .tlineTimeOriginTick s d)
    ∧ (∀ a, d.tline.addr = some a → tlOrigin d = true → d.tline.head = false → d.boot.alwaysOn = true → d.tline.outUp = true → d.tline.inUp = true →
        d.tline.outQ.length ≤ 14 → d.tline.inQ.length ≤ 14 → ∃ v,
        let two := [tlFrame 11 false true 0 a 0 ((d.clk.tod.s + 1) % 2 ^ 32), tlFrame 12 false true 0 a 0 v]
        Gives .tlineTimeOriginTick s { d with draws := d.draws + 1, tline.outQ := d.tline.outQ ++ two, tline.inQ := d.tline.inQ ++ two })
    ∧ Gives .tlineTimeTimeout s (dropSource 4 none_)
    ∧ (∀ k b n t r h p, k < 16 → t < 64 → r < 64 → h < 64 → p < 2 ^ 32 → let x := tlFrame k b n t r h p
        tlType x = k ∧ tlBcast x = b ∧ tlNumbered x = n ∧ tlDst x = t ∧ tlSrc x = r ∧ tlHop x = h ∧ tlPayload x = p ∧ tlCrcOk x = true))
end

