-- ==== Sys2Proof/Laws/Memory.lean ====
section
/-! SUPPORT. The byte memory: every operation keeps its canonical form, a read after a write gives the byte written, and a write leaves
every other byte alone. -/

namespace Sys2Proof.Machine

theorem memFrom_le {lo lo' : Nat} {m : Memory} (h : memFrom lo m = true) (hl : lo' ≤ lo) : memFrom lo' m = true := by
  cases m with
  | nil => rfl
  | cons e r =>
    simp only [memFrom, Bool.and_eq_true, decide_eq_true_eq] at *
    exact ⟨⟨Nat.le_trans hl h.1.1, h.1.2⟩, h.2⟩

/-- An address below the first one that may be listed is not listed. -/
theorem lookup_memFrom {m : Memory} : ∀ {lo a : Nat}, memFrom lo m = true → a < lo → m.lookup a = none := by
  induction m with
  | nil => intros; rfl
  | cons e r ih =>
    obtain ⟨j, w⟩ := e
    intro lo a h hl
    simp only [memFrom, Bool.and_eq_true, decide_eq_true_eq] at h
    have hne : a ≠ j := by omega
    simp only [List.lookup, beq_false_of_ne hne]
    exact ih h.2 (by omega)

theorem mput_memFrom {m : Memory} : ∀ {lo : Nat} (a : Nat) (b : Byte), memFrom lo m = true → lo ≤ a →
    memFrom lo (mput m a b) = true := by
  induction m with
  | nil =>
    intro lo a b _ hl
    simp only [mput]; split
    · rfl
    · rename_i h; simp [memFrom, hl, bne, beq_false_of_ne h]
  | cons e r ih =>
    obtain ⟨j, w⟩ := e
    intro lo a b h hl
    simp only [memFrom, Bool.and_eq_true, decide_eq_true_eq] at h
    simp only [mput]
    split
    · rename_i haj
      split
      · simp only [memFrom, Bool.and_eq_true, decide_eq_true_eq]; exact h
      · rename_i hb
        simp only [memFrom, Bool.and_eq_true, decide_eq_true_eq]
        exact ⟨⟨hl, by simp [bne, beq_false_of_ne hb]⟩, ⟨by omega, h.1.2⟩, h.2⟩
    · split
      · rename_i haj
        split
        · exact memFrom_le h.2 (by omega)
        · rename_i hb
          simp only [memFrom, Bool.and_eq_true, decide_eq_true_eq]
          exact ⟨⟨hl, by simp [bne, beq_false_of_ne hb]⟩, haj ▸ h.2⟩
      · rename_i h1 h2
        simp only [memFrom, Bool.and_eq_true, decide_eq_true_eq]
        exact ⟨h.1, ih a b h.2 (by omega)⟩

/-- Storing a byte keeps the canonical form. -/
theorem mput_wf {m : Memory} (a : Nat) (b : Byte) (h : m.wf = true) : (mput m a b).wf = true :=
  mput_memFrom a b h (Nat.zero_le a)

/-- Storing bytes keeps the canonical form. -/
theorem mputs_wf {m : Memory} (a : Nat) (l : List Byte) (h : m.wf = true) : (mputs m a l).wf = true := by
  induction l generalizing m a with
  | nil => exact h
  | cons b r ih => exact ih (a + 1) (mput_wf a b h)

theorem filter_memFrom {m : Memory} (p : Nat × Byte → Bool) : ∀ {lo : Nat}, memFrom lo m = true → memFrom lo (m.filter p) = true := by
  induction m with
  | nil => intros; rfl
  | cons e r ih =>
    intro lo h
    simp only [memFrom, Bool.and_eq_true, decide_eq_true_eq] at h
    simp only [List.filter]
    split
    · simp only [memFrom, Bool.and_eq_true, decide_eq_true_eq]; exact ⟨h.1, ih h.2⟩
    · exact memFrom_le (ih h.2) (by omega)

/-- Clearing a range keeps the canonical form. -/
theorem mclear_wf {m : Memory} (a n : Nat) (h : m.wf = true) : (mclear m a n).wf = true := filter_memFrom _ h

theorem lookup_mput_same {m : Memory} : ∀ {lo : Nat} (a : Nat) (b : Byte), memFrom lo m = true →
    ((mput m a b).lookup a).getD (unlistedByte a) = b := by
  induction m with
  | nil =>
    intro lo a b _
    simp only [mput]; split
    · rename_i h; simp [h]
    · simp [List.lookup]
  | cons e r ih =>
    obtain ⟨j, w⟩ := e
    intro lo a b h
    simp only [memFrom, Bool.and_eq_true, decide_eq_true_eq] at h
    simp only [mput]
    split
    · rename_i haj
      split
      · rename_i hb
        have hne : a ≠ j := by omega
        simp [List.lookup, beq_false_of_ne hne, lookup_memFrom h.2 (show a < j + 1 by omega), hb]
      · simp [List.lookup]
    · split
      · rename_i h1 h2
        subst h2
        split
        · rename_i hb; simp [lookup_memFrom h.2 (show a < a + 1 by omega), hb]
        · simp [List.lookup]
      · rename_i h1 h2
        simp only [List.lookup, beq_false_of_ne h2]
        exact ih a b h.2

theorem lookup_mput_ne {m : Memory} {a c : Nat} (b : Byte) (h : c ≠ a) : (mput m a b).lookup c = m.lookup c := by
  induction m with
  | nil => simp only [mput]; split <;> simp [List.lookup, beq_false_of_ne h]
  | cons e r ih =>
    obtain ⟨j, w⟩ := e
    simp only [mput]
    split
    · split
      · rfl
      · simp [List.lookup, beq_false_of_ne h]
    · split
      · rename_i h1 h2
        subst h2
        split <;> simp [List.lookup, beq_false_of_ne h]
      · simp only [List.lookup, ih]

/-- A read after a write of the same byte gives what was written. -/
theorem mget_mput {m : Memory} (a : Nat) (b : Byte) (h : m.wf = true) : mget (mput m a b) a = b := lookup_mput_same a b h

/-- A write leaves every other byte alone. -/
theorem mget_mput_ne {m : Memory} {a c : Nat} (b : Byte) (h : c ≠ a) : mget (mput m a b) c = mget m c := by
  simp only [mget, lookup_mput_ne b h]

/-- Storing bytes leaves the bytes outside them alone. -/
theorem mget_mputs_out {a c : Nat} (l : List Byte) (m : Memory) (h : c < a ∨ a + l.length ≤ c) : mget (mputs m a l) c = mget m c := by
  induction l generalizing m a with
  | nil => rfl
  | cons b r ih =>
    simp only [mputs, List.length_cons] at *
    rw [ih (mput m a b) (by omega), mget_mput_ne b (by omega)]

/-- Storing bytes gives each of them back. -/
theorem mget_mputs {a i : Nat} (l : List Byte) (m : Memory) (h : m.wf = true) (hi : i < l.length) :
    mget (mputs m a l) (a + i) = l[i] := by
  induction l generalizing m a i with
  | nil => simp at hi
  | cons b r ih =>
    cases i with
    | zero =>
      simp only [mputs, Nat.add_zero, List.getElem_cons_zero]
      rw [mget_mputs_out r _ (by omega), mget_mput a b h]
    | succ k =>
      simp only [mputs, List.getElem_cons_succ]
      have hk : k < r.length := by simpa using hi
      have := ih (mput m a b) (mput_wf a b h) (a := a + 1) (i := k) hk
      rwa [show a + (k + 1) = a + 1 + k by omega]

@[simp] theorem run_length (a n : Nat) : (run a n).length = n := by
  induction n generalizing a with
  | zero => rfl
  | succ n ih => simp [run, ih]

theorem run_getElem (a n i : Nat) (h : i < (run a n).length) : (run a n)[i] = a + i := by
  induction n generalizing a i with
  | zero => simp [run] at h
  | succ n ih =>
    cases i with
    | zero => simp [run]
    | succ k =>
      simp only [run, List.getElem_cons_succ]
      rw [ih]; omega

@[simp] theorem mgets_length (m : Memory) (a n : Nat) : (mgets m a n).length = n := by simp [mgets]

/-- Bytes stored and read back. -/
theorem mgets_mputs (l : List Byte) (m : Memory) (a : Nat) (h : m.wf = true) : mgets (mputs m a l) a l.length = l := by
  apply List.ext_getElem
  · simp
  · intro i h1 h2
    simp only [mgets, List.getElem_map, run_getElem]
    exact mget_mputs l m h h2

/-- Bytes read outside a store are as before. -/
theorem mgets_mputs_out (l : List Byte) (m : Memory) (a c n : Nat) (h : c + n ≤ a ∨ a + l.length ≤ c) :
    mgets (mputs m a l) c n = mgets m c n := by
  apply List.ext_getElem
  · simp
  · intro i h1 h2
    simp only [mgets_length] at h1
    simp only [mgets, List.getElem_map, run_getElem]
    exact mget_mputs_out l m (by omega)

/-- A cleared byte reads as what nothing has written. -/
theorem mget_mclear_in (m : Memory) (a n c : Nat) (h1 : a ≤ c) (h2 : c < a + n) : mget (mclear m a n) c = unlistedByte c := by
  have : (mclear m a n).lookup c = none := by
    induction m with
    | nil => rfl
    | cons e r ih =>
      obtain ⟨j, w⟩ := e
      simp only [mclear, List.filter] at *
      split
      · rename_i hj
        simp only [Bool.or_eq_true, decide_eq_true_eq] at hj
        have : c ≠ j := by omega
        simp only [List.lookup, beq_false_of_ne this]; exact ih
      · exact ih
  simp [mget, this]

/-- Clearing a range leaves the bytes outside it alone. -/
theorem mget_mclear_out (m : Memory) (a n c : Nat) (h : c < a ∨ a + n ≤ c) : mget (mclear m a n) c = mget m c := by
  have : (mclear m a n).lookup c = m.lookup c := by
    induction m with
    | nil => rfl
    | cons e r ih =>
      obtain ⟨j, w⟩ := e
      simp only [mclear, List.filter] at *
      split
      · simp only [List.lookup]; split <;> simp_all
      · rename_i hj
        simp only [Bool.or_eq_false_iff, decide_eq_false_iff_not] at hj
        have : c ≠ j := by omega
        simp only [List.lookup, beq_false_of_ne this]; exact ih
  simp [mget, this]

end Sys2Proof.Machine
end

