-- ==== Sys2Proof/Laws/PerInstr.lean ====
section
/-! SUPPORT. A law per command, as syntax: the opcode table gives no row any bits, so no word of it spells the command (log entry 6). -/

namespace Sys2Proof.Laws.TableWords

/-- No table word spells the command. -/
def Statement (i : Instr) : Prop := ∀ nbits w : Nat, decodeTableWord nbits w ≠ some i

theorem spells_none (i : Instr) : Statement i := fun _ _ h => nomatch h

theorem porstNRelease : ∀ x0, Statement (.porstNRelease x0) := fun _ => spells_none _
theorem sfdpRead : ∀ x0 x1, Statement (.sfdpRead x0 x1) := fun _ _ => spells_none _
theorem firmwareLoad : Statement .firmwareLoad := spells_none _
theorem hbmTrain : ∀ x0 x1, Statement (.hbmTrain x0 x1) := fun _ _ => spells_none _
theorem poolRecovery : ∀ x0, Statement (.poolRecovery x0) := fun _ => spells_none _
theorem tidelineWait : ∀ x0, Statement (.tidelineWait x0) := fun _ => spells_none _
theorem bayBringupPower : Statement .bayBringupPower := spells_none _
theorem shoalAssembly : ∀ x0 x1, Statement (.shoalAssembly x0 x1) := fun _ _ => spells_none _
theorem pairSettle : ∀ x0, Statement (.pairSettle x0) := fun _ => spells_none _
theorem replayComplete : Statement .replayComplete := spells_none _
theorem openAdmission : ∀ x0, Statement (.openAdmission x0) := fun _ => spells_none _
theorem porstNAssert : Statement .porstNAssert := spells_none _
theorem pfailNFall : Statement .pfailNFall := spells_none _
theorem fenceInHold : Statement .fenceInHold := spells_none _
theorem fenceInRelease : ∀ x0, Statement (.fenceInRelease x0) := fun _ => spells_none _
theorem fenceInPulse : Statement .fenceInPulse := spells_none _
theorem mhiPerstNAssert : Statement .mhiPerstNAssert := spells_none _
theorem railMonitorTrip : ∀ x0, Statement (.railMonitorTrip x0) := fun _ => spells_none _
theorem junctionLimit : ∀ x0, Statement (.junctionLimit x0) := fun _ => spells_none _
theorem thermalTrip : Statement .thermalTrip := spells_none _
theorem chartCtrlStage : ∀ x0, Statement (.chartCtrlStage x0) := fun _ => spells_none _
theorem chartCheckDone : ∀ x0, Statement (.chartCheckDone x0) := fun _ => spells_none _
theorem chartCtrlStore : ∀ x0, Statement (.chartCtrlStore x0) := fun _ => spells_none _
theorem chartStoreDone : ∀ x0, Statement (.chartStoreDone x0) := fun _ => spells_none _
theorem chartCtrlDiscard : ∀ x0, Statement (.chartCtrlDiscard x0) := fun _ => spells_none _
theorem chartCommit : ∀ x0, Statement (.chartCommit x0) := fun _ => spells_none _
theorem chartReadbackDone : ∀ x0, Statement (.chartReadbackDone x0) := fun _ => spells_none _
theorem chartPairSwitch : Statement .chartPairSwitch := spells_none _
theorem tableEpochAdvance : Statement .tableEpochAdvance := spells_none _
theorem chartSwitchDone : Statement .chartSwitchDone := spells_none _
theorem gateListTakeover : ∀ x0, Statement (.gateListTakeover x0) := fun _ => spells_none _
theorem tidePoolWriteFailed : ∀ x0 x1, Statement (.tidePoolWriteFailed x0 x1) := fun _ _ => spells_none _
theorem poolScrub : ∀ x0 x1, Statement (.poolScrub x0 x1) := fun _ _ => spells_none _
theorem tidePoolWriteDone : ∀ x0, Statement (.tidePoolWriteDone x0) := fun _ => spells_none _
theorem assembleCommand : ∀ x0, Statement (.assembleCommand x0) := fun _ => spells_none _
theorem sealTimer : ∀ x0 x1, Statement (.sealTimer x0 x1) := fun _ _ => spells_none _
theorem sealRetry : ∀ x0 x1, Statement (.sealRetry x0 x1) := fun _ _ => spells_none _
theorem fillResolve : ∀ x0, Statement (.fillResolve x0) := fun _ => spells_none _
theorem parityJobDone : ∀ x0 x1 x2, Statement (.parityJobDone x0 x1 x2) := fun _ _ _ => spells_none _
theorem keeperWriteDone : ∀ x0, Statement (.keeperWriteDone x0) := fun _ => spells_none _
theorem stripWriteComplete : ∀ x0, Statement (.stripWriteComplete x0) := fun _ => spells_none _
theorem checkpointTimer : Statement .checkpointTimer := spells_none _
theorem checkpointComplete : Statement .checkpointComplete := spells_none _
theorem commitRetry : Statement .commitRetry := spells_none _
theorem deferredMapApply : ∀ x0 x1, Statement (.deferredMapApply x0 x1) := fun _ _ => spells_none _
theorem mapPageFetchDone : ∀ x0 x1, Statement (.mapPageFetchDone x0 x1) := fun _ _ => spells_none _
theorem bitmapClearTimer : ∀ x0, Statement (.bitmapClearTimer x0) := fun _ => spells_none _
theorem ebbRelocate : ∀ x0 x1 x2, Statement (.ebbRelocate x0 x1 x2) := fun _ _ _ => spells_none _
theorem zeroMaskRewrite : ∀ x0 x1, Statement (.zeroMaskRewrite x0 x1) := fun _ _ => spells_none _
theorem asnMarkDurable : ∀ x0, Statement (.asnMarkDurable x0) := fun _ => spells_none _
theorem readResolve : ∀ x0, Statement (.readResolve x0) := fun _ => spells_none _
theorem flushComplete : ∀ x0, Statement (.flushComplete x0) := fun _ => spells_none _
theorem sqHeadRetest : Statement .sqHeadRetest := spells_none _
theorem driveEnumerate : ∀ x0, Statement (.driveEnumerate x0) := fun _ => spells_none _
theorem memberLatencyInterval : ∀ x0 x1, Statement (.memberLatencyInterval x0 x1) := fun _ _ => spells_none _
theorem foldResume : ∀ x0 x1, Statement (.foldResume x0 x1) := fun _ _ => spells_none _
theorem memberCommandError : ∀ x0 x1, Statement (.memberCommandError x0 x1) := fun _ _ => spells_none _
theorem memberHardTimeout : ∀ x0, Statement (.memberHardTimeout x0) := fun _ => spells_none _
theorem memberAbortTimeout : ∀ x0, Statement (.memberAbortTimeout x0) := fun _ => spells_none _
theorem memberResetTimeout : ∀ x0, Statement (.memberResetTimeout x0) := fun _ => spells_none _
theorem memberReissueComplete : ∀ x0 x1, Statement (.memberReissueComplete x0 x1) := fun _ _ => spells_none _
theorem memberReadComplete : ∀ x0 x1 x2 x3, Statement (.memberReadComplete x0 x1 x2 x3) := fun _ _ _ _ => spells_none _
theorem writeSoftDeadline : ∀ x0 x1, Statement (.writeSoftDeadline x0 x1) := fun _ _ => spells_none _
theorem readSoftDeadline : ∀ x0, Statement (.readSoftDeadline x0) := fun _ => spells_none _
theorem driveLinkLost : ∀ x0, Statement (.driveLinkLost x0) := fun _ => spells_none _
theorem linkRetrainTimeout : ∀ x0, Statement (.linkRetrainTimeout x0) := fun _ => spells_none _
theorem absenceTimerExpiry : ∀ x0 x1, Statement (.absenceTimerExpiry x0 x1) := fun _ _ => spells_none _
theorem resyncRow : ∀ x0 x1 x2, Statement (.resyncRow x0 x1 x2) := fun _ _ _ => spells_none _
theorem rebuildRow : ∀ x0 x1, Statement (.rebuildRow x0 x1) := fun _ _ => spells_none _
theorem lostSlotScan : ∀ x0 x1, Statement (.lostSlotScan x0 x1) := fun _ _ => spells_none _
theorem smartPoll : ∀ x0 x1, Statement (.smartPoll x0 x1) := fun _ _ => spells_none _
theorem labelPropagate : ∀ x0, Statement (.labelPropagate x0) := fun _ => spells_none _
theorem labelWriteDone : ∀ x0, Statement (.labelWriteDone x0) := fun _ => spells_none _
theorem patrolRow : ∀ x0 x1 x2, Statement (.patrolRow x0 x1 x2) := fun _ _ _ => spells_none _
theorem patrolCursorRecord : ∀ x0, Statement (.patrolCursorRecord x0) := fun _ => spells_none _
theorem connect : ∀ x0, Statement (.connect x0) := fun _ => spells_none _
theorem write : ∀ x0 x1 x2, Statement (.write x0 x1 x2) := fun _ _ _ => spells_none _
theorem read : ∀ x0 x1 x2, Statement (.read x0 x1 x2) := fun _ _ _ => spells_none _
theorem flush : ∀ x0 x1 x2, Statement (.flush x0 x1 x2) := fun _ _ _ => spells_none _
theorem compare : ∀ x0 x1 x2, Statement (.compare x0 x1 x2) := fun _ _ _ => spells_none _
theorem writeZeroes : ∀ x0 x1 x2, Statement (.writeZeroes x0 x1 x2) := fun _ _ _ => spells_none _
theorem datasetManagement : ∀ x0 x1 x2, Statement (.datasetManagement x0 x1 x2) := fun _ _ _ => spells_none _
theorem verify : ∀ x0 x1 x2, Statement (.verify x0 x1 x2) := fun _ _ _ => spells_none _
theorem reservationRegister : ∀ x0 x1 x2, Statement (.reservationRegister x0 x1 x2) := fun _ _ _ => spells_none _
theorem reservationReport : ∀ x0 x1 x2, Statement (.reservationReport x0 x1 x2) := fun _ _ _ => spells_none _
theorem reservationAcquire : ∀ x0 x1 x2, Statement (.reservationAcquire x0 x1 x2) := fun _ _ _ => spells_none _
theorem reservationRelease : ∀ x0 x1 x2, Statement (.reservationRelease x0 x1 x2) := fun _ _ _ => spells_none _
theorem reservationRecordDurable : ∀ x0, Statement (.reservationRecordDurable x0) := fun _ => spells_none _
theorem getLogErrorInformation : ∀ x0 x1 x2 x3, Statement (.getLogErrorInformation x0 x1 x2 x3) := fun _ _ _ _ => spells_none _
theorem getLogSmart : ∀ x0 x1 x2 x3, Statement (.getLogSmart x0 x1 x2 x3) := fun _ _ _ _ => spells_none _
theorem getLogFirmwareSlot : ∀ x0 x1 x2 x3, Statement (.getLogFirmwareSlot x0 x1 x2 x3) := fun _ _ _ _ => spells_none _
theorem getLogAna : ∀ x0 x1 x2 x3, Statement (.getLogAna x0 x1 x2 x3) := fun _ _ _ _ => spells_none _
theorem getLogReservationNotification : ∀ x0 x1 x2 x3, Statement (.getLogReservationNotification x0 x1 x2 x3) := fun _ _ _ _ => spells_none _
theorem getLogSanitizeStatus : ∀ x0 x1 x2 x3, Statement (.getLogSanitizeStatus x0 x1 x2 x3) := fun _ _ _ _ => spells_none _
theorem getLogLostRange : ∀ x0 x1 x2 x3, Statement (.getLogLostRange x0 x1 x2 x3) := fun _ _ _ _ => spells_none _
theorem getLogQueueFreeze : ∀ x0 x1 x2 x3 x4, Statement (.getLogQueueFreeze x0 x1 x2 x3 x4) := fun _ _ _ _ _ => spells_none _
theorem getLogShelfHealth : ∀ x0 x1 x2 x3, Statement (.getLogShelfHealth x0 x1 x2 x3) := fun _ _ _ _ => spells_none _
theorem getLogFormatProgress : ∀ x0 x1 x2 x3, Statement (.getLogFormatProgress x0 x1 x2 x3) := fun _ _ _ _ => spells_none _
theorem identify : ∀ x0 x1 x2 x3, Statement (.identify x0 x1 x2 x3) := fun _ _ _ _ => spells_none _
theorem abort : ∀ x0 x1 x2 x3, Statement (.abort x0 x1 x2 x3) := fun _ _ _ _ => spells_none _
theorem setFeaturesPowerManagement : ∀ x0 x1 x2, Statement (.setFeaturesPowerManagement x0 x1 x2) := fun _ _ _ => spells_none _
theorem ps3Enter : Statement .ps3Enter := spells_none _
theorem setFeaturesAsnReporting : ∀ x0 x1 x2, Statement (.setFeaturesAsnReporting x0 x1 x2) := fun _ _ _ => spells_none _
theorem setFeaturesWriteProtection : ∀ x0 x1 x2 x3, Statement (.setFeaturesWriteProtection x0 x1 x2 x3) := fun _ _ _ _ => spells_none _
theorem coveControlReset : ∀ x0 x1 x2, Statement (.coveControlReset x0 x1 x2) := fun _ _ _ => spells_none _
theorem coveControlResetEnd : ∀ x0 x1 x2, Statement (.coveControlResetEnd x0 x1 x2) := fun _ _ _ => spells_none _
theorem coveControlFreeze : ∀ x0 x1 x2, Statement (.coveControlFreeze x0 x1 x2) := fun _ _ _ => spells_none _
theorem coveControlThaw : ∀ x0 x1 x2, Statement (.coveControlThaw x0 x1 x2) := fun _ _ _ => spells_none _
theorem eventLogControlFlush : ∀ x0 x1 x2, Statement (.eventLogControlFlush x0 x1 x2) := fun _ _ _ => spells_none _
theorem eventLogControlClear : ∀ x0 x1 x2, Statement (.eventLogControlClear x0 x1 x2) := fun _ _ _ => spells_none _
theorem lostRangeAcknowledge : ∀ x0 x1 x2 x3, Statement (.lostRangeAcknowledge x0 x1 x2 x3) := fun _ _ _ _ => spells_none _
theorem setFeaturesKeepAliveTimer : ∀ x0 x1 x2, Statement (.setFeaturesKeepAliveTimer x0 x1 x2) := fun _ _ _ => spells_none _
theorem setFeaturesHostBehavior : ∀ x0 x1 x2, Statement (.setFeaturesHostBehavior x0 x1 x2) := fun _ _ _ => spells_none _
theorem setFeaturesAsyncEventConfig : ∀ x0 x1 x2, Statement (.setFeaturesAsyncEventConfig x0 x1 x2) := fun _ _ _ => spells_none _
theorem setFeaturesNumberOfQueues : ∀ x0 x1 x2 x3, Statement (.setFeaturesNumberOfQueues x0 x1 x2 x3) := fun _ _ _ _ => spells_none _
theorem getFeaturesPowerManagement : ∀ x0 x1, Statement (.getFeaturesPowerManagement x0 x1) := fun _ _ => spells_none _
theorem getFeaturesAsnReporting : ∀ x0 x1, Statement (.getFeaturesAsnReporting x0 x1) := fun _ _ => spells_none _
theorem getFeaturesCoveControl : ∀ x0 x1 x2, Statement (.getFeaturesCoveControl x0 x1 x2) := fun _ _ _ => spells_none _
theorem getFeaturesEventLogControl : ∀ x0 x1, Statement (.getFeaturesEventLogControl x0 x1) := fun _ _ => spells_none _
theorem getFeaturesLostRange : ∀ x0 x1, Statement (.getFeaturesLostRange x0 x1) := fun _ _ => spells_none _
theorem getFeaturesWriteProtection : ∀ x0 x1 x2, Statement (.getFeaturesWriteProtection x0 x1 x2) := fun _ _ _ => spells_none _
theorem getFeaturesKeepAliveTimer : ∀ x0 x1, Statement (.getFeaturesKeepAliveTimer x0 x1) := fun _ _ => spells_none _
theorem getFeaturesHostBehavior : ∀ x0 x1, Statement (.getFeaturesHostBehavior x0 x1) := fun _ _ => spells_none _
theorem getFeaturesAsyncEventConfig : ∀ x0 x1, Statement (.getFeaturesAsyncEventConfig x0 x1) := fun _ _ => spells_none _
theorem getFeaturesNumberOfQueues : ∀ x0 x1, Statement (.getFeaturesNumberOfQueues x0 x1) := fun _ _ => spells_none _
theorem asynchronousEventRequest : ∀ x0 x1, Statement (.asynchronousEventRequest x0 x1) := fun _ _ => spells_none _
theorem namespaceCreate : ∀ x0 x1 x2, Statement (.namespaceCreate x0 x1 x2) := fun _ _ _ => spells_none _
theorem namespaceKeyDurable : ∀ x0, Statement (.namespaceKeyDurable x0) := fun _ => spells_none _
theorem namespaceDelete : ∀ x0 x1 x2, Statement (.namespaceDelete x0 x1 x2) := fun _ _ _ => spells_none _
theorem namespaceAttach : ∀ x0 x1 x2 x3, Statement (.namespaceAttach x0 x1 x2 x3) := fun _ _ _ _ => spells_none _
theorem namespaceDetach : ∀ x0 x1 x2 x3, Statement (.namespaceDetach x0 x1 x2 x3) := fun _ _ _ _ => spells_none _
theorem firmwareImageDownload : ∀ x0 x1 x2 x3, Statement (.firmwareImageDownload x0 x1 x2 x3) := fun _ _ _ _ => spells_none _
theorem firmwareCommitReplace : ∀ x0 x1 x2, Statement (.firmwareCommitReplace x0 x1 x2) := fun _ _ _ => spells_none _
theorem firmwareCommitReplaceActivate : ∀ x0 x1 x2, Statement (.firmwareCommitReplaceActivate x0 x1 x2) := fun _ _ _ => spells_none _
theorem firmwareCommitActivate : ∀ x0 x1 x2, Statement (.firmwareCommitActivate x0 x1 x2) := fun _ _ _ => spells_none _
theorem firmwareCommitActivateNow : ∀ x0 x1 x2 x3, Statement (.firmwareCommitActivateNow x0 x1 x2 x3) := fun _ _ _ _ => spells_none _
theorem fwActivationDrained : Statement .fwActivationDrained := spells_none _
theorem fwActivationResume : Statement .fwActivationResume := spells_none _
theorem fwActivationTimeout : Statement .fwActivationTimeout := spells_none _
theorem keepAlive : ∀ x0 x1, Statement (.keepAlive x0 x1) := fun _ _ => spells_none _
theorem keepAliveExpiry : ∀ x0, Statement (.keepAliveExpiry x0) := fun _ => spells_none _
theorem formatNvm : ∀ x0 x1 x2 x3 x4 x5 x6, Statement (.formatNvm x0 x1 x2 x3 x4 x5 x6) := fun _ _ _ _ _ _ _ => spells_none _
theorem formatWalk : ∀ x0, Statement (.formatWalk x0) := fun _ => spells_none _
theorem sanitizeCryptoErase : ∀ x0 x1 x2, Statement (.sanitizeCryptoErase x0 x1 x2) := fun _ _ _ => spells_none _
theorem sanitizeBlockErase : ∀ x0 x1 x2, Statement (.sanitizeBlockErase x0 x1 x2) := fun _ _ _ => spells_none _
theorem sanitizeExitFailure : ∀ x0 x1 x2, Statement (.sanitizeExitFailure x0 x1 x2) := fun _ _ _ => spells_none _
theorem sanitizeMemberDone : ∀ x0 x1, Statement (.sanitizeMemberDone x0 x1) := fun _ _ => spells_none _
theorem sanitizeComplete : Statement .sanitizeComplete := spells_none _
theorem getAsnStatus : ∀ x0 x1 x2, Statement (.getAsnStatus x0 x1 x2) := fun _ _ _ => spells_none _
theorem queueThawResume : ∀ x0 x1 x2, Statement (.queueThawResume x0 x1 x2) := fun _ _ _ => spells_none _
theorem queueThawDiscard : ∀ x0 x1 x2, Statement (.queueThawDiscard x0 x1 x2) := fun _ _ _ => spells_none _
theorem coveImageExport : ∀ x0 x1 x2 x3, Statement (.coveImageExport x0 x1 x2 x3) := fun _ _ _ _ => spells_none _
theorem coveImageImport : ∀ x0 x1 x2 x3, Statement (.coveImageImport x0 x1 x2 x3) := fun _ _ _ _ => spells_none _
theorem wblStart : ∀ x0 x1 x2, Statement (.wblStart x0 x1 x2) := fun _ _ _ => spells_none _
theorem wblSwapRead : ∀ x0 x1 x2 x3 x4, Statement (.wblSwapRead x0 x1 x2 x3 x4) := fun _ _ _ _ _ => spells_none _
theorem wblRead : ∀ x0 x1 x2 x3 x4, Statement (.wblRead x0 x1 x2 x3 x4) := fun _ _ _ _ _ => spells_none _
theorem wblStop : ∀ x0 x1 x2, Statement (.wblStop x0 x1 x2) := fun _ _ _ => spells_none _
theorem controllerDisable : ∀ x0, Statement (.controllerDisable x0) := fun _ => spells_none _
theorem controllerDrained : ∀ x0, Statement (.controllerDrained x0) := fun _ => spells_none _
theorem shutdownNotification : ∀ x0, Statement (.shutdownNotification x0) := fun _ => spells_none _
theorem cmConnectRequest : ∀ x0, Statement (.cmConnectRequest x0) := fun _ => spells_none _
theorem cmDisconnect : ∀ x0, Statement (.cmDisconnect x0) := fun _ => spells_none _
theorem recvSend : ∀ x0 x1 x2 x3 x4, Statement (.recvSend x0 x1 x2 x3 x4) := fun _ _ _ _ _ => spells_none _
theorem recvRdmaWrite : ∀ x0 x1 x2 x3 x4, Statement (.recvRdmaWrite x0 x1 x2 x3 x4) := fun _ _ _ _ _ => spells_none _
theorem recvRdmaReadResponse : ∀ x0 x1 x2 x3 x4, Statement (.recvRdmaReadResponse x0 x1 x2 x3 x4) := fun _ _ _ _ _ => spells_none _
theorem recvAcknowledge : ∀ x0 x1, Statement (.recvAcknowledge x0 x1) := fun _ _ => spells_none _
theorem recvNak : ∀ x0 x1 x2, Statement (.recvNak x0 x1 x2) := fun _ _ _ => spells_none _
theorem recvRnrNak : ∀ x0 x1 x2, Statement (.recvRnrNak x0 x1 x2) := fun _ _ _ => spells_none _
theorem recvCnp : ∀ x0, Statement (.recvCnp x0) := fun _ => spells_none _
theorem ackTimer : ∀ x0, Statement (.ackTimer x0) := fun _ => spells_none _
theorem localAckTimeout : ∀ x0, Statement (.localAckTimeout x0) := fun _ => spells_none _
theorem rnrRetryTimer : ∀ x0, Statement (.rnrRetryTimer x0) := fun _ => spells_none _
theorem recvSpraySend : ∀ x0 x1 x2 x3 x4, Statement (.recvSpraySend x0 x1 x2 x3 x4) := fun _ _ _ _ _ => spells_none _
theorem recvSprayWrite : ∀ x0 x1 x2 x3, Statement (.recvSprayWrite x0 x1 x2 x3) := fun _ _ _ _ => spells_none _
theorem recvSprayReadResp : ∀ x0 x1 x2 x3 x4, Statement (.recvSprayReadResp x0 x1 x2 x3 x4) := fun _ _ _ _ _ => spells_none _
theorem recvSprayAck : ∀ x0 x1, Statement (.recvSprayAck x0 x1) := fun _ _ => spells_none _
theorem sprayAckTimer : ∀ x0, Statement (.sprayAckTimer x0) := fun _ => spells_none _
theorem sprayRetxTimeout : ∀ x0 x1, Statement (.sprayRetxTimeout x0 x1) := fun _ _ => spells_none _
theorem sprayRnrRetry : ∀ x0 x1, Statement (.sprayRnrRetry x0 x1) := fun _ _ => spells_none _
theorem baseRttRefresh : ∀ x0, Statement (.baseRttRefresh x0) := fun _ => spells_none _
theorem landingWindowReturn : ∀ x0, Statement (.landingWindowReturn x0) := fun _ => spells_none _
theorem netLinkDown : ∀ x0, Statement (.netLinkDown x0) := fun _ => spells_none _
theorem netLinkUp : ∀ x0, Statement (.netLinkUp x0) := fun _ => spells_none _
theorem addressReturn : ∀ x0, Statement (.addressReturn x0) := fun _ => spells_none _
theorem recvArpNd : ∀ x0 x1, Statement (.recvArpNd x0 x1) := fun _ _ => spells_none _
theorem recvOtherFrame : ∀ x0, Statement (.recvOtherFrame x0) := fun _ => spells_none _
theorem txOpportunity : ∀ x0 x1, Statement (.txOpportunity x0 x1) := fun _ _ => spells_none _
theorem planeOutOfService : ∀ x0, Statement (.planeOutOfService x0) := fun _ => spells_none _
theorem epochStallTimer : ∀ x0, Statement (.epochStallTimer x0) := fun _ => spells_none _
theorem captureCtrlWrite : ∀ x0, Statement (.captureCtrlWrite x0) := fun _ => spells_none _
theorem samplerCtrlWrite : ∀ x0 x1, Statement (.samplerCtrlWrite x0 x1) := fun _ _ => spells_none _
theorem samplerTick : ∀ x0, Statement (.samplerTick x0) := fun _ => spells_none _
theorem ptpAnnounceReceive : ∀ x0, Statement (.ptpAnnounceReceive x0) := fun _ => spells_none _
theorem ptpSyncReceive : ∀ x0 x1 x2 x3 x4, Statement (.ptpSyncReceive x0 x1 x2 x3 x4) := fun _ _ _ _ _ => spells_none _
theorem ptpDelayRespReceive : ∀ x0 x1 x2, Statement (.ptpDelayRespReceive x0 x1 x2) := fun _ _ _ => spells_none _
theorem ptpDelayReqSend : ∀ x0 x1 x2, Statement (.ptpDelayReqSend x0 x1 x2) := fun _ _ _ => spells_none _
theorem announceReceiptTimeout : ∀ x0, Statement (.announceReceiptTimeout x0) := fun _ => spells_none _
theorem syncReceiptTimeout : ∀ x0, Statement (.syncReceiptTimeout x0) := fun _ => spells_none _
theorem ppsInEdge : Statement .ppsInEdge := spells_none _
theorem ppsInTimeout : Statement .ppsInTimeout := spells_none _
theorem ppsOutPulse : Statement .ppsOutPulse := spells_none _
theorem ppsOutFall : Statement .ppsOutFall := spells_none _
theorem sourceRevertTimer : ∀ x0, Statement (.sourceRevertTimer x0) := fun _ => spells_none _
theorem holdoverLimit : Statement .holdoverLimit := spells_none _
theorem tideTableEntry : ∀ x0 x1, Statement (.tideTableEntry x0 x1) := fun _ _ => spells_none _
theorem gateEntry : ∀ x0 x1, Statement (.gateEntry x0 x1) := fun _ _ => spells_none _
theorem mboxCoveCreate : ∀ x0 x1, Statement (.mboxCoveCreate x0 x1) := fun _ _ => spells_none _
theorem mboxCoveDelete : ∀ x0, Statement (.mboxCoveDelete x0) := fun _ => spells_none _
theorem coveDeleteDrained : ∀ x0, Statement (.coveDeleteDrained x0) := fun _ => spells_none _
theorem mboxCoveImport : ∀ x0 x1, Statement (.mboxCoveImport x0 x1) := fun _ _ => spells_none _
theorem mboxCoveimgClaim : Statement .mboxCoveimgClaim := spells_none _
theorem mboxCoveimgFree : ∀ x0, Statement (.mboxCoveimgFree x0) := fun _ => spells_none _
theorem mboxCoveimgList : Statement .mboxCoveimgList := spells_none _
theorem mboxBindSet : ∀ x0 x1, Statement (.mboxBindSet x0 x1) := fun _ _ => spells_none _
theorem mboxBindClear : ∀ x0, Statement (.mboxBindClear x0) := fun _ => spells_none _
theorem coveCtrlReset : ∀ x0 x1, Statement (.coveCtrlReset x0 x1) := fun _ _ => spells_none _
theorem coveResetWritesDrained : ∀ x0, Statement (.coveResetWritesDrained x0) := fun _ => spells_none _
theorem coveResetDone : ∀ x0, Statement (.coveResetDone x0) := fun _ => spells_none _
theorem coveCtrlFreeze : ∀ x0 x1, Statement (.coveCtrlFreeze x0 x1) := fun _ _ => spells_none _
theorem coveFrozen : ∀ x0, Statement (.coveFrozen x0) := fun _ => spells_none _
theorem coveCtrlThaw : ∀ x0 x1, Statement (.coveCtrlThaw x0 x1) := fun _ _ => spells_none _
theorem coveCtrlExport : ∀ x0 x1, Statement (.coveCtrlExport x0 x1) := fun _ _ => spells_none _
theorem coveExportTake : ∀ x0, Statement (.coveExportTake x0) := fun _ => spells_none _
theorem entropyTestFail : Statement .entropyTestFail := spells_none _
theorem entropyRecover : Statement .entropyRecover := spells_none _
theorem mboxShelfkeyLoad : ∀ x0 x1, Statement (.mboxShelfkeyLoad x0 x1) := fun _ _ => spells_none _
theorem mboxShelfkeyRotate : ∀ x0 x1, Statement (.mboxShelfkeyRotate x0 x1) := fun _ _ => spells_none _
theorem keyRotationDone : Statement .keyRotationDone := spells_none _
theorem keySlotLoadClear : ∀ x0 x1 x2 x3, Statement (.keySlotLoadClear x0 x1 x2 x3) := fun _ _ _ _ => spells_none _
theorem keySlotLoadWrapped : ∀ x0 x1 x2, Statement (.keySlotLoadWrapped x0 x1 x2) := fun _ _ _ => spells_none _
theorem keySlotClear : ∀ x0 x1, Statement (.keySlotClear x0 x1) := fun _ _ => spells_none _
theorem oldKeyZeroize : ∀ x0 x1, Statement (.oldKeyZeroize x0 x1) := fun _ _ => spells_none _
theorem straitPage : ∀ x0 x1 x2 x3 x4, Statement (.straitPage x0 x1 x2 x3 x4) := fun _ _ _ _ _ => spells_none _
theorem straitRegion : ∀ x0 x1 x2 x3, Statement (.straitRegion x0 x1 x2 x3) := fun _ _ _ _ => spells_none _
theorem straitRelease : ∀ x0 x1, Statement (.straitRelease x0 x1) := fun _ _ => spells_none _
theorem straitMack : ∀ x0 x1, Statement (.straitMack x0 x1) := fun _ _ => spells_none _
theorem straitHeartbeat : ∀ x0 x1 x2 x3 x4 x5 x6 x7, Statement (.straitHeartbeat x0 x1 x2 x3 x4 x5 x6 x7) := fun _ _ _ _ _ _ _ _ => spells_none _
theorem straitLlack : ∀ x0, Statement (.straitLlack x0) := fun _ => spells_none _
theorem straitLlnak : ∀ x0, Statement (.straitLlnak x0) := fun _ => spells_none _
theorem straitConfigNamespace : ∀ x0 x1, Statement (.straitConfigNamespace x0 x1) := fun _ _ => spells_none _
theorem straitConfigCove : ∀ x0 x1, Statement (.straitConfigCove x0 x1) := fun _ _ => spells_none _
theorem straitConfigBinding : ∀ x0 x1 x2, Statement (.straitConfigBinding x0 x1 x2) := fun _ _ _ => spells_none _
theorem straitConfigReservation : ∀ x0 x1, Statement (.straitConfigReservation x0 x1) := fun _ _ => spells_none _
theorem straitConfigNsKey : ∀ x0 x1 x2, Statement (.straitConfigNsKey x0 x1 x2) := fun _ _ _ => spells_none _
theorem straitConfigSlotKey : ∀ x0 x1, Statement (.straitConfigSlotKey x0 x1) := fun _ _ => spells_none _
theorem straitConfigChartChunk : ∀ x0 x1 x2 x3, Statement (.straitConfigChartChunk x0 x1 x2 x3) := fun _ _ _ _ => spells_none _
theorem straitConfigSwapHandover : ∀ x0 x1 x2, Statement (.straitConfigSwapHandover x0 x1 x2) := fun _ _ _ => spells_none _
theorem straitHello : ∀ x0 x1, Statement (.straitHello x0 x1) := fun _ _ => spells_none _
theorem straitRefuse : ∀ x0 x1, Statement (.straitRefuse x0 x1) := fun _ _ => spells_none _
theorem straitSyncBegin : ∀ x0, Statement (.straitSyncBegin x0) := fun _ => spells_none _
theorem straitSyncEnd : ∀ x0 x1, Statement (.straitSyncEnd x0 x1) := fun _ _ => spells_none _
theorem straitSettleEnd : ∀ x0 x1, Statement (.straitSettleEnd x0 x1) := fun _ _ => spells_none _
theorem straitSwapPrepare : ∀ x0, Statement (.straitSwapPrepare x0) := fun _ => spells_none _
theorem straitSwapDone : ∀ x0, Statement (.straitSwapDone x0) := fun _ => spells_none _
theorem straitWithdraw : ∀ x0 x1, Statement (.straitWithdraw x0 x1) := fun _ _ => spells_none _
theorem straitFenceTest : ∀ x0 x1, Statement (.straitFenceTest x0 x1) := fun _ _ => spells_none _
theorem straitLinkUp : ∀ x0, Statement (.straitLinkUp x0) := fun _ => spells_none _
theorem straitLinkDown : Statement .straitLinkDown := spells_none _
theorem straitLlackTimer : Statement .straitLlackTimer := spells_none _
theorem straitReplayTimeout : Statement .straitReplayTimeout := spells_none _
theorem heartbeatSend : ∀ x0, Statement (.heartbeatSend x0) := fun _ => spells_none _
theorem heartbeatMissed : Statement .heartbeatMissed := spells_none _
theorem tidelineQueryTimeout : Statement .tidelineQueryTimeout := spells_none _
theorem fenceGraceTimer : Statement .fenceGraceTimer := spells_none _
theorem standbyFenceWait : Statement .standbyFenceWait := spells_none _
theorem fenceHoldExpiry : Statement .fenceHoldExpiry := spells_none _
theorem takeoverAcquired : ∀ x0, Statement (.takeoverAcquired x0) := fun _ => spells_none _
theorem epochRecordDurable : Statement .epochRecordDurable := spells_none _
theorem partnerWaitTimeout : Statement .partnerWaitTimeout := spells_none _
theorem swapSelftestDone : ∀ x0 x1, Statement (.swapSelftestDone x0 x1) := fun _ _ => spells_none _
theorem swapDrained : Statement .swapDrained := spells_none _
theorem swapAcquired : Statement .swapAcquired := spells_none _
theorem swapAbandonTimer : Statement .swapAbandonTimer := spells_none _
theorem pairCtrlSwap : ∀ x0, Statement (.pairCtrlSwap x0) := fun _ => spells_none _
theorem pairCtrlForce : ∀ x0 x1, Statement (.pairCtrlForce x0 x1) := fun _ _ => spells_none _
theorem pairCtrlUnfence : ∀ x0, Statement (.pairCtrlUnfence x0) := fun _ => spells_none _
theorem lighthouseStep : ∀ x0 x1 x2, Statement (.lighthouseStep x0 x1 x2) := fun _ _ _ => spells_none _
theorem heatBucketRotate : ∀ x0, Statement (.heatBucketRotate x0) := fun _ => spells_none _
theorem tlineNull : ∀ x0 x1, Statement (.tlineNull x0 x1) := fun _ _ => spells_none _
theorem tlineIdent : ∀ x0 x1, Statement (.tlineIdent x0 x1) := fun _ _ => spells_none _
theorem tlineClaim : ∀ x0 x1, Statement (.tlineClaim x0 x1) := fun _ _ => spells_none _
theorem tlineDeny : ∀ x0 x1, Statement (.tlineDeny x0 x1) := fun _ _ => spells_none _
theorem tlineEnum : ∀ x0 x1, Statement (.tlineEnum x0 x1) := fun _ _ => spells_none _
theorem tlineReenumReq : ∀ x0 x1, Statement (.tlineReenumReq x0 x1) := fun _ _ => spells_none _
theorem tlineQuery : ∀ x0 x1, Statement (.tlineQuery x0 x1) := fun _ _ => spells_none _
theorem tlineAnswer : ∀ x0 x1, Statement (.tlineAnswer x0 x1) := fun _ _ => spells_none _
theorem tlineFence : ∀ x0 x1, Statement (.tlineFence x0 x1) := fun _ _ => spells_none _
theorem tlineUnfence : ∀ x0 x1, Statement (.tlineUnfence x0 x1) := fun _ _ => spells_none _
theorem tlineFenceAck : ∀ x0 x1, Statement (.tlineFenceAck x0 x1) := fun _ _ => spells_none _
theorem tlineTimeS : ∀ x0 x1, Statement (.tlineTimeS x0 x1) := fun _ _ => spells_none _
theorem tlineTimeMark : ∀ x0 x1, Statement (.tlineTimeMark x0 x1) := fun _ _ => spells_none _
theorem tlineProfile : ∀ x0 x1, Statement (.tlineProfile x0 x1) := fun _ _ => spells_none _
theorem tlineLinkUp : ∀ x0, Statement (.tlineLinkUp x0) := fun _ => spells_none _
theorem tlineLinkDown : ∀ x0, Statement (.tlineLinkDown x0) := fun _ => spells_none _
theorem tlineIdentTimer : Statement .tlineIdentTimer := spells_none _
theorem tlineTimeOriginTick : Statement .tlineTimeOriginTick := spells_none _
theorem tlineClaimTimeout : Statement .tlineClaimTimeout := spells_none _
theorem tlineInTimeout : Statement .tlineInTimeout := spells_none _
theorem tlineTimeTimeout : Statement .tlineTimeTimeout := spells_none _
theorem mboxTlineReenum : Statement .mboxTlineReenum := spells_none _
theorem mboxFwFuseSvn : ∀ x0, Statement (.mboxFwFuseSvn x0) := fun _ => spells_none _
theorem mboxSignerKeyProgram : ∀ x0 x1 x2, Statement (.mboxSignerKeyProgram x0 x1 x2) := fun _ _ _ => spells_none _
theorem mboxSignerKeyRevoke : ∀ x0 x1, Statement (.mboxSignerKeyRevoke x0 x1) := fun _ _ => spells_none _
theorem mboxNetAddrSet : ∀ x0 x1, Statement (.mboxNetAddrSet x0 x1) := fun _ _ => spells_none _
theorem mboxNetAddrClear : ∀ x0 x1, Statement (.mboxNetAddrClear x0 x1) := fun _ _ => spells_none _
theorem mboxNetAddrList : Statement .mboxNetAddrList := spells_none _
theorem mboxPowerState : ∀ x0, Statement (.mboxPowerState x0) := fun _ => spells_none _
theorem bayPrsntAssert : ∀ x0 x1, Statement (.bayPrsntAssert x0 x1) := fun _ _ => spells_none _
theorem bayPrsntDeassert : ∀ x0, Statement (.bayPrsntDeassert x0) := fun _ => spells_none _
theorem bayInsertDelayExpiry : ∀ x0 x1, Statement (.bayInsertDelayExpiry x0 x1) := fun _ _ => spells_none _
theorem bayRampStart : ∀ x0, Statement (.bayRampStart x0) := fun _ => spells_none _
theorem bayRampReached : ∀ x0 x1, Statement (.bayRampReached x0 x1) := fun _ _ => spells_none _
theorem bayPowerGood : ∀ x0 x1, Statement (.bayPowerGood x0 x1) := fun _ _ => spells_none _
theorem bayPerstRelease : ∀ x0, Statement (.bayPerstRelease x0) := fun _ => spells_none _
theorem bayBreakerTrip : ∀ x0 x1, Statement (.bayBreakerTrip x0 x1) := fun _ _ => spells_none _
theorem bayFastTrip : ∀ x0 x1, Statement (.bayFastTrip x0 x1) := fun _ _ => spells_none _
theorem bayRampTimeout : ∀ x0, Statement (.bayRampTimeout x0) := fun _ => spells_none _
theorem bayPowerGoodLost : ∀ x0 x1, Statement (.bayPowerGoodLost x0 x1) := fun _ _ => spells_none _
theorem bayVinUnder : ∀ x0 x1, Statement (.bayVinUnder x0 x1) := fun _ _ => spells_none _
theorem bayVinOver : ∀ x0 x1, Statement (.bayVinOver x0 x1) := fun _ _ => spells_none _
theorem bayFetDamaged : ∀ x0 x1, Statement (.bayFetDamaged x0 x1) := fun _ _ => spells_none _
theorem bayRetryExpiry : ∀ x0, Statement (.bayRetryExpiry x0) := fun _ => spells_none _
theorem bayAttemptsReset : ∀ x0, Statement (.bayAttemptsReset x0) := fun _ => spells_none _
theorem bayCtrlOn : ∀ x0, Statement (.bayCtrlOn x0) := fun _ => spells_none _
theorem bayCtrlOff : ∀ x0, Statement (.bayCtrlOff x0) := fun _ => spells_none _
theorem bayCtrlClear : ∀ x0 x1, Statement (.bayCtrlClear x0 x1) := fun _ _ => spells_none _
theorem clockMarkTimer : Statement .clockMarkTimer := spells_none _
theorem eventCtrlFlush : ∀ x0, Statement (.eventCtrlFlush x0) := fun _ => spells_none _
theorem eventCtrlClear : ∀ x0, Statement (.eventCtrlClear x0) := fun _ => spells_none _
theorem eventDeferredClear : Statement .eventDeferredClear := spells_none _
theorem perfCtrlClearAll : ∀ x0, Statement (.perfCtrlClearAll x0) := fun _ => spells_none _
theorem perfCfgWrite : ∀ x0 x1, Statement (.perfCfgWrite x0 x1) := fun _ _ => spells_none _
theorem perfCntLoRead : ∀ x0, Statement (.perfCntLoRead x0) := fun _ => spells_none _
theorem lensWrite : ∀ x0 x1, Statement (.lensWrite x0 x1) := fun _ _ => spells_none _
theorem wblTableStart : ∀ x0, Statement (.wblTableStart x0) := fun _ => spells_none _
theorem wblTableSwap : ∀ x0, Statement (.wblTableSwap x0) := fun _ => spells_none _
theorem wblTableStop : ∀ x0, Statement (.wblTableStop x0) := fun _ => spells_none _
theorem globalResetRestart : ∀ x0, Statement (.globalResetRestart x0) := fun _ => spells_none _
theorem globalServiceWrite : ∀ x0, Statement (.globalServiceWrite x0) := fun _ => spells_none _
theorem dpDataRead : ∀ x0, Statement (.dpDataRead x0) := fun _ => spells_none _
theorem dpDataWrite : ∀ x0, Statement (.dpDataWrite x0) := fun _ => spells_none _
theorem dpCtrlWrite : ∀ x0, Statement (.dpCtrlWrite x0) := fun _ => spells_none _
theorem bar2Read : ∀ x0 x1 x2, Statement (.bar2Read x0 x1 x2) := fun _ _ _ => spells_none _
theorem bar2Write : ∀ x0 x1, Statement (.bar2Write x0 x1) := fun _ _ => spells_none _
theorem poolOccupancyRead : Statement .poolOccupancyRead := spells_none _
theorem poolEccRead : Statement .poolEccRead := spells_none _
theorem pairStraitRead : Statement .pairStraitRead := spells_none _
theorem bayCurrRead : ∀ x0, Statement (.bayCurrRead x0) := fun _ => spells_none _
theorem registerLoRead : ∀ x0, Statement (.registerLoRead x0) := fun _ => spells_none _
theorem registerHiRead : ∀ x0, Statement (.registerHiRead x0) := fun _ => spells_none _
theorem registerLoWrite : ∀ x0 x1, Statement (.registerLoWrite x0 x1) := fun _ _ => spells_none _
theorem registerHiWrite : ∀ x0 x1, Statement (.registerHiWrite x0 x1) := fun _ _ => spells_none _
theorem registerWrite : ∀ x0 x1 x2, Statement (.registerWrite x0 x1 x2) := fun _ _ _ => spells_none _
theorem smbStatusRead : Statement .smbStatusRead := spells_none _
theorem smbTempRead : Statement .smbTempRead := spells_none _
theorem smbPowerRead : Statement .smbPowerRead := spells_none _
theorem smbPowerStateRead : Statement .smbPowerStateRead := spells_none _
theorem smbRoleRead : Statement .smbRoleRead := spells_none _
theorem smbBootRead : Statement .smbBootRead := spells_none _
theorem smbAlertRead : Statement .smbAlertRead := spells_none _
theorem smbLatchedLoRead : Statement .smbLatchedLoRead := spells_none _
theorem smbLatchedHiRead : Statement .smbLatchedHiRead := spells_none _
theorem smbWrite : Statement .smbWrite := spells_none _
theorem pfailNRise : Statement .pfailNRise := spells_none _
theorem railMonitorRelease : ∀ x0, Statement (.railMonitorRelease x0) := fun _ => spells_none _
theorem mhiPerstNRelease : Statement .mhiPerstNRelease := spells_none _
theorem driveReadyTimeout : ∀ x0, Statement (.driveReadyTimeout x0) := fun _ => spells_none _
theorem driveLinkRetrained : ∀ x0, Statement (.driveLinkRetrained x0) := fun _ => spells_none _
theorem memberDeallocateDone : ∀ x0, Statement (.memberDeallocateDone x0) := fun _ => spells_none _
theorem memberFormatDone : ∀ x0, Statement (.memberFormatDone x0) := fun _ => spells_none _
theorem recvRefusedOpcode : ∀ x0 x1, Statement (.recvRefusedOpcode x0 x1) := fun _ _ => spells_none _
theorem ptpFollowUpReceive : ∀ x0 x1 x2, Statement (.ptpFollowUpReceive x0 x1 x2) := fun _ _ _ => spells_none _
theorem hostDisconnect : ∀ x0, Statement (.hostDisconnect x0) := fun _ => spells_none _
theorem globalMboxDoorbell : ∀ x0, Statement (.globalMboxDoorbell x0) := fun _ => spells_none _
theorem straitFrameCrcFail : ∀ x0, Statement (.straitFrameCrcFail x0) := fun _ => spells_none _

end Sys2Proof.Laws.TableWords
end

