-- ==== Sys2Proof/Laws/State.lean ====
section
/-! SUPPORT. The shared operations on the device, each with one law that says everything it can change, and, block by block, the
blocks that it leaves alone. -/

namespace Sys2Proof.Machine

/-! ## Outcomes -/

@[simp] theorem onDev_eq (s : State) (f : Dev → Dev) : onDev s f = .next { s with dev := f s.dev } := rfl

@[simp] theorem onBoth_eq (s : State) (f : Dev → Memory → Dev × Memory) :
    onBoth s f = .next { s with dev := (f s.dev s.mem).1, mem := (f s.dev s.mem).2 } := rfl

@[simp] theorem onDevMem_eq (s : State) (f : Dev → Memory → Dev) : onDevMem s f = .next { s with dev := f s.dev s.mem } := rfl

/-- A command whose change of the device may complete the mailbox, while no result waits for its place. -/
theorem onMbox_eq (s : State) (f : Dev → Dev) :
    onMbox s f = .next { s with dev := (placeMbox (f s.dev) s.mem).1, mem := (placeMbox (f s.dev) s.mem).2 } := rfl

theorem placeMbox_none (d : Dev) (m : Memory) (h : d.mhi.mboxResult = none) : placeMbox d m = (d, m) := by
  simp only [placeMbox, h]

/-! ## What each operation changes -/

/-- Firing a vector sets its pending bit or sends it. -/
theorem fire_shape (v : Nat) (d : Dev) : ∃ p o, fire v d = { d with mhi.msixPending := p, out := o } := by
  simp only [fire]
  split
  · exact ⟨_, _, rfl⟩
  · split
    · exact ⟨_, d.out, rfl⟩
    · exact ⟨d.mhi.msixPending, _, rfl⟩

/-- Firing under a condition. -/
theorem fireIf_shape (c : Bool) (v : Nat) (d : Dev) : ∃ p o, fireIf c v d = { d with mhi.msixPending := p, out := o } := by
  simp only [fireIf]
  split
  · exact fire_shape v d
  · exact ⟨_, _, rfl⟩

/-- A GLOBAL_INT cause. -/
theorem raiseGlobal_shape (i : Nat) (d : Dev) : ∃ a p o, raiseGlobal i d = { d with mhi.int := a, mhi.msixPending := p, out := o } := by
  simp only [raiseGlobal]
  split
  · exact ⟨_, _, _, rfl⟩
  · obtain ⟨p, o, h⟩ := fireIf_shape (d.mhi.intEn.getLsbD i) 0 { d with mhi.int := setBit d.mhi.int i }
    exact ⟨_, p, o, h⟩

/-- A CHART_INT cause. -/
theorem raiseChart_shape (i : Nat) (d : Dev) : ∃ a p o, raiseChart i d = { d with chart.int := a, mhi.msixPending := p, out := o } := by
  simp only [raiseChart]
  split
  · exact ⟨_, _, _, rfl⟩
  · obtain ⟨p, o, h⟩ := fire_shape 1 { d with chart.int := setBit d.chart.int i }
    exact ⟨_, p, o, h⟩

/-- A POOL_INT cause. -/
theorem raisePool_shape (i : Nat) (d : Dev) : ∃ a p o, raisePool i d = { d with pool.int := a, mhi.msixPending := p, out := o } := by
  simp only [raisePool]
  split
  · exact ⟨_, _, _, rfl⟩
  · obtain ⟨p, o, h⟩ := fireIf_shape (d.pool.intEn.getLsbD i) 2 { d with pool.int := setBit d.pool.int i }
    exact ⟨_, p, o, h⟩

/-- A PAIR_INT cause. -/
theorem raisePair_shape (i : Nat) (d : Dev) : ∃ a p o, raisePair i d = { d with pair.int := a, mhi.msixPending := p, out := o } := by
  simp only [raisePair]
  split
  · exact ⟨_, _, _, rfl⟩
  · obtain ⟨p, o, h⟩ := fireIf_shape (d.pair.intEn.getLsbD i) 3 { d with pair.int := setBit d.pair.int i }
    exact ⟨_, p, o, h⟩

/-- A BAY_INT cause. -/
theorem raiseBay_shape (i : Nat) (d : Dev) : ∃ a p o, raiseBay i d = { d with bay.int := a, mhi.msixPending := p, out := o } := by
  simp only [raiseBay]
  split
  · exact ⟨_, _, _, rfl⟩
  · obtain ⟨p, o, h⟩ := fireIf_shape (d.bay.intEn.getLsbD i) 4 { d with bay.int := setBit d.bay.int i }
    exact ⟨_, p, o, h⟩

/-- A BAY_CHANGE cause. -/
theorem raiseBayChange_shape (i : Nat) (d : Dev) : ∃ a p o, raiseBayChange i d = { d with bay.change := a, mhi.msixPending := p, out := o } := by
  simp only [raiseBayChange]
  split
  · exact ⟨_, _, _, rfl⟩
  · obtain ⟨p, o, h⟩ := fireIf_shape (d.bay.changeEn.getLsbD i) 4 { d with bay.change := setBit d.bay.change i }
    exact ⟨_, p, o, h⟩

/-- An EVENT_INT cause. -/
theorem raiseEvent_shape (i : Nat) (d : Dev) : ∃ a p o, raiseEvent i d = { d with ev.int := a, mhi.msixPending := p, out := o } := by
  simp only [raiseEvent]
  split
  · exact ⟨_, _, _, rfl⟩
  · obtain ⟨p, o, h⟩ := fireIf_shape (d.ev.intEn.getLsbD i) 5 { d with ev.int := setBit d.ev.int i }
    exact ⟨_, p, o, h⟩

/-- A COVE_INT cause. -/
theorem raiseCove_shape (c i : Nat) (d : Dev) : ∃ t p o, raiseCove c i d = { d with cove.tab := t, mhi.msixPending := p, out := o } := by
  simp only [raiseCove]
  split
  · exact ⟨_, _, _, rfl⟩
  · rename_i r _
    split
    · exact ⟨_, _, _, rfl⟩
    · obtain ⟨p, o, h⟩ := fireIf_shape (r.intEn.getLsbD i) 8 { d with cove.tab := tput d.cove.tab c { r with int := setBit r.int i } }
      exact ⟨_, p, o, h⟩

/-- A step of bring-up. -/
theorem setStep_shape (n : Nat) (d : Dev) : ∃ k a p o, setStep n d = { d with boot.step := k, mhi.int := a, mhi.msixPending := p, out := o } := by
  simp only [setStep]
  split
  · exact ⟨_, _, _, _, rfl⟩
  · obtain ⟨a, p, o, h⟩ := raiseGlobal_shape 3 { d with boot.step := n }
    exact ⟨_, a, p, o, h⟩

/-- Judging GLOBAL_ALERT. -/
theorem judgeAlert_shape  (d : Dev) : ∃ z a p o, judgeAlert d = { d with mhi.alertSeen := z, mhi.int := a, mhi.msixPending := p, out := o } := by
  simp only [judgeAlert]
  split
  · exact ⟨_, d.mhi.int, d.mhi.msixPending, d.out, rfl⟩
  · obtain ⟨a, p, o, h⟩ := raiseGlobal_shape 1 { d with mhi.alertSeen := alertBits d }
    exact ⟨_, a, p, o, h⟩

/-- Judging service mode. -/
theorem judgeService_shape  (d : Dev) : ∃ z a p o, judgeService d = { d with mhi.service := z, mhi.int := a, mhi.msixPending := p, out := o } := by
  simp only [judgeService]
  split
  · obtain ⟨a, p, o, h⟩ := raiseGlobal_shape 2 { d with mhi.service := false }
    exact ⟨_, a, p, o, h⟩
  · exact ⟨_, _, _, _, rfl⟩

/-- The end of PS3. -/
theorem wake_shape  (d : Dev) : ∃ w n z a p o, wake d = { d with host.power := w, host.ps3Wanted := n, mhi.service := z, mhi.int := a, mhi.msixPending := p, out := o } := by
  simp only [wake]
  split
  · obtain ⟨z, a, p, o, h⟩ := judgeService_shape { d with host.power := d.host.lastOperational, host.ps3Wanted := false }
    exact ⟨_, _, z, a, p, o, h⟩
  · exact ⟨_, _, _, _, _, _, rfl⟩

/-- A flush moves the buffer to the end of EVENTS, and may raise its causes. -/
theorem flushEvents_shape  (d : Dev) : ∃ a p o, flushEvents d = { d with ev.slots := d.ev.slots ++ d.ev.buffer.map some, ev.buffer := [], ev.int := a, mhi.msixPending := p, out := o } := by
  have inner := fun (c : Prop) [Decidable c] => show ∃ a p o,
      (if c then raiseEvent 5 { d with ev.slots := d.ev.slots ++ d.ev.buffer.map some, ev.buffer := [] }
       else { d with ev.slots := d.ev.slots ++ d.ev.buffer.map some, ev.buffer := [] })
      = { d with ev.slots := d.ev.slots ++ d.ev.buffer.map some, ev.buffer := [], ev.int := a, mhi.msixPending := p, out := o } by
    split
    · exact raiseEvent_shape 5 { d with ev.slots := d.ev.slots ++ d.ev.buffer.map some, ev.buffer := [] }
    · exact ⟨d.ev.int, d.mhi.msixPending, d.out, rfl⟩
  simp only [flushEvents]
  obtain ⟨a, p, o, h⟩ := inner (d.ev.slots.length < 3 * eventCapacity d / 4 ∧ 3 * eventCapacity d / 4 ≤ (d.ev.slots ++ d.ev.buffer.map some).length)
  rw [h]
  split
  · exact raiseEvent_shape 4 { d with ev.slots := d.ev.slots ++ d.ev.buffer.map some, ev.buffer := [], ev.int := a, mhi.msixPending := p, out := o }
  · exact ⟨a, p, o, rfl⟩

/-- A lost event. -/
theorem loseEvent_shape  (d : Dev) : ∃ n a p o, loseEvent d = { d with ev.lost := n, ev.int := a, mhi.msixPending := p, out := o } := by
  obtain ⟨a, p, o, h⟩ := raiseEvent_shape 3 { d with ev.lost := satAdd 32 d.ev.lost 1 }
  exact ⟨_, a, p, o, h⟩

/-- A record enters the buffer or is lost: only the recorder, its vector and the output change. -/
theorem enterEvent_shape (r : EventRec) (n : Nat) (d : Dev) : ∃ e p o, enterEvent r n d = { d with ev := e, mhi.msixPending := p, out := o } := by
  have key : ∀ x : Dev, (∃ e p o, x = { d with ev := e, mhi.msixPending := p, out := o }) → ∀ i,
      ∃ e p o, raiseEvent i x = { d with ev := e, mhi.msixPending := p, out := o } := by
    rintro x ⟨e, p, o, rfl⟩ i
    obtain ⟨a, q, r, h⟩ := raiseEvent_shape i { d with ev := e, mhi.msixPending := p, out := o }
    exact ⟨_, q, r, h⟩
  have flush : ∀ x : Dev, (∃ e p o, x = { d with ev := e, mhi.msixPending := p, out := o }) →
      ∃ e p o, flushEvents x = { d with ev := e, mhi.msixPending := p, out := o } := by
    rintro x ⟨e, p, o, rfl⟩
    obtain ⟨a, q, r, h⟩ := flushEvents_shape { d with ev := e, mhi.msixPending := p, out := o }
    exact ⟨_, q, r, h⟩
  have base : ∃ e p o, ({ d with ev.buffer := d.ev.buffer ++ [{ r with esn := n }], ev.nextEsn := some (n + 1) } : Dev)
      = { d with ev := e, mhi.msixPending := p, out := o } := ⟨_, d.mhi.msixPending, d.out, rfl⟩
  have mid := fun (c1 c2 : Prop) [Decidable c1] [Decidable c2] => show ∃ e p o,
      (if c1 then raiseEvent 1 { d with ev.buffer := d.ev.buffer ++ [{ r with esn := n }], ev.nextEsn := some (n + 1) }
       else if c2 then raiseEvent 0 { d with ev.buffer := d.ev.buffer ++ [{ r with esn := n }], ev.nextEsn := some (n + 1) }
       else { d with ev.buffer := d.ev.buffer ++ [{ r with esn := n }], ev.nextEsn := some (n + 1) })
      = { d with ev := e, mhi.msixPending := p, out := o } by
    split
    · exact key _ base 1
    · split
      · exact key _ base 0
      · exact base
  obtain ⟨e, p, o, h⟩ := mid (r.cls = 1) (r.cls = 2)
  simp only [enterEvent, h]
  split
  · split
    · exact flush _ ⟨_, _, _, rfl⟩
    · exact ⟨_, _, _, rfl⟩
  · obtain ⟨k, a, p, o, h⟩ := loseEvent_shape d
    exact ⟨_, p, o, h⟩

/-- A record: only the recorder, its vector and the output change. -/
theorem logRec_shape (r : EventRec) (d : Dev) : ∃ e p o, logRec r d = { d with ev := e, mhi.msixPending := p, out := o } := by
  simp only [logRec]
  split
  · exact enterEvent_shape r _ d
  · exact ⟨_, d.mhi.msixPending, d.out, rfl⟩

/-- An event: only the recorder, its vector and the output change. -/
theorem logEvent_shape (a b c l : Nat) (d : Dev) : ∃ e p o, logEvent a b c l d = { d with ev := e, mhi.msixPending := p, out := o } := by
  simp only [logEvent]
  split
  · exact ⟨_, _, _, rfl⟩
  · exact logRec_shape _ d

/-- An event that concerns a Cove. -/
theorem logCove_shape (v a b c l : Nat) (d : Dev) : ∃ e p o, logCove v a b c l d = { d with ev := e, mhi.msixPending := p, out := o } := by
  simp only [logCove]
  split
  · exact ⟨_, _, _, rfl⟩
  · exact logRec_shape _ d

/-- An event of the Lighthouse. -/
theorem lightRecord_shape (a b l : Nat) (d : Dev) : ∃ e p o, lightRecord a b l d = { d with ev := e, mhi.msixPending := p, out := o } := by
  simp only [lightRecord]
  split
  · exact logRec_shape _ d
  · exact ⟨_, _, _, rfl⟩

/-- A decision of the Lighthouse is recorded, or counts in SUPPRESSED. -/
theorem logLight_shape (a b : Nat) (v : Bool) (c e f g h i j : Nat) (d : Dev) : ∃ r n x p o, logLight a b v c e f g h i j d = { d with light.recorded := r, light.suppressed := n, ev := x, mhi.msixPending := p, out := o } := by
  simp only [logLight]
  split
  · exact ⟨d.light.recorded, _, d.ev, d.mhi.msixPending, d.out, rfl⟩
  · obtain ⟨x, p, o, k⟩ := lightRecord_shape a b _ { d with light.recorded := tput d.light.recorded ((a * 4 + c) * 65536 + e) (b, g, elapsed d) }
    exact ⟨_, d.light.suppressed, x, p, o, k⟩

/-- A clock mark. -/
theorem clockMark_shape  (d : Dev) : ∃ e p o, clockMark d = { d with ev := e, mhi.msixPending := p, out := o } := by
  exact logEvent_shape _ _ _ _ d

/-- An occurrence changes counters alone. -/
theorem occur_shape (c e n : Nat) (a : Attr) (d : Dev) : ∃ t, occur c e n a d = { d with perf.counters := t } := by
  exact ⟨_, rfl⟩

/-- A mailbox command completes: only the MHI and the output change. -/
theorem mboxDone_shape (r : MboxResult) (d : Dev) : ∃ m o, mboxDone r d = { d with mhi := m, out := o } := by
  simp only [mboxDone]
  split
  · obtain ⟨a, p, o, h⟩ := raiseGlobal_shape 0 { d with mhi.mboxBusy := false, mhi.mboxPending := false, mhi.mboxDoneSeq := d.mhi.mboxSeq, mhi.mboxResult := some r }
    rw [h]
    exact ⟨_, _, rfl⟩
  · exact ⟨_, _, rfl⟩

/-- A Strait frame takes an LSEQ, and a place in the replay buffer or behind it. -/
theorem straitSend_shape (f : StraitFrame) (d : Dev) : ∃ q b w o, straitSend f d = { d with pair.txLseq := q, pair.replayBuffer := b, pair.sendWaits := w, out := o } := by
  simp only [straitSend]
  split
  · split
    · exact ⟨_, d.pair.replayBuffer, _, d.out, rfl⟩
    · exact ⟨_, _, d.pair.sendWaits, _, rfl⟩
  · exact ⟨_, _, _, _, rfl⟩

/-- A CONTROL frame. -/
theorem straitControl_shape (n : Nat) (l : List Byte) (d : Dev) : ∃ q b w o, straitControl n l d = { d with pair.txLseq := q, pair.replayBuffer := b, pair.sendWaits := w, out := o } := by
  exact straitSend_shape _ d

/-- A transfer unit changes the queues of Prism and the counters alone. -/
theorem sendUnit_shape (src : Nat) (repl : List Nat) (kind : CellKind) (cmd : Bool) (cls cove key tag bytes : Nat) (d : Dev) :
    ∃ t x, sendUnit src repl kind cmd cls cove key tag bytes d = { d with perf.counters := t, path := x } := by
  simp only [sendUnit]
  split
  · exact ⟨_, _, rfl⟩
  · split
    · exact ⟨_, _, rfl⟩
    · exact ⟨d.perf.counters, _, rfl⟩

/-- The cells of a member command. -/
theorem memberUnit_shape (m : Nat) (c : MemberCmd) (d : Dev) : ∃ t x, memberUnit m c d = { d with perf.counters := t, path := x } := by
  simp only [memberUnit]
  split <;> first | exact sendUnit_shape _ _ _ _ _ _ _ _ _ _ | exact ⟨_, _, rfl⟩

/-- A queued member command goes to its drive. -/
theorem startMember_shape (m : Nat) (d : Dev) : ∃ t x c u, startMember m d = { d with perf.counters := t, path := x, shelf.cmds := c, out := u } := by
  simp only [startMember]
  split
  · exact ⟨_, _, _, _, rfl⟩
  · rename_i c _
    obtain ⟨t, x, h⟩ := memberUnit_shape m c (emit (.member c.bay m c.op (memberFua d c.bay c.op)) (occur 6 0 1 (memberAttr c.bay (opClass c.op))
      { d with shelf.cmds := tput d.shelf.cmds m { c with phase := .issued, issuedAt := elapsed d } }))
    exact ⟨t, x, _, _, h⟩

/-- The queues of a bay take what they have room for. -/
theorem pullBay_shape (k bay : Nat) (d : Dev) :
    ∃ t x c r u, pullBay k bay d = { d with perf.counters := t, path := x, shelf.cmds := c, shelf.shares := r, out := u } := by
  induction k generalizing d with
  | zero => exact ⟨_, _, _, _, _, rfl⟩
  | succ k ih =>
    simp only [pullBay]
    split
    · rename_i e _ _
      obtain ⟨t, x, c, u, h⟩ := startMember_shape e.1 d
      obtain ⟨t', x', c', r', u', h'⟩ := ih (startMember e.1 d)
      exact ⟨t', x', c', r', u', by rw [h', h]⟩
    · split
      · rename_i m left _
        split
        · obtain ⟨t, x, c, u, h⟩ := startMember_shape m d
          obtain ⟨t', x', c', r', u', h'⟩ := ih (startMember m d)
          exact ⟨t', x', c', r', u', by rw [h', h]⟩
        · obtain ⟨t, x, c, u, h⟩ := startMember_shape m { d with shelf.shares := tput d.shelf.shares bay left }
          obtain ⟨t', x', c', r', u', h'⟩ := ih (startMember m { d with shelf.shares := tput d.shelf.shares bay left })
          exact ⟨t', x', c', r', u', by rw [h', h]⟩
      · exact ⟨_, _, _, _, _, rfl⟩

/-- A member command goes out, or waits for room in a queue. -/
theorem issueNow_shape (b : Nat) (o : MemberOp) (d : Dev) :
    ∃ t x n c r u, issueNow b o d = { d with perf.counters := t, path := x, shelf.nextMcid := n, shelf.cmds := c, shelf.shares := r, out := u } := by
  simp only [issueNow, pullMember]
  obtain ⟨t, x, c, r, u, h⟩ := pullBay_shape _ b
    { d with shelf.nextMcid := d.shelf.nextMcid + 1, shelf.cmds := tput d.shelf.cmds d.shelf.nextMcid { bay := b, op := o, phase := .queued } }
  exact ⟨t, x, _, c, r, u, h⟩

/-- A member command goes out, or waits, or is not issued by a side that does not write members. -/
theorem memberIssue_shape (b : Nat) (o : MemberOp) (d : Dev) :
    ∃ t x g n c r u, memberIssue b o d =
      { d with perf.counters := t, path := x, shelf.heldOps := g, shelf.nextMcid := n, shelf.cmds := c, shelf.shares := r, out := u } := by
  have now : ∃ t x g n c r u, issueNow b o d =
      { d with perf.counters := t, path := x, shelf.heldOps := g, shelf.nextMcid := n, shelf.cmds := c, shelf.shares := r, out := u } := by
    obtain ⟨t, x, n, c, r, u, h⟩ := issueNow_shape b o d
    exact ⟨t, x, d.shelf.heldOps, n, c, r, u, h⟩
  simp only [memberIssue]
  split
  · exact now
  · split
    · exact ⟨d.perf.counters, d.path, _, d.shelf.nextMcid, d.shelf.cmds, d.shelf.shares, d.out, rfl⟩
    · split
      · exact ⟨_, _, _, _, _, _, _, rfl⟩
      · exact now

/-! ## What each operation leaves alone -/

@[simp] theorem fire_ev (v : Nat) (d : Dev) : (fire v d).ev = d.ev := by
  obtain ⟨_, _, h⟩ := fire_shape v d; rw [h]
@[simp] theorem fire_perf (v : Nat) (d : Dev) : (fire v d).perf = d.perf := by
  obtain ⟨_, _, h⟩ := fire_shape v d; rw [h]
@[simp] theorem fire_chart (v : Nat) (d : Dev) : (fire v d).chart = d.chart := by
  obtain ⟨_, _, h⟩ := fire_shape v d; rw [h]
@[simp] theorem fire_clk (v : Nat) (d : Dev) : (fire v d).clk = d.clk := by
  obtain ⟨_, _, h⟩ := fire_shape v d; rw [h]
@[simp] theorem fire_sched (v : Nat) (d : Dev) : (fire v d).sched = d.sched := by
  obtain ⟨_, _, h⟩ := fire_shape v d; rw [h]
@[simp] theorem fire_prism (v : Nat) (d : Dev) : (fire v d).prism = d.prism := by
  obtain ⟨_, _, h⟩ := fire_shape v d; rw [h]
@[simp] theorem fire_boot (v : Nat) (d : Dev) : (fire v d).boot = d.boot := by
  obtain ⟨_, _, h⟩ := fire_shape v d; rw [h]
@[simp] theorem fire_pair (v : Nat) (d : Dev) : (fire v d).pair = d.pair := by
  obtain ⟨_, _, h⟩ := fire_shape v d; rw [h]
@[simp] theorem fire_pool (v : Nat) (d : Dev) : (fire v d).pool = d.pool := by
  obtain ⟨_, _, h⟩ := fire_shape v d; rw [h]
@[simp] theorem fire_str (v : Nat) (d : Dev) : (fire v d).str = d.str := by
  obtain ⟨_, _, h⟩ := fire_shape v d; rw [h]
@[simp] theorem fire_adm (v : Nat) (d : Dev) : (fire v d).adm = d.adm := by
  obtain ⟨_, _, h⟩ := fire_shape v d; rw [h]
@[simp] theorem fire_shelf (v : Nat) (d : Dev) : (fire v d).shelf = d.shelf := by
  obtain ⟨_, _, h⟩ := fire_shape v d; rw [h]
@[simp] theorem fire_host (v : Nat) (d : Dev) : (fire v d).host = d.host := by
  obtain ⟨_, _, h⟩ := fire_shape v d; rw [h]
@[simp] theorem fire_net (v : Nat) (d : Dev) : (fire v d).net = d.net := by
  obtain ⟨_, _, h⟩ := fire_shape v d; rw [h]
@[simp] theorem fire_cove (v : Nat) (d : Dev) : (fire v d).cove = d.cove := by
  obtain ⟨_, _, h⟩ := fire_shape v d; rw [h]
@[simp] theorem fire_keys (v : Nat) (d : Dev) : (fire v d).keys = d.keys := by
  obtain ⟨_, _, h⟩ := fire_shape v d; rw [h]
@[simp] theorem fire_light (v : Nat) (d : Dev) : (fire v d).light = d.light := by
  obtain ⟨_, _, h⟩ := fire_shape v d; rw [h]
@[simp] theorem fire_tline (v : Nat) (d : Dev) : (fire v d).tline = d.tline := by
  obtain ⟨_, _, h⟩ := fire_shape v d; rw [h]
@[simp] theorem fire_bay (v : Nat) (d : Dev) : (fire v d).bay = d.bay := by
  obtain ⟨_, _, h⟩ := fire_shape v d; rw [h]
@[simp] theorem fire_path (v : Nat) (d : Dev) : (fire v d).path = d.path := by
  obtain ⟨_, _, h⟩ := fire_shape v d; rw [h]
@[simp] theorem fire_readData (v : Nat) (d : Dev) : (fire v d).readData = d.readData := by
  obtain ⟨_, _, h⟩ := fire_shape v d; rw [h]
@[simp] theorem fire_readBytes (v : Nat) (d : Dev) : (fire v d).readBytes = d.readBytes := by
  obtain ⟨_, _, h⟩ := fire_shape v d; rw [h]
@[simp] theorem fire_draws (v : Nat) (d : Dev) : (fire v d).draws = d.draws := by
  obtain ⟨_, _, h⟩ := fire_shape v d; rw [h]

@[simp] theorem fireIf_ev (c : Bool) (v : Nat) (d : Dev) : (fireIf c v d).ev = d.ev := by
  obtain ⟨_, _, h⟩ := fireIf_shape c v d; rw [h]
@[simp] theorem fireIf_perf (c : Bool) (v : Nat) (d : Dev) : (fireIf c v d).perf = d.perf := by
  obtain ⟨_, _, h⟩ := fireIf_shape c v d; rw [h]
@[simp] theorem fireIf_chart (c : Bool) (v : Nat) (d : Dev) : (fireIf c v d).chart = d.chart := by
  obtain ⟨_, _, h⟩ := fireIf_shape c v d; rw [h]
@[simp] theorem fireIf_clk (c : Bool) (v : Nat) (d : Dev) : (fireIf c v d).clk = d.clk := by
  obtain ⟨_, _, h⟩ := fireIf_shape c v d; rw [h]
@[simp] theorem fireIf_sched (c : Bool) (v : Nat) (d : Dev) : (fireIf c v d).sched = d.sched := by
  obtain ⟨_, _, h⟩ := fireIf_shape c v d; rw [h]
@[simp] theorem fireIf_prism (c : Bool) (v : Nat) (d : Dev) : (fireIf c v d).prism = d.prism := by
  obtain ⟨_, _, h⟩ := fireIf_shape c v d; rw [h]
@[simp] theorem fireIf_boot (c : Bool) (v : Nat) (d : Dev) : (fireIf c v d).boot = d.boot := by
  obtain ⟨_, _, h⟩ := fireIf_shape c v d; rw [h]
@[simp] theorem fireIf_pair (c : Bool) (v : Nat) (d : Dev) : (fireIf c v d).pair = d.pair := by
  obtain ⟨_, _, h⟩ := fireIf_shape c v d; rw [h]
@[simp] theorem fireIf_pool (c : Bool) (v : Nat) (d : Dev) : (fireIf c v d).pool = d.pool := by
  obtain ⟨_, _, h⟩ := fireIf_shape c v d; rw [h]
@[simp] theorem fireIf_str (c : Bool) (v : Nat) (d : Dev) : (fireIf c v d).str = d.str := by
  obtain ⟨_, _, h⟩ := fireIf_shape c v d; rw [h]
@[simp] theorem fireIf_adm (c : Bool) (v : Nat) (d : Dev) : (fireIf c v d).adm = d.adm := by
  obtain ⟨_, _, h⟩ := fireIf_shape c v d; rw [h]
@[simp] theorem fireIf_shelf (c : Bool) (v : Nat) (d : Dev) : (fireIf c v d).shelf = d.shelf := by
  obtain ⟨_, _, h⟩ := fireIf_shape c v d; rw [h]
@[simp] theorem fireIf_host (c : Bool) (v : Nat) (d : Dev) : (fireIf c v d).host = d.host := by
  obtain ⟨_, _, h⟩ := fireIf_shape c v d; rw [h]
@[simp] theorem fireIf_net (c : Bool) (v : Nat) (d : Dev) : (fireIf c v d).net = d.net := by
  obtain ⟨_, _, h⟩ := fireIf_shape c v d; rw [h]
@[simp] theorem fireIf_cove (c : Bool) (v : Nat) (d : Dev) : (fireIf c v d).cove = d.cove := by
  obtain ⟨_, _, h⟩ := fireIf_shape c v d; rw [h]
@[simp] theorem fireIf_keys (c : Bool) (v : Nat) (d : Dev) : (fireIf c v d).keys = d.keys := by
  obtain ⟨_, _, h⟩ := fireIf_shape c v d; rw [h]
@[simp] theorem fireIf_light (c : Bool) (v : Nat) (d : Dev) : (fireIf c v d).light = d.light := by
  obtain ⟨_, _, h⟩ := fireIf_shape c v d; rw [h]
@[simp] theorem fireIf_tline (c : Bool) (v : Nat) (d : Dev) : (fireIf c v d).tline = d.tline := by
  obtain ⟨_, _, h⟩ := fireIf_shape c v d; rw [h]
@[simp] theorem fireIf_bay (c : Bool) (v : Nat) (d : Dev) : (fireIf c v d).bay = d.bay := by
  obtain ⟨_, _, h⟩ := fireIf_shape c v d; rw [h]
@[simp] theorem fireIf_path (c : Bool) (v : Nat) (d : Dev) : (fireIf c v d).path = d.path := by
  obtain ⟨_, _, h⟩ := fireIf_shape c v d; rw [h]
@[simp] theorem fireIf_readData (c : Bool) (v : Nat) (d : Dev) : (fireIf c v d).readData = d.readData := by
  obtain ⟨_, _, h⟩ := fireIf_shape c v d; rw [h]
@[simp] theorem fireIf_readBytes (c : Bool) (v : Nat) (d : Dev) : (fireIf c v d).readBytes = d.readBytes := by
  obtain ⟨_, _, h⟩ := fireIf_shape c v d; rw [h]
@[simp] theorem fireIf_draws (c : Bool) (v : Nat) (d : Dev) : (fireIf c v d).draws = d.draws := by
  obtain ⟨_, _, h⟩ := fireIf_shape c v d; rw [h]

@[simp] theorem raiseGlobal_ev (i : Nat) (d : Dev) : (raiseGlobal i d).ev = d.ev := by
  obtain ⟨_, _, _, h⟩ := raiseGlobal_shape i d; rw [h]
@[simp] theorem raiseGlobal_perf (i : Nat) (d : Dev) : (raiseGlobal i d).perf = d.perf := by
  obtain ⟨_, _, _, h⟩ := raiseGlobal_shape i d; rw [h]
@[simp] theorem raiseGlobal_chart (i : Nat) (d : Dev) : (raiseGlobal i d).chart = d.chart := by
  obtain ⟨_, _, _, h⟩ := raiseGlobal_shape i d; rw [h]
@[simp] theorem raiseGlobal_clk (i : Nat) (d : Dev) : (raiseGlobal i d).clk = d.clk := by
  obtain ⟨_, _, _, h⟩ := raiseGlobal_shape i d; rw [h]
@[simp] theorem raiseGlobal_sched (i : Nat) (d : Dev) : (raiseGlobal i d).sched = d.sched := by
  obtain ⟨_, _, _, h⟩ := raiseGlobal_shape i d; rw [h]
@[simp] theorem raiseGlobal_prism (i : Nat) (d : Dev) : (raiseGlobal i d).prism = d.prism := by
  obtain ⟨_, _, _, h⟩ := raiseGlobal_shape i d; rw [h]
@[simp] theorem raiseGlobal_boot (i : Nat) (d : Dev) : (raiseGlobal i d).boot = d.boot := by
  obtain ⟨_, _, _, h⟩ := raiseGlobal_shape i d; rw [h]
@[simp] theorem raiseGlobal_pair (i : Nat) (d : Dev) : (raiseGlobal i d).pair = d.pair := by
  obtain ⟨_, _, _, h⟩ := raiseGlobal_shape i d; rw [h]
@[simp] theorem raiseGlobal_pool (i : Nat) (d : Dev) : (raiseGlobal i d).pool = d.pool := by
  obtain ⟨_, _, _, h⟩ := raiseGlobal_shape i d; rw [h]
@[simp] theorem raiseGlobal_str (i : Nat) (d : Dev) : (raiseGlobal i d).str = d.str := by
  obtain ⟨_, _, _, h⟩ := raiseGlobal_shape i d; rw [h]
@[simp] theorem raiseGlobal_adm (i : Nat) (d : Dev) : (raiseGlobal i d).adm = d.adm := by
  obtain ⟨_, _, _, h⟩ := raiseGlobal_shape i d; rw [h]
@[simp] theorem raiseGlobal_shelf (i : Nat) (d : Dev) : (raiseGlobal i d).shelf = d.shelf := by
  obtain ⟨_, _, _, h⟩ := raiseGlobal_shape i d; rw [h]
@[simp] theorem raiseGlobal_host (i : Nat) (d : Dev) : (raiseGlobal i d).host = d.host := by
  obtain ⟨_, _, _, h⟩ := raiseGlobal_shape i d; rw [h]
@[simp] theorem raiseGlobal_net (i : Nat) (d : Dev) : (raiseGlobal i d).net = d.net := by
  obtain ⟨_, _, _, h⟩ := raiseGlobal_shape i d; rw [h]
@[simp] theorem raiseGlobal_cove (i : Nat) (d : Dev) : (raiseGlobal i d).cove = d.cove := by
  obtain ⟨_, _, _, h⟩ := raiseGlobal_shape i d; rw [h]
@[simp] theorem raiseGlobal_keys (i : Nat) (d : Dev) : (raiseGlobal i d).keys = d.keys := by
  obtain ⟨_, _, _, h⟩ := raiseGlobal_shape i d; rw [h]
@[simp] theorem raiseGlobal_light (i : Nat) (d : Dev) : (raiseGlobal i d).light = d.light := by
  obtain ⟨_, _, _, h⟩ := raiseGlobal_shape i d; rw [h]
@[simp] theorem raiseGlobal_tline (i : Nat) (d : Dev) : (raiseGlobal i d).tline = d.tline := by
  obtain ⟨_, _, _, h⟩ := raiseGlobal_shape i d; rw [h]
@[simp] theorem raiseGlobal_bay (i : Nat) (d : Dev) : (raiseGlobal i d).bay = d.bay := by
  obtain ⟨_, _, _, h⟩ := raiseGlobal_shape i d; rw [h]
@[simp] theorem raiseGlobal_path (i : Nat) (d : Dev) : (raiseGlobal i d).path = d.path := by
  obtain ⟨_, _, _, h⟩ := raiseGlobal_shape i d; rw [h]
@[simp] theorem raiseGlobal_readData (i : Nat) (d : Dev) : (raiseGlobal i d).readData = d.readData := by
  obtain ⟨_, _, _, h⟩ := raiseGlobal_shape i d; rw [h]
@[simp] theorem raiseGlobal_readBytes (i : Nat) (d : Dev) : (raiseGlobal i d).readBytes = d.readBytes := by
  obtain ⟨_, _, _, h⟩ := raiseGlobal_shape i d; rw [h]
@[simp] theorem raiseGlobal_draws (i : Nat) (d : Dev) : (raiseGlobal i d).draws = d.draws := by
  obtain ⟨_, _, _, h⟩ := raiseGlobal_shape i d; rw [h]

@[simp] theorem raiseChart_ev (i : Nat) (d : Dev) : (raiseChart i d).ev = d.ev := by
  obtain ⟨_, _, _, h⟩ := raiseChart_shape i d; rw [h]
@[simp] theorem raiseChart_perf (i : Nat) (d : Dev) : (raiseChart i d).perf = d.perf := by
  obtain ⟨_, _, _, h⟩ := raiseChart_shape i d; rw [h]
@[simp] theorem raiseChart_clk (i : Nat) (d : Dev) : (raiseChart i d).clk = d.clk := by
  obtain ⟨_, _, _, h⟩ := raiseChart_shape i d; rw [h]
@[simp] theorem raiseChart_sched (i : Nat) (d : Dev) : (raiseChart i d).sched = d.sched := by
  obtain ⟨_, _, _, h⟩ := raiseChart_shape i d; rw [h]
@[simp] theorem raiseChart_prism (i : Nat) (d : Dev) : (raiseChart i d).prism = d.prism := by
  obtain ⟨_, _, _, h⟩ := raiseChart_shape i d; rw [h]
@[simp] theorem raiseChart_boot (i : Nat) (d : Dev) : (raiseChart i d).boot = d.boot := by
  obtain ⟨_, _, _, h⟩ := raiseChart_shape i d; rw [h]
@[simp] theorem raiseChart_pair (i : Nat) (d : Dev) : (raiseChart i d).pair = d.pair := by
  obtain ⟨_, _, _, h⟩ := raiseChart_shape i d; rw [h]
@[simp] theorem raiseChart_pool (i : Nat) (d : Dev) : (raiseChart i d).pool = d.pool := by
  obtain ⟨_, _, _, h⟩ := raiseChart_shape i d; rw [h]
@[simp] theorem raiseChart_str (i : Nat) (d : Dev) : (raiseChart i d).str = d.str := by
  obtain ⟨_, _, _, h⟩ := raiseChart_shape i d; rw [h]
@[simp] theorem raiseChart_adm (i : Nat) (d : Dev) : (raiseChart i d).adm = d.adm := by
  obtain ⟨_, _, _, h⟩ := raiseChart_shape i d; rw [h]
@[simp] theorem raiseChart_shelf (i : Nat) (d : Dev) : (raiseChart i d).shelf = d.shelf := by
  obtain ⟨_, _, _, h⟩ := raiseChart_shape i d; rw [h]
@[simp] theorem raiseChart_host (i : Nat) (d : Dev) : (raiseChart i d).host = d.host := by
  obtain ⟨_, _, _, h⟩ := raiseChart_shape i d; rw [h]
@[simp] theorem raiseChart_net (i : Nat) (d : Dev) : (raiseChart i d).net = d.net := by
  obtain ⟨_, _, _, h⟩ := raiseChart_shape i d; rw [h]
@[simp] theorem raiseChart_cove (i : Nat) (d : Dev) : (raiseChart i d).cove = d.cove := by
  obtain ⟨_, _, _, h⟩ := raiseChart_shape i d; rw [h]
@[simp] theorem raiseChart_keys (i : Nat) (d : Dev) : (raiseChart i d).keys = d.keys := by
  obtain ⟨_, _, _, h⟩ := raiseChart_shape i d; rw [h]
@[simp] theorem raiseChart_light (i : Nat) (d : Dev) : (raiseChart i d).light = d.light := by
  obtain ⟨_, _, _, h⟩ := raiseChart_shape i d; rw [h]
@[simp] theorem raiseChart_tline (i : Nat) (d : Dev) : (raiseChart i d).tline = d.tline := by
  obtain ⟨_, _, _, h⟩ := raiseChart_shape i d; rw [h]
@[simp] theorem raiseChart_bay (i : Nat) (d : Dev) : (raiseChart i d).bay = d.bay := by
  obtain ⟨_, _, _, h⟩ := raiseChart_shape i d; rw [h]
@[simp] theorem raiseChart_path (i : Nat) (d : Dev) : (raiseChart i d).path = d.path := by
  obtain ⟨_, _, _, h⟩ := raiseChart_shape i d; rw [h]
@[simp] theorem raiseChart_readData (i : Nat) (d : Dev) : (raiseChart i d).readData = d.readData := by
  obtain ⟨_, _, _, h⟩ := raiseChart_shape i d; rw [h]
@[simp] theorem raiseChart_readBytes (i : Nat) (d : Dev) : (raiseChart i d).readBytes = d.readBytes := by
  obtain ⟨_, _, _, h⟩ := raiseChart_shape i d; rw [h]
@[simp] theorem raiseChart_draws (i : Nat) (d : Dev) : (raiseChart i d).draws = d.draws := by
  obtain ⟨_, _, _, h⟩ := raiseChart_shape i d; rw [h]

@[simp] theorem raisePool_ev (i : Nat) (d : Dev) : (raisePool i d).ev = d.ev := by
  obtain ⟨_, _, _, h⟩ := raisePool_shape i d; rw [h]
@[simp] theorem raisePool_perf (i : Nat) (d : Dev) : (raisePool i d).perf = d.perf := by
  obtain ⟨_, _, _, h⟩ := raisePool_shape i d; rw [h]
@[simp] theorem raisePool_chart (i : Nat) (d : Dev) : (raisePool i d).chart = d.chart := by
  obtain ⟨_, _, _, h⟩ := raisePool_shape i d; rw [h]
@[simp] theorem raisePool_clk (i : Nat) (d : Dev) : (raisePool i d).clk = d.clk := by
  obtain ⟨_, _, _, h⟩ := raisePool_shape i d; rw [h]
@[simp] theorem raisePool_sched (i : Nat) (d : Dev) : (raisePool i d).sched = d.sched := by
  obtain ⟨_, _, _, h⟩ := raisePool_shape i d; rw [h]
@[simp] theorem raisePool_prism (i : Nat) (d : Dev) : (raisePool i d).prism = d.prism := by
  obtain ⟨_, _, _, h⟩ := raisePool_shape i d; rw [h]
@[simp] theorem raisePool_boot (i : Nat) (d : Dev) : (raisePool i d).boot = d.boot := by
  obtain ⟨_, _, _, h⟩ := raisePool_shape i d; rw [h]
@[simp] theorem raisePool_pair (i : Nat) (d : Dev) : (raisePool i d).pair = d.pair := by
  obtain ⟨_, _, _, h⟩ := raisePool_shape i d; rw [h]
@[simp] theorem raisePool_str (i : Nat) (d : Dev) : (raisePool i d).str = d.str := by
  obtain ⟨_, _, _, h⟩ := raisePool_shape i d; rw [h]
@[simp] theorem raisePool_adm (i : Nat) (d : Dev) : (raisePool i d).adm = d.adm := by
  obtain ⟨_, _, _, h⟩ := raisePool_shape i d; rw [h]
@[simp] theorem raisePool_shelf (i : Nat) (d : Dev) : (raisePool i d).shelf = d.shelf := by
  obtain ⟨_, _, _, h⟩ := raisePool_shape i d; rw [h]
@[simp] theorem raisePool_host (i : Nat) (d : Dev) : (raisePool i d).host = d.host := by
  obtain ⟨_, _, _, h⟩ := raisePool_shape i d; rw [h]
@[simp] theorem raisePool_net (i : Nat) (d : Dev) : (raisePool i d).net = d.net := by
  obtain ⟨_, _, _, h⟩ := raisePool_shape i d; rw [h]
@[simp] theorem raisePool_cove (i : Nat) (d : Dev) : (raisePool i d).cove = d.cove := by
  obtain ⟨_, _, _, h⟩ := raisePool_shape i d; rw [h]
@[simp] theorem raisePool_keys (i : Nat) (d : Dev) : (raisePool i d).keys = d.keys := by
  obtain ⟨_, _, _, h⟩ := raisePool_shape i d; rw [h]
@[simp] theorem raisePool_light (i : Nat) (d : Dev) : (raisePool i d).light = d.light := by
  obtain ⟨_, _, _, h⟩ := raisePool_shape i d; rw [h]
@[simp] theorem raisePool_tline (i : Nat) (d : Dev) : (raisePool i d).tline = d.tline := by
  obtain ⟨_, _, _, h⟩ := raisePool_shape i d; rw [h]
@[simp] theorem raisePool_bay (i : Nat) (d : Dev) : (raisePool i d).bay = d.bay := by
  obtain ⟨_, _, _, h⟩ := raisePool_shape i d; rw [h]
@[simp] theorem raisePool_path (i : Nat) (d : Dev) : (raisePool i d).path = d.path := by
  obtain ⟨_, _, _, h⟩ := raisePool_shape i d; rw [h]
@[simp] theorem raisePool_readData (i : Nat) (d : Dev) : (raisePool i d).readData = d.readData := by
  obtain ⟨_, _, _, h⟩ := raisePool_shape i d; rw [h]
@[simp] theorem raisePool_readBytes (i : Nat) (d : Dev) : (raisePool i d).readBytes = d.readBytes := by
  obtain ⟨_, _, _, h⟩ := raisePool_shape i d; rw [h]
@[simp] theorem raisePool_draws (i : Nat) (d : Dev) : (raisePool i d).draws = d.draws := by
  obtain ⟨_, _, _, h⟩ := raisePool_shape i d; rw [h]

@[simp] theorem raisePair_ev (i : Nat) (d : Dev) : (raisePair i d).ev = d.ev := by
  obtain ⟨_, _, _, h⟩ := raisePair_shape i d; rw [h]
@[simp] theorem raisePair_perf (i : Nat) (d : Dev) : (raisePair i d).perf = d.perf := by
  obtain ⟨_, _, _, h⟩ := raisePair_shape i d; rw [h]
@[simp] theorem raisePair_chart (i : Nat) (d : Dev) : (raisePair i d).chart = d.chart := by
  obtain ⟨_, _, _, h⟩ := raisePair_shape i d; rw [h]
@[simp] theorem raisePair_clk (i : Nat) (d : Dev) : (raisePair i d).clk = d.clk := by
  obtain ⟨_, _, _, h⟩ := raisePair_shape i d; rw [h]
@[simp] theorem raisePair_sched (i : Nat) (d : Dev) : (raisePair i d).sched = d.sched := by
  obtain ⟨_, _, _, h⟩ := raisePair_shape i d; rw [h]
@[simp] theorem raisePair_prism (i : Nat) (d : Dev) : (raisePair i d).prism = d.prism := by
  obtain ⟨_, _, _, h⟩ := raisePair_shape i d; rw [h]
@[simp] theorem raisePair_boot (i : Nat) (d : Dev) : (raisePair i d).boot = d.boot := by
  obtain ⟨_, _, _, h⟩ := raisePair_shape i d; rw [h]
@[simp] theorem raisePair_pool (i : Nat) (d : Dev) : (raisePair i d).pool = d.pool := by
  obtain ⟨_, _, _, h⟩ := raisePair_shape i d; rw [h]
@[simp] theorem raisePair_str (i : Nat) (d : Dev) : (raisePair i d).str = d.str := by
  obtain ⟨_, _, _, h⟩ := raisePair_shape i d; rw [h]
@[simp] theorem raisePair_adm (i : Nat) (d : Dev) : (raisePair i d).adm = d.adm := by
  obtain ⟨_, _, _, h⟩ := raisePair_shape i d; rw [h]
@[simp] theorem raisePair_shelf (i : Nat) (d : Dev) : (raisePair i d).shelf = d.shelf := by
  obtain ⟨_, _, _, h⟩ := raisePair_shape i d; rw [h]
@[simp] theorem raisePair_host (i : Nat) (d : Dev) : (raisePair i d).host = d.host := by
  obtain ⟨_, _, _, h⟩ := raisePair_shape i d; rw [h]
@[simp] theorem raisePair_net (i : Nat) (d : Dev) : (raisePair i d).net = d.net := by
  obtain ⟨_, _, _, h⟩ := raisePair_shape i d; rw [h]
@[simp] theorem raisePair_cove (i : Nat) (d : Dev) : (raisePair i d).cove = d.cove := by
  obtain ⟨_, _, _, h⟩ := raisePair_shape i d; rw [h]
@[simp] theorem raisePair_keys (i : Nat) (d : Dev) : (raisePair i d).keys = d.keys := by
  obtain ⟨_, _, _, h⟩ := raisePair_shape i d; rw [h]
@[simp] theorem raisePair_light (i : Nat) (d : Dev) : (raisePair i d).light = d.light := by
  obtain ⟨_, _, _, h⟩ := raisePair_shape i d; rw [h]
@[simp] theorem raisePair_tline (i : Nat) (d : Dev) : (raisePair i d).tline = d.tline := by
  obtain ⟨_, _, _, h⟩ := raisePair_shape i d; rw [h]
@[simp] theorem raisePair_bay (i : Nat) (d : Dev) : (raisePair i d).bay = d.bay := by
  obtain ⟨_, _, _, h⟩ := raisePair_shape i d; rw [h]
@[simp] theorem raisePair_path (i : Nat) (d : Dev) : (raisePair i d).path = d.path := by
  obtain ⟨_, _, _, h⟩ := raisePair_shape i d; rw [h]
@[simp] theorem raisePair_readData (i : Nat) (d : Dev) : (raisePair i d).readData = d.readData := by
  obtain ⟨_, _, _, h⟩ := raisePair_shape i d; rw [h]
@[simp] theorem raisePair_readBytes (i : Nat) (d : Dev) : (raisePair i d).readBytes = d.readBytes := by
  obtain ⟨_, _, _, h⟩ := raisePair_shape i d; rw [h]
@[simp] theorem raisePair_draws (i : Nat) (d : Dev) : (raisePair i d).draws = d.draws := by
  obtain ⟨_, _, _, h⟩ := raisePair_shape i d; rw [h]

@[simp] theorem raiseBay_ev (i : Nat) (d : Dev) : (raiseBay i d).ev = d.ev := by
  obtain ⟨_, _, _, h⟩ := raiseBay_shape i d; rw [h]
@[simp] theorem raiseBay_perf (i : Nat) (d : Dev) : (raiseBay i d).perf = d.perf := by
  obtain ⟨_, _, _, h⟩ := raiseBay_shape i d; rw [h]
@[simp] theorem raiseBay_chart (i : Nat) (d : Dev) : (raiseBay i d).chart = d.chart := by
  obtain ⟨_, _, _, h⟩ := raiseBay_shape i d; rw [h]
@[simp] theorem raiseBay_clk (i : Nat) (d : Dev) : (raiseBay i d).clk = d.clk := by
  obtain ⟨_, _, _, h⟩ := raiseBay_shape i d; rw [h]
@[simp] theorem raiseBay_sched (i : Nat) (d : Dev) : (raiseBay i d).sched = d.sched := by
  obtain ⟨_, _, _, h⟩ := raiseBay_shape i d; rw [h]
@[simp] theorem raiseBay_prism (i : Nat) (d : Dev) : (raiseBay i d).prism = d.prism := by
  obtain ⟨_, _, _, h⟩ := raiseBay_shape i d; rw [h]
@[simp] theorem raiseBay_boot (i : Nat) (d : Dev) : (raiseBay i d).boot = d.boot := by
  obtain ⟨_, _, _, h⟩ := raiseBay_shape i d; rw [h]
@[simp] theorem raiseBay_pair (i : Nat) (d : Dev) : (raiseBay i d).pair = d.pair := by
  obtain ⟨_, _, _, h⟩ := raiseBay_shape i d; rw [h]
@[simp] theorem raiseBay_pool (i : Nat) (d : Dev) : (raiseBay i d).pool = d.pool := by
  obtain ⟨_, _, _, h⟩ := raiseBay_shape i d; rw [h]
@[simp] theorem raiseBay_str (i : Nat) (d : Dev) : (raiseBay i d).str = d.str := by
  obtain ⟨_, _, _, h⟩ := raiseBay_shape i d; rw [h]
@[simp] theorem raiseBay_adm (i : Nat) (d : Dev) : (raiseBay i d).adm = d.adm := by
  obtain ⟨_, _, _, h⟩ := raiseBay_shape i d; rw [h]
@[simp] theorem raiseBay_shelf (i : Nat) (d : Dev) : (raiseBay i d).shelf = d.shelf := by
  obtain ⟨_, _, _, h⟩ := raiseBay_shape i d; rw [h]
@[simp] theorem raiseBay_host (i : Nat) (d : Dev) : (raiseBay i d).host = d.host := by
  obtain ⟨_, _, _, h⟩ := raiseBay_shape i d; rw [h]
@[simp] theorem raiseBay_net (i : Nat) (d : Dev) : (raiseBay i d).net = d.net := by
  obtain ⟨_, _, _, h⟩ := raiseBay_shape i d; rw [h]
@[simp] theorem raiseBay_cove (i : Nat) (d : Dev) : (raiseBay i d).cove = d.cove := by
  obtain ⟨_, _, _, h⟩ := raiseBay_shape i d; rw [h]
@[simp] theorem raiseBay_keys (i : Nat) (d : Dev) : (raiseBay i d).keys = d.keys := by
  obtain ⟨_, _, _, h⟩ := raiseBay_shape i d; rw [h]
@[simp] theorem raiseBay_light (i : Nat) (d : Dev) : (raiseBay i d).light = d.light := by
  obtain ⟨_, _, _, h⟩ := raiseBay_shape i d; rw [h]
@[simp] theorem raiseBay_tline (i : Nat) (d : Dev) : (raiseBay i d).tline = d.tline := by
  obtain ⟨_, _, _, h⟩ := raiseBay_shape i d; rw [h]
@[simp] theorem raiseBay_path (i : Nat) (d : Dev) : (raiseBay i d).path = d.path := by
  obtain ⟨_, _, _, h⟩ := raiseBay_shape i d; rw [h]
@[simp] theorem raiseBay_readData (i : Nat) (d : Dev) : (raiseBay i d).readData = d.readData := by
  obtain ⟨_, _, _, h⟩ := raiseBay_shape i d; rw [h]
@[simp] theorem raiseBay_readBytes (i : Nat) (d : Dev) : (raiseBay i d).readBytes = d.readBytes := by
  obtain ⟨_, _, _, h⟩ := raiseBay_shape i d; rw [h]
@[simp] theorem raiseBay_draws (i : Nat) (d : Dev) : (raiseBay i d).draws = d.draws := by
  obtain ⟨_, _, _, h⟩ := raiseBay_shape i d; rw [h]

@[simp] theorem raiseBayChange_ev (i : Nat) (d : Dev) : (raiseBayChange i d).ev = d.ev := by
  obtain ⟨_, _, _, h⟩ := raiseBayChange_shape i d; rw [h]
@[simp] theorem raiseBayChange_perf (i : Nat) (d : Dev) : (raiseBayChange i d).perf = d.perf := by
  obtain ⟨_, _, _, h⟩ := raiseBayChange_shape i d; rw [h]
@[simp] theorem raiseBayChange_chart (i : Nat) (d : Dev) : (raiseBayChange i d).chart = d.chart := by
  obtain ⟨_, _, _, h⟩ := raiseBayChange_shape i d; rw [h]
@[simp] theorem raiseBayChange_clk (i : Nat) (d : Dev) : (raiseBayChange i d).clk = d.clk := by
  obtain ⟨_, _, _, h⟩ := raiseBayChange_shape i d; rw [h]
@[simp] theorem raiseBayChange_sched (i : Nat) (d : Dev) : (raiseBayChange i d).sched = d.sched := by
  obtain ⟨_, _, _, h⟩ := raiseBayChange_shape i d; rw [h]
@[simp] theorem raiseBayChange_prism (i : Nat) (d : Dev) : (raiseBayChange i d).prism = d.prism := by
  obtain ⟨_, _, _, h⟩ := raiseBayChange_shape i d; rw [h]
@[simp] theorem raiseBayChange_boot (i : Nat) (d : Dev) : (raiseBayChange i d).boot = d.boot := by
  obtain ⟨_, _, _, h⟩ := raiseBayChange_shape i d; rw [h]
@[simp] theorem raiseBayChange_pair (i : Nat) (d : Dev) : (raiseBayChange i d).pair = d.pair := by
  obtain ⟨_, _, _, h⟩ := raiseBayChange_shape i d; rw [h]
@[simp] theorem raiseBayChange_pool (i : Nat) (d : Dev) : (raiseBayChange i d).pool = d.pool := by
  obtain ⟨_, _, _, h⟩ := raiseBayChange_shape i d; rw [h]
@[simp] theorem raiseBayChange_str (i : Nat) (d : Dev) : (raiseBayChange i d).str = d.str := by
  obtain ⟨_, _, _, h⟩ := raiseBayChange_shape i d; rw [h]
@[simp] theorem raiseBayChange_adm (i : Nat) (d : Dev) : (raiseBayChange i d).adm = d.adm := by
  obtain ⟨_, _, _, h⟩ := raiseBayChange_shape i d; rw [h]
@[simp] theorem raiseBayChange_shelf (i : Nat) (d : Dev) : (raiseBayChange i d).shelf = d.shelf := by
  obtain ⟨_, _, _, h⟩ := raiseBayChange_shape i d; rw [h]
@[simp] theorem raiseBayChange_host (i : Nat) (d : Dev) : (raiseBayChange i d).host = d.host := by
  obtain ⟨_, _, _, h⟩ := raiseBayChange_shape i d; rw [h]
@[simp] theorem raiseBayChange_net (i : Nat) (d : Dev) : (raiseBayChange i d).net = d.net := by
  obtain ⟨_, _, _, h⟩ := raiseBayChange_shape i d; rw [h]
@[simp] theorem raiseBayChange_cove (i : Nat) (d : Dev) : (raiseBayChange i d).cove = d.cove := by
  obtain ⟨_, _, _, h⟩ := raiseBayChange_shape i d; rw [h]
@[simp] theorem raiseBayChange_keys (i : Nat) (d : Dev) : (raiseBayChange i d).keys = d.keys := by
  obtain ⟨_, _, _, h⟩ := raiseBayChange_shape i d; rw [h]
@[simp] theorem raiseBayChange_light (i : Nat) (d : Dev) : (raiseBayChange i d).light = d.light := by
  obtain ⟨_, _, _, h⟩ := raiseBayChange_shape i d; rw [h]
@[simp] theorem raiseBayChange_tline (i : Nat) (d : Dev) : (raiseBayChange i d).tline = d.tline := by
  obtain ⟨_, _, _, h⟩ := raiseBayChange_shape i d; rw [h]
@[simp] theorem raiseBayChange_path (i : Nat) (d : Dev) : (raiseBayChange i d).path = d.path := by
  obtain ⟨_, _, _, h⟩ := raiseBayChange_shape i d; rw [h]
@[simp] theorem raiseBayChange_readData (i : Nat) (d : Dev) : (raiseBayChange i d).readData = d.readData := by
  obtain ⟨_, _, _, h⟩ := raiseBayChange_shape i d; rw [h]
@[simp] theorem raiseBayChange_readBytes (i : Nat) (d : Dev) : (raiseBayChange i d).readBytes = d.readBytes := by
  obtain ⟨_, _, _, h⟩ := raiseBayChange_shape i d; rw [h]
@[simp] theorem raiseBayChange_draws (i : Nat) (d : Dev) : (raiseBayChange i d).draws = d.draws := by
  obtain ⟨_, _, _, h⟩ := raiseBayChange_shape i d; rw [h]

@[simp] theorem raiseEvent_perf (i : Nat) (d : Dev) : (raiseEvent i d).perf = d.perf := by
  obtain ⟨_, _, _, h⟩ := raiseEvent_shape i d; rw [h]
@[simp] theorem raiseEvent_chart (i : Nat) (d : Dev) : (raiseEvent i d).chart = d.chart := by
  obtain ⟨_, _, _, h⟩ := raiseEvent_shape i d; rw [h]
@[simp] theorem raiseEvent_clk (i : Nat) (d : Dev) : (raiseEvent i d).clk = d.clk := by
  obtain ⟨_, _, _, h⟩ := raiseEvent_shape i d; rw [h]
@[simp] theorem raiseEvent_sched (i : Nat) (d : Dev) : (raiseEvent i d).sched = d.sched := by
  obtain ⟨_, _, _, h⟩ := raiseEvent_shape i d; rw [h]
@[simp] theorem raiseEvent_prism (i : Nat) (d : Dev) : (raiseEvent i d).prism = d.prism := by
  obtain ⟨_, _, _, h⟩ := raiseEvent_shape i d; rw [h]
@[simp] theorem raiseEvent_boot (i : Nat) (d : Dev) : (raiseEvent i d).boot = d.boot := by
  obtain ⟨_, _, _, h⟩ := raiseEvent_shape i d; rw [h]
@[simp] theorem raiseEvent_pair (i : Nat) (d : Dev) : (raiseEvent i d).pair = d.pair := by
  obtain ⟨_, _, _, h⟩ := raiseEvent_shape i d; rw [h]
@[simp] theorem raiseEvent_pool (i : Nat) (d : Dev) : (raiseEvent i d).pool = d.pool := by
  obtain ⟨_, _, _, h⟩ := raiseEvent_shape i d; rw [h]
@[simp] theorem raiseEvent_str (i : Nat) (d : Dev) : (raiseEvent i d).str = d.str := by
  obtain ⟨_, _, _, h⟩ := raiseEvent_shape i d; rw [h]
@[simp] theorem raiseEvent_adm (i : Nat) (d : Dev) : (raiseEvent i d).adm = d.adm := by
  obtain ⟨_, _, _, h⟩ := raiseEvent_shape i d; rw [h]
@[simp] theorem raiseEvent_shelf (i : Nat) (d : Dev) : (raiseEvent i d).shelf = d.shelf := by
  obtain ⟨_, _, _, h⟩ := raiseEvent_shape i d; rw [h]
@[simp] theorem raiseEvent_host (i : Nat) (d : Dev) : (raiseEvent i d).host = d.host := by
  obtain ⟨_, _, _, h⟩ := raiseEvent_shape i d; rw [h]
@[simp] theorem raiseEvent_net (i : Nat) (d : Dev) : (raiseEvent i d).net = d.net := by
  obtain ⟨_, _, _, h⟩ := raiseEvent_shape i d; rw [h]
@[simp] theorem raiseEvent_cove (i : Nat) (d : Dev) : (raiseEvent i d).cove = d.cove := by
  obtain ⟨_, _, _, h⟩ := raiseEvent_shape i d; rw [h]
@[simp] theorem raiseEvent_keys (i : Nat) (d : Dev) : (raiseEvent i d).keys = d.keys := by
  obtain ⟨_, _, _, h⟩ := raiseEvent_shape i d; rw [h]
@[simp] theorem raiseEvent_light (i : Nat) (d : Dev) : (raiseEvent i d).light = d.light := by
  obtain ⟨_, _, _, h⟩ := raiseEvent_shape i d; rw [h]
@[simp] theorem raiseEvent_tline (i : Nat) (d : Dev) : (raiseEvent i d).tline = d.tline := by
  obtain ⟨_, _, _, h⟩ := raiseEvent_shape i d; rw [h]
@[simp] theorem raiseEvent_bay (i : Nat) (d : Dev) : (raiseEvent i d).bay = d.bay := by
  obtain ⟨_, _, _, h⟩ := raiseEvent_shape i d; rw [h]
@[simp] theorem raiseEvent_path (i : Nat) (d : Dev) : (raiseEvent i d).path = d.path := by
  obtain ⟨_, _, _, h⟩ := raiseEvent_shape i d; rw [h]
@[simp] theorem raiseEvent_readData (i : Nat) (d : Dev) : (raiseEvent i d).readData = d.readData := by
  obtain ⟨_, _, _, h⟩ := raiseEvent_shape i d; rw [h]
@[simp] theorem raiseEvent_readBytes (i : Nat) (d : Dev) : (raiseEvent i d).readBytes = d.readBytes := by
  obtain ⟨_, _, _, h⟩ := raiseEvent_shape i d; rw [h]
@[simp] theorem raiseEvent_draws (i : Nat) (d : Dev) : (raiseEvent i d).draws = d.draws := by
  obtain ⟨_, _, _, h⟩ := raiseEvent_shape i d; rw [h]

@[simp] theorem raiseCove_ev (c i : Nat) (d : Dev) : (raiseCove c i d).ev = d.ev := by
  obtain ⟨_, _, _, h⟩ := raiseCove_shape c i d; rw [h]
@[simp] theorem raiseCove_perf (c i : Nat) (d : Dev) : (raiseCove c i d).perf = d.perf := by
  obtain ⟨_, _, _, h⟩ := raiseCove_shape c i d; rw [h]
@[simp] theorem raiseCove_chart (c i : Nat) (d : Dev) : (raiseCove c i d).chart = d.chart := by
  obtain ⟨_, _, _, h⟩ := raiseCove_shape c i d; rw [h]
@[simp] theorem raiseCove_clk (c i : Nat) (d : Dev) : (raiseCove c i d).clk = d.clk := by
  obtain ⟨_, _, _, h⟩ := raiseCove_shape c i d; rw [h]
@[simp] theorem raiseCove_sched (c i : Nat) (d : Dev) : (raiseCove c i d).sched = d.sched := by
  obtain ⟨_, _, _, h⟩ := raiseCove_shape c i d; rw [h]
@[simp] theorem raiseCove_prism (c i : Nat) (d : Dev) : (raiseCove c i d).prism = d.prism := by
  obtain ⟨_, _, _, h⟩ := raiseCove_shape c i d; rw [h]
@[simp] theorem raiseCove_boot (c i : Nat) (d : Dev) : (raiseCove c i d).boot = d.boot := by
  obtain ⟨_, _, _, h⟩ := raiseCove_shape c i d; rw [h]
@[simp] theorem raiseCove_pair (c i : Nat) (d : Dev) : (raiseCove c i d).pair = d.pair := by
  obtain ⟨_, _, _, h⟩ := raiseCove_shape c i d; rw [h]
@[simp] theorem raiseCove_pool (c i : Nat) (d : Dev) : (raiseCove c i d).pool = d.pool := by
  obtain ⟨_, _, _, h⟩ := raiseCove_shape c i d; rw [h]
@[simp] theorem raiseCove_str (c i : Nat) (d : Dev) : (raiseCove c i d).str = d.str := by
  obtain ⟨_, _, _, h⟩ := raiseCove_shape c i d; rw [h]
@[simp] theorem raiseCove_adm (c i : Nat) (d : Dev) : (raiseCove c i d).adm = d.adm := by
  obtain ⟨_, _, _, h⟩ := raiseCove_shape c i d; rw [h]
@[simp] theorem raiseCove_shelf (c i : Nat) (d : Dev) : (raiseCove c i d).shelf = d.shelf := by
  obtain ⟨_, _, _, h⟩ := raiseCove_shape c i d; rw [h]
@[simp] theorem raiseCove_host (c i : Nat) (d : Dev) : (raiseCove c i d).host = d.host := by
  obtain ⟨_, _, _, h⟩ := raiseCove_shape c i d; rw [h]
@[simp] theorem raiseCove_net (c i : Nat) (d : Dev) : (raiseCove c i d).net = d.net := by
  obtain ⟨_, _, _, h⟩ := raiseCove_shape c i d; rw [h]
@[simp] theorem raiseCove_keys (c i : Nat) (d : Dev) : (raiseCove c i d).keys = d.keys := by
  obtain ⟨_, _, _, h⟩ := raiseCove_shape c i d; rw [h]
@[simp] theorem raiseCove_light (c i : Nat) (d : Dev) : (raiseCove c i d).light = d.light := by
  obtain ⟨_, _, _, h⟩ := raiseCove_shape c i d; rw [h]
@[simp] theorem raiseCove_tline (c i : Nat) (d : Dev) : (raiseCove c i d).tline = d.tline := by
  obtain ⟨_, _, _, h⟩ := raiseCove_shape c i d; rw [h]
@[simp] theorem raiseCove_bay (c i : Nat) (d : Dev) : (raiseCove c i d).bay = d.bay := by
  obtain ⟨_, _, _, h⟩ := raiseCove_shape c i d; rw [h]
@[simp] theorem raiseCove_path (c i : Nat) (d : Dev) : (raiseCove c i d).path = d.path := by
  obtain ⟨_, _, _, h⟩ := raiseCove_shape c i d; rw [h]
@[simp] theorem raiseCove_readData (c i : Nat) (d : Dev) : (raiseCove c i d).readData = d.readData := by
  obtain ⟨_, _, _, h⟩ := raiseCove_shape c i d; rw [h]
@[simp] theorem raiseCove_readBytes (c i : Nat) (d : Dev) : (raiseCove c i d).readBytes = d.readBytes := by
  obtain ⟨_, _, _, h⟩ := raiseCove_shape c i d; rw [h]
@[simp] theorem raiseCove_draws (c i : Nat) (d : Dev) : (raiseCove c i d).draws = d.draws := by
  obtain ⟨_, _, _, h⟩ := raiseCove_shape c i d; rw [h]

@[simp] theorem setStep_ev (n : Nat) (d : Dev) : (setStep n d).ev = d.ev := by
  obtain ⟨_, _, _, _, h⟩ := setStep_shape n d; rw [h]
@[simp] theorem setStep_perf (n : Nat) (d : Dev) : (setStep n d).perf = d.perf := by
  obtain ⟨_, _, _, _, h⟩ := setStep_shape n d; rw [h]
@[simp] theorem setStep_chart (n : Nat) (d : Dev) : (setStep n d).chart = d.chart := by
  obtain ⟨_, _, _, _, h⟩ := setStep_shape n d; rw [h]
@[simp] theorem setStep_clk (n : Nat) (d : Dev) : (setStep n d).clk = d.clk := by
  obtain ⟨_, _, _, _, h⟩ := setStep_shape n d; rw [h]
@[simp] theorem setStep_sched (n : Nat) (d : Dev) : (setStep n d).sched = d.sched := by
  obtain ⟨_, _, _, _, h⟩ := setStep_shape n d; rw [h]
@[simp] theorem setStep_prism (n : Nat) (d : Dev) : (setStep n d).prism = d.prism := by
  obtain ⟨_, _, _, _, h⟩ := setStep_shape n d; rw [h]
@[simp] theorem setStep_pair (n : Nat) (d : Dev) : (setStep n d).pair = d.pair := by
  obtain ⟨_, _, _, _, h⟩ := setStep_shape n d; rw [h]
@[simp] theorem setStep_pool (n : Nat) (d : Dev) : (setStep n d).pool = d.pool := by
  obtain ⟨_, _, _, _, h⟩ := setStep_shape n d; rw [h]
@[simp] theorem setStep_str (n : Nat) (d : Dev) : (setStep n d).str = d.str := by
  obtain ⟨_, _, _, _, h⟩ := setStep_shape n d; rw [h]
@[simp] theorem setStep_adm (n : Nat) (d : Dev) : (setStep n d).adm = d.adm := by
  obtain ⟨_, _, _, _, h⟩ := setStep_shape n d; rw [h]
@[simp] theorem setStep_shelf (n : Nat) (d : Dev) : (setStep n d).shelf = d.shelf := by
  obtain ⟨_, _, _, _, h⟩ := setStep_shape n d; rw [h]
@[simp] theorem setStep_host (n : Nat) (d : Dev) : (setStep n d).host = d.host := by
  obtain ⟨_, _, _, _, h⟩ := setStep_shape n d; rw [h]
@[simp] theorem setStep_net (n : Nat) (d : Dev) : (setStep n d).net = d.net := by
  obtain ⟨_, _, _, _, h⟩ := setStep_shape n d; rw [h]
@[simp] theorem setStep_cove (n : Nat) (d : Dev) : (setStep n d).cove = d.cove := by
  obtain ⟨_, _, _, _, h⟩ := setStep_shape n d; rw [h]
@[simp] theorem setStep_keys (n : Nat) (d : Dev) : (setStep n d).keys = d.keys := by
  obtain ⟨_, _, _, _, h⟩ := setStep_shape n d; rw [h]
@[simp] theorem setStep_light (n : Nat) (d : Dev) : (setStep n d).light = d.light := by
  obtain ⟨_, _, _, _, h⟩ := setStep_shape n d; rw [h]
@[simp] theorem setStep_tline (n : Nat) (d : Dev) : (setStep n d).tline = d.tline := by
  obtain ⟨_, _, _, _, h⟩ := setStep_shape n d; rw [h]
@[simp] theorem setStep_bay (n : Nat) (d : Dev) : (setStep n d).bay = d.bay := by
  obtain ⟨_, _, _, _, h⟩ := setStep_shape n d; rw [h]
@[simp] theorem setStep_path (n : Nat) (d : Dev) : (setStep n d).path = d.path := by
  obtain ⟨_, _, _, _, h⟩ := setStep_shape n d; rw [h]
@[simp] theorem setStep_readData (n : Nat) (d : Dev) : (setStep n d).readData = d.readData := by
  obtain ⟨_, _, _, _, h⟩ := setStep_shape n d; rw [h]
@[simp] theorem setStep_readBytes (n : Nat) (d : Dev) : (setStep n d).readBytes = d.readBytes := by
  obtain ⟨_, _, _, _, h⟩ := setStep_shape n d; rw [h]
@[simp] theorem setStep_draws (n : Nat) (d : Dev) : (setStep n d).draws = d.draws := by
  obtain ⟨_, _, _, _, h⟩ := setStep_shape n d; rw [h]

@[simp] theorem judgeAlert_ev (d : Dev) : (judgeAlert d).ev = d.ev := by
  obtain ⟨_, _, _, _, h⟩ := judgeAlert_shape  d; rw [h]
@[simp] theorem judgeAlert_perf (d : Dev) : (judgeAlert d).perf = d.perf := by
  obtain ⟨_, _, _, _, h⟩ := judgeAlert_shape  d; rw [h]
@[simp] theorem judgeAlert_chart (d : Dev) : (judgeAlert d).chart = d.chart := by
  obtain ⟨_, _, _, _, h⟩ := judgeAlert_shape  d; rw [h]
@[simp] theorem judgeAlert_clk (d : Dev) : (judgeAlert d).clk = d.clk := by
  obtain ⟨_, _, _, _, h⟩ := judgeAlert_shape  d; rw [h]
@[simp] theorem judgeAlert_sched (d : Dev) : (judgeAlert d).sched = d.sched := by
  obtain ⟨_, _, _, _, h⟩ := judgeAlert_shape  d; rw [h]
@[simp] theorem judgeAlert_prism (d : Dev) : (judgeAlert d).prism = d.prism := by
  obtain ⟨_, _, _, _, h⟩ := judgeAlert_shape  d; rw [h]
@[simp] theorem judgeAlert_boot (d : Dev) : (judgeAlert d).boot = d.boot := by
  obtain ⟨_, _, _, _, h⟩ := judgeAlert_shape  d; rw [h]
@[simp] theorem judgeAlert_pair (d : Dev) : (judgeAlert d).pair = d.pair := by
  obtain ⟨_, _, _, _, h⟩ := judgeAlert_shape  d; rw [h]
@[simp] theorem judgeAlert_pool (d : Dev) : (judgeAlert d).pool = d.pool := by
  obtain ⟨_, _, _, _, h⟩ := judgeAlert_shape  d; rw [h]
@[simp] theorem judgeAlert_str (d : Dev) : (judgeAlert d).str = d.str := by
  obtain ⟨_, _, _, _, h⟩ := judgeAlert_shape  d; rw [h]
@[simp] theorem judgeAlert_adm (d : Dev) : (judgeAlert d).adm = d.adm := by
  obtain ⟨_, _, _, _, h⟩ := judgeAlert_shape  d; rw [h]
@[simp] theorem judgeAlert_shelf (d : Dev) : (judgeAlert d).shelf = d.shelf := by
  obtain ⟨_, _, _, _, h⟩ := judgeAlert_shape  d; rw [h]
@[simp] theorem judgeAlert_host (d : Dev) : (judgeAlert d).host = d.host := by
  obtain ⟨_, _, _, _, h⟩ := judgeAlert_shape  d; rw [h]
@[simp] theorem judgeAlert_net (d : Dev) : (judgeAlert d).net = d.net := by
  obtain ⟨_, _, _, _, h⟩ := judgeAlert_shape  d; rw [h]
@[simp] theorem judgeAlert_cove (d : Dev) : (judgeAlert d).cove = d.cove := by
  obtain ⟨_, _, _, _, h⟩ := judgeAlert_shape  d; rw [h]
@[simp] theorem judgeAlert_keys (d : Dev) : (judgeAlert d).keys = d.keys := by
  obtain ⟨_, _, _, _, h⟩ := judgeAlert_shape  d; rw [h]
@[simp] theorem judgeAlert_light (d : Dev) : (judgeAlert d).light = d.light := by
  obtain ⟨_, _, _, _, h⟩ := judgeAlert_shape  d; rw [h]
@[simp] theorem judgeAlert_tline (d : Dev) : (judgeAlert d).tline = d.tline := by
  obtain ⟨_, _, _, _, h⟩ := judgeAlert_shape  d; rw [h]
@[simp] theorem judgeAlert_bay (d : Dev) : (judgeAlert d).bay = d.bay := by
  obtain ⟨_, _, _, _, h⟩ := judgeAlert_shape  d; rw [h]
@[simp] theorem judgeAlert_path (d : Dev) : (judgeAlert d).path = d.path := by
  obtain ⟨_, _, _, _, h⟩ := judgeAlert_shape  d; rw [h]
@[simp] theorem judgeAlert_readData (d : Dev) : (judgeAlert d).readData = d.readData := by
  obtain ⟨_, _, _, _, h⟩ := judgeAlert_shape  d; rw [h]
@[simp] theorem judgeAlert_readBytes (d : Dev) : (judgeAlert d).readBytes = d.readBytes := by
  obtain ⟨_, _, _, _, h⟩ := judgeAlert_shape  d; rw [h]
@[simp] theorem judgeAlert_draws (d : Dev) : (judgeAlert d).draws = d.draws := by
  obtain ⟨_, _, _, _, h⟩ := judgeAlert_shape  d; rw [h]

@[simp] theorem judgeService_ev (d : Dev) : (judgeService d).ev = d.ev := by
  obtain ⟨_, _, _, _, h⟩ := judgeService_shape  d; rw [h]
@[simp] theorem judgeService_perf (d : Dev) : (judgeService d).perf = d.perf := by
  obtain ⟨_, _, _, _, h⟩ := judgeService_shape  d; rw [h]
@[simp] theorem judgeService_chart (d : Dev) : (judgeService d).chart = d.chart := by
  obtain ⟨_, _, _, _, h⟩ := judgeService_shape  d; rw [h]
@[simp] theorem judgeService_clk (d : Dev) : (judgeService d).clk = d.clk := by
  obtain ⟨_, _, _, _, h⟩ := judgeService_shape  d; rw [h]
@[simp] theorem judgeService_sched (d : Dev) : (judgeService d).sched = d.sched := by
  obtain ⟨_, _, _, _, h⟩ := judgeService_shape  d; rw [h]
@[simp] theorem judgeService_prism (d : Dev) : (judgeService d).prism = d.prism := by
  obtain ⟨_, _, _, _, h⟩ := judgeService_shape  d; rw [h]
@[simp] theorem judgeService_boot (d : Dev) : (judgeService d).boot = d.boot := by
  obtain ⟨_, _, _, _, h⟩ := judgeService_shape  d; rw [h]
@[simp] theorem judgeService_pair (d : Dev) : (judgeService d).pair = d.pair := by
  obtain ⟨_, _, _, _, h⟩ := judgeService_shape  d; rw [h]
@[simp] theorem judgeService_pool (d : Dev) : (judgeService d).pool = d.pool := by
  obtain ⟨_, _, _, _, h⟩ := judgeService_shape  d; rw [h]
@[simp] theorem judgeService_str (d : Dev) : (judgeService d).str = d.str := by
  obtain ⟨_, _, _, _, h⟩ := judgeService_shape  d; rw [h]
@[simp] theorem judgeService_adm (d : Dev) : (judgeService d).adm = d.adm := by
  obtain ⟨_, _, _, _, h⟩ := judgeService_shape  d; rw [h]
@[simp] theorem judgeService_shelf (d : Dev) : (judgeService d).shelf = d.shelf := by
  obtain ⟨_, _, _, _, h⟩ := judgeService_shape  d; rw [h]
@[simp] theorem judgeService_host (d : Dev) : (judgeService d).host = d.host := by
  obtain ⟨_, _, _, _, h⟩ := judgeService_shape  d; rw [h]
@[simp] theorem judgeService_net (d : Dev) : (judgeService d).net = d.net := by
  obtain ⟨_, _, _, _, h⟩ := judgeService_shape  d; rw [h]
@[simp] theorem judgeService_cove (d : Dev) : (judgeService d).cove = d.cove := by
  obtain ⟨_, _, _, _, h⟩ := judgeService_shape  d; rw [h]
@[simp] theorem judgeService_keys (d : Dev) : (judgeService d).keys = d.keys := by
  obtain ⟨_, _, _, _, h⟩ := judgeService_shape  d; rw [h]
@[simp] theorem judgeService_light (d : Dev) : (judgeService d).light = d.light := by
  obtain ⟨_, _, _, _, h⟩ := judgeService_shape  d; rw [h]
@[simp] theorem judgeService_tline (d : Dev) : (judgeService d).tline = d.tline := by
  obtain ⟨_, _, _, _, h⟩ := judgeService_shape  d; rw [h]
@[simp] theorem judgeService_bay (d : Dev) : (judgeService d).bay = d.bay := by
  obtain ⟨_, _, _, _, h⟩ := judgeService_shape  d; rw [h]
@[simp] theorem judgeService_path (d : Dev) : (judgeService d).path = d.path := by
  obtain ⟨_, _, _, _, h⟩ := judgeService_shape  d; rw [h]
@[simp] theorem judgeService_readData (d : Dev) : (judgeService d).readData = d.readData := by
  obtain ⟨_, _, _, _, h⟩ := judgeService_shape  d; rw [h]
@[simp] theorem judgeService_readBytes (d : Dev) : (judgeService d).readBytes = d.readBytes := by
  obtain ⟨_, _, _, _, h⟩ := judgeService_shape  d; rw [h]
@[simp] theorem judgeService_draws (d : Dev) : (judgeService d).draws = d.draws := by
  obtain ⟨_, _, _, _, h⟩ := judgeService_shape  d; rw [h]

@[simp] theorem wake_ev (d : Dev) : (wake d).ev = d.ev := by
  obtain ⟨_, _, _, _, _, _, h⟩ := wake_shape  d; rw [h]
@[simp] theorem wake_perf (d : Dev) : (wake d).perf = d.perf := by
  obtain ⟨_, _, _, _, _, _, h⟩ := wake_shape  d; rw [h]
@[simp] theorem wake_chart (d : Dev) : (wake d).chart = d.chart := by
  obtain ⟨_, _, _, _, _, _, h⟩ := wake_shape  d; rw [h]
@[simp] theorem wake_clk (d : Dev) : (wake d).clk = d.clk := by
  obtain ⟨_, _, _, _, _, _, h⟩ := wake_shape  d; rw [h]
@[simp] theorem wake_sched (d : Dev) : (wake d).sched = d.sched := by
  obtain ⟨_, _, _, _, _, _, h⟩ := wake_shape  d; rw [h]
@[simp] theorem wake_prism (d : Dev) : (wake d).prism = d.prism := by
  obtain ⟨_, _, _, _, _, _, h⟩ := wake_shape  d; rw [h]
@[simp] theorem wake_boot (d : Dev) : (wake d).boot = d.boot := by
  obtain ⟨_, _, _, _, _, _, h⟩ := wake_shape  d; rw [h]
@[simp] theorem wake_pair (d : Dev) : (wake d).pair = d.pair := by
  obtain ⟨_, _, _, _, _, _, h⟩ := wake_shape  d; rw [h]
@[simp] theorem wake_pool (d : Dev) : (wake d).pool = d.pool := by
  obtain ⟨_, _, _, _, _, _, h⟩ := wake_shape  d; rw [h]
@[simp] theorem wake_str (d : Dev) : (wake d).str = d.str := by
  obtain ⟨_, _, _, _, _, _, h⟩ := wake_shape  d; rw [h]
@[simp] theorem wake_adm (d : Dev) : (wake d).adm = d.adm := by
  obtain ⟨_, _, _, _, _, _, h⟩ := wake_shape  d; rw [h]
@[simp] theorem wake_shelf (d : Dev) : (wake d).shelf = d.shelf := by
  obtain ⟨_, _, _, _, _, _, h⟩ := wake_shape  d; rw [h]
@[simp] theorem wake_net (d : Dev) : (wake d).net = d.net := by
  obtain ⟨_, _, _, _, _, _, h⟩ := wake_shape  d; rw [h]
@[simp] theorem wake_cove (d : Dev) : (wake d).cove = d.cove := by
  obtain ⟨_, _, _, _, _, _, h⟩ := wake_shape  d; rw [h]
@[simp] theorem wake_keys (d : Dev) : (wake d).keys = d.keys := by
  obtain ⟨_, _, _, _, _, _, h⟩ := wake_shape  d; rw [h]
@[simp] theorem wake_light (d : Dev) : (wake d).light = d.light := by
  obtain ⟨_, _, _, _, _, _, h⟩ := wake_shape  d; rw [h]
@[simp] theorem wake_tline (d : Dev) : (wake d).tline = d.tline := by
  obtain ⟨_, _, _, _, _, _, h⟩ := wake_shape  d; rw [h]
@[simp] theorem wake_bay (d : Dev) : (wake d).bay = d.bay := by
  obtain ⟨_, _, _, _, _, _, h⟩ := wake_shape  d; rw [h]
@[simp] theorem wake_path (d : Dev) : (wake d).path = d.path := by
  obtain ⟨_, _, _, _, _, _, h⟩ := wake_shape  d; rw [h]
@[simp] theorem wake_readData (d : Dev) : (wake d).readData = d.readData := by
  obtain ⟨_, _, _, _, _, _, h⟩ := wake_shape  d; rw [h]
@[simp] theorem wake_readBytes (d : Dev) : (wake d).readBytes = d.readBytes := by
  obtain ⟨_, _, _, _, _, _, h⟩ := wake_shape  d; rw [h]
@[simp] theorem wake_draws (d : Dev) : (wake d).draws = d.draws := by
  obtain ⟨_, _, _, _, _, _, h⟩ := wake_shape  d; rw [h]

@[simp] theorem flushEvents_perf (d : Dev) : (flushEvents d).perf = d.perf := by
  obtain ⟨_, _, _, h⟩ := flushEvents_shape  d; rw [h]
@[simp] theorem flushEvents_chart (d : Dev) : (flushEvents d).chart = d.chart := by
  obtain ⟨_, _, _, h⟩ := flushEvents_shape  d; rw [h]
@[simp] theorem flushEvents_clk (d : Dev) : (flushEvents d).clk = d.clk := by
  obtain ⟨_, _, _, h⟩ := flushEvents_shape  d; rw [h]
@[simp] theorem flushEvents_sched (d : Dev) : (flushEvents d).sched = d.sched := by
  obtain ⟨_, _, _, h⟩ := flushEvents_shape  d; rw [h]
@[simp] theorem flushEvents_prism (d : Dev) : (flushEvents d).prism = d.prism := by
  obtain ⟨_, _, _, h⟩ := flushEvents_shape  d; rw [h]
@[simp] theorem flushEvents_boot (d : Dev) : (flushEvents d).boot = d.boot := by
  obtain ⟨_, _, _, h⟩ := flushEvents_shape  d; rw [h]
@[simp] theorem flushEvents_pair (d : Dev) : (flushEvents d).pair = d.pair := by
  obtain ⟨_, _, _, h⟩ := flushEvents_shape  d; rw [h]
@[simp] theorem flushEvents_pool (d : Dev) : (flushEvents d).pool = d.pool := by
  obtain ⟨_, _, _, h⟩ := flushEvents_shape  d; rw [h]
@[simp] theorem flushEvents_str (d : Dev) : (flushEvents d).str = d.str := by
  obtain ⟨_, _, _, h⟩ := flushEvents_shape  d; rw [h]
@[simp] theorem flushEvents_adm (d : Dev) : (flushEvents d).adm = d.adm := by
  obtain ⟨_, _, _, h⟩ := flushEvents_shape  d; rw [h]
@[simp] theorem flushEvents_shelf (d : Dev) : (flushEvents d).shelf = d.shelf := by
  obtain ⟨_, _, _, h⟩ := flushEvents_shape  d; rw [h]
@[simp] theorem flushEvents_host (d : Dev) : (flushEvents d).host = d.host := by
  obtain ⟨_, _, _, h⟩ := flushEvents_shape  d; rw [h]
@[simp] theorem flushEvents_net (d : Dev) : (flushEvents d).net = d.net := by
  obtain ⟨_, _, _, h⟩ := flushEvents_shape  d; rw [h]
@[simp] theorem flushEvents_cove (d : Dev) : (flushEvents d).cove = d.cove := by
  obtain ⟨_, _, _, h⟩ := flushEvents_shape  d; rw [h]
@[simp] theorem flushEvents_keys (d : Dev) : (flushEvents d).keys = d.keys := by
  obtain ⟨_, _, _, h⟩ := flushEvents_shape  d; rw [h]
@[simp] theorem flushEvents_light (d : Dev) : (flushEvents d).light = d.light := by
  obtain ⟨_, _, _, h⟩ := flushEvents_shape  d; rw [h]
@[simp] theorem flushEvents_tline (d : Dev) : (flushEvents d).tline = d.tline := by
  obtain ⟨_, _, _, h⟩ := flushEvents_shape  d; rw [h]
@[simp] theorem flushEvents_bay (d : Dev) : (flushEvents d).bay = d.bay := by
  obtain ⟨_, _, _, h⟩ := flushEvents_shape  d; rw [h]
@[simp] theorem flushEvents_path (d : Dev) : (flushEvents d).path = d.path := by
  obtain ⟨_, _, _, h⟩ := flushEvents_shape  d; rw [h]
@[simp] theorem flushEvents_readData (d : Dev) : (flushEvents d).readData = d.readData := by
  obtain ⟨_, _, _, h⟩ := flushEvents_shape  d; rw [h]
@[simp] theorem flushEvents_readBytes (d : Dev) : (flushEvents d).readBytes = d.readBytes := by
  obtain ⟨_, _, _, h⟩ := flushEvents_shape  d; rw [h]
@[simp] theorem flushEvents_draws (d : Dev) : (flushEvents d).draws = d.draws := by
  obtain ⟨_, _, _, h⟩ := flushEvents_shape  d; rw [h]

@[simp] theorem loseEvent_perf (d : Dev) : (loseEvent d).perf = d.perf := by
  obtain ⟨_, _, _, _, h⟩ := loseEvent_shape  d; rw [h]
@[simp] theorem loseEvent_chart (d : Dev) : (loseEvent d).chart = d.chart := by
  obtain ⟨_, _, _, _, h⟩ := loseEvent_shape  d; rw [h]
@[simp] theorem loseEvent_clk (d : Dev) : (loseEvent d).clk = d.clk := by
  obtain ⟨_, _, _, _, h⟩ := loseEvent_shape  d; rw [h]
@[simp] theorem loseEvent_sched (d : Dev) : (loseEvent d).sched = d.sched := by
  obtain ⟨_, _, _, _, h⟩ := loseEvent_shape  d; rw [h]
@[simp] theorem loseEvent_prism (d : Dev) : (loseEvent d).prism = d.prism := by
  obtain ⟨_, _, _, _, h⟩ := loseEvent_shape  d; rw [h]
@[simp] theorem loseEvent_boot (d : Dev) : (loseEvent d).boot = d.boot := by
  obtain ⟨_, _, _, _, h⟩ := loseEvent_shape  d; rw [h]
@[simp] theorem loseEvent_pair (d : Dev) : (loseEvent d).pair = d.pair := by
  obtain ⟨_, _, _, _, h⟩ := loseEvent_shape  d; rw [h]
@[simp] theorem loseEvent_pool (d : Dev) : (loseEvent d).pool = d.pool := by
  obtain ⟨_, _, _, _, h⟩ := loseEvent_shape  d; rw [h]
@[simp] theorem loseEvent_str (d : Dev) : (loseEvent d).str = d.str := by
  obtain ⟨_, _, _, _, h⟩ := loseEvent_shape  d; rw [h]
@[simp] theorem loseEvent_adm (d : Dev) : (loseEvent d).adm = d.adm := by
  obtain ⟨_, _, _, _, h⟩ := loseEvent_shape  d; rw [h]
@[simp] theorem loseEvent_shelf (d : Dev) : (loseEvent d).shelf = d.shelf := by
  obtain ⟨_, _, _, _, h⟩ := loseEvent_shape  d; rw [h]
@[simp] theorem loseEvent_host (d : Dev) : (loseEvent d).host = d.host := by
  obtain ⟨_, _, _, _, h⟩ := loseEvent_shape  d; rw [h]
@[simp] theorem loseEvent_net (d : Dev) : (loseEvent d).net = d.net := by
  obtain ⟨_, _, _, _, h⟩ := loseEvent_shape  d; rw [h]
@[simp] theorem loseEvent_cove (d : Dev) : (loseEvent d).cove = d.cove := by
  obtain ⟨_, _, _, _, h⟩ := loseEvent_shape  d; rw [h]
@[simp] theorem loseEvent_keys (d : Dev) : (loseEvent d).keys = d.keys := by
  obtain ⟨_, _, _, _, h⟩ := loseEvent_shape  d; rw [h]
@[simp] theorem loseEvent_light (d : Dev) : (loseEvent d).light = d.light := by
  obtain ⟨_, _, _, _, h⟩ := loseEvent_shape  d; rw [h]
@[simp] theorem loseEvent_tline (d : Dev) : (loseEvent d).tline = d.tline := by
  obtain ⟨_, _, _, _, h⟩ := loseEvent_shape  d; rw [h]
@[simp] theorem loseEvent_bay (d : Dev) : (loseEvent d).bay = d.bay := by
  obtain ⟨_, _, _, _, h⟩ := loseEvent_shape  d; rw [h]
@[simp] theorem loseEvent_path (d : Dev) : (loseEvent d).path = d.path := by
  obtain ⟨_, _, _, _, h⟩ := loseEvent_shape  d; rw [h]
@[simp] theorem loseEvent_readData (d : Dev) : (loseEvent d).readData = d.readData := by
  obtain ⟨_, _, _, _, h⟩ := loseEvent_shape  d; rw [h]
@[simp] theorem loseEvent_readBytes (d : Dev) : (loseEvent d).readBytes = d.readBytes := by
  obtain ⟨_, _, _, _, h⟩ := loseEvent_shape  d; rw [h]
@[simp] theorem loseEvent_draws (d : Dev) : (loseEvent d).draws = d.draws := by
  obtain ⟨_, _, _, _, h⟩ := loseEvent_shape  d; rw [h]

@[simp] theorem enterEvent_perf (r : EventRec) (n : Nat) (d : Dev) : (enterEvent r n d).perf = d.perf := by
  obtain ⟨_, _, _, h⟩ := enterEvent_shape r n d; rw [h]
@[simp] theorem enterEvent_chart (r : EventRec) (n : Nat) (d : Dev) : (enterEvent r n d).chart = d.chart := by
  obtain ⟨_, _, _, h⟩ := enterEvent_shape r n d; rw [h]
@[simp] theorem enterEvent_clk (r : EventRec) (n : Nat) (d : Dev) : (enterEvent r n d).clk = d.clk := by
  obtain ⟨_, _, _, h⟩ := enterEvent_shape r n d; rw [h]
@[simp] theorem enterEvent_sched (r : EventRec) (n : Nat) (d : Dev) : (enterEvent r n d).sched = d.sched := by
  obtain ⟨_, _, _, h⟩ := enterEvent_shape r n d; rw [h]
@[simp] theorem enterEvent_prism (r : EventRec) (n : Nat) (d : Dev) : (enterEvent r n d).prism = d.prism := by
  obtain ⟨_, _, _, h⟩ := enterEvent_shape r n d; rw [h]
@[simp] theorem enterEvent_boot (r : EventRec) (n : Nat) (d : Dev) : (enterEvent r n d).boot = d.boot := by
  obtain ⟨_, _, _, h⟩ := enterEvent_shape r n d; rw [h]
@[simp] theorem enterEvent_pair (r : EventRec) (n : Nat) (d : Dev) : (enterEvent r n d).pair = d.pair := by
  obtain ⟨_, _, _, h⟩ := enterEvent_shape r n d; rw [h]
@[simp] theorem enterEvent_pool (r : EventRec) (n : Nat) (d : Dev) : (enterEvent r n d).pool = d.pool := by
  obtain ⟨_, _, _, h⟩ := enterEvent_shape r n d; rw [h]
@[simp] theorem enterEvent_str (r : EventRec) (n : Nat) (d : Dev) : (enterEvent r n d).str = d.str := by
  obtain ⟨_, _, _, h⟩ := enterEvent_shape r n d; rw [h]
@[simp] theorem enterEvent_adm (r : EventRec) (n : Nat) (d : Dev) : (enterEvent r n d).adm = d.adm := by
  obtain ⟨_, _, _, h⟩ := enterEvent_shape r n d; rw [h]
@[simp] theorem enterEvent_shelf (r : EventRec) (n : Nat) (d : Dev) : (enterEvent r n d).shelf = d.shelf := by
  obtain ⟨_, _, _, h⟩ := enterEvent_shape r n d; rw [h]
@[simp] theorem enterEvent_host (r : EventRec) (n : Nat) (d : Dev) : (enterEvent r n d).host = d.host := by
  obtain ⟨_, _, _, h⟩ := enterEvent_shape r n d; rw [h]
@[simp] theorem enterEvent_net (r : EventRec) (n : Nat) (d : Dev) : (enterEvent r n d).net = d.net := by
  obtain ⟨_, _, _, h⟩ := enterEvent_shape r n d; rw [h]
@[simp] theorem enterEvent_cove (r : EventRec) (n : Nat) (d : Dev) : (enterEvent r n d).cove = d.cove := by
  obtain ⟨_, _, _, h⟩ := enterEvent_shape r n d; rw [h]
@[simp] theorem enterEvent_keys (r : EventRec) (n : Nat) (d : Dev) : (enterEvent r n d).keys = d.keys := by
  obtain ⟨_, _, _, h⟩ := enterEvent_shape r n d; rw [h]
@[simp] theorem enterEvent_light (r : EventRec) (n : Nat) (d : Dev) : (enterEvent r n d).light = d.light := by
  obtain ⟨_, _, _, h⟩ := enterEvent_shape r n d; rw [h]
@[simp] theorem enterEvent_tline (r : EventRec) (n : Nat) (d : Dev) : (enterEvent r n d).tline = d.tline := by
  obtain ⟨_, _, _, h⟩ := enterEvent_shape r n d; rw [h]
@[simp] theorem enterEvent_bay (r : EventRec) (n : Nat) (d : Dev) : (enterEvent r n d).bay = d.bay := by
  obtain ⟨_, _, _, h⟩ := enterEvent_shape r n d; rw [h]
@[simp] theorem enterEvent_path (r : EventRec) (n : Nat) (d : Dev) : (enterEvent r n d).path = d.path := by
  obtain ⟨_, _, _, h⟩ := enterEvent_shape r n d; rw [h]
@[simp] theorem enterEvent_readData (r : EventRec) (n : Nat) (d : Dev) : (enterEvent r n d).readData = d.readData := by
  obtain ⟨_, _, _, h⟩ := enterEvent_shape r n d; rw [h]
@[simp] theorem enterEvent_readBytes (r : EventRec) (n : Nat) (d : Dev) : (enterEvent r n d).readBytes = d.readBytes := by
  obtain ⟨_, _, _, h⟩ := enterEvent_shape r n d; rw [h]
@[simp] theorem enterEvent_draws (r : EventRec) (n : Nat) (d : Dev) : (enterEvent r n d).draws = d.draws := by
  obtain ⟨_, _, _, h⟩ := enterEvent_shape r n d; rw [h]

@[simp] theorem logRec_perf (r : EventRec) (d : Dev) : (logRec r d).perf = d.perf := by
  obtain ⟨_, _, _, h⟩ := logRec_shape r d; rw [h]
@[simp] theorem logRec_chart (r : EventRec) (d : Dev) : (logRec r d).chart = d.chart := by
  obtain ⟨_, _, _, h⟩ := logRec_shape r d; rw [h]
@[simp] theorem logRec_clk (r : EventRec) (d : Dev) : (logRec r d).clk = d.clk := by
  obtain ⟨_, _, _, h⟩ := logRec_shape r d; rw [h]
@[simp] theorem logRec_sched (r : EventRec) (d : Dev) : (logRec r d).sched = d.sched := by
  obtain ⟨_, _, _, h⟩ := logRec_shape r d; rw [h]
@[simp] theorem logRec_prism (r : EventRec) (d : Dev) : (logRec r d).prism = d.prism := by
  obtain ⟨_, _, _, h⟩ := logRec_shape r d; rw [h]
@[simp] theorem logRec_boot (r : EventRec) (d : Dev) : (logRec r d).boot = d.boot := by
  obtain ⟨_, _, _, h⟩ := logRec_shape r d; rw [h]
@[simp] theorem logRec_pair (r : EventRec) (d : Dev) : (logRec r d).pair = d.pair := by
  obtain ⟨_, _, _, h⟩ := logRec_shape r d; rw [h]
@[simp] theorem logRec_pool (r : EventRec) (d : Dev) : (logRec r d).pool = d.pool := by
  obtain ⟨_, _, _, h⟩ := logRec_shape r d; rw [h]
@[simp] theorem logRec_str (r : EventRec) (d : Dev) : (logRec r d).str = d.str := by
  obtain ⟨_, _, _, h⟩ := logRec_shape r d; rw [h]
@[simp] theorem logRec_adm (r : EventRec) (d : Dev) : (logRec r d).adm = d.adm := by
  obtain ⟨_, _, _, h⟩ := logRec_shape r d; rw [h]
@[simp] theorem logRec_shelf (r : EventRec) (d : Dev) : (logRec r d).shelf = d.shelf := by
  obtain ⟨_, _, _, h⟩ := logRec_shape r d; rw [h]
@[simp] theorem logRec_host (r : EventRec) (d : Dev) : (logRec r d).host = d.host := by
  obtain ⟨_, _, _, h⟩ := logRec_shape r d; rw [h]
@[simp] theorem logRec_net (r : EventRec) (d : Dev) : (logRec r d).net = d.net := by
  obtain ⟨_, _, _, h⟩ := logRec_shape r d; rw [h]
@[simp] theorem logRec_cove (r : EventRec) (d : Dev) : (logRec r d).cove = d.cove := by
  obtain ⟨_, _, _, h⟩ := logRec_shape r d; rw [h]
@[simp] theorem logRec_keys (r : EventRec) (d : Dev) : (logRec r d).keys = d.keys := by
  obtain ⟨_, _, _, h⟩ := logRec_shape r d; rw [h]
@[simp] theorem logRec_light (r : EventRec) (d : Dev) : (logRec r d).light = d.light := by
  obtain ⟨_, _, _, h⟩ := logRec_shape r d; rw [h]
@[simp] theorem logRec_tline (r : EventRec) (d : Dev) : (logRec r d).tline = d.tline := by
  obtain ⟨_, _, _, h⟩ := logRec_shape r d; rw [h]
@[simp] theorem logRec_bay (r : EventRec) (d : Dev) : (logRec r d).bay = d.bay := by
  obtain ⟨_, _, _, h⟩ := logRec_shape r d; rw [h]
@[simp] theorem logRec_path (r : EventRec) (d : Dev) : (logRec r d).path = d.path := by
  obtain ⟨_, _, _, h⟩ := logRec_shape r d; rw [h]
@[simp] theorem logRec_readData (r : EventRec) (d : Dev) : (logRec r d).readData = d.readData := by
  obtain ⟨_, _, _, h⟩ := logRec_shape r d; rw [h]
@[simp] theorem logRec_readBytes (r : EventRec) (d : Dev) : (logRec r d).readBytes = d.readBytes := by
  obtain ⟨_, _, _, h⟩ := logRec_shape r d; rw [h]
@[simp] theorem logRec_draws (r : EventRec) (d : Dev) : (logRec r d).draws = d.draws := by
  obtain ⟨_, _, _, h⟩ := logRec_shape r d; rw [h]

@[simp] theorem logEvent_perf (a b c l : Nat) (d : Dev) : (logEvent a b c l d).perf = d.perf := by
  obtain ⟨_, _, _, h⟩ := logEvent_shape a b c l d; rw [h]
@[simp] theorem logEvent_chart (a b c l : Nat) (d : Dev) : (logEvent a b c l d).chart = d.chart := by
  obtain ⟨_, _, _, h⟩ := logEvent_shape a b c l d; rw [h]
@[simp] theorem logEvent_clk (a b c l : Nat) (d : Dev) : (logEvent a b c l d).clk = d.clk := by
  obtain ⟨_, _, _, h⟩ := logEvent_shape a b c l d; rw [h]
@[simp] theorem logEvent_sched (a b c l : Nat) (d : Dev) : (logEvent a b c l d).sched = d.sched := by
  obtain ⟨_, _, _, h⟩ := logEvent_shape a b c l d; rw [h]
@[simp] theorem logEvent_prism (a b c l : Nat) (d : Dev) : (logEvent a b c l d).prism = d.prism := by
  obtain ⟨_, _, _, h⟩ := logEvent_shape a b c l d; rw [h]
@[simp] theorem logEvent_boot (a b c l : Nat) (d : Dev) : (logEvent a b c l d).boot = d.boot := by
  obtain ⟨_, _, _, h⟩ := logEvent_shape a b c l d; rw [h]
@[simp] theorem logEvent_pair (a b c l : Nat) (d : Dev) : (logEvent a b c l d).pair = d.pair := by
  obtain ⟨_, _, _, h⟩ := logEvent_shape a b c l d; rw [h]
@[simp] theorem logEvent_pool (a b c l : Nat) (d : Dev) : (logEvent a b c l d).pool = d.pool := by
  obtain ⟨_, _, _, h⟩ := logEvent_shape a b c l d; rw [h]
@[simp] theorem logEvent_str (a b c l : Nat) (d : Dev) : (logEvent a b c l d).str = d.str := by
  obtain ⟨_, _, _, h⟩ := logEvent_shape a b c l d; rw [h]
@[simp] theorem logEvent_adm (a b c l : Nat) (d : Dev) : (logEvent a b c l d).adm = d.adm := by
  obtain ⟨_, _, _, h⟩ := logEvent_shape a b c l d; rw [h]
@[simp] theorem logEvent_shelf (a b c l : Nat) (d : Dev) : (logEvent a b c l d).shelf = d.shelf := by
  obtain ⟨_, _, _, h⟩ := logEvent_shape a b c l d; rw [h]
@[simp] theorem logEvent_host (a b c l : Nat) (d : Dev) : (logEvent a b c l d).host = d.host := by
  obtain ⟨_, _, _, h⟩ := logEvent_shape a b c l d; rw [h]
@[simp] theorem logEvent_net (a b c l : Nat) (d : Dev) : (logEvent a b c l d).net = d.net := by
  obtain ⟨_, _, _, h⟩ := logEvent_shape a b c l d; rw [h]
@[simp] theorem logEvent_cove (a b c l : Nat) (d : Dev) : (logEvent a b c l d).cove = d.cove := by
  obtain ⟨_, _, _, h⟩ := logEvent_shape a b c l d; rw [h]
@[simp] theorem logEvent_keys (a b c l : Nat) (d : Dev) : (logEvent a b c l d).keys = d.keys := by
  obtain ⟨_, _, _, h⟩ := logEvent_shape a b c l d; rw [h]
@[simp] theorem logEvent_light (a b c l : Nat) (d : Dev) : (logEvent a b c l d).light = d.light := by
  obtain ⟨_, _, _, h⟩ := logEvent_shape a b c l d; rw [h]
@[simp] theorem logEvent_tline (a b c l : Nat) (d : Dev) : (logEvent a b c l d).tline = d.tline := by
  obtain ⟨_, _, _, h⟩ := logEvent_shape a b c l d; rw [h]
@[simp] theorem logEvent_bay (a b c l : Nat) (d : Dev) : (logEvent a b c l d).bay = d.bay := by
  obtain ⟨_, _, _, h⟩ := logEvent_shape a b c l d; rw [h]
@[simp] theorem logEvent_path (a b c l : Nat) (d : Dev) : (logEvent a b c l d).path = d.path := by
  obtain ⟨_, _, _, h⟩ := logEvent_shape a b c l d; rw [h]
@[simp] theorem logEvent_readData (a b c l : Nat) (d : Dev) : (logEvent a b c l d).readData = d.readData := by
  obtain ⟨_, _, _, h⟩ := logEvent_shape a b c l d; rw [h]
@[simp] theorem logEvent_readBytes (a b c l : Nat) (d : Dev) : (logEvent a b c l d).readBytes = d.readBytes := by
  obtain ⟨_, _, _, h⟩ := logEvent_shape a b c l d; rw [h]
@[simp] theorem logEvent_draws (a b c l : Nat) (d : Dev) : (logEvent a b c l d).draws = d.draws := by
  obtain ⟨_, _, _, h⟩ := logEvent_shape a b c l d; rw [h]

@[simp] theorem logCove_perf (v a b c l : Nat) (d : Dev) : (logCove v a b c l d).perf = d.perf := by
  obtain ⟨_, _, _, h⟩ := logCove_shape v a b c l d; rw [h]
@[simp] theorem logCove_chart (v a b c l : Nat) (d : Dev) : (logCove v a b c l d).chart = d.chart := by
  obtain ⟨_, _, _, h⟩ := logCove_shape v a b c l d; rw [h]
@[simp] theorem logCove_clk (v a b c l : Nat) (d : Dev) : (logCove v a b c l d).clk = d.clk := by
  obtain ⟨_, _, _, h⟩ := logCove_shape v a b c l d; rw [h]
@[simp] theorem logCove_sched (v a b c l : Nat) (d : Dev) : (logCove v a b c l d).sched = d.sched := by
  obtain ⟨_, _, _, h⟩ := logCove_shape v a b c l d; rw [h]
@[simp] theorem logCove_prism (v a b c l : Nat) (d : Dev) : (logCove v a b c l d).prism = d.prism := by
  obtain ⟨_, _, _, h⟩ := logCove_shape v a b c l d; rw [h]
@[simp] theorem logCove_boot (v a b c l : Nat) (d : Dev) : (logCove v a b c l d).boot = d.boot := by
  obtain ⟨_, _, _, h⟩ := logCove_shape v a b c l d; rw [h]
@[simp] theorem logCove_pair (v a b c l : Nat) (d : Dev) : (logCove v a b c l d).pair = d.pair := by
  obtain ⟨_, _, _, h⟩ := logCove_shape v a b c l d; rw [h]
@[simp] theorem logCove_pool (v a b c l : Nat) (d : Dev) : (logCove v a b c l d).pool = d.pool := by
  obtain ⟨_, _, _, h⟩ := logCove_shape v a b c l d; rw [h]
@[simp] theorem logCove_str (v a b c l : Nat) (d : Dev) : (logCove v a b c l d).str = d.str := by
  obtain ⟨_, _, _, h⟩ := logCove_shape v a b c l d; rw [h]
@[simp] theorem logCove_adm (v a b c l : Nat) (d : Dev) : (logCove v a b c l d).adm = d.adm := by
  obtain ⟨_, _, _, h⟩ := logCove_shape v a b c l d; rw [h]
@[simp] theorem logCove_shelf (v a b c l : Nat) (d : Dev) : (logCove v a b c l d).shelf = d.shelf := by
  obtain ⟨_, _, _, h⟩ := logCove_shape v a b c l d; rw [h]
@[simp] theorem logCove_host (v a b c l : Nat) (d : Dev) : (logCove v a b c l d).host = d.host := by
  obtain ⟨_, _, _, h⟩ := logCove_shape v a b c l d; rw [h]
@[simp] theorem logCove_net (v a b c l : Nat) (d : Dev) : (logCove v a b c l d).net = d.net := by
  obtain ⟨_, _, _, h⟩ := logCove_shape v a b c l d; rw [h]
@[simp] theorem logCove_cove (v a b c l : Nat) (d : Dev) : (logCove v a b c l d).cove = d.cove := by
  obtain ⟨_, _, _, h⟩ := logCove_shape v a b c l d; rw [h]
@[simp] theorem logCove_keys (v a b c l : Nat) (d : Dev) : (logCove v a b c l d).keys = d.keys := by
  obtain ⟨_, _, _, h⟩ := logCove_shape v a b c l d; rw [h]
@[simp] theorem logCove_light (v a b c l : Nat) (d : Dev) : (logCove v a b c l d).light = d.light := by
  obtain ⟨_, _, _, h⟩ := logCove_shape v a b c l d; rw [h]
@[simp] theorem logCove_tline (v a b c l : Nat) (d : Dev) : (logCove v a b c l d).tline = d.tline := by
  obtain ⟨_, _, _, h⟩ := logCove_shape v a b c l d; rw [h]
@[simp] theorem logCove_bay (v a b c l : Nat) (d : Dev) : (logCove v a b c l d).bay = d.bay := by
  obtain ⟨_, _, _, h⟩ := logCove_shape v a b c l d; rw [h]
@[simp] theorem logCove_path (v a b c l : Nat) (d : Dev) : (logCove v a b c l d).path = d.path := by
  obtain ⟨_, _, _, h⟩ := logCove_shape v a b c l d; rw [h]
@[simp] theorem logCove_readData (v a b c l : Nat) (d : Dev) : (logCove v a b c l d).readData = d.readData := by
  obtain ⟨_, _, _, h⟩ := logCove_shape v a b c l d; rw [h]
@[simp] theorem logCove_readBytes (v a b c l : Nat) (d : Dev) : (logCove v a b c l d).readBytes = d.readBytes := by
  obtain ⟨_, _, _, h⟩ := logCove_shape v a b c l d; rw [h]
@[simp] theorem logCove_draws (v a b c l : Nat) (d : Dev) : (logCove v a b c l d).draws = d.draws := by
  obtain ⟨_, _, _, h⟩ := logCove_shape v a b c l d; rw [h]

@[simp] theorem lightRecord_perf (a b l : Nat) (d : Dev) : (lightRecord a b l d).perf = d.perf := by
  obtain ⟨_, _, _, h⟩ := lightRecord_shape a b l d; rw [h]
@[simp] theorem lightRecord_chart (a b l : Nat) (d : Dev) : (lightRecord a b l d).chart = d.chart := by
  obtain ⟨_, _, _, h⟩ := lightRecord_shape a b l d; rw [h]
@[simp] theorem lightRecord_clk (a b l : Nat) (d : Dev) : (lightRecord a b l d).clk = d.clk := by
  obtain ⟨_, _, _, h⟩ := lightRecord_shape a b l d; rw [h]
@[simp] theorem lightRecord_sched (a b l : Nat) (d : Dev) : (lightRecord a b l d).sched = d.sched := by
  obtain ⟨_, _, _, h⟩ := lightRecord_shape a b l d; rw [h]
@[simp] theorem lightRecord_prism (a b l : Nat) (d : Dev) : (lightRecord a b l d).prism = d.prism := by
  obtain ⟨_, _, _, h⟩ := lightRecord_shape a b l d; rw [h]
@[simp] theorem lightRecord_boot (a b l : Nat) (d : Dev) : (lightRecord a b l d).boot = d.boot := by
  obtain ⟨_, _, _, h⟩ := lightRecord_shape a b l d; rw [h]
@[simp] theorem lightRecord_pair (a b l : Nat) (d : Dev) : (lightRecord a b l d).pair = d.pair := by
  obtain ⟨_, _, _, h⟩ := lightRecord_shape a b l d; rw [h]
@[simp] theorem lightRecord_pool (a b l : Nat) (d : Dev) : (lightRecord a b l d).pool = d.pool := by
  obtain ⟨_, _, _, h⟩ := lightRecord_shape a b l d; rw [h]
@[simp] theorem lightRecord_str (a b l : Nat) (d : Dev) : (lightRecord a b l d).str = d.str := by
  obtain ⟨_, _, _, h⟩ := lightRecord_shape a b l d; rw [h]
@[simp] theorem lightRecord_adm (a b l : Nat) (d : Dev) : (lightRecord a b l d).adm = d.adm := by
  obtain ⟨_, _, _, h⟩ := lightRecord_shape a b l d; rw [h]
@[simp] theorem lightRecord_shelf (a b l : Nat) (d : Dev) : (lightRecord a b l d).shelf = d.shelf := by
  obtain ⟨_, _, _, h⟩ := lightRecord_shape a b l d; rw [h]
@[simp] theorem lightRecord_host (a b l : Nat) (d : Dev) : (lightRecord a b l d).host = d.host := by
  obtain ⟨_, _, _, h⟩ := lightRecord_shape a b l d; rw [h]
@[simp] theorem lightRecord_net (a b l : Nat) (d : Dev) : (lightRecord a b l d).net = d.net := by
  obtain ⟨_, _, _, h⟩ := lightRecord_shape a b l d; rw [h]
@[simp] theorem lightRecord_cove (a b l : Nat) (d : Dev) : (lightRecord a b l d).cove = d.cove := by
  obtain ⟨_, _, _, h⟩ := lightRecord_shape a b l d; rw [h]
@[simp] theorem lightRecord_keys (a b l : Nat) (d : Dev) : (lightRecord a b l d).keys = d.keys := by
  obtain ⟨_, _, _, h⟩ := lightRecord_shape a b l d; rw [h]
@[simp] theorem lightRecord_light (a b l : Nat) (d : Dev) : (lightRecord a b l d).light = d.light := by
  obtain ⟨_, _, _, h⟩ := lightRecord_shape a b l d; rw [h]
@[simp] theorem lightRecord_tline (a b l : Nat) (d : Dev) : (lightRecord a b l d).tline = d.tline := by
  obtain ⟨_, _, _, h⟩ := lightRecord_shape a b l d; rw [h]
@[simp] theorem lightRecord_bay (a b l : Nat) (d : Dev) : (lightRecord a b l d).bay = d.bay := by
  obtain ⟨_, _, _, h⟩ := lightRecord_shape a b l d; rw [h]
@[simp] theorem lightRecord_path (a b l : Nat) (d : Dev) : (lightRecord a b l d).path = d.path := by
  obtain ⟨_, _, _, h⟩ := lightRecord_shape a b l d; rw [h]
@[simp] theorem lightRecord_readData (a b l : Nat) (d : Dev) : (lightRecord a b l d).readData = d.readData := by
  obtain ⟨_, _, _, h⟩ := lightRecord_shape a b l d; rw [h]
@[simp] theorem lightRecord_readBytes (a b l : Nat) (d : Dev) : (lightRecord a b l d).readBytes = d.readBytes := by
  obtain ⟨_, _, _, h⟩ := lightRecord_shape a b l d; rw [h]
@[simp] theorem lightRecord_draws (a b l : Nat) (d : Dev) : (lightRecord a b l d).draws = d.draws := by
  obtain ⟨_, _, _, h⟩ := lightRecord_shape a b l d; rw [h]

@[simp] theorem logLight_perf (a b : Nat) (v : Bool) (c e f g h i j : Nat) (d : Dev) : (logLight a b v c e f g h i j d).perf = d.perf := by
  obtain ⟨_, _, _, _, _, h⟩ := logLight_shape a b v c e f g h i j d; rw [h]
@[simp] theorem logLight_chart (a b : Nat) (v : Bool) (c e f g h i j : Nat) (d : Dev) : (logLight a b v c e f g h i j d).chart = d.chart := by
  obtain ⟨_, _, _, _, _, h⟩ := logLight_shape a b v c e f g h i j d; rw [h]
@[simp] theorem logLight_clk (a b : Nat) (v : Bool) (c e f g h i j : Nat) (d : Dev) : (logLight a b v c e f g h i j d).clk = d.clk := by
  obtain ⟨_, _, _, _, _, h⟩ := logLight_shape a b v c e f g h i j d; rw [h]
@[simp] theorem logLight_sched (a b : Nat) (v : Bool) (c e f g h i j : Nat) (d : Dev) : (logLight a b v c e f g h i j d).sched = d.sched := by
  obtain ⟨_, _, _, _, _, h⟩ := logLight_shape a b v c e f g h i j d; rw [h]
@[simp] theorem logLight_prism (a b : Nat) (v : Bool) (c e f g h i j : Nat) (d : Dev) : (logLight a b v c e f g h i j d).prism = d.prism := by
  obtain ⟨_, _, _, _, _, h⟩ := logLight_shape a b v c e f g h i j d; rw [h]
@[simp] theorem logLight_boot (a b : Nat) (v : Bool) (c e f g h i j : Nat) (d : Dev) : (logLight a b v c e f g h i j d).boot = d.boot := by
  obtain ⟨_, _, _, _, _, h⟩ := logLight_shape a b v c e f g h i j d; rw [h]
@[simp] theorem logLight_pair (a b : Nat) (v : Bool) (c e f g h i j : Nat) (d : Dev) : (logLight a b v c e f g h i j d).pair = d.pair := by
  obtain ⟨_, _, _, _, _, h⟩ := logLight_shape a b v c e f g h i j d; rw [h]
@[simp] theorem logLight_pool (a b : Nat) (v : Bool) (c e f g h i j : Nat) (d : Dev) : (logLight a b v c e f g h i j d).pool = d.pool := by
  obtain ⟨_, _, _, _, _, h⟩ := logLight_shape a b v c e f g h i j d; rw [h]
@[simp] theorem logLight_str (a b : Nat) (v : Bool) (c e f g h i j : Nat) (d : Dev) : (logLight a b v c e f g h i j d).str = d.str := by
  obtain ⟨_, _, _, _, _, h⟩ := logLight_shape a b v c e f g h i j d; rw [h]
@[simp] theorem logLight_adm (a b : Nat) (v : Bool) (c e f g h i j : Nat) (d : Dev) : (logLight a b v c e f g h i j d).adm = d.adm := by
  obtain ⟨_, _, _, _, _, h⟩ := logLight_shape a b v c e f g h i j d; rw [h]
@[simp] theorem logLight_shelf (a b : Nat) (v : Bool) (c e f g h i j : Nat) (d : Dev) : (logLight a b v c e f g h i j d).shelf = d.shelf := by
  obtain ⟨_, _, _, _, _, h⟩ := logLight_shape a b v c e f g h i j d; rw [h]
@[simp] theorem logLight_host (a b : Nat) (v : Bool) (c e f g h i j : Nat) (d : Dev) : (logLight a b v c e f g h i j d).host = d.host := by
  obtain ⟨_, _, _, _, _, h⟩ := logLight_shape a b v c e f g h i j d; rw [h]
@[simp] theorem logLight_net (a b : Nat) (v : Bool) (c e f g h i j : Nat) (d : Dev) : (logLight a b v c e f g h i j d).net = d.net := by
  obtain ⟨_, _, _, _, _, h⟩ := logLight_shape a b v c e f g h i j d; rw [h]
@[simp] theorem logLight_cove (a b : Nat) (v : Bool) (c e f g h i j : Nat) (d : Dev) : (logLight a b v c e f g h i j d).cove = d.cove := by
  obtain ⟨_, _, _, _, _, h⟩ := logLight_shape a b v c e f g h i j d; rw [h]
@[simp] theorem logLight_keys (a b : Nat) (v : Bool) (c e f g h i j : Nat) (d : Dev) : (logLight a b v c e f g h i j d).keys = d.keys := by
  obtain ⟨_, _, _, _, _, h⟩ := logLight_shape a b v c e f g h i j d; rw [h]
@[simp] theorem logLight_tline (a b : Nat) (v : Bool) (c e f g h i j : Nat) (d : Dev) : (logLight a b v c e f g h i j d).tline = d.tline := by
  obtain ⟨_, _, _, _, _, h⟩ := logLight_shape a b v c e f g h i j d; rw [h]
@[simp] theorem logLight_bay (a b : Nat) (v : Bool) (c e f g h i j : Nat) (d : Dev) : (logLight a b v c e f g h i j d).bay = d.bay := by
  obtain ⟨_, _, _, _, _, h⟩ := logLight_shape a b v c e f g h i j d; rw [h]
@[simp] theorem logLight_path (a b : Nat) (v : Bool) (c e f g h i j : Nat) (d : Dev) : (logLight a b v c e f g h i j d).path = d.path := by
  obtain ⟨_, _, _, _, _, h⟩ := logLight_shape a b v c e f g h i j d; rw [h]
@[simp] theorem logLight_readData (a b : Nat) (v : Bool) (c e f g h i j : Nat) (d : Dev) : (logLight a b v c e f g h i j d).readData = d.readData := by
  obtain ⟨_, _, _, _, _, h⟩ := logLight_shape a b v c e f g h i j d; rw [h]
@[simp] theorem logLight_readBytes (a b : Nat) (v : Bool) (c e f g h i j : Nat) (d : Dev) : (logLight a b v c e f g h i j d).readBytes = d.readBytes := by
  obtain ⟨_, _, _, _, _, h⟩ := logLight_shape a b v c e f g h i j d; rw [h]
@[simp] theorem logLight_draws (a b : Nat) (v : Bool) (c e f g h i j : Nat) (d : Dev) : (logLight a b v c e f g h i j d).draws = d.draws := by
  obtain ⟨_, _, _, _, _, h⟩ := logLight_shape a b v c e f g h i j d; rw [h]

@[simp] theorem clockMark_perf (d : Dev) : (clockMark d).perf = d.perf := by
  obtain ⟨_, _, _, h⟩ := clockMark_shape  d; rw [h]
@[simp] theorem clockMark_chart (d : Dev) : (clockMark d).chart = d.chart := by
  obtain ⟨_, _, _, h⟩ := clockMark_shape  d; rw [h]
@[simp] theorem clockMark_clk (d : Dev) : (clockMark d).clk = d.clk := by
  obtain ⟨_, _, _, h⟩ := clockMark_shape  d; rw [h]
@[simp] theorem clockMark_sched (d : Dev) : (clockMark d).sched = d.sched := by
  obtain ⟨_, _, _, h⟩ := clockMark_shape  d; rw [h]
@[simp] theorem clockMark_prism (d : Dev) : (clockMark d).prism = d.prism := by
  obtain ⟨_, _, _, h⟩ := clockMark_shape  d; rw [h]
@[simp] theorem clockMark_boot (d : Dev) : (clockMark d).boot = d.boot := by
  obtain ⟨_, _, _, h⟩ := clockMark_shape  d; rw [h]
@[simp] theorem clockMark_pair (d : Dev) : (clockMark d).pair = d.pair := by
  obtain ⟨_, _, _, h⟩ := clockMark_shape  d; rw [h]
@[simp] theorem clockMark_pool (d : Dev) : (clockMark d).pool = d.pool := by
  obtain ⟨_, _, _, h⟩ := clockMark_shape  d; rw [h]
@[simp] theorem clockMark_str (d : Dev) : (clockMark d).str = d.str := by
  obtain ⟨_, _, _, h⟩ := clockMark_shape  d; rw [h]
@[simp] theorem clockMark_adm (d : Dev) : (clockMark d).adm = d.adm := by
  obtain ⟨_, _, _, h⟩ := clockMark_shape  d; rw [h]
@[simp] theorem clockMark_shelf (d : Dev) : (clockMark d).shelf = d.shelf := by
  obtain ⟨_, _, _, h⟩ := clockMark_shape  d; rw [h]
@[simp] theorem clockMark_host (d : Dev) : (clockMark d).host = d.host := by
  obtain ⟨_, _, _, h⟩ := clockMark_shape  d; rw [h]
@[simp] theorem clockMark_net (d : Dev) : (clockMark d).net = d.net := by
  obtain ⟨_, _, _, h⟩ := clockMark_shape  d; rw [h]
@[simp] theorem clockMark_cove (d : Dev) : (clockMark d).cove = d.cove := by
  obtain ⟨_, _, _, h⟩ := clockMark_shape  d; rw [h]
@[simp] theorem clockMark_keys (d : Dev) : (clockMark d).keys = d.keys := by
  obtain ⟨_, _, _, h⟩ := clockMark_shape  d; rw [h]
@[simp] theorem clockMark_light (d : Dev) : (clockMark d).light = d.light := by
  obtain ⟨_, _, _, h⟩ := clockMark_shape  d; rw [h]
@[simp] theorem clockMark_tline (d : Dev) : (clockMark d).tline = d.tline := by
  obtain ⟨_, _, _, h⟩ := clockMark_shape  d; rw [h]
@[simp] theorem clockMark_bay (d : Dev) : (clockMark d).bay = d.bay := by
  obtain ⟨_, _, _, h⟩ := clockMark_shape  d; rw [h]
@[simp] theorem clockMark_path (d : Dev) : (clockMark d).path = d.path := by
  obtain ⟨_, _, _, h⟩ := clockMark_shape  d; rw [h]
@[simp] theorem clockMark_readData (d : Dev) : (clockMark d).readData = d.readData := by
  obtain ⟨_, _, _, h⟩ := clockMark_shape  d; rw [h]
@[simp] theorem clockMark_readBytes (d : Dev) : (clockMark d).readBytes = d.readBytes := by
  obtain ⟨_, _, _, h⟩ := clockMark_shape  d; rw [h]
@[simp] theorem clockMark_draws (d : Dev) : (clockMark d).draws = d.draws := by
  obtain ⟨_, _, _, h⟩ := clockMark_shape  d; rw [h]

@[simp] theorem occur_ev (c e n : Nat) (a : Attr) (d : Dev) : (occur c e n a d).ev = d.ev := by
  obtain ⟨_, h⟩ := occur_shape c e n a d; rw [h]
@[simp] theorem occur_chart (c e n : Nat) (a : Attr) (d : Dev) : (occur c e n a d).chart = d.chart := by
  obtain ⟨_, h⟩ := occur_shape c e n a d; rw [h]
@[simp] theorem occur_clk (c e n : Nat) (a : Attr) (d : Dev) : (occur c e n a d).clk = d.clk := by
  obtain ⟨_, h⟩ := occur_shape c e n a d; rw [h]
@[simp] theorem occur_sched (c e n : Nat) (a : Attr) (d : Dev) : (occur c e n a d).sched = d.sched := by
  obtain ⟨_, h⟩ := occur_shape c e n a d; rw [h]
@[simp] theorem occur_prism (c e n : Nat) (a : Attr) (d : Dev) : (occur c e n a d).prism = d.prism := by
  obtain ⟨_, h⟩ := occur_shape c e n a d; rw [h]
@[simp] theorem occur_mhi (c e n : Nat) (a : Attr) (d : Dev) : (occur c e n a d).mhi = d.mhi := by
  obtain ⟨_, h⟩ := occur_shape c e n a d; rw [h]
@[simp] theorem occur_boot (c e n : Nat) (a : Attr) (d : Dev) : (occur c e n a d).boot = d.boot := by
  obtain ⟨_, h⟩ := occur_shape c e n a d; rw [h]
@[simp] theorem occur_pair (c e n : Nat) (a : Attr) (d : Dev) : (occur c e n a d).pair = d.pair := by
  obtain ⟨_, h⟩ := occur_shape c e n a d; rw [h]
@[simp] theorem occur_pool (c e n : Nat) (a : Attr) (d : Dev) : (occur c e n a d).pool = d.pool := by
  obtain ⟨_, h⟩ := occur_shape c e n a d; rw [h]
@[simp] theorem occur_str (c e n : Nat) (a : Attr) (d : Dev) : (occur c e n a d).str = d.str := by
  obtain ⟨_, h⟩ := occur_shape c e n a d; rw [h]
@[simp] theorem occur_adm (c e n : Nat) (a : Attr) (d : Dev) : (occur c e n a d).adm = d.adm := by
  obtain ⟨_, h⟩ := occur_shape c e n a d; rw [h]
@[simp] theorem occur_shelf (c e n : Nat) (a : Attr) (d : Dev) : (occur c e n a d).shelf = d.shelf := by
  obtain ⟨_, h⟩ := occur_shape c e n a d; rw [h]
@[simp] theorem occur_host (c e n : Nat) (a : Attr) (d : Dev) : (occur c e n a d).host = d.host := by
  obtain ⟨_, h⟩ := occur_shape c e n a d; rw [h]
@[simp] theorem occur_net (c e n : Nat) (a : Attr) (d : Dev) : (occur c e n a d).net = d.net := by
  obtain ⟨_, h⟩ := occur_shape c e n a d; rw [h]
@[simp] theorem occur_cove (c e n : Nat) (a : Attr) (d : Dev) : (occur c e n a d).cove = d.cove := by
  obtain ⟨_, h⟩ := occur_shape c e n a d; rw [h]
@[simp] theorem occur_keys (c e n : Nat) (a : Attr) (d : Dev) : (occur c e n a d).keys = d.keys := by
  obtain ⟨_, h⟩ := occur_shape c e n a d; rw [h]
@[simp] theorem occur_light (c e n : Nat) (a : Attr) (d : Dev) : (occur c e n a d).light = d.light := by
  obtain ⟨_, h⟩ := occur_shape c e n a d; rw [h]
@[simp] theorem occur_tline (c e n : Nat) (a : Attr) (d : Dev) : (occur c e n a d).tline = d.tline := by
  obtain ⟨_, h⟩ := occur_shape c e n a d; rw [h]
@[simp] theorem occur_bay (c e n : Nat) (a : Attr) (d : Dev) : (occur c e n a d).bay = d.bay := by
  obtain ⟨_, h⟩ := occur_shape c e n a d; rw [h]
@[simp] theorem occur_path (c e n : Nat) (a : Attr) (d : Dev) : (occur c e n a d).path = d.path := by
  obtain ⟨_, h⟩ := occur_shape c e n a d; rw [h]
@[simp] theorem occur_out (c e n : Nat) (a : Attr) (d : Dev) : (occur c e n a d).out = d.out := by
  obtain ⟨_, h⟩ := occur_shape c e n a d; rw [h]
@[simp] theorem occur_readData (c e n : Nat) (a : Attr) (d : Dev) : (occur c e n a d).readData = d.readData := by
  obtain ⟨_, h⟩ := occur_shape c e n a d; rw [h]
@[simp] theorem occur_readBytes (c e n : Nat) (a : Attr) (d : Dev) : (occur c e n a d).readBytes = d.readBytes := by
  obtain ⟨_, h⟩ := occur_shape c e n a d; rw [h]
@[simp] theorem occur_draws (c e n : Nat) (a : Attr) (d : Dev) : (occur c e n a d).draws = d.draws := by
  obtain ⟨_, h⟩ := occur_shape c e n a d; rw [h]

@[simp] theorem mboxDone_ev (r : MboxResult) (d : Dev) : (mboxDone r d).ev = d.ev := by
  obtain ⟨_, _, h⟩ := mboxDone_shape r d; rw [h]
@[simp] theorem mboxDone_perf (r : MboxResult) (d : Dev) : (mboxDone r d).perf = d.perf := by
  obtain ⟨_, _, h⟩ := mboxDone_shape r d; rw [h]
@[simp] theorem mboxDone_chart (r : MboxResult) (d : Dev) : (mboxDone r d).chart = d.chart := by
  obtain ⟨_, _, h⟩ := mboxDone_shape r d; rw [h]
@[simp] theorem mboxDone_clk (r : MboxResult) (d : Dev) : (mboxDone r d).clk = d.clk := by
  obtain ⟨_, _, h⟩ := mboxDone_shape r d; rw [h]
@[simp] theorem mboxDone_sched (r : MboxResult) (d : Dev) : (mboxDone r d).sched = d.sched := by
  obtain ⟨_, _, h⟩ := mboxDone_shape r d; rw [h]
@[simp] theorem mboxDone_prism (r : MboxResult) (d : Dev) : (mboxDone r d).prism = d.prism := by
  obtain ⟨_, _, h⟩ := mboxDone_shape r d; rw [h]
@[simp] theorem mboxDone_boot (r : MboxResult) (d : Dev) : (mboxDone r d).boot = d.boot := by
  obtain ⟨_, _, h⟩ := mboxDone_shape r d; rw [h]
@[simp] theorem mboxDone_pair (r : MboxResult) (d : Dev) : (mboxDone r d).pair = d.pair := by
  obtain ⟨_, _, h⟩ := mboxDone_shape r d; rw [h]
@[simp] theorem mboxDone_pool (r : MboxResult) (d : Dev) : (mboxDone r d).pool = d.pool := by
  obtain ⟨_, _, h⟩ := mboxDone_shape r d; rw [h]
@[simp] theorem mboxDone_str (r : MboxResult) (d : Dev) : (mboxDone r d).str = d.str := by
  obtain ⟨_, _, h⟩ := mboxDone_shape r d; rw [h]
@[simp] theorem mboxDone_adm (r : MboxResult) (d : Dev) : (mboxDone r d).adm = d.adm := by
  obtain ⟨_, _, h⟩ := mboxDone_shape r d; rw [h]
@[simp] theorem mboxDone_shelf (r : MboxResult) (d : Dev) : (mboxDone r d).shelf = d.shelf := by
  obtain ⟨_, _, h⟩ := mboxDone_shape r d; rw [h]
@[simp] theorem mboxDone_host (r : MboxResult) (d : Dev) : (mboxDone r d).host = d.host := by
  obtain ⟨_, _, h⟩ := mboxDone_shape r d; rw [h]
@[simp] theorem mboxDone_net (r : MboxResult) (d : Dev) : (mboxDone r d).net = d.net := by
  obtain ⟨_, _, h⟩ := mboxDone_shape r d; rw [h]
@[simp] theorem mboxDone_cove (r : MboxResult) (d : Dev) : (mboxDone r d).cove = d.cove := by
  obtain ⟨_, _, h⟩ := mboxDone_shape r d; rw [h]
@[simp] theorem mboxDone_keys (r : MboxResult) (d : Dev) : (mboxDone r d).keys = d.keys := by
  obtain ⟨_, _, h⟩ := mboxDone_shape r d; rw [h]
@[simp] theorem mboxDone_light (r : MboxResult) (d : Dev) : (mboxDone r d).light = d.light := by
  obtain ⟨_, _, h⟩ := mboxDone_shape r d; rw [h]
@[simp] theorem mboxDone_tline (r : MboxResult) (d : Dev) : (mboxDone r d).tline = d.tline := by
  obtain ⟨_, _, h⟩ := mboxDone_shape r d; rw [h]
@[simp] theorem mboxDone_bay (r : MboxResult) (d : Dev) : (mboxDone r d).bay = d.bay := by
  obtain ⟨_, _, h⟩ := mboxDone_shape r d; rw [h]
@[simp] theorem mboxDone_path (r : MboxResult) (d : Dev) : (mboxDone r d).path = d.path := by
  obtain ⟨_, _, h⟩ := mboxDone_shape r d; rw [h]
@[simp] theorem mboxDone_readData (r : MboxResult) (d : Dev) : (mboxDone r d).readData = d.readData := by
  obtain ⟨_, _, h⟩ := mboxDone_shape r d; rw [h]
@[simp] theorem mboxDone_readBytes (r : MboxResult) (d : Dev) : (mboxDone r d).readBytes = d.readBytes := by
  obtain ⟨_, _, h⟩ := mboxDone_shape r d; rw [h]
@[simp] theorem mboxDone_draws (r : MboxResult) (d : Dev) : (mboxDone r d).draws = d.draws := by
  obtain ⟨_, _, h⟩ := mboxDone_shape r d; rw [h]

@[simp] theorem straitSend_ev (f : StraitFrame) (d : Dev) : (straitSend f d).ev = d.ev := by
  obtain ⟨_, _, _, _, h⟩ := straitSend_shape f d; rw [h]
@[simp] theorem straitSend_perf (f : StraitFrame) (d : Dev) : (straitSend f d).perf = d.perf := by
  obtain ⟨_, _, _, _, h⟩ := straitSend_shape f d; rw [h]
@[simp] theorem straitSend_chart (f : StraitFrame) (d : Dev) : (straitSend f d).chart = d.chart := by
  obtain ⟨_, _, _, _, h⟩ := straitSend_shape f d; rw [h]
@[simp] theorem straitSend_clk (f : StraitFrame) (d : Dev) : (straitSend f d).clk = d.clk := by
  obtain ⟨_, _, _, _, h⟩ := straitSend_shape f d; rw [h]
@[simp] theorem straitSend_sched (f : StraitFrame) (d : Dev) : (straitSend f d).sched = d.sched := by
  obtain ⟨_, _, _, _, h⟩ := straitSend_shape f d; rw [h]
@[simp] theorem straitSend_prism (f : StraitFrame) (d : Dev) : (straitSend f d).prism = d.prism := by
  obtain ⟨_, _, _, _, h⟩ := straitSend_shape f d; rw [h]
@[simp] theorem straitSend_mhi (f : StraitFrame) (d : Dev) : (straitSend f d).mhi = d.mhi := by
  obtain ⟨_, _, _, _, h⟩ := straitSend_shape f d; rw [h]
@[simp] theorem straitSend_boot (f : StraitFrame) (d : Dev) : (straitSend f d).boot = d.boot := by
  obtain ⟨_, _, _, _, h⟩ := straitSend_shape f d; rw [h]
@[simp] theorem straitSend_pool (f : StraitFrame) (d : Dev) : (straitSend f d).pool = d.pool := by
  obtain ⟨_, _, _, _, h⟩ := straitSend_shape f d; rw [h]
@[simp] theorem straitSend_str (f : StraitFrame) (d : Dev) : (straitSend f d).str = d.str := by
  obtain ⟨_, _, _, _, h⟩ := straitSend_shape f d; rw [h]
@[simp] theorem straitSend_adm (f : StraitFrame) (d : Dev) : (straitSend f d).adm = d.adm := by
  obtain ⟨_, _, _, _, h⟩ := straitSend_shape f d; rw [h]
@[simp] theorem straitSend_shelf (f : StraitFrame) (d : Dev) : (straitSend f d).shelf = d.shelf := by
  obtain ⟨_, _, _, _, h⟩ := straitSend_shape f d; rw [h]
@[simp] theorem straitSend_host (f : StraitFrame) (d : Dev) : (straitSend f d).host = d.host := by
  obtain ⟨_, _, _, _, h⟩ := straitSend_shape f d; rw [h]
@[simp] theorem straitSend_net (f : StraitFrame) (d : Dev) : (straitSend f d).net = d.net := by
  obtain ⟨_, _, _, _, h⟩ := straitSend_shape f d; rw [h]
@[simp] theorem straitSend_cove (f : StraitFrame) (d : Dev) : (straitSend f d).cove = d.cove := by
  obtain ⟨_, _, _, _, h⟩ := straitSend_shape f d; rw [h]
@[simp] theorem straitSend_keys (f : StraitFrame) (d : Dev) : (straitSend f d).keys = d.keys := by
  obtain ⟨_, _, _, _, h⟩ := straitSend_shape f d; rw [h]
@[simp] theorem straitSend_light (f : StraitFrame) (d : Dev) : (straitSend f d).light = d.light := by
  obtain ⟨_, _, _, _, h⟩ := straitSend_shape f d; rw [h]
@[simp] theorem straitSend_tline (f : StraitFrame) (d : Dev) : (straitSend f d).tline = d.tline := by
  obtain ⟨_, _, _, _, h⟩ := straitSend_shape f d; rw [h]
@[simp] theorem straitSend_bay (f : StraitFrame) (d : Dev) : (straitSend f d).bay = d.bay := by
  obtain ⟨_, _, _, _, h⟩ := straitSend_shape f d; rw [h]
@[simp] theorem straitSend_path (f : StraitFrame) (d : Dev) : (straitSend f d).path = d.path := by
  obtain ⟨_, _, _, _, h⟩ := straitSend_shape f d; rw [h]
@[simp] theorem straitSend_readData (f : StraitFrame) (d : Dev) : (straitSend f d).readData = d.readData := by
  obtain ⟨_, _, _, _, h⟩ := straitSend_shape f d; rw [h]
@[simp] theorem straitSend_readBytes (f : StraitFrame) (d : Dev) : (straitSend f d).readBytes = d.readBytes := by
  obtain ⟨_, _, _, _, h⟩ := straitSend_shape f d; rw [h]
@[simp] theorem straitSend_draws (f : StraitFrame) (d : Dev) : (straitSend f d).draws = d.draws := by
  obtain ⟨_, _, _, _, h⟩ := straitSend_shape f d; rw [h]

@[simp] theorem straitControl_ev (n : Nat) (l : List Byte) (d : Dev) : (straitControl n l d).ev = d.ev := by
  obtain ⟨_, _, _, _, h⟩ := straitControl_shape n l d; rw [h]
@[simp] theorem straitControl_perf (n : Nat) (l : List Byte) (d : Dev) : (straitControl n l d).perf = d.perf := by
  obtain ⟨_, _, _, _, h⟩ := straitControl_shape n l d; rw [h]
@[simp] theorem straitControl_chart (n : Nat) (l : List Byte) (d : Dev) : (straitControl n l d).chart = d.chart := by
  obtain ⟨_, _, _, _, h⟩ := straitControl_shape n l d; rw [h]
@[simp] theorem straitControl_clk (n : Nat) (l : List Byte) (d : Dev) : (straitControl n l d).clk = d.clk := by
  obtain ⟨_, _, _, _, h⟩ := straitControl_shape n l d; rw [h]
@[simp] theorem straitControl_sched (n : Nat) (l : List Byte) (d : Dev) : (straitControl n l d).sched = d.sched := by
  obtain ⟨_, _, _, _, h⟩ := straitControl_shape n l d; rw [h]
@[simp] theorem straitControl_prism (n : Nat) (l : List Byte) (d : Dev) : (straitControl n l d).prism = d.prism := by
  obtain ⟨_, _, _, _, h⟩ := straitControl_shape n l d; rw [h]
@[simp] theorem straitControl_mhi (n : Nat) (l : List Byte) (d : Dev) : (straitControl n l d).mhi = d.mhi := by
  obtain ⟨_, _, _, _, h⟩ := straitControl_shape n l d; rw [h]
@[simp] theorem straitControl_boot (n : Nat) (l : List Byte) (d : Dev) : (straitControl n l d).boot = d.boot := by
  obtain ⟨_, _, _, _, h⟩ := straitControl_shape n l d; rw [h]
@[simp] theorem straitControl_pool (n : Nat) (l : List Byte) (d : Dev) : (straitControl n l d).pool = d.pool := by
  obtain ⟨_, _, _, _, h⟩ := straitControl_shape n l d; rw [h]
@[simp] theorem straitControl_str (n : Nat) (l : List Byte) (d : Dev) : (straitControl n l d).str = d.str := by
  obtain ⟨_, _, _, _, h⟩ := straitControl_shape n l d; rw [h]
@[simp] theorem straitControl_adm (n : Nat) (l : List Byte) (d : Dev) : (straitControl n l d).adm = d.adm := by
  obtain ⟨_, _, _, _, h⟩ := straitControl_shape n l d; rw [h]
@[simp] theorem straitControl_shelf (n : Nat) (l : List Byte) (d : Dev) : (straitControl n l d).shelf = d.shelf := by
  obtain ⟨_, _, _, _, h⟩ := straitControl_shape n l d; rw [h]
@[simp] theorem straitControl_host (n : Nat) (l : List Byte) (d : Dev) : (straitControl n l d).host = d.host := by
  obtain ⟨_, _, _, _, h⟩ := straitControl_shape n l d; rw [h]
@[simp] theorem straitControl_net (n : Nat) (l : List Byte) (d : Dev) : (straitControl n l d).net = d.net := by
  obtain ⟨_, _, _, _, h⟩ := straitControl_shape n l d; rw [h]
@[simp] theorem straitControl_cove (n : Nat) (l : List Byte) (d : Dev) : (straitControl n l d).cove = d.cove := by
  obtain ⟨_, _, _, _, h⟩ := straitControl_shape n l d; rw [h]
@[simp] theorem straitControl_keys (n : Nat) (l : List Byte) (d : Dev) : (straitControl n l d).keys = d.keys := by
  obtain ⟨_, _, _, _, h⟩ := straitControl_shape n l d; rw [h]
@[simp] theorem straitControl_light (n : Nat) (l : List Byte) (d : Dev) : (straitControl n l d).light = d.light := by
  obtain ⟨_, _, _, _, h⟩ := straitControl_shape n l d; rw [h]
@[simp] theorem straitControl_tline (n : Nat) (l : List Byte) (d : Dev) : (straitControl n l d).tline = d.tline := by
  obtain ⟨_, _, _, _, h⟩ := straitControl_shape n l d; rw [h]
@[simp] theorem straitControl_bay (n : Nat) (l : List Byte) (d : Dev) : (straitControl n l d).bay = d.bay := by
  obtain ⟨_, _, _, _, h⟩ := straitControl_shape n l d; rw [h]
@[simp] theorem straitControl_path (n : Nat) (l : List Byte) (d : Dev) : (straitControl n l d).path = d.path := by
  obtain ⟨_, _, _, _, h⟩ := straitControl_shape n l d; rw [h]
@[simp] theorem straitControl_readData (n : Nat) (l : List Byte) (d : Dev) : (straitControl n l d).readData = d.readData := by
  obtain ⟨_, _, _, _, h⟩ := straitControl_shape n l d; rw [h]
@[simp] theorem straitControl_readBytes (n : Nat) (l : List Byte) (d : Dev) : (straitControl n l d).readBytes = d.readBytes := by
  obtain ⟨_, _, _, _, h⟩ := straitControl_shape n l d; rw [h]
@[simp] theorem straitControl_draws (n : Nat) (l : List Byte) (d : Dev) : (straitControl n l d).draws = d.draws := by
  obtain ⟨_, _, _, _, h⟩ := straitControl_shape n l d; rw [h]

@[simp] theorem issueNow_ev (b : Nat) (o : MemberOp) (d : Dev) : (issueNow b o d).ev = d.ev := by
  obtain ⟨_, _, _, _, _, _, h⟩ := issueNow_shape b o d; rw [h]
@[simp] theorem issueNow_chart (b : Nat) (o : MemberOp) (d : Dev) : (issueNow b o d).chart = d.chart := by
  obtain ⟨_, _, _, _, _, _, h⟩ := issueNow_shape b o d; rw [h]
@[simp] theorem issueNow_clk (b : Nat) (o : MemberOp) (d : Dev) : (issueNow b o d).clk = d.clk := by
  obtain ⟨_, _, _, _, _, _, h⟩ := issueNow_shape b o d; rw [h]
@[simp] theorem issueNow_sched (b : Nat) (o : MemberOp) (d : Dev) : (issueNow b o d).sched = d.sched := by
  obtain ⟨_, _, _, _, _, _, h⟩ := issueNow_shape b o d; rw [h]
@[simp] theorem issueNow_prism (b : Nat) (o : MemberOp) (d : Dev) : (issueNow b o d).prism = d.prism := by
  obtain ⟨_, _, _, _, _, _, h⟩ := issueNow_shape b o d; rw [h]
@[simp] theorem issueNow_mhi (b : Nat) (o : MemberOp) (d : Dev) : (issueNow b o d).mhi = d.mhi := by
  obtain ⟨_, _, _, _, _, _, h⟩ := issueNow_shape b o d; rw [h]
@[simp] theorem issueNow_boot (b : Nat) (o : MemberOp) (d : Dev) : (issueNow b o d).boot = d.boot := by
  obtain ⟨_, _, _, _, _, _, h⟩ := issueNow_shape b o d; rw [h]
@[simp] theorem issueNow_pair (b : Nat) (o : MemberOp) (d : Dev) : (issueNow b o d).pair = d.pair := by
  obtain ⟨_, _, _, _, _, _, h⟩ := issueNow_shape b o d; rw [h]
@[simp] theorem issueNow_pool (b : Nat) (o : MemberOp) (d : Dev) : (issueNow b o d).pool = d.pool := by
  obtain ⟨_, _, _, _, _, _, h⟩ := issueNow_shape b o d; rw [h]
@[simp] theorem issueNow_str (b : Nat) (o : MemberOp) (d : Dev) : (issueNow b o d).str = d.str := by
  obtain ⟨_, _, _, _, _, _, h⟩ := issueNow_shape b o d; rw [h]
@[simp] theorem issueNow_adm (b : Nat) (o : MemberOp) (d : Dev) : (issueNow b o d).adm = d.adm := by
  obtain ⟨_, _, _, _, _, _, h⟩ := issueNow_shape b o d; rw [h]
@[simp] theorem issueNow_host (b : Nat) (o : MemberOp) (d : Dev) : (issueNow b o d).host = d.host := by
  obtain ⟨_, _, _, _, _, _, h⟩ := issueNow_shape b o d; rw [h]
@[simp] theorem issueNow_net (b : Nat) (o : MemberOp) (d : Dev) : (issueNow b o d).net = d.net := by
  obtain ⟨_, _, _, _, _, _, h⟩ := issueNow_shape b o d; rw [h]
@[simp] theorem issueNow_cove (b : Nat) (o : MemberOp) (d : Dev) : (issueNow b o d).cove = d.cove := by
  obtain ⟨_, _, _, _, _, _, h⟩ := issueNow_shape b o d; rw [h]
@[simp] theorem issueNow_keys (b : Nat) (o : MemberOp) (d : Dev) : (issueNow b o d).keys = d.keys := by
  obtain ⟨_, _, _, _, _, _, h⟩ := issueNow_shape b o d; rw [h]
@[simp] theorem issueNow_light (b : Nat) (o : MemberOp) (d : Dev) : (issueNow b o d).light = d.light := by
  obtain ⟨_, _, _, _, _, _, h⟩ := issueNow_shape b o d; rw [h]
@[simp] theorem issueNow_tline (b : Nat) (o : MemberOp) (d : Dev) : (issueNow b o d).tline = d.tline := by
  obtain ⟨_, _, _, _, _, _, h⟩ := issueNow_shape b o d; rw [h]
@[simp] theorem issueNow_bay (b : Nat) (o : MemberOp) (d : Dev) : (issueNow b o d).bay = d.bay := by
  obtain ⟨_, _, _, _, _, _, h⟩ := issueNow_shape b o d; rw [h]
@[simp] theorem issueNow_readData (b : Nat) (o : MemberOp) (d : Dev) : (issueNow b o d).readData = d.readData := by
  obtain ⟨_, _, _, _, _, _, h⟩ := issueNow_shape b o d; rw [h]
@[simp] theorem issueNow_readBytes (b : Nat) (o : MemberOp) (d : Dev) : (issueNow b o d).readBytes = d.readBytes := by
  obtain ⟨_, _, _, _, _, _, h⟩ := issueNow_shape b o d; rw [h]
@[simp] theorem issueNow_draws (b : Nat) (o : MemberOp) (d : Dev) : (issueNow b o d).draws = d.draws := by
  obtain ⟨_, _, _, _, _, _, h⟩ := issueNow_shape b o d; rw [h]

@[simp] theorem memberIssue_ev (b : Nat) (o : MemberOp) (d : Dev) : (memberIssue b o d).ev = d.ev := by
  obtain ⟨_, _, _, _, _, _, _, h⟩ := memberIssue_shape b o d; rw [h]
@[simp] theorem memberIssue_chart (b : Nat) (o : MemberOp) (d : Dev) : (memberIssue b o d).chart = d.chart := by
  obtain ⟨_, _, _, _, _, _, _, h⟩ := memberIssue_shape b o d; rw [h]
@[simp] theorem memberIssue_clk (b : Nat) (o : MemberOp) (d : Dev) : (memberIssue b o d).clk = d.clk := by
  obtain ⟨_, _, _, _, _, _, _, h⟩ := memberIssue_shape b o d; rw [h]
@[simp] theorem memberIssue_sched (b : Nat) (o : MemberOp) (d : Dev) : (memberIssue b o d).sched = d.sched := by
  obtain ⟨_, _, _, _, _, _, _, h⟩ := memberIssue_shape b o d; rw [h]
@[simp] theorem memberIssue_prism (b : Nat) (o : MemberOp) (d : Dev) : (memberIssue b o d).prism = d.prism := by
  obtain ⟨_, _, _, _, _, _, _, h⟩ := memberIssue_shape b o d; rw [h]
@[simp] theorem memberIssue_mhi (b : Nat) (o : MemberOp) (d : Dev) : (memberIssue b o d).mhi = d.mhi := by
  obtain ⟨_, _, _, _, _, _, _, h⟩ := memberIssue_shape b o d; rw [h]
@[simp] theorem memberIssue_boot (b : Nat) (o : MemberOp) (d : Dev) : (memberIssue b o d).boot = d.boot := by
  obtain ⟨_, _, _, _, _, _, _, h⟩ := memberIssue_shape b o d; rw [h]
@[simp] theorem memberIssue_pair (b : Nat) (o : MemberOp) (d : Dev) : (memberIssue b o d).pair = d.pair := by
  obtain ⟨_, _, _, _, _, _, _, h⟩ := memberIssue_shape b o d; rw [h]
@[simp] theorem memberIssue_pool (b : Nat) (o : MemberOp) (d : Dev) : (memberIssue b o d).pool = d.pool := by
  obtain ⟨_, _, _, _, _, _, _, h⟩ := memberIssue_shape b o d; rw [h]
@[simp] theorem memberIssue_str (b : Nat) (o : MemberOp) (d : Dev) : (memberIssue b o d).str = d.str := by
  obtain ⟨_, _, _, _, _, _, _, h⟩ := memberIssue_shape b o d; rw [h]
@[simp] theorem memberIssue_adm (b : Nat) (o : MemberOp) (d : Dev) : (memberIssue b o d).adm = d.adm := by
  obtain ⟨_, _, _, _, _, _, _, h⟩ := memberIssue_shape b o d; rw [h]
@[simp] theorem memberIssue_host (b : Nat) (o : MemberOp) (d : Dev) : (memberIssue b o d).host = d.host := by
  obtain ⟨_, _, _, _, _, _, _, h⟩ := memberIssue_shape b o d; rw [h]
@[simp] theorem memberIssue_net (b : Nat) (o : MemberOp) (d : Dev) : (memberIssue b o d).net = d.net := by
  obtain ⟨_, _, _, _, _, _, _, h⟩ := memberIssue_shape b o d; rw [h]
@[simp] theorem memberIssue_cove (b : Nat) (o : MemberOp) (d : Dev) : (memberIssue b o d).cove = d.cove := by
  obtain ⟨_, _, _, _, _, _, _, h⟩ := memberIssue_shape b o d; rw [h]
@[simp] theorem memberIssue_keys (b : Nat) (o : MemberOp) (d : Dev) : (memberIssue b o d).keys = d.keys := by
  obtain ⟨_, _, _, _, _, _, _, h⟩ := memberIssue_shape b o d; rw [h]
@[simp] theorem memberIssue_light (b : Nat) (o : MemberOp) (d : Dev) : (memberIssue b o d).light = d.light := by
  obtain ⟨_, _, _, _, _, _, _, h⟩ := memberIssue_shape b o d; rw [h]
@[simp] theorem memberIssue_tline (b : Nat) (o : MemberOp) (d : Dev) : (memberIssue b o d).tline = d.tline := by
  obtain ⟨_, _, _, _, _, _, _, h⟩ := memberIssue_shape b o d; rw [h]
@[simp] theorem memberIssue_bay (b : Nat) (o : MemberOp) (d : Dev) : (memberIssue b o d).bay = d.bay := by
  obtain ⟨_, _, _, _, _, _, _, h⟩ := memberIssue_shape b o d; rw [h]
@[simp] theorem memberIssue_readData (b : Nat) (o : MemberOp) (d : Dev) : (memberIssue b o d).readData = d.readData := by
  obtain ⟨_, _, _, _, _, _, _, h⟩ := memberIssue_shape b o d; rw [h]
@[simp] theorem memberIssue_readBytes (b : Nat) (o : MemberOp) (d : Dev) : (memberIssue b o d).readBytes = d.readBytes := by
  obtain ⟨_, _, _, _, _, _, _, h⟩ := memberIssue_shape b o d; rw [h]
@[simp] theorem memberIssue_draws (b : Nat) (o : MemberOp) (d : Dev) : (memberIssue b o d).draws = d.draws := by
  obtain ⟨_, _, _, _, _, _, _, h⟩ := memberIssue_shape b o d; rw [h]

@[simp] theorem emit_ev (o : Out) (d : Dev) : (emit o d).ev = d.ev := rfl
@[simp] theorem emit_perf (o : Out) (d : Dev) : (emit o d).perf = d.perf := rfl
@[simp] theorem emit_chart (o : Out) (d : Dev) : (emit o d).chart = d.chart := rfl
@[simp] theorem emit_clk (o : Out) (d : Dev) : (emit o d).clk = d.clk := rfl
@[simp] theorem emit_sched (o : Out) (d : Dev) : (emit o d).sched = d.sched := rfl
@[simp] theorem emit_prism (o : Out) (d : Dev) : (emit o d).prism = d.prism := rfl
@[simp] theorem emit_mhi (o : Out) (d : Dev) : (emit o d).mhi = d.mhi := rfl
@[simp] theorem emit_boot (o : Out) (d : Dev) : (emit o d).boot = d.boot := rfl
@[simp] theorem emit_pair (o : Out) (d : Dev) : (emit o d).pair = d.pair := rfl
@[simp] theorem emit_pool (o : Out) (d : Dev) : (emit o d).pool = d.pool := rfl
@[simp] theorem emit_str (o : Out) (d : Dev) : (emit o d).str = d.str := rfl
@[simp] theorem emit_adm (o : Out) (d : Dev) : (emit o d).adm = d.adm := rfl
@[simp] theorem emit_shelf (o : Out) (d : Dev) : (emit o d).shelf = d.shelf := rfl
@[simp] theorem emit_host (o : Out) (d : Dev) : (emit o d).host = d.host := rfl
@[simp] theorem emit_net (o : Out) (d : Dev) : (emit o d).net = d.net := rfl
@[simp] theorem emit_cove (o : Out) (d : Dev) : (emit o d).cove = d.cove := rfl
@[simp] theorem emit_keys (o : Out) (d : Dev) : (emit o d).keys = d.keys := rfl
@[simp] theorem emit_light (o : Out) (d : Dev) : (emit o d).light = d.light := rfl
@[simp] theorem emit_tline (o : Out) (d : Dev) : (emit o d).tline = d.tline := rfl
@[simp] theorem emit_bay (o : Out) (d : Dev) : (emit o d).bay = d.bay := rfl
@[simp] theorem emit_path (o : Out) (d : Dev) : (emit o d).path = d.path := rfl
@[simp] theorem emit_readData (o : Out) (d : Dev) : (emit o d).readData = d.readData := rfl
@[simp] theorem emit_readBytes (o : Out) (d : Dev) : (emit o d).readBytes = d.readBytes := rfl
@[simp] theorem emit_draws (o : Out) (d : Dev) : (emit o d).draws = d.draws := rfl

@[simp] theorem setBay_ev (n : Nat) (b : Bay) (d : Dev) : (setBay n b d).ev = d.ev := rfl
@[simp] theorem setBay_perf (n : Nat) (b : Bay) (d : Dev) : (setBay n b d).perf = d.perf := rfl
@[simp] theorem setBay_chart (n : Nat) (b : Bay) (d : Dev) : (setBay n b d).chart = d.chart := rfl
@[simp] theorem setBay_clk (n : Nat) (b : Bay) (d : Dev) : (setBay n b d).clk = d.clk := rfl
@[simp] theorem setBay_sched (n : Nat) (b : Bay) (d : Dev) : (setBay n b d).sched = d.sched := rfl
@[simp] theorem setBay_prism (n : Nat) (b : Bay) (d : Dev) : (setBay n b d).prism = d.prism := rfl
@[simp] theorem setBay_mhi (n : Nat) (b : Bay) (d : Dev) : (setBay n b d).mhi = d.mhi := rfl
@[simp] theorem setBay_boot (n : Nat) (b : Bay) (d : Dev) : (setBay n b d).boot = d.boot := rfl
@[simp] theorem setBay_pair (n : Nat) (b : Bay) (d : Dev) : (setBay n b d).pair = d.pair := rfl
@[simp] theorem setBay_pool (n : Nat) (b : Bay) (d : Dev) : (setBay n b d).pool = d.pool := rfl
@[simp] theorem setBay_str (n : Nat) (b : Bay) (d : Dev) : (setBay n b d).str = d.str := rfl
@[simp] theorem setBay_adm (n : Nat) (b : Bay) (d : Dev) : (setBay n b d).adm = d.adm := rfl
@[simp] theorem setBay_shelf (n : Nat) (b : Bay) (d : Dev) : (setBay n b d).shelf = d.shelf := rfl
@[simp] theorem setBay_host (n : Nat) (b : Bay) (d : Dev) : (setBay n b d).host = d.host := rfl
@[simp] theorem setBay_net (n : Nat) (b : Bay) (d : Dev) : (setBay n b d).net = d.net := rfl
@[simp] theorem setBay_cove (n : Nat) (b : Bay) (d : Dev) : (setBay n b d).cove = d.cove := rfl
@[simp] theorem setBay_keys (n : Nat) (b : Bay) (d : Dev) : (setBay n b d).keys = d.keys := rfl
@[simp] theorem setBay_light (n : Nat) (b : Bay) (d : Dev) : (setBay n b d).light = d.light := rfl
@[simp] theorem setBay_tline (n : Nat) (b : Bay) (d : Dev) : (setBay n b d).tline = d.tline := rfl
@[simp] theorem setBay_path (n : Nat) (b : Bay) (d : Dev) : (setBay n b d).path = d.path := rfl
@[simp] theorem setBay_out (n : Nat) (b : Bay) (d : Dev) : (setBay n b d).out = d.out := rfl
@[simp] theorem setBay_readData (n : Nat) (b : Bay) (d : Dev) : (setBay n b d).readData = d.readData := rfl
@[simp] theorem setBay_readBytes (n : Nat) (b : Bay) (d : Dev) : (setBay n b d).readBytes = d.readBytes := rfl
@[simp] theorem setBay_draws (n : Nat) (b : Bay) (d : Dev) : (setBay n b d).draws = d.draws := rfl

@[simp] theorem modSq_ev (c q : Nat) (f : Sq → Sq) (d : Dev) : (modSq c q f d).ev = d.ev := rfl
@[simp] theorem modSq_perf (c q : Nat) (f : Sq → Sq) (d : Dev) : (modSq c q f d).perf = d.perf := rfl
@[simp] theorem modSq_chart (c q : Nat) (f : Sq → Sq) (d : Dev) : (modSq c q f d).chart = d.chart := rfl
@[simp] theorem modSq_clk (c q : Nat) (f : Sq → Sq) (d : Dev) : (modSq c q f d).clk = d.clk := rfl
@[simp] theorem modSq_sched (c q : Nat) (f : Sq → Sq) (d : Dev) : (modSq c q f d).sched = d.sched := rfl
@[simp] theorem modSq_prism (c q : Nat) (f : Sq → Sq) (d : Dev) : (modSq c q f d).prism = d.prism := rfl
@[simp] theorem modSq_mhi (c q : Nat) (f : Sq → Sq) (d : Dev) : (modSq c q f d).mhi = d.mhi := rfl
@[simp] theorem modSq_boot (c q : Nat) (f : Sq → Sq) (d : Dev) : (modSq c q f d).boot = d.boot := rfl
@[simp] theorem modSq_pair (c q : Nat) (f : Sq → Sq) (d : Dev) : (modSq c q f d).pair = d.pair := rfl
@[simp] theorem modSq_pool (c q : Nat) (f : Sq → Sq) (d : Dev) : (modSq c q f d).pool = d.pool := rfl
@[simp] theorem modSq_str (c q : Nat) (f : Sq → Sq) (d : Dev) : (modSq c q f d).str = d.str := rfl
@[simp] theorem modSq_adm (c q : Nat) (f : Sq → Sq) (d : Dev) : (modSq c q f d).adm = d.adm := rfl
@[simp] theorem modSq_shelf (c q : Nat) (f : Sq → Sq) (d : Dev) : (modSq c q f d).shelf = d.shelf := rfl
@[simp] theorem modSq_net (c q : Nat) (f : Sq → Sq) (d : Dev) : (modSq c q f d).net = d.net := rfl
@[simp] theorem modSq_cove (c q : Nat) (f : Sq → Sq) (d : Dev) : (modSq c q f d).cove = d.cove := rfl
@[simp] theorem modSq_keys (c q : Nat) (f : Sq → Sq) (d : Dev) : (modSq c q f d).keys = d.keys := rfl
@[simp] theorem modSq_light (c q : Nat) (f : Sq → Sq) (d : Dev) : (modSq c q f d).light = d.light := rfl
@[simp] theorem modSq_tline (c q : Nat) (f : Sq → Sq) (d : Dev) : (modSq c q f d).tline = d.tline := rfl
@[simp] theorem modSq_bay (c q : Nat) (f : Sq → Sq) (d : Dev) : (modSq c q f d).bay = d.bay := rfl
@[simp] theorem modSq_path (c q : Nat) (f : Sq → Sq) (d : Dev) : (modSq c q f d).path = d.path := rfl
@[simp] theorem modSq_out (c q : Nat) (f : Sq → Sq) (d : Dev) : (modSq c q f d).out = d.out := rfl
@[simp] theorem modSq_readData (c q : Nat) (f : Sq → Sq) (d : Dev) : (modSq c q f d).readData = d.readData := rfl
@[simp] theorem modSq_readBytes (c q : Nat) (f : Sq → Sq) (d : Dev) : (modSq c q f d).readBytes = d.readBytes := rfl
@[simp] theorem modSq_draws (c q : Nat) (f : Sq → Sq) (d : Dev) : (modSq c q f d).draws = d.draws := rfl

@[simp] theorem modCtrl_ev (c : Nat) (f : Ctrl → Ctrl) (d : Dev) : (modCtrl c f d).ev = d.ev := rfl
@[simp] theorem modCtrl_perf (c : Nat) (f : Ctrl → Ctrl) (d : Dev) : (modCtrl c f d).perf = d.perf := rfl
@[simp] theorem modCtrl_chart (c : Nat) (f : Ctrl → Ctrl) (d : Dev) : (modCtrl c f d).chart = d.chart := rfl
@[simp] theorem modCtrl_clk (c : Nat) (f : Ctrl → Ctrl) (d : Dev) : (modCtrl c f d).clk = d.clk := rfl
@[simp] theorem modCtrl_sched (c : Nat) (f : Ctrl → Ctrl) (d : Dev) : (modCtrl c f d).sched = d.sched := rfl
@[simp] theorem modCtrl_prism (c : Nat) (f : Ctrl → Ctrl) (d : Dev) : (modCtrl c f d).prism = d.prism := rfl
@[simp] theorem modCtrl_mhi (c : Nat) (f : Ctrl → Ctrl) (d : Dev) : (modCtrl c f d).mhi = d.mhi := rfl
@[simp] theorem modCtrl_boot (c : Nat) (f : Ctrl → Ctrl) (d : Dev) : (modCtrl c f d).boot = d.boot := rfl
@[simp] theorem modCtrl_pair (c : Nat) (f : Ctrl → Ctrl) (d : Dev) : (modCtrl c f d).pair = d.pair := rfl
@[simp] theorem modCtrl_pool (c : Nat) (f : Ctrl → Ctrl) (d : Dev) : (modCtrl c f d).pool = d.pool := rfl
@[simp] theorem modCtrl_str (c : Nat) (f : Ctrl → Ctrl) (d : Dev) : (modCtrl c f d).str = d.str := rfl
@[simp] theorem modCtrl_adm (c : Nat) (f : Ctrl → Ctrl) (d : Dev) : (modCtrl c f d).adm = d.adm := rfl
@[simp] theorem modCtrl_shelf (c : Nat) (f : Ctrl → Ctrl) (d : Dev) : (modCtrl c f d).shelf = d.shelf := rfl
@[simp] theorem modCtrl_net (c : Nat) (f : Ctrl → Ctrl) (d : Dev) : (modCtrl c f d).net = d.net := rfl
@[simp] theorem modCtrl_cove (c : Nat) (f : Ctrl → Ctrl) (d : Dev) : (modCtrl c f d).cove = d.cove := rfl
@[simp] theorem modCtrl_keys (c : Nat) (f : Ctrl → Ctrl) (d : Dev) : (modCtrl c f d).keys = d.keys := rfl
@[simp] theorem modCtrl_light (c : Nat) (f : Ctrl → Ctrl) (d : Dev) : (modCtrl c f d).light = d.light := rfl
@[simp] theorem modCtrl_tline (c : Nat) (f : Ctrl → Ctrl) (d : Dev) : (modCtrl c f d).tline = d.tline := rfl
@[simp] theorem modCtrl_bay (c : Nat) (f : Ctrl → Ctrl) (d : Dev) : (modCtrl c f d).bay = d.bay := rfl
@[simp] theorem modCtrl_path (c : Nat) (f : Ctrl → Ctrl) (d : Dev) : (modCtrl c f d).path = d.path := rfl
@[simp] theorem modCtrl_out (c : Nat) (f : Ctrl → Ctrl) (d : Dev) : (modCtrl c f d).out = d.out := rfl
@[simp] theorem modCtrl_readData (c : Nat) (f : Ctrl → Ctrl) (d : Dev) : (modCtrl c f d).readData = d.readData := rfl
@[simp] theorem modCtrl_readBytes (c : Nat) (f : Ctrl → Ctrl) (d : Dev) : (modCtrl c f d).readBytes = d.readBytes := rfl
@[simp] theorem modCtrl_draws (c : Nat) (f : Ctrl → Ctrl) (d : Dev) : (modCtrl c f d).draws = d.draws := rfl

@[simp] theorem setQp_ev (n : Nat) (q : Qp) (d : Dev) : (setQp n q d).ev = d.ev := rfl
@[simp] theorem setQp_perf (n : Nat) (q : Qp) (d : Dev) : (setQp n q d).perf = d.perf := rfl
@[simp] theorem setQp_chart (n : Nat) (q : Qp) (d : Dev) : (setQp n q d).chart = d.chart := rfl
@[simp] theorem setQp_clk (n : Nat) (q : Qp) (d : Dev) : (setQp n q d).clk = d.clk := rfl
@[simp] theorem setQp_sched (n : Nat) (q : Qp) (d : Dev) : (setQp n q d).sched = d.sched := rfl
@[simp] theorem setQp_prism (n : Nat) (q : Qp) (d : Dev) : (setQp n q d).prism = d.prism := rfl
@[simp] theorem setQp_mhi (n : Nat) (q : Qp) (d : Dev) : (setQp n q d).mhi = d.mhi := rfl
@[simp] theorem setQp_boot (n : Nat) (q : Qp) (d : Dev) : (setQp n q d).boot = d.boot := rfl
@[simp] theorem setQp_pair (n : Nat) (q : Qp) (d : Dev) : (setQp n q d).pair = d.pair := rfl
@[simp] theorem setQp_pool (n : Nat) (q : Qp) (d : Dev) : (setQp n q d).pool = d.pool := rfl
@[simp] theorem setQp_str (n : Nat) (q : Qp) (d : Dev) : (setQp n q d).str = d.str := rfl
@[simp] theorem setQp_adm (n : Nat) (q : Qp) (d : Dev) : (setQp n q d).adm = d.adm := rfl
@[simp] theorem setQp_shelf (n : Nat) (q : Qp) (d : Dev) : (setQp n q d).shelf = d.shelf := rfl
@[simp] theorem setQp_host (n : Nat) (q : Qp) (d : Dev) : (setQp n q d).host = d.host := rfl
@[simp] theorem setQp_cove (n : Nat) (q : Qp) (d : Dev) : (setQp n q d).cove = d.cove := rfl
@[simp] theorem setQp_keys (n : Nat) (q : Qp) (d : Dev) : (setQp n q d).keys = d.keys := rfl
@[simp] theorem setQp_light (n : Nat) (q : Qp) (d : Dev) : (setQp n q d).light = d.light := rfl
@[simp] theorem setQp_tline (n : Nat) (q : Qp) (d : Dev) : (setQp n q d).tline = d.tline := rfl
@[simp] theorem setQp_bay (n : Nat) (q : Qp) (d : Dev) : (setQp n q d).bay = d.bay := rfl
@[simp] theorem setQp_path (n : Nat) (q : Qp) (d : Dev) : (setQp n q d).path = d.path := rfl
@[simp] theorem setQp_out (n : Nat) (q : Qp) (d : Dev) : (setQp n q d).out = d.out := rfl
@[simp] theorem setQp_readData (n : Nat) (q : Qp) (d : Dev) : (setQp n q d).readData = d.readData := rfl
@[simp] theorem setQp_readBytes (n : Nat) (q : Qp) (d : Dev) : (setQp n q d).readBytes = d.readBytes := rfl
@[simp] theorem setQp_draws (n : Nat) (q : Qp) (d : Dev) : (setQp n q d).draws = d.draws := rfl

@[simp] theorem setLabel_ev (n : Nat) (l : ShoalLabel) (d : Dev) : (setLabel n l d).ev = d.ev := rfl
@[simp] theorem setLabel_perf (n : Nat) (l : ShoalLabel) (d : Dev) : (setLabel n l d).perf = d.perf := rfl
@[simp] theorem setLabel_chart (n : Nat) (l : ShoalLabel) (d : Dev) : (setLabel n l d).chart = d.chart := rfl
@[simp] theorem setLabel_clk (n : Nat) (l : ShoalLabel) (d : Dev) : (setLabel n l d).clk = d.clk := rfl
@[simp] theorem setLabel_sched (n : Nat) (l : ShoalLabel) (d : Dev) : (setLabel n l d).sched = d.sched := rfl
@[simp] theorem setLabel_prism (n : Nat) (l : ShoalLabel) (d : Dev) : (setLabel n l d).prism = d.prism := rfl
@[simp] theorem setLabel_mhi (n : Nat) (l : ShoalLabel) (d : Dev) : (setLabel n l d).mhi = d.mhi := rfl
@[simp] theorem setLabel_boot (n : Nat) (l : ShoalLabel) (d : Dev) : (setLabel n l d).boot = d.boot := rfl
@[simp] theorem setLabel_pair (n : Nat) (l : ShoalLabel) (d : Dev) : (setLabel n l d).pair = d.pair := rfl
@[simp] theorem setLabel_pool (n : Nat) (l : ShoalLabel) (d : Dev) : (setLabel n l d).pool = d.pool := rfl
@[simp] theorem setLabel_str (n : Nat) (l : ShoalLabel) (d : Dev) : (setLabel n l d).str = d.str := rfl
@[simp] theorem setLabel_adm (n : Nat) (l : ShoalLabel) (d : Dev) : (setLabel n l d).adm = d.adm := rfl
@[simp] theorem setLabel_host (n : Nat) (l : ShoalLabel) (d : Dev) : (setLabel n l d).host = d.host := rfl
@[simp] theorem setLabel_net (n : Nat) (l : ShoalLabel) (d : Dev) : (setLabel n l d).net = d.net := rfl
@[simp] theorem setLabel_cove (n : Nat) (l : ShoalLabel) (d : Dev) : (setLabel n l d).cove = d.cove := rfl
@[simp] theorem setLabel_keys (n : Nat) (l : ShoalLabel) (d : Dev) : (setLabel n l d).keys = d.keys := rfl
@[simp] theorem setLabel_light (n : Nat) (l : ShoalLabel) (d : Dev) : (setLabel n l d).light = d.light := rfl
@[simp] theorem setLabel_tline (n : Nat) (l : ShoalLabel) (d : Dev) : (setLabel n l d).tline = d.tline := rfl
@[simp] theorem setLabel_bay (n : Nat) (l : ShoalLabel) (d : Dev) : (setLabel n l d).bay = d.bay := rfl
@[simp] theorem setLabel_path (n : Nat) (l : ShoalLabel) (d : Dev) : (setLabel n l d).path = d.path := rfl
@[simp] theorem setLabel_out (n : Nat) (l : ShoalLabel) (d : Dev) : (setLabel n l d).out = d.out := rfl
@[simp] theorem setLabel_readData (n : Nat) (l : ShoalLabel) (d : Dev) : (setLabel n l d).readData = d.readData := rfl
@[simp] theorem setLabel_readBytes (n : Nat) (l : ShoalLabel) (d : Dev) : (setLabel n l d).readBytes = d.readBytes := rfl
@[simp] theorem setLabel_draws (n : Nat) (l : ShoalLabel) (d : Dev) : (setLabel n l d).draws = d.draws := rfl

@[simp] theorem modShoal_ev (n : Nat) (f : ShoalSt → ShoalSt) (d : Dev) : (modShoal n f d).ev = d.ev := rfl
@[simp] theorem modShoal_perf (n : Nat) (f : ShoalSt → ShoalSt) (d : Dev) : (modShoal n f d).perf = d.perf := rfl
@[simp] theorem modShoal_chart (n : Nat) (f : ShoalSt → ShoalSt) (d : Dev) : (modShoal n f d).chart = d.chart := rfl
@[simp] theorem modShoal_clk (n : Nat) (f : ShoalSt → ShoalSt) (d : Dev) : (modShoal n f d).clk = d.clk := rfl
@[simp] theorem modShoal_sched (n : Nat) (f : ShoalSt → ShoalSt) (d : Dev) : (modShoal n f d).sched = d.sched := rfl
@[simp] theorem modShoal_prism (n : Nat) (f : ShoalSt → ShoalSt) (d : Dev) : (modShoal n f d).prism = d.prism := rfl
@[simp] theorem modShoal_mhi (n : Nat) (f : ShoalSt → ShoalSt) (d : Dev) : (modShoal n f d).mhi = d.mhi := rfl
@[simp] theorem modShoal_boot (n : Nat) (f : ShoalSt → ShoalSt) (d : Dev) : (modShoal n f d).boot = d.boot := rfl
@[simp] theorem modShoal_pair (n : Nat) (f : ShoalSt → ShoalSt) (d : Dev) : (modShoal n f d).pair = d.pair := rfl
@[simp] theorem modShoal_pool (n : Nat) (f : ShoalSt → ShoalSt) (d : Dev) : (modShoal n f d).pool = d.pool := rfl
@[simp] theorem modShoal_adm (n : Nat) (f : ShoalSt → ShoalSt) (d : Dev) : (modShoal n f d).adm = d.adm := rfl
@[simp] theorem modShoal_shelf (n : Nat) (f : ShoalSt → ShoalSt) (d : Dev) : (modShoal n f d).shelf = d.shelf := rfl
@[simp] theorem modShoal_host (n : Nat) (f : ShoalSt → ShoalSt) (d : Dev) : (modShoal n f d).host = d.host := rfl
@[simp] theorem modShoal_net (n : Nat) (f : ShoalSt → ShoalSt) (d : Dev) : (modShoal n f d).net = d.net := rfl
@[simp] theorem modShoal_cove (n : Nat) (f : ShoalSt → ShoalSt) (d : Dev) : (modShoal n f d).cove = d.cove := rfl
@[simp] theorem modShoal_keys (n : Nat) (f : ShoalSt → ShoalSt) (d : Dev) : (modShoal n f d).keys = d.keys := rfl
@[simp] theorem modShoal_light (n : Nat) (f : ShoalSt → ShoalSt) (d : Dev) : (modShoal n f d).light = d.light := rfl
@[simp] theorem modShoal_tline (n : Nat) (f : ShoalSt → ShoalSt) (d : Dev) : (modShoal n f d).tline = d.tline := rfl
@[simp] theorem modShoal_bay (n : Nat) (f : ShoalSt → ShoalSt) (d : Dev) : (modShoal n f d).bay = d.bay := rfl
@[simp] theorem modShoal_path (n : Nat) (f : ShoalSt → ShoalSt) (d : Dev) : (modShoal n f d).path = d.path := rfl
@[simp] theorem modShoal_out (n : Nat) (f : ShoalSt → ShoalSt) (d : Dev) : (modShoal n f d).out = d.out := rfl
@[simp] theorem modShoal_readData (n : Nat) (f : ShoalSt → ShoalSt) (d : Dev) : (modShoal n f d).readData = d.readData := rfl
@[simp] theorem modShoal_readBytes (n : Nat) (f : ShoalSt → ShoalSt) (d : Dev) : (modShoal n f d).readBytes = d.readBytes := rfl
@[simp] theorem modShoal_draws (n : Nat) (f : ShoalSt → ShoalSt) (d : Dev) : (modShoal n f d).draws = d.draws := rfl

@[simp] theorem modCove_ev (c : Nat) (f : CoveRec → CoveRec) (d : Dev) : (modCove c f d).ev = d.ev := rfl
@[simp] theorem modCove_perf (c : Nat) (f : CoveRec → CoveRec) (d : Dev) : (modCove c f d).perf = d.perf := rfl
@[simp] theorem modCove_chart (c : Nat) (f : CoveRec → CoveRec) (d : Dev) : (modCove c f d).chart = d.chart := rfl
@[simp] theorem modCove_clk (c : Nat) (f : CoveRec → CoveRec) (d : Dev) : (modCove c f d).clk = d.clk := rfl
@[simp] theorem modCove_sched (c : Nat) (f : CoveRec → CoveRec) (d : Dev) : (modCove c f d).sched = d.sched := rfl
@[simp] theorem modCove_prism (c : Nat) (f : CoveRec → CoveRec) (d : Dev) : (modCove c f d).prism = d.prism := rfl
@[simp] theorem modCove_mhi (c : Nat) (f : CoveRec → CoveRec) (d : Dev) : (modCove c f d).mhi = d.mhi := rfl
@[simp] theorem modCove_boot (c : Nat) (f : CoveRec → CoveRec) (d : Dev) : (modCove c f d).boot = d.boot := rfl
@[simp] theorem modCove_pair (c : Nat) (f : CoveRec → CoveRec) (d : Dev) : (modCove c f d).pair = d.pair := rfl
@[simp] theorem modCove_pool (c : Nat) (f : CoveRec → CoveRec) (d : Dev) : (modCove c f d).pool = d.pool := rfl
@[simp] theorem modCove_str (c : Nat) (f : CoveRec → CoveRec) (d : Dev) : (modCove c f d).str = d.str := rfl
@[simp] theorem modCove_adm (c : Nat) (f : CoveRec → CoveRec) (d : Dev) : (modCove c f d).adm = d.adm := rfl
@[simp] theorem modCove_shelf (c : Nat) (f : CoveRec → CoveRec) (d : Dev) : (modCove c f d).shelf = d.shelf := rfl
@[simp] theorem modCove_host (c : Nat) (f : CoveRec → CoveRec) (d : Dev) : (modCove c f d).host = d.host := rfl
@[simp] theorem modCove_net (c : Nat) (f : CoveRec → CoveRec) (d : Dev) : (modCove c f d).net = d.net := rfl
@[simp] theorem modCove_keys (c : Nat) (f : CoveRec → CoveRec) (d : Dev) : (modCove c f d).keys = d.keys := rfl
@[simp] theorem modCove_light (c : Nat) (f : CoveRec → CoveRec) (d : Dev) : (modCove c f d).light = d.light := rfl
@[simp] theorem modCove_tline (c : Nat) (f : CoveRec → CoveRec) (d : Dev) : (modCove c f d).tline = d.tline := rfl
@[simp] theorem modCove_bay (c : Nat) (f : CoveRec → CoveRec) (d : Dev) : (modCove c f d).bay = d.bay := rfl
@[simp] theorem modCove_path (c : Nat) (f : CoveRec → CoveRec) (d : Dev) : (modCove c f d).path = d.path := rfl
@[simp] theorem modCove_out (c : Nat) (f : CoveRec → CoveRec) (d : Dev) : (modCove c f d).out = d.out := rfl
@[simp] theorem modCove_readData (c : Nat) (f : CoveRec → CoveRec) (d : Dev) : (modCove c f d).readData = d.readData := rfl
@[simp] theorem modCove_readBytes (c : Nat) (f : CoveRec → CoveRec) (d : Dev) : (modCove c f d).readBytes = d.readBytes := rfl
@[simp] theorem modCove_draws (c : Nat) (f : CoveRec → CoveRec) (d : Dev) : (modCove c f d).draws = d.draws := rfl

/-! ## Memory operations keep the canonical form -/

theorem writeFwSlot_wf (d : Dev) (k : Nat) (l : List Byte) {m : Memory} (h : m.wf = true) : (writeFwSlot d k l m).wf = true :=
  mputs_wf _ _ (mclear_wf _ _ h)

theorem writeChartSlot_wf (d : Dev) (k : Nat) (l : List Byte) {m : Memory} (h : m.wf = true) : (writeChartSlot d k l m).wf = true :=
  mputs_wf _ _ (mclear_wf _ _ h)

theorem moveImages_wf (d : Dev) (n : PoolLayout) {m : Memory} (h : m.wf = true) : (moveImages d n m).wf = true :=
  mputs_wf _ _ (mclear_wf _ _ h)

theorem placeMbox_wf (d : Dev) {m : Memory} (h : m.wf = true) : (placeMbox d m).2.wf = true := by
  simp only [placeMbox]
  split
  · exact h
  · exact mputs_wf _ _ (mputs_wf _ _ h)

end Sys2Proof.Machine
end

