-- ==== Sys2Proof/Laws/Tables.lean ====
section
/-! SUPPORT. Tables: what a lookup gives after a store or a removal. -/

namespace Sys2Proof.Machine

variable {α : Type}

@[simp] theorem tget_nil (k : Nat) : tget ([] : Table α) k = none := rfl

@[simp] theorem tget_tput (t : Table α) (k : Nat) (v : α) : tget (tput t k v) k = some v := by
  induction t with
  | nil => simp [tput, tget]
  | cons e r ih =>
    obtain ⟨j, w⟩ := e
    simp only [tput]
    split
    · simp [tget]
    · split
      · simp [tget]
      · rename_i h1 h2
        simpa [tget, List.lookup, beq_false_of_ne h2] using ih

theorem tget_tput_ne (t : Table α) {k j : Nat} (v : α) (h : j ≠ k) : tget (tput t k v) j = tget t j := by
  induction t with
  | nil => simp [tput, tget, List.lookup, beq_false_of_ne h]
  | cons e r ih =>
    obtain ⟨i, w⟩ := e
    simp only [tput]
    split
    · simp [tget, List.lookup, beq_false_of_ne h]
    · split
      · rename_i h1 h2; subst h2; simp [tget, List.lookup, beq_false_of_ne h]
      · simp only [tget] at ih
        simp only [tget, List.lookup]; split <;> simp_all

@[simp] theorem tget_terase (t : Table α) (k : Nat) : tget (terase t k) k = none := by
  induction t with
  | nil => rfl
  | cons e r ih =>
    obtain ⟨j, w⟩ := e
    simp only [terase, tget, List.filter] at *
    split
    · rename_i h; simp at h; simp [List.lookup, beq_false_of_ne (Ne.symm h), ih]
    · exact ih

theorem tget_terase_ne (t : Table α) {k j : Nat} (h : j ≠ k) : tget (terase t k) j = tget t j := by
  induction t with
  | nil => rfl
  | cons e r ih =>
    obtain ⟨i, w⟩ := e
    simp only [terase, tget, List.filter] at *
    split
    · simp only [List.lookup]; split <;> simp_all
    · rename_i h1; simp at h1; subst h1; simp [List.lookup, beq_false_of_ne h, ih]

@[simp] theorem tget_tmod (t : Table α) (k : Nat) (f : α → α) : tget (tmod t k f) k = (tget t k).map f := by
  induction t with
  | nil => rfl
  | cons e r ih =>
    obtain ⟨i, w⟩ := e
    simp only [tmod, tget, List.map_cons] at *
    by_cases h : i = k
    · subst h; simp [List.lookup]
    · simp [h, List.lookup, beq_false_of_ne (Ne.symm h), ih]

theorem tget_tmod_ne (t : Table α) {k j : Nat} (f : α → α) (h : j ≠ k) : tget (tmod t k f) j = tget t j := by
  induction t with
  | nil => rfl
  | cons e r ih =>
    obtain ⟨i, w⟩ := e
    simp only [tmod, tget, List.map_cons] at *
    by_cases h1 : i = k
    · subst h1; simp [List.lookup, beq_false_of_ne h, ih]
    · simp only [h1, if_false, List.lookup]; split <;> simp_all

@[simp] theorem tget_tall (t : Table α) (k : Nat) (f : α → α) : tget (tall t f) k = (tget t k).map f := by
  induction t with
  | nil => rfl
  | cons e r ih =>
    obtain ⟨i, w⟩ := e
    simp only [tall, tget, List.map_cons, List.lookup] at *
    split <;> simp_all

end Sys2Proof.Machine
end

