-- ==== Sys2Proof/WellFormed.lean ====
section
/-! DEFINITION. Well-formed commands: every operand within the field that the spec gives it (register, queue pair, page, bay and
Cove numbers, the lengths of fixed byte strings). A meaning answers for every operand; a well-formed command is one that the
outside world can send. -/

namespace Sys2Proof

/-- A value of `w` bits. -/
def bitsOk (w n : Nat) : Bool := decide (n < 2 ^ w)

/-- A bay, 0 to 31 (16 R461). -/
def bayOk (n : Nat) : Bool := decide (n < 32)

/-- A position of a Shoal, 0 to 31 (02 R33). -/
def posOk (n : Nat) : Bool := decide (n < 32)

/-- A Cove, 0 to 4,095 (11 R339). -/
def coveOk (n : Nat) : Bool := decide (n < 4096)

/-- A Shoal, 0 to 3 (02 R33). -/
def shoalOk (n : Nat) : Bool := decide (n < 4)

/-- A stream of a Shoal (04 R110). -/
def streamOk (n : Nat) : Bool := decide (n < 8)

/-- A row of a Shoal, 31 bits (04 R122). -/
def rowOk (n : Nat) : Bool := decide (n < 2 ^ 31)

/-- A network port, 0 to 7 (08 R246). -/
def portOk (n : Nat) : Bool := decide (n < 8)

/-- A network link, port × 4 + link (18 R505). -/
def linkOk (n : Nat) : Bool := decide (n < 32)

/-- A Prism plane, 0 to 7 (09 R285). -/
def planeOk (n : Nat) : Bool := decide (n < 8)

/-- A monitored supply: a core rail, 0 to 7, or VDD_IO, 8 (19 R519; log entry 24). -/
def railOk (n : Nat) : Bool := decide (n < 9)

/-- A Tide Pool page (03 R67). -/
def pageOk (n : Nat) : Bool := decide (n < 65536)

/-- A count of Tide Pool pages (03 R67). -/
def pagesOk (n : Nat) : Bool := decide (n ≤ 65536)

/-- Lanes of the Strait: down, half rate, full rate (13 R423). -/
def lanesOk (n : Nat) : Bool := n == 0 || n == 8 || n == 16

/-- A clock source, 1 to 4 (10 R322). -/
def sourceOk (n : Nat) : Bool := decide (1 ≤ n) && decide (n ≤ 4)

/-- A performance counter (17 R487). -/
def counterOk (n : Nat) : Bool := decide (n < 2048)

/-- A sampler or a Lens, 0 to 255 (10 R338, 17 R488). -/
def entryOk (n : Nat) : Bool := decide (n < 256)

/-- An offset in BAR0, 64 MiB (18 R494). -/
def barOk (n : Nat) : Bool := decide (n < 0x4000000)

/-- Bytes of a BAR0 write of one register (00 R6). -/
def nbytesOk (n : Nat) : Bool := decide (1 ≤ n) && decide (n ≤ 4)

/-- A BAR0 read of the bytes of one register (00 R6). -/
def barReadOk (r : BarRead) : Bool := barOk r.offset && nbytesOk r.nbytes && decide (r.offset % 4 + r.nbytes ≤ 4)

/-- A rail's trip (19 R521). -/
def railTripOk (t : RailTrip) : Bool := railOk t.rail

/-- A block of a row: position, and offset within its strip (04 R106). -/
def blockOk (x : Nat × Nat) : Bool := posOk x.1 && decide (x.2 < 32)

/-- What a read gave of a block: 64 bytes of metadata and 4,096 of data (04 R105). -/
def readBackOk : ReadBack → Bool
  | .block m v => bitsOk 512 m && bitsOk 32768 v
  | _ => true

/-- What the reads of a block brought (06 R174). -/
def blockReadOk (r : BlockRead) : Bool := readBackOk r.res && readBackOk r.recon && r.bad.all blockOk

/-- The end of a reissued command (06 R173). -/
def reissueOk : Reissue → Bool
  | .failed => true
  | .good r => blockReadOk r

/-- A read past its soft deadline (06 R178). -/
def lateReadOk (r : LateRead) : Bool := readBackOk r.recon && r.late.all posOk && r.bad.all blockOk

/-- A row that is read (06 R186). -/
def rowReadOk (r : RowRead) : Bool := rowOk r.row && r.bad.all blockOk

/-- A grain that is read (04 R131). -/
def grainReadOk (r : GrainRead) : Bool := r.bad.all (fun x => rowOk x.1 && blockOk x.2)

/-- The fills of a command (04 R113). -/
def fillReadOk (r : FillRead) : Bool := r.bad.all (fun x => rowOk x.1 && blockOk x.2)

/-- What patrol's reads of a row gave (06 R196): differences of extended strips, positions. -/
def patrolOk (x : PatrolRead) : Bool := x.diffs.all (fun e => posOk e.1) && x.failed.all posOk

/-- A request within the BAR2 window (18 R494). -/
def windowOk (off len : Nat) : Bool := decide (1 ≤ len) && decide (off + len ≤ 65536)

/-- A byte string of a fixed length. -/
def lenOk (n : Nat) (l : List Byte) : Bool := l.length == n

/-- A byte string of a limited length. -/
def upToOk (n : Nat) (l : List Byte) : Bool := decide (l.length ≤ n)

/-- The 64-byte units of a REGION frame, 1 to 64 (13 R399). -/
def unitsOk (l : List Nat) : Bool := decide (1 ≤ l.length) && decide (l.length ≤ 64) && l.all (bitsOk 512)

/-- A capsule (07 R207): 16-bit CID, 32-bit NSID, 64-bit SLBA, up to 65,536 blocks of 4,096 bytes. -/
def capOk (c : Capsule) : Bool :=
  bitsOk 16 c.cid && bitsOk 32 c.nsid && bitsOk 64 c.slba && decide (1 ≤ c.nlb) && decide (c.nlb ≤ 65536) &&
    decide (c.ranges.length ≤ 256) && c.data.all (bitsOk 32768) && bitsOk 128 c.iv

/-- The link fields of a Strait frame (13 R398). -/
def hdrOk (h : StraitHdr) : Bool := bitsOk 32 h.lseq && bitsOk 32 h.mseq

/-- A received network frame (08 R247, 09 R310). -/
def frameOk (f : FrameInfo) : Bool :=
  portOk f.port && decide (f.link < 4) && decide (f.kind < 4) && bitsOk 24 f.qpn && bitsOk 8 f.opcode && coveOk f.cove

/-- A fragment: its value has its length (08 R259). -/
def fragOk (d : Frag) : Bool := bitsOk 32 d.offset && decide (d.len ≤ 4096) && bitsOk (8 * d.len) d.value

/-- The fields of a Spray data packet (08 R259). -/
def sprayOk (h : SprayHdr) : Bool := bitsOk 24 h.psn && decide (h.path < 256) && decide (1 ≤ h.fragCount) && decide (h.fragIndex < h.fragCount)

/-- The fields of a SACK block (08 R263). -/
def sackOk (b : SackBlock) : Bool := bitsOk 24 b.cumPsn && bitsOk 24 b.trigger && bitsOk 5 b.rnrTimer

/-- A connection request (08 R251). -/
def cmOk (r : CmRequest) : Bool := bitsOk 24 r.qpn && portOk r.port && bitsOk 5 r.address && bitsOk 24 r.psn && bitsOk 24 r.hostPsn && bitsOk 24 r.farQpn && bitsOk 128 r.farAddr && decide (r.priv.length = 32)

/-- The fields of a Connect (11 R345). -/
def connectOk (x : ConnectArgs) : Bool :=
  bitsOk 24 x.qpn && bitsOk 16 x.cid && bitsOk 16 x.qid && bitsOk 16 x.sqsize && bitsOk 16 x.cntlid && bitsOk 128 x.hostid &&
    upToOk 256 x.subnqn && upToOk 256 x.hostnqn

/-- The fields of a namespace create (07 R201). -/
def createOk (a : NsCreateArgs) : Bool := bitsOk 64 a.nsze && bitsOk 8 a.grain && bitsOk 8 a.shoal && bitsOk 8 a.flags

/-- What enumerating a drive finds (06 R165). -/
def probeOk (p : DriveProbe) : Bool := bayOk p.bay

/-- An Announce (10 R316). -/
def announceOk (a : Announce) : Bool := portOk a.port && bitsOk 8 a.domain && bitsOk 64 a.clockId

/-- A binding entry (11 R344). -/
def bindingOk (b : Binding) : Bool := bitsOk 128 b.hostid && coveOk b.cove && bitsOk 8 b.maxAssoc && bitsOk 16 b.assoc

/-- A NET_ADDR record (18 R505). -/
def netAddrFits (a : NetAddr) : Bool := bitsOk 8 a.index && bitsOk 8 a.family && bitsOk 8 a.home && bitsOk 12 a.vlan && bitsOk 128 a.address

/-- A STAGE tag (03 R68). -/
def tagWf (t : Tag) : Bool :=
  bitsOk 64 t.asn && bitsOk 32 t.nsid && bitsOk 64 t.lba && bitsOk 64 t.guard && bitsOk 128 t.gcm && coveOk t.cove &&
    decide (t.pageIndex < t.pageCount) && decide (t.pageCount ≤ 512)

/-- A HELLO (13 R400). -/
def helloOk (d : Hello) : Bool := bitsOk 128 d.shelfId && decide (d.side < 2) && bitsOk 64 d.epoch && decide (d.chartDiff < 4)

/-- A namespace definition (13 R404). -/
def nsDefOk (d : NsDef) : Bool := bitsOk 32 d.nsid && decide (d.grain < 3) && shoalOk d.shoal

/-- A Cove definition (13 R404). -/
def coveDefOk (d : CoveDef) : Bool := coveOk d.cove && decide (d.state < 5) && upToOk 223 d.nqn

/-- A reservation record (13 R395). -/
def resvOk (r : ResvRecord) : Bool := bitsOk 32 r.nsid && bitsOk 64 r.gen && decide (r.registrants.length ≤ 126)

/-- A namespace key record (12 R381). -/
def keyRecordOk (r : KeyRecord) : Bool := bitsOk 32 r.nsid && bitsOk 8 r.kind && bitsOk 32 r.keyGen && bitsOk 32 r.kekEpoch

/-- A Cove slot record (12 R385). -/
def slotRecordOk (r : SlotRecord) : Bool := coveOk r.cove && decide (r.slot < 16) && bitsOk 8 r.modes && bitsOk 32 r.kekEpoch && bitsOk 256 r.key && decide (r.wrapped.length = 48)

/-- Is every operand of a command within its field? -/
def Instr.wf : Instr → Bool
  | .porstNRelease _ => true
  | .sfdpRead _ _ => true
  | .firmwareLoad => true
  | .hbmTrain _ _ => true
  | .poolRecovery _ => true
  | .tidelineWait _ => true
  | .bayBringupPower => true
  | .shoalAssembly probes _ => probes.all probeOk
  | .pairSettle _ => true
  | .replayComplete => true
  | .openAdmission linksUp => linksUp.all linkOk
  | .porstNAssert => true
  | .pfailNFall => true
  | .fenceInHold => true
  | .fenceInRelease _ => true
  | .fenceInPulse => true
  | .mhiPerstNAssert => true
  | .railMonitorTrip trip => railTripOk trip
  | .junctionLimit _ => true
  | .thermalTrip => true
  | .chartCtrlStage _ => true
  | .chartCheckDone _ => true
  | .chartCtrlStore _ => true
  | .chartStoreDone _ => true
  | .chartCtrlDiscard _ => true
  | .chartCommit _ => true
  | .chartReadbackDone _ => true
  | .chartPairSwitch => true
  | .tableEpochAdvance => true
  | .chartSwitchDone => true
  | .gateListTakeover port => portOk port
  | .tidePoolWriteFailed page _ => pageOk page
  | .poolScrub page _ => pageOk page
  | .tidePoolWriteDone page => pageOk page
  | .assembleCommand _ => true
  | .sealTimer shoal stream => shoalOk shoal && streamOk stream
  | .sealRetry shoal stream => shoalOk shoal && streamOk stream
  | .fillResolve fill => fillReadOk fill
  | .parityJobDone shoal row _ => shoalOk shoal && rowOk row
  | .keeperWriteDone shoal => shoalOk shoal
  | .stripWriteComplete _ => true
  | .checkpointTimer => true
  | .checkpointComplete => true
  | .commitRetry => true
  | .deferredMapApply nsid _ => bitsOk 32 nsid
  | .mapPageFetchDone _ got => blockReadOk got
  | .bitmapClearTimer shoal => shoalOk shoal
  | .ebbRelocate shoal got _ => shoalOk shoal && rowReadOk got
  | .zeroMaskRewrite nsid got => bitsOk 32 nsid && grainReadOk got
  | .asnMarkDurable nsid => bitsOk 32 nsid
  | .readResolve _ => true
  | .flushComplete _ => true
  | .sqHeadRetest => true
  | .driveEnumerate probe => probeOk probe
  | .memberLatencyInterval bay p99us => bayOk bay && bitsOk 32 p99us
  | .foldResume shoal pos => shoalOk shoal && posOk pos
  | .memberCommandError _ _ => true
  | .memberHardTimeout _ => true
  | .memberAbortTimeout _ => true
  | .memberResetTimeout bay => bayOk bay
  | .memberReissueComplete _ outcome => reissueOk outcome
  | .memberReadComplete _ res recon bad => readBackOk res && readBackOk recon && bad.all blockOk
  | .writeSoftDeadline shoal row => shoalOk shoal && rowOk row
  | .readSoftDeadline got => lateReadOk got
  | .driveLinkLost bay => bayOk bay
  | .linkRetrainTimeout bay => bayOk bay
  | .absenceTimerExpiry shoal pos => shoalOk shoal && posOk pos
  | .resyncRow shoal pos got => shoalOk shoal && posOk pos && rowReadOk got
  | .rebuildRow shoal got => shoalOk shoal && rowReadOk got
  | .lostSlotScan nsid _ => bitsOk 32 nsid
  | .smartPoll bay warning => bayOk bay && bitsOk 8 warning
  | .labelPropagate shoal => shoalOk shoal
  | .labelWriteDone shoal => shoalOk shoal
  | .patrolRow shoal row found => shoalOk shoal && rowOk row && patrolOk found
  | .patrolCursorRecord shoal => shoalOk shoal
  | .connect args => connectOk args
  | .write cntlid sqid cap => bitsOk 16 cntlid && bitsOk 16 sqid && capOk cap
  | .read cntlid sqid cap => bitsOk 16 cntlid && bitsOk 16 sqid && capOk cap
  | .flush cntlid sqid cap => bitsOk 16 cntlid && bitsOk 16 sqid && capOk cap
  | .compare cntlid sqid cap => bitsOk 16 cntlid && bitsOk 16 sqid && capOk cap
  | .writeZeroes cntlid sqid cap => bitsOk 16 cntlid && bitsOk 16 sqid && capOk cap
  | .datasetManagement cntlid sqid cap => bitsOk 16 cntlid && bitsOk 16 sqid && capOk cap
  | .verify cntlid sqid cap => bitsOk 16 cntlid && bitsOk 16 sqid && capOk cap
  | .reservationRegister cntlid sqid cap => bitsOk 16 cntlid && bitsOk 16 sqid && capOk cap
  | .reservationReport cntlid sqid cap => bitsOk 16 cntlid && bitsOk 16 sqid && capOk cap
  | .reservationAcquire cntlid sqid cap => bitsOk 16 cntlid && bitsOk 16 sqid && capOk cap
  | .reservationRelease cntlid sqid cap => bitsOk 16 cntlid && bitsOk 16 sqid && capOk cap
  | .reservationRecordDurable nsid => bitsOk 32 nsid
  | .getLogErrorInformation cntlid cid offset len => bitsOk 16 cntlid && bitsOk 16 cid && bitsOk 32 offset && bitsOk 32 len
  | .getLogSmart cntlid cid offset len => bitsOk 16 cntlid && bitsOk 16 cid && bitsOk 32 offset && bitsOk 32 len
  | .getLogFirmwareSlot cntlid cid offset len => bitsOk 16 cntlid && bitsOk 16 cid && bitsOk 32 offset && bitsOk 32 len
  | .getLogAna cntlid cid offset len => bitsOk 16 cntlid && bitsOk 16 cid && bitsOk 32 offset && bitsOk 32 len
  | .getLogReservationNotification cntlid cid offset len => bitsOk 16 cntlid && bitsOk 16 cid && bitsOk 32 offset && bitsOk 32 len
  | .getLogSanitizeStatus cntlid cid offset len => bitsOk 16 cntlid && bitsOk 16 cid && bitsOk 32 offset && bitsOk 32 len
  | .getLogLostRange cntlid cid offset len => bitsOk 16 cntlid && bitsOk 16 cid && bitsOk 32 offset && bitsOk 32 len
  | .getLogQueueFreeze cntlid cid offset len _ => bitsOk 16 cntlid && bitsOk 16 cid && bitsOk 32 offset && bitsOk 32 len
  | .getLogShelfHealth cntlid cid offset len => bitsOk 16 cntlid && bitsOk 16 cid && bitsOk 32 offset && bitsOk 32 len
  | .getLogFormatProgress cntlid cid offset len => bitsOk 16 cntlid && bitsOk 16 cid && bitsOk 32 offset && bitsOk 32 len
  | .identify cntlid cid cns nsid => bitsOk 16 cntlid && bitsOk 16 cid && bitsOk 8 cns && bitsOk 32 nsid
  | .abort cntlid cid sqid target => bitsOk 16 cntlid && bitsOk 16 cid && bitsOk 16 sqid && bitsOk 16 target
  | .setFeaturesPowerManagement cntlid cid ps => bitsOk 16 cntlid && bitsOk 16 cid && bitsOk 5 ps
  | .ps3Enter => true
  | .setFeaturesAsnReporting cntlid cid cdw11 => bitsOk 16 cntlid && bitsOk 16 cid && bitsOk 32 cdw11
  | .setFeaturesWriteProtection cntlid cid nsid wp => bitsOk 16 cntlid && bitsOk 16 cid && bitsOk 32 nsid && bitsOk 3 wp
  | .coveControlReset cntlid cid cove => bitsOk 16 cntlid && bitsOk 16 cid && coveOk cove
  | .coveControlResetEnd cntlid cid cove => bitsOk 16 cntlid && bitsOk 16 cid && coveOk cove
  | .coveControlFreeze cntlid cid cove => bitsOk 16 cntlid && bitsOk 16 cid && coveOk cove
  | .coveControlThaw cntlid cid cove => bitsOk 16 cntlid && bitsOk 16 cid && coveOk cove
  | .eventLogControlFlush cntlid cid cdw11 => bitsOk 16 cntlid && bitsOk 16 cid && bitsOk 32 cdw11
  | .eventLogControlClear cntlid cid cdw11 => bitsOk 16 cntlid && bitsOk 16 cid && bitsOk 32 cdw11
  | .lostRangeAcknowledge cntlid cid cdw11 entrySeq => bitsOk 16 cntlid && bitsOk 16 cid && bitsOk 32 cdw11 && bitsOk 32 entrySeq
  | .setFeaturesKeepAliveTimer cntlid cid kato => bitsOk 16 cntlid && bitsOk 16 cid && bitsOk 32 kato
  | .setFeaturesHostBehavior cntlid cid acre => bitsOk 16 cntlid && bitsOk 16 cid && bitsOk 8 acre
  | .setFeaturesAsyncEventConfig cntlid cid cdw11 => bitsOk 16 cntlid && bitsOk 16 cid && bitsOk 32 cdw11
  | .setFeaturesNumberOfQueues cntlid cid nsqr ncqr => bitsOk 16 cntlid && bitsOk 16 cid && bitsOk 16 nsqr && bitsOk 16 ncqr
  | .getFeaturesPowerManagement cntlid cid => bitsOk 16 cntlid && bitsOk 16 cid
  | .getFeaturesAsnReporting cntlid cid => bitsOk 16 cntlid && bitsOk 16 cid
  | .getFeaturesCoveControl cntlid cid cove => bitsOk 16 cntlid && bitsOk 16 cid && coveOk cove
  | .getFeaturesEventLogControl cntlid cid => bitsOk 16 cntlid && bitsOk 16 cid
  | .getFeaturesLostRange cntlid cid => bitsOk 16 cntlid && bitsOk 16 cid
  | .getFeaturesWriteProtection cntlid cid nsid => bitsOk 16 cntlid && bitsOk 16 cid && bitsOk 32 nsid
  | .getFeaturesKeepAliveTimer cntlid cid => bitsOk 16 cntlid && bitsOk 16 cid
  | .getFeaturesHostBehavior cntlid cid => bitsOk 16 cntlid && bitsOk 16 cid
  | .getFeaturesAsyncEventConfig cntlid cid => bitsOk 16 cntlid && bitsOk 16 cid
  | .getFeaturesNumberOfQueues cntlid cid => bitsOk 16 cntlid && bitsOk 16 cid
  | .asynchronousEventRequest cntlid cid => bitsOk 16 cntlid && bitsOk 16 cid
  | .namespaceCreate cntlid cid args => bitsOk 16 cntlid && bitsOk 16 cid && createOk args
  | .namespaceKeyDurable nsid => bitsOk 32 nsid
  | .namespaceDelete cntlid cid nsid => bitsOk 16 cntlid && bitsOk 16 cid && bitsOk 32 nsid
  | .namespaceAttach cntlid cid nsid ctrls => bitsOk 16 cntlid && bitsOk 16 cid && bitsOk 32 nsid && ctrls.all (bitsOk 16)
  | .namespaceDetach cntlid cid nsid ctrls => bitsOk 16 cntlid && bitsOk 16 cid && bitsOk 32 nsid && ctrls.all (bitsOk 16)
  | .firmwareImageDownload cntlid cid offset bytes => bitsOk 16 cntlid && bitsOk 16 cid && bitsOk 32 offset && upToOk 65536 bytes
  | .firmwareCommitReplace cntlid cid slot => bitsOk 16 cntlid && bitsOk 16 cid && bitsOk 3 slot
  | .firmwareCommitReplaceActivate cntlid cid slot => bitsOk 16 cntlid && bitsOk 16 cid && bitsOk 3 slot
  | .firmwareCommitActivate cntlid cid slot => bitsOk 16 cntlid && bitsOk 16 cid && bitsOk 3 slot
  | .firmwareCommitActivateNow cntlid cid slot _ => bitsOk 16 cntlid && bitsOk 16 cid && bitsOk 3 slot
  | .fwActivationDrained => true
  | .fwActivationResume => true
  | .fwActivationTimeout => true
  | .keepAlive cntlid cid => bitsOk 16 cntlid && bitsOk 16 cid
  | .keepAliveExpiry cntlid => bitsOk 16 cntlid
  | .formatNvm cntlid cid nsid lbaf pi mset ses => bitsOk 16 cntlid && bitsOk 16 cid && bitsOk 32 nsid && bitsOk 4 lbaf && bitsOk 3 pi && bitsOk 1 mset && bitsOk 3 ses
  | .formatWalk nsid => bitsOk 32 nsid
  | .sanitizeCryptoErase cntlid cid cdw10 => bitsOk 16 cntlid && bitsOk 16 cid && bitsOk 32 cdw10
  | .sanitizeBlockErase cntlid cid cdw10 => bitsOk 16 cntlid && bitsOk 16 cid && bitsOk 32 cdw10
  | .sanitizeExitFailure cntlid cid cdw10 => bitsOk 16 cntlid && bitsOk 16 cid && bitsOk 32 cdw10
  | .sanitizeMemberDone bay _ => bayOk bay
  | .sanitizeComplete => true
  | .getAsnStatus cntlid cid nsid => bitsOk 16 cntlid && bitsOk 16 cid && bitsOk 32 nsid
  | .queueThawResume cntlid cid sqid => bitsOk 16 cntlid && bitsOk 16 cid && bitsOk 16 sqid
  | .queueThawDiscard cntlid cid sqid => bitsOk 16 cntlid && bitsOk 16 cid && bitsOk 16 sqid
  | .coveImageExport cntlid cid cove _ => bitsOk 16 cntlid && bitsOk 16 cid && coveOk cove
  | .coveImageImport cntlid cid cove image => bitsOk 16 cntlid && bitsOk 16 cid && coveOk cove && upToOk 65536 image
  | .wblStart cntlid cid nsid => bitsOk 16 cntlid && bitsOk 16 cid && bitsOk 32 nsid
  | .wblSwapRead cntlid cid nsid offset len => bitsOk 16 cntlid && bitsOk 16 cid && bitsOk 32 nsid && bitsOk 32 offset && bitsOk 32 len
  | .wblRead cntlid cid nsid offset len => bitsOk 16 cntlid && bitsOk 16 cid && bitsOk 32 nsid && bitsOk 32 offset && bitsOk 32 len
  | .wblStop cntlid cid nsid => bitsOk 16 cntlid && bitsOk 16 cid && bitsOk 32 nsid
  | .controllerDisable cntlid => bitsOk 16 cntlid
  | .controllerDrained cntlid => bitsOk 16 cntlid
  | .shutdownNotification cntlid => bitsOk 16 cntlid
  | .cmConnectRequest req => cmOk req
  | .cmDisconnect qpn => bitsOk 24 qpn
  | .recvSend qpn psn op cap f => bitsOk 24 qpn && bitsOk 24 psn && bitsOk 8 op && capOk cap && frameOk f
  | .recvRdmaWrite qpn psn rkey d f => bitsOk 24 qpn && bitsOk 24 psn && bitsOk 32 rkey && fragOk d && frameOk f
  | .recvRdmaReadResponse qpn psn _ d f => bitsOk 24 qpn && bitsOk 24 psn && fragOk d && frameOk f
  | .recvAcknowledge qpn psn => bitsOk 24 qpn && bitsOk 24 psn
  | .recvNak qpn psn code => bitsOk 24 qpn && bitsOk 24 psn && bitsOk 8 code
  | .recvRnrNak qpn psn timer => bitsOk 24 qpn && bitsOk 24 psn && bitsOk 5 timer
  | .recvCnp qpn => bitsOk 24 qpn
  | .ackTimer qpn => bitsOk 24 qpn
  | .localAckTimeout qpn => bitsOk 24 qpn
  | .rnrRetryTimer qpn => bitsOk 24 qpn
  | .recvSpraySend qpn h op cap f => bitsOk 24 qpn && sprayOk h && bitsOk 8 op && capOk cap && frameOk f
  | .recvSprayWrite qpn h d f => bitsOk 24 qpn && sprayOk h && fragOk d && frameOk f
  | .recvSprayReadResp qpn h _ d f => bitsOk 24 qpn && sprayOk h && fragOk d && frameOk f
  | .recvSprayAck qpn b => bitsOk 24 qpn && sackOk b
  | .sprayAckTimer qpn => bitsOk 24 qpn
  | .sprayRetxTimeout qpn psn => bitsOk 24 qpn && bitsOk 24 psn
  | .sprayRnrRetry qpn psn => bitsOk 24 qpn && bitsOk 24 psn
  | .baseRttRefresh qpn => bitsOk 24 qpn
  | .landingWindowReturn qpn => bitsOk 24 qpn
  | .netLinkDown link => linkOk link
  | .netLinkUp link => linkOk link
  | .addressReturn index => bitsOk 5 index
  | .recvArpNd f index => frameOk f && bitsOk 5 index
  | .recvOtherFrame f => frameOk f
  | .txOpportunity link _ => linkOk link
  | .planeOutOfService plane => planeOk plane
  | .epochStallTimer _ => true
  | .captureCtrlWrite _ => true
  | .samplerCtrlWrite i _ => entryOk i
  | .samplerTick i => entryOk i
  | .ptpAnnounceReceive a => announceOk a
  | .ptpSyncReceive port seq _ _ _ => portOk port && bitsOk 16 seq
  | .ptpDelayRespReceive port seq _ => portOk port && bitsOk 16 seq
  | .ptpDelayReqSend port seq _ => portOk port && bitsOk 16 seq
  | .announceReceiptTimeout port => portOk port
  | .syncReceiptTimeout port => portOk port
  | .ppsInEdge => true
  | .ppsInTimeout => true
  | .ppsOutPulse => true
  | .ppsOutFall => true
  | .sourceRevertTimer source => sourceOk source
  | .holdoverLimit => true
  | .tideTableEntry _ _ => true
  | .gateEntry port _ => portOk port
  | .mboxCoveCreate cove nqn => coveOk cove && upToOk 65536 nqn
  | .mboxCoveDelete cove => coveOk cove
  | .coveDeleteDrained cove => coveOk cove
  | .mboxCoveImport cove slot => coveOk cove && bitsOk 8 slot
  | .mboxCoveimgClaim => true
  | .mboxCoveimgFree slot => bitsOk 8 slot
  | .mboxCoveimgList => true
  | .mboxBindSet index entry => bitsOk 32 index && bindingOk entry
  | .mboxBindClear index => bitsOk 32 index
  | .coveCtrlReset cove _ => coveOk cove
  | .coveResetWritesDrained cove => coveOk cove
  | .coveResetDone cove => coveOk cove
  | .coveCtrlFreeze cove _ => coveOk cove
  | .coveFrozen cove => coveOk cove
  | .coveCtrlThaw cove _ => coveOk cove
  | .coveCtrlExport cove _ => coveOk cove
  | .coveExportTake cove => coveOk cove
  | .entropyTestFail => true
  | .entropyRecover => true
  | .mboxShelfkeyLoad blob _ => lenOk 168 blob
  | .mboxShelfkeyRotate blob _ => lenOk 168 blob
  | .keyRotationDone => true
  | .keySlotLoadClear cove slot modes key => coveOk cove && bitsOk 4 slot && bitsOk 8 modes && bitsOk 256 key
  | .keySlotLoadWrapped cove slot wrapped => coveOk cove && bitsOk 4 slot && lenOk 52 wrapped
  | .keySlotClear cove slot => coveOk cove && bitsOk 4 slot
  | .oldKeyZeroize cove slot => coveOk cove && bitsOk 4 slot
  | .straitPage h page tag data _ => hdrOk h && pageOk page && tagWf tag && bitsOk 32768 data
  | .straitRegion h page offset units => hdrOk h && pageOk page && bitsOk 6 offset && unitsOk units
  | .straitRelease h _ => hdrOk h
  | .straitMack h mseq => hdrOk h && bitsOk 32 mseq
  | .straitHeartbeat h role partner side version counter epoch chartSeq => hdrOk h && bitsOk 2 role && bitsOk 2 partner && bitsOk 1 side && bitsOk 8 version && bitsOk 32 counter && bitsOk 64 epoch && bitsOk 32 chartSeq
  | .straitLlack lseq => bitsOk 32 lseq
  | .straitLlnak lseq => bitsOk 32 lseq
  | .straitConfigNamespace h d => hdrOk h && nsDefOk d
  | .straitConfigCove h d => hdrOk h && coveDefOk d
  | .straitConfigBinding h index b => hdrOk h && bitsOk 14 index && bindingOk b
  | .straitConfigReservation h r => hdrOk h && resvOk r
  | .straitConfigNsKey h r wrapped => hdrOk h && keyRecordOk r && lenOk 80 wrapped
  | .straitConfigSlotKey h r => hdrOk h && slotRecordOk r
  | .straitConfigChartChunk h offset _ bytes => hdrOk h && bitsOk 32 offset && upToOk 4096 bytes
  | .straitConfigSwapHandover h _ _ => hdrOk h
  | .straitHello h d => hdrOk h && helloOk d
  | .straitRefuse h code => hdrOk h && bitsOk 8 code
  | .straitSyncBegin h => hdrOk h
  | .straitSyncEnd h mseq => hdrOk h && bitsOk 32 mseq
  | .straitSettleEnd h pages => hdrOk h && pagesOk pages
  | .straitSwapPrepare h => hdrOk h
  | .straitSwapDone h => hdrOk h
  | .straitWithdraw h page => hdrOk h && pageOk page
  | .straitFenceTest h _ => hdrOk h
  | .straitLinkUp lanes => lanesOk lanes
  | .straitLinkDown => true
  | .straitLlackTimer => true
  | .straitReplayTimeout => true
  | .heartbeatSend _ => true
  | .heartbeatMissed => true
  | .tidelineQueryTimeout => true
  | .fenceGraceTimer => true
  | .standbyFenceWait => true
  | .fenceHoldExpiry => true
  | .takeoverAcquired _ => true
  | .epochRecordDurable => true
  | .partnerWaitTimeout => true
  | .swapSelftestDone _ planesBad => planesBad.all planeOk
  | .swapDrained => true
  | .swapAcquired => true
  | .swapAbandonTimer => true
  | .pairCtrlSwap _ => true
  | .pairCtrlForce _ _ => true
  | .pairCtrlUnfence _ => true
  | .lighthouseStep _ power pressure => bitsOk 32 power && bitsOk 32 pressure
  | .heatBucketRotate _ => true
  | .tlineNull _ _ => true
  | .tlineIdent _ _ => true
  | .tlineClaim _ _ => true
  | .tlineDeny _ _ => true
  | .tlineEnum _ _ => true
  | .tlineReenumReq _ _ => true
  | .tlineQuery _ _ => true
  | .tlineAnswer _ _ => true
  | .tlineFence _ _ => true
  | .tlineUnfence _ _ => true
  | .tlineFenceAck _ _ => true
  | .tlineTimeS _ _ => true
  | .tlineTimeMark _ _ => true
  | .tlineProfile _ _ => true
  | .tlineLinkUp _ => true
  | .tlineLinkDown _ => true
  | .tlineIdentTimer => true
  | .tlineTimeOriginTick => true
  | .tlineClaimTimeout => true
  | .tlineInTimeout => true
  | .tlineTimeTimeout => true
  | .mboxTlineReenum => true
  | .mboxFwFuseSvn guard_ => bitsOk 8 guard_
  | .mboxSignerKeyProgram slot guard_ hash => bitsOk 8 slot && bitsOk 8 guard_ && lenOk 48 hash
  | .mboxSignerKeyRevoke slot guard_ => bitsOk 8 slot && bitsOk 8 guard_
  | .mboxNetAddrSet a _ => netAddrFits a
  | .mboxNetAddrClear index _ => bitsOk 8 index
  | .mboxNetAddrList => true
  | .mboxPowerState ps => bitsOk 5 ps
  | .bayPrsntAssert bay vin => bayOk bay && bitsOk 16 vin
  | .bayPrsntDeassert bay => bayOk bay
  | .bayInsertDelayExpiry bay vin => bayOk bay && bitsOk 16 vin
  | .bayRampStart bay => bayOk bay
  | .bayRampReached bay vout => bayOk bay && bitsOk 16 vout
  | .bayPowerGood bay vout => bayOk bay && bitsOk 16 vout
  | .bayPerstRelease bay => bayOk bay
  | .bayBreakerTrip bay current => bayOk bay && bitsOk 16 current
  | .bayFastTrip bay current => bayOk bay && bitsOk 16 current
  | .bayRampTimeout bay => bayOk bay
  | .bayPowerGoodLost bay vout => bayOk bay && bitsOk 16 vout
  | .bayVinUnder bay vin => bayOk bay && bitsOk 16 vin
  | .bayVinOver bay vin => bayOk bay && bitsOk 16 vin
  | .bayFetDamaged bay vout => bayOk bay && bitsOk 16 vout
  | .bayRetryExpiry bay => bayOk bay
  | .bayAttemptsReset bay => bayOk bay
  | .bayCtrlOn _ => true
  | .bayCtrlOff _ => true
  | .bayCtrlClear _ vout => bitsOk 16 vout
  | .clockMarkTimer => true
  | .eventCtrlFlush _ => true
  | .eventCtrlClear _ => true
  | .eventDeferredClear => true
  | .perfCtrlClearAll _ => true
  | .perfCfgWrite n _ => counterOk n
  | .perfCntLoRead n => counterOk n
  | .lensWrite i v => entryOk i && bitsOk 256 v
  | .wblTableStart nsid => bitsOk 32 nsid
  | .wblTableSwap nsid => bitsOk 32 nsid
  | .wblTableStop nsid => bitsOk 32 nsid
  | .globalResetRestart _ => true
  | .globalServiceWrite _ => true
  | .dpDataRead _ => true
  | .dpDataWrite _ => true
  | .dpCtrlWrite _ => true
  | .bar2Read offset len _ => windowOk offset len
  | .bar2Write offset bytes => windowOk offset bytes.length
  | .poolOccupancyRead => true
  | .poolEccRead => true
  | .pairStraitRead => true
  | .bayCurrRead bay => bayOk bay
  | .registerLoRead got => barReadOk got
  | .registerHiRead got => barReadOk got
  | .registerLoWrite offset _ => barOk offset
  | .registerHiWrite offset _ => barOk offset
  | .registerWrite offset nbytes _ => barOk offset && nbytesOk nbytes
  | .smbStatusRead => true
  | .smbTempRead => true
  | .smbPowerRead => true
  | .smbPowerStateRead => true
  | .smbRoleRead => true
  | .smbBootRead => true
  | .smbAlertRead => true
  | .smbLatchedLoRead => true
  | .smbLatchedHiRead => true
  | .smbWrite => true
  | .pfailNRise => true
  | .railMonitorRelease rail => railOk rail
  | .mhiPerstNRelease => true
  | .driveReadyTimeout bay => bayOk bay
  | .driveLinkRetrained bay => bayOk bay
  | .memberDeallocateDone _ => true
  | .memberFormatDone bay => bayOk bay
  | .recvRefusedOpcode qpn opcode => bitsOk 24 qpn && bitsOk 8 opcode
  | .ptpFollowUpReceive port seq _ => portOk port && bitsOk 16 seq
  | .hostDisconnect qpn => bitsOk 24 qpn
  | .globalMboxDoorbell _ => true
  | .straitFrameCrcFail lseq => bitsOk 32 lseq

end Sys2Proof
end

