-- ==== Sys2Proof/Tests/Slice0.lean ====
section
/-! SUPPORT. Tests: an ill-formed command for each check of WellFormed, results that the spec states, and for every obligation with
hypotheses a theorem `witness_<obligation>` that shows, clause by clause, concrete states and operands that meet them together. A
hypothesis on what an opaque function of Config answers (a signature check, an unwrapped key: log entry 4) is left out of a
witness, since no proof can show either answer: the clauses on a Chart or an image that passes its checks, and on a blob or a
key that unwraps or does not. -/

set_option maxRecDepth 8000

open Sys2Proof Sys2Proof.Machine

namespace Sys2Proof.Tests

/-! ## Small records and states -/

def aCfg : ShoalCfg := { shoal := 0, geometryId := 1, width := 4, parity := 2, spareStrips := 1, streams := 2, metaMode := 0, members := 0xF, evacuating := 0 }
def aCapsule : Capsule := { cid := 1, nsid := 1, slba := 0, nlb := 1 }
def aTag : Tag := { asn := 1, nsid := 1, lba := 0, guard := 0, gcm := 0, cove := 1, pageIndex := 0, pageCount := 1 }
def aLabelCopy : LabelCopy := { shoal := 0 }
def aCtrl : Ctrl := { cove := 1, hostid := 1, adminQpn := 1 }
def aQp : Qp := { cntlid := 1, sqid := 1, cove := 1 }
def aCoveRec : CoveRec := {}
def aNs : Ns := { nsze := 1024, grain := 0, shoal := 0, auth := false, pageBase := 0, coves := [1] }
def aSq : Sq := { qpn := 2, size := 16 }
def aStripe : Stripe := { shoal := 0, row := 0, geometry := 1 }
def aCmd : Cmd := { kind := .write, cntlid := 1, sqid := 1, cid := 1, cove := 1, nsid := 1 }
def aMemberCmd : MemberCmd := { bay := 0, op := .format false }
def aHeldCapsule : HeldCapsule := { op := .read, cap := aCapsule }
def aStraitHdr : StraitHdr := { lseq := 0 }
def aFrameInfo : FrameInfo := { port := 0, len := 64 }
def aSprayHdr : SprayHdr := {}
def aFrag : Frag := { offset := 0, len := 4096, value := 0 }
def aHello : Hello := { shelfId := 1, side := 1, digest := 0, kekCheck := 0, chartSeq := 0, epoch := 0, tlineAddr := 2 }
def aSackBlock : SackBlock := { path := 0, syndrome := 0, rnrTimer := 0, cumPsn := 0, echoTs := 0, ce := false, retx := false, trigger := 0, sack := 0 }
def aDrive : Drive := { serial := 1, capacity := 1000000 }
def aSentPkt : SentPkt := { psn := 0 }
def aCmRequest : CmRequest := { qpn := 2, port := 0, priv := List.replicate 8 0 ++ [0x57, 0x58, 0x53, 0x50, 1, 3, 4, 8, 1, 0] ++ List.replicate 14 0 }
def aBinding : Binding := { hostid := 1, cove := 1, valid := true, anyHost := false, maxAssoc := 4 }
def aResvRecord : ResvRecord := { nsid := 1 }
def aNsDef : NsDef := { nsid := 1, nsze := 1024, grain := 0, shoal := 0, auth := false, pageBase := 0 }
def aAddrState : AddrState := { rec_ := { index := 0, family := 4, prefixLen := 24, home := 0, backups := [], vlan := 0, address := 1, nextHop := 2 }, link := 0 }
def aNetAddr : NetAddr := { index := 0, family := 4, prefixLen := 24, home := 0, backups := [], vlan := 0, address := 1, nextHop := 2 }
def aDriveProbe : DriveProbe := { bay := 0, serial := 1, capacity := 1000000 }
def aEventRec : EventRec := { source := 0, code := 0, cls := 0 }
def aShoalSt : ShoalSt := { cfg := aCfg, assembled := true, rows := 1000 }
def aSprayPath : SprayPath := {}
def aAnnounce : Announce := { port := 0, domain := 0, clockId := 1, rank := 1 }
def aSampler : Sampler := {}
def aPlace : Place := { shoal := 0, row := 0, slot := 0 }
def aNsCreateArgs : NsCreateArgs := { nsze := 1024, grain := 0, shoal := 0, flags := 0 }
def aStagePage : StagePage := { life := .staged, tag := aTag }
def aBay : Bay := {}
def aRosterEntry : RosterEntry := { bay := 0, state := .online }
def aPortGates : PortGates := {}
def aSlotRecord : SlotRecord := { cove := 1, slot := 0, loaded := true, modes := 0, kekEpoch := 0, key := 0, wrapped := List.replicate 48 0 }
def aLanding : Landing := { base := 0, size := 65536, rkey := 1 }
def aTideEntry : TideEntry := { offsetS := 0, profile := 0, swap := false, rack := false }
def aMboxResult : MboxResult := { status := 0 }
def aOverlay : Overlay := { nsid := 1, grain := 0, mask := 1, asn := 1 }
def aDeferred : Deferred := { nsid := 1, grain := 0, entry := .unmapped, asn := 1 }
def aGateList : GateList := { port := 0, cycleNs := 1000, baseS := 0, baseNs := 0, entries := [{ openMask := 255, intervalNs := 1000 }] }
def aKeyRecord : KeyRecord := { nsid := 1, kind := 1, keyGen := 1, kekEpoch := 0 }
def aResync : Resync := { pos := 0, gA := 0 }
def aStraps : Straps := { tliHead := false, pairSide := false, flashMode := false, bootSlot := false }
def aHandover : Handover := { asnNext := [], counters := [] }
def aShelfRecord : ShelfRecord := { writer := 0, mode := 1, epoch := 1, shelfId := 1 }
def aCheckpoint : Checkpoint := { q := 0, gen := 0 }
def aWbl : Wbl := {}
def aControlBlock : ControlBlock := { layout := {} }
def aRegistrant : Registrant := { hostid := 1, key := 1, cove := 1 }
def aShoalLabel : ShoalLabel := {}
def aTod : Tod := {}
def aCounter : Counter := {}
def aTxFrame : TxFrame := { kind := 2, len := 64 }
def aSubst : Subst := { pos := 0, kind := 1, target := 0, g0 := 0 }
def aStraitFrame : StraitFrame := { type := 0 }
def aAttr : Attr := {}
def aAdminWait : AdminWait := { cntlid := 1, cid := 1, kind := 3 }
def aFlashProbe : FlashProbe := { present := true, sfdpOk := true, densityMbit := 1024, fourByte := true, sectorErase := true, quad := true, octal := false }
def aConnectArgs : ConnectArgs := { qpn := 2, cid := 1, qid := 0, sqsize := 31, subnqn := [1], hostid := 1 }
def aCoveCfg : CoveCfg := {}
def aResvArgs : ResvArgs := { action := 0 }
def aChart : Chart := defaultChart
def aChartErr : ChartErr := { code := 3 }
def aCoveDef : CoveDef := { cove := 1, state := 1, nqn := [1], attached := [] }
def aAsyncEvent : AsyncEvent := { type := 0, info := 0, log := 0 }
def aAnchor : Anchor := { layout := {}, writes := 0 }
def aNsKey : NsKey := { rec_ := aKeyRecord, wrapped := List.replicate 40 0, key := 1 }

/-- A device that serves: released from reset, brought up, its pool and its mailbox ready. -/
def aRun : State :=
  { State.reset with
    dev.boot.porstN := true, dev.boot.started := true, dev.boot.step := 10, dev.boot.serving := true,
    dev.pool.state := .ready, dev.mhi.mboxReady := true, dev.host.admissionOpen := true, dev.chart.inForce := some defaultChart,
    dev.ev.nextEsn := some 1, dev.str.shoals := [(0, aShoalSt)], dev.clk.todValid := true, dev.clk.suspended := false,
    dev.tline.inUp := true, dev.tline.outUp := true, dev.tline.settled := true, dev.tline.addr := some 1 }

/-- The same with a controller of Cove 1, its namespace and its submission queue. -/
def aHost : State :=
  { aRun with
    dev.host.ctrls := [(1, aCtrl)], dev.cove.tab := [(1, aCoveRec)], dev.host.nss := [(1, aNs)], dev.host.sqs := [(sqKey 1 1, aSq)],
    dev.net.qps := [(1, { aQp with sqid := 0 }), (2, aQp)] }

/-- A shelf blob of epoch 2, with the fields of R376. -/
def aBlob : List Byte :=
  [0x57, 0x58, 0x53, 0x4B] ++ leBytes 1 2 ++ leBytes 0 2 ++ leBytes 2 4 ++ leBytes 0 4 ++ leBytes 0 16 ++ List.replicate 136 0

/-- The block that `aStagePage` holds. -/
def aBlock : Machine.Block := { asn := 1, nsid := 1, lba := 0 }

/-- The error of a Chart check. -/
def errOf (r : Except ChartErr Chart) : ChartErr := match r with | .error e => e | .ok _ => aChartErr

/-! ## Ill-formed commands: every check of WellFormed refuses one -/

theorem wf_bits : Instr.wf (.keepAliveExpiry 65536) = false ∧ Instr.wf (.keepAliveExpiry 65535) = true := by decide
theorem wf_bay : Instr.wf (.bayRampStart 32) = false ∧ Instr.wf (.bayRampStart 31) = true := by decide
theorem wf_pos : Instr.wf (.foldResume 0 32) = false ∧ Instr.wf (.foldResume 0 31) = true := by decide
theorem wf_cove : Instr.wf (.mboxCoveDelete 4096) = false ∧ Instr.wf (.mboxCoveDelete 4095) = true := by decide
theorem wf_shoal : Instr.wf (.labelPropagate 4) = false ∧ Instr.wf (.labelPropagate 3) = true := by decide
theorem wf_stream : Instr.wf (.sealTimer 0 8) = false ∧ Instr.wf (.sealTimer 0 7) = true := by decide
theorem wf_row : Instr.wf (.rebuildRow 0 { row := 2 ^ 31 }) = false ∧ Instr.wf (.rebuildRow 0 { row := 2 ^ 31 - 1 }) = true := by decide
theorem wf_port : Instr.wf (.gateEntry 8 0) = false ∧ Instr.wf (.gateEntry 7 0) = true := by decide
theorem wf_link : Instr.wf (.netLinkUp 32) = false ∧ Instr.wf (.netLinkUp 31) = true := by decide
theorem wf_plane : Instr.wf (.planeOutOfService 8) = false ∧ Instr.wf (.planeOutOfService 7) = true := by decide
theorem wf_rail : Instr.wf (.railMonitorTrip { rail := 9 }) = false ∧ Instr.wf (.railMonitorTrip { rail := 8 }) = true := by decide
theorem wf_page : Instr.wf (.tidePoolWriteDone 65536) = false ∧ Instr.wf (.tidePoolWriteDone 65535) = true := by decide
theorem wf_pages : Instr.wf (.straitSettleEnd aStraitHdr 65537) = false ∧ Instr.wf (.straitSettleEnd aStraitHdr 65536) = true := by decide
theorem wf_lanes : Instr.wf (.straitLinkUp 4) = false ∧ Instr.wf (.straitLinkUp 8) = true := by decide
theorem wf_source : Instr.wf (.sourceRevertTimer 0) = false ∧ Instr.wf (.sourceRevertTimer 5) = false := by decide
theorem wf_counter : Instr.wf (.perfCntLoRead 2048) = false ∧ Instr.wf (.perfCntLoRead 2047) = true := by decide
theorem wf_entry : Instr.wf (.samplerTick 256) = false ∧ Instr.wf (.samplerTick 255) = true := by decide
theorem wf_bar : Instr.wf (.registerLoRead { offset := 0x4000000 }) = false ∧ Instr.wf (.registerLoRead { offset := 0x3FFFFFC }) = true := by decide
theorem wf_nbytes : Instr.wf (.registerWrite 0 5 0) = false ∧ Instr.wf (.registerWrite 0 0 0) = false := by decide
theorem wf_window : Instr.wf (.bar2Write 65535 [0, 0]) = false ∧ Instr.wf (.bar2Write 65534 [0, 0]) = true := by decide
theorem wf_len : Instr.wf (.mboxShelfkeyLoad [] false) = false ∧ Instr.wf (.mboxShelfkeyLoad aBlob false) = true := by decide
theorem wf_upTo : Instr.wf (.straitConfigChartChunk aStraitHdr 0 false (List.replicate 4097 0)) = false := by decide +kernel
theorem wf_units : Instr.wf (.straitRegion aStraitHdr 0 0 []) = false ∧ Instr.wf (.straitRegion aStraitHdr 0 0 [2 ^ 512]) = false := by decide
theorem wf_cap : Instr.wf (.read 1 1 { aCapsule with nlb := 0 }) = false ∧ Instr.wf (.read 1 1 aCapsule) = true := by decide
theorem wf_hdr : Instr.wf (.straitSyncBegin { aStraitHdr with lseq := 2 ^ 32 }) = false := by decide
theorem wf_frame : Instr.wf (.recvOtherFrame { aFrameInfo with port := 8 }) = false := by decide
theorem wf_frag : Instr.wf (.recvRdmaWrite 2 0 0 { aFrag with len := 4097 } aFrameInfo) = false := by decide
theorem wf_spray : Instr.wf (.recvSprayWrite 2 { aSprayHdr with fragIndex := 1, fragCount := 1 } aFrag aFrameInfo) = false := by decide
theorem wf_sack : Instr.wf (.recvSprayAck 2 { aSackBlock with cumPsn := 2 ^ 24 }) = false := by decide
theorem wf_cm : Instr.wf (.cmConnectRequest { aCmRequest with psn := 2 ^ 24 }) = false := by decide
theorem wf_connect : Instr.wf (.connect { aConnectArgs with hostid := 2 ^ 128 }) = false := by decide
theorem wf_create : Instr.wf (.namespaceCreate 1 1 { aNsCreateArgs with nsze := 2 ^ 64 }) = false := by decide
theorem wf_probe : Instr.wf (.driveEnumerate { aDriveProbe with bay := 32 }) = false := by decide
theorem wf_announce : Instr.wf (.ptpAnnounceReceive { aAnnounce with port := 8 }) = false := by decide
theorem wf_binding : Instr.wf (.mboxBindSet 0 { aBinding with cove := 4096 }) = false := by decide
theorem wf_netAddr : Instr.wf (.mboxNetAddrSet { aNetAddr with vlan := 4096 } false) = false := by decide
theorem wf_tag : Instr.wf (.straitPage aStraitHdr 0 { aTag with pageIndex := 1, pageCount := 1 } 0 false) = false := by decide
theorem wf_hello : Instr.wf (.straitHello aStraitHdr { aHello with side := 2 }) = false := by decide
theorem wf_nsDef : Instr.wf (.straitConfigNamespace aStraitHdr { aNsDef with grain := 3 }) = false := by decide
theorem wf_coveDef : Instr.wf (.straitConfigCove aStraitHdr { aCoveDef with state := 5 }) = false := by decide
theorem wf_resv : Instr.wf (.straitConfigReservation aStraitHdr { aResvRecord with gen := 2 ^ 64 }) = false := by decide
theorem wf_keyRecord : Instr.wf (.straitConfigNsKey aStraitHdr { aKeyRecord with kind := 256 } (List.replicate 40 0)) = false := by decide
theorem wf_slotRecord : Instr.wf (.straitConfigSlotKey aStraitHdr { aSlotRecord with slot := 16 }) = false := by decide
theorem wf_barRead : Instr.wf (.registerLoRead { offset := 2, nbytes := 3 }) = false ∧ Instr.wf (.registerLoRead { offset := 2, nbytes := 2 }) = true := by decide
theorem wf_blockRead : Instr.wf (.mapPageFetchDone 0 { bad := [(0, 32)] }) = false ∧ Instr.wf (.mapPageFetchDone 0 { bad := [(31, 31)] }) = true := by decide
theorem wf_rowRead : Instr.wf (.rebuildRow 0 { row := 0, bad := [(32, 0)] }) = false := by decide
theorem wf_lateRead : Instr.wf (.readSoftDeadline { mcid := 0, late := [32] }) = false := by decide
theorem wf_grainRead : Instr.wf (.zeroMaskRewrite 1 { grain := 0, bad := [(0, 32, 0)] }) = false := by decide
theorem wf_patrol : Instr.wf (.patrolRow 0 0 { failed := [32] }) = false ∧ Instr.wf (.patrolRow 0 0 { diffs := [(31, 1)] }) = true := by decide

/-! ## Results that the spec states, most of them from its worked examples -/

/-- The geometry of the example under 04 R102, R104: 32 members, PARITY 3, one spare strip. -/
def exGeom : ShoalCfg := { aCfg with width := 32, parity := 3, spareStrips := 1, members := 0xFFFFFFFF }

/-- Row 1,000: P, Q and S at 8 to 10, the spare strip at 11, data strips 0, 19, 20 and 27 at 12, 31, 0 and 7. -/
theorem test_row_1000 :
    (rowOffset exGeom 1000, sparePos exGeom 1000 0, dataPos exGeom 1000 0, dataPos exGeom 1000 19, dataPos exGeom 1000 20, dataPos exGeom 1000 27)
      = (8, 11, 12, 31, 0, 7) := by decide

/-- Slot 650 is block 10 of data strip 20, at LBA 97,546 of position 0. -/
theorem test_slot_650 : slotPos exGeom 1000 650 = (0, 10) ∧ memberLba 1000 10 = 97546 := by decide

/-- The map entry of Shoal 0, row 1,000, slot 648 (the example of 04 R122). -/
theorem test_map_entry : entryNum (.mapped { shoal := 0, row := 1000, slot := 648 }) = 0x40000000000FA288 := by decide

/-- 1 MiB takes 256 pages (the example of 01). -/
theorem test_credits : creditsFor 1048576 = 256 ∧ creditsFor 1 = 1 := by decide

/-- WARN of the recurring shelf, s = 59,392, is 44,544 (the example of 03 R79, 03 R83). -/
theorem test_thresholds : threshold 59392 1 = 44544 ∧ threshold 59392 2 = 51968 ∧ threshold 59392 3 = 57610 := by decide

/-- An unaligned 2 MiB command touches 33 ranges of 64 KiB, an aligned one 32 (05 R149). -/
theorem test_links : linksOf [{ lba := 1, len := 512 }] = 33 ∧ linksOf [{ lba := 0, len := 512 }] = 32 := by decide

/-- The shaper of the example of 10 R330: both buckets at −3,214 bytes refill for 10 µs to −1,964 and −714. -/
theorem test_shaper : refill { cTok := -3214 * 8000, pTok := -3214 * 8000 } 10000 1000 (8000 * 16384) 2000 (8000 * 65536)
    = { cTok := -1964 * 8000, pTok := -714 * 8000, last := 10000 } := by decide

/-- The rebuild rate in the example of 14 R430, H = 0.2: it stays at 13,000 MB/s to within the rounding of H. -/
theorem test_rebuild_rate : approach (1000, 16000) 13107 (13000 * 65536) / 65536 = 13000 := by decide

/-- CRC-32C of 123456789 is E3069283h: the CRC of 03 R68 and 04 R106 (the check value that CRC catalogues give). -/
theorem test_crc32c : crc32c [0x31, 0x32, 0x33, 0x34, 0x35, 0x36, 0x37, 0x38, 0x39] = 0xE3069283#32 := by decide

/-- A BAR2 read of the window's last bytes moves DP_ADDR on by 65,536 (18 R513 and its example). -/
theorem test_sweep : (match exec (.bar2Read 65528 8 .clean) { aRun with dev.mhi.dpAddr := 0x10F900000, dev.mhi.dpSize := 2, dev.mhi.dpAutoInc := true } with
    | .next t => t.dev.mhi.dpAddr | _ => 0) = 0x10F910000 := by decide

/-- The same read of bytes before the last leaves DP_ADDR. -/
theorem test_sweep_inside : (match exec (.bar2Read 0 8 .clean) { aRun with dev.mhi.dpAddr := 0x10F900000, dev.mhi.dpSize := 2, dev.mhi.dpAutoInc := true } with
    | .next t => t.dev.mhi.dpAddr | _ => 0) = 0x10F900000 := by decide

/-- A bucket of Prism: the exclusive or of the key's 12-bit parts (09 R290). -/
theorem test_bucket : bucketOf 0x001002 = 0x003 := by decide

/-- Rows of the table carry no bits, so no word spells a command (log entry 6). -/
theorem test_no_word : decodeTableWord 0 0 = none ∧ decodeTableWord 64 5 = none := by decide

/-- The block idles with an empty queue: time goes on, here in reset nothing moves (log entry 8). -/
theorem test_idle_reset : step State.reset = .next State.reset := by rfl

/-- The command in front runs, and leaves the queue. -/
theorem test_front : (match step { State.reset with pending := [.smbWrite, .smbTempRead] } with | .next t => t.pending | _ => []) = [.smbTempRead] := by rfl

/-- GLOBAL_ALERT bit 0 of a code-7 start and bit 3 of failed entropy (18 R500). -/
theorem test_alert : alertBits { aRun.dev with boot.code := 7, keys.entropyOk := true } = 1#6 ∧ alertBits { aRun.dev with keys.entropyOk := false } = 8#6 := by decide

/-! ## An image that passes its checks -/
/-- The fields of an image of Cove 1 in front of CHECK: no namespace, no binding (R356). -/
def aHead : List Byte := [0x57, 0x58, 0x43, 0x49] ++ leBytes 1 2 ++ leBytes 64 2 ++ leBytes 2568 4 ++ leBytes 1 2 ++ zeros 6

/-- Its bytes after CHECK up to the first byte of the NQN. -/
def aNqn : List Byte := zeros 112 ++ [1]

/-- A whole image. -/
def aImage : List Byte := aHead ++ (leBytes 3749776245 4 ++ (aNqn ++ zeros 2431))

theorem foldl_zeros (n m : Nat) (c : BitVec 32) :
    (zeros (n + m)).foldl crc32cByte c = (zeros m).foldl crc32cByte ((zeros n).foldl crc32cByte c) := by
  simp [zeros, ← List.replicate_append_replicate]

theorem crc_head : (aHead ++ zeros 4 ++ aNqn).foldl crc32cByte 0xFFFFFFFF#32 = 4096861897#32 := by decide +kernel
theorem crc_zeros0 : (zeros 256).foldl crc32cByte 4096861897#32 = 964503130#32 := by decide +kernel
theorem crc_zeros1 : (zeros 256).foldl crc32cByte 964503130#32 = 4001662157#32 := by decide +kernel
theorem crc_zeros2 : (zeros 256).foldl crc32cByte 4001662157#32 = 4058058386#32 := by decide +kernel
theorem crc_zeros3 : (zeros 256).foldl crc32cByte 4058058386#32 = 3673834319#32 := by decide +kernel
theorem crc_zeros4 : (zeros 256).foldl crc32cByte 3673834319#32 = 541539943#32 := by decide +kernel
theorem crc_zeros5 : (zeros 256).foldl crc32cByte 541539943#32 = 286129832#32 := by decide +kernel
theorem crc_zeros6 : (zeros 256).foldl crc32cByte 286129832#32 = 2910736984#32 := by decide +kernel
theorem crc_zeros7 : (zeros 256).foldl crc32cByte 2910736984#32 = 1000212464#32 := by decide +kernel
theorem crc_zeros8 : (zeros 256).foldl crc32cByte 1000212464#32 = 3215493284#32 := by decide +kernel
theorem crc_zeros9 : (zeros 127).foldl crc32cByte 3215493284#32 = 545191050#32 := by decide +kernel

theorem crc_image : crc32c (aHead ++ zeros 4 ++ (aNqn ++ zeros 2431)) = 3749776245#32 := by
  rw [← List.append_assoc, crc32c, List.foldl_append, crc_head]
  rw [show (2431 : Nat) = 256 + 2175 from rfl, foldl_zeros, crc_zeros0]
  rw [show (2175 : Nat) = 256 + 1919 from rfl, foldl_zeros, crc_zeros1]
  rw [show (1919 : Nat) = 256 + 1663 from rfl, foldl_zeros, crc_zeros2]
  rw [show (1663 : Nat) = 256 + 1407 from rfl, foldl_zeros, crc_zeros3]
  rw [show (1407 : Nat) = 256 + 1151 from rfl, foldl_zeros, crc_zeros4]
  rw [show (1151 : Nat) = 256 + 895 from rfl, foldl_zeros, crc_zeros5]
  rw [show (895 : Nat) = 256 + 639 from rfl, foldl_zeros, crc_zeros6]
  rw [show (639 : Nat) = 256 + 383 from rfl, foldl_zeros, crc_zeros7]
  rw [show (383 : Nat) = 256 + 127 from rfl, foldl_zeros, crc_zeros8]
  rw [crc_zeros9]; decide

theorem zeros_length (n : Nat) : (zeros n).length = n := List.length_replicate

theorem aImage_length : aImage.length = 2568 := by
  simp only [aImage, aHead, aNqn, List.length_append, zeros_length, leBytes, List.length_cons, List.length_nil]

theorem aImage_take (n : Nat) : (aImage ++ zeros n).take 20 = aHead := by
  rw [aImage, List.append_assoc]
  exact List.take_left' rfl

theorem aImage_drop (n : Nat) : ((aImage ++ zeros n).drop 24).take (2568 - 24) = aNqn ++ zeros 2431 := by
  rw [show aImage ++ zeros n = (aHead ++ leBytes 3749776245 4) ++ ((aNqn ++ zeros 2431) ++ zeros n) by simp only [aImage, List.append_assoc]]
  rw [show List.drop 24 ((aHead ++ leBytes 3749776245 4) ++ ((aNqn ++ zeros 2431) ++ zeros n)) = (aNqn ++ zeros 2431) ++ zeros n from List.drop_left' rfl]
  exact List.take_left' (by simp only [aNqn, List.length_append, zeros_length, List.length_cons, List.length_nil])

theorem aImage_w8 (n : Nat) : wide (aImage ++ zeros n) 8 4 = 2568 := rfl
theorem aImage_w4 (n : Nat) : wide (aImage ++ zeros n) 4 2 = 1 := rfl
theorem aImage_w6 (n : Nat) : wide (aImage ++ zeros n) 6 2 = 64 := rfl
theorem aImage_w20 (n : Nat) : wide (aImage ++ zeros n) 20 4 = 3749776245 :=
  (show _ = leNum (leBytes 3749776245 4) from rfl).trans (by decide)
theorem aImage_magic (n : Nat) : (aImage ++ zeros n).take 4 = [0x57#8, 0x58#8, 0x43#8, 0x49#8] := rfl
theorem aImage_counts (n : Nat) : imageCounts (aImage ++ zeros n) = (0, 0) := rfl

theorem aImage_ok (n : Nat) : imageOk (aImage ++ zeros n) = true := by
  have hl : 2568 ≤ (aImage ++ zeros n).length := by simp only [List.length_append, aImage_length]; omega
  have hz : imageLength 0 0 = 2568 := rfl
  simp only [imageOk, aImage_counts, aImage_w8, aImage_w4, aImage_w6, aImage_magic, aImage_w20, hz, aImage_take, aImage_drop, crc_image, hl]
  rfl

/-- Memory with the image at COVEIMG slot 0. -/
@[irreducible] def aSlot : Memory := mputs [] (pageAddr (imagePage aRun.dev 0)) (aImage ++ zeros 62968)

theorem aSlot_read : mgets aSlot (pageAddr (imagePage aRun.dev 0)) 65536 = aImage ++ zeros 62968 := by
  have h := mgets_mputs (aImage ++ zeros 62968) [] (pageAddr (imagePage aRun.dev 0)) rfl
  have hl : (aImage ++ zeros 62968).length = 65536 := by simp only [List.length_append, aImage_length, zeros_length]
  rw [hl] at h
  unfold aSlot
  exact h

/-- A device that holds the image in slot 0, and Cove 4095. -/
def aImaged : State :=
  { aRun with
    dev.host.ctrls := [(4097, { aCtrl with enabled := true, cove := 0 })], dev.pool.imgUsed := [0],
    dev.cove.tab := [(4095, aCoveRec)], mem := aSlot }

theorem aImage_passes : importFails aImaged.dev 2 (aImage ++ zeros 62968) = none := by
  simp only [importFails, aImage_ok, aImage_counts, Bool.not_true]
  decide +kernel

theorem aImage_enters :
    importFails { aImaged.dev with mhi.mboxRefused := false, mhi.mboxBusy := true, mhi.mboxPending := false } 2
      (mgets aImaged.mem (pageAddr (imagePage aImaged.dev 0)) 65536) = none := by
  have hp : pageAddr (imagePage aImaged.dev 0) = pageAddr (imagePage aRun.dev 0) := by decide
  rw [show aImaged.mem = aSlot from rfl, hp, aSlot_read]
  simp only [importFails, aImage_ok, aImage_counts, Bool.not_true]
  decide +kernel

/-! ## Full tables -/

theorem mem_run : ∀ (n a i : Nat), a ≤ i → i < a + n → i ∈ run a n
  | 0, _, _, h1, h2 => by omega
  | n + 1, a, i, h1, h2 => by
    by_cases h : i = a
    · simp [run, h]
    · exact List.mem_cons_of_mem _ (mem_run n (a + 1) i (by omega) (by omega))

theorem tfree_none {α : Type} (t : Table α) : ∀ (n a : Nat), (∀ i, a ≤ i → i < a + n → thas t i = true) → tfree t a n = none
  | 0, _, _ => rfl
  | n + 1, a, h => by
    rw [tfree, if_pos (h a (by omega) (by omega))]
    exact tfree_none t n (a + 1) (fun i h1 h2 => h i (by omega) (by omega))

theorem tfree_run {α : Type} (x : α) (n a : Nat) : tfree ((run a n).map (fun j => (j, x))) a n = none :=
  tfree_none _ n a (fun i h1 h2 => by simp [thas, mem_run n a i h1 h2])

/-- Every controller number is in use; Cove 1 takes its host, for admin queue pair 1. -/
def aCrowd : State :=
  { aRun with
    dev.net.qps := [(1, { aQp with connected := true, cntlid := 0 })], dev.cove.tab := [(1, { aCoveRec with state := .active, nqn := [1] })],
    dev.cove.bindings := [(0, { aBinding with maxAssoc := 0 })], dev.host.ctrls := (run 1 65519).map (fun j => (j, aCtrl)) }

/-- Every namespace number is in use, all in Shoal 1. -/
def aNsCrowd : State :=
  { aRun with
    dev.host.ctrls := [(4097, { aCtrl with enabled := true, cove := 0 })],
    dev.host.nss := (run 1 4096).map (fun j => (j, { aNs with shoal := 1 })) }

theorem aNsCrowd_reserved : reservedBlocks aNsCrowd.dev 0 = 0 := by
  have h : aNsCrowd.dev.host.nss.filter (fun n => n.2.shoal == 0) = [] := by
    rw [List.filter_eq_nil_iff]
    intro e he
    obtain ⟨j, _, rfl⟩ := List.mem_map.mp (show e ∈ (run 1 4096).map (fun j => (j, { aNs with shoal := 1 })) from he)
    simp
  simp [reservedBlocks, h, lsum]

theorem aNsCrowd_place : ∃ base, placePages aNsCrowd.dev 1 = some base := by
  refine Option.isSome_iff_exists.mp ?_
  simp only [placePages, List.find?_isSome]
  have hu : ∀ u ∈ aNsCrowd.dev.host.nss.map (fun e => (e.2.pageBase, nsPages e.2)), u = (0, nsPages { aNs with shoal := 1 }) := by
    intro u hu
    obtain ⟨e, he, rfl⟩ := List.mem_map.mp hu
    obtain ⟨j, _, rfl⟩ := List.mem_map.mp (show e ∈ (run 1 4096).map (fun j => (j, { aNs with shoal := 1 })) from he)
    rfl
  refine ⟨nsPages { aNs with shoal := 1 }, ?_, ?_⟩
  · rw [List.mem_mergeSort]
    refine List.mem_cons_of_mem _ (List.mem_map.mpr ⟨(0, nsPages { aNs with shoal := 1 }), ?_, by simp⟩)
    exact List.mem_map.mpr ⟨(1, { aNs with shoal := 1 }), List.mem_map.mpr ⟨1, mem_run 4096 1 1 (by omega) (by omega), rfl⟩, rfl⟩
  · rw [Bool.and_eq_true, List.all_eq_true]
    refine ⟨by decide, fun u h => ?_⟩
    rw [hu u h]; decide


/-! ## A long frame -/

theorem frame_long (n : Nat) : frameBytes { aStraitFrame with payload := List.replicate n 0 } = 24 + n := by simp [frameBytes]

theorem frame_full : 2 ^ 20 < replayBytes aRun.dev + frameBytes { aStraitFrame with payload := List.replicate 1048576 0 } := by
  rw [frame_long 1048576]
  exact Nat.lt_of_lt_of_le (by decide : 2 ^ 20 < 24 + 1048576) (Nat.le_add_left _ _)

theorem strait_full : ∃ (s : State) (f : StraitFrame), 2 ^ 20 < replayBytes s.dev + frameBytes f := ⟨aRun, _, frame_full⟩


/-- The same with its controller enabled and its free rows at the reserve: writes wait. -/
def aFull : State :=
  { aHost with dev.host.ctrls := [(1, { aCtrl with enabled := true })], dev.chart.inForce := some { defaultChart with storage.freeReserve := 1000 } }

/-! ## Witnesses -/

/-- The hypotheses of `Obligations.AdminCommands` can be met. -/
theorem witness_AdminCommands :
    (∃ (d : Dev) (c : ℕ), c ≠ 0 ∧ ctrlOf d c = none)
    ∧ (∃ (d : Dev) (c : ℕ) (k : Ctrl), c ≠ 0 ∧ ctrlOf d c = some k ∧ (k.enabled = false ∨ k.ended = true))
    ∧ (∃ (d : Dev) (c : ℕ) (w : Who) (k : Ctrl), c ≠ 0 ∧ ctrlOf d c = some k ∧ k.enabled = true ∧ k.ended = false ∧ w = Who.cove0 ∧
      k.cove ≠ 0)
    ∧ (∃ (d : Dev) (c : ℕ) (w : Who) (k : Ctrl), c ≠ 0 ∧ ctrlOf d c = some k ∧ k.enabled = true ∧ k.ended = false ∧ (w ≠ Who.cove0
      ∨ k.cove = 0))
    ∧ (∃ (d : Dev), (d.mhi.mboxReady = false ∨ d.mhi.mboxBusy = true ∧ d.mhi.mboxPending = false))
    ∧ (∃ (d : Dev) (w : Who), d.mhi.mboxReady = true ∧ (d.mhi.mboxBusy = false ∨ d.mhi.mboxPending = true) ∧ w = Who.hosts)
    ∧ (∃ (d : Dev) (w : Who), d.mhi.mboxReady = true ∧ (d.mhi.mboxBusy = false ∨ d.mhi.mboxPending = true) ∧ w ≠ Who.hosts)
    ∧ (∃ (d : Dev) (m : Memory) (r : MboxResult) (room : ℕ), Memory.wf m = true ∧ d.mhi.mboxResult = some r ∧ r.status < 2 ^ 32 ∧
      d.mhi.mboxRoom = some room)
    ∧ (∃ (d : Dev) (m : Memory) (r : MboxResult), Memory.wf m = true ∧ d.mhi.mboxResult = some r ∧ r.status < 2 ^ 32 ∧
      d.mhi.mboxRoom = none)
    ∧ (∃ (s : State) (c : ℕ) (q : ℕ) (k : Ctrl) (x : Sq), c ≠ 0 ∧ ctrlOf s.dev c = some k ∧ k.enabled = true ∧ k.ended = false ∧
      sqOf s.dev c q = some x ∧ q ≠ 0 ∧ x.frozen = true ∧ x.held = [])
    ∧ (∃ (s : State) (c : ℕ) (q : ℕ) (k : Ctrl) (x : Sq) (h : HeldCapsule), c ≠ 0 ∧ ctrlOf s.dev c = some k ∧ k.enabled = true ∧
      k.ended = false ∧ sqOf s.dev c q = some x ∧ q ≠ 0 ∧ x.frozen = true ∧ x.held = [h])
    ∧ (∃ (s : State) (c : ℕ) (q : ℕ) (k : Ctrl) (x : Sq), c ≠ 0 ∧ ctrlOf s.dev c = some k ∧ k.enabled = true ∧ k.ended = false ∧
      sqOf s.dev c q = some x ∧ q ≠ 0 ∧ x.frozen = false)
    ∧ (∃ (s : State) (c : ℕ) (q : ℕ) (n : ℕ) (k : Ctrl) (x : Sq), c ≠ 0 ∧ ctrlOf s.dev c = some k ∧ k.enabled = true ∧ k.ended =
      false ∧ sqOf s.dev c q = some x ∧ q ≠ 0 ∧ List.find? (fun (h : HeldCapsule) => h.cap.cid == n) x.held = none)
    ∧ (∃ (s : State) (c : ℕ) (q : ℕ) (n : ℕ) (k : Ctrl) (x : Sq) (h : HeldCapsule) (l : List HeldCapsule), c ≠ 0 ∧ ctrlOf s.dev c =
      some k ∧ k.enabled = true ∧ k.ended = false ∧ sqOf s.dev c q = some x ∧ q ≠ 0 ∧ x.held = h :: l ∧ h.cap.cid = n)
    ∧ (∃ (s : State) (c : ℕ) (q : ℕ) (k : Ctrl), c ≠ 0 ∧ ctrlOf s.dev c = some k ∧ k.enabled = true ∧ k.ended = false ∧ sqOf s.dev
      c q = none)
    ∧ (∃ (s : State) (c : ℕ) (k : Ctrl), c ≠ 0 ∧ ctrlOf s.dev c = some k ∧ k.enabled = true ∧ k.ended = false ∧ 4 ≤ k.aers.length)
    ∧ (∃ (s : State) (c : ℕ) (k : Ctrl), c ≠ 0 ∧ ctrlOf s.dev c = some k ∧ k.enabled = true ∧ k.ended = false ∧ k.aers.length < 4 ∧
      k.pendingEvents = [] ∧ k.cove ≠ 0)
    ∧ (∃ (s : State) (c : ℕ) (k : Ctrl) (e : AsyncEvent) (l : List AsyncEvent), c ≠ 0 ∧ ctrlOf s.dev c = some k ∧ k.enabled = true
      ∧ k.ended = false ∧ k.aers = [] ∧ k.pendingEvents = e :: l)
    ∧ (∃ (s : State) (c : ℕ) (n : ℕ) (k : Ctrl) (v : ℕ), c ≠ 0 ∧ ctrlOf s.dev c = some k ∧ k.enabled = true ∧ k.ended = false ∧
      k.cove = 0 ∧ v < 2 ∧ (List.all s.dev.shelf.labels fun (l : ℕ × ShoalLabel) => !l.2.lost.any (fun (e : LostEntry) => decide
      (e.seq ≤ n) && (e.resolved || e.dead)) && l.2.lostOverflow == 0) = true)
    ∧ (∃ (s : State) (c : ℕ) (n : ℕ) (k : Ctrl) (sh : ℕ) (l : ShoalLabel), c ≠ 0 ∧ ctrlOf s.dev c = some k ∧ k.enabled = true ∧
      k.ended = false ∧ k.cove = 0 ∧ s.dev.shelf.labels = [(sh, l)] ∧ l.lost.any (fun (e : LostEntry) => decide (e.seq ≤ n) &&
      (e.resolved || e.dead)) = true) := by
  exact ⟨⟨(aRun.dev : Dev), 4096, by decide⟩,
    ⟨{ aRun.dev with host.ctrls := [(4096, { aCtrl with enabled := false })] }, 4096, { aCtrl with enabled := false }, by decide⟩,
    ⟨{ aRun.dev with host.ctrls := [(4096, { aCtrl with enabled := true })] }, 4096, Who.cove0, { aCtrl with enabled := true }, by
      decide⟩,
    ⟨{ aRun.dev with host.ctrls := [(4096, { aCtrl with enabled := true })] }, 4096, .hosts, { aCtrl with enabled := true }, by
      decide⟩,
    ⟨{ aRun.dev with mhi.mboxReady := false }, by decide⟩,
    ⟨{ aRun.dev with mhi.mboxReady := true, mhi.mboxBusy := false }, Who.hosts, by decide⟩,
    ⟨{ aRun.dev with mhi.mboxReady := true, mhi.mboxBusy := false }, .cove0, by decide⟩,
    ⟨{ aRun.dev with mhi.mboxResult := some aMboxResult, mhi.mboxRoom := some 4096 }, [], aMboxResult, 4096, by decide⟩,
    ⟨{ aRun.dev with mhi.mboxResult := some aMboxResult }, [], aMboxResult, by decide⟩,
    ⟨{ aRun with dev.host.ctrls := [(4096, { aCtrl with enabled := true })], dev.host.sqs := [((sqKey 4096 4096), { aSq with frozen := true })] },
      4096, 4096, { aCtrl with enabled := true }, { aSq with frozen := true }, by decide⟩,
    ⟨{ aRun with dev.host.ctrls := [(4096, { aCtrl with enabled := true })], dev.host.sqs := [((sqKey 4096 4096), { aSq with frozen := true, held := [aHeldCapsule] })] },
      4096, 4096, { aCtrl with enabled := true }, { aSq with frozen := true, held := [aHeldCapsule] }, aHeldCapsule, by decide⟩,
    ⟨{ aRun with dev.host.ctrls := [(4096, { aCtrl with enabled := true })], dev.host.sqs := [((sqKey 4096 4096), (aSq : Sq))] },
      4096, 4096, { aCtrl with enabled := true }, aSq, by decide⟩,
    ⟨{ aRun with dev.host.ctrls := [(4096, { aCtrl with enabled := true })], dev.host.sqs := [((sqKey 4096 4096), aSq)] }, 4096,
      4096, 4096, { aCtrl with enabled := true }, aSq, by decide⟩,
    ⟨{ aRun with dev.host.ctrls := [(4096, { aCtrl with enabled := true })], dev.host.sqs := [((sqKey 4096 4096), { aSq with held := ({ aHeldCapsule with cap.cid := 4096 } : HeldCapsule) :: [] })] },
      4096, 4096, 4096, { aCtrl with enabled := true },
      { aSq with held := ({ aHeldCapsule with cap.cid := 4096 } : HeldCapsule) :: [] }, { aHeldCapsule with cap.cid := 4096 }, [],
      by decide⟩,
    ⟨{ aRun with dev.host.ctrls := [(4096, { aCtrl with enabled := true })] }, 4096, 4096, { aCtrl with enabled := true }, by
      decide⟩,
    ⟨{ aRun with dev.host.ctrls := [(4096, { aCtrl with enabled := true, aers := [1, 2, 3, 4] })] }, 4096,
      { aCtrl with enabled := true, aers := [1, 2, 3, 4] }, by decide⟩,
    ⟨{ aRun with dev.host.ctrls := [(4096, { aCtrl with enabled := true })] }, 4096, { aCtrl with enabled := true }, by decide⟩,
    ⟨{ aRun with dev.host.ctrls := [(4096, { aCtrl with enabled := true, pendingEvents := aAsyncEvent :: [] })] }, 4096,
      { aCtrl with enabled := true, pendingEvents := aAsyncEvent :: [] }, aAsyncEvent, [], by decide⟩,
    ⟨{ aRun with dev.host.ctrls := [(4096, { aCtrl with enabled := true, cove := 0 })] }, 4096, 4096,
      { aCtrl with enabled := true, cove := 0 }, 1, by decide⟩,
    ⟨{ aRun with dev.shelf.labels := [(4096, { aShoalLabel with lost := [{ seq := 1, cause := 1, resolved := true }] })], dev.host.ctrls := [(4096, { aCtrl with enabled := true, cove := 0 })] },
      4096, 1, { aCtrl with enabled := true, cove := 0 }, 4096,
      { aShoalLabel with lost := [{ seq := 1, cause := 1, resolved := true }] }, by decide⟩⟩

/-- The hypotheses of `Obligations.AdmissionOrder` can be met. -/
theorem witness_AdmissionOrder :
    (∃ (d : Dev) (c : ℕ) (q : ℕ) (s : Sq) (h : HeldCapsule) (l : List HeldCapsule), sqOf d c q = some s ∧ s.held = h :: l ∧ stopped
      d c s = true)
    ∧ (∃ (d : Dev) (c : ℕ) (q : ℕ) (s : Sq) (h : HeldCapsule) (l : List HeldCapsule) (st : Status), sqOf d c q = some s ∧ s.held =
      h :: l ∧ stopped d c s = false ∧ h.policed = false ∧ checkCapsule d c q s.qpn h.op h.cap = some st)
    ∧ (∃ (d : Dev) (c : ℕ) (q : ℕ) (s : Sq) (h : HeldCapsule) (l : List HeldCapsule) (e : Dev), sqOf d c q = some s ∧ s.held = h ::
      l ∧ stopped d c s = false ∧ h.policed = false ∧ checkCapsule d c q s.qpn h.op h.cap = none ∧ police (ctrlCove d c) (sglBytes
      h.cap) d = (Colour.red, e))
    ∧ (∃ (d : Dev) (c : ℕ) (q : ℕ) (s : Sq) (h : HeldCapsule) (l : List HeldCapsule) (e : Dev), sqOf d c q = some s ∧ s.held = h ::
      l ∧ stopped d c s = false ∧ h.policed = false ∧ checkCapsule d c q s.qpn h.op h.cap = none ∧ police (ctrlCove d c) (sglBytes
      h.cap) d = (Colour.green, e))
    ∧ (∃ (d : Dev) (c : ℕ) (q : ℕ) (s : Sq) (h : HeldCapsule) (l : List HeldCapsule) (e : Dev), sqOf d c q = some s ∧ s.held = h ::
      l ∧ stopped d c s = false ∧ h.policed = false ∧ checkCapsule d c q s.qpn h.op h.cap = none ∧ police (ctrlCove d c) (sglBytes
      h.cap) d = (Colour.yellow, e))
    ∧ (∃ (d : Dev) (c : ℕ) (q : ℕ) (s : Sq) (h : HeldCapsule) (l : List HeldCapsule), sqOf d c q = some s ∧ s.held = h :: l ∧
      stopped d c s = false ∧ h.policed = true ∧ ctrlCove d c ≠ 0 ∧ threshold (inService d) 3 ≤ occupancy d)
    ∧ (∃ (d : Dev) (c : ℕ) (q : ℕ) (s : Sq) (h : HeldCapsule) (l : List HeldCapsule), sqOf d c q = some s ∧ s.held = h :: l ∧
      stopped d c s = false ∧ h.policed = true ∧ ¬(ctrlCove d c ≠ 0 ∧ threshold (inService d) 3 ≤ occupancy d) ∧ (if h.op =
      IoOp.write then if behindCove d c q = true then Gate.wait else gateWrite d (ctrlCove d c) (if h.op = IoOp.write then
      creditsFor (sglBytes h.cap) else 0) else Gate.charge PoolSpace.shared) = Gate.wait)
    ∧ (∃ (d : Dev) (c : ℕ) (q : ℕ) (s : Sq) (h : HeldCapsule) (l : List HeldCapsule) (sp : PoolSpace), sqOf d c q = some s ∧ s.held
      = h :: l ∧ stopped d c s = false ∧ h.policed = true ∧ ¬(ctrlCove d c ≠ 0 ∧ threshold (inService d) 3 ≤ occupancy d) ∧ (if
      h.op = IoOp.write then if behindCove d c q = true then Gate.wait else gateWrite d (ctrlCove d c) (if h.op = IoOp.write then
      creditsFor (sglBytes h.cap) else 0) else Gate.charge PoolSpace.shared) = Gate.charge sp ∧ (h.op = IoOp.write ∨ h.op =
      IoOp.writeZeroes) ∧ aboveReserve d (nsShoal d h.cap.nsid) = false)
    ∧ (∃ (d : Dev) (c : ℕ) (q : ℕ) (s : Sq) (h : HeldCapsule) (l : List HeldCapsule) (sp : PoolSpace), sqOf d c q = some s ∧ s.held
      = h :: l ∧ stopped d c s = false ∧ h.policed = true ∧ ¬(ctrlCove d c ≠ 0 ∧ threshold (inService d) 3 ≤ occupancy d) ∧ (if
      h.op = IoOp.write then if behindCove d c q = true then Gate.wait else gateWrite d (ctrlCove d c) (if h.op = IoOp.write then
      creditsFor (sglBytes h.cap) else 0) else Gate.charge PoolSpace.shared) = Gate.charge sp ∧ (h.op = IoOp.write ∨ h.op =
      IoOp.writeZeroes → aboveReserve d (nsShoal d h.cap.nsid) = true) ∧ (trackerRoom d (trackRanges d h.op h.cap) = false ∨
      logRoom d h = false))
    ∧ (∃ (d : Dev) (c : ℕ) (q : ℕ) (s : Sq) (h : HeldCapsule) (l : List HeldCapsule) (sp : PoolSpace), sqOf d c q = some s ∧ s.held
      = h :: l ∧ stopped d c s = false ∧ h.policed = true ∧ ¬(ctrlCove d c ≠ 0 ∧ threshold (inService d) 3 ≤ occupancy d) ∧ (if
      h.op = IoOp.write then if behindCove d c q = true then Gate.wait else gateWrite d (ctrlCove d c) (if h.op = IoOp.write then
      creditsFor (sglBytes h.cap) else 0) else Gate.charge PoolSpace.shared) = Gate.charge sp ∧ (h.op = IoOp.write ∨ h.op =
      IoOp.writeZeroes → aboveReserve d (nsShoal d h.cap.nsid) = true) ∧ trackerRoom d (trackRanges d h.op h.cap) = true ∧ logRoom
      d h = true ∧ underCeiling d (sglBytes h.cap) = false)
    ∧ (∃ (d : Dev) (c : ℕ) (q : ℕ) (s : Sq) (h : HeldCapsule) (l : List HeldCapsule) (sp : PoolSpace), sqOf d c q = some s ∧ s.held
      = h :: l ∧ stopped d c s = false ∧ h.policed = true ∧ ¬(ctrlCove d c ≠ 0 ∧ threshold (inService d) 3 ≤ occupancy d) ∧ (if
      h.op = IoOp.write then if behindCove d c q = true then Gate.wait else gateWrite d (ctrlCove d c) (if h.op = IoOp.write then
      creditsFor (sglBytes h.cap) else 0) else Gate.charge PoolSpace.shared) = Gate.charge sp ∧ (h.op = IoOp.write ∨ h.op =
      IoOp.writeZeroes → aboveReserve d (nsShoal d h.cap.nsid) = true) ∧ trackerRoom d (trackRanges d h.op h.cap) = true ∧ logRoom
      d h = true ∧ underCeiling d (sglBytes h.cap) = true)
    ∧ (∃ (d : Dev) (c : ℕ) (q : ℕ) (s : Sq) (h : HeldCapsule) (l : List HeldCapsule), sqOf d c q = some s ∧ s.held = h :: l ∧ h.op
      ∉ [IoOp.resvRegister, IoOp.resvReport, IoOp.resvAcquire, IoOp.resvRelease] ∧ kindOf h.op h.cap ≠ CmdKind.flushAll ∧
      resvConflict (resvOf d h.cap.nsid) (hostOf d c) (opReads h.op) = true)
    ∧ (∃ (d : Dev) (c : ℕ) (q : ℕ) (s : Sq) (h : HeldCapsule) (l : List HeldCapsule), sqOf d c q = some s ∧ s.held = h :: l ∧ h.op
      ∉ [IoOp.resvRegister, IoOp.resvReport, IoOp.resvAcquire, IoOp.resvRelease] ∧ kindOf h.op h.cap ≠ CmdKind.flushAll ∧
      resvConflict (resvOf d h.cap.nsid) (hostOf d c) (opReads h.op) = false ∧ markStands d h.cap.nsid = false)
    ∧ (∃ (d : Dev) (c : ℕ) (q : ℕ) (s : Sq) (h : HeldCapsule) (l : List HeldCapsule), sqOf d c q = some s ∧ s.held = h :: l ∧ h.op
      ∉ [IoOp.resvRegister, IoOp.resvReport, IoOp.resvAcquire, IoOp.resvRelease] ∧ kindOf h.op h.cap ≠ CmdKind.flushAll ∧
      resvConflict (resvOf d h.cap.nsid) (hostOf d c) (opReads h.op) = false ∧ markStands d h.cap.nsid = true)
    ∧ (∃ (d : Dev) (c : ℕ) (q : ℕ) (s : Sq) (h : HeldCapsule) (l : List HeldCapsule) (a : ResvArgs), sqOf d c q = some s ∧ s.held =
      h :: l ∧ h.cap.resv = some a ∧ h.op ∈ [IoOp.resvRegister, IoOp.resvReport, IoOp.resvAcquire, IoOp.resvRelease]) := by
  exact ⟨⟨{ aRun.dev with host.sqs := [((sqKey 4096 4096), { aSq with held := aHeldCapsule :: [] })] }, 4096, 4096,
      { aSq with held := aHeldCapsule :: [] }, aHeldCapsule, [], by decide⟩,
    ⟨({ aHost.dev with host.sqs := [((sqKey 1 1), { aSq with held := ({ aHeldCapsule with policed := false, cap := { aCapsule with nsid := 2 } } : HeldCapsule) :: [] })] }
      : Dev), 1, 1,
      { aSq with held := ({ aHeldCapsule with policed := false, cap := { aCapsule with nsid := 2 } } : HeldCapsule) :: [] },
      { aHeldCapsule with policed := false, cap := { aCapsule with nsid := 2 } }, [], (gen 0x0B), by decide⟩,
    ⟨{ aHost.dev with host.sqs := [((sqKey 1 1), { aSq with held := ({ aHeldCapsule with op := .flush } : HeldCapsule) :: [] })], sched.cmdPolicer := [(1, { cTok := 0, pTok := 0 })] },
      1, 1, { aSq with held := ({ aHeldCapsule with op := .flush } : HeldCapsule) :: [] }, { aHeldCapsule with op := .flush }, [],
      ((police (ctrlCove
      ({ aHost.dev with host.sqs := [((sqKey 1 1), { aSq with held := ({ aHeldCapsule with op := .flush } : HeldCapsule) :: [] })], sched.cmdPolicer := [(1, { cTok := 0, pTok := 0 })] }
      : Dev) 1) (sglBytes ({ aHeldCapsule with op := .flush } : HeldCapsule).cap)
      ({ aHost.dev with host.sqs := [((sqKey 1 1), { aSq with held := ({ aHeldCapsule with op := .flush } : HeldCapsule) :: [] })], sched.cmdPolicer := [(1, { cTok := 0, pTok := 0 })] }
      : Dev)).2), by decide⟩,
    ⟨{ aHost.dev with host.sqs := [((sqKey 1 1), { aSq with held := ({ aHeldCapsule with op := .flush } : HeldCapsule) :: [] })] },
      1, 1, { aSq with held := ({ aHeldCapsule with op := .flush } : HeldCapsule) :: [] }, { aHeldCapsule with op := .flush }, [],
      ((police (ctrlCove
      ({ aHost.dev with host.sqs := [((sqKey 1 1), { aSq with held := ({ aHeldCapsule with op := .flush } : HeldCapsule) :: [] })] }
      : Dev) 1) (sglBytes ({ aHeldCapsule with op := .flush } : HeldCapsule).cap)
      ({ aHost.dev with host.sqs := [((sqKey 1 1), { aSq with held := ({ aHeldCapsule with op := .flush } : HeldCapsule) :: [] })] }
      : Dev)).2), by decide⟩,
    ⟨({ aHost.dev with host.sqs := [((sqKey 1 1), { aSq with held := ({ aHeldCapsule with policed := false, op := .write, cap := { aCapsule with sgl := .keyed 0 0 4096 } } : HeldCapsule) :: [] })], sched.cmdPolicer := [(1, { cTok := 0, pTok := 2000000000000 })] }
      : Dev), 1, 1,
      { aSq with held := ({ aHeldCapsule with policed := false, op := .write, cap := { aCapsule with sgl := .keyed 0 0 4096 } } : HeldCapsule) :: [] },
      { aHeldCapsule with policed := false, op := .write, cap := { aCapsule with sgl := .keyed 0 0 4096 } }, [], ((police (ctrlCove
      ({ aHost.dev with host.sqs := [((sqKey 1 1), { aSq with held := ({ aHeldCapsule with policed := false, op := .write, cap := { aCapsule with sgl := .keyed 0 0 4096 } } : HeldCapsule) :: [] })], sched.cmdPolicer := [(1, { cTok := 0, pTok := 2000000000000 })] }
      : Dev) 1) (sglBytes ({ aHeldCapsule with policed := false, op := .write, cap := { aCapsule with sgl := .keyed 0 0 4096 } } :
      HeldCapsule).cap)
      ({ aHost.dev with host.sqs := [((sqKey 1 1), { aSq with held := ({ aHeldCapsule with policed := false, op := .write, cap := { aCapsule with sgl := .keyed 0 0 4096 } } : HeldCapsule) :: [] })], sched.cmdPolicer := [(1, { cTok := 0, pTok := 2000000000000 })] }
      : Dev)).2), by decide⟩,
    ⟨{ aHost.dev with host.sqs := [((sqKey 1 1), { aSq with held := ({ aHeldCapsule with policed := true } : HeldCapsule) :: [] })], pool.held := [(2, 59392)] },
      1, 1, { aSq with held := ({ aHeldCapsule with policed := true } : HeldCapsule) :: [] },
      { aHeldCapsule with policed := true }, [], by decide⟩,
    ⟨{ aHost.dev with host.sqs := [((sqKey 1 1), { aSq with held := ({ aHeldCapsule with policed := true, op := .write } : HeldCapsule) :: [] })], pool.held := [(1, 57344)] },
      1, 1, { aSq with held := ({ aHeldCapsule with policed := true, op := .write } : HeldCapsule) :: [] },
      { aHeldCapsule with policed := true, op := .write }, [], by decide⟩,
    ⟨{ aHost.dev with host.sqs := [((sqKey 1 1), { aSq with held := ({ aHeldCapsule with policed := true, op := .write } : HeldCapsule) :: [] })], str.shoals := [(0, { aShoalSt with rows := 0 })] },
      1, 1, { aSq with held := ({ aHeldCapsule with policed := true, op := .write } : HeldCapsule) :: [] },
      { aHeldCapsule with policed := true, op := .write }, [], .shared, by decide⟩,
    ⟨{ aHost.dev with host.sqs := [((sqKey 1 1), { aSq with held := ({ aHeldCapsule with policed := true, op := .writeZeroes } : HeldCapsule) :: [] })], pool.layout := { maplog := 0 } },
      1, 1, { aSq with held := ({ aHeldCapsule with policed := true, op := .writeZeroes } : HeldCapsule) :: [] },
      { aHeldCapsule with policed := true, op := .writeZeroes }, [], .shared, by decide⟩,
    ⟨({ aHost.dev with host.sqs := [((sqKey 1 1), { aSq with held := ({ aHeldCapsule with policed := true, op := .write, cap := { aCapsule with sgl := .keyed 0 0 4096 } } : HeldCapsule) :: [] })], light.stage := 3 }
      : Dev), 1, 1,
      { aSq with held := ({ aHeldCapsule with policed := true, op := .write, cap := { aCapsule with sgl := .keyed 0 0 4096 } } : HeldCapsule) :: [] },
      { aHeldCapsule with policed := true, op := .write, cap := { aCapsule with sgl := .keyed 0 0 4096 } }, [], .shared, by decide⟩,
    ⟨({ aHost.dev with host.sqs := [((sqKey 1 1), { aSq with held := ({ aHeldCapsule with policed := true, op := .write, cap := { aCapsule with sgl := .keyed 0 0 4096 } } : HeldCapsule) :: [] })] }
      : Dev), 1, 1,
      { aSq with held := ({ aHeldCapsule with policed := true, op := .write, cap := { aCapsule with sgl := .keyed 0 0 4096 } } : HeldCapsule) :: [] },
      { aHeldCapsule with policed := true, op := .write, cap := { aCapsule with sgl := .keyed 0 0 4096 } }, [], .shared, by decide⟩,
    ⟨{ aHost.dev with host.sqs := [((sqKey 1 1), { aSq with held := ({ aHeldCapsule with op := .write } : HeldCapsule) :: [] })], host.resv := [(1, { nsid := 1, rtype := 2 })] },
      1, 1, { aSq with held := ({ aHeldCapsule with op := .write } : HeldCapsule) :: [] }, { aHeldCapsule with op := .write }, [],
      by decide⟩,
    ⟨{ aHost.dev with host.sqs := [((sqKey 1 1), { aSq with held := ({ aHeldCapsule with op := .write } : HeldCapsule) :: [] })], host.nss := [(1, { aNs with marking := true })] },
      1, 1, { aSq with held := ({ aHeldCapsule with op := .write } : HeldCapsule) :: [] }, { aHeldCapsule with op := .write }, [],
      by decide⟩,
    ⟨{ aHost.dev with host.sqs := [((sqKey 1 1), { aSq with held := ({ aHeldCapsule with op := .write } : HeldCapsule) :: [] })], host.nss := [(1, { aNs with nextAsn := 5 })] },
      1, 1, { aSq with held := ({ aHeldCapsule with op := .write } : HeldCapsule) :: [] }, { aHeldCapsule with op := .write }, [],
      by decide⟩,
    ⟨{ aHost.dev with host.sqs := [((sqKey 1 1), { aSq with held := ({ aHeldCapsule with cap.resv := some aResvArgs, op := .resvRegister } : HeldCapsule) :: [] })] },
      1, 1, { aSq with held := ({ aHeldCapsule with cap.resv := some aResvArgs, op := .resvRegister } : HeldCapsule) :: [] },
      { aHeldCapsule with cap.resv := some aResvArgs, op := .resvRegister }, [], aResvArgs, by decide⟩⟩

/-- The hypotheses of `Obligations.AssemblyAndEbb` can be met. -/
theorem witness_AssemblyAndEbb :
    (∃ (s : State) (tag : ℕ) (c : Cmd), tget s.dev.adm.cmds tag = some c ∧ c.kind = CmdKind.write ∧ c.absent = false ∧ c.pages ≠ []
      ∧ allStaged s.dev c = true)
    ∧ (∃ (s : State) (tag : ℕ) (c : Cmd), tget s.dev.adm.cmds tag = some c ∧ allStaged s.dev c = false)
    ∧ (∃ (s : State) (tag : ℕ) (c : Cmd), tget s.dev.adm.cmds tag = some c ∧ c.assembled = true ∧ c.absent = false)
    ∧ (∃ (s : State) (tag : ℕ) (c : Cmd), tget s.dev.adm.cmds tag = some c ∧ c.assembled = false)
    ∧ (∃ (s : State) (nsid : ℕ) (g : ℕ), (s.dev.str.overlays.all fun (x : Overlay) => !(x.nsid == nsid && x.grain == g)) = true)
    ∧ (∃ (s : State) (nsid : ℕ) (g : ℕ) (x : Deferred), s.dev.str.deferred = [x] ∧ x.nsid = nsid ∧ x.grain = g ∧ x.cmd = none ∧
      heldBack s.dev nsid g x.asn = false)
    ∧ (∃ (s : State) (nsid : ℕ) (g : ℕ) (x : Deferred), s.dev.str.deferred = [x] ∧ x.nsid = nsid ∧ x.grain = g ∧ x.cmd = none ∧
      heldBack s.dev nsid g x.asn = true)
    ∧ (∃ (s : State), (s.dev.pair.role = Role.standby ∨ s.dev.pair.role = Role.fenced))
    ∧ (∃ (s : State) (sh : ℕ) (row : ℕ), housekeepingPaused s.dev = false ∧ (2 ≤ (judgeEvacuation sh s.dev).pool.level ∨
      (judgeEvacuation sh s.dev).host.power = 3 ∨ ((ebbChoice (judgeEvacuation sh s.dev) sh).any fun (y : Stripe) => y.row == row)
      = false))
    ∧ (∃ (s : State) (sh : ℕ) (row : ℕ) (x : Stripe), housekeepingPaused s.dev = false ∧ (judgeEvacuation sh s.dev).pool.level < 2
      ∧ (judgeEvacuation sh s.dev).host.power ≠ 3 ∧ ((ebbChoice (judgeEvacuation sh s.dev) sh).any fun (y : Stripe) => y.row ==
      row) = true ∧ rowAt (judgeEvacuation sh s.dev) sh row = some x)
    ∧ (∃ (s : State) (nsid : ℕ) (g : ℕ) (o : Overlay), List.find? (fun (x : Overlay) => x.nsid == nsid && x.grain == g)
      s.dev.str.overlays = some o ∧ (List.any s.dev.str.rows fun (e : ℕ × Stripe) => e.2.life != StripeLife.committed &&
      e.2.placed.any fun (p : Placed) => p.nsid == nsid && p.grain == g && p.asn == o.asn && p.src.isNone) = false ∧ ((List.filter
      (fun (l : ℕ) => !bit o.mask (l % max (nsGrain s.dev nsid) 1)) (run (g * max (nsGrain s.dev nsid) 1) (max (nsGrain s.dev nsid)
      1))).all fun (l : ℕ) => fillReady (fillFetch nsid o.asn (List.filter (fun (l : ℕ) => !bit o.mask (l % max (nsGrain s.dev
      nsid) 1)) (run (g * max (nsGrain s.dev nsid) 1) (max (nsGrain s.dev nsid) 1))) s.dev) nsid l o.asn) = false)
    ∧ (∃ (s : State) (nsid : ℕ) (g : ℕ) (o : Overlay) (bs : List Machine.Block) (bad : List (ℕ × ℕ × ℕ)) (f : Dev), List.find? (fun
      (x : Overlay) => x.nsid == nsid && x.grain == g) s.dev.str.overlays = some o ∧ (List.any s.dev.str.rows fun (e : ℕ × Stripe)
      => e.2.life != StripeLife.committed && e.2.placed.any fun (p : Placed) => p.nsid == nsid && p.grain == g && p.asn == o.asn &&
      p.src.isNone) = false ∧ ((List.filter (fun (l : ℕ) => !bit o.mask (l % max (nsGrain s.dev nsid) 1)) (run (g * max (nsGrain
      s.dev nsid) 1) (max (nsGrain s.dev nsid) 1))).all fun (l : ℕ) => fillReady (fillFetch nsid o.asn (List.filter (fun (l : ℕ) =>
      !bit o.mask (l % max (nsGrain s.dev nsid) 1)) (run (g * max (nsGrain s.dev nsid) 1) (max (nsGrain s.dev nsid) 1))) s.dev)
      nsid l o.asn) = true ∧ fillBlocks bad nsid o.asn (fun (a : Dev) (l : ℕ) => if bit o.mask (l % max (nsGrain s.dev nsid) 1) =
      true then some (some (zeroBlock a nsid l o.asn)) else none) (run (g * max (nsGrain s.dev nsid) 1) (max (nsGrain s.dev nsid)
      1)) (fillFetch nsid o.asn (List.filter (fun (l : ℕ) => !bit o.mask (l % max (nsGrain s.dev nsid) 1)) (run (g * max (nsGrain
      s.dev nsid) 1) (max (nsGrain s.dev nsid) 1))) s.dev) = (some bs, f)) := by
  exact ⟨⟨{ aRun with dev.adm.cmds := [(4096, { aCmd with kind := CmdKind.write, pages := [some 0] })], dev.pool.pages := [(0, aStagePage)] },
      4096, { aCmd with kind := CmdKind.write, pages := [some 0] }, by decide⟩,
    ⟨{ aRun with dev.adm.cmds := [(4096, { aCmd with pages := [none] })] }, 4096, { aCmd with pages := [none] }, by decide⟩,
    ⟨{ aRun with dev.adm.cmds := [(4096, { aCmd with assembled := true })] }, 4096, { aCmd with assembled := true }, by decide⟩,
    ⟨{ aRun with dev.adm.cmds := [(4096, (aCmd : Cmd))] }, 4096, aCmd, by decide⟩,
    ⟨aRun, 4096, 4096, by decide⟩,
    ⟨{ aRun with dev.str.deferred := [{ aDeferred with nsid := 4096, grain := 4096 }] }, 4096, 4096,
      { aDeferred with nsid := 4096, grain := 4096 }, by decide⟩,
    ⟨{ aHost with dev.str.deferred := [{ aDeferred with nsid := 1, grain := 0, asn := 2 }], dev.adm.cmds := [(0, { aCmd with kind := .read, asn := 1, inTracker := true, ranges := [{ lba := 0, len := 1 }], blocks := [.waiting] })] },
      1, 0, { aDeferred with nsid := 1, grain := 0, asn := 2 }, by decide⟩,
    ⟨{ aRun with dev.pair.role := Role.standby }, by decide⟩,
    ⟨{ aRun with dev.pool.level := 2 }, 0, 0, by decide⟩,
    ⟨{ aHost with dev.str.rows := [(rkey 0 4096, { aStripe with life := .committed, live := 1, row := 4096, geometry := 0 })] }, 0,
      4096, { aStripe with life := .committed, live := 1, row := 4096, geometry := 0 }, by decide⟩,
    ⟨{ aRun with dev.host.nss := [(4096, { aNs with grain := 1 })], dev.str.overlays := [{ nsid := 4096, grain := 2, mask := 1, asn := 5 }], dev.adm.cmds := [(0, { aCmd with kind := .write, nsid := 4096, asn := 2, inTracker := true, ranges := [{ lba := 9, len := 1 }], pages := [none] })] },
      4096, 2, { nsid := 4096, grain := 2, mask := 1, asn := 5 }, by decide, by decide, by decide⟩,
    ⟨{ aRun with dev.host.nss := [(4096, aNs)], dev.str.overlays := [{ nsid := 4096, grain := 2, mask := 1, asn := 5 }] }, 4096, 2,
      { nsid := 4096, grain := 2, mask := 1, asn := 5 }, _, [], _, by decide, by decide, by decide, rfl⟩⟩

/-- The hypotheses of `Obligations.BayFaults` can be met. -/
theorem witness_BayFaults :
    (∃ (s : State) (n : ℕ) (ma : ℕ), n < 32 ∧ coreRuns s.dev = true ∧ ((bayOf s.dev n).state = BayState.ramping ∨ (bayOf s.dev
      n).state = BayState.on) ∧ (bayRecord s.dev n).breaker < ma ∧ ma ≤ 2 * (bayRecord s.dev n).breaker)
    ∧ (∃ (s : State) (n : ℕ) (ma : ℕ), n < 32 ∧ coreRuns s.dev = true ∧ ((bayOf s.dev n).state = BayState.ramping ∨ (bayOf s.dev
      n).state = BayState.on) ∧ (bayRecord s.dev n).breaker < ma ∧ 2 * (bayRecord s.dev n).breaker < ma)
    ∧ (∃ (s : State) (n : ℕ), n < 32 ∧ coreRuns s.dev = true ∧ (bayOf s.dev n).state = BayState.ramping)
    ∧ (∃ (s : State) (n : ℕ), n < 32 ∧ coreRuns s.dev = true ∧ (bayOf s.dev n).state = BayState.on ∧ vinInside s.dev n (bayOf s.dev
      n).vin = true)
    ∧ (∃ (s : State) (n : ℕ) (v : ℕ), n < 32 ∧ coreRuns s.dev = true ∧ ((bayOf s.dev n).state = BayState.ramping ∨ (bayOf s.dev
      n).state = BayState.on) ∧ v < (bayRecord s.dev n).uv)
    ∧ (∃ (s : State) (n : ℕ) (v : ℕ), n < 32 ∧ coreRuns s.dev = true ∧ ((bayOf s.dev n).state = BayState.ramping ∨ (bayOf s.dev
      n).state = BayState.on) ∧ (bayRecord s.dev n).ov < v)
    ∧ (∃ (s : State) (n : ℕ) (v : ℕ), n < 32 ∧ coreRuns s.dev = true ∧ (bayOf s.dev n).state ∉ [BayState.ramping, BayState.on,
      BayState.fetFailed] ∧ 1500 < v)
    ∧ (∃ (s : State) (n : ℕ) (ma : ℕ), coreRuns s.dev = true ∧ ma ≤ (bayRecord s.dev n).breaker)
    ∧ (∃ (s : State) (n : ℕ) (v : ℕ), coreRuns s.dev = true ∧ (bayRecord s.dev n).uv ≤ v)
    ∧ (∃ (s : State) (n : ℕ) (v : ℕ), coreRuns s.dev = true ∧ v ≤ (bayRecord s.dev n).ov)
    ∧ (∃ (v : ℕ), v ≤ 1500)
    ∧ (∃ (s : State) (k : ℕ), k < 32 ∧ (bayOf s.dev k).prsnt = true ∧ coreRuns s.dev = true)
    ∧ (∃ (s : State) (v : Reg), coreRuns s.dev = true ∧ blocksOpen s.dev = true ∧ BitVec.getLsbD v 13 = false ∧ (bayOf s.dev (bits
      (BitVec.toNat v) 12 8)).cmdOff = true)
    ∧ (∃ (s : State) (v : Reg), coreRuns s.dev = true ∧ blocksOpen s.dev = true ∧ BitVec.getLsbD v 13 = false ∧ ((bayOf s.dev (bits
      (BitVec.toNat v) 12 8)).state = BayState.latched ∨ (bayOf s.dev (bits (BitVec.toNat v) 12 8)).state = BayState.fetFailed) ∧
      (bayOf s.dev (bits (BitVec.toNat v) 12 8)).state = BayState.latched)
    ∧ (∃ (s : State) (v : Reg), coreRuns s.dev = true ∧ blocksOpen s.dev = true ∧ BitVec.getLsbD v 13 = false ∧ ((bayOf s.dev (bits
      (BitVec.toNat v) 12 8)).state = BayState.ramping ∨ (bayOf s.dev (bits (BitVec.toNat v) 12 8)).state = BayState.on))
    ∧ (∃ (s : State) (v : Reg), coreRuns s.dev = true ∧ blocksOpen s.dev = true ∧ BitVec.getLsbD v 13 = false ∧ (bayOf s.dev (bits
      (BitVec.toNat v) 12 8)).state ∉ [BayState.latched, BayState.fetFailed, BayState.ramping, BayState.on])
    ∧ (∃ (s : State) (v : Reg) (vout : ℕ), coreRuns s.dev = true ∧ blocksOpen s.dev = true ∧ BitVec.getLsbD v 13 = false ∧ (bayOf
      s.dev (bits (BitVec.toNat v) 12 8)).state = BayState.fetFailed ∧ vout ≤ 500)
    ∧ (∃ (s : State) (v : Reg) (vout : ℕ), coreRuns s.dev = true ∧ blocksOpen s.dev = true ∧ BitVec.getLsbD v 13 = false ∧ (bayOf
      s.dev (bits (BitVec.toNat v) 12 8)).state = BayState.fetFailed ∧ 500 < vout)
    ∧ (∃ (s : State), blocksOpen s.dev = false) := by
  exact ⟨⟨{ aRun with dev.bay.bays := [(31, { aBay with state := BayState.ramping })] }, 31, 4096, by decide⟩,
    ⟨{ aRun with dev.bay.bays := [(31, { aBay with state := .on, vin := 12000 })] }, 31, 7001, by decide⟩,
    ⟨{ aRun with dev.bay.bays := [(31, { aBay with state := BayState.ramping })] }, 31, by decide⟩,
    ⟨{ aRun with dev.bay.bays := [(31, { aBay with state := .on, vin := 12000 })] }, 31, by decide⟩,
    ⟨{ aRun with dev.bay.bays := [(31, { aBay with state := .on, vin := 12000 })] }, 31, 4096, by decide⟩,
    ⟨{ aRun with dev.bay.bays := [(31, { aBay with state := .on, vin := 12000 })] }, 31, 13801, by decide⟩,
    ⟨{ aRun with dev.bay.bays := [(31, { aBay with state := .queued })] }, 31, 1501, by decide⟩,
    ⟨aRun, 4096, 2047, by decide⟩,
    ⟨aRun, 4096, 10200, by decide⟩,
    ⟨aRun, 4096, 4096, by decide⟩,
    ⟨1500, by decide⟩,
    ⟨{ aRun with dev.bay.bays := [(31, { aBay with prsnt := true })] }, 31, by decide⟩,
    ⟨{ aRun with dev.bay.bays := [(0, { aBay with cmdOff := true })] }, 0, by decide⟩,
    ⟨{ aRun with dev.bay.bays := [(0, { aBay with state := BayState.latched })] }, 0, by decide⟩,
    ⟨{ aRun with dev.bay.bays := [(0, { aBay with state := BayState.ramping })] }, 0, by decide⟩,
    ⟨aRun, 0, by decide⟩,
    ⟨{ aRun with dev.bay.bays := [(0, { aBay with state := BayState.fetFailed })] }, 0, 500, by decide⟩,
    ⟨{ aRun with dev.bay.bays := [(0, { aBay with state := BayState.fetFailed })] }, 0, 4096, by decide⟩,
    ⟨(State.reset : State), by decide⟩⟩

/-- The hypotheses of `Obligations.BayPowersOn` can be met. -/
theorem witness_BayPowersOn :
    (∃ (s : State), coreRuns s.dev = true ∧ s.dev.boot.step = 7)
    ∧ (∃ (s : State) (n : ℕ), n < 32 ∧ coreRuns s.dev = true ∧ (bayOf s.dev n).prsnt = false)
    ∧ (∃ (s : State) (n : ℕ) (vin : ℕ), baysPower s.dev = true ∧ (bayOf s.dev n).state = BayState.insert ∧ (bayOf s.dev n).prsnt =
      true ∧ vinInside s.dev n vin = true)
    ∧ (∃ (s : State) (n : ℕ) (vin : ℕ), baysPower s.dev = true ∧ (bayOf s.dev n).state = BayState.insert ∧ (bayOf s.dev n).prsnt =
      true ∧ vinInside s.dev n vin = false)
    ∧ (∃ (s : State) (n : ℕ), baysPower s.dev = true ∧ rampingBays s.dev < (chartOf s.dev).maxRamping ∧ nextToRamp s.dev = some n)
    ∧ (∃ (s : State), baysPower s.dev = true ∧ (chartOf s.dev).maxRamping ≤ rampingBays s.dev)
    ∧ (∃ (s : State) (n : ℕ), baysPower s.dev = true ∧ (bayOf s.dev n).state = BayState.on ∧ (bayOf s.dev n).pg = true)
    ∧ (∃ (s : State) (n : ℕ), (bayOf s.dev n).state = BayState.retry)
    ∧ (∃ (s : State) (n : ℕ) (v : ℕ), (bayOf s.dev n).state = BayState.ramping ∧ (bayOf s.dev n).gate = 1 ∧ (bayOf s.dev n).vin ≤ v
      + 300)
    ∧ (∃ (s : State) (n : ℕ) (v : ℕ), (bayOf s.dev n).state = BayState.ramping ∧ v + 300 < (bayOf s.dev n).vin)
    ∧ (∃ (s : State) (n : ℕ) (v : ℕ), (bayOf s.dev n).state = BayState.ramping ∧ (bayOf s.dev n).gate = 2 ∧ vinInside s.dev n v =
      true)
    ∧ (∃ (s : State) (m : ℕ) (x : Bay) (k : ℕ) (y : Bay), nextToRamp s.dev = some m ∧ List.Pairwise (fun (y z : ℕ × Bay) => y.1 <
      z.1) s.dev.bay.bays ∧ tget s.dev.bay.bays m = some x ∧ tget s.dev.bay.bays k = some y ∧ y.state = BayState.queued) := by
  exact ⟨⟨{ aRun with dev.boot.step := 7 }, by decide⟩,
    ⟨{ aRun with dev.bay.bays := [(31, (aBay : Bay))] }, 31, by decide⟩,
    ⟨{ aRun with dev.bay.bays := [(4096, { aBay with state := BayState.insert, prsnt := true })] }, 4096, 10200, by decide⟩,
    ⟨{ aRun with dev.bay.bays := [(4096, { aBay with state := BayState.insert, prsnt := true })] }, 4096, 4096, by decide⟩,
    ⟨{ aRun with dev.bay.bays := [(4096, { aBay with state := .queued })] }, 4096, by decide⟩,
    ⟨{ aRun with dev.bay.bays := [(0, { aBay with state := .ramping }), (1, { aBay with state := .ramping }), (2, { aBay with state := .ramping }), (31, { aBay with state := .ramping })] },
      by decide⟩,
    ⟨{ aRun with dev.bay.bays := [(4096, { aBay with state := BayState.on, pg := true })] }, 4096, by decide⟩,
    ⟨{ aRun with dev.bay.bays := [(4096, { aBay with state := BayState.retry })] }, 4096, by decide⟩,
    ⟨{ aRun with dev.bay.bays := [(4096, { aBay with state := BayState.ramping, gate := 1 })] }, 4096, 4096, by decide⟩,
    ⟨{ aRun with dev.bay.bays := [(4096, { aBay with state := .ramping, vin := 12000 })] }, 4096, 11699, by decide⟩,
    ⟨{ aRun with dev.bay.bays := [(4096, { aBay with state := BayState.ramping, gate := 2 })] }, 4096, 13800, by decide⟩,
    ⟨{ aRun with dev.bay.bays := [(0, { aBay with state := .queued }), (31, { aBay with state := BayState.queued })] }, 0,
      { aBay with state := .queued }, 31, { aBay with state := BayState.queued }, by decide⟩⟩

/-- The hypotheses of `Obligations.BringUpSteps` can be met. -/
theorem witness_BringUpSteps :
    (∃ (s : State) (a : FlashProbe) (b : FlashProbe), coreRuns s.dev = true ∧ s.dev.boot.code = 0 ∧ s.dev.boot.step ≤ 2 ∧
      (flashFound s.dev.boot.straps.flashMode a).qualifies = true ∧ b.present = false)
    ∧ (∃ (s : State) (a : FlashProbe) (b : FlashProbe), coreRuns s.dev = true ∧ s.dev.boot.code = 0 ∧ s.dev.boot.step = 2 ∧
      a.present = false ∧ b.present = false)
    ∧ (∃ (s : State), coreRuns s.dev = true ∧ s.dev.boot.code = 0 ∧ s.dev.boot.step = 3 ∧ runSlot (flashRepair s.dev) s.mem = none)
    ∧ (∃ (s : State) (p : ℕ), coreRuns s.dev = true ∧ p = preferredSlot s.dev s.mem)
    ∧ (∃ (s : State) (p : ℕ) (e : ChartErr), coreRuns s.dev = true ∧ p = preferredSlot s.dev s.mem ∧ slotChart s.dev s.mem p =
      Except.error e)
    ∧ (∃ (s : State) (p : ℕ) (e : ChartErr) (e' : ChartErr), coreRuns s.dev = true ∧ p = preferredSlot s.dev s.mem ∧ slotChart
      s.dev s.mem p = Except.error e ∧ slotChart s.dev s.mem (1 - p) = Except.error e')
    ∧ (∃ (s : State) (a : Bool) (b : Bool), coreRuns s.dev = true ∧ s.dev.boot.step = 4 ∧ s.dev.chart.inForce.isSome = true ∧
      s.dev.boot.code ≠ 5 ∧ (a && b) = false ∧ s.dev.boot.hbmFails = 0)
    ∧ (∃ (s : State) (a : Bool) (b : Bool), coreRuns s.dev = true ∧ s.dev.boot.step = 4 ∧ s.dev.chart.inForce.isSome = true ∧
      s.dev.boot.code ≠ 5 ∧ (a && b) = false ∧ s.dev.boot.hbmFails = 1)
    ∧ (∃ (s : State), coreRuns s.dev = true ∧ s.dev.chart.inForce = none)
    ∧ (∃ (s : State) (fs : List PoolFault), coreRuns s.dev = true ∧ s.dev.boot.step = 5 ∧ s.dev.boot.pfailN = true ∧
      s.dev.pool.state = PoolState.off ∧ (recoverPool fs s.dev).pool.state = PoolState.failed)
    ∧ (∃ (s : State) (fs : List PoolFault), coreRuns s.dev = true ∧ s.dev.boot.step = 5 ∧ s.dev.boot.pfailN = true ∧
      s.dev.pool.state = PoolState.off ∧ (recoverPool fs s.dev).pool.state ≠ PoolState.failed)
    ∧ (∃ (s : State), coreRuns s.dev = true ∧ s.dev.boot.pfailN = false)
    ∧ (∃ (s : State), coreRuns s.dev = true ∧ s.dev.boot.step = 6 ∧ s.dev.tline.settled = true ∧ s.dev.tline.addr.isSome = true)
    ∧ (∃ (s : State), coreRuns s.dev = true ∧ s.dev.boot.step = 6 ∧ s.dev.tline.addr = none)
    ∧ (∃ (s : State), coreRuns s.dev = true ∧ s.dev.tline.settled = false)
    ∧ (∃ (s : State) (ps : List DriveProbe) (r : Option ShelfRecord), coreRuns s.dev = true ∧ s.dev.boot.step = 8 ∧ ((fun (ps :
      List DriveProbe) (r : Option ShelfRecord) (x : Dev) =>
      ({ assembleAll ps x with pair.record := if r.isSome then r else s.dev.pair.record } : Dev)) ps r (takeShelfId (labelsOf ps)
      s.dev)).boot.code ≠ 8 ∧ (fun (x : Dev) => List.all x.str.shoals fun (e : ℕ × ShoalSt) => e.2.assembled) ((fun (ps : List
      DriveProbe) (r : Option ShelfRecord) (x : Dev) =>
      ({ assembleAll ps x with pair.record := if r.isSome then r else s.dev.pair.record } : Dev)) ps r (takeShelfId (labelsOf ps)
      s.dev)) = true)
    ∧ (∃ (s : State) (ps : List DriveProbe) (r : Option ShelfRecord), coreRuns s.dev = true ∧ s.dev.boot.step = 8 ∧ ((fun (ps :
      List DriveProbe) (r : Option ShelfRecord) (x : Dev) =>
      ({ assembleAll ps x with pair.record := if r.isSome then r else s.dev.pair.record } : Dev)) ps r (takeShelfId (labelsOf ps)
      s.dev)).boot.code ≠ 8 ∧ (fun (x : Dev) => List.all x.str.shoals fun (e : ℕ × ShoalSt) => e.2.assembled) ((fun (ps : List
      DriveProbe) (r : Option ShelfRecord) (x : Dev) =>
      ({ assembleAll ps x with pair.record := if r.isSome then r else s.dev.pair.record } : Dev)) ps r (takeShelfId (labelsOf ps)
      s.dev)) = false)
    ∧ (∃ (s : State) (ps : List DriveProbe) (r : Option ShelfRecord), coreRuns s.dev = true ∧ s.dev.boot.step = 9 ∧ s.dev.boot.code
      = 8 ∧ s.dev.pair.shelfId ≠ 0 ∧ ((fun (ps : List DriveProbe) (r : Option ShelfRecord) (x : Dev) =>
      ({ assembleAll ps x with pair.record := if r.isSome then r else s.dev.pair.record } : Dev)) ps r s.dev).boot.code = 8 ∧ (fun
      (x : Dev) => List.all x.str.shoals fun (e : ℕ × ShoalSt) => e.2.assembled) ((fun (ps : List DriveProbe) (r : Option
      ShelfRecord) (x : Dev) => ({ assembleAll ps x with pair.record := if r.isSome then r else s.dev.pair.record } : Dev)) ps r
      s.dev) = true)
    ∧ (∃ (s : State) (ps : List DriveProbe) (r : Option ShelfRecord), coreRuns s.dev = true ∧ s.dev.boot.step = 9 ∧ s.dev.boot.code
      = 8 ∧ s.dev.pair.shelfId ≠ 0 ∧ ((fun (ps : List DriveProbe) (r : Option ShelfRecord) (x : Dev) =>
      ({ assembleAll ps x with pair.record := if r.isSome then r else s.dev.pair.record } : Dev)) ps r s.dev).boot.code = 8 ∧ (fun
      (x : Dev) => List.all x.str.shoals fun (e : ℕ × ShoalSt) => e.2.assembled) ((fun (ps : List DriveProbe) (r : Option
      ShelfRecord) (x : Dev) => ({ assembleAll ps x with pair.record := if r.isSome then r else s.dev.pair.record } : Dev)) ps r
      s.dev) = false)
    ∧ (∃ (s : State), coreRuns s.dev = true ∧ s.dev.boot.step = 10 ∧ s.dev.host.admissionOpen = false ∧ s.dev.keys.kek = none ∧
      (s.dev.boot.code = 0 ∨ s.dev.boot.code = 3))
    ∧ (∃ (s : State), coreRuns s.dev = true ∧ s.dev.boot.step = 10 ∧ s.dev.host.admissionOpen = false ∧ s.dev.keys.kek.isSome =
      true)
    ∧ (∃ (s : State), coreRuns s.dev = true ∧ s.dev.boot.step ≠ 10) := by
  exact ⟨⟨{ aRun with dev.boot.code := 0, dev.boot.step := 2 }, aFlashProbe, { aFlashProbe with present := false }, by decide⟩,
    ⟨{ aRun with dev.boot.code := 0, dev.boot.step := 2 }, { aFlashProbe with present := false },
      { aFlashProbe with present := false }, by decide⟩,
    ⟨{ aRun with dev.boot.code := 0, dev.boot.step := 3 }, by decide⟩,
    ⟨aRun, (preferredSlot aRun.dev aRun.mem), by decide⟩,
    ⟨aRun, (preferredSlot aRun.dev aRun.mem), (errOf (slotChart aRun.dev aRun.mem (preferredSlot aRun.dev aRun.mem))), by decide⟩,
    ⟨aRun, (preferredSlot aRun.dev aRun.mem), (errOf (slotChart aRun.dev aRun.mem (preferredSlot aRun.dev aRun.mem))), (errOf
      (slotChart aRun.dev aRun.mem (1 - (preferredSlot aRun.dev aRun.mem)))), by decide⟩,
    ⟨{ aRun with dev.boot.step := 4 }, true, false, by decide⟩,
    ⟨{ aRun with dev.boot.step := 4, dev.boot.hbmFails := 1 }, true, false, by decide⟩,
    ⟨{ aRun with dev.chart.inForce := none }, by decide⟩,
    ⟨{ aRun with dev.boot.step := 5, dev.boot.pfailN := true, dev.pool.state := PoolState.off, dev.pool.anchorA := some aAnchor },
      [PoolFault.controlBlock false, PoolFault.controlBlock true], by decide⟩,
    ⟨{ aRun with dev.boot.step := 5, dev.boot.pfailN := true, dev.pool.state := PoolState.off }, [], by decide⟩,
    ⟨{ aRun with dev.boot.pfailN := false }, by decide⟩,
    ⟨{ aRun with dev.boot.step := 6, dev.tline.settled := true }, by decide⟩,
    ⟨{ aRun with dev.boot.step := 6, dev.tline.addr := none }, by decide⟩,
    ⟨{ aRun with dev.tline.settled := false }, by decide⟩,
    ⟨{ aRun with dev.boot.step := 8 }, [], none, by decide⟩,
    ⟨{ aRun with dev.boot.step := 8, dev.str.shoals := [(0, { aShoalSt with assembled := false })] }, [], none, by decide⟩,
    ⟨{ aRun with dev.boot.step := 9, dev.boot.code := 8, dev.pair.shelfId := 1 }, [], none, by decide⟩,
    ⟨{ aRun with dev.boot.step := 9, dev.boot.code := 8, dev.pair.shelfId := 1, dev.str.shoals := [(0, { aShoalSt with assembled := false })] },
      [], none, by decide⟩,
    ⟨{ aRun with dev.boot.step := 10, dev.host.admissionOpen := false, dev.boot.code := 0 }, by decide⟩,
    ⟨{ aRun with dev.boot.step := 10, dev.host.admissionOpen := false, dev.keys.kek := some (1, 1) }, by decide⟩,
    ⟨{ aRun with dev.boot.step := 9 }, by decide⟩⟩

/-- The hypotheses of `Obligations.CapsulesArrive` can be met. -/
theorem witness_CapsulesArrive :
    (∃ (s : State) (c : ℕ) (q : ℕ), sqOf s.dev c q = none)
    ∧ (∃ (s : State) (c : ℕ) (q : ℕ) (x : Sq), sqOf s.dev c q = some x ∧ (c, q) ∈ s.dev.pool.waiting)
    ∧ (∃ (s : State) (c : ℕ) (q : ℕ), s.dev.pool.waiting = [(c, q)])
    ∧ (∃ (s : State) (n : ℕ) (y : Ns), tget s.dev.host.nss n = some y ∧ y.marking = false)
    ∧ (∃ (s : State) (n : ℕ) (y : Ns), tget s.dev.host.nss n = some y ∧ y.marking = true)
    ∧ (∃ (s : State) (n : ℕ) (y : Ns), tget s.dev.host.nss n = some y ∧ s.dev.pool.waiting = [])
    ∧ (∃ (h : HeldCapsule), h.op = IoOp.write)
    ∧ (∃ (h : HeldCapsule), h.op = IoOp.read)
    ∧ (∃ (d : Dev) (tag : ℕ) (x : Cmd), tget d.adm.cmds tag = some x ∧ x.kind = CmdKind.write ∧ partnerRefused d = true)
    ∧ (∃ (d : Dev) (tag : ℕ) (x : Cmd), tget d.adm.cmds tag = some x ∧ x.kind = CmdKind.write ∧ partnerRefused d = false)
    ∧ (∃ (d : Dev) (tag : ℕ) (x : Cmd), tget d.adm.cmds tag = some x ∧ (x.kind = CmdKind.read ∨ x.kind = CmdKind.verify))
    ∧ (∃ (d : Dev) (tag : ℕ) (x : Cmd), tget d.adm.cmds tag = some x ∧ x.kind = CmdKind.compare)
    ∧ (∃ (d : Dev) (tag : ℕ) (x : Cmd), tget d.adm.cmds tag = some x ∧ (x.kind = CmdKind.writeZeroes ∨ x.kind = CmdKind.dealloc))
    ∧ (∃ (d : Dev) (tag : ℕ) (x : Cmd), tget d.adm.cmds tag = some x ∧ x.kind = CmdKind.dsm)
    ∧ (∃ (d : Dev) (tag : ℕ) (x : Cmd) (s : State), tget d.adm.cmds tag = some x ∧ (x.kind = CmdKind.flush ∨ x.kind =
      CmdKind.flushAll) ∧ flushReady d x = true ∧ s.dev = d)
    ∧ (∃ (d : Dev) (tag : ℕ) (x : Cmd) (s : State), tget d.adm.cmds tag = some x ∧ (x.kind = CmdKind.flush ∨ x.kind =
      CmdKind.flushAll) ∧ flushReady d x = false ∧ s.dev = d)
    ∧ (∃ (s : State) (c : ℕ) (q : ℕ) (cap : Capsule) (op : IoOp) (x : Sq) (f : Dev), sqOf s.dev c q = some x ∧ (c, q) ∉
      s.dev.pool.waiting ∧ x.held = [] ∧ headStep c q (modSq c q (fun y =>
      { y with held := y.held ++ [{ op := op, cap := cap, buffer := (match cap.sgl with | .inCapsule _ => true | _ => false) }] }) (if (match cap.sgl with | .inCapsule _ => true | _ => false) then { (match cap.sgl with | .landing off len => holdLanding x.qpn off len (holderOf c q cap.cid) (wake (occur 2 0 1 (capAttr (ctrlCove s.dev c) op cap) s.dev)) | _ => wake (occur 2 0 1 (capAttr (ctrlCove s.dev c) op cap) s.dev)) with host.buffersUsed := (match cap.sgl with | .landing off len => holdLanding x.qpn off len (holderOf c q cap.cid) (wake (occur 2 0 1 (capAttr (ctrlCove s.dev c) op cap) s.dev)) | _ => wake (occur 2 0 1 (capAttr (ctrlCove s.dev c) op cap) s.dev)).host.buffersUsed + 1 } else (match cap.sgl with | .landing off len => holdLanding x.qpn off len (holderOf c q cap.cid) (wake (occur 2 0 1 (capAttr (ctrlCove s.dev c) op cap) s.dev)) | _ => wake (occur 2 0 1 (capAttr (ctrlCove s.dev c) op cap) s.dev)))) = HeadOut.gone f)
    ∧ (∃ (s : State) (c : ℕ) (q : ℕ) (cap : Capsule) (op : IoOp) (x : Sq) (f : Dev), sqOf s.dev c q = some x ∧ (c, q) ∉
      s.dev.pool.waiting ∧ x.held = [] ∧ headStep c q (modSq c q (fun y =>
      { y with held := y.held ++ [{ op := op, cap := cap, buffer := (match cap.sgl with | .inCapsule _ => true | _ => false) }] }) (if (match cap.sgl with | .inCapsule _ => true | _ => false) then { (match cap.sgl with | .landing off len => holdLanding x.qpn off len (holderOf c q cap.cid) (wake (occur 2 0 1 (capAttr (ctrlCove s.dev c) op cap) s.dev)) | _ => wake (occur 2 0 1 (capAttr (ctrlCove s.dev c) op cap) s.dev)) with host.buffersUsed := (match cap.sgl with | .landing off len => holdLanding x.qpn off len (holderOf c q cap.cid) (wake (occur 2 0 1 (capAttr (ctrlCove s.dev c) op cap) s.dev)) | _ => wake (occur 2 0 1 (capAttr (ctrlCove s.dev c) op cap) s.dev)).host.buffersUsed + 1 } else (match cap.sgl with | .landing off len => holdLanding x.qpn off len (holderOf c q cap.cid) (wake (occur 2 0 1 (capAttr (ctrlCove s.dev c) op cap) s.dev)) | _ => wake (occur 2 0 1 (capAttr (ctrlCove s.dev c) op cap) s.dev)))) = HeadOut.waits f ∧ (c, q) ∉ f.pool.waiting)
    ∧ (∃ (s : State) (c : ℕ) (q : ℕ) (cap : Capsule) (op : IoOp) (x : Sq) (f : Dev), sqOf s.dev c q = some x ∧ (c, q) ∉
      s.dev.pool.waiting ∧ x.held = [] ∧ headStep c q (modSq c q (fun y =>
      { y with held := y.held ++ [{ op := op, cap := cap, buffer := (match cap.sgl with | .inCapsule _ => true | _ => false) }] }) (if (match cap.sgl with | .inCapsule _ => true | _ => false) then { (match cap.sgl with | .landing off len => holdLanding x.qpn off len (holderOf c q cap.cid) (wake (occur 2 0 1 (capAttr (ctrlCove s.dev c) op cap) s.dev)) | _ => wake (occur 2 0 1 (capAttr (ctrlCove s.dev c) op cap) s.dev)) with host.buffersUsed := (match cap.sgl with | .landing off len => holdLanding x.qpn off len (holderOf c q cap.cid) (wake (occur 2 0 1 (capAttr (ctrlCove s.dev c) op cap) s.dev)) | _ => wake (occur 2 0 1 (capAttr (ctrlCove s.dev c) op cap) s.dev)).host.buffersUsed + 1 } else (match cap.sgl with | .landing off len => holdLanding x.qpn off len (holderOf c q cap.cid) (wake (occur 2 0 1 (capAttr (ctrlCove s.dev c) op cap) s.dev)) | _ => wake (occur 2 0 1 (capAttr (ctrlCove s.dev c) op cap) s.dev)))) = HeadOut.idle f) := by
  exact ⟨⟨aRun, 4096, 4096, by decide⟩,
    ⟨{ aRun with dev.host.sqs := [((sqKey 4096 4096), aSq)], dev.pool.waiting := [(4096, 4096)] }, 4096, 4096, aSq, by decide⟩,
    ⟨{ aRun with dev.pool.waiting := [(4096, 4096)] }, 4096, 4096, by decide⟩,
    ⟨{ aRun with dev.host.nss := [(4096, (aNs : Ns))] }, 4096, aNs, by decide⟩,
    ⟨{ aRun with dev.host.nss := [(4096, { aNs with marking := true })] }, 4096, { aNs with marking := true }, by decide⟩,
    ⟨{ aRun with dev.host.nss := [(4096, aNs)] }, 4096, aNs, by decide⟩,
    ⟨{ aHeldCapsule with op := IoOp.write }, by decide⟩,
    ⟨{ aHeldCapsule with op := IoOp.read }, by decide⟩,
    ⟨{ aRun.dev with adm.cmds := [(4096, { aCmd with kind := CmdKind.write })], chart.inForce := some { defaultChart with pair.requirePartner := 1 } },
      4096, { aCmd with kind := CmdKind.write }, by decide⟩,
    ⟨{ aRun.dev with adm.cmds := [(4096, { aCmd with kind := CmdKind.write })] }, 4096, { aCmd with kind := CmdKind.write }, by
      decide⟩,
    ⟨{ aRun.dev with adm.cmds := [(4096, { aCmd with kind := CmdKind.read })] }, 4096, { aCmd with kind := CmdKind.read }, by
      decide⟩,
    ⟨{ aRun.dev with adm.cmds := [(4096, { aCmd with kind := CmdKind.compare })] }, 4096, { aCmd with kind := CmdKind.compare }, by
      decide⟩,
    ⟨{ aRun.dev with adm.cmds := [(4096, { aCmd with kind := CmdKind.writeZeroes })] }, 4096,
      { aCmd with kind := CmdKind.writeZeroes }, by decide⟩,
    ⟨{ aRun.dev with adm.cmds := [(4096, { aCmd with kind := CmdKind.dsm })] }, 4096, { aCmd with kind := CmdKind.dsm }, by decide⟩,
    ⟨{ aRun.dev with adm.cmds := [(4096, { aCmd with kind := CmdKind.flush })] }, 4096, { aCmd with kind := CmdKind.flush },
      { aRun with dev := { aRun.dev with adm.cmds := [(4096, { aCmd with kind := CmdKind.flush })] } }, by decide⟩,
    ⟨{ aRun.dev with adm.cmds := [(4096, { aCmd with kind := .flush, bounds := [(1, 2)] }), (4096 + 1, { aCmd with asn := 1 })] },
      4096, { aCmd with kind := .flush, bounds := [(1, 2)] },
      { aRun with dev := { aRun.dev with adm.cmds := [(4096, { aCmd with kind := .flush, bounds := [(1, 2)] }), (4096 + 1, { aCmd with asn := 1 })] } },
      by decide⟩,
    ⟨aHost, 1, 1, aCapsule, .flush, aSq, _, by decide, by decide, by decide, rfl⟩,
    ⟨aFull, 1, 1, aCapsule, .writeZeroes, aSq, _, by decide, by decide, by decide, rfl, by decide⟩,
    ⟨{ aHost with dev.host.admissionHeld := true }, 1, 1, aCapsule, .flush, aSq, _, by decide, by decide, by decide, rfl⟩⟩

/-- The hypotheses of `Obligations.ChainAddresses` can be met. -/
theorem witness_ChainAddresses :
    (∃ (s : State) (inn : Bool), (s.dev.boot.alwaysOn = false ∨ (if inn = true then s.dev.tline.inUp else s.dev.tline.outUp) =
      false))
    ∧ (∃ (s : State) (inn : Bool) (w : Word64), s.dev.boot.alwaysOn = true ∧ (if inn = true then s.dev.tline.inUp else
      s.dev.tline.outUp) = true ∧ (tlCrcOk w = false ∨ 14 ≤ tlType w))
    ∧ (∃ (s : State) (inn : Bool) (w : Word64) (k : ℕ), tlCrcOk w = true ∧ s.dev.boot.alwaysOn = true ∧ (if inn = true then
      s.dev.tline.inUp else s.dev.tline.outUp) = true ∧ s.dev.tline.head = false ∧ k < 14 ∧ tlType w = k)
    ∧ (∃ (s : State) (inn : Bool) (w : Word64) (k : ℕ), tlCrcOk w = true ∧ s.dev.boot.alwaysOn = true ∧ (if inn = true then
      s.dev.tline.inUp else s.dev.tline.outUp) = true ∧ s.dev.tline.head = false ∧ k < 14 ∧ tlType w < 14 ∧ tlType w ≠ k)
    ∧ (∃ (s : State) (inn : Bool) (w : Word64), s.dev.boot.alwaysOn = true ∧ (if inn = true then s.dev.tline.inUp else
      s.dev.tline.outUp) = true ∧ tlCrcOk w = true ∧ tlType w < 14 ∧ tlType w ≠ 2 ∧ s.dev.tline.head = true ∧ tlNumbered w = true ∧
      tlSrc w = 0 ∧ s.dev.tline.headConflict = false)
    ∧ (∃ (w : Word64), tlHop w = 63)
    ∧ (∃ (s : State) (w : Word64), tlBcast w = true ∧ s.dev.tline.addr = some (tlSrc w))
    ∧ (∃ (s : State) (w : Word64) (a : ℕ), tlBcast w = false ∧ s.dev.tline.addr = some a ∧ tlDst w = a)
    ∧ (∃ (s : State) (w : Word64) (a : ℕ), tlBcast w = false ∧ s.dev.tline.addr = some a ∧ tlDst w ≠ a)
    ∧ (∃ (s : State) (inn : Bool) (w : Word64), tlCrcOk w = true ∧ s.dev.boot.alwaysOn = true ∧ (if inn = true then
      s.dev.tline.inUp else s.dev.tline.outUp) = true ∧ s.dev.tline.head = false ∧ tlType w = 0 ∧ inn = false)
    ∧ (∃ (s : State) (inn : Bool) (w : Word64), tlCrcOk w = true ∧ s.dev.boot.alwaysOn = true ∧ (if inn = true then
      s.dev.tline.inUp else s.dev.tline.outUp) = true ∧ s.dev.tline.head = false ∧ tlType w = 0 ∧ inn = true ∧
      (s.dev.tline.addr.isSome = true ∨ tlNumbered w = false))
    ∧ (∃ (s : State) (inn : Bool) (w : Word64), tlCrcOk w = true ∧ s.dev.boot.alwaysOn = true ∧ (if inn = true then
      s.dev.tline.inUp else s.dev.tline.outUp) = true ∧ s.dev.tline.head = false ∧ tlType w = 0 ∧ inn = true ∧ s.dev.tline.addr =
      none ∧ s.dev.tline.settled = false ∧ s.dev.tline.claim = none ∧ tlNumbered w = true ∧ s.dev.boot.started = true ∧ tlSrc w =
      63)
    ∧ (∃ (s : State) (inn : Bool) (w : Word64), tlCrcOk w = true ∧ s.dev.boot.alwaysOn = true ∧ (if inn = true then
      s.dev.tline.inUp else s.dev.tline.outUp) = true ∧ s.dev.tline.head = false ∧ tlType w = 0 ∧ inn = true ∧ s.dev.tline.addr =
      none ∧ s.dev.tline.settled = false ∧ s.dev.tline.claim = none ∧ tlNumbered w = true ∧ s.dev.boot.started = true ∧ tlSrc w <
      63)
    ∧ (∃ (s : State) (inn : Bool) (w : Word64), tlCrcOk w = true ∧ s.dev.boot.alwaysOn = true ∧ (if inn = true then
      s.dev.tline.inUp else s.dev.tline.outUp) = true ∧ s.dev.tline.head = false ∧ tlType w = 2 ∧ s.dev.tline.addr = some (tlSrc
      w))
    ∧ (∃ (s : State) (inn : Bool) (w : Word64), tlCrcOk w = true ∧ s.dev.boot.alwaysOn = true ∧ (if inn = true then
      s.dev.tline.inUp else s.dev.tline.outUp) = true ∧ s.dev.tline.head = false ∧ tlType w = 2 ∧ s.dev.tline.addr ≠ some (tlSrc
      w))
    ∧ (∃ (s : State) (inn : Bool) (w : Word64) (v : ℕ) (c : ℕ), tlCrcOk w = true ∧ s.dev.boot.alwaysOn = true ∧ (if inn = true then
      s.dev.tline.inUp else s.dev.tline.outUp) = true ∧ s.dev.tline.head = false ∧ tlType w = 3 ∧ s.dev.tline.addr = none ∧
      s.dev.tline.claim = some (v, c) ∧ v = tlPayload w % 65536)
    ∧ (∃ (s : State) (inn : Bool) (w : Word64), tlCrcOk w = true ∧ s.dev.boot.alwaysOn = true ∧ (if inn = true then
      s.dev.tline.inUp else s.dev.tline.outUp) = true ∧ s.dev.tline.head = false ∧ tlType w = 3 ∧ s.dev.tline.addr = none ∧
      s.dev.tline.claim = none)
    ∧ (∃ (s : State) (inn : Bool) (w : Word64), tlCrcOk w = true ∧ s.dev.boot.alwaysOn = true ∧ (if inn = true then
      s.dev.tline.inUp else s.dev.tline.outUp) = true ∧ s.dev.tline.head = false ∧ tlType w = 4 ∧ (inn = false ∨ tlSrc w = 63 ∨
      s.dev.boot.started = false))
    ∧ (∃ (s : State) (inn : Bool) (w : Word64), tlCrcOk w = true ∧ s.dev.boot.alwaysOn = true ∧ (if inn = true then
      s.dev.tline.inUp else s.dev.tline.outUp) = true ∧ s.dev.tline.head = false ∧ tlType w = 4 ∧ inn = true ∧ tlSrc w < 63 ∧
      s.dev.boot.started = true)
    ∧ (∃ (s : State) (inn : Bool) (w : Word64), tlCrcOk w = true ∧ s.dev.boot.alwaysOn = true ∧ (if inn = true then
      s.dev.tline.inUp else s.dev.tline.outUp) = true ∧ s.dev.tline.head = false ∧ tlType w = 5)
    ∧ (∃ (s : State), s.dev.boot.alwaysOn = true ∧ s.dev.tline.inUp = false ∧ s.dev.tline.settled = false ∧ s.dev.tline.addr = none
      ∧ s.dev.boot.started = true ∧ s.dev.tline.stored = none)
    ∧ (∃ (s : State) (a : ℕ), s.dev.boot.alwaysOn = true ∧ s.dev.tline.inUp = false ∧ s.dev.tline.settled = false ∧
      s.dev.tline.addr = none ∧ s.dev.boot.started = true ∧ s.dev.tline.stored = some a)
    ∧ (∃ (s : State), (s.dev.tline.inUp = true ∨ s.dev.tline.settled = true ∨ s.dev.tline.addr.isSome = true))
    ∧ (∃ (s : State), s.dev.mhi.mboxReady = true ∧ s.dev.mhi.mboxBusy = false ∧ s.dev.tline.head = true ∧ s.dev.tline.headConflict
      = false)
    ∧ (∃ (s : State), s.dev.mhi.mboxReady = true ∧ s.dev.mhi.mboxBusy = false ∧ s.dev.tline.head = false)
    ∧ (∃ (s : State), s.dev.boot.started = false)
    ∧ (∃ (s : State), s.dev.boot.alwaysOn = true ∧ s.dev.tline.outUp = true ∧ 16 ≤ s.dev.tline.outQ.length)
    ∧ (∃ (s : State) (f : Word64), s.dev.boot.alwaysOn = true ∧ s.dev.tline.outUp = true ∧ s.dev.tline.outQ.length < 16 ∧ tlUrgent
      f = false)
    ∧ (∃ (s : State) (f : Word64), s.dev.boot.alwaysOn = true ∧ s.dev.tline.outUp = true ∧ s.dev.tline.outQ.length < 16 ∧ tlUrgent
      f = true)
    ∧ (∃ (s : State) (f : Word64) (l : List Word64), s.dev.tline.outQ = f :: l) := by
  exact ⟨⟨{ aRun with dev.boot.alwaysOn := false }, true, by decide⟩,
    ⟨{ aRun with dev.boot.alwaysOn := true }, true, (tlFrame 15 false true 1 1 0 0), by decide⟩,
    ⟨{ aRun with dev.boot.alwaysOn := true }, true, (tlFrame 0 false true 1 1 0 0), 0, by decide⟩,
    ⟨{ aRun with dev.boot.alwaysOn := true }, true, (tlFrame 0 false true 1 1 0 0), 13, by decide⟩,
    ⟨{ aRun with dev.boot.alwaysOn := true, dev.tline.head := true }, true, (tlFrame 0 false true 1 0 0 0), by decide⟩,
    ⟨(tlFrame 0 false true 1 1 63 0), by decide⟩,
    ⟨{ aRun with dev.tline.addr := some (tlSrc (tlFrame 0 true true 1 1 0 0)) }, (tlFrame 0 true true 1 1 0 0), by decide⟩,
    ⟨{ aRun with dev.tline.addr := some 1 }, (tlFrame 0 false true 1 2 0 0), 1, by decide⟩,
    ⟨{ aRun with dev.tline.addr := some 4096 }, (tlFrame 0 false true 1 2 0 0), 4096, by decide⟩,
    ⟨{ aRun with dev.boot.alwaysOn := true }, false, (tlFrame 0 false true 1 1 0 0), by decide⟩,
    ⟨{ aRun with dev.boot.alwaysOn := true }, true, (tlFrame 0 false true 1 1 0 0), by decide⟩,
    ⟨{ aRun with dev.boot.alwaysOn := true, dev.tline.addr := none, dev.tline.settled := false, dev.boot.started := true }, true,
      (tlFrame 0 false true 1 63 0 0), by decide⟩,
    ⟨{ aRun with dev.boot.alwaysOn := true, dev.tline.addr := none, dev.tline.settled := false, dev.boot.started := true }, true,
      (tlFrame 0 false true 1 1 0 0), by decide⟩,
    ⟨{ aRun with dev.boot.alwaysOn := true, dev.tline.addr := some 1 }, true, (tlFrame 2 false true 1 1 0 0), by decide⟩,
    ⟨{ aRun with dev.boot.alwaysOn := true }, true, (tlFrame 2 false true 1 62 0 0), by decide⟩,
    ⟨{ aRun with dev.boot.alwaysOn := true, dev.tline.addr := none, dev.tline.claim := some ((tlPayload (tlFrame 3 false true 1 1 0 0) % 65536), 62) },
      true, (tlFrame 3 false true 1 1 0 0), (tlPayload (tlFrame 3 false true 1 1 0 0) % 65536), 62, by decide⟩,
    ⟨{ aRun with dev.boot.alwaysOn := true, dev.tline.addr := none }, true, (tlFrame 3 false true 1 1 0 0), by decide⟩,
    ⟨{ aRun with dev.boot.alwaysOn := true }, false, (tlFrame 4 false true 1 1 0 0), by decide⟩,
    ⟨{ aRun with dev.boot.alwaysOn := true, dev.boot.started := true }, true, (tlFrame 4 false true 1 1 0 0), by decide⟩,
    ⟨{ aRun with dev.boot.alwaysOn := true }, true, (tlFrame 5 false true 1 1 0 0), by decide⟩,
    ⟨{ aRun with dev.boot.alwaysOn := true, dev.tline.inUp := false, dev.tline.settled := false, dev.tline.addr := none, dev.boot.started := true },
      by decide⟩,
    ⟨{ aRun with dev.boot.alwaysOn := true, dev.tline.inUp := false, dev.tline.settled := false, dev.tline.addr := none, dev.boot.started := true, dev.tline.stored := some 4096 },
      4096, by decide⟩,
    ⟨{ aRun with dev.tline.inUp := true }, by decide⟩,
    ⟨{ aRun with dev.mhi.mboxReady := true, dev.mhi.mboxBusy := false, dev.tline.head := true }, by decide⟩,
    ⟨{ aRun with dev.mhi.mboxReady := true, dev.mhi.mboxBusy := false }, by decide⟩,
    ⟨{ aRun with dev.boot.started := false }, by decide⟩,
    ⟨{ aRun with dev.boot.alwaysOn := true, dev.tline.outUp := true, dev.tline.outQ := List.replicate 16 0 }, by decide⟩,
    ⟨{ aRun with dev.boot.alwaysOn := true, dev.tline.outUp := true }, (tlFrame 0 false true 1 1 0 0), by decide⟩,
    ⟨{ aRun with dev.boot.alwaysOn := true, dev.tline.outUp := true, dev.tline.outQ := List.replicate 15 0 }, (tlFrame 6 false true
      1 2 0 0), by decide⟩,
    ⟨{ aRun with dev.tline.outQ := (tlFrame 0 false true 1 1 0 0) :: [] }, (tlFrame 0 false true 1 1 0 0), [], by decide⟩⟩

/-- The hypotheses of `Obligations.ChainQueries` can be met. -/
theorem witness_ChainQueries :
    (∃ (s : State) (inn : Bool) (w : Word64) (a : ℕ), tlCrcOk w = true ∧ s.dev.boot.alwaysOn = true ∧ (if inn = true then
      s.dev.tline.inUp else s.dev.tline.outUp) = true ∧ s.dev.tline.head = false ∧ s.dev.tline.addr = some a ∧ tlType w = 1 ∧ tlSrc
      w ≠ a ∧ tlNumbered w = true)
    ∧ (∃ (s : State) (inn : Bool) (w : Word64) (a : ℕ), tlCrcOk w = true ∧ s.dev.boot.alwaysOn = true ∧ (if inn = true then
      s.dev.tline.inUp else s.dev.tline.outUp) = true ∧ s.dev.tline.head = false ∧ s.dev.tline.addr = some a ∧ tlType w = 1 ∧ tlSrc
      w ≠ a ∧ tlNumbered w = false)
    ∧ (∃ (s : State) (inn : Bool) (w : Word64) (a : ℕ), tlCrcOk w = true ∧ s.dev.boot.alwaysOn = true ∧ (if inn = true then
      s.dev.tline.inUp else s.dev.tline.outUp) = true ∧ s.dev.tline.head = false ∧ s.dev.tline.addr = some a ∧ tlBcast w = false ∧
      tlDst w ≠ a ∧ tlType w = 6)
    ∧ (∃ (s : State) (inn : Bool) (w : Word64) (a : ℕ), tlCrcOk w = true ∧ s.dev.boot.alwaysOn = true ∧ (if inn = true then
      s.dev.tline.inUp else s.dev.tline.outUp) = true ∧ s.dev.tline.head = false ∧ s.dev.tline.addr = some a ∧ tlBcast w = false ∧
      tlDst w ≠ a ∧ tlType w = 8)
    ∧ (∃ (s : State) (inn : Bool) (w : Word64) (a : ℕ), tlCrcOk w = true ∧ s.dev.boot.alwaysOn = true ∧ (if inn = true then
      s.dev.tline.inUp else s.dev.tline.outUp) = true ∧ s.dev.tline.head = false ∧ s.dev.tline.addr = some a ∧ tlBcast w = false ∧
      tlDst w = a ∧ tlType w = 6)
    ∧ (∃ (s : State) (inn : Bool) (w : Word64) (a : ℕ) (v : ℕ) (again : Bool), tlCrcOk w = true ∧ s.dev.boot.alwaysOn = true ∧ (if
      inn = true then s.dev.tline.inUp else s.dev.tline.outUp) = true ∧ s.dev.tline.head = false ∧ s.dev.tline.addr = some a ∧
      tlBcast w = false ∧ tlDst w = a ∧ tlType w = 7 ∧ s.dev.tline.query = some (v, again) ∧ v = tlPayload w % 65536)
    ∧ (∃ (s : State) (inn : Bool) (w : Word64) (a : ℕ) (v : ℕ) (again : Bool), tlCrcOk w = true ∧ s.dev.boot.alwaysOn = true ∧ (if
      inn = true then s.dev.tline.inUp else s.dev.tline.outUp) = true ∧ s.dev.tline.head = false ∧ s.dev.tline.addr = some a ∧
      tlBcast w = false ∧ tlDst w = a ∧ tlType w = 7 ∧ s.dev.tline.query = some (v, again) ∧ v ≠ tlPayload w % 65536)
    ∧ (∃ (s : State) (inn : Bool) (w : Word64) (a : ℕ), tlCrcOk w = true ∧ s.dev.boot.alwaysOn = true ∧ (if inn = true then
      s.dev.tline.inUp else s.dev.tline.outUp) = true ∧ s.dev.tline.head = false ∧ s.dev.tline.addr = some a ∧ tlBcast w = false ∧
      tlDst w = a ∧ tlType w = 8 ∧ tlFenceOk s.dev w = false)
    ∧ (∃ (s : State) (inn : Bool) (w : Word64) (a : ℕ), tlCrcOk w = true ∧ s.dev.boot.alwaysOn = true ∧ (if inn = true then
      s.dev.tline.inUp else s.dev.tline.outUp) = true ∧ s.dev.tline.head = false ∧ s.dev.tline.addr = some a ∧ tlBcast w = false ∧
      tlDst w = a ∧ tlType w = 8 ∧ tlFenceOk s.dev w = true ∧ tlState s.dev = 0)
    ∧ (∃ (s : State) (inn : Bool) (w : Word64) (a : ℕ), tlCrcOk w = true ∧ s.dev.boot.alwaysOn = true ∧ (if inn = true then
      s.dev.tline.inUp else s.dev.tline.outUp) = true ∧ s.dev.tline.head = false ∧ s.dev.tline.addr = some a ∧ tlBcast w = false ∧
      tlDst w = a ∧ tlType w = 8 ∧ tlFenceOk s.dev w = true ∧ tlState s.dev ≠ 0)
    ∧ (∃ (s : State) (inn : Bool) (w : Word64) (a : ℕ), tlCrcOk w = true ∧ s.dev.boot.alwaysOn = true ∧ (if inn = true then
      s.dev.tline.inUp else s.dev.tline.outUp) = true ∧ s.dev.tline.head = false ∧ s.dev.tline.addr = some a ∧ tlBcast w = false ∧
      tlDst w = a ∧ tlType w = 9 ∧ tlFenceOk s.dev w = false)
    ∧ (∃ (s : State) (inn : Bool) (w : Word64) (a : ℕ), tlCrcOk w = true ∧ s.dev.boot.alwaysOn = true ∧ (if inn = true then
      s.dev.tline.inUp else s.dev.tline.outUp) = true ∧ s.dev.tline.head = false ∧ s.dev.tline.addr = some a ∧ tlBcast w = false ∧
      tlDst w = a ∧ tlType w = 9 ∧ tlFenceOk s.dev w = true ∧ s.dev.boot.tlineHold = true ∧ s.dev.tline.fencedBy = some (tlSrc w))
    ∧ (∃ (s : State) (inn : Bool) (w : Word64) (a : ℕ), tlCrcOk w = true ∧ s.dev.boot.alwaysOn = true ∧ (if inn = true then
      s.dev.tline.inUp else s.dev.tline.outUp) = true ∧ s.dev.tline.head = false ∧ s.dev.tline.addr = some a ∧ tlBcast w = false ∧
      tlDst w = a ∧ tlType w = 9 ∧ tlFenceOk s.dev w = true ∧ (s.dev.boot.tlineHold = false ∨ s.dev.tline.fencedBy ≠ some (tlSrc
      w)))
    ∧ (∃ (s : State) (inn : Bool) (w : Word64) (a : ℕ), tlCrcOk w = true ∧ s.dev.boot.alwaysOn = true ∧ (if inn = true then
      s.dev.tline.inUp else s.dev.tline.outUp) = true ∧ s.dev.tline.head = false ∧ s.dev.tline.addr = some a ∧ tlBcast w = false ∧
      tlDst w = a ∧ tlType w = 10 ∧ s.dev.pair.takeover = TakeoverStep.fencing)
    ∧ (∃ (s : State) (inn : Bool) (w : Word64) (a : ℕ), tlCrcOk w = true ∧ s.dev.boot.alwaysOn = true ∧ (if inn = true then
      s.dev.tline.inUp else s.dev.tline.outUp) = true ∧ s.dev.tline.head = false ∧ s.dev.tline.addr = some a ∧ tlBcast w = false ∧
      tlDst w = a ∧ tlType w = 10 ∧ s.dev.pair.takeover = TakeoverStep.soloFencing)
    ∧ (∃ (s : State) (inn : Bool) (w : Word64) (a : ℕ), tlCrcOk w = true ∧ s.dev.boot.alwaysOn = true ∧ (if inn = true then
      s.dev.tline.inUp else s.dev.tline.outUp) = true ∧ s.dev.tline.head = false ∧ s.dev.tline.addr = some a ∧ tlBcast w = false ∧
      tlDst w = a ∧ tlType w = 10 ∧ s.dev.pair.takeover = TakeoverStep.none)
    ∧ (∃ (s : State) (inn : Bool) (w : Word64) (a : ℕ), tlCrcOk w = true ∧ s.dev.boot.alwaysOn = true ∧ (if inn = true then
      s.dev.tline.inUp else s.dev.tline.outUp) = true ∧ s.dev.tline.head = false ∧ s.dev.tline.addr = some a ∧ tlType w = 13 ∧
      tlSrc w ≠ a ∧ coreRuns s.dev = true ∧ s.dev.clk.suspended = true ∧ (tlPayload w % 256) < (profilesOf (chartOf s.dev)).length)
    ∧ (∃ (s : State) (inn : Bool) (w : Word64) (a : ℕ), tlCrcOk w = true ∧ s.dev.boot.alwaysOn = true ∧ (if inn = true then
      s.dev.tline.inUp else s.dev.tline.outUp) = true ∧ s.dev.tline.head = false ∧ s.dev.tline.addr = some a ∧ tlType w = 13 ∧
      tlSrc w ≠ a ∧ s.dev.clk.suspended = false)
    ∧ (∃ (s : State) (inn : Bool) (w : Word64), tlCrcOk w = true ∧ s.dev.boot.alwaysOn = true ∧ (if inn = true then
      s.dev.tline.inUp else s.dev.tline.outUp) = true ∧ s.dev.tline.head = false ∧ tlType w = 11 ∧ s.dev.tline.addr = some (tlSrc
      w))
    ∧ (∃ (s : State) (inn : Bool) (w : Word64) (o : ℕ), tlCrcOk w = true ∧ s.dev.boot.alwaysOn = true ∧ (if inn = true then
      s.dev.tline.inUp else s.dev.tline.outUp) = true ∧ s.dev.tline.head = false ∧ tlType w = 11 ∧ s.dev.tline.timeOrigin = some o
      ∧ o < tlSrc w)
    ∧ (∃ (s : State) (inn : Bool) (w : Word64), tlCrcOk w = true ∧ s.dev.boot.alwaysOn = true ∧ (if inn = true then
      s.dev.tline.inUp else s.dev.tline.outUp) = true ∧ s.dev.tline.head = false ∧ tlType w = 11 ∧ s.dev.tline.addr ≠ some (tlSrc
      w) ∧ (s.dev.tline.timeOrigin = none ∨ ∃ (o : ℕ), s.dev.tline.timeOrigin = some o ∧ tlSrc w ≤ o))
    ∧ (∃ (s : State) (inn : Bool) (w : Word64), tlCrcOk w = true ∧ s.dev.boot.alwaysOn = true ∧ (if inn = true then
      s.dev.tline.inUp else s.dev.tline.outUp) = true ∧ s.dev.tline.head = false ∧ tlType w = 12 ∧ (s.dev.tline.addr = some (tlSrc
      w) ∨ s.dev.tline.timeOrigin ≠ some (tlSrc w) ∨ s.dev.tline.timeS = none))
    ∧ (∃ (s : State) (inn : Bool) (w : Word64) (t : ℕ), tlCrcOk w = true ∧ s.dev.boot.alwaysOn = true ∧ (if inn = true then
      s.dev.tline.inUp else s.dev.tline.outUp) = true ∧ s.dev.tline.head = false ∧ tlType w = 12 ∧ s.dev.tline.addr ≠ some (tlSrc
      w) ∧ s.dev.tline.timeOrigin = some (tlSrc w) ∧ s.dev.tline.timeS = some t ∧ tlOrigin s.dev = true ∧ coreRuns s.dev = true)
    ∧ (∃ (s : State), tlOrigin s.dev = false)
    ∧ (∃ (s : State), (s.dev.tline.addr = none ∨ tlOrigin s.dev = false ∨ s.dev.tline.head = true ∧ s.dev.tline.headConflict =
      true))
    ∧ (∃ (s : State) (a : ℕ), s.dev.tline.addr = some a ∧ tlOrigin s.dev = true ∧ s.dev.tline.head = false ∧ s.dev.boot.alwaysOn =
      true ∧ s.dev.tline.outUp = true ∧ s.dev.tline.inUp = true ∧ s.dev.tline.outQ.length ≤ 14 ∧ s.dev.tline.inQ.length ≤ 14)
    ∧ (∃ (k : ℕ) (t : ℕ) (r : ℕ) (h : ℕ) (p : ℕ), k < 16 ∧ t < 64 ∧ r < 64 ∧ h < 64 ∧ p < 2 ^ 32) := by
  exact ⟨⟨{ aRun with dev.boot.alwaysOn := true, dev.tline.addr := some 62 }, true, (tlFrame 1 false true 1 1 0 0), 62, by decide⟩,
    ⟨{ aRun with dev.boot.alwaysOn := true, dev.tline.addr := some 62 }, true, (tlFrame 1 false false 1 1 0 0), 62, by decide⟩,
    ⟨{ aRun with dev.boot.alwaysOn := true, dev.tline.addr := some 62 }, true, (tlFrame 6 false true 1 1 0 0), 62, by decide⟩,
    ⟨{ aRun with dev.boot.alwaysOn := true, dev.tline.addr := some 62 }, true, (tlFrame 8 false true 1 1 0 0), 62, by decide⟩,
    ⟨{ aRun with dev.boot.alwaysOn := true, dev.tline.addr := some 1 }, true, (tlFrame 6 false true 1 1 0 0), 1, by decide⟩,
    ⟨{ aRun with dev.boot.alwaysOn := true, dev.tline.addr := some 1, dev.tline.query := some ((tlPayload (tlFrame 7 false true 1 1 0 0) % 65536), true) },
      true, (tlFrame 7 false true 1 1 0 0), 1, (tlPayload (tlFrame 7 false true 1 1 0 0) % 65536), true, by decide⟩,
    ⟨{ aRun with dev.boot.alwaysOn := true, dev.tline.addr := some 1, dev.tline.query := some (1, true) }, true, (tlFrame 7 false
      true 1 1 0 0), 1, 1, true, by decide⟩,
    ⟨{ aRun with dev.boot.alwaysOn := true, dev.tline.addr := some 1 }, true, (tlFrame 8 false true 1 1 0 0), 1, by decide⟩,
    ⟨{ aRun with dev.boot.alwaysOn := true, dev.tline.addr := some 1, dev.pair.shelfId := 1 }, true, (tlFrame 8 false true 1 0 0
      1), 1, by decide⟩,
    ⟨{ aRun with dev.boot.alwaysOn := true, dev.tline.addr := some 1, dev.pair.shelfId := 1, dev.pair.stalled := true }, true,
      (tlFrame 8 false true 1 0 0 1), 1, by decide⟩,
    ⟨{ aRun with dev.boot.alwaysOn := true, dev.tline.addr := some 1 }, true, (tlFrame 9 false true 1 1 0 0), 1, by decide⟩,
    ⟨{ aRun with dev.boot.alwaysOn := true, dev.tline.addr := some 1, dev.boot.tlineHold := true, dev.tline.fencedBy := some (tlSrc (tlFrame 9 false true 1 0 0 0)) },
      true, (tlFrame 9 false true 1 0 0 0), 1, by decide⟩,
    ⟨{ aRun with dev.boot.alwaysOn := true, dev.tline.addr := some 1 }, true, (tlFrame 9 false true 1 0 0 0), 1, by decide⟩,
    ⟨{ aRun with dev.boot.alwaysOn := true, dev.tline.addr := some 1, dev.pair.takeover := TakeoverStep.fencing }, true, (tlFrame
      10 false true 1 1 0 0), 1, by decide⟩,
    ⟨{ aRun with dev.boot.alwaysOn := true, dev.tline.addr := some 1, dev.pair.takeover := TakeoverStep.soloFencing }, true,
      (tlFrame 10 false true 1 1 0 0), 1, by decide⟩,
    ⟨{ aRun with dev.boot.alwaysOn := true, dev.tline.addr := some 1, dev.pair.takeover := TakeoverStep.none }, true, (tlFrame 10
      false true 1 1 0 0), 1, by decide⟩,
    ⟨{ aRun with dev.boot.alwaysOn := true, dev.tline.addr := some 62, dev.clk.suspended := true }, true, (tlFrame 13 false true 1
      1 0 0), 62, by decide⟩,
    ⟨{ aRun with dev.boot.alwaysOn := true, dev.tline.addr := some 62, dev.clk.suspended := false }, true, (tlFrame 13 false true 1
      1 0 0), 62, by decide⟩,
    ⟨{ aRun with dev.boot.alwaysOn := true, dev.tline.addr := some 1 }, true, (tlFrame 11 false true 1 1 0 0), by decide⟩,
    ⟨{ aRun with dev.boot.alwaysOn := true, dev.tline.timeOrigin := some 0 }, true, (tlFrame 11 false true 1 1 0 0), 0, by decide⟩,
    ⟨{ aRun with dev.boot.alwaysOn := true }, true, (tlFrame 11 false true 1 62 0 0), by decide⟩,
    ⟨{ aRun with dev.boot.alwaysOn := true, dev.tline.addr := some 1 }, true, (tlFrame 12 false true 1 1 0 0), by decide⟩,
    ⟨{ aRun with dev.boot.alwaysOn := true, dev.tline.timeOrigin := some 2, dev.tline.timeS := some 4096, dev.clk.state := 0, dev.clk.source := 1 },
      true, (tlFrame 12 true true 0 2 0 0), 4096, by decide⟩,
    ⟨aRun, by decide⟩,
    ⟨{ aRun with dev.tline.addr := none }, by decide⟩,
    ⟨{ aRun with dev.tline.addr := some 62, dev.boot.alwaysOn := true, dev.tline.outUp := true, dev.tline.inUp := true, dev.clk.state := 0, dev.clk.source := 1 },
      62, by decide⟩,
    ⟨15, 63, 63, 63, 4096, by decide⟩⟩

/-- The hypotheses of `Obligations.ChartStaging` can be met. -/
theorem witness_ChartStaging :
    (∃ (s : State) (v : Reg), blocksOpen s.dev = true ∧ chartCtrlBad (v ||| 1#32) = false ∧ s.dev.chart.state = ChartState.idle ∧
      s.dev.chart.inForce.isSome = true ∧ s.dev.pair.role ≠ Role.standby ∧ s.dev.pair.mixed = false ∧ ¬(s.dev.pair.role =
      Role.active ∧ s.dev.pair.partner = 2))
    ∧ (∃ (s : State) (v : Reg), blocksOpen s.dev = true ∧ chartCtrlBad (v ||| 1#32) = false ∧ s.dev.chart.state = ChartState.idle ∧
      s.dev.chart.inForce.isSome = true ∧ s.dev.pair.role = Role.active ∧ s.dev.pair.mixed = false)
    ∧ (∃ (s : State) (v : Reg), blocksOpen s.dev = true ∧ (chartCtrlBad (v ||| 1#32) = true ∨ s.dev.chart.state ≠ ChartState.idle ∨
      s.dev.chart.inForce = none ∨ s.dev.pair.role = Role.standby ∨ s.dev.pair.mixed = true))
    ∧ (∃ (s : State), blocksOpen s.dev = true ∧ s.dev.chart.state = ChartState.checking)
    ∧ (∃ (s : State) (e : ChartErr), blocksOpen s.dev = true ∧ s.dev.chart.state = ChartState.checking ∧ s.dev.clk.swapWaiting =
      false ∧ checkLive s.dev s.mem (imgAt s.mem 274877906944) s.dev.chart.imageLen = Except.error e)
    ∧ (∃ (s : State) (v : Reg), blocksOpen s.dev = true ∧ chartCtrlBad (v ||| 4#32) = false ∧ s.dev.chart.state = ChartState.staged
      ∧ s.dev.clk.swapWaiting = false ∧ s.dev.chart.inForce.isSome = true ∧ BitVec.toNat v = s.dev.chart.stageSeq ∧
      s.dev.pair.partner = 0)
    ∧ (∃ (s : State) (v : Reg), blocksOpen s.dev = true ∧ (chartCtrlBad (v ||| 4#32) = true ∨ s.dev.chart.state ≠
      ChartState.staged) ∧ s.dev.clk.swapWaiting = false)
    ∧ (∃ (s : State) (v : Reg), blocksOpen s.dev = true ∧ s.dev.chart.inForce.isSome = true ∧ s.dev.chart.state = ChartState.staged
      ∧ BitVec.toNat v = s.dev.chart.stageSeq ∧ (s.dev.pair.partner = 1 ∨ s.dev.pair.role = Role.active ∧ s.dev.pair.partner = 2) ∧
      s.dev.chart.partnerStaged = false)
    ∧ (∃ (s : State) (v : Reg), blocksOpen s.dev = true ∧ s.dev.chart.inForce.isSome = true ∧ s.dev.chart.state = ChartState.staged
      ∧ BitVec.toNat v ≠ s.dev.chart.stageSeq)
    ∧ (∃ (s : State), blocksOpen s.dev = true ∧ s.dev.chart.inForce.isSome = true ∧ s.dev.chart.state ≠ ChartState.staged)
    ∧ (∃ (s : State) (v : Reg) (c : Chart), blocksOpen s.dev = true ∧ s.dev.chart.inForce.isSome = true ∧ chartCtrlBad (v ||| 2#32)
      = false ∧ s.dev.chart.state = ChartState.idle ∧ s.dev.chart.runSeq < c.sequence)
    ∧ (∃ (s : State) (v : Reg), blocksOpen s.dev = true ∧ s.dev.chart.inForce.isSome = true ∧ (chartCtrlBad (v ||| 2#32) = true ∨
      s.dev.chart.state ≠ ChartState.idle)) := by
  exact ⟨⟨{ aRun with dev.chart.state := ChartState.idle }, 0, by decide⟩,
    ⟨{ aRun with dev.chart.state := ChartState.idle, dev.pair.role := Role.active }, 0, by decide⟩,
    ⟨aRun, 2, by decide⟩,
    ⟨{ aRun with dev.chart.state := ChartState.checking }, by decide⟩,
    ⟨{ aRun with dev.chart.state := ChartState.checking }, (errOf (checkLive ({ aRun with dev.chart.state := ChartState.checking }
      : State).dev ({ aRun with dev.chart.state := ChartState.checking } : State).mem (imgAt
      ({ aRun with dev.chart.state := ChartState.checking } : State).mem 274877906944)
      ({ aRun with dev.chart.state := ChartState.checking } : State).dev.chart.imageLen)), by decide⟩,
    ⟨{ aRun with dev.chart.state := ChartState.staged }, 0, by decide⟩,
    ⟨aRun, 0, by decide⟩,
    ⟨{ aRun with dev.chart.state := ChartState.staged, dev.pair.partner := 1 }, 0, by decide⟩,
    ⟨{ aRun with dev.chart.state := ChartState.staged }, 1, by decide⟩,
    ⟨aRun, by decide⟩,
    ⟨{ aRun with dev.chart.state := ChartState.idle }, 0, { aChart with sequence := 1 }, by decide⟩,
    ⟨aRun, 1, by decide⟩⟩

/-- The hypotheses of `Obligations.ChartSwitch` can be met. -/
theorem witness_ChartSwitch :
    (∃ (s : State), s.dev.chart.inForce.isSome = true ∧ s.dev.chart.state = ChartState.writing ∧ s.dev.chart.adopt = 0 ∧
      s.dev.pair.partner = 0 ∧ s.dev.pair.role ≠ Role.standby ∧ s.dev.clk.swapWaiting = false ∧ s.dev.chart.storing = true)
    ∧ (∃ (s : State) (n : Chart), s.dev.chart.inForce.isSome = true ∧ s.dev.chart.state = ChartState.writing ∧ s.dev.chart.adopt =
      0 ∧ s.dev.pair.partner = 0 ∧ s.dev.pair.role ≠ Role.standby ∧ s.dev.clk.swapWaiting = false ∧ s.dev.chart.storing = false ∧
      s.dev.chart.shadow = some n)
    ∧ (∃ (s : State) (c : Instr), s.dev.chart.inForce.isSome = true ∧ s.dev.chart.state = ChartState.writing ∧ s.dev.chart.adopt =
      0 ∧ s.dev.pair.partner = 0 ∧ s.dev.pair.role ≠ Role.standby ∧ s.dev.clk.swapWaiting = false ∧ (c = Instr.chartStoreDone false
      ∧ s.dev.chart.storing = true ∨ c = Instr.chartReadbackDone false ∧ s.dev.chart.storing = false))
    ∧ (∃ (s : State) (n : Chart) (g : CommitGroup) (rest : List TableChange), s.dev.chart.shadow = some n ∧ s.dev.prism.changes =
      TableChange.group g :: rest ∧ liveEpochs s.dev < 4 ∧ g = CommitGroup.lighthousePolicy)
    ∧ (∃ (s : State) (n : Chart) (g : CommitGroup) (rest : List TableChange) (p : ℕ), s.dev.chart.shadow = some n ∧
      s.dev.prism.changes = TableChange.group g :: rest ∧ liveEpochs s.dev < 4 ∧ g = CommitGroup.gateList p)
    ∧ (∃ (s : State) (n : Chart), s.dev.chart.shadow = some n ∧ (s.dev.prism.changes = [] ∨ 4 ≤ liveEpochs s.dev) ∧
      (s.dev.chart.state ≠ ChartState.switching ∨ s.dev.chart.pairWait = false))
    ∧ (∃ (s : State) (n : Chart), s.dev.chart.shadow = some n ∧ s.dev.chart.state = ChartState.switching ∧ s.dev.chart.pairWait =
      true)
    ∧ (∃ (s : State) (n : Chart), s.dev.chart.shadow = some n ∧ s.dev.chart.state = ChartState.switching ∧ s.dev.chart.pairWait =
      false ∧ s.dev.chart.groupsLeft = [] ∧ s.dev.chart.adopt ≠ 1 ∧ s.dev.clk.swapWaiting = false)
    ∧ (∃ (s : State) (n : Chart) (g : CommitGroup) (rest : List TableChange), s.dev.chart.shadow = some n ∧ s.dev.prism.changes =
      TableChange.group g :: rest ∧ liveEpochs s.dev < 4 ∧ (g ∈ [CommitGroup.fabricClasses, CommitGroup.eventClasses,
      CommitGroup.rampConcurrency, CommitGroup.pairPolicy, CommitGroup.storageTiming] ∨ ∃ (k : ℕ), g = CommitGroup.coveAttributes k
      ∨ g = CommitGroup.portClasses k ∨ g = CommitGroup.bayLimits k)) := by
  exact ⟨⟨{ aRun with dev.chart.state := ChartState.writing, dev.chart.storing := true }, by decide⟩,
    ⟨{ aRun with dev.chart.state := ChartState.writing, dev.chart.shadow := some aChart }, aChart, by decide⟩,
    ⟨{ aRun with dev.chart.state := ChartState.writing, dev.chart.storing := true }, (Instr.chartStoreDone false), by decide⟩,
    ⟨{ aRun with dev.chart.shadow := some aChart, dev.prism.changes := TableChange.group CommitGroup.lighthousePolicy :: [] },
      aChart, CommitGroup.lighthousePolicy, [], by decide⟩,
    ⟨{ aRun with dev.chart.shadow := some aChart, dev.prism.changes := TableChange.group (CommitGroup.gateList 4096) :: [] },
      aChart, (CommitGroup.gateList 4096), [], 4096, by decide⟩,
    ⟨{ aRun with dev.chart.shadow := some aChart }, aChart, by decide⟩,
    ⟨{ aRun with dev.chart.shadow := some aChart, dev.chart.state := ChartState.switching, dev.chart.pairWait := true }, aChart, by
      decide⟩,
    ⟨{ aRun with dev.chart.shadow := some aChart, dev.chart.state := ChartState.switching }, aChart, by decide⟩,
    ⟨{ aRun with dev.chart.shadow := some aChart, dev.prism.changes := [TableChange.group .fabricClasses] }, aChart,
      .fabricClasses, [], by decide, by decide, by decide, Or.inl (by decide)⟩⟩

/-- The hypotheses of `Obligations.ClockSources` can be met. -/
theorem witness_ClockSources :
    (∃ (d : Dev), d.boot.clocksStopped = true)
    ∧ (∃ (d : Dev), d.boot.clocksStopped = false ∧ d.clk.freqPpb = 0 ∧ d.clk.acc < 1000000000)
    ∧ (∃ (t : Tod), t.frac < 16 ∧ t.ns < 1000000000)
    ∧ (∃ (s : State) (a : Announce), a.port = (chartOf s.dev).clock.ptpPort ∧ a.domain = (chartOf s.dev).clock.domain)
    ∧ (∃ (s : State) (a : Announce), (a.domain ≠ (chartOf s.dev).clock.domain ∨ a.port ≠ (chartOf s.dev).clock.ptpPort ∧ a.port ≠
      (chartOf s.dev).clock.backupPort))
    ∧ (∃ (s : State), s.dev.clk.source = 1 ∧ s.dev.clk.ptpBackup.valid = false ∧ s.dev.clk.pps.valid = false ∧
      s.dev.clk.tline.valid = false ∧ s.dev.clk.todValid = true)
    ∧ (∃ (s : State), s.dev.clk.source = 3 ∧ s.dev.clk.ptp.valid = false ∧ s.dev.clk.ptpBackup.valid = false ∧
      s.dev.clk.tline.valid = false ∧ s.dev.clk.todValid = true)
    ∧ (∃ (s : State), (chartOf s.dev).clock.reference = 3 ∧ s.dev.clk.ptp.valid = true ∧ 1 < s.dev.clk.source)
    ∧ (∃ (s : State), s.dev.clk.state = 1 ∧ s.dev.clk.holdoverExceeded = false)
    ∧ (∃ (s : State), (s.dev.clk.state ≠ 1 ∨ s.dev.clk.holdoverExceeded = true))
    ∧ (∃ (s : State), (chartOf s.dev).clock.reference = 2 ∧ s.dev.clk.todValid = true ∧ s.dev.clk.source = 3 ∧ s.dev.clk.pps.valid
      = true ∧ (if s.dev.clk.tod.ns < 500000000 then (↑s.dev.clk.tod.ns : ℤ) else ↑s.dev.clk.tod.ns - 1000000000).natAbs ≤ 1000)
    ∧ (∃ (s : State), (chartOf s.dev).clock.reference = 2 ∧ s.dev.clk.todValid = true ∧ 1000 < (if s.dev.clk.tod.ns < 500000000
      then (↑s.dev.clk.tod.ns : ℤ) else ↑s.dev.clk.tod.ns - 1000000000).natAbs ∧ 2 ≤ s.dev.clk.ppsMisses)
    ∧ (∃ (s : State), (chartOf s.dev).clock.reference = 1)
    ∧ (∃ (s : State), (chartOf s.dev).clock.ppsOut = 1)
    ∧ (∃ (s : State), (chartOf s.dev).clock.ppsOut ≠ 1) := by
  exact ⟨⟨{ aRun.dev with boot.clocksStopped := true }, by decide⟩,
    ⟨aRun.dev, by decide⟩,
    ⟨aTod, by decide⟩,
    ⟨aRun, { aAnnounce with port := (chartOf aRun.dev).clock.ptpPort, domain := (chartOf aRun.dev).clock.domain }, by decide⟩,
    ⟨aRun, { aAnnounce with domain := 255 }, by decide⟩,
    ⟨{ aRun with dev.clk.source := 1, dev.clk.ptpBackup.valid := false, dev.clk.pps.valid := false, dev.clk.tline.valid := false, dev.clk.todValid := true },
      by decide⟩,
    ⟨{ aRun with dev.clk.source := 3, dev.clk.ptp.valid := false, dev.clk.ptpBackup.valid := false, dev.clk.tline.valid := false, dev.clk.todValid := true },
      by decide⟩,
    ⟨{ aRun with dev.clk.ptp.valid := true, dev.chart.inForce := some { defaultChart with clock.reference := 3 }, dev.clk.source := 4 },
      by decide⟩,
    ⟨{ aRun with dev.clk.state := 1 }, by decide⟩,
    ⟨aRun, by decide⟩,
    ⟨{ aRun with dev.clk.todValid := true, dev.clk.source := 3, dev.clk.pps.valid := true, dev.chart.inForce := some { defaultChart with clock.reference := 2 } },
      by decide⟩,
    ⟨{ aRun with dev.clk.todValid := true, dev.chart.inForce := some { defaultChart with clock.reference := 2 }, dev.clk.ppsMisses := 2, dev.clk.tod.ns := 1001 },
      by decide⟩,
    ⟨{ aRun with dev.chart.inForce := some { defaultChart with clock.reference := 1 } }, by decide⟩,
    ⟨{ aRun with dev.chart.inForce := some { defaultChart with clock.ppsOut := 1 } }, by decide⟩,
    ⟨{ aRun with dev.chart.inForce := some { defaultChart with clock.ppsOut := 0 } }, by decide⟩⟩

/-- The hypotheses of `Obligations.Connects` can be met. -/
theorem witness_Connects :
    (∃ (s : State) (r : CmRequest), tget s.dev.net.addrs r.address = none)
    ∧ (∃ (s : State) (r : CmRequest) (a : AddrState), tget s.dev.net.addrs r.address = some a ∧ (r.mtu < 1024 ∨ 262144 ≤
      s.dev.net.contexts ∨ (qpOf s.dev r.qpn).isSome = true ∨ entryBusy s.dev (TableChange.qpmap r.qpn) = true))
    ∧ (∃ (s : State) (r : CmRequest) (a : AddrState), tget s.dev.net.addrs r.address = some a ∧ 1024 ≤ r.mtu ∧ s.dev.net.contexts <
      262144 ∧ qpOf s.dev r.qpn = none ∧ entryBusy s.dev (TableChange.qpmap r.qpn) = false)
    ∧ (∃ (r : CmRequest), ((List.take 5 (List.drop 8 r.priv) == [87, 88, 83, 80, 1]) = false ∨ bit (cmField r 13 1) 1 = false ∨
      cmField r 16 2 = 0 ∨ 128 < cmField r 16 2))
    ∧ (∃ (s : State) (r : CmRequest) (n : ℕ), grantLanding s.dev r = some n)
    ∧ (∃ (s : State) (n : ℕ), qpOf s.dev n = none)
    ∧ (∃ (s : State) (n : ℕ) (q : Qp) (p : SprayPath), qpOf s.dev n = some q ∧ q.paths = [p] ∧ elapsed s.dev - p.lastCut < max
      p.srtt 20000)
    ∧ (∃ (s : State) (n : ℕ) (q : Qp) (p : SprayPath), qpOf s.dev n = some q ∧ q.paths = [p] ∧ max p.srtt 20000 ≤ elapsed s.dev -
      p.lastCut ∧ (markCut (elapsed s.dev) p).rate < p.rate)
    ∧ (∃ (now : ℕ) (v : ℕ) (off : ℕ) (top : ℕ) (p : SprayPath), p.sampled = true ∧ v ≤ min p.base v + off ∧ now - p.lastChange <
      (rttSample now v off top p).srtt)
    ∧ (∃ (now : ℕ) (v : ℕ) (off : ℕ) (top : ℕ) (p : SprayPath), p.sampled = true ∧ v ≤ min p.base v + off ∧ (rttSample now v off
      top p).srtt ≤ now - p.lastChange) := by
  exact ⟨⟨aRun, aCmRequest, by decide⟩,
    ⟨{ aRun with dev.net.addrs := [(({ aCmRequest with mtu := 1023 } : CmRequest).address, aAddrState)] },
      { aCmRequest with mtu := 1023 }, aAddrState, by decide⟩,
    ⟨{ aRun with dev.net.addrs := [(aCmRequest.address, aAddrState)] }, aCmRequest, aAddrState, by decide⟩,
    ⟨({ aCmRequest with priv := [] }), by decide⟩,
    ⟨aRun, ({ aCmRequest with priv := List.replicate 8 0 ++ [0x57, 0x58, 0x53, 0x50, 1, 3, 4, 8, 128, 0] ++ List.replicate 14 0 }),
      8388608, by decide⟩,
    ⟨aRun, 4096, by decide⟩,
    ⟨{ aRun with dev.net.qps := [(20001, { aQp with paths := [aSprayPath] })] }, 20001, { aQp with paths := [aSprayPath] },
      aSprayPath, by decide⟩,
    ⟨{ aRun with dev.net.qps := [(20001, { aQp with paths := [{ aSprayPath with rate := 100000000 }] })], dev.clk.elapsed16 := 320000 },
      20001, { aQp with paths := [{ aSprayPath with rate := 100000000 }] }, { aSprayPath with rate := 100000000 }, by decide⟩,
    ⟨255, 4096, 4096, 4096, { aSprayPath with sampled := true }, by decide⟩,
    ⟨4096, 4096, 4096, 4096, { aSprayPath with sampled := true }, by decide⟩⟩

/-- The hypotheses of `Obligations.CountersAndSamplers` can be met. -/
theorem witness_CountersAndSamplers :
    (∃ (s : State) (v : Reg) (n : ℕ), blocksOpen s.dev = true ∧ n < 2048 ∧ BitVec.toNat v / 256 % 256 < 11 ∧ BitVec.toNat v % 256 <
      eventsOf (BitVec.toNat v / 256 % 256))
    ∧ (∃ (s : State) (v : Reg) (n : ℕ), blocksOpen s.dev = true ∧ n < 2048 ∧ 11 ≤ BitVec.toNat v / 256 % 256 ∧ eventsOf ((tget
      s.dev.perf.counters n).getD { }).cls ≤ BitVec.toNat v % 256)
    ∧ (∃ (s : State) (n : ℕ), blocksOpen s.dev = true ∧ 1 ≤ n ∧ n < 256)
    ∧ (∃ (s : State) (n : ℕ) (c : Counter), blocksOpen s.dev = true ∧ tget s.dev.perf.counters n = some c)
    ∧ (∃ (s : State) (i : ℕ) (x : Sampler), i < 256 ∧ tget s.dev.sched.samplers i = some x ∧ x.enable = true ∧ x.intervalUs ≠ 0)
    ∧ (∃ (s : State) (i : ℕ) (x : Sampler), i < 256 ∧ tget s.dev.sched.samplers i = some x ∧ (x.enable = false ∨ x.intervalUs = 0))
    ∧ (∃ (s : State) (i : ℕ) (x : Sampler) (v : Byte), i < 256 ∧ tget s.dev.sched.samplers i = some x ∧ blocksOpen s.dev = true ∧
      BitVec.getLsbD v 0 = true ∧ x.enable = false)
    ∧ (∃ (s : State) (i : ℕ) (x : Sampler) (v : Byte), i < 256 ∧ tget s.dev.sched.samplers i = some x ∧ blocksOpen s.dev = true ∧
      BitVec.getLsbD v 0 = true ∧ x.enable = true)
    ∧ (∃ (s : State) (i : ℕ) (x : Sampler) (v : Byte), i < 256 ∧ tget s.dev.sched.samplers i = some x ∧ blocksOpen s.dev = true ∧
      BitVec.getLsbD v 0 = false) := by
  exact ⟨⟨aRun, 0, 2047, by decide⟩,
    ⟨aRun, 0xFFFFFFFF, 2047, by decide⟩,
    ⟨aRun, 255, by decide⟩,
    ⟨{ aRun with dev.perf.counters := [(4096, aCounter)] }, 4096, aCounter, by decide⟩,
    ⟨{ aRun with dev.sched.samplers := [(255, { aSampler with enable := true, intervalUs := 1 })] }, 255,
      { aSampler with enable := true, intervalUs := 1 }, by decide⟩,
    ⟨{ aRun with dev.sched.samplers := [(255, (aSampler : Sampler))] }, 255, aSampler, by decide⟩,
    ⟨{ aRun with dev.sched.samplers := [(255, (aSampler : Sampler))] }, 255, aSampler, 1, by decide⟩,
    ⟨{ aRun with dev.sched.samplers := [(255, { aSampler with enable := true })] }, 255, { aSampler with enable := true }, 1, by
      decide⟩,
    ⟨{ aRun with dev.sched.samplers := [(255, aSampler)] }, 255, aSampler, 0, by decide⟩⟩

/-- The hypotheses of `Obligations.CoveImages` can be met. -/
theorem witness_CoveImages :
    (∃ (s : State) (c : ℕ) (n : ℕ) (k : Ctrl), n ≠ 0 ∧ ctrlOf s.dev n = some k ∧ k.enabled = true ∧ k.ended = false ∧ k.cove = 0 ∧
      blocksOpen s.dev = true ∧ c < 4096 ∧ s.dev.mhi.mboxReady = true ∧ (s.dev.mhi.mboxBusy = false ∨ s.dev.mhi.mboxPending = true)
      ∧ freeImage s.dev = none)
    ∧ (∃ (s : State) (c : ℕ) (n : ℕ) (k : Ctrl) (i : ℕ), n ≠ 0 ∧ ctrlOf s.dev n = some k ∧ k.enabled = true ∧ k.ended = false ∧
      k.cove = 0 ∧ blocksOpen s.dev = true ∧ c < 4096 ∧ s.dev.mhi.mboxReady = true ∧ (s.dev.mhi.mboxBusy = false ∨
      s.dev.mhi.mboxPending = true) ∧ freeImage s.dev = some i)
    ∧ (∃ (s : State) (c : ℕ) (n : ℕ) (k : Ctrl) (i : ℕ), n ≠ 0 ∧ ctrlOf s.dev n = some k ∧ k.enabled = true ∧ k.ended = false ∧
      k.cove = 0 ∧ blocksOpen s.dev = true ∧ c < 4096 ∧ s.dev.mhi.mboxReady = true ∧ (s.dev.mhi.mboxBusy = false ∨
      s.dev.mhi.mboxPending = true) ∧ imageSlots s.dev ≤ i)
    ∧ (∃ (s : State) (c : ℕ) (n : ℕ) (k : Ctrl) (i : ℕ), n ≠ 0 ∧ ctrlOf s.dev n = some k ∧ k.enabled = true ∧ k.ended = false ∧
      k.cove = 0 ∧ blocksOpen s.dev = true ∧ c < 4096 ∧ s.dev.mhi.mboxReady = true ∧ (s.dev.mhi.mboxBusy = false ∨
      s.dev.mhi.mboxPending = true) ∧ i < imageSlots s.dev ∧ slotInUse s.dev i = false)
    ∧ (∃ (s : State) (c : ℕ) (n : ℕ) (k : Ctrl) (i : ℕ) (st : Status) (m : ℕ), n ≠ 0 ∧ ctrlOf s.dev n = some k ∧ k.enabled = true ∧
      k.ended = false ∧ k.cove = 0 ∧ blocksOpen s.dev = true ∧ c < 4096 ∧ s.dev.mhi.mboxReady = true ∧ (s.dev.mhi.mboxBusy = false
      ∨ s.dev.mhi.mboxPending = true) ∧ serves s.dev = true ∧ i < imageSlots s.dev ∧ slotInUse s.dev i = true ∧ i ∉
      s.dev.pool.imgInvalid ∧ importFails
      (({ s.dev with mhi.mboxRefused := false, mhi.mboxBusy := true, mhi.mboxPending := false, mhi.mboxRoom := if s.dev.mhi.mboxPending then s.dev.mhi.mboxRoom else none }
      : Dev)) c (mgets s.mem (pageAddr (imagePage s.dev i)) 65536) = some (st, m))
    ∧ (∃ (s : State) (c : ℕ) (n : ℕ) (k : Ctrl) (b : List Byte) (st : Status) (m : ℕ), n ≠ 0 ∧ ctrlOf s.dev n = some k ∧ k.enabled
      = true ∧ k.ended = false ∧ k.cove = 0 ∧ blocksOpen s.dev = true ∧ c < 4096 ∧ importFails s.dev c b = some (st, m))
    ∧ (∃ (s : State) (c : ℕ) (n : ℕ) (k : Ctrl) (b : List Byte), n ≠ 0 ∧ ctrlOf s.dev n = some k ∧ k.enabled = true ∧ k.ended =
      false ∧ k.cove = 0 ∧ blocksOpen s.dev = true ∧ c < 4096 ∧ imageOk b = false)
    ∧ (∃ (s : State) (c : ℕ) (n : ℕ) (k : Ctrl) (keep : Bool) (st : Status), n ≠ 0 ∧ ctrlOf s.dev n = some k ∧ k.enabled = true ∧
      k.ended = false ∧ k.cove = 0 ∧ blocksOpen s.dev = true ∧ c < 4096 ∧ exportFails s.dev c keep = some st)
    ∧ (∃ (s : State) (c : ℕ) (n : ℕ) (k : Ctrl) (keep : Bool), n ≠ 0 ∧ ctrlOf s.dev n = some k ∧ k.enabled = true ∧ k.ended = false
      ∧ k.cove = 0 ∧ blocksOpen s.dev = true ∧ c < 4096 ∧ exportFails s.dev c keep = none)
    ∧ (∃ (s : State) (c : ℕ) (n : ℕ) (k : Ctrl) (r : CoveRec), n ≠ 0 ∧ ctrlOf s.dev n = some k ∧ k.enabled = true ∧ k.ended = false
      ∧ k.cove = 0 ∧ blocksOpen s.dev = true ∧ c < 4096 ∧ coveOf s.dev c = some r ∧ c = 0)
    ∧ (∃ (s : State) (c : ℕ) (n : ℕ) (k : Ctrl) (r : CoveRec), n ≠ 0 ∧ ctrlOf s.dev n = some k ∧ k.enabled = true ∧ k.ended = false
      ∧ k.cove = 0 ∧ blocksOpen s.dev = true ∧ c < 4096 ∧ coveOf s.dev c = some r ∧ c ≠ 0 ∧ (r.state = CoveState.resetting ∨
      r.state = CoveState.deleting ∨ r.freezing.isSome = true))
    ∧ (∃ (s : State) (c : ℕ) (n : ℕ) (k : Ctrl) (r : CoveRec), n ≠ 0 ∧ ctrlOf s.dev n = some k ∧ k.enabled = true ∧ k.ended = false
      ∧ k.cove = 0 ∧ blocksOpen s.dev = true ∧ c < 4096 ∧ coveOf s.dev c = some r ∧ exportFails s.dev c true = none ∧ (r.state ≠
      CoveState.frozen ∨ r.exporting = false ∧ exportsOf s.dev c = []) ∧ r.state ≠ CoveState.frozen)
    ∧ (∃ (s : State) (c : ℕ) (n : ℕ) (k : Ctrl) (r : CoveRec), n ≠ 0 ∧ ctrlOf s.dev n = some k ∧ k.enabled = true ∧ k.ended = false
      ∧ k.cove = 0 ∧ blocksOpen s.dev = true ∧ c < 4096 ∧ coveOf s.dev c = some r ∧ exportFails s.dev c true = some (gen 129))
    ∧ (∃ (s : State) (c : ℕ) (n : ℕ) (k : Ctrl) (r : CoveRec) (v : Reg), n ≠ 0 ∧ ctrlOf s.dev n = some k ∧ k.enabled = true ∧
      k.ended = false ∧ k.cove = 0 ∧ blocksOpen s.dev = true ∧ c < 4096 ∧ coveOf s.dev c = some r ∧ (BitVec.getLsbD v 0 = true ∨
      BitVec.getLsbD v 2 = true ∨ BitVec.getLsbD v 3 = true))
    ∧ (∃ (s : State) (c : ℕ) (n : ℕ) (k : Ctrl) (i : ℕ), n ≠ 0 ∧ ctrlOf s.dev n = some k ∧ k.enabled = true ∧ k.ended = false ∧
      k.cove = 0 ∧ blocksOpen s.dev = true ∧ c < 4096 ∧ s.dev.mhi.mboxReady = true ∧ (s.dev.mhi.mboxBusy = false ∨
      s.dev.mhi.mboxPending = true) ∧ serves s.dev = true ∧ i < imageSlots s.dev ∧ slotInUse s.dev i = true ∧ i ∉
      s.dev.pool.imgInvalid ∧ importFails { s.dev with mhi.mboxRefused := false, mhi.mboxBusy := true, mhi.mboxPending := false } c
      (mgets s.mem (pageAddr (imagePage s.dev i)) 65536) = none)
    ∧ (∃ (s : State) (c : ℕ) (n : ℕ) (k : Ctrl) (b : List Byte), n ≠ 0 ∧ ctrlOf s.dev n = some k ∧ k.enabled = true ∧ k.ended =
      false ∧ k.cove = 0 ∧ blocksOpen s.dev = true ∧ c < 4096 ∧ importFails s.dev c b = none)
    ∧ (∃ (s : State) (c : ℕ) (n : ℕ) (k : Ctrl) (b : List Byte), n ≠ 0 ∧ ctrlOf s.dev n = some k ∧ k.enabled = true ∧ k.ended =
      false ∧ k.cove = 0 ∧ blocksOpen s.dev = true ∧ c < 4096 ∧ imageOk b = true ∧ thas s.dev.cove.tab c = true) := by
  exact ⟨⟨{ aRun with dev.mhi.mboxReady := true, dev.mhi.mboxBusy := false, dev.host.ctrls := [(4097, { aCtrl with enabled := true, cove := 0 })], dev.pool.layout := { coveimg := 0 } },
      4095, 4097, { aCtrl with enabled := true, cove := 0 }, by decide⟩,
    ⟨{ aRun with dev.mhi.mboxReady := true, dev.mhi.mboxBusy := false, dev.host.ctrls := [(4097, { aCtrl with enabled := true, cove := 0 })] },
      4095, 4097, { aCtrl with enabled := true, cove := 0 }, 0, by decide⟩,
    ⟨{ aRun with dev.mhi.mboxReady := true, dev.mhi.mboxBusy := false, dev.host.ctrls := [(4097, { aCtrl with enabled := true, cove := 0 })] },
      4095, 4097, { aCtrl with enabled := true, cove := 0 }, 4097, by decide⟩,
    ⟨{ aRun with dev.mhi.mboxReady := true, dev.mhi.mboxBusy := false, dev.host.ctrls := [(4097, { aCtrl with enabled := true, cove := 0 })] },
      4095, 4097, { aCtrl with enabled := true, cove := 0 }, 32, by decide⟩,
    ⟨{ aRun with dev.mhi.mboxReady := true, dev.mhi.mboxBusy := false, dev.host.ctrls := [(4097, { aCtrl with enabled := true, cove := 0 })], dev.pool.imgUsed := [0] },
      4095, 4097, { aCtrl with enabled := true, cove := 0 }, 0, (gen 0x02), 2, by decide⟩,
    ⟨{ aRun with dev.host.ctrls := [(4097, { aCtrl with enabled := true, cove := 0 })] }, 4095, 4097,
      { aCtrl with enabled := true, cove := 0 }, ([] : List Byte), (gen 0x02), 2, by decide⟩,
    ⟨{ aRun with dev.host.ctrls := [(4097, { aCtrl with enabled := true, cove := 0 })] }, 4095, 4097,
      { aCtrl with enabled := true, cove := 0 }, [], by decide⟩,
    ⟨{ aRun with dev.host.ctrls := [(4097, { aCtrl with enabled := true, cove := 0 })] }, 4095, 4097,
      { aCtrl with enabled := true, cove := 0 }, true, (gen 0x02), by decide⟩,
    ⟨{ aRun with dev.host.ctrls := [(4097, { aCtrl with enabled := true, cove := 0 })], dev.cove.tab := [(4095, aCoveRec)] }, 4095,
      4097, { aCtrl with enabled := true, cove := 0 }, true, by decide⟩,
    ⟨{ aRun with dev.host.ctrls := [(4097, { aCtrl with enabled := true, cove := 0 })], dev.cove.tab := [(0, aCoveRec)] }, 0, 4097,
      { aCtrl with enabled := true, cove := 0 }, aCoveRec, by decide⟩,
    ⟨{ aRun with dev.host.ctrls := [(4097, { aCtrl with enabled := true, cove := 0 })], dev.cove.tab := [(4095, { aCoveRec with state := CoveState.resetting })] },
      4095, 4097, { aCtrl with enabled := true, cove := 0 }, { aCoveRec with state := CoveState.resetting }, by decide⟩,
    ⟨{ aRun with dev.host.ctrls := [(4097, { aCtrl with enabled := true, cove := 0 })], dev.cove.tab := [(4095, aCoveRec)] }, 4095,
      4097, { aCtrl with enabled := true, cove := 0 }, aCoveRec, by decide⟩,
    ⟨{ aRun with dev.host.ctrls := [(4097, { aCtrl with enabled := true, cove := 0 })], dev.cove.tab := [(4095, aCoveRec)], dev.pool.layout := { coveimg := 0 } },
      4095, 4097, { aCtrl with enabled := true, cove := 0 }, aCoveRec, by decide⟩,
    ⟨{ aRun with dev.host.ctrls := [(4097, { aCtrl with enabled := true, cove := 0 })], dev.cove.tab := [(4095, aCoveRec)] }, 4095,
      4097, { aCtrl with enabled := true, cove := 0 }, aCoveRec, 1, by decide⟩,
    ⟨aImaged, 2, 4097, { aCtrl with enabled := true, cove := 0 }, 0, by decide, by decide, by decide, by decide, by decide, by
      decide, by decide, by decide, by decide, by decide, by decide, by decide, by decide, aImage_enters⟩,
    ⟨aImaged, 2, 4097, { aCtrl with enabled := true, cove := 0 }, aImage ++ zeros 62968, by decide, by decide, by decide, by
      decide, by decide, by decide, by decide, aImage_passes⟩,
    ⟨aImaged, 4095, 4097, { aCtrl with enabled := true, cove := 0 }, aImage ++ zeros 62968, by decide, by decide, by decide, by
      decide, by decide, by decide, by decide, aImage_ok _, by decide⟩⟩

/-- The hypotheses of `Obligations.CovesDefined` can be met. -/
theorem witness_CovesDefined :
    (∃ (s : State), s.dev.mhi.mboxReady = true ∧ (s.dev.mhi.mboxBusy = false ∨ s.dev.mhi.mboxPending = true) ∧ serves s.dev =
      false)
    ∧ (∃ (s : State) (c : ℕ) (n : List Byte), s.dev.mhi.mboxReady = true ∧ (s.dev.mhi.mboxBusy = false ∨ s.dev.mhi.mboxPending =
      true) ∧ serves s.dev = true ∧ (c = 0 ∨ 4096 ≤ c ∨ n = [] ∨ 223 < n.length))
    ∧ (∃ (s : State) (c : ℕ) (n : List Byte), s.dev.mhi.mboxReady = true ∧ (s.dev.mhi.mboxBusy = false ∨ s.dev.mhi.mboxPending =
      true) ∧ serves s.dev = true ∧ c ≠ 0 ∧ c < 4096 ∧ n ≠ [] ∧ n.length ≤ 223 ∧ (thas s.dev.cove.tab c = true ∨ (coveOfNqn s.dev
      n).isSome = true))
    ∧ (∃ (s : State) (c : ℕ) (n : List Byte), s.dev.mhi.mboxReady = true ∧ (s.dev.mhi.mboxBusy = false ∨ s.dev.mhi.mboxPending =
      true) ∧ serves s.dev = true ∧ c ≠ 0 ∧ c < 4096 ∧ n ≠ [] ∧ n.length ≤ 223 ∧ thas s.dev.cove.tab c = false ∧ coveOfNqn s.dev n
      = none ∧ floorsBroken s.dev c = true)
    ∧ (∃ (s : State) (c : ℕ) (n : List Byte), s.dev.mhi.mboxReady = true ∧ (s.dev.mhi.mboxBusy = false ∨ s.dev.mhi.mboxPending =
      true) ∧ serves s.dev = true ∧ c ≠ 0 ∧ c < 4096 ∧ n ≠ [] ∧ n.length ≤ 223 ∧ thas s.dev.cove.tab c = false ∧ coveOfNqn s.dev n
      = none ∧ floorsBroken s.dev c = false)
    ∧ (∃ (s : State) (c : ℕ), s.dev.mhi.mboxReady = true ∧ (s.dev.mhi.mboxBusy = false ∨ s.dev.mhi.mboxPending = true) ∧ serves
      s.dev = true ∧ coveOf s.dev c = none)
    ∧ (∃ (s : State) (c : ℕ) (r : CoveRec), s.dev.mhi.mboxReady = true ∧ (s.dev.mhi.mboxBusy = false ∨ s.dev.mhi.mboxPending =
      true) ∧ serves s.dev = true ∧ coveOf s.dev c = some r ∧ (c = 0 ∨ r.state = CoveState.deleting))
    ∧ (∃ (s : State) (c : ℕ) (r : CoveRec), s.dev.mhi.mboxReady = true ∧ (s.dev.mhi.mboxBusy = false ∨ s.dev.mhi.mboxPending =
      true) ∧ serves s.dev = true ∧ coveOf s.dev c = some r ∧ c ≠ 0 ∧ r.state ≠ CoveState.deleting ∧ r.state = CoveState.resetting)
    ∧ (∃ (s : State) (c : ℕ) (r : CoveRec), s.dev.mhi.mboxReady = true ∧ (s.dev.mhi.mboxBusy = false ∨ s.dev.mhi.mboxPending =
      true) ∧ serves s.dev = true ∧ coveOf s.dev c = some r ∧ c ≠ 0 ∧ r.state ≠ CoveState.deleting ∧ r.state ≠ CoveState.resetting)
    ∧ (∃ (s : State) (c : ℕ) (b : Binding), s.dev.mhi.mboxReady = true ∧ (s.dev.mhi.mboxBusy = false ∨ s.dev.mhi.mboxPending =
      true) ∧ serves s.dev = true ∧ (4096 ≤ b.cove ∨ 255 < b.maxAssoc ∨ 16384 ≤ c ∧ c ≠ 4294967295))
    ∧ (∃ (s : State) (c : ℕ) (b : Binding), s.dev.mhi.mboxReady = true ∧ (s.dev.mhi.mboxBusy = false ∨ s.dev.mhi.mboxPending =
      true) ∧ serves s.dev = true ∧ b.cove < 4096 ∧ b.maxAssoc ≤ 255 ∧ c < 16384 ∧ thas s.dev.cove.tab b.cove = false)
    ∧ (∃ (s : State) (c : ℕ) (b : Binding), s.dev.mhi.mboxReady = true ∧ (s.dev.mhi.mboxBusy = false ∨ s.dev.mhi.mboxPending =
      true) ∧ serves s.dev = true ∧ b.cove < 4096 ∧ b.maxAssoc ≤ 255 ∧ c < 16384 ∧ thas s.dev.cove.tab b.cove = true ∧ b.valid =
      true ∧ ((List.filter (fun (y : ℕ × Binding) => y.1 != c && y.2.valid && y.2.cove == b.cove) s.dev.cove.bindings).any fun (y :
      ℕ × Binding) => y.2.anyHost && b.anyHost || !y.2.anyHost && !b.anyHost && y.2.hostid == b.hostid) = true)
    ∧ (∃ (s : State) (c : ℕ) (b : Binding), s.dev.mhi.mboxReady = true ∧ (s.dev.mhi.mboxBusy = false ∨ s.dev.mhi.mboxPending =
      true) ∧ serves s.dev = true ∧ b.cove < 4096 ∧ b.maxAssoc ≤ 255 ∧ c < 16384 ∧ thas s.dev.cove.tab b.cove = true ∧ (List.filter
      (fun (y : ℕ × Binding) => y.1 != c && y.2.valid && y.2.cove == b.cove) s.dev.cove.bindings) = [] ∧ tget s.dev.cove.bindings c
      = none)
    ∧ (∃ (s : State) (c : ℕ), s.dev.mhi.mboxReady = true ∧ (s.dev.mhi.mboxBusy = false ∨ s.dev.mhi.mboxPending = true) ∧ serves
      s.dev = true ∧ 16384 ≤ c)
    ∧ (∃ (s : State) (c : ℕ), s.dev.mhi.mboxReady = true ∧ (s.dev.mhi.mboxBusy = false ∨ s.dev.mhi.mboxPending = true) ∧ serves
      s.dev = true ∧ c < 16384 ∧ thas s.dev.cove.bindings c = false)
    ∧ (∃ (s : State) (c : ℕ), s.dev.mhi.mboxReady = true ∧ (s.dev.mhi.mboxBusy = false ∨ s.dev.mhi.mboxPending = true) ∧ serves
      s.dev = true ∧ c < 16384 ∧ thas s.dev.cove.bindings c = true)
    ∧ (∃ (s : State) (c : ℕ) (r : CoveRec), coveOf s.dev c = some r ∧ (r.state ≠ CoveState.deleting ∨ deleteReady s.dev c = false))
    ∧ (∃ (s : State) (c : ℕ) (r : CoveRec), coveOf s.dev c = some r ∧ r.state = CoveState.deleting ∧ deleteReady s.dev c = true ∧
      ((((s.dev.cove.bindings.filter (fun b => b.2.cove == c)).map (·.1)).foldl (fun a i => mirrorBinding i a) (mirrorCove c
      (judgeFloors
      (let x := destroySlots c { s.dev with cove.bindings := s.dev.cove.bindings.filter (fun b => b.2.cove != c), pool.held := terase s.dev.pool.held c, host.nss := tall s.dev.host.nss (fun n => { n with coves := n.coves.filter (fun z => z != c) }), prism.changes := s.dev.prism.changes ++ (coveNamespaces s.dev c).map TableChange.nsmap }; { (destroySlots c { s.dev with cove.bindings := s.dev.cove.bindings.filter (fun b => b.2.cove != c), pool.held := terase s.dev.pool.held c, host.nss := tall s.dev.host.nss (fun n => { n with coves := n.coves.filter (fun z => z != c) }), prism.changes := s.dev.prism.changes ++ (coveNamespaces s.dev c).map TableChange.nsmap }) with cove.tab := terase (destroySlots c { s.dev with cove.bindings := s.dev.cove.bindings.filter (fun b => b.2.cove != c), pool.held := terase s.dev.pool.held c, host.nss := tall s.dev.host.nss (fun n => { n with coves := n.coves.filter (fun z => z != c) }), prism.changes := s.dev.prism.changes ++ (coveNamespaces s.dev c).map TableChange.nsmap }).cove.tab c })))).host.waits.any fun (w : AdminWait) => w.kind == 7 && w.subject == c) = true)
    ∧ (∃ (s : State) (c : ℕ) (r : CoveRec), coveOf s.dev c = some r ∧ r.state = CoveState.deleting ∧ deleteReady s.dev c = true ∧
      ((((s.dev.cove.bindings.filter (fun b => b.2.cove == c)).map (·.1)).foldl (fun a i => mirrorBinding i a) (mirrorCove c
      (judgeFloors
      (let x := destroySlots c { s.dev with cove.bindings := s.dev.cove.bindings.filter (fun b => b.2.cove != c), pool.held := terase s.dev.pool.held c, host.nss := tall s.dev.host.nss (fun n => { n with coves := n.coves.filter (fun z => z != c) }), prism.changes := s.dev.prism.changes ++ (coveNamespaces s.dev c).map TableChange.nsmap }; { (destroySlots c { s.dev with cove.bindings := s.dev.cove.bindings.filter (fun b => b.2.cove != c), pool.held := terase s.dev.pool.held c, host.nss := tall s.dev.host.nss (fun n => { n with coves := n.coves.filter (fun z => z != c) }), prism.changes := s.dev.prism.changes ++ (coveNamespaces s.dev c).map TableChange.nsmap }) with cove.tab := terase (destroySlots c { s.dev with cove.bindings := s.dev.cove.bindings.filter (fun b => b.2.cove != c), pool.held := terase s.dev.pool.held c, host.nss := tall s.dev.host.nss (fun n => { n with coves := n.coves.filter (fun z => z != c) }), prism.changes := s.dev.prism.changes ++ (coveNamespaces s.dev c).map TableChange.nsmap }).cove.tab c })))).host.waits.any fun (w : AdminWait) => w.kind == 7 && w.subject == c) = false) := by
  exact ⟨⟨{ aRun with dev.mhi.mboxReady := true, dev.mhi.mboxBusy := false, dev.pair.role := .standby }, by decide⟩,
    ⟨{ aRun with dev.mhi.mboxReady := true, dev.mhi.mboxBusy := false }, 0, [], by decide⟩,
    ⟨{ aRun with dev.mhi.mboxReady := true, dev.mhi.mboxBusy := false, dev.cove.tab := [(4095, aCoveRec)] }, 4095, [1], by decide⟩,
    ⟨{ aRun with dev.mhi.mboxReady := true, dev.mhi.mboxBusy := false, dev.pool.layout := { stage := 2048 }, dev.chart.inForce := some { defaultChart with pool.stage := 2048, template.floor := 1 } },
      4095, [1#8], by decide⟩,
    ⟨{ aRun with dev.mhi.mboxReady := true, dev.mhi.mboxBusy := false }, 4095, [1], by decide⟩,
    ⟨{ aRun with dev.mhi.mboxReady := true, dev.mhi.mboxBusy := false }, 4096, by decide⟩,
    ⟨{ aRun with dev.mhi.mboxReady := true, dev.mhi.mboxBusy := false, dev.cove.tab := [(0, aCoveRec)] }, 0, aCoveRec, by decide⟩,
    ⟨{ aRun with dev.mhi.mboxReady := true, dev.mhi.mboxBusy := false, dev.cove.tab := [(4096, { aCoveRec with state := CoveState.resetting })] },
      4096, { aCoveRec with state := CoveState.resetting }, by decide⟩,
    ⟨{ aRun with dev.mhi.mboxReady := true, dev.mhi.mboxBusy := false, dev.cove.tab := [(4096, aCoveRec)] }, 4096, aCoveRec, by
      decide⟩,
    ⟨{ aRun with dev.mhi.mboxReady := true, dev.mhi.mboxBusy := false }, 4294967296, aBinding, by decide⟩,
    ⟨{ aRun with dev.mhi.mboxReady := true, dev.mhi.mboxBusy := false }, 16383, aBinding, by decide⟩,
    ⟨{ aRun with dev.mhi.mboxReady := true, dev.mhi.mboxBusy := false, dev.cove.tab := [(1, aCoveRec)], dev.cove.bindings := [(5, aBinding)] },
      16383, { aBinding with valid := true }, by decide⟩,
    ⟨{ aRun with dev.mhi.mboxReady := true, dev.mhi.mboxBusy := false, dev.cove.tab := [(1, aCoveRec)] }, 16383, aBinding, by
      decide⟩,
    ⟨{ aRun with dev.mhi.mboxReady := true, dev.mhi.mboxBusy := false }, 16385, by decide⟩,
    ⟨{ aRun with dev.mhi.mboxReady := true, dev.mhi.mboxBusy := false }, 16383, by decide⟩,
    ⟨{ aRun with dev.mhi.mboxReady := true, dev.mhi.mboxBusy := false, dev.cove.bindings := [(16383, aBinding)] }, 16383, by
      decide⟩,
    ⟨{ aRun with dev.cove.tab := [(4096, aCoveRec)] }, 4096, aCoveRec, by decide⟩,
    ⟨{ aRun with dev.cove.tab := [(4096, { aCoveRec with state := CoveState.deleting })], dev.host.waits := [{ cntlid := 0, cid := 0, kind := 7, subject := 4096 }] },
      4096, { aCoveRec with state := CoveState.deleting }, by decide⟩,
    ⟨{ aRun with dev.cove.tab := [(4096, { aCoveRec with state := CoveState.deleting })] }, 4096,
      { aCoveRec with state := CoveState.deleting }, by decide⟩⟩

/-- The hypotheses of `Obligations.CovesFreeze` can be met. -/
theorem witness_CovesFreeze :
    (∃ (s : State) (c : ℕ) (n : ℕ) (k : Ctrl) (r : CoveRec) (v : Reg), c < 4096 ∧ coveOf s.dev c = some r ∧ blocksOpen s.dev = true
      ∧ n ≠ 0 ∧ ctrlOf s.dev n = some k ∧ k.enabled = true ∧ k.ended = false ∧ (BitVec.getLsbD v 0 = true ∨ BitVec.getLsbD v 3 =
      true ∨ BitVec.getLsbD v 4 = true))
    ∧ (∃ (s : State) (c : ℕ) (n : ℕ) (k : Ctrl) (r : CoveRec), c < 4096 ∧ coveOf s.dev c = some r ∧ blocksOpen s.dev = true ∧ n ≠ 0
      ∧ ctrlOf s.dev n = some k ∧ k.enabled = true ∧ k.ended = false ∧ k.cove ≠ 0 ∧ (r.state ≠ CoveState.active ∨ r.freezing = none
      ∨ coveLive s.dev c ≠ 0))
    ∧ (∃ (s : State) (c : ℕ) (n : ℕ) (k : Ctrl) (r : CoveRec), c < 4096 ∧ coveOf s.dev c = some r ∧ blocksOpen s.dev = true ∧ n ≠ 0
      ∧ ctrlOf s.dev n = some k ∧ k.enabled = true ∧ k.ended = false ∧ k.cove = 0 ∧ r.state = CoveState.active ∧ r.freezing = none
      ∧ (r.state = CoveState.active ∨ r.state = CoveState.frozen))
    ∧ (∃ (s : State) (c : ℕ) (n : ℕ) (k : Ctrl) (r : CoveRec), c < 4096 ∧ coveOf s.dev c = some r ∧ blocksOpen s.dev = true ∧ n ≠ 0
      ∧ ctrlOf s.dev n = some k ∧ k.enabled = true ∧ k.ended = false ∧ k.cove = 0 ∧ r.state = CoveState.active ∧ r.freezing.isSome
      = true)
    ∧ (∃ (s : State) (c : ℕ) (n : ℕ) (k : Ctrl) (r : CoveRec), c < 4096 ∧ coveOf s.dev c = some r ∧ blocksOpen s.dev = true ∧ n ≠ 0
      ∧ ctrlOf s.dev n = some k ∧ k.enabled = true ∧ k.ended = false ∧ k.cove = 0 ∧ r.state = CoveState.frozen)
    ∧ (∃ (s : State) (c : ℕ) (n : ℕ) (k : Ctrl) (r : CoveRec), c < 4096 ∧ coveOf s.dev c = some r ∧ blocksOpen s.dev = true ∧ n ≠ 0
      ∧ ctrlOf s.dev n = some k ∧ k.enabled = true ∧ k.ended = false ∧ k.cove = 0 ∧ (r.state = CoveState.resetting ∨ r.state =
      CoveState.deleting))
    ∧ (∃ (s : State) (c : ℕ) (n : ℕ) (k : Ctrl) (r : CoveRec) (z : ℕ), c < 4096 ∧ coveOf s.dev c = some r ∧ blocksOpen s.dev = true
      ∧ n ≠ 0 ∧ ctrlOf s.dev n = some k ∧ k.enabled = true ∧ k.ended = false ∧ r.state = CoveState.active ∧ r.freezing = some z ∧
      coveLive s.dev c = 0 ∧ r.resetWaits = none)
    ∧ (∃ (s : State) (c : ℕ) (n : ℕ) (k : Ctrl) (r : CoveRec), c < 4096 ∧ coveOf s.dev c = some r ∧ blocksOpen s.dev = true ∧ n ≠ 0
      ∧ ctrlOf s.dev n = some k ∧ k.enabled = true ∧ k.ended = false ∧ r.state = CoveState.active ∧ r.freezing = none ∧
      r.resetWaits = none ∧ r.exporting = false ∧ (s.dev.host.waits.any fun (w : AdminWait) => w.kind == 6 && w.subject == c) =
      false) := by
  exact ⟨⟨{ aRun with dev.cove.tab := [(4095, aCoveRec)], dev.host.ctrls := [(4097, { aCtrl with enabled := true })] }, 4095, 4097,
      { aCtrl with enabled := true }, aCoveRec, 1, by decide⟩,
    ⟨{ aRun with dev.cove.tab := [(4095, aCoveRec)], dev.host.ctrls := [(4097, { aCtrl with enabled := true })] }, 4095, 4097,
      { aCtrl with enabled := true }, aCoveRec, by decide⟩,
    ⟨{ aRun with dev.cove.tab := [(4095, { aCoveRec with state := CoveState.active })], dev.host.ctrls := [(4097, { aCtrl with enabled := true, cove := 0 })] },
      4095, 4097, { aCtrl with enabled := true, cove := 0 }, { aCoveRec with state := CoveState.active }, by decide⟩,
    ⟨{ aRun with dev.cove.tab := [(4095, { aCoveRec with state := CoveState.active, freezing := some 0 })], dev.host.ctrls := [(4097, { aCtrl with enabled := true, cove := 0 })] },
      4095, 4097, { aCtrl with enabled := true, cove := 0 }, { aCoveRec with state := CoveState.active, freezing := some 0 }, by
      decide⟩,
    ⟨{ aRun with dev.cove.tab := [(4095, { aCoveRec with state := CoveState.frozen })], dev.host.ctrls := [(4097, { aCtrl with enabled := true, cove := 0 })] },
      4095, 4097, { aCtrl with enabled := true, cove := 0 }, { aCoveRec with state := CoveState.frozen }, by decide⟩,
    ⟨{ aRun with dev.cove.tab := [(4095, { aCoveRec with state := CoveState.resetting })], dev.host.ctrls := [(4097, { aCtrl with enabled := true, cove := 0 })] },
      4095, 4097, { aCtrl with enabled := true, cove := 0 }, { aCoveRec with state := CoveState.resetting }, by decide⟩,
    ⟨{ aRun with dev.cove.tab := [(4095, { aCoveRec with state := CoveState.active, freezing := some 4097 })], dev.host.ctrls := [(4097, { aCtrl with enabled := true })] },
      4095, 4097, { aCtrl with enabled := true }, { aCoveRec with state := CoveState.active, freezing := some 4097 }, 4097, by
      decide⟩,
    ⟨{ aRun with dev.cove.tab := [(4095, { aCoveRec with state := CoveState.active })], dev.host.ctrls := [(4097, { aCtrl with enabled := true })] },
      4095, 4097, { aCtrl with enabled := true }, { aCoveRec with state := CoveState.active }, by decide⟩⟩

/-- The hypotheses of `Obligations.CovesReset` can be met. -/
theorem witness_CovesReset :
    (∃ (s : State) (c : ℕ) (n : ℕ) (k : Ctrl) (r : CoveRec), c < 4096 ∧ coveOf s.dev c = some r ∧ blocksOpen s.dev = true ∧ n ≠ 0 ∧
      ctrlOf s.dev n = some k ∧ k.enabled = true ∧ k.ended = false ∧ r.state = CoveState.active ∧ r.freezing = none)
    ∧ (∃ (s : State) (c : ℕ) (n : ℕ) (k : Ctrl) (r : CoveRec), c < 4096 ∧ coveOf s.dev c = some r ∧ blocksOpen s.dev = true ∧ n ≠ 0
      ∧ ctrlOf s.dev n = some k ∧ k.enabled = true ∧ k.ended = false ∧ r.state = CoveState.frozen)
    ∧ (∃ (s : State) (c : ℕ) (n : ℕ) (k : Ctrl) (r : CoveRec) (v : Reg), c < 4096 ∧ coveOf s.dev c = some r ∧ blocksOpen s.dev =
      true ∧ n ≠ 0 ∧ ctrlOf s.dev n = some k ∧ k.enabled = true ∧ k.ended = false ∧ (BitVec.getLsbD v 2 = true ∨ BitVec.getLsbD v 3
      = true ∨ BitVec.getLsbD v 4 = true))
    ∧ (∃ (s : State) (c : ℕ) (n : ℕ) (k : Ctrl) (r : CoveRec), c < 4096 ∧ coveOf s.dev c = some r ∧ blocksOpen s.dev = true ∧ n ≠ 0
      ∧ ctrlOf s.dev n = some k ∧ k.enabled = true ∧ k.ended = false ∧ (k.cove ≠ 0 ∨ c = 0) ∧ (r.state ≠ CoveState.resetting ∨
      r.squashed = true ∨ (List.any s.dev.adm.cmds fun (e : ℕ × Cmd) => e.2.cove == c && isWrite e.2.kind && !e.2.completed) =
      true) ∧ (r.state ≠ CoveState.resetting ∨ r.squashed = false ∨ coveInflight s.dev c ≠ 0))
    ∧ (∃ (s : State) (c : ℕ) (n : ℕ) (k : Ctrl) (r : CoveRec), c < 4096 ∧ coveOf s.dev c = some r ∧ blocksOpen s.dev = true ∧ n ≠ 0
      ∧ ctrlOf s.dev n = some k ∧ k.enabled = true ∧ k.ended = false ∧ k.cove = 0 ∧ c ≠ 0 ∧ (r.state = CoveState.frozen ∨ r.state =
      CoveState.active ∧ r.freezing = none))
    ∧ (∃ (s : State) (c : ℕ) (n : ℕ) (k : Ctrl) (r : CoveRec), c < 4096 ∧ coveOf s.dev c = some r ∧ blocksOpen s.dev = true ∧ n ≠ 0
      ∧ ctrlOf s.dev n = some k ∧ k.enabled = true ∧ k.ended = false ∧ k.cove = 0 ∧ c ≠ 0 ∧ r.state = CoveState.active ∧
      r.freezing.isSome = true)
    ∧ (∃ (s : State) (c : ℕ) (n : ℕ) (k : Ctrl) (r : CoveRec), c < 4096 ∧ coveOf s.dev c = some r ∧ blocksOpen s.dev = true ∧ n ≠ 0
      ∧ ctrlOf s.dev n = some k ∧ k.enabled = true ∧ k.ended = false ∧ k.cove = 0 ∧ c ≠ 0 ∧ (r.state = CoveState.resetting ∨
      r.state = CoveState.deleting))
    ∧ (∃ (s : State) (c : ℕ) (n : ℕ) (k : Ctrl) (r : CoveRec), c < 4096 ∧ coveOf s.dev c = some r ∧ blocksOpen s.dev = true ∧ n ≠ 0
      ∧ ctrlOf s.dev n = some k ∧ k.enabled = true ∧ k.ended = false ∧ r.state = CoveState.resetting ∧ r.squashed = false ∧
      (List.any s.dev.adm.cmds fun (e : ℕ × Cmd) => e.2.cove == c && isWrite e.2.kind && !e.2.completed) = false ∧ r.resetEnds =
      true)
    ∧ (∃ (s : State) (c : ℕ) (n : ℕ) (k : Ctrl) (r : CoveRec), c < 4096 ∧ coveOf s.dev c = some r ∧ blocksOpen s.dev = true ∧ n ≠ 0
      ∧ ctrlOf s.dev n = some k ∧ k.enabled = true ∧ k.ended = false ∧ r.state = CoveState.resetting ∧ r.squashed = false ∧
      (List.any s.dev.adm.cmds fun (e : ℕ × Cmd) => e.2.cove == c && isWrite e.2.kind && !e.2.completed) = false ∧ r.resetEnds =
      false ∧ allSqs s.dev = [] ∧ s.dev.adm.cmds = [])
    ∧ (∃ (s : State) (c : ℕ) (n : ℕ) (k : Ctrl) (r : CoveRec) (t : ℕ) (x : Cmd), c < 4096 ∧ coveOf s.dev c = some r ∧ blocksOpen
      s.dev = true ∧ n ≠ 0 ∧ ctrlOf s.dev n = some k ∧ k.enabled = true ∧ k.ended = false ∧ r.state = CoveState.resetting ∧
      r.squashed = false ∧ s.dev.adm.cmds = [(t, x)] ∧ x.cove = c ∧ isRead x.kind = true ∧ isWrite x.kind = false ∧ x.completed =
      false ∧ r.resetEnds = false ∧ allSqs (resetRead t x s.dev) = [])
    ∧ (∃ (s : State) (c : ℕ) (n : ℕ) (k : Ctrl) (r : CoveRec), c < 4096 ∧ coveOf s.dev c = some r ∧ blocksOpen s.dev = true ∧ n ≠ 0
      ∧ ctrlOf s.dev n = some k ∧ k.enabled = true ∧ k.ended = false ∧ r.state = CoveState.resetting ∧ r.squashed = true ∧
      coveInflight s.dev c = 0 ∧ ((answerWaits 4 c ok (mirrorCove c (logCove c (32768 + c) 1 0 (payload c 0 r.gen 0) (raiseCove c 0
      (coveCount c 15 1 (modCove c (fun x => { x with state := if x.resetToFrozen then .frozen else .active, squashed := false })
      s.dev)))))).host.waits.any fun (w : AdminWait) => w.kind == 7 && w.subject == c) = true)
    ∧ (∃ (s : State) (c : ℕ) (n : ℕ) (k : Ctrl) (r : CoveRec), c < 4096 ∧ coveOf s.dev c = some r ∧ blocksOpen s.dev = true ∧ n ≠ 0
      ∧ ctrlOf s.dev n = some k ∧ k.enabled = true ∧ k.ended = false ∧ r.state = CoveState.resetting ∧ r.squashed = true ∧
      coveInflight s.dev c = 0 ∧ ((answerWaits 4 c ok (mirrorCove c (logCove c (32768 + c) 1 0 (payload c 0 r.gen 0) (raiseCove c 0
      (coveCount c 15 1 (modCove c (fun x => { x with state := if x.resetToFrozen then .frozen else .active, squashed := false })
      s.dev)))))).host.waits.any fun (w : AdminWait) => w.kind == 7 && w.subject == c) = false) := by
  exact ⟨⟨{ aRun with dev.cove.tab := [(4095, { aCoveRec with state := CoveState.active })], dev.host.ctrls := [(4097, { aCtrl with enabled := true })] },
      4095, 4097, { aCtrl with enabled := true }, { aCoveRec with state := CoveState.active }, by decide⟩,
    ⟨{ aRun with dev.cove.tab := [(4095, { aCoveRec with state := CoveState.frozen })], dev.host.ctrls := [(4097, { aCtrl with enabled := true })] },
      4095, 4097, { aCtrl with enabled := true }, { aCoveRec with state := CoveState.frozen }, by decide⟩,
    ⟨{ aRun with dev.cove.tab := [(4095, aCoveRec)], dev.host.ctrls := [(4097, { aCtrl with enabled := true })] }, 4095, 4097,
      { aCtrl with enabled := true }, aCoveRec, 4, by decide⟩,
    ⟨{ aRun with dev.cove.tab := [(4095, aCoveRec)], dev.host.ctrls := [(4097, { aCtrl with enabled := true })] }, 4095, 4097,
      { aCtrl with enabled := true }, aCoveRec, by decide⟩,
    ⟨{ aRun with dev.cove.tab := [(4095, { aCoveRec with state := CoveState.frozen })], dev.host.ctrls := [(4097, { aCtrl with enabled := true, cove := 0 })] },
      4095, 4097, { aCtrl with enabled := true, cove := 0 }, { aCoveRec with state := CoveState.frozen }, by decide⟩,
    ⟨{ aRun with dev.cove.tab := [(4095, { aCoveRec with state := CoveState.active, freezing := some 0 })], dev.host.ctrls := [(4097, { aCtrl with enabled := true, cove := 0 })] },
      4095, 4097, { aCtrl with enabled := true, cove := 0 }, { aCoveRec with state := CoveState.active, freezing := some 0 }, by
      decide⟩,
    ⟨{ aRun with dev.cove.tab := [(4095, { aCoveRec with state := CoveState.resetting })], dev.host.ctrls := [(4097, { aCtrl with enabled := true, cove := 0 })] },
      4095, 4097, { aCtrl with enabled := true, cove := 0 }, { aCoveRec with state := CoveState.resetting }, by decide⟩,
    ⟨{ aRun with dev.cove.tab := [(4095, { aCoveRec with state := CoveState.resetting, resetEnds := true })], dev.host.ctrls := [(4097, { aCtrl with enabled := true })] },
      4095, 4097, { aCtrl with enabled := true }, { aCoveRec with state := CoveState.resetting, resetEnds := true }, by decide⟩,
    ⟨{ aRun with dev.adm.cmds := [], dev.cove.tab := [(4095, { aCoveRec with state := CoveState.resetting })], dev.host.ctrls := [(4097, { aCtrl with enabled := true })] },
      4095, 4097, { aCtrl with enabled := true }, { aCoveRec with state := CoveState.resetting }, by decide⟩,
    ⟨{ aRun with dev.adm.cmds := [(4097, { aCmd with cove := 4095, kind := .read })], dev.cove.tab := [(4095, { aCoveRec with state := CoveState.resetting })], dev.host.ctrls := [(4097, { aCtrl with enabled := true })] },
      4095, 4097, { aCtrl with enabled := true }, { aCoveRec with state := CoveState.resetting }, 4097,
      { aCmd with cove := 4095, kind := .read }, by decide⟩,
    ⟨{ aRun with dev.cove.tab := [(4095, { aCoveRec with state := CoveState.resetting, squashed := true })], dev.host.ctrls := [(4097, { aCtrl with enabled := true })], dev.host.waits := [{ cntlid := 0, cid := 0, kind := 7, subject := 4095 }] },
      4095, 4097, { aCtrl with enabled := true }, { aCoveRec with state := CoveState.resetting, squashed := true }, by decide⟩,
    ⟨{ aRun with dev.cove.tab := [(4095, { aCoveRec with state := CoveState.resetting, squashed := true })], dev.host.ctrls := [(4097, { aCtrl with enabled := true })] },
      4095, 4097, { aCtrl with enabled := true }, { aCoveRec with state := CoveState.resetting, squashed := true }, by decide⟩⟩

/-- The hypotheses of `Obligations.DataPort` can be met. -/
theorem witness_DataPort :
    (∃ (s : State) (x : ℕ) (y : ℕ) (r : List ℕ) (n : ℕ), blocksRead s.dev = true ∧ s.dev.mhi.dpUnit = DpUnit.reading (x :: y :: r)
      n)
    ∧ (∃ (s : State) (x : ℕ) (n : ℕ), blocksRead s.dev = true ∧ s.dev.mhi.dpUnit = DpUnit.reading [x] n ∧ s.dev.mhi.dpAutoInc =
      false)
    ∧ (∃ (s : State) (g : List ℕ), blocksRead s.dev = true ∧ s.dev.mhi.dpUnit = DpUnit.writing g ∧ 4 * (g.length + 1) < dpSizeBytes
      s.dev)
    ∧ (∃ (s : State), blocksRead s.dev = true ∧ s.dev.mhi.dpUnit = DpUnit.none ∧ s.dev.mhi.dpSize = 0 ∧ s.dev.mhi.dpAutoInc = false
      ∧ s.dev.mhi.dpAddr % 4 = 0 ∧ firstCode (writeCode s.dev) s.dev.mhi.dpAddr 4 ≠ 0)
    ∧ (∃ (s : State), blocksRead s.dev = true ∧ s.dev.mhi.dpUnit = DpUnit.none ∧ s.dev.mhi.dpSize = 0 ∧ s.dev.mhi.dpAutoInc = false
      ∧ s.dev.mhi.dpAddr % 4 ≠ 0)
    ∧ (∃ (s : State) (off : ℕ) (len : ℕ), blocksRead s.dev = true ∧ off + len ≤ 65536 ∧ s.dev.mhi.dpAddr % 64 = 0 ∧
      s.dev.mhi.dpAddr + 65536 ≤ 2 ^ 64 ∧ firstCode (readCode s.dev) (s.dev.mhi.dpAddr + off) len = 0 ∧ bufferHolds
      s.dev.mhi.dpBuffer (s.dev.mhi.dpAddr + off) len = true)
    ∧ (∃ (s : State) (off : ℕ) (len : ℕ), blocksRead s.dev = true ∧ off + len ≤ 65536 ∧ s.dev.mhi.dpAddr % 64 = 0 ∧
      s.dev.mhi.dpAddr + 65536 ≤ 2 ^ 64 ∧ firstCode (readCode s.dev) (s.dev.mhi.dpAddr + off) len = 0 ∧ bufferHolds
      s.dev.mhi.dpBuffer (s.dev.mhi.dpAddr + off) len = false)
    ∧ (∃ (s : State) (off : ℕ) (len : ℕ), blocksRead s.dev = true ∧ off + len ≤ 65536 ∧ s.dev.mhi.dpAddr % 64 = 0 ∧
      s.dev.mhi.dpAddr + 65536 ≤ 2 ^ 64 ∧ firstCode (readCode s.dev) (s.dev.mhi.dpAddr + off) len ≠ 0)
    ∧ (∃ (s : State) (off : ℕ) (len : ℕ) (bytes : List Byte), blocksRead s.dev = true ∧ off + len ≤ 65536 ∧ s.dev.mhi.dpAddr % 64 =
      0 ∧ s.dev.mhi.dpAddr + 65536 ≤ 2 ^ 64 ∧ bytes.length = len ∧ len ≠ 0 ∧ firstCode (writeCode s.dev) (s.dev.mhi.dpAddr + off)
      len = 0)
    ∧ (∃ (s : State) (off : ℕ) (len : ℕ) (bytes : List Byte), blocksRead s.dev = true ∧ off + len ≤ 65536 ∧ s.dev.mhi.dpAddr % 64 =
      0 ∧ s.dev.mhi.dpAddr + 65536 ≤ 2 ^ 64 ∧ bytes.length = len ∧ len ≠ 0 ∧ firstCode (writeCode s.dev) (s.dev.mhi.dpAddr + off)
      len ≠ 0)
    ∧ (∃ (s : State) (t : State) (v : Reg) (a : ℕ), MemOk s ∧ blocksRead s.dev = true ∧ s.dev.mhi.dpUnit = DpUnit.none ∧
      s.dev.mhi.dpSize = 0 ∧ s.dev.mhi.dpAutoInc = false ∧ s.dev.mhi.dpAddr % 4 = 0 ∧ 274877906944 ≤ s.dev.mhi.dpAddr ∧
      s.dev.mhi.dpAddr < 274882101248 ∧ s.dev.chart.state = ChartState.idle ∧ exec (Instr.dpDataWrite v) s = Host.Outcome.next t ∧
      (a < s.dev.mhi.dpAddr ∨ s.dev.mhi.dpAddr + 4 ≤ a)) := by
  exact ⟨⟨{ aRun with dev.mhi.dpUnit := DpUnit.reading (4096 :: 4096 :: []) 4096 }, 4096, 4096, [], 4096, by decide⟩,
    ⟨{ aRun with dev.mhi.dpUnit := DpUnit.reading [4096] 4096 }, 4096, 4096, by decide⟩,
    ⟨{ aRun with dev.mhi.dpUnit := DpUnit.writing [], dev.mhi.dpSize := 1 }, [], by decide⟩,
    ⟨aRun, by decide⟩,
    ⟨{ aRun with dev.mhi.dpAddr := 1 }, by decide⟩,
    ⟨{ aRun with dev.mhi.dpAddr := 0x4000000000, dev.mhi.dpBuffer := some (0x4000000000, [1, 2, 3]) }, 2, 1, by decide⟩,
    ⟨aRun, 65536, 0, by decide⟩,
    ⟨aRun, 65535, 1, by decide⟩,
    ⟨{ aRun with dev.mhi.dpAddr := 0x4000000000 }, 65535, 1, [1#8], by decide⟩,
    ⟨aRun, 65535, 1, [1], by decide⟩,
    ⟨{ aRun with dev.mhi.dpAddr := 274877906944 }, _, 1, 0, rfl, by decide, by decide, by decide, by decide, by decide, by decide,
      by decide, by decide, rfl, by decide⟩⟩

/-- The hypotheses of `Obligations.DrivesAndUpkeep` can be met. -/
theorem witness_DrivesAndUpkeep :
    (∃ (s : State) (p : DriveProbe), rootPort s.dev p.bay = false)
    ∧ (∃ (s : State) (p : DriveProbe), rootPort s.dev p.bay = true ∧ driveMeets p = false)
    ∧ (∃ (s : State) (p : DriveProbe), rootPort s.dev p.bay = true ∧ driveMeets p = true ∧ (chartOf s.dev).spareBays.getLsbD p.bay
      = true ∧ rosterOfBay s.dev p.bay = none ∧ p.ext64 = true)
    ∧ (∃ (s : State) (p : DriveProbe) (sh : ℕ) (pos : ℕ) (e : RosterEntry), rootPort s.dev p.bay = true ∧ driveMeets p = true ∧
      rosterOfBay s.dev p.bay = some (sh, pos) ∧ tget (labelOf s.dev sh).roster pos = some e ∧ List.isEmpty (labelOf s.dev
      sh).roster = false ∧ (curGeom s.dev sh).metaMode = 0 ∧ p.ext64 = false)
    ∧ (∃ (s : State) (p : DriveProbe) (sh : ℕ) (pos : ℕ) (e : RosterEntry), rootPort s.dev p.bay = true ∧ driveMeets p = true ∧
      rosterOfBay s.dev p.bay = some (sh, pos) ∧ tget (labelOf s.dev sh).roster pos = some e ∧ List.isEmpty (labelOf s.dev
      sh).roster = false ∧ p.ext64 = true ∧ tooSmall s.dev sh p.capacity = true)
    ∧ (∃ (s : State) (p : DriveProbe) (sh : ℕ) (pos : ℕ) (e : RosterEntry), rootPort s.dev p.bay = true ∧ driveMeets p = true ∧
      rosterOfBay s.dev p.bay = some (sh, pos) ∧ tget (labelOf s.dev sh).roster pos = some e ∧ List.isEmpty (labelOf s.dev
      sh).roster = false ∧ p.ext64 = true ∧ tooSmall s.dev sh p.capacity = false ∧ e.state ≠ MemberState.failed ∧ e.serial =
      p.serial ∧ Option.map (fun (x : LabelId) => (x.serial, x.labelGen)) p.label = some (e.serial, e.labelGen))
    ∧ (∃ (s : State) (p : DriveProbe) (sh : ℕ) (pos : ℕ) (e : RosterEntry), rootPort s.dev p.bay = true ∧ driveMeets p = true ∧
      rosterOfBay s.dev p.bay = some (sh, pos) ∧ tget (labelOf s.dev sh).roster pos = some e ∧ List.isEmpty (labelOf s.dev
      sh).roster = false ∧ p.ext64 = true ∧ tooSmall s.dev sh p.capacity = false ∧ (e.state = MemberState.failed ∨ p.label = none))
    ∧ (∃ (s : State) (sh : ℕ) (pos : ℕ) (e : RosterEntry), tget (labelOf s.dev sh).roster pos = some e ∧ e.state =
      MemberState.absent ∧ pos < 32)
    ∧ (∃ (s : State) (b : ℕ) (v : Drive) (sh : ℕ) (pos : ℕ), tget s.dev.shelf.drives b = some v ∧ v.formatting = true ∧ rosterOfBay
      s.dev b = some (sh, pos))
    ∧ (∃ (s : State) (b : ℕ) (v : Drive), tget s.dev.shelf.drives b = some v ∧ v.formatting = true ∧ shoalOfBay s.dev b = none)
    ∧ (∃ (s : State) (b : ℕ) (v : Drive), tget s.dev.shelf.drives b = some v ∧ v.formatting = false)
    ∧ (∃ (s : State) (m : ℕ) (c : MemberCmd), tget s.dev.shelf.cmds m = some c ∧ c.again = false ∧ c.phase = MemberPhase.issued)
    ∧ (∃ (s : State) (m : ℕ) (c : MemberCmd), tget s.dev.shelf.cmds m = some c ∧ c.again = false ∧ c.phase ≠ MemberPhase.issued)
    ∧ (∃ (s : State) (m : ℕ) (c : MemberCmd), tget s.dev.shelf.cmds m = some c ∧ c.again = true)
    ∧ (∃ (s : State) (m : ℕ) (c : MemberCmd), tget s.dev.shelf.cmds m = some c ∧ c.phase ≠ MemberPhase.aborting)
    ∧ (∃ (s : State) (sh : ℕ) (pos : ℕ), (sh, pos) ∈ s.dev.shelf.foldWaits ∧ (labelOf s.dev sh).resync.length < 3)
    ∧ (∃ (s : State) (sh : ℕ) (pos : ℕ), (sh, pos) ∉ s.dev.shelf.foldWaits)
    ∧ (∃ (s : State) (sh : ℕ), 3 ≤ (labelOf s.dev sh).resync.length)
    ∧ (∃ (s : State) (sh : ℕ) (row : ℕ) (t : Stripe), rowAt s.dev sh row = some t ∧ t.life ≠ StripeLife.writing ∧ (stripeGeom s.dev
      t).parity - 1 < (undurable s.dev t).length)
    ∧ (∃ (s : State) (sh : ℕ) (row : ℕ) (t : Stripe), rowAt s.dev sh row = some t ∧ t.life = StripeLife.writing)
    ∧ (∃ (s : State) (sh : ℕ), sh ∈ s.dev.shelf.labelDirty)
    ∧ (∃ (s : State) (sh : ℕ), sh ∉ s.dev.shelf.labelDirty ∧ (labelWriting (labelsWritten sh s.dev) fun (x : ℕ) => x == sh) = false
      ∧ (labelsWritten sh s.dev).shelf.labelWaits = [])
    ∧ (∃ (s : State) (sh : ℕ), (labelWriting (labelsWritten sh s.dev) fun (x : ℕ) => x == sh) = true)
    ∧ (∃ (s : State) (sh : ℕ) (r : ℕ), (labelWriting (labelsWritten sh s.dev) fun (x : ℕ) => x == sh) = false ∧ (labelsWritten sh
      s.dev).shelf.labelWaits = [LabelWait.issue sh r])
    ∧ (∃ (s : State) (sh : ℕ) (m : ℕ) (b : Bool) (l : LabelCopy) (c : MemberCmd), s.dev.shelf.cmds = [(m, c)] ∧ c.op =
      MemberOp.labelWrite b l ∧ l.shoal = sh ∧ c.phase = MemberPhase.issued ∧ s.dev.shelf.labelAgain = [])
    ∧ (∃ (s : State) (sh : ℕ), thas s.dev.shelf.labels sh = true)
    ∧ (∃ (s : State) (m : ℕ) (c : MemberCmd), tget s.dev.shelf.cmds m = some c ∧ c.phase = MemberPhase.aborting ∧ s.dev.shelf.cmds
      = [(m, c)] ∧ c.op ≠ MemberOp.resetController ∧ (∀ (k : ℕ), c.op ≠ MemberOp.abort k)) := by
  exact ⟨⟨{ aRun with dev.chart.inForce := some { defaultChart with laneMode := 1 } }, { aDriveProbe with bay := 16 }, by decide⟩,
    ⟨aRun, { aDriveProbe with mdts := 131071 }, by decide⟩,
    ⟨{ aRun with dev.chart.inForce := some { defaultChart with spareBays := 0x80000000 } },
      { aDriveProbe with ext64 := true, bay := 31 }, by decide⟩,
    ⟨{ aRun with dev.shelf.labels := [(0, { roster := [(4096, { aRosterEntry with state := .failed })] })] },
      { aDriveProbe with ext64 := false, capacity := 1000000000000 }, 0, 4096, { aRosterEntry with state := .failed }, by decide⟩,
    ⟨{ aRun with dev.shelf.labels := [(0, { roster := [(4096, aRosterEntry)] })] }, { aDriveProbe with ext64 := true }, 0, 4096,
      aRosterEntry, by decide⟩,
    ⟨{ aRun with dev.shelf.labels := [(0, { roster := [(0, { aRosterEntry with serial := 1, state := .online })] })] },
      { aDriveProbe with ext64 := true, capacity := 1000000000000, serial := 1, label := some { shelfId := 0, shoal := 0, position := 0, bay := 0, serial := 1, labelGen := 0 } },
      0, 0, { aRosterEntry with serial := 1, state := .online }, by decide⟩,
    ⟨{ aRun with dev.shelf.labels := [(0, { roster := [(0, { aRosterEntry with state := .failed, serial := 1 })] })] },
      { aDriveProbe with ext64 := true, capacity := 1000000000000, serial := 1, label := some { shelfId := 0, shoal := 0, position := 0, bay := 0, serial := 1, labelGen := 0 } },
      0, 0, { aRosterEntry with state := .failed, serial := 1 }, by decide⟩,
    ⟨{ aRun with dev.shelf.labels := [(0, { roster := [(31, { aRosterEntry with state := .absent, serial := 1 })] })] }, 0, 31,
      { aRosterEntry with state := .absent, serial := 1 }, by decide⟩,
    ⟨{ aRun with dev.shelf.drives := [(0, { aDrive with formatting := true })], dev.shelf.labels := [(0, { roster := [(0, { bay := 0, state := .online, serial := 1 })] })] },
      0, { aDrive with formatting := true }, 0, 0, by decide⟩,
    ⟨{ aRun with dev.shelf.drives := [(4096, { aDrive with formatting := true })] }, 4096, { aDrive with formatting := true }, by
      decide⟩,
    ⟨{ aRun with dev.shelf.drives := [(4096, (aDrive : Drive))] }, 4096, aDrive, by decide⟩,
    ⟨{ aRun with dev.shelf.cmds := [(4095, { aMemberCmd with phase := .issued })] }, 4095, { aMemberCmd with phase := .issued }, by
      decide⟩,
    ⟨{ aRun with dev.shelf.cmds := [(4095, { aMemberCmd with phase := .aborting })] }, 4095,
      { aMemberCmd with phase := .aborting }, by decide⟩,
    ⟨{ aRun with dev.shelf.cmds := [(4096, { aMemberCmd with again := true })] }, 4096, { aMemberCmd with again := true }, by
      decide⟩,
    ⟨{ aRun with dev.shelf.cmds := [(4096, aMemberCmd)] }, 4096, aMemberCmd, by decide⟩,
    ⟨{ aRun with dev.shelf.foldWaits := [(4096, 4096)] }, 4096, 4096, by decide⟩,
    ⟨{ aRun with dev.shelf.labels := [(4096, {})] }, 4096, 4096, by decide⟩,
    ⟨{ aRun with dev.shelf.labels := [(4096, { resync := [aResync, aResync, aResync] })] }, 4096, by decide⟩,
    ⟨{ aRun with dev.str.rows := [((rkey 4096 4096), aStripe)] }, 4096, 4096, aStripe, by decide⟩,
    ⟨{ aRun with dev.str.rows := [((rkey 4096 4096), { aStripe with life := StripeLife.writing })] }, 4096, 4096,
      { aStripe with life := StripeLife.writing }, by decide⟩,
    ⟨{ aRun with dev.shelf.labelDirty := [4096] }, 4096, by decide⟩,
    ⟨aRun, 4096, by decide⟩,
    ⟨{ aRun with dev.shelf.cmds := [(0, { aMemberCmd with bay := 1, op := .labelWrite false aLabelCopy, phase := .queued })] }, 0,
      by decide⟩,
    ⟨{ aRun with dev.shelf.cmds := [(0, { aMemberCmd with bay := 1, op := .labelWrite false aLabelCopy, phase := .issued })], dev.shelf.labelWaits := [.issue 0 5] },
      0, 5, by decide⟩,
    ⟨{ aRun with dev.shelf.cmds := [(4096, { aMemberCmd with op := MemberOp.labelWrite true ({ shoal := 0 }), phase := MemberPhase.issued })], dev.shelf.labelAgain := [] },
      0, 4096, true, ({ shoal := 0 }),
      { aMemberCmd with op := MemberOp.labelWrite true ({ shoal := 0 }), phase := MemberPhase.issued }, by decide⟩,
    ⟨{ aRun with dev.shelf.labels := [(4096, {})] }, 4096, by decide⟩,
    ⟨{ aRun with dev.shelf.cmds := [(4096, { aMemberCmd with phase := MemberPhase.aborting })] }, 4096,
      { aMemberCmd with phase := MemberPhase.aborting }, by decide, by decide, by decide, by decide, fun _ h => by cases h⟩⟩

/-- The hypotheses of `Obligations.EventsRecorded` can be met. -/
theorem witness_EventsRecorded :
    (∃ (d : Dev), (d.ev.nextEsn = none ∨ d.ev.pendingClear.isSome = true))
    ∧ (∃ (d : Dev) (r : EventRec) (n : ℕ), d.ev.nextEsn = some n ∧ d.ev.pendingClear = none ∧ d.ev.buffer.length < 4096 ∧
      d.ev.buffer.length + d.ev.slots.length < eventCapacity d ∧ r.cls ≠ 2 ∧ d.ev.buffer.length + 1 < 3072)
    ∧ (∃ (d : Dev) (r : EventRec) (n : ℕ), d.ev.nextEsn = some n ∧ d.ev.pendingClear = none ∧ d.ev.buffer.length < 4096 ∧
      d.ev.buffer.length + d.ev.slots.length < eventCapacity d ∧ (r.cls = 2 ∨ 3072 ≤ d.ev.buffer.length + 1))
    ∧ (∃ (d : Dev) (n : ℕ), d.ev.nextEsn = some n ∧ d.ev.pendingClear = none ∧ ¬(d.ev.buffer.length < 4096 ∧ d.ev.buffer.length +
      d.ev.slots.length < eventCapacity d))
    ∧ (∃ (d : Dev) (src : ℕ) (code : ℕ) (cls : ℕ), eventClass d src code cls = none)
    ∧ (∃ (d : Dev), d.ev.buffer.length ≤ 4096 ∧ d.ev.buffer.length + d.ev.slots.length ≤ eventCapacity d)
    ∧ (∃ (s : State) (v : Reg) (n : ℕ), blocksOpen s.dev = true ∧ BitVec.getLsbD v 1 = false ∧ s.dev.ev.nextEsn = some n)
    ∧ (∃ (s : State) (v : Reg), blocksOpen s.dev = true ∧ BitVec.getLsbD v 1 = false ∧ s.dev.ev.nextEsn = none)
    ∧ (∃ (s : State) (v : Reg), blocksOpen s.dev = true ∧ BitVec.getLsbD v 1 = true)
    ∧ (∃ (s : State) (v : Reg) (n : ℕ), blocksOpen s.dev = true ∧ BitVec.getLsbD v 0 = false ∧ BitVec.toNat v / 256 % 256 = 165 ∧
      s.dev.ev.nextEsn = some n)
    ∧ (∃ (s : State) (v : Reg), blocksOpen s.dev = true ∧ BitVec.getLsbD v 0 = false ∧ BitVec.toNat v / 256 % 256 = 165 ∧
      s.dev.ev.nextEsn = none)
    ∧ (∃ (s : State) (v : Reg), blocksOpen s.dev = true ∧ (BitVec.getLsbD v 0 = true ∨ BitVec.toNat v / 256 % 256 ≠ 165))
    ∧ (∃ (s : State) (n : ℕ) (q : ℕ), s.dev.ev.nextEsn = some n ∧ s.dev.ev.pendingClear = some q ∧ s.dev.ev.pendingFlush = false ∧
      s.dev.ev.waiting = [])
    ∧ (∃ (s : State), coreRuns s.dev = false)
    ∧ (∃ (s : State), coreRuns s.dev = true) := by
  exact ⟨⟨{ aRun.dev with ev.nextEsn := none }, by decide⟩,
    ⟨{ aRun.dev with ev.nextEsn := some 4097 }, aEventRec, 4097, by decide⟩,
    ⟨{ aRun.dev with ev.nextEsn := some 4097 }, { aEventRec with cls := 2 }, 4097, by decide⟩,
    ⟨{ aRun.dev with ev.nextEsn := some 4097, ev.pendingClear := none, pool.layout := { events := 0 } }, 4097, by decide⟩,
    ⟨{ aRun.dev with chart.inForce := some { defaultChart with events := [{ source := 4096, code := 4096, cls := 3 }] } }, 4096,
      4096, 4096, by decide⟩,
    ⟨(aRun.dev : Dev), by decide⟩,
    ⟨{ aRun with dev.ev.nextEsn := some 4096 }, 0, 4096, by decide⟩,
    ⟨{ aRun with dev.ev.nextEsn := none }, 0, by decide⟩,
    ⟨aRun, 2, by decide⟩,
    ⟨{ aRun with dev.ev.nextEsn := some 4096 }, 0xA500, 4096, by decide⟩,
    ⟨{ aRun with dev.ev.nextEsn := none }, 0xA500, by decide⟩,
    ⟨aRun, 0, by decide⟩,
    ⟨{ aRun with dev.ev.nextEsn := some 4096, dev.ev.pendingClear := some 4096 }, 4096, 4096, by decide⟩,
    ⟨(State.reset : State), by decide⟩,
    ⟨aRun, by decide⟩⟩

/-- The hypotheses of `Obligations.FabricAndGates` can be met. -/
theorem witness_FabricAndGates :
    (∃ (s : State) (port : ℕ) (g : PortGates) (l : GateList) (i : ℕ), tget s.dev.sched.gates port = some g ∧ g.list = some l ∧ i <
      l.entries.length)
    ∧ (∃ (s : State) (port : ℕ) (g : PortGates) (l : GateList) (i : ℕ), tget s.dev.sched.gates port = some g ∧ g.list = some l ∧
      l.entries.length ≤ i)
    ∧ (∃ (s : State) (port : ℕ) (g : PortGates) (l : Option GateList), tget s.dev.sched.gates port = some g ∧ g.waiting = some l ∧
      l ≠ g.list)
    ∧ (∃ (s : State) (port : ℕ) (g : PortGates) (l : Option GateList), tget s.dev.sched.gates port = some g ∧ g.waiting = some l ∧
      l = g.list)
    ∧ (∃ (s : State) (port : ℕ) (g : PortGates), tget s.dev.sched.gates port = some g ∧ g.waiting = none)
    ∧ (∃ (s : State) (p : ℕ) (b : ℕ), p ∈ s.dev.prism.planes ∧ 1 < s.dev.prism.planes.length ∧ b < 4096 ∧ (List.filter (fun (q : ℕ)
      => q != p) s.dev.prism.planes) ≠ [])
    ∧ (∃ (s : State) (p : ℕ), (p ∉ s.dev.prism.planes ∨ s.dev.prism.planes.length ≤ 1))
    ∧ (∃ (s : State), 4 ≤ liveEpochs s.dev)
    ∧ (∃ (s : State), liveEpochs s.dev < 4)
    ∧ (∃ (s : State) (v : Byte), blocksOpen s.dev = true ∧ BitVec.getLsbD v 0 = true ∧ captureRecords s.dev ≠ 0 ∧
      s.dev.prism.capture.enable = false)
    ∧ (∃ (s : State) (v : Byte), blocksOpen s.dev = true ∧ (BitVec.getLsbD v 0 = false ∨ captureRecords s.dev = 0))
    ∧ (∃ (s : State) (v : Byte), blocksOpen s.dev = true ∧ BitVec.getLsbD v 0 = true ∧ captureRecords s.dev ≠ 0 ∧
      s.dev.prism.capture.enable = true) := by
  exact ⟨⟨{ aRun with dev.sched.gates := [(4096, { aPortGates with list := some aGateList })] }, 4096,
      { aPortGates with list := some aGateList }, aGateList, 0, by decide⟩,
    ⟨{ aRun with dev.sched.gates := [(4096, { aPortGates with list := some aGateList })] }, 4096,
      { aPortGates with list := some aGateList }, aGateList, 4096, by decide⟩,
    ⟨{ aRun with dev.sched.gates := [(0, { aPortGates with waiting := some none, list := some { port := 0, cycleNs := 1000, baseS := 0, baseNs := 0, entries := [] } })] },
      0,
      { aPortGates with waiting := some none, list := some { port := 0, cycleNs := 1000, baseS := 0, baseNs := 0, entries := [] } },
      none, by decide⟩,
    ⟨{ aRun with dev.sched.gates := [(0, { aPortGates with waiting := some none })] }, 0, { aPortGates with waiting := some none },
      none, by decide⟩,
    ⟨{ aRun with dev.sched.gates := [(4096, (aPortGates : PortGates))] }, 4096, aPortGates, by decide⟩,
    ⟨aRun, 7, 4095, by decide⟩,
    ⟨aRun, 4096, by decide⟩,
    ⟨{ aRun with dev.prism.inflight := [1, 1, 1, 1] }, by decide⟩,
    ⟨aRun, by decide⟩,
    ⟨aRun, 1, by decide⟩,
    ⟨aRun, 0, by decide⟩,
    ⟨{ aRun with dev.prism.capture.enable := true }, 1, by decide⟩⟩

/-- The hypotheses of `Obligations.Features` can be met. -/
theorem witness_Features :
    (∃ (s : State) (c : ℕ) (v : ℕ) (k : Ctrl), c ≠ 0 ∧ ctrlOf s.dev c = some k ∧ k.enabled = true ∧ k.ended = false ∧ v < 2)
    ∧ (∃ (s : State) (c : ℕ) (v : ℕ) (k : Ctrl), c ≠ 0 ∧ ctrlOf s.dev c = some k ∧ k.enabled = true ∧ k.ended = false ∧ 2 ≤ v ∧
      (k.cove ≠ 0 ∨ 4 ≤ v))
    ∧ (∃ (s : State) (c : ℕ) (v : ℕ) (k : Ctrl) (w : ℕ), c ≠ 0 ∧ ctrlOf s.dev c = some k ∧ k.enabled = true ∧ k.ended = false ∧ v <
      65535 ∧ w < 65535 ∧ sqsOf s.dev c = [])
    ∧ (∃ (s : State) (c : ℕ) (v : ℕ) (k : Ctrl) (w : ℕ), c ≠ 0 ∧ ctrlOf s.dev c = some k ∧ k.enabled = true ∧ k.ended = false ∧
      (65535 ≤ v ∨ 65535 ≤ w))
    ∧ (∃ (s : State) (c : ℕ) (v : ℕ) (k : Ctrl) (w : ℕ), c ≠ 0 ∧ ctrlOf s.dev c = some k ∧ k.enabled = true ∧ k.ended = false ∧ v <
      65535 ∧ w < 65535 ∧ sqsOf s.dev c ≠ [])
    ∧ (∃ (s : State) (c : ℕ) (v : ℕ) (k : Ctrl), c ≠ 0 ∧ ctrlOf s.dev c = some k ∧ k.enabled = true ∧ k.ended = false ∧ bit
      (coveCfg s.dev k.cove).flags 0 = true ∧ v ≤ 3)
    ∧ (∃ (s : State) (c : ℕ) (v : ℕ) (k : Ctrl), c ≠ 0 ∧ ctrlOf s.dev c = some k ∧ k.enabled = true ∧ k.ended = false ∧ bit
      (coveCfg s.dev k.cove).flags 0 = true ∧ 3 < v)
    ∧ (∃ (s : State) (c : ℕ) (k : Ctrl), c ≠ 0 ∧ ctrlOf s.dev c = some k ∧ k.enabled = true ∧ k.ended = false ∧ bit (coveCfg s.dev
      k.cove).flags 0 = false)
    ∧ (∃ (s : State) (c : ℕ) (v : ℕ) (k : Ctrl) (nsid : ℕ) (n : Ns), c ≠ 0 ∧ ctrlOf s.dev c = some k ∧ k.enabled = true ∧ k.ended =
      false ∧ tget s.dev.host.nss nsid = some n ∧ attached s.dev c nsid = true ∧ n.writeProtect = v ∧ v ≤ 3)
    ∧ (∃ (s : State) (c : ℕ) (v : ℕ) (k : Ctrl) (nsid : ℕ) (n : Ns), c ≠ 0 ∧ ctrlOf s.dev c = some k ∧ k.enabled = true ∧ k.ended =
      false ∧ tget s.dev.host.nss nsid = some n ∧ attached s.dev c nsid = true ∧ 3 < v)
    ∧ (∃ (s : State) (c : ℕ) (v : ℕ) (k : Ctrl) (nsid : ℕ) (n : Ns), c ≠ 0 ∧ ctrlOf s.dev c = some k ∧ k.enabled = true ∧ k.ended =
      false ∧ tget s.dev.host.nss nsid = some n ∧ attached s.dev c nsid = true ∧ v ≤ 3 ∧ n.writeProtect < 2 ∧ n.writeProtect ≠ v)
    ∧ (∃ (s : State) (c : ℕ) (v : ℕ) (k : Ctrl) (nsid : ℕ) (n : Ns), c ≠ 0 ∧ ctrlOf s.dev c = some k ∧ k.enabled = true ∧ k.ended =
      false ∧ tget s.dev.host.nss nsid = some n ∧ attached s.dev c nsid = true ∧ v ≤ 3 ∧ 2 ≤ n.writeProtect ∧ n.writeProtect ≠ v)
    ∧ (∃ (s : State) (c : ℕ) (v : ℕ) (k : Ctrl), c ≠ 0 ∧ ctrlOf s.dev c = some k ∧ k.enabled = true ∧ k.ended = false ∧ k.cove = 0
      ∧ v < 4 ∧ v % 4 / 2 = 0)
    ∧ (∃ (s : State) (c : ℕ) (k : Ctrl), c ≠ 0 ∧ ctrlOf s.dev c = some k ∧ k.enabled = true ∧ k.ended = false ∧
      s.dev.host.ps3Wanted = true ∧ ps3Ready s.dev = true)
    ∧ (∃ (s : State) (c : ℕ) (k : Ctrl), c ≠ 0 ∧ ctrlOf s.dev c = some k ∧ k.enabled = true ∧ k.ended = false ∧
      s.dev.host.ps3Wanted = true ∧ ps3Ready s.dev = false)
    ∧ (∃ (s : State) (c : ℕ) (v : ℕ) (k : Ctrl), c ≠ 0 ∧ ctrlOf s.dev c = some k ∧ k.enabled = true ∧ k.ended = false ∧ v < 3) := by
  exact ⟨⟨{ aRun with dev.host.ctrls := [(4096, { aCtrl with enabled := true })] }, 4096, 1, { aCtrl with enabled := true }, by decide⟩,
    ⟨{ aRun with dev.host.ctrls := [(4096, { aCtrl with enabled := true })] }, 4096, 4096, { aCtrl with enabled := true }, by
      decide⟩,
    ⟨{ aRun with dev.host.ctrls := [(65536, { aCtrl with enabled := true })] }, 65536, 65534, { aCtrl with enabled := true },
      65534, by decide⟩,
    ⟨{ aRun with dev.host.ctrls := [(65536, { aCtrl with enabled := true })] }, 65536, 65536, { aCtrl with enabled := true },
      65536, by decide⟩,
    ⟨{ aRun with dev.host.ctrls := [(65519, { aCtrl with enabled := true })], dev.host.sqs := [(sqKey 65519 1, aSq)] }, 65519,
      65534, { aCtrl with enabled := true }, 65534, by decide⟩,
    ⟨{ aRun with dev.host.ctrls := [(4096, { aCtrl with enabled := true })], dev.chart.inForce := some { defaultChart with template.flags := 1 } },
      4096, 3, { aCtrl with enabled := true }, by decide⟩,
    ⟨{ aRun with dev.host.ctrls := [(4096, { aCtrl with enabled := true })], dev.chart.inForce := some { defaultChart with template.flags := 1 } },
      4096, 4096, { aCtrl with enabled := true }, by decide⟩,
    ⟨{ aRun with dev.host.ctrls := [(4096, { aCtrl with enabled := true })] }, 4096, { aCtrl with enabled := true }, by decide⟩,
    ⟨{ aRun with dev.host.ctrls := [(4096, { aCtrl with enabled := true })], dev.host.nss := [(4096, { aNs with writeProtect := 3 })] },
      4096, 3, { aCtrl with enabled := true }, 4096, { aNs with writeProtect := 3 }, by decide⟩,
    ⟨{ aRun with dev.host.ctrls := [(4096, { aCtrl with enabled := true })], dev.host.nss := [(4096, aNs)] }, 4096, 4096,
      { aCtrl with enabled := true }, 4096, aNs, by decide⟩,
    ⟨{ aRun with dev.host.ctrls := [(4096, { aCtrl with enabled := true })], dev.host.nss := [(4096, aNs)] }, 4096, 3,
      { aCtrl with enabled := true }, 4096, aNs, by decide⟩,
    ⟨{ aRun with dev.host.ctrls := [(4096, { aCtrl with enabled := true })], dev.host.nss := [(4096, { aNs with writeProtect := 2 })], dev.cove.tab := [(1, aCoveRec)] },
      4096, 3, { aCtrl with enabled := true }, 4096, { aNs with writeProtect := 2 }, by decide⟩,
    ⟨{ aRun with dev.host.ctrls := [(4096, { aCtrl with enabled := true, cove := 0 })] }, 4096, 1,
      { aCtrl with enabled := true, cove := 0 }, by decide⟩,
    ⟨{ aRun with dev.host.ps3Wanted := true, dev.host.ctrls := [(4096, { aCtrl with enabled := true })] }, 4096,
      { aCtrl with enabled := true }, by decide⟩,
    ⟨{ aRun with dev.host.ps3Wanted := true, dev.host.ctrls := [(4096, { aCtrl with enabled := true })], dev.adm.cmds := [(0, aCmd)] },
      4096, { aCtrl with enabled := true }, by decide⟩,
    ⟨{ aRun with dev.host.ctrls := [(4096, { aCtrl with enabled := true })] }, 4096, 2, { aCtrl with enabled := true }, by decide⟩⟩

/-- The hypotheses of `Obligations.FirmwareCommits` can be met. -/
theorem witness_FirmwareCommits :
    (∃ (s : State) (c : ℕ) (k : Ctrl) (o : ℕ) (b : List Byte), c ≠ 0 ∧ ctrlOf s.dev c = some k ∧ k.enabled = true ∧ k.ended = false
      ∧ k.cove = 0 ∧ o + b.length ≤ 2 ^ 24)
    ∧ (∃ (s : State) (c : ℕ) (k : Ctrl) (o : ℕ) (b : List Byte), c ≠ 0 ∧ ctrlOf s.dev c = some k ∧ k.enabled = true ∧ k.ended =
      false ∧ k.cove = 0 ∧ 2 ^ 24 < o + b.length)
    ∧ (∃ (s : State) (c : ℕ) (slot : ℕ) (k : Ctrl), c ≠ 0 ∧ ctrlOf s.dev c = some k ∧ k.enabled = true ∧ k.ended = false ∧ k.cove =
      0 ∧ 2 ≤ slot)
    ∧ (∃ (s : State) (c : ℕ) (slot : ℕ) (k : Ctrl), c ≠ 0 ∧ ctrlOf s.dev c = some k ∧ k.enabled = true ∧ k.ended = false ∧ k.cove =
      0 ∧ slot < 2 ∧ (s.dev.pair.role = Role.standby ∨ s.dev.host.fwActivating.isSome = true))
    ∧ (∃ (s : State) (c : ℕ) (slot : ℕ) (k : Ctrl), c ≠ 0 ∧ ctrlOf s.dev c = some k ∧ k.enabled = true ∧ k.ended = false ∧ k.cove =
      0 ∧ slot < 2 ∧ s.dev.pair.role = Role.active ∧ s.dev.host.fwActivating = none ∧ s.dev.host.fwBuffer ≠ [])
    ∧ (∃ (s : State) (c : ℕ) (slot : ℕ) (k : Ctrl), c ≠ 0 ∧ ctrlOf s.dev c = some k ∧ k.enabled = true ∧ k.ended = false ∧ k.cove =
      0 ∧ slot < 2 ∧ s.dev.pair.role = Role.solo ∧ s.dev.host.fwActivating = none ∧ s.dev.host.fwBuffer ≠ [])
    ∧ (∃ (s : State) (c : ℕ) (slot : ℕ) (k : Ctrl), c ≠ 0 ∧ ctrlOf s.dev c = some k ∧ k.enabled = true ∧ k.ended = false ∧ k.cove =
      0 ∧ slot < 2 ∧ s.dev.pair.role = Role.solo ∧ s.dev.host.fwActivating = none ∧ s.dev.host.fwBuffer = [])
    ∧ (∃ (s : State) (c : ℕ) (k : Ctrl) (w : AdminWait), c ≠ 0 ∧ ctrlOf s.dev c = some k ∧ k.enabled = true ∧ k.ended = false ∧
      k.cove = 0 ∧ fwWait s.dev 0 = some w ∧ liveCmds s.dev = 0)
    ∧ (∃ (s : State) (c : ℕ) (k : Ctrl) (w : AdminWait), c ≠ 0 ∧ ctrlOf s.dev c = some k ∧ k.enabled = true ∧ k.ended = false ∧
      k.cove = 0 ∧ fwWait s.dev 0 = some w ∧ liveCmds s.dev ≠ 0)
    ∧ (∃ (s : State) (c : ℕ) (k : Ctrl) (w : AdminWait), c ≠ 0 ∧ ctrlOf s.dev c = some k ∧ k.enabled = true ∧ k.ended = false ∧
      k.cove = 0 ∧ fwWait s.dev 1 = some w)
    ∧ (∃ (s : State) (c : ℕ) (k : Ctrl), c ≠ 0 ∧ ctrlOf s.dev c = some k ∧ k.enabled = true ∧ k.ended = false ∧ k.cove = 0 ∧ fwWait
      s.dev 1 = none ∧ fwWait s.dev 0 = none)
    ∧ (∃ (s : State) (c : ℕ) (slot : ℕ) (k : Ctrl), c ≠ 0 ∧ ctrlOf s.dev c = some k ∧ k.enabled = true ∧ k.ended = false ∧ k.cove =
      0 ∧ slot < 2 ∧ (s.dev.host.fwBuffer = [] ∨ fwOk s.dev (fwDownload s.dev) = false))
    ∧ (∃ (s : State) (c : ℕ) (slot : ℕ) (k : Ctrl), c ≠ 0 ∧ ctrlOf s.dev c = some k ∧ k.enabled = true ∧ k.ended = false ∧ k.cove =
      0 ∧ slot < 2 ∧ fwOk s.dev (fwImage s.dev s.mem slot) = false) := by
  exact ⟨⟨{ aRun with dev.host.ctrls := [(4096, { aCtrl with enabled := true, cove := 0 })] }, 4096,
      { aCtrl with enabled := true, cove := 0 }, 4096, [], by decide⟩,
    ⟨{ aRun with dev.host.ctrls := [(4096, { aCtrl with enabled := true, cove := 0 })] }, 4096,
      { aCtrl with enabled := true, cove := 0 }, 16777216, [1], by decide⟩,
    ⟨{ aRun with dev.host.ctrls := [(4096, { aCtrl with enabled := true, cove := 0 })] }, 4096, 4096,
      { aCtrl with enabled := true, cove := 0 }, by decide⟩,
    ⟨{ aRun with dev.pair.role := Role.standby, dev.host.ctrls := [(4096, { aCtrl with enabled := true, cove := 0 })] }, 4096, 1,
      { aCtrl with enabled := true, cove := 0 }, by decide⟩,
    ⟨{ aRun with dev.pair.role := Role.active, dev.host.fwActivating := none, dev.host.ctrls := [(4096, { aCtrl with enabled := true, cove := 0 })], dev.host.fwBuffer := [(0, 1)] },
      4096, 1, { aCtrl with enabled := true, cove := 0 }, by decide⟩,
    ⟨{ aRun with dev.pair.role := Role.solo, dev.host.fwActivating := none, dev.host.ctrls := [(4096, { aCtrl with enabled := true, cove := 0 })], dev.host.fwBuffer := [(0, 1)] },
      4096, 1, { aCtrl with enabled := true, cove := 0 }, by decide⟩,
    ⟨{ aRun with dev.pair.role := Role.solo, dev.host.fwActivating := none, dev.host.fwBuffer := [], dev.host.ctrls := [(4096, { aCtrl with enabled := true, cove := 0 })] },
      4096, 1, { aCtrl with enabled := true, cove := 0 }, by decide⟩,
    ⟨{ aRun with dev.host.ctrls := [(4096, { aCtrl with enabled := true, cove := 0 })], dev.host.waits := [{ aAdminWait with kind := 5 }] },
      4096, { aCtrl with enabled := true, cove := 0 }, { aAdminWait with kind := 5 }, by decide⟩,
    ⟨{ aRun with dev.host.ctrls := [(4096, { aCtrl with enabled := true, cove := 0 })], dev.host.waits := [{ aAdminWait with kind := 5 }], dev.adm.cmds := [(0, aCmd)] },
      4096, { aCtrl with enabled := true, cove := 0 }, { aAdminWait with kind := 5 }, by decide⟩,
    ⟨{ aRun with dev.host.ctrls := [(4096, { aCtrl with enabled := true, cove := 0 })], dev.host.waits := [{ aAdminWait with kind := 5, arg := 1 }] },
      4096, { aCtrl with enabled := true, cove := 0 }, { aAdminWait with kind := 5, arg := 1 }, by decide⟩,
    ⟨{ aRun with dev.host.ctrls := [(4096, { aCtrl with enabled := true, cove := 0 })] }, 4096,
      { aCtrl with enabled := true, cove := 0 }, by decide⟩,
    ⟨{ aRun with dev.host.ctrls := [(4096, { aCtrl with enabled := true, cove := 0 })] }, 4096, 1,
      { aCtrl with enabled := true, cove := 0 }, by decide, by decide, by decide, by decide, by decide, by decide, by decide⟩,
    ⟨{ aRun with dev.host.ctrls := [(4096, { aCtrl with enabled := true, cove := 0 })] }, 4096, 1,
      { aCtrl with enabled := true, cove := 0 }, by decide, by decide, by decide, by decide, by decide, by decide, by decide⟩⟩

/-- The hypotheses of `Obligations.HostsConnect` can be met. -/
theorem witness_HostsConnect :
    (∃ (s : State) (x : ConnectArgs), qpOf s.dev x.qpn = none)
    ∧ (∃ (s : State) (x : ConnectArgs) (q : Qp), qpOf s.dev x.qpn = some q ∧ (q.error = true ∨ q.connected = false ∨ q.cntlid ≠ 0))
    ∧ (∃ (s : State) (x : ConnectArgs) (q : Qp), qpOf s.dev x.qpn = some q ∧ q.error = false ∧ q.connected = true ∧ q.cntlid = 0 ∧
      x.qid = 0 ∧ coveOfNqn s.dev x.subnqn = none)
    ∧ (∃ (s : State) (x : ConnectArgs) (q : Qp) (c : ℕ) (r : CoveRec), qpOf s.dev x.qpn = some q ∧ q.error = false ∧ q.connected =
      true ∧ q.cntlid = 0 ∧ x.qid = 0 ∧ coveOfNqn s.dev x.subnqn = some c ∧ coveOf s.dev c = some r ∧ r.state =
      CoveState.resetting)
    ∧ (∃ (s : State) (x : ConnectArgs) (q : Qp) (c : ℕ) (r : CoveRec), qpOf s.dev x.qpn = some q ∧ q.error = false ∧ q.connected =
      true ∧ q.cntlid = 0 ∧ x.qid = 0 ∧ coveOfNqn s.dev x.subnqn = some c ∧ coveOf s.dev c = some r ∧ (r.state = CoveState.deleting
      ∨ r.state = CoveState.free))
    ∧ (∃ (s : State) (x : ConnectArgs) (q : Qp) (c : ℕ) (r : CoveRec), qpOf s.dev x.qpn = some q ∧ q.error = false ∧ q.connected =
      true ∧ q.cntlid = 0 ∧ x.qid = 0 ∧ coveOfNqn s.dev x.subnqn = some c ∧ coveOf s.dev c = some r ∧ (r.state = CoveState.active ∨
      r.state = CoveState.frozen) ∧ bindingFor s.dev c x.hostid = none)
    ∧ (∃ (s : State) (x : ConnectArgs) (q : Qp) (c : ℕ) (r : CoveRec) (i : ℕ) (b : Binding), qpOf s.dev x.qpn = some q ∧ q.error =
      false ∧ q.connected = true ∧ q.cntlid = 0 ∧ x.qid = 0 ∧ coveOfNqn s.dev x.subnqn = some c ∧ coveOf s.dev c = some r ∧
      (r.state = CoveState.active ∨ r.state = CoveState.frozen) ∧ bindingFor s.dev c x.hostid = some (i, b) ∧ b.maxAssoc ≠ 0 ∧
      b.maxAssoc ≤ b.assoc)
    ∧ (∃ (s : State) (x : ConnectArgs) (q : Qp) (c : ℕ) (r : CoveRec) (i : ℕ) (b : Binding) (k : ℕ), qpOf s.dev x.qpn = some q ∧
      q.error = false ∧ q.connected = true ∧ q.cntlid = 0 ∧ x.qid = 0 ∧ coveOfNqn s.dev x.subnqn = some c ∧ coveOf s.dev c = some r
      ∧ (r.state = CoveState.active ∨ r.state = CoveState.frozen) ∧ bindingFor s.dev c x.hostid = some (i, b) ∧ (b.maxAssoc = 0 ∨
      b.assoc < b.maxAssoc) ∧ tfree s.dev.host.ctrls 1 65519 = some k ∧ queueFits s.dev c q (x.sqsize + 1) true = false)
    ∧ (∃ (s : State) (x : ConnectArgs) (q : Qp) (c : ℕ) (r : CoveRec) (i : ℕ) (b : Binding) (k : ℕ), qpOf s.dev x.qpn = some q ∧
      q.error = false ∧ q.connected = true ∧ q.cntlid = 0 ∧ x.qid = 0 ∧ coveOfNqn s.dev x.subnqn = some c ∧ coveOf s.dev c = some r
      ∧ (r.state = CoveState.active ∨ r.state = CoveState.frozen) ∧ bindingFor s.dev c x.hostid = some (i, b) ∧ (b.maxAssoc = 0 ∨
      b.assoc < b.maxAssoc) ∧ tfree s.dev.host.ctrls 1 65519 = some k ∧ x.cntlid = 65535 ∧ queueFits s.dev c q (x.sqsize + 1) true
      = true)
    ∧ (∃ (s : State) (x : ConnectArgs) (q : Qp), qpOf s.dev x.qpn = some q ∧ q.error = false ∧ q.connected = true ∧ q.cntlid = 0 ∧
      x.qid ≠ 0 ∧ ctrlOf s.dev x.cntlid = none)
    ∧ (∃ (s : State) (x : ConnectArgs) (q : Qp) (k : Ctrl), qpOf s.dev x.qpn = some q ∧ q.error = false ∧ q.connected = true ∧
      q.cntlid = 0 ∧ x.qid ≠ 0 ∧ ctrlOf s.dev x.cntlid = some k ∧ (k.ended = true ∨ k.enabled = false ∨ thas s.dev.host.sqs (sqKey
      x.cntlid x.qid) = true ∨ queueFits s.dev k.cove q (x.sqsize + 1) false = false))
    ∧ (∃ (s : State) (x : ConnectArgs) (q : Qp) (k : Ctrl), qpOf s.dev x.qpn = some q ∧ q.error = false ∧ q.connected = true ∧
      q.cntlid = 0 ∧ x.qid ≠ 0 ∧ ctrlOf s.dev x.cntlid = some k ∧ k.ended = false ∧ k.enabled = true ∧ k.shst = 0 ∧ thas
      s.dev.host.sqs (sqKey x.cntlid x.qid) = false ∧ queueFits s.dev k.cove q (x.sqsize + 1) false = true)
    ∧ (∃ (s : State) (c : ℕ) (q : Qp) (n : ℕ) (a : Bool), queueFits s.dev c q n a = true)
    ∧ (∃ (s : State) (x : ConnectArgs) (q : Qp) (c : ℕ) (r : CoveRec) (i : ℕ) (b : Binding), qpOf s.dev x.qpn = some q ∧ q.error =
      false ∧ q.connected = true ∧ q.cntlid = 0 ∧ x.qid = 0 ∧ coveOfNqn s.dev x.subnqn = some c ∧ coveOf s.dev c = some r ∧
      (r.state = CoveState.active ∨ r.state = CoveState.frozen) ∧ bindingFor s.dev c x.hostid = some (i, b) ∧ (b.maxAssoc = 0 ∨
      b.assoc < b.maxAssoc) ∧ tfree s.dev.host.ctrls 1 65519 = none) := by
  exact ⟨⟨aRun, aConnectArgs, by decide⟩,
    ⟨{ aRun with dev.net.qps := [(aConnectArgs.qpn, { aQp with error := true })] }, aConnectArgs, { aQp with error := true }, by
      decide⟩,
    ⟨{ aRun with dev.net.qps := [(({ aConnectArgs with qid := 0 } : ConnectArgs).qpn, { aQp with connected := true, cntlid := 0 })] },
      { aConnectArgs with qid := 0 }, { aQp with connected := true, cntlid := 0 }, by decide⟩,
    ⟨{ aRun with dev.net.qps := [(({ aConnectArgs with qid := 0, subnqn := [1] } : ConnectArgs).qpn, { aQp with connected := true, cntlid := 0 })], dev.cove.tab := [(1, { aCoveRec with state := .resetting, nqn := [1] })], dev.cove.bindings := [] },
      { aConnectArgs with qid := 0, subnqn := [1] }, { aQp with connected := true, cntlid := 0 }, 1,
      { aCoveRec with state := .resetting, nqn := [1] }, by decide⟩,
    ⟨{ aRun with dev.net.qps := [(({ aConnectArgs with qid := 0, subnqn := [1] } : ConnectArgs).qpn, { aQp with connected := true, cntlid := 0 })], dev.cove.tab := [(1, { aCoveRec with state := .deleting, nqn := [1] })], dev.cove.bindings := [] },
      { aConnectArgs with qid := 0, subnqn := [1] }, { aQp with connected := true, cntlid := 0 }, 1,
      { aCoveRec with state := .deleting, nqn := [1] }, by decide⟩,
    ⟨{ aRun with dev.net.qps := [(({ aConnectArgs with qid := 0, subnqn := [1] } : ConnectArgs).qpn, { aQp with connected := true, cntlid := 0 })], dev.cove.tab := [(1, { aCoveRec with state := CoveState.active, nqn := [1] })], dev.cove.bindings := [] },
      { aConnectArgs with qid := 0, subnqn := [1] }, { aQp with connected := true, cntlid := 0 }, 1,
      { aCoveRec with state := CoveState.active, nqn := [1] }, by decide⟩,
    ⟨{ aRun with dev.net.qps := [(({ aConnectArgs with qid := 0, subnqn := [1] } : ConnectArgs).qpn, { aQp with connected := true, cntlid := 0 })], dev.cove.tab := [(1, { aCoveRec with state := CoveState.active, nqn := [1] })], dev.cove.bindings := [(0, { aBinding with maxAssoc := 1, assoc := 4 })] },
      { aConnectArgs with qid := 0, subnqn := [1] }, { aQp with connected := true, cntlid := 0 }, 1,
      { aCoveRec with state := CoveState.active, nqn := [1] }, 0, { aBinding with maxAssoc := 1, assoc := 4 }, by decide⟩,
    ⟨{ aRun with dev.net.qps := [(({ aConnectArgs with qid := 0, subnqn := [1], sqsize := 30 } : ConnectArgs).qpn, { aQp with connected := true, cntlid := 0 })], dev.cove.tab := [(1, { aCoveRec with state := CoveState.active, nqn := [1] })], dev.cove.bindings := [(0, { aBinding with maxAssoc := 0 })] },
      { aConnectArgs with qid := 0, subnqn := [1], sqsize := 30 }, { aQp with connected := true, cntlid := 0 }, 1,
      { aCoveRec with state := CoveState.active, nqn := [1] }, 0, { aBinding with maxAssoc := 0 }, 1, by decide⟩,
    ⟨{ aRun with dev.net.qps := [(({ aConnectArgs with qid := 0, cntlid := 65535, subnqn := [1] } : ConnectArgs).qpn, { aQp with connected := true, cntlid := 0 })], dev.cove.tab := [(1, { aCoveRec with state := CoveState.active, nqn := [1] })], dev.cove.bindings := [(0, { aBinding with maxAssoc := 0 })] },
      { aConnectArgs with qid := 0, cntlid := 65535, subnqn := [1] }, { aQp with connected := true, cntlid := 0 }, 1,
      { aCoveRec with state := CoveState.active, nqn := [1] }, 0, { aBinding with maxAssoc := 0 }, 1, by decide⟩,
    ⟨{ aRun with dev.net.qps := [(({ aConnectArgs with qid := 1 } : ConnectArgs).qpn, { aQp with connected := true, cntlid := 0 })] },
      { aConnectArgs with qid := 1 }, { aQp with connected := true, cntlid := 0 }, by decide⟩,
    ⟨{ aRun with dev.net.qps := [(({ aConnectArgs with qid := 1 } : ConnectArgs).qpn, { aQp with connected := true, cntlid := 0 })], dev.host.ctrls := [(({ aConnectArgs with qid := 1 } : ConnectArgs).cntlid, { aCtrl with ended := true })] },
      { aConnectArgs with qid := 1 }, { aQp with connected := true, cntlid := 0 }, { aCtrl with ended := true }, by decide⟩,
    ⟨{ aRun with dev.net.qps := [(({ aConnectArgs with qid := 1 } : ConnectArgs).qpn, { aQp with connected := true, cntlid := 0 })], dev.host.ctrls := [(({ aConnectArgs with qid := 1 } : ConnectArgs).cntlid, { aCtrl with enabled := true })] },
      { aConnectArgs with qid := 1 }, { aQp with connected := true, cntlid := 0 }, { aCtrl with enabled := true }, by decide⟩,
    ⟨aRun, 4096, aQp, 1023, false, by decide⟩,
    ⟨aCrowd, { aConnectArgs with qid := 0, qpn := 1, subnqn := [1] }, { aQp with connected := true, cntlid := 0 }, 1,
      { aCoveRec with state := .active, nqn := [1] }, 0, { aBinding with maxAssoc := 0 }, by decide, by decide, by decide, by
      decide, by decide, by decide, by decide, by decide, by decide, by decide, tfree_run _ _ _⟩⟩

/-- The hypotheses of `Obligations.KeysAndRotation` can be met. -/
theorem witness_KeysAndRotation :
    (∃ (s : State), s.dev.keys.entropyOk = false)
    ∧ (∃ (s : State) (n : ℕ) (x : Ns), tget s.dev.host.nss n = some x)
    ∧ (∃ (s : State), s.dev.mhi.mboxReady = true ∧ (s.dev.mhi.mboxBusy = false ∨ s.dev.mhi.mboxPending = true) ∧ (s.dev.keys.kek =
      none ∨ s.dev.keys.rotating.isSome = true ∨ s.dev.pair.role = Role.standby ∨ s.dev.pair.role = Role.fenced))
    ∧ (∃ (s : State) (b : List Byte) (k : ℕ × ℕ), s.dev.mhi.mboxReady = true ∧ (s.dev.mhi.mboxBusy = false ∨ s.dev.mhi.mboxPending
      = true) ∧ s.dev.keys.kek = some k ∧ s.dev.keys.rotating = none ∧ (s.dev.pair.role = Role.solo ∨ s.dev.pair.role =
      Role.active) ∧ (blobOk s.dev b = false ∨ blobEpoch b ≤ k.1))
    ∧ (∃ (s : State) (b : List Byte) (k : ℕ × ℕ), s.dev.mhi.mboxReady = true ∧ (s.dev.mhi.mboxBusy = false ∨ s.dev.mhi.mboxPending
      = true) ∧ s.dev.keys.kek = some k ∧ s.dev.keys.rotating = none ∧ (s.dev.pair.role = Role.solo ∨ s.dev.pair.role =
      Role.active) ∧ blobOk s.dev b = true ∧ k.1 < blobEpoch b)
    ∧ (∃ (s : State), (s.dev.keys.rotating = none ∨ s.dev.keys.entropyOk = false ∨ s.dev.keys.kek = none))
    ∧ (∃ (s : State) (n : ℕ) (v : ℕ), s.dev.keys.rotating = some n ∧ tget s.dev.keys.extra n = some v ∧ s.dev.keys.entropyOk = true
      ∧ s.dev.keys.kek.isSome = true ∧ s.dev.keys.nsKeys = [] ∧ s.dev.keys.slots = [])
    ∧ (∃ (s : State) (c : ℕ) (i : ℕ), (16 ≤ i ∨ thas s.dev.cove.tab c = false ∨ blocksOpen s.dev = false) ∧ (s.dev.keys.oldKeys.any
      fun (o : OldKey) => o.cove == c && o.slot == i && o.tags.any fun (t : ℕ) => Option.any (fun (x : Cmd) => !x.completed) (tget
      s.dev.adm.cmds t)) = false ∧ tget s.dev.keys.slotPending (c * 16 + i) = none)
    ∧ (∃ (s : State) (c : ℕ) (i : ℕ) (w : List Byte), i < 16 ∧ thas s.dev.cove.tab c = true ∧ blocksOpen s.dev = true ∧ kekOf s.dev
      (wide w 48 4) = none)
    ∧ (∃ (s : State) (c : ℕ) (i : ℕ) (w : List Byte), i < 16 ∧ thas s.dev.cove.tab c = true ∧ blocksOpen s.dev = true ∧ (kekOf
      s.dev (wide w 48 4)).isSome = true)
    ∧ (∃ (s : State) (c : ℕ) (i : ℕ) (w : List Byte) (j : ℕ), i < 16 ∧ thas s.dev.cove.tab c = true ∧ blocksOpen s.dev = true ∧
      (kekOf s.dev (wide w 48 4)).isSome = true ∧ j ≠ i)
    ∧ (∃ (s : State) (c : ℕ) (i : ℕ) (w : List Byte) (j : ℕ) (m : ℕ), i < 16 ∧ thas s.dev.cove.tab c = true ∧ blocksOpen s.dev =
      true ∧ (kekOf s.dev (wide w 48 4)).isSome = true ∧ j = i ∧ 16 ≤ m)
    ∧ (∃ (s : State) (c : ℕ) (i : ℕ) (w : List Byte) (j : ℕ) (m : ℕ), i < 16 ∧ thas s.dev.cove.tab c = true ∧ blocksOpen s.dev =
      true ∧ (kekOf s.dev (wide w 48 4)).isSome = true ∧ j = i ∧ m < 16)
    ∧ (∃ (s : State) (r : SlotRecord), (s.dev.keys.oldKeys.any fun (o : OldKey) => o.cove == r.cove && o.slot == r.slot) = true)
    ∧ (∃ (s : State) (r : SlotRecord), (s.dev.keys.oldKeys.any fun (o : OldKey) => o.cove == r.cove && o.slot == r.slot) = false ∧
      slotReads s.dev r.cove r.slot = [])
    ∧ (∃ (s : State) (c : ℕ) (i : ℕ), (s.dev.keys.oldKeys.any fun (o : OldKey) => o.cove == c && o.slot == i && o.tags.any fun (t :
      ℕ) => Option.any (fun (x : Cmd) => !x.completed) (tget s.dev.adm.cmds t)) = true)
    ∧ (∃ (s : State) (c : ℕ) (i : ℕ) (r : SlotRecord), (s.dev.keys.oldKeys.any fun (o : OldKey) => o.cove == c && o.slot == i &&
      o.tags.any fun (t : ℕ) => Option.any (fun (x : Cmd) => !x.completed) (tget s.dev.adm.cmds t)) = false ∧ tget
      s.dev.keys.slotPending (c * 16 + i) = some r) := by
  exact ⟨⟨{ aRun with dev.keys.entropyOk := false }, by decide⟩,
    ⟨{ aRun with dev.host.nss := [(4096, aNs)] }, 4096, aNs, by decide⟩,
    ⟨{ aRun with dev.mhi.mboxReady := true, dev.mhi.mboxBusy := false }, by decide⟩,
    ⟨{ aRun with dev.mhi.mboxReady := true, dev.mhi.mboxBusy := false, dev.keys.kek := some (0, 0), dev.pair.role := Role.solo },
      [], (0, 0), by decide⟩,
    ⟨{ aRun with dev.mhi.mboxReady := true, dev.mhi.mboxBusy := false, dev.keys.kek := some (1, 1), dev.pair.role := Role.solo },
      aBlob, (1, 1), by decide⟩,
    ⟨aRun, by decide⟩,
    ⟨{ aRun with dev.keys.rotating := some 2, dev.keys.entropyOk := true, dev.keys.extra := [(2, 9)], dev.keys.kek := some (1, 1) },
      2, 9, by decide⟩,
    ⟨aRun, 4096, 4096, by decide⟩,
    ⟨{ aRun with dev.cove.tab := [(4096, aCoveRec)], dev.keys.kek := some (1, 1) }, 4096, 15, [], by decide⟩,
    ⟨{ aRun with dev.cove.tab := [(4095, aCoveRec)], dev.keys.kek := some (1, 1) }, 4095, 15, (List.replicate 48 0#8 ++ [1#8, 0#8,
      0#8, 0#8]), by decide⟩,
    ⟨{ aRun with dev.cove.tab := [(4095, aCoveRec)], dev.keys.kek := some (1, 1) }, 4095, 15, (List.replicate 48 0#8 ++ [1#8, 0#8,
      0#8, 0#8]), 4096, by decide⟩,
    ⟨{ aRun with dev.cove.tab := [(4095, aCoveRec)], dev.keys.kek := some (1, 1) }, 4095, 15, (List.replicate 48 0#8 ++ [1#8, 0#8,
      0#8, 0#8]), 15, 4096, by decide⟩,
    ⟨{ aRun with dev.cove.tab := [(4095, aCoveRec)], dev.keys.kek := some (1, 1) }, 4095, 15, (List.replicate 48 0#8 ++ [1#8, 0#8,
      0#8, 0#8]), 15, 15, by decide⟩,
    ⟨{ aRun with dev.keys.oldKeys := [{ cove := 1, slot := 0, tags := [] }] }, aSlotRecord, by decide⟩,
    ⟨aRun, aSlotRecord, by decide⟩,
    ⟨{ aRun with dev.keys.oldKeys := [{ cove := 4095, slot := 15, tags := [0] }], dev.adm.cmds := [(0, aCmd)] }, 4095, 15, by
      decide⟩,
    ⟨{ aRun with dev.keys.slotPending := [((4096 * 16 + 4096), aSlotRecord)] }, 4096, 4096, aSlotRecord, by decide⟩⟩

/-- The hypotheses of `Obligations.LighthouseDecides` can be met. -/
theorem witness_LighthouseDecides :
    (∃ (b : ℕ × ℕ) (h : ℕ) (rate : ℕ), b.1 ≤ b.2 ∧ h ≤ 65536 ∧ b.1 * 65536 ≤ rate ∧ rate ≤ b.2 * 65536 ∧ rate ≤ (b.1 * 65536 + (b.2
      - b.1) * (65536 - h)) ∧ (b.1 * 65536 + (b.2 - b.1) * (65536 - h)) ≤ rate ∧ rate ≤ (b.1 * 65536 + (b.2 - b.1) * (65536 - h)) +
      (b.2 - b.1) * 4096 ∧ (b.1 * 65536 + (b.2 - b.1) * (65536 - h)) ≤ rate + (b.2 - b.1) * 4096)
    ∧ (∃ (d : Dev), (chartOf d).light.borrow = 0)
    ∧ (∃ (d : Dev), (chartOf d).light.borrow ≠ 0 ∧ 2 ≤ d.pool.level)
    ∧ (∃ (d : Dev), (chartOf d).light.borrow ≠ 0 ∧ d.pool.level < 2)
    ∧ (∃ (d : Dev), atRisk d = true ∧ d.light.stage < 2)
    ∧ (∃ (d : Dev), overLimit d = true ∧ d.light.stage < 3 ∧ 4 ≤ d.light.overSteps ∧ d.light.stage = 2)
    ∧ (∃ (d : Dev), overLimit d = true ∧ d.light.stage < 3 ∧ d.light.overSteps < 4)
    ∧ (∃ (d : Dev), underLimit d = true ∧ 0 < d.light.stage ∧ 99 ≤ d.light.underSteps)
    ∧ (∃ (d : Dev), overLimit d = true ∧ d.light.stage = 3 ∧ 25000 < d.light.ceiling)
    ∧ (∃ (d : Dev), underLimit d = true ∧ d.light.stage = 3 ∧ 9 ≤ d.light.underSteps ∧ d.light.underSteps < 99 ∧ d.light.ceiling <
      585000)
    ∧ (∃ (d : Dev), underLimit d = true ∧ d.light.stage = 3 ∧ 9 ≤ d.light.underSteps ∧ d.light.underSteps < 99 ∧ 585000 ≤
      d.light.ceiling)
    ∧ (∃ (d : Dev), overLimit d = false ∧ underLimit d = false)
    ∧ (∃ (s : State), coreRuns s.dev = true ∧ s.dev.boot.serving = true ∧ (s.dev.pair.role = Role.active ∨ s.dev.pair.role =
      Role.solo))
    ∧ (∃ (s : State), coreRuns s.dev = true ∧ (s.dev.boot.serving = false ∨ s.dev.pair.role = Role.standby ∨ s.dev.pair.role =
      Role.fenced))
    ∧ (∃ (n : ℕ), n ≤ 2)
    ∧ (∃ (s : State) (n : ℕ) (nsid : ℕ) (lba : ℕ), 3 ≤ n ∧ writeHeat s.dev nsid (lba / 256) = 0)
    ∧ (∃ (s : State) (n : ℕ) (nsid : ℕ) (lba : ℕ) (k : ℕ), 3 ≤ n ∧ 4 ^ k ≤ writeHeat s.dev nsid (lba / 256) ∧ writeHeat s.dev nsid
      (lba / 256) < 4 ^ (k + 1)) := by
  exact ⟨⟨(0, 0), 65536, 0, by decide⟩,
    ⟨{ aRun.dev with chart.inForce := some { defaultChart with light.borrow := 0 } }, by decide⟩,
    ⟨{ aRun.dev with pool.level := 2 }, by decide⟩,
    ⟨(aRun.dev : Dev), by decide⟩,
    ⟨{ aRun.dev with str.rows := [(rkey 0 0, { aStripe with life := .committed, live := 1, late := 3 })] }, by decide⟩,
    ⟨{ aRun.dev with light.stage := 2, mhi.temp := 100, light.overSteps := 4 }, by decide⟩,
    ⟨{ aRun.dev with mhi.temp := 100 }, by decide⟩,
    ⟨{ aRun.dev with light.stage := 1, light.underSteps := 99 }, by decide⟩,
    ⟨{ aRun.dev with light.stage := 3, mhi.temp := 100, light.ceiling := 25001 }, by decide⟩,
    ⟨{ aRun.dev with light.stage := 3, light.underSteps := 9, light.ceiling := 584999 }, by decide⟩,
    ⟨{ aRun.dev with light.stage := 3, light.underSteps := 98, light.ceiling := 585000 }, by decide⟩,
    ⟨{ aRun.dev with mhi.temp := 96 }, by decide⟩,
    ⟨{ aRun with dev.boot.serving := true, dev.pair.role := Role.active }, by decide⟩,
    ⟨{ aRun with dev.boot.serving := false }, by decide⟩,
    ⟨2, by decide⟩,
    ⟨aRun, 4096, 4096, 4096, by decide⟩,
    ⟨{ aRun with dev.light.heat := [(heatKey 1 0, { writes15m := [63, 0, 0, 0] })] }, 3, 1, 255, 2, by decide⟩⟩

/-- The hypotheses of `Obligations.LinksCarryFrames` can be met. -/
theorem witness_LinksCarryFrames :
    (∃ (s : State) (k : ℕ), s.dev.host.admissionOpen = true ∧ k < 32 ∧ k % 4 < linksOfPort ((chartOf s.dev).ports.getD (k / 4) { })
      ∧ ((chartOf s.dev).ports.getD (k / 4) { }).enable = 1 ∧ linkUp s.dev k = false)
    ∧ (∃ (s : State) (k : ℕ), (s.dev.host.admissionOpen = false ∨ 32 ≤ k ∨ linksOfPort ((chartOf s.dev).ports.getD (k / 4) { }) ≤ k
      % 4 ∨ ((chartOf s.dev).ports.getD (k / 4) { }).enable ≠ 1 ∨ linkUp s.dev k = true))
    ∧ (∃ (s : State) (i : ℕ) (a : AddrState), tget s.dev.net.addrs i = some a ∧ linkUp s.dev a.rec_.home = true)
    ∧ (∃ (s : State) (i : ℕ) (a : AddrState), tget s.dev.net.addrs i = some a ∧ linkUp s.dev a.rec_.home = false ∧ s.dev.net.addrs
      = [(i, a)] ∧ (linkUp s.dev a.link = true ∨ moveTarget s.dev a = none))
    ∧ (∃ (s : State) (k : ℕ) (i : ℕ) (a : AddrState), tget s.dev.net.addrs i = some a ∧ a.link = k)
    ∧ (∃ (s : State) (k : ℕ) (i : ℕ) (a : AddrState), tget s.dev.net.addrs i = some a ∧ a.link ≠ k)
    ∧ (∃ (s : State) (k : ℕ) (i : ℕ) (a : AddrState), tget s.dev.net.addrs i = some a ∧ s.dev.net.addrs = [(i, a)] ∧ linkUp s.dev
      a.link = false ∧ moveTarget s.dev a = some k)
    ∧ (∃ (s : State) (k : ℕ), linkUp s.dev k = true ∧ pickFrame k (countHeld k s.dev) = none)
    ∧ (∃ (s : State) (k : ℕ) (bad : ℕ) (f : TxFrame) (e : Dev), linkUp s.dev k = true ∧ pickFrame k (countHeld k s.dev) = some (f,
      e) ∧ bad ≠ 1) := by
  exact ⟨⟨{ aRun with dev.host.admissionOpen := true }, 16, by decide⟩,
    ⟨{ aRun with dev.host.admissionOpen := false }, 4096, by decide⟩,
    ⟨{ aRun with dev.net.addrs := [(4096, aAddrState)], dev.net.links := [(0, { up := true })] }, 4096, aAddrState, by decide⟩,
    ⟨{ aRun with dev.net.addrs := [(4096, aAddrState)] }, 4096, aAddrState, by decide⟩,
    ⟨{ aRun with dev.net.addrs := [(4096, { aAddrState with link := 4096 })] }, 4096, 4096, { aAddrState with link := 4096 }, by
      decide⟩,
    ⟨{ aRun with dev.net.addrs := [(4096, aAddrState)] }, 4096, 4096, aAddrState, by decide⟩,
    ⟨{ aRun with dev.net.addrs := [(4096, { aAddrState with rec_.backups := [31] })], dev.net.links := [(31, { up := true })] },
      31, 4096, { aAddrState with rec_.backups := [31] }, by decide⟩,
    ⟨{ aRun with dev.net.links := [(31, { up := true })] }, 31, by decide⟩,
    ⟨{ aRun with dev.net.links := [(31, { up := true })], dev.sched.links := [(31, { mgmt := [aTxFrame] })] }, 31, 4096, aTxFrame,
      (((pickFrame 31 (countHeld 31
      ({ aRun with dev.net.links := [(31, { up := true })], dev.sched.links := [(31, { mgmt := [aTxFrame] })] } : State).dev)).map
      (·.2)).getD ({ aRun with dev.net.links := [(31, { up := true })], dev.sched.links := [(31, { mgmt := [aTxFrame] })] } :
      State).dev), by decide⟩⟩

set_option maxRecDepth 100000 in
/-- The hypotheses of `Obligations.LogPages` can be met. -/
theorem witness_LogPages :
    (∃ (s : State) (c : ℕ) (k : Ctrl), c ≠ 0 ∧ ctrlOf s.dev c = some k ∧ k.enabled = true ∧ k.ended = false ∧ k.resvNotices = [])
    ∧ (∃ (s : State) (c : ℕ) (k : Ctrl) (t : ℕ) (n : ℕ) (r : List (ℕ × ℕ)), c ≠ 0 ∧ ctrlOf s.dev c = some k ∧ k.enabled = true ∧
      k.ended = false ∧ k.resvNotices = (t, n) :: r)
    ∧ (∃ (s : State) (c : ℕ) (k : Ctrl) (cns : ℕ) (nsid : ℕ) (l : List Byte), c ≠ 0 ∧ ctrlOf s.dev c = some k ∧ k.enabled = true ∧
      k.ended = false ∧ identifyData s.dev c cns nsid = some l)
    ∧ (∃ (s : State) (c : ℕ) (k : Ctrl) (cns : ℕ) (nsid : ℕ), c ≠ 0 ∧ ctrlOf s.dev c = some k ∧ k.enabled = true ∧ k.ended = false
      ∧ identifyData s.dev c cns nsid = none)
    ∧ (∃ (s : State) (c : ℕ) (k : Ctrl) (nsid : ℕ) (n : Ns), c ≠ 0 ∧ ctrlOf s.dev c = some k ∧ k.enabled = true ∧ k.ended = false ∧
      tget s.dev.host.nss nsid = some n ∧ attached s.dev c nsid = true)
    ∧ (∃ (s : State) (c : ℕ) (k : Ctrl) (nsid : ℕ), c ≠ 0 ∧ ctrlOf s.dev c = some k ∧ k.enabled = true ∧ k.ended = false ∧ attached
      s.dev c nsid = false)
    ∧ (∃ (s : State) (c : ℕ) (len : ℕ) (k : Ctrl) (i : ℕ), c ≠ 0 ∧ ctrlOf s.dev c = some k ∧ k.enabled = true ∧ k.ended = false ∧ i
      < len) := by
  exact ⟨⟨{ aRun with dev.host.ctrls := [(4096, { aCtrl with enabled := true })] }, 4096, { aCtrl with enabled := true }, by decide⟩,
    ⟨{ aRun with dev.host.ctrls := [(4096, { aCtrl with enabled := true, resvNotices := (4096, 4096) :: [] })] }, 4096,
      { aCtrl with enabled := true, resvNotices := (4096, 4096) :: [] }, 4096, 4096, [], by decide⟩,
    ⟨{ aRun with dev.host.ctrls := [(4096, { aCtrl with enabled := true })] }, 4096, { aCtrl with enabled := true }, 2, 4096,
      ((identifyData ({ aRun with dev.host.ctrls := [(4096, { aCtrl with enabled := true })] } : State).dev 4096 2 4096).getD []),
      by decide⟩,
    ⟨{ aRun with dev.host.ctrls := [(4096, { aCtrl with enabled := true })] }, 4096, { aCtrl with enabled := true }, 4096, 4096, by
      decide⟩,
    ⟨{ aRun with dev.host.ctrls := [(4096, { aCtrl with enabled := true })], dev.host.nss := [(4096, aNs)] }, 4096,
      { aCtrl with enabled := true }, 4096, aNs, by decide⟩,
    ⟨{ aRun with dev.host.ctrls := [(4096, { aCtrl with enabled := true })] }, 4096, { aCtrl with enabled := true }, 4096, by
      decide⟩,
    ⟨{ aRun with dev.host.ctrls := [(4096, { aCtrl with enabled := true })] }, 4096, 4096, { aCtrl with enabled := true }, 4095, by
      decide⟩⟩

/-- The hypotheses of `Obligations.ManagerCommands` can be met. -/
theorem witness_ManagerCommands :
    (∃ (s : State), (s.dev.mhi.mboxReady = false ∨ s.dev.mhi.mboxBusy = true ∧ s.dev.mhi.mboxPending = false))
    ∧ (∃ (s : State) (g : ℕ), s.dev.mhi.mboxReady = true ∧ (s.dev.mhi.mboxBusy = false ∨ s.dev.mhi.mboxPending = true) ∧ g ≠ 165)
    ∧ (∃ (s : State) (k : ℕ) (h : List Byte), s.dev.mhi.mboxReady = true ∧ (s.dev.mhi.mboxBusy = false ∨ s.dev.mhi.mboxPending =
      true) ∧ k < 4 ∧ h.length = 48 ∧ tget s.dev.boot.fuses.signer k = none)
    ∧ (∃ (s : State) (k : ℕ) (h : List Byte), s.dev.mhi.mboxReady = true ∧ (s.dev.mhi.mboxBusy = false ∨ s.dev.mhi.mboxPending =
      true) ∧ k < 4 ∧ h.length = 48 ∧ thas s.dev.boot.fuses.signer k = true)
    ∧ (∃ (s : State) (k : ℕ) (g : ℕ), s.dev.mhi.mboxReady = true ∧ (s.dev.mhi.mboxBusy = false ∨ s.dev.mhi.mboxPending = true) ∧ (4
      ≤ k ∨ g ≠ 165))
    ∧ (∃ (s : State) (k : ℕ), s.dev.mhi.mboxReady = true ∧ (s.dev.mhi.mboxBusy = false ∨ s.dev.mhi.mboxPending = true) ∧ k < 4 ∧
      thas s.dev.boot.fuses.signer k = false)
    ∧ (∃ (s : State) (k : ℕ), s.dev.mhi.mboxReady = true ∧ (s.dev.mhi.mboxBusy = false ∨ s.dev.mhi.mboxPending = true) ∧ k < 4 ∧
      thas s.dev.boot.fuses.signer k = true ∧ goodSigners s.dev = [k])
    ∧ (∃ (s : State) (k : ℕ), s.dev.mhi.mboxReady = true ∧ (s.dev.mhi.mboxBusy = false ∨ s.dev.mhi.mboxPending = true) ∧ k < 4 ∧
      thas s.dev.boot.fuses.signer k = true ∧ goodSigners s.dev ≠ [k])
    ∧ (∃ (s : State) (a : NetAddr), s.dev.mhi.mboxReady = true ∧ (s.dev.mhi.mboxBusy = false ∨ s.dev.mhi.mboxPending = true) ∧
      netAddrOk a = false)
    ∧ (∃ (s : State) (a : NetAddr), s.dev.mhi.mboxReady = true ∧ (s.dev.mhi.mboxBusy = false ∨ s.dev.mhi.mboxPending = true) ∧
      netAddrOk a = true)
    ∧ (∃ (s : State) (i : ℕ), s.dev.mhi.mboxReady = true ∧ (s.dev.mhi.mboxBusy = false ∨ s.dev.mhi.mboxPending = true) ∧ 32 ≤ i)
    ∧ (∃ (s : State) (i : ℕ), s.dev.mhi.mboxReady = true ∧ (s.dev.mhi.mboxBusy = false ∨ s.dev.mhi.mboxPending = true) ∧ i < 32 ∧
      thas s.dev.net.addrs i = false)
    ∧ (∃ (s : State) (i : ℕ), s.dev.mhi.mboxReady = true ∧ (s.dev.mhi.mboxBusy = false ∨ s.dev.mhi.mboxPending = true) ∧ i < 32 ∧
      thas s.dev.net.addrs i = true)
    ∧ (∃ (s : State) (n : ℕ), s.dev.mhi.mboxReady = true ∧ (s.dev.mhi.mboxBusy = false ∨ s.dev.mhi.mboxPending = true) ∧ 3 < n)
    ∧ (∃ (s : State) (n : ℕ), s.dev.mhi.mboxReady = true ∧ (s.dev.mhi.mboxBusy = false ∨ s.dev.mhi.mboxPending = true) ∧ n ≤ 3)
    ∧ (∃ (x : Dev), x.mhi.mboxBusy = true)
    ∧ (∃ (x : Dev), x.mhi.mboxBusy = false) := by
  exact ⟨⟨{ aRun with dev.mhi.mboxReady := false }, by decide⟩,
    ⟨{ aRun with dev.mhi.mboxReady := true, dev.mhi.mboxBusy := false }, 4096, by decide⟩,
    ⟨{ aRun with dev.mhi.mboxReady := true, dev.mhi.mboxBusy := false }, 3, (List.replicate 48 0#8), by decide⟩,
    ⟨{ aRun with dev.mhi.mboxReady := true, dev.mhi.mboxBusy := false, dev.boot.fuses.signer := [(3, 1)] }, 3, (List.replicate 48
      0#8), by decide⟩,
    ⟨{ aRun with dev.mhi.mboxReady := true, dev.mhi.mboxBusy := false }, 4096, 4096, by decide⟩,
    ⟨{ aRun with dev.mhi.mboxReady := true, dev.mhi.mboxBusy := false }, 3, by decide⟩,
    ⟨{ aRun with dev.mhi.mboxReady := true, dev.mhi.mboxBusy := false, dev.boot.fuses.signer := [(3, 1)] }, 3, by decide⟩,
    ⟨{ aRun with dev.mhi.mboxReady := true, dev.mhi.mboxBusy := false, dev.boot.fuses.signer := [(3, 1)], dev.boot.fuses.signerRevoked := 0xF },
      3, by decide⟩,
    ⟨{ aRun with dev.mhi.mboxReady := true, dev.mhi.mboxBusy := false }, { aNetAddr with index := 32 }, by decide⟩,
    ⟨{ aRun with dev.mhi.mboxReady := true, dev.mhi.mboxBusy := false }, aNetAddr, by decide⟩,
    ⟨{ aRun with dev.mhi.mboxReady := true, dev.mhi.mboxBusy := false }, 4096, by decide⟩,
    ⟨{ aRun with dev.mhi.mboxReady := true, dev.mhi.mboxBusy := false }, 31, by decide⟩,
    ⟨{ aRun with dev.mhi.mboxReady := true, dev.mhi.mboxBusy := false, dev.net.addrs := [(31, aAddrState)] }, 31, by decide⟩,
    ⟨{ aRun with dev.mhi.mboxReady := true, dev.mhi.mboxBusy := false }, 4096, by decide⟩,
    ⟨{ aRun with dev.mhi.mboxReady := true, dev.mhi.mboxBusy := false }, 3, by decide⟩,
    ⟨{ aRun.dev with mhi.mboxBusy := true }, by decide⟩,
    ⟨{ aRun.dev with mhi.mboxBusy := false }, by decide⟩⟩

/-- The hypotheses of `Obligations.MemberReads` can be met. -/
theorem witness_MemberReads :
    (∃ (s : State) (tag : ℕ) (c : Cmd), tget s.dev.adm.cmds tag = some c ∧ isRead c.kind = true)
    ∧ (∃ (s : State) (tag : ℕ) (c : Cmd), tget s.dev.adm.cmds tag = some c ∧ isRead c.kind = false)
    ∧ (∃ (s : State) (tag : ℕ) (c : Cmd) (i : ℕ), tget s.dev.adm.cmds tag = some c ∧ c.blocks.getD i BlockSource.lost =
      BlockSource.waiting ∧ resolve s.dev c.nsid (firstLba c + i) c.asn = Resolved.wait)
    ∧ (∃ (s : State) (tag : ℕ) (c : Cmd) (i : ℕ) (b : Machine.Block), tget s.dev.adm.cmds tag = some c ∧ c.blocks.getD i
      BlockSource.lost = BlockSource.waiting ∧ resolve s.dev c.nsid (firstLba c + i) c.asn = Resolved.data b)
    ∧ (∃ (s : State) (tag : ℕ) (c : Cmd) (i : ℕ) (p : ℕ), tget s.dev.adm.cmds tag = some c ∧ c.blocks.getD i BlockSource.lost =
      BlockSource.waiting ∧ resolve s.dev c.nsid (firstLba c + i) c.asn = Resolved.fetch p)
    ∧ (∃ (s : State) (tag : ℕ) (c : Cmd) (i : ℕ), tget s.dev.adm.cmds tag = some c ∧ c.blocks.getD i BlockSource.lost =
      BlockSource.waiting ∧ resolve s.dev c.nsid (firstLba c + i) c.asn = Resolved.zero ∧ (lowerWrites s.dev c.nsid (firstLba c +
      i) c.asn).isEmpty = false)
    ∧ (∃ (s : State) (m : ℕ) (c : MemberCmd) (p : Place), tget s.dev.shelf.cmds m = some c ∧ c.op = MemberOp.readBlock p ∧ c.phase
      = MemberPhase.queued)
    ∧ (∃ (s : State) (m : ℕ) (c : MemberCmd) (p : Place) (st : Stripe) (r : ReadBack) (v : ℕ), tget s.dev.shelf.cmds m = some c ∧
      c.op = MemberOp.readBlock p ∧ c.phase ≠ MemberPhase.queued ∧ rowAt (occur 6 1 4096 (memberAttr c.bay 0) (memberEnd m
      (memberCells m c s.dev))) p.shoal p.row = some st ∧ c.recon = false ∧ checkBlock (expected p c.joined (occur 6 1 4096
      (memberAttr c.bay 0) (memberEnd m (memberCells m c s.dev)))).2 st (expected p c.joined (occur 6 1 4096 (memberAttr c.bay 0)
      (memberEnd m (memberCells m c s.dev)))).1 r = BlockCheck.good v)
    ∧ (∃ (s : State) (m : ℕ) (c : MemberCmd) (p : Place) (st : Stripe), tget s.dev.shelf.cmds m = some c ∧ c.op =
      MemberOp.readBlock p ∧ c.phase ≠ MemberPhase.queued ∧ rowAt (occur 6 1 4096 (memberAttr c.bay 0) (memberEnd m (memberCells m
      c s.dev))) p.shoal p.row = some st ∧ c.recon = true)
    ∧ (∃ (s : State) (m : ℕ) (c : MemberCmd) (p : Place) (st : Stripe) (late : List ℕ) (l : List (ℕ × ℕ)), tget s.dev.shelf.cmds m
      = some c ∧ c.op = MemberOp.readBlock p ∧ rowAt s.dev p.shoal p.row = some st ∧ (c.joined = [] ∨ readableAt s.dev p (slotPos
      (stripeGeom s.dev st) st.row p.slot :: List.flatMap (fun (q : ℕ) => [(q, (slotPos (stripeGeom s.dev st) st.row p.slot).2),
      (q, 31)]) late ++ l) = false))
    ∧ (∃ (s : State) (m : ℕ) (c : MemberCmd) (p : Place) (st : Stripe) (o : ReadBack) (late : List ℕ) (l : List (ℕ × ℕ)) (v : ℕ),
      tget s.dev.shelf.cmds m = some c ∧ c.op = MemberOp.readBlock p ∧ rowAt s.dev p.shoal p.row = some st ∧ c.joined ≠ [] ∧
      readableAt s.dev p (slotPos (stripeGeom s.dev st) st.row p.slot :: List.flatMap (fun (q : ℕ) => [(q, (slotPos (stripeGeom
      s.dev st) st.row p.slot).2), (q, 31)]) late ++ l) = true ∧ checkBlock (expected p c.joined s.dev).2 st (expected p c.joined
      s.dev).1 o = BlockCheck.good v)
    ∧ (∃ (p : Place) (l : List (ℕ × ℕ)) (e : Dev) (st : Stripe), rowAt e p.shoal p.row = some st ∧ readableAt e p l = false)
    ∧ (∃ (p : Place) (o : ReadBack) (l : List (ℕ × ℕ)) (tags : List ℕ) (e : Dev) (st : Stripe) (v : ℕ), rowAt e p.shoal p.row =
      some st ∧ readableAt e p l = true ∧ checkBlock (expected p tags e).2 st (expected p tags e).1 o = BlockCheck.good v)
    ∧ (∃ (p : Place) (l : List (ℕ × ℕ)) (e : Dev) (st : Stripe), rowAt e p.shoal p.row = some st ∧ readableAt e p l = true)
    ∧ (∃ (p : Place) (o : ReadBack) (l : List (ℕ × ℕ)) (tags : List ℕ) (e : Dev) (st : Stripe), rowAt e p.shoal p.row = some st ∧
      readableAt e p l = true ∧ checkBlock (expected p tags e).2 st (expected p tags e).1 o = BlockCheck.bad)
    ∧ (∃ (e : Dev) (b : Machine.Block) (m : ℕ) (x : ℕ), (((Option.map (fun (x : Ns) => x.auth) (tget e.host.nss b.nsid)).getD
      false) = false ∨ bits m 351 224 = blockTag b.key b.nsid b.lba (bits m 63 0) x))
    ∧ (∃ (s : State) (m : ℕ) (c : MemberCmd), tget s.dev.shelf.cmds m = some c ∧ c.phase = MemberPhase.reissued)
    ∧ (∃ (s : State) (m : ℕ) (c : MemberCmd) (p : Place) (st : Stripe) (r : ReadBack), tget s.dev.shelf.cmds m = some c ∧ c.op =
      MemberOp.readBlock p ∧ c.phase ≠ MemberPhase.queued ∧ rowAt (occur 6 1 4096 (memberAttr c.bay 0) (memberEnd m (memberCells m
      c s.dev))) p.shoal p.row = some st ∧ c.recon = false ∧ (∀ (v : ℕ), checkBlock (expected p c.joined (occur 6 1 4096
      (memberAttr c.bay 0) (memberEnd m (memberCells m c s.dev)))).2 st (expected p c.joined (occur 6 1 4096 (memberAttr c.bay 0)
      (memberEnd m (memberCells m c s.dev)))).1 r ≠ BlockCheck.good v))
    ∧ (∃ (e : Dev) (b : Machine.Block), ((Option.map (fun (x : Ns) => x.auth) (tget e.host.nss b.nsid)).getD false) = true) := by
  exact ⟨⟨{ aRun with dev.adm.cmds := [(4096, { aCmd with kind := .read })] }, 4096, { aCmd with kind := .read }, by decide⟩,
    ⟨{ aRun with dev.adm.cmds := [(4096, aCmd)] }, 4096, aCmd, by decide⟩,
    ⟨{ aHost with dev.adm.cmds := [(0, { aCmd with kind := .read, ranges := [{ lba := 0, len := 1 }], blocks := [.waiting], asn := 2, inTracker := true }), (1, { aCmd with asn := 1, inTracker := true, ranges := [{ lba := 0, len := 1 }], pages := [some 0] })] },
      0, { aCmd with kind := .read, ranges := [{ lba := 0, len := 1 }], blocks := [.waiting], asn := 2, inTracker := true }, 0, by
      decide⟩,
    ⟨{ aHost with dev.adm.cmds := [(0, { aCmd with kind := .read, ranges := [{ lba := 0, len := 1 }], blocks := [.waiting], asn := 2, inTracker := true }), (1, { aCmd with asn := 1, inTracker := true, ranges := [{ lba := 0, len := 1 }], pages := [some 0], settled := true })], dev.pool.pages := [(0, aStagePage)] },
      0, { aCmd with kind := .read, ranges := [{ lba := 0, len := 1 }], blocks := [.waiting], asn := 2, inTracker := true }, 0,
      aBlock, by decide⟩,
    ⟨{ aHost with dev.adm.cmds := [(0, { aCmd with kind := .read, ranges := [{ lba := 0, len := 1 }], blocks := [.waiting], asn := 2, inTracker := true })], dev.str.dir := [(dirKey 0 0, aPlace)] },
      0, { aCmd with kind := .read, ranges := [{ lba := 0, len := 1 }], blocks := [.waiting], asn := 2, inTracker := true }, 0, 0,
      by decide⟩,
    ⟨{ aHost with dev.adm.cmds := [(0, { aCmd with kind := .read, ranges := [{ lba := 0, len := 1 }], blocks := [.waiting], asn := 2, inTracker := true }), (1, { aCmd with kind := .writeZeroes, asn := 1, inTracker := true, ranges := [{ lba := 0, len := 1 }], settled := true })] },
      0, { aCmd with kind := .read, ranges := [{ lba := 0, len := 1 }], blocks := [.waiting], asn := 2, inTracker := true }, 0, by
      decide⟩,
    ⟨{ aRun with dev.shelf.cmds := [(4096, { aMemberCmd with op := MemberOp.readBlock aPlace, phase := MemberPhase.queued })] },
      4096, { aMemberCmd with op := MemberOp.readBlock aPlace, phase := MemberPhase.queued }, aPlace, by decide⟩,
    ⟨{ aRun with dev.shelf.cmds := [(4095, { aMemberCmd with op := .readBlock aPlace, bay := 0, phase := .issued, joined := [0] })], dev.str.rows := [(rkey 0 0, { aStripe with life := .committed, live := 1, slots := [some { aBlock with data := 7 }], gen := 1 })], dev.shelf.labels := [(0, { roster := [(0, { bay := 0, state := .online }), (1, { bay := 1, state := .online }), (2, { bay := 2, state := .online }), (3, { bay := 3, state := .online })] })] },
      4095, { aMemberCmd with op := .readBlock aPlace, bay := 0, phase := .issued, joined := [0] }, aPlace,
      { aStripe with life := .committed, live := 1, slots := [some { aBlock with data := 7 }], gen := 1 }, (.stored : ReadBack), 7,
      by decide⟩,
    ⟨{ aRun with dev.shelf.cmds := [(4095, { aMemberCmd with op := .readBlock aPlace, recon := true, bay := 0, phase := .issued, joined := [0] })], dev.str.rows := [(rkey 0 0, { aStripe with life := .committed, live := 1, slots := [some { aBlock with data := 7 }], gen := 1 })], dev.shelf.labels := [(0, { roster := [(0, { bay := 0, state := .online }), (1, { bay := 1, state := .online }), (2, { bay := 2, state := .online }), (3, { bay := 3, state := .online })] })] },
      4095, { aMemberCmd with op := .readBlock aPlace, recon := true, bay := 0, phase := .issued, joined := [0] }, aPlace,
      { aStripe with life := .committed, live := 1, slots := [some { aBlock with data := 7 }], gen := 1 }, by decide⟩,
    ⟨{ aRun with dev.shelf.cmds := [(4096, { aMemberCmd with op := MemberOp.readBlock aPlace })], dev.str.rows := [((rkey aPlace.shoal aPlace.row), aStripe)] },
      4096, { aMemberCmd with op := MemberOp.readBlock aPlace }, aPlace, aStripe, [], [], by decide⟩,
    ⟨{ aRun with dev.shelf.cmds := [(4095, { aMemberCmd with op := .readBlock aPlace, bay := 0, phase := .issued, joined := [0] })], dev.str.rows := [(rkey 0 0, { aStripe with life := .committed, live := 1, slots := [some { aBlock with data := 7 }], gen := 1 })], dev.shelf.labels := [(0, { roster := [(0, { bay := 0, state := .online }), (1, { bay := 1, state := .online }), (2, { bay := 2, state := .online }), (3, { bay := 3, state := .online })] })] },
      4095, { aMemberCmd with op := .readBlock aPlace, bay := 0, phase := .issued, joined := [0] }, aPlace,
      { aStripe with life := .committed, live := 1, slots := [some { aBlock with data := 7 }], gen := 1 }, (.stored : ReadBack),
      [1], [], 7, by decide⟩,
    ⟨aPlace, [], { aRun.dev with str.rows := [((rkey aPlace.shoal aPlace.row), aStripe)] }, aStripe, by decide⟩,
    ⟨aPlace, (.stored : ReadBack), [], [0],
      { aRun.dev with str.rows := [(rkey 0 0, { aStripe with life := .committed, live := 1, slots := [some { aBlock with data := 7 }], gen := 1 })], shelf.labels := [(0, { roster := [(0, { bay := 0, state := .online }), (1, { bay := 1, state := .online }), (2, { bay := 2, state := .online }), (3, { bay := 3, state := .online })] })] },
      { aStripe with life := .committed, live := 1, slots := [some { aBlock with data := 7 }], gen := 1 }, 7, by decide⟩,
    ⟨aPlace, [],
      { aRun.dev with str.rows := [(rkey 0 0, { aStripe with life := .committed, live := 1, slots := [some { aBlock with data := 7 }], gen := 1 })], shelf.labels := [(0, { roster := [(0, { bay := 0, state := .online }), (1, { bay := 1, state := .online }), (2, { bay := 2, state := .online }), (3, { bay := 3, state := .online })] })] },
      { aStripe with life := .committed, live := 1, slots := [some { aBlock with data := 7 }], gen := 1 }, by decide⟩,
    ⟨aPlace, (.error : ReadBack), [], [0],
      { aRun.dev with str.rows := [(rkey 0 0, { aStripe with life := .committed, live := 1, slots := [some { aBlock with data := 7 }], gen := 1 })], shelf.labels := [(0, { roster := [(0, { bay := 0, state := .online }), (1, { bay := 1, state := .online }), (2, { bay := 2, state := .online }), (3, { bay := 3, state := .online })] })] },
      { aStripe with life := .committed, live := 1, slots := [some { aBlock with data := 7 }], gen := 1 }, by decide⟩,
    ⟨(aRun.dev : Dev), aBlock, 4096, 4096, by decide⟩,
    ⟨{ aRun with dev.shelf.cmds := [(4096, { aMemberCmd with phase := MemberPhase.reissued })] }, 4096,
      { aMemberCmd with phase := MemberPhase.reissued }, by decide⟩,
    ⟨{ aRun with dev.shelf.cmds := [(4095, { aMemberCmd with op := .readBlock aPlace, joined := [0] })], dev.str.rows := [(rkey 0 0, { aStripe with life := .committed, live := 1, slots := [some aBlock], gen := 1 })], dev.shelf.labels := [(0, { roster := [(0, { bay := 0, state := .online }), (1, { bay := 1, state := .online }), (2, { bay := 2, state := .online }), (3, { bay := 3, state := .online })] })] },
      4095, { aMemberCmd with op := .readBlock aPlace, joined := [0] }, aPlace,
      { aStripe with life := .committed, live := 1, slots := [some aBlock], gen := 1 }, .error, by decide, by decide, by decide, by
      decide, by decide, by intro v h; have h2 : BlockCheck.bad = BlockCheck.good v := h; cases h2⟩,
    ⟨{ aRun.dev with host.nss := [(1, { aNs with auth := true })] }, aBlock, by decide⟩⟩

/-- The hypotheses of `Obligations.MemberStates` can be met. -/
theorem witness_MemberStates :
    (∃ (s : State) (sh : ℕ) (pos : ℕ) (st : MemberState) (e : RosterEntry), tget (labelOf s.dev sh).roster pos = some e ∧ e.state ≠
      st ∧ pos < 32)
    ∧ (∃ (s : State) (b : ℕ) (v : Drive) (sh : ℕ) (pos : ℕ) (ms : ℕ), tget s.dev.shelf.drives b = some v ∧ rosterOfBay s.dev b =
      some (sh, pos) ∧ stateOf s.dev sh pos = some MemberState.online ∧ ms ≤ (chartOf s.dev).storage.slowThreshold)
    ∧ (∃ (s : State) (b : ℕ) (v : Drive) (sh : ℕ) (pos : ℕ) (ms : ℕ), tget s.dev.shelf.drives b = some v ∧ rosterOfBay s.dev b =
      some (sh, pos) ∧ stateOf s.dev sh pos = some MemberState.online ∧ (chartOf s.dev).storage.slowThreshold < ms)
    ∧ (∃ (s : State) (b : ℕ) (v : Drive) (sh : ℕ) (pos : ℕ) (ms : ℕ), tget s.dev.shelf.drives b = some v ∧ rosterOfBay s.dev b =
      some (sh, pos) ∧ stateOf s.dev sh pos = some MemberState.slow ∧ (chartOf s.dev).storage.slowThreshold < ms ∧ v.past + 1 <
      (chartOf s.dev).storage.slowWindow * 10)
    ∧ (∃ (s : State) (b : ℕ) (v : Drive) (sh : ℕ) (pos : ℕ) (ms : ℕ), tget s.dev.shelf.drives b = some v ∧ rosterOfBay s.dev b =
      some (sh, pos) ∧ stateOf s.dev sh pos = some MemberState.slow ∧ (chartOf s.dev).storage.slowThreshold < ms ∧ (chartOf
      s.dev).storage.slowWindow * 10 ≤ v.past + 1 ∧ wouldExceed
      (({ s.dev with shelf.drives := tput s.dev.shelf.drives b { (({ v with lats := (ms :: v.lats).take 6000 } : Drive)) with past := v.past + 1, under := 0 } }
      : Dev)) sh pos = false)
    ∧ (∃ (s : State) (b : ℕ) (v : Drive) (sh : ℕ) (pos : ℕ) (ms : ℕ), tget s.dev.shelf.drives b = some v ∧ rosterOfBay s.dev b =
      some (sh, pos) ∧ stateOf s.dev sh pos = some MemberState.slow ∧ (chartOf s.dev).storage.slowThreshold < ms ∧ (chartOf
      s.dev).storage.slowWindow * 10 ≤ v.past + 1 ∧ wouldExceed
      (({ s.dev with shelf.drives := tput s.dev.shelf.drives b { (({ v with lats := (ms :: v.lats).take 6000 } : Drive)) with past := v.past + 1, under := 0 } }
      : Dev)) sh pos = true)
    ∧ (∃ (s : State) (b : ℕ) (v : Drive) (sh : ℕ) (pos : ℕ) (ms : ℕ), tget s.dev.shelf.drives b = some v ∧ rosterOfBay s.dev b =
      some (sh, pos) ∧ stateOf s.dev sh pos = some MemberState.slow ∧ ms ≤ (chartOf s.dev).storage.slowThreshold ∧ v.under + 1 <
      10)
    ∧ (∃ (s : State) (b : ℕ) (v : Drive) (sh : ℕ) (pos : ℕ) (ms : ℕ), tget s.dev.shelf.drives b = some v ∧ rosterOfBay s.dev b =
      some (sh, pos) ∧ stateOf s.dev sh pos = some MemberState.slow ∧ ms ≤ (chartOf s.dev).storage.slowThreshold ∧ writeOverdue
      (({ s.dev with shelf.drives := tput s.dev.shelf.drives b { (({ v with lats := (ms :: v.lats).take 6000 } : Drive)) with past := 0, under := v.under + 1 } }
      : Dev)) b = true)
    ∧ (∃ (s : State) (b : ℕ) (v : Drive) (sh : ℕ) (pos : ℕ) (ms : ℕ), tget s.dev.shelf.drives b = some v ∧ rosterOfBay s.dev b =
      some (sh, pos) ∧ stateOf s.dev sh pos = some MemberState.slow ∧ ms ≤ (chartOf s.dev).storage.slowThreshold ∧ 10 ≤ v.under + 1
      ∧ writeOverdue
      (({ s.dev with shelf.drives := tput s.dev.shelf.drives b { (({ v with lats := (ms :: v.lats).take 6000 } : Drive)) with past := 0, under := v.under + 1 } }
      : Dev)) b = false ∧ folded
      (({ s.dev with shelf.drives := tput s.dev.shelf.drives b { (({ v with lats := (ms :: v.lats).take 6000 } : Drive)) with past := 0, under := v.under + 1 } }
      : Dev)) sh pos = true)
    ∧ (∃ (s : State) (b : ℕ) (v : Drive) (sh : ℕ) (pos : ℕ) (ms : ℕ), tget s.dev.shelf.drives b = some v ∧ rosterOfBay s.dev b =
      some (sh, pos) ∧ stateOf s.dev sh pos = some MemberState.slow ∧ ms ≤ (chartOf s.dev).storage.slowThreshold ∧ 10 ≤ v.under + 1
      ∧ writeOverdue
      (({ s.dev with shelf.drives := tput s.dev.shelf.drives b { (({ v with lats := (ms :: v.lats).take 6000 } : Drive)) with past := 0, under := v.under + 1 } }
      : Dev)) b = false ∧ folded
      (({ s.dev with shelf.drives := tput s.dev.shelf.drives b { (({ v with lats := (ms :: v.lats).take 6000 } : Drive)) with past := 0, under := v.under + 1 } }
      : Dev)) sh pos = false)
    ∧ (∃ (s : State) (b : ℕ) (v : Drive), tget s.dev.shelf.drives b = some v ∧ v.linkUp = false)
    ∧ (∃ (s : State) (b : ℕ) (v : Drive), tget s.dev.shelf.drives b = some v ∧ v.linkUp = true)
    ∧ (∃ (s : State) (b : ℕ), (List.any s.dev.shelf.cmds fun (e : ℕ × MemberCmd) => e.2.bay == b && e.2.op ==
      MemberOp.resetController) = true)
    ∧ (∃ (s : State) (sh : ℕ) (pos : ℕ), stateOf s.dev sh pos = some MemberState.absent)
    ∧ (∃ (s : State) (sh : ℕ) (pos : ℕ), stateOf s.dev sh pos ≠ some MemberState.absent)
    ∧ (∃ (s : State) (b : ℕ) (sh : ℕ) (pos : ℕ) (st : MemberState), thas s.dev.shelf.drives b = false ∧ posOfBay s.dev b = some
      (sh, pos) ∧ stateOf s.dev sh pos = some st ∧ st ∉ [MemberState.failed, MemberState.absent, MemberState.rebuilding] ∧
      assembledShoal (setState sh pos .absent
      { s.dev with shelf.absentAt := tput s.dev.shelf.absentAt (posKey sh pos) (elapsed s.dev) }) sh = true)
    ∧ (∃ (s : State) (b : ℕ) (sh : ℕ) (pos : ℕ) (st : MemberState), thas s.dev.shelf.drives b = false ∧ posOfBay s.dev b = some
      (sh, pos) ∧ stateOf s.dev sh pos = some st ∧ st ∉ [MemberState.failed, MemberState.absent, MemberState.rebuilding] ∧
      assembledShoal (setState sh pos .absent
      { s.dev with shelf.absentAt := tput s.dev.shelf.absentAt (posKey sh pos) (elapsed s.dev) }) sh = false)
    ∧ (∃ (s : State) (b : ℕ) (sh : ℕ) (pos : ℕ) (st : MemberState), thas s.dev.shelf.drives b = false ∧ posOfBay s.dev b = some
      (sh, pos) ∧ stateOf s.dev sh pos = some st ∧ st = MemberState.rebuilding)
    ∧ (∃ (s : State) (b : ℕ), thas s.dev.shelf.drives b = true) := by
  exact ⟨⟨{ aRun with dev.shelf.labels := [(4096, { roster := [(31, aRosterEntry)] })] }, 4096, 31, .slow, aRosterEntry, by decide⟩,
    ⟨{ aRun with dev.shelf.drives := [(0, aDrive)], dev.shelf.labels := [(0, { roster := [(0, { bay := 0, state := .online, serial := 1 })] })] },
      0, aDrive, 0, 0, 20000, by decide⟩,
    ⟨{ aRun with dev.shelf.drives := [(0, aDrive)], dev.shelf.labels := [(0, { roster := [(0, { bay := 0, state := .online, serial := 1 })] })] },
      0, aDrive, 0, 0, 20001, by decide⟩,
    ⟨{ aRun with dev.shelf.drives := [(0, { aDrive with past := 98 })], dev.shelf.labels := [(0, { roster := [(0, { bay := 0, state := .slow, serial := 1 })] })] },
      0, { aDrive with past := 98 }, 0, 0, 20001, by decide⟩,
    ⟨{ aRun with dev.shelf.drives := [(0, { aDrive with past := 99 })], dev.shelf.labels := [(0, { roster := [(0, { bay := 0, state := .slow, serial := 1 })] })] },
      0, { aDrive with past := 99 }, 0, 0, 20001, by decide⟩,
    ⟨{ aRun with dev.shelf.drives := [(0, { aDrive with past := 99 })], dev.shelf.labels := [(0, { roster := [(0, { bay := 0, state := .slow, serial := 1 })] })], dev.str.rows := [(rkey 0 0, { aStripe with life := .committed, live := 1, late := 0xC })] },
      0, { aDrive with past := 99 }, 0, 0, 20001, by decide⟩,
    ⟨{ aRun with dev.shelf.drives := [(0, { aDrive with under := 8 })], dev.shelf.labels := [(0, { roster := [(0, { bay := 0, state := .slow, serial := 1 })] })] },
      0, { aDrive with under := 8 }, 0, 0, 20000, by decide⟩,
    ⟨{ aRun with dev.shelf.drives := [(0, aDrive)], dev.shelf.labels := [(0, { roster := [(0, { bay := 0, state := .slow, serial := 1 })] })], dev.shelf.cmds := [(0, { aMemberCmd with bay := 0, op := .writeStrip 0 0 0 })], dev.clk.elapsed16 := 1600000000000000 },
      0, aDrive, 0, 0, 20000, by decide⟩,
    ⟨{ aRun with dev.shelf.drives := [(0, { aDrive with under := 9 })], dev.shelf.labels := [(0, { roster := [(0, { bay := 0, state := .slow, serial := 1 })], resync := [aResync] })] },
      0, { aDrive with under := 9 }, 0, 0, 20000, by decide⟩,
    ⟨{ aRun with dev.shelf.drives := [(0, { aDrive with under := 9 })], dev.shelf.labels := [(0, { roster := [(0, { bay := 0, state := .slow, serial := 1 })] })] },
      0, { aDrive with under := 9 }, 0, 0, 20000, by decide⟩,
    ⟨{ aRun with dev.shelf.drives := [(4096, { aDrive with linkUp := false })] }, 4096, { aDrive with linkUp := false }, by decide⟩,
    ⟨{ aRun with dev.shelf.drives := [(4096, { aDrive with linkUp := true })] }, 4096, { aDrive with linkUp := true }, by decide⟩,
    ⟨{ aRun with dev.shelf.cmds := [(0, { aMemberCmd with bay := 4096, op := .resetController })] }, 4096, by decide⟩,
    ⟨{ aRun with dev.shelf.labels := [(0, { roster := [(0, { bay := 0, state := .absent, serial := 1 })] })] }, 0, 0, by decide⟩,
    ⟨aRun, 4096, 4096, by decide⟩,
    ⟨{ aRun with dev.shelf.labels := [(0, { roster := [(0, { bay := 0, state := .online, serial := 1 })] })] }, 0, 0, 0, .online,
      by decide⟩,
    ⟨{ aRun with dev.shelf.labels := [(0, { roster := [(0, { bay := 0, state := .online, serial := 1 })] })], dev.str.shoals := [] },
      0, 0, 0, .online, by decide⟩,
    ⟨{ aRun with dev.shelf.labels := [(0, { roster := [(0, { bay := 0, state := .rebuilding, serial := 1 })] })] }, 0, 0, 0,
      MemberState.rebuilding, by decide⟩,
    ⟨{ aRun with dev.shelf.drives := [(31, aDrive)] }, 31, by decide⟩⟩

/-- The hypotheses of `Obligations.MemoryKept` can be met. -/
theorem witness_MemoryKept :
    (∃ (s : State) (t : State), MemOk s ∧ step s = Host.Outcome.next t) := by
  exact ⟨State.reset, _, rfl, rfl⟩

/-- The hypotheses of `Obligations.MirrorFrames` can be met. -/
theorem witness_MirrorFrames :
    (∃ (s : State), s.dev.pair.straitUp = true ∧ s.dev.pair.nakFor = none ∧ mirroring s.dev = false ∧ s.dev.pair.settleWait =
      false)
    ∧ (∃ (s : State) (o : ℕ) (u : List ℕ), s.dev.pair.straitUp = true ∧ s.dev.pair.nakFor = none ∧ mirroring s.dev = true ∧ o +
      u.length ≤ 64 ∧ s.dev.pair.settleWait = false)
    ∧ (∃ (s : State) (o : ℕ) (u : List ℕ), s.dev.pair.straitUp = true ∧ s.dev.pair.nakFor = none ∧ mirroring s.dev = true ∧ 64 < o
      + u.length)
    ∧ (∃ (s : State) (x : NsDef), s.dev.pair.straitUp = true ∧ s.dev.pair.nakFor = none ∧ mirroring s.dev = true ∧ x.present =
      false)
    ∧ (∃ (s : State) (x : NsDef) (o : Ns), s.dev.pair.straitUp = true ∧ s.dev.pair.nakFor = none ∧ mirroring s.dev = true ∧
      x.present = true ∧ tget s.dev.host.nss x.nsid = some o)
    ∧ (∃ (s : State) (b : Binding), s.dev.pair.straitUp = true ∧ s.dev.pair.nakFor = none ∧ mirroring s.dev = true ∧ b.valid =
      true)
    ∧ (∃ (s : State) (b : Binding), s.dev.pair.straitUp = true ∧ s.dev.pair.nakFor = none ∧ mirroring s.dev = true ∧ b.valid =
      false ∧ b.hostid = 0 ∧ b.maxAssoc = 0)
    ∧ (∃ (s : State) (r : KeyRecord), s.dev.pair.straitUp = true ∧ s.dev.pair.nakFor = none ∧ mirroring s.dev = true ∧ r.kind = 0)
    ∧ (∃ (s : State) (r : KeyRecord), s.dev.pair.straitUp = true ∧ s.dev.pair.nakFor = none ∧ mirroring s.dev = true ∧ r.kind ≠ 0)
    ∧ (∃ (s : State), s.dev.pair.straitUp = true ∧ s.dev.pair.nakFor = none ∧ mirroring s.dev = false ∧ s.dev.chart.adopt ≠ 0)
    ∧ (∃ (s : State) (h : StraitHdr) (o : ℕ) (u : List ℕ), s.dev.pair.straitUp = true ∧ s.dev.pair.nakFor = none ∧ o + u.length ≤
      64 ∧ s.dev.pair.settleWait = true ∧ h.sync = true)
    ∧ (∃ (s : State) (p : ℕ), s.dev.pair.straitUp = true ∧ s.dev.pair.nakFor = none ∧ (regionOf s.dev.pool.layout p ≠ Region.stage
      ∨ s.dev.pool.withdrawn.contains p = true) ∧ (s.dev.pool.withdrawn.contains p = true ∨ regionOf s.dev.pool.layout p ≠
      Region.stage))
    ∧ (∃ (s : State) (x : Dev), s.dev.pair.straitUp = true ∧ s.dev.pair.nakFor = none ∧ x.pair.poisoned = [])
    ∧ (∃ (s : State) (x : Dev), s.dev.pair.straitUp = true ∧ s.dev.pair.nakFor = none ∧ x.pair.poisoned ≠ [])
    ∧ (∃ (s : State) (p : ℕ), s.dev.pair.straitUp = true ∧ s.dev.pair.nakFor = none ∧ s.dev.pool.withdrawn.contains p = false ∧
      regionOf s.dev.pool.layout p = Region.stage ∧ tget s.dev.pool.pages p = none)
    ∧ (∃ (s : State) (p : ℕ), s.dev.pair.straitUp = true ∧ s.dev.pair.nakFor = none ∧ s.dev.pool.withdrawn.contains p = false ∧
      regionOf s.dev.pool.layout p = Region.stage ∧ serves s.dev = true ∧ joining s.dev = false ∧ thas s.dev.pool.pages p = true) := by
  exact ⟨⟨{ aRun with dev.pair.straitUp := true }, by decide⟩,
    ⟨{ aRun with dev.pair.straitUp := true, dev.pair.role := .standby, dev.pair.partner := 2 }, 64, [], by decide⟩,
    ⟨{ aRun with dev.pair.straitUp := true, dev.pair.role := .standby, dev.pair.partner := 2 }, 4096, [0, 0], by decide⟩,
    ⟨{ aRun with dev.pair.straitUp := true, dev.pair.role := .standby, dev.pair.partner := 2 }, { aNsDef with present := false },
      by decide⟩,
    ⟨{ aRun with dev.pair.straitUp := true, dev.pair.nakFor := none, dev.host.nss := [(({ aNsDef with present := true } : NsDef).nsid, aNs)], dev.pair.role := .standby, dev.pair.partner := 2 },
      { aNsDef with present := true }, aNs, by decide⟩,
    ⟨{ aRun with dev.pair.straitUp := true, dev.pair.role := .standby, dev.pair.partner := 2 }, { aBinding with valid := true }, by
      decide⟩,
    ⟨{ aRun with dev.pair.straitUp := true, dev.pair.role := .standby, dev.pair.partner := 2 },
      { aBinding with valid := false, hostid := 0, maxAssoc := 0 }, by decide⟩,
    ⟨{ aRun with dev.pair.straitUp := true, dev.pair.role := .standby, dev.pair.partner := 2 }, { aKeyRecord with kind := 0 }, by
      decide⟩,
    ⟨{ aRun with dev.pair.straitUp := true, dev.pair.role := .standby, dev.pair.partner := 2 }, { aKeyRecord with kind := 1 }, by
      decide⟩,
    ⟨{ aRun with dev.pair.straitUp := true, dev.chart.adopt := 1 }, by decide⟩,
    ⟨{ aRun with dev.pair.straitUp := true, dev.pair.settleWait := true }, { aStraitHdr with sync := true }, 64, [], by decide⟩,
    ⟨{ aRun with dev.pair.straitUp := true }, 65535, by decide⟩,
    ⟨{ aRun with dev.pair.straitUp := true }, aRun.dev, by decide⟩,
    ⟨{ aRun with dev.pair.straitUp := true }, { aRun.dev with pair.poisoned := [0] }, by decide⟩,
    ⟨{ aRun with dev.pair.straitUp := true }, 4096, by decide⟩,
    ⟨{ aRun with dev.pair.straitUp := true, dev.pool.pages := [(4096, aStagePage)] }, 4096, by decide⟩⟩

/-- The hypotheses of `Obligations.NamespacesFormatted` can be met. -/
theorem witness_NamespacesFormatted :
    (∃ (s : State) (c : ℕ) (k : Ctrl) (f : ℕ) (p : ℕ) (m : ℕ), c ≠ 0 ∧ ctrlOf s.dev c = some k ∧ k.enabled = true ∧ k.ended = false
      ∧ anaStatus s.dev = none ∧ s.dev.host.san.state ≠ 1 ∧ (f ≠ 0 ∨ p ≠ 0 ∨ m ≠ 0))
    ∧ (∃ (s : State) (c : ℕ) (k : Ctrl) (e : ℕ), c ≠ 0 ∧ ctrlOf s.dev c = some k ∧ k.enabled = true ∧ k.ended = false ∧ anaStatus
      s.dev = none ∧ s.dev.host.san.state ≠ 1 ∧ 2 < e)
    ∧ (∃ (s : State) (c : ℕ) (n : ℕ) (k : Ctrl) (e : ℕ), c ≠ 0 ∧ ctrlOf s.dev c = some k ∧ k.enabled = true ∧ k.ended = false ∧
      anaStatus s.dev = none ∧ s.dev.host.san.state ≠ 1 ∧ e ≤ 2 ∧ n ≠ 4294967295 ∧ attached s.dev c n = false)
    ∧ (∃ (s : State) (c : ℕ) (n : ℕ) (k : Ctrl) (e : ℕ), c ≠ 0 ∧ ctrlOf s.dev c = some k ∧ k.enabled = true ∧ k.ended = false ∧
      anaStatus s.dev = none ∧ s.dev.host.san.state ≠ 1 ∧ e ≤ 2 ∧ n ≠ 4294967295 ∧ attached s.dev c n = true ∧ (formatWait s.dev
      n).isSome = true)
    ∧ (∃ (s : State) (c : ℕ) (n : ℕ) (k : Ctrl) (e : ℕ), c ≠ 0 ∧ ctrlOf s.dev c = some k ∧ k.enabled = true ∧ k.ended = false ∧
      anaStatus s.dev = none ∧ s.dev.host.san.state ≠ 1 ∧ e ≤ 2 ∧ n ≠ 4294967295 ∧ attached s.dev c n = true ∧ formatWait s.dev n =
      none)
    ∧ (∃ (s : State) (c : ℕ) (k : Ctrl) (e : ℕ), c ≠ 0 ∧ ctrlOf s.dev c = some k ∧ k.enabled = true ∧ k.ended = false ∧ anaStatus
      s.dev = none ∧ s.dev.host.san.state ≠ 1 ∧ e ≤ 2 ∧ (List.filter (attached s.dev c) (List.map (fun (x : ℕ × Ns) => x.1)
      s.dev.host.nss)).any (inFormat s.dev) = false)
    ∧ (∃ (s : State) (c : ℕ) (n : ℕ) (k : Ctrl) (w : AdminWait), c ≠ 0 ∧ ctrlOf s.dev c = some k ∧ k.enabled = true ∧ k.ended =
      false ∧ anaStatus s.dev = none ∧ s.dev.host.san.state ≠ 1 ∧ formatWait s.dev n = some w ∧ (n ∉ s.dev.host.formatDrain ∨
      nsBusy s.dev n = true ∨ s.dev.keys.entropyOk = false))
    ∧ (∃ (s : State) (c : ℕ) (n : ℕ) (k : Ctrl) (w : AdminWait), c ≠ 0 ∧ ctrlOf s.dev c = some k ∧ k.enabled = true ∧ k.ended =
      false ∧ anaStatus s.dev = none ∧ s.dev.host.san.state ≠ 1 ∧ formatWait s.dev n = some w ∧ n ∈ s.dev.host.formatDrain ∧ nsBusy
      s.dev n = false ∧ s.dev.keys.entropyOk = true ∧ (Option.map unmapCount (tget s.dev.host.nss n)).getD 0 ≤ logFree s.dev ∧
      markStands s.dev n = false)
    ∧ (∃ (s : State) (c : ℕ) (n : ℕ) (k : Ctrl) (w : AdminWait), c ≠ 0 ∧ ctrlOf s.dev c = some k ∧ k.enabled = true ∧ k.ended =
      false ∧ anaStatus s.dev = none ∧ s.dev.host.san.state ≠ 1 ∧ formatWait s.dev n = some w ∧ n ∈ s.dev.host.formatDrain ∧ nsBusy
      s.dev n = false ∧ s.dev.keys.entropyOk = true ∧ markStands s.dev n = true ∧ (Option.map unmapCount (tget s.dev.host.nss
      n)).getD 0 ≤ logFree s.dev ∧ s.dev.host.waits = [w] ∧ w.kind = 2 ∧ (eraseFormat n (setFormat n .erasing 0 0
      { s.dev with host.formatDrain := s.dev.host.formatDrain.filter (fun x => x != n), host.waits := [] })).host.waits = [])
    ∧ (∃ (s : State) (c : ℕ) (n : ℕ) (k : Ctrl) (x : Ns), c ≠ 0 ∧ ctrlOf s.dev c = some k ∧ k.enabled = true ∧ k.ended = false ∧
      anaStatus s.dev = none ∧ s.dev.host.san.state ≠ 1 ∧ tget s.dev.host.nss n = some x ∧ formatWait s.dev n = none ∧ (x.fmt ≠
      FormatState.reclaiming ∨ 2 ≤ s.dev.pool.level ∨ s.dev.host.power = 3 ∨ housekeepingPaused s.dev = true))
    ∧ (∃ (s : State) (c : ℕ) (n : ℕ) (k : Ctrl) (x : Ns), c ≠ 0 ∧ ctrlOf s.dev c = some k ∧ k.enabled = true ∧ k.ended = false ∧
      anaStatus s.dev = none ∧ s.dev.host.san.state ≠ 1 ∧ tget s.dev.host.nss n = some x ∧ formatWait s.dev n = none ∧ x.fmt =
      FormatState.reclaiming ∧ s.dev.pool.level < 2 ∧ s.dev.host.power ≠ 3 ∧ housekeepingPaused s.dev = false ∧ nsPages x ≤
      x.cursor + 1)
    ∧ (∃ (s : State) (c : ℕ) (n : ℕ) (k : Ctrl) (x : Ns), c ≠ 0 ∧ ctrlOf s.dev c = some k ∧ k.enabled = true ∧ k.ended = false ∧
      anaStatus s.dev = none ∧ s.dev.host.san.state ≠ 1 ∧ tget s.dev.host.nss n = some x ∧ formatWait s.dev n = none ∧ x.fmt =
      FormatState.reclaiming ∧ s.dev.pool.level < 2 ∧ s.dev.host.power ≠ 3 ∧ housekeepingPaused s.dev = false ∧ x.cursor + 1 <
      nsPages x)
    ∧ (∃ (s : State) (c : ℕ) (n : ℕ) (k : Ctrl) (x : Ns) (y : ℕ × MapEntry), c ≠ 0 ∧ ctrlOf s.dev c = some k ∧ k.enabled = true ∧
      k.ended = false ∧ anaStatus s.dev = none ∧ s.dev.host.san.state ≠ 1 ∧ tget s.dev.host.nss n = some x ∧ y ∈ (unmapAll n
      s.dev).str.map)
    ∧ (∃ (s : State) (c : ℕ) (n : ℕ) (k : Ctrl) (x : Ns) (y : Overlay), c ≠ 0 ∧ ctrlOf s.dev c = some k ∧ k.enabled = true ∧
      k.ended = false ∧ anaStatus s.dev = none ∧ s.dev.host.san.state ≠ 1 ∧ tget s.dev.host.nss n = some x ∧ y ∈ (unmapAll n
      s.dev).str.overlays)
    ∧ (∃ (s : State) (c : ℕ) (n : ℕ) (k : Ctrl) (x : Ns) (p : ℕ × Place), c ≠ 0 ∧ ctrlOf s.dev c = some k ∧ k.enabled = true ∧
      k.ended = false ∧ anaStatus s.dev = none ∧ s.dev.host.san.state ≠ 1 ∧ tget s.dev.host.nss n = some x ∧ p ∈ (unmapAll n
      s.dev).str.dir)
    ∧ (∃ (s : State) (c : ℕ) (v : ℕ) (k : Ctrl), c ≠ 0 ∧ ctrlOf s.dev c = some k ∧ k.enabled = true ∧ k.ended = false ∧ k.cove = 0
      ∧ anaStatus s.dev = none ∧ s.dev.host.san.state ≠ 1 ∧ v % 8 ≠ 4 ∧ v % 8 ≠ 2 ∧ v % 8 ≠ 1)
    ∧ (∃ (s : State) (c : ℕ) (v : ℕ) (k : Ctrl), c ≠ 0 ∧ ctrlOf s.dev c = some k ∧ k.enabled = true ∧ k.ended = false ∧ k.cove = 0
      ∧ anaStatus s.dev = none ∧ s.dev.host.san.state ≠ 1 ∧ v % 8 = 1)
    ∧ (∃ (s : State) (c : ℕ) (v : ℕ) (k : Ctrl), c ≠ 0 ∧ ctrlOf s.dev c = some k ∧ k.enabled = true ∧ k.ended = false ∧ k.cove = 0
      ∧ anaStatus s.dev = none ∧ s.dev.host.san.state ≠ 1 ∧ v % 8 = 4)
    ∧ (∃ (s : State) (c : ℕ) (v : ℕ) (k : Ctrl), c ≠ 0 ∧ ctrlOf s.dev c = some k ∧ k.enabled = true ∧ k.ended = false ∧ k.cove = 0
      ∧ anaStatus s.dev = none ∧ s.dev.host.san.state ≠ 1 ∧ v % 8 = 2)
    ∧ (∃ (s : State) (c : ℕ) (k : Ctrl), c ≠ 0 ∧ ctrlOf s.dev c = some k ∧ k.enabled = true ∧ k.ended = false ∧ k.cove = 0 ∧
      anaStatus s.dev = none ∧ sanReady s.dev = false ∧ (s.dev.host.sanDrain = false ∨ liveCmds s.dev ≠ 0) ∧ s.dev.host.sanDrain =
      false ∧ s.dev.host.san.state ≠ 1)
    ∧ (∃ (s : State) (c : ℕ) (k : Ctrl), c ≠ 0 ∧ ctrlOf s.dev c = some k ∧ k.enabled = true ∧ k.ended = false ∧ k.cove = 0 ∧
      anaStatus s.dev = none ∧ sanReady s.dev = false ∧ s.dev.host.sanDrain = true ∧ liveCmds s.dev = 0)
    ∧ (∃ (s : State) (c : ℕ) (k : Ctrl), c ≠ 0 ∧ ctrlOf s.dev c = some k ∧ k.enabled = true ∧ k.ended = false ∧ k.cove = 0 ∧
      anaStatus s.dev = none ∧ sanReady s.dev = true ∧ s.dev.host.san.sanact ≠ 2)
    ∧ (∃ (s : State) (c : ℕ) (k : Ctrl) (m : ℕ) (x : MemberCmd) (b : ℕ), c ≠ 0 ∧ ctrlOf s.dev c = some k ∧ k.enabled = true ∧
      k.ended = false ∧ k.cove = 0 ∧ anaStatus s.dev = none ∧ List.find? (fun (y : ℕ × MemberCmd) => y.2.bay == b && (y.2.op ==
      MemberOp.sanitize || y.2.op == MemberOp.eraseFormat)) s.dev.shelf.cmds = some (m, x) ∧ (s.dev.host.san.state ≠ 1 ∨
      s.dev.host.san.step ≠ 4))
    ∧ (∃ (s : State) (c : ℕ) (k : Ctrl) (m : ℕ) (x : MemberCmd) (b : ℕ), c ≠ 0 ∧ ctrlOf s.dev c = some k ∧ k.enabled = true ∧
      k.ended = false ∧ k.cove = 0 ∧ anaStatus s.dev = none ∧ List.find? (fun (y : ℕ × MemberCmd) => y.2.bay == b && (y.2.op ==
      MemberOp.sanitize || y.2.op == MemberOp.eraseFormat)) s.dev.shelf.cmds = some (m, x) ∧ s.dev.host.san.state = 1 ∧
      s.dev.host.san.step = 4 ∧ rosterOfBay (setSan
      { s.dev.host.san with membersDone := setBit s.dev.host.san.membersDone b, percent := min 99 ((bitList (setBit s.dev.host.san.membersDone b).toNat 32).length * 100 / max (memberBaysUp s.dev).length 1) }
      (memberEnd m s.dev)) b = none)
    ∧ (∃ (s : State) (c : ℕ) (k : Ctrl) (m : ℕ) (x : MemberCmd) (b : ℕ) (sh : ℕ) (pos : ℕ), c ≠ 0 ∧ ctrlOf s.dev c = some k ∧
      k.enabled = true ∧ k.ended = false ∧ k.cove = 0 ∧ anaStatus s.dev = none ∧ List.find? (fun (y : ℕ × MemberCmd) => y.2.bay ==
      b && (y.2.op == MemberOp.sanitize || y.2.op == MemberOp.eraseFormat)) s.dev.shelf.cmds = some (m, x) ∧ s.dev.host.san.state =
      1 ∧ s.dev.host.san.step = 4 ∧ rosterOfBay (setSan
      { s.dev.host.san with membersDone := setBit s.dev.host.san.membersDone b, percent := min 99 ((bitList (setBit s.dev.host.san.membersDone b).toNat 32).length * 100 / max (memberBaysUp s.dev).length 1) }
      (memberEnd m s.dev)) b = some (sh, pos))
    ∧ (∃ (s : State) (c : ℕ) (k : Ctrl), c ≠ 0 ∧ ctrlOf s.dev c = some k ∧ k.enabled = true ∧ k.ended = false ∧ k.cove = 0 ∧
      anaStatus s.dev = none ∧ s.dev.host.sanDrain = false ∧ s.dev.host.san.state = 1 ∧ s.dev.host.san.step = 3 ∧
      s.dev.host.san.sanact = 4)
    ∧ (∃ (s : State) (c : ℕ) (k : Ctrl), c ≠ 0 ∧ ctrlOf s.dev c = some k ∧ k.enabled = true ∧ k.ended = false ∧ k.cove = 0 ∧
      anaStatus s.dev = none ∧ s.dev.host.sanDrain = false ∧ s.dev.host.san.state = 1 ∧ s.dev.host.san.step = 4 ∧ (∀ e ∈
      s.dev.shelf.cmds, e.2.op ≠ MemberOp.sanitize ∧ e.2.op ≠ MemberOp.eraseFormat)) := by
  exact ⟨⟨{ aRun with dev.host.ctrls := [(4096, { aCtrl with enabled := true })] }, 4096, { aCtrl with enabled := true }, 4096, 4096,
      4096, by decide⟩,
    ⟨{ aRun with dev.host.ctrls := [(4096, { aCtrl with enabled := true })] }, 4096, { aCtrl with enabled := true }, 4096, by
      decide⟩,
    ⟨{ aRun with dev.host.ctrls := [(4294967296, { aCtrl with enabled := true })] }, 4294967296, 4294967296,
      { aCtrl with enabled := true }, 2, by decide⟩,
    ⟨{ aRun with dev.host.ctrls := [(4294967296, { aCtrl with enabled := true })], dev.host.nss := [(4096, aNs)], dev.host.waits := [{ cntlid := 1, cid := 1, kind := 2, subject := 4096 }] },
      4294967296, 4096, { aCtrl with enabled := true }, 2, by decide⟩,
    ⟨{ aRun with dev.host.ctrls := [(4294967296, { aCtrl with enabled := true })], dev.host.nss := [(4096, aNs)] }, 4294967296,
      4096, { aCtrl with enabled := true }, 2, by decide⟩,
    ⟨{ aRun with dev.host.ctrls := [(4096, { aCtrl with enabled := true })] }, 4096, { aCtrl with enabled := true }, 2, by decide⟩,
    ⟨{ aRun with dev.host.ctrls := [(4096, { aCtrl with enabled := true })], dev.host.waits := [{ aAdminWait with kind := 2, subject := 4096 }] },
      4096, 4096, { aCtrl with enabled := true }, { aAdminWait with kind := 2, subject := 4096 }, by decide⟩,
    ⟨{ aRun with dev.keys.entropyOk := true, dev.host.ctrls := [(4096, { aCtrl with enabled := true })], dev.host.waits := [{ aAdminWait with kind := 2, subject := 4096 }], dev.host.formatDrain := [4096], dev.host.nss := [(4096, { aNs with marking := true })] },
      4096, 4096, { aCtrl with enabled := true }, { aAdminWait with kind := 2, subject := 4096 }, by decide⟩,
    ⟨{ aRun with dev.keys.entropyOk := true, dev.host.waits := [{ aAdminWait with kind := 2, subject := 4096 }], dev.host.ctrls := [(4096, { aCtrl with enabled := true })], dev.host.formatDrain := [4096], dev.host.nss := [(4096, { aNs with nextAsn := 5 })] },
      4096, 4096, { aCtrl with enabled := true }, { aAdminWait with kind := 2, subject := 4096 }, by decide⟩,
    ⟨{ aRun with dev.host.ctrls := [(4096, { aCtrl with enabled := true })], dev.host.nss := [(4096, aNs)] }, 4096, 4096,
      { aCtrl with enabled := true }, aNs, by decide⟩,
    ⟨{ aRun with dev.host.ctrls := [(4096, { aCtrl with enabled := true })], dev.host.nss := [(4096, { aNs with fmt := FormatState.reclaiming, cursor := 1 })] },
      4096, 4096, { aCtrl with enabled := true }, { aNs with fmt := FormatState.reclaiming, cursor := 1 }, by decide⟩,
    ⟨{ aRun with dev.host.ctrls := [(4096, { aCtrl with enabled := true })], dev.host.nss := [(4096, { aNs with fmt := FormatState.reclaiming })] },
      4096, 4096, { aCtrl with enabled := true }, { aNs with fmt := FormatState.reclaiming }, by decide⟩,
    ⟨{ aRun with dev.host.ctrls := [(4096, { aCtrl with enabled := true })], dev.host.nss := [(4096, aNs)], dev.str.map := [(gkey 1 0, .zero)] },
      4096, 4096, { aCtrl with enabled := true }, aNs, (gkey 1 0, .zero), by decide⟩,
    ⟨{ aRun with dev.host.ctrls := [(4096, { aCtrl with enabled := true })], dev.host.nss := [(4096, aNs)], dev.str.overlays := [aOverlay] },
      4096, 4096, { aCtrl with enabled := true }, aNs, aOverlay, by decide⟩,
    ⟨{ aRun with dev.host.ctrls := [(4096, { aCtrl with enabled := true })], dev.host.nss := [(4096, { aNs with pageBase := 100 })], dev.str.dir := [(7, aPlace)] },
      4096, 4096, { aCtrl with enabled := true }, { aNs with pageBase := 100 }, (7, aPlace), by decide⟩,
    ⟨{ aRun with dev.host.ctrls := [(4096, { aCtrl with enabled := true, cove := 0 })] }, 4096, 4096,
      { aCtrl with enabled := true, cove := 0 }, by decide⟩,
    ⟨{ aRun with dev.host.ctrls := [(4096, { aCtrl with enabled := true, cove := 0 })] }, 4096, 9,
      { aCtrl with enabled := true, cove := 0 }, by decide⟩,
    ⟨{ aRun with dev.host.ctrls := [(4096, { aCtrl with enabled := true, cove := 0 })] }, 4096, 4,
      { aCtrl with enabled := true, cove := 0 }, by decide⟩,
    ⟨{ aRun with dev.host.ctrls := [(4096, { aCtrl with enabled := true, cove := 0 })] }, 4096, 2,
      { aCtrl with enabled := true, cove := 0 }, by decide⟩,
    ⟨{ aRun with dev.host.sanDrain := false, dev.host.ctrls := [(4096, { aCtrl with enabled := true, cove := 0 })] }, 4096,
      { aCtrl with enabled := true, cove := 0 }, by decide⟩,
    ⟨{ aRun with dev.host.sanDrain := true, dev.host.ctrls := [(4096, { aCtrl with enabled := true, cove := 0 })], dev.host.nss := [(1, { aNs with marking := true })] },
      4096, { aCtrl with enabled := true, cove := 0 }, by decide⟩,
    ⟨{ aRun with dev.host.ctrls := [(4096, { aCtrl with enabled := true, cove := 0 })], dev.host.sanDrain := true }, 4096,
      { aCtrl with enabled := true, cove := 0 }, by decide⟩,
    ⟨{ aRun with dev.host.ctrls := [(4096, { aCtrl with enabled := true, cove := 0 })], dev.shelf.cmds := [(4095, { aMemberCmd with bay := 31, op := .sanitize })] },
      4096, { aCtrl with enabled := true, cove := 0 }, 4095, { aMemberCmd with bay := 31, op := .sanitize }, 31, by decide⟩,
    ⟨{ aRun with dev.host.san.state := 1, dev.host.san.step := 4, dev.host.ctrls := [(4096, { aCtrl with enabled := true, cove := 0 })], dev.shelf.cmds := [(4095, { aMemberCmd with bay := 31, op := .sanitize })] },
      4096, { aCtrl with enabled := true, cove := 0 }, 4095, { aMemberCmd with bay := 31, op := .sanitize }, 31, by decide⟩,
    ⟨{ aRun with dev.host.san.state := 1, dev.host.san.step := 4, dev.host.ctrls := [(4096, { aCtrl with enabled := true, cove := 0 })], dev.shelf.cmds := [(4095, { aMemberCmd with bay := 31, op := .sanitize })], dev.shelf.labels := [(0, { roster := [(0, { bay := 31, state := .online })] })] },
      4096, { aCtrl with enabled := true, cove := 0 }, 4095, { aMemberCmd with bay := 31, op := .sanitize }, 31, 0, 0, by decide⟩,
    ⟨{ aRun with dev.host.sanDrain := false, dev.host.san.state := 1, dev.host.san.step := 3, dev.host.san.sanact := 4, dev.host.ctrls := [(4096, { aCtrl with enabled := true, cove := 0 })] },
      4096, { aCtrl with enabled := true, cove := 0 }, by decide⟩,
    ⟨{ aRun with dev.host.ctrls := [(4096, { aCtrl with enabled := true, cove := 0 })], dev.host.san.state := 1, dev.host.san.step := 4, dev.shelf.cmds := [(0, aMemberCmd)] },
      4096, { aCtrl with enabled := true, cove := 0 }, by decide, by decide, by decide, by decide, by decide, by decide, by decide,
      by decide, by decide, by decide⟩⟩

/-- The hypotheses of `Obligations.NamespacesManaged` can be met. -/
theorem witness_NamespacesManaged :
    (∃ (s : State) (c : ℕ) (k : Ctrl) (st : Status), c ≠ 0 ∧ ctrlOf s.dev c = some k ∧ k.enabled = true ∧ k.ended = false ∧ k.cove
      = 0 ∧ anaStatus s.dev = some st)
    ∧ (∃ (s : State) (c : ℕ) (k : Ctrl), c ≠ 0 ∧ ctrlOf s.dev c = some k ∧ k.enabled = true ∧ k.ended = false ∧ k.cove = 0 ∧
      anaStatus s.dev = none ∧ s.dev.host.san.state = 1)
    ∧ (∃ (s : State) (c : ℕ) (k : Ctrl) (x : NsCreateArgs), c ≠ 0 ∧ ctrlOf s.dev c = some k ∧ k.enabled = true ∧ k.ended = false ∧
      k.cove = 0 ∧ anaStatus s.dev = none ∧ s.dev.host.san.state ≠ 1 ∧ (x.nsze = 0 ∨ 2 < x.grain ∨ shoalOf s.dev x.shoal = none ∨ 1
      < x.flags ∨ x.reserved = true))
    ∧ (∃ (s : State) (c : ℕ) (k : Ctrl) (x : NsCreateArgs), c ≠ 0 ∧ ctrlOf s.dev c = some k ∧ k.enabled = true ∧ k.ended = false ∧
      k.cove = 0 ∧ anaStatus s.dev = none ∧ s.dev.host.san.state ≠ 1 ∧ x.nsze ≠ 0 ∧ x.grain ≤ 2 ∧ (shoalOf s.dev x.shoal).isSome =
      true ∧ x.flags ≤ 1 ∧ x.reserved = false ∧ (usableBlocks s.dev x.shoal < reservedBlocks s.dev x.shoal + x.nsze ∨ placePages
      s.dev (mapPagesFor x.nsze x.grain) = none))
    ∧ (∃ (s : State) (c : ℕ) (k : Ctrl) (x : NsCreateArgs) (base : ℕ) (nsid : ℕ), c ≠ 0 ∧ ctrlOf s.dev c = some k ∧ k.enabled =
      true ∧ k.ended = false ∧ k.cove = 0 ∧ anaStatus s.dev = none ∧ s.dev.host.san.state ≠ 1 ∧ x.nsze ≠ 0 ∧ x.grain ≤ 2 ∧ (shoalOf
      s.dev x.shoal).isSome = true ∧ x.flags ≤ 1 ∧ x.reserved = false ∧ reservedBlocks s.dev x.shoal + x.nsze ≤ usableBlocks s.dev
      x.shoal ∧ placePages s.dev (mapPagesFor x.nsze x.grain) = some base ∧ tfree s.dev.host.nss 1 4096 = some nsid)
    ∧ (∃ (s : State) (c : ℕ) (k : Ctrl) (n : ℕ), c ≠ 0 ∧ ctrlOf s.dev c = some k ∧ k.enabled = true ∧ k.ended = false ∧ k.cove = 0
      ∧ anaStatus s.dev = none ∧ s.dev.host.san.state ≠ 1 ∧ tget s.dev.host.nss n = none)
    ∧ (∃ (s : State) (c : ℕ) (k : Ctrl) (n : ℕ) (l : List ℕ) (x : Ns), c ≠ 0 ∧ ctrlOf s.dev c = some k ∧ k.enabled = true ∧ k.ended
      = false ∧ k.cove = 0 ∧ anaStatus s.dev = none ∧ s.dev.host.san.state ≠ 1 ∧ tget s.dev.host.nss n = some x ∧ x.creating =
      false ∧ x.fmt ≠ FormatState.deleting ∧ covesReached s.dev l = none)
    ∧ (∃ (s : State) (c : ℕ) (k : Ctrl) (n : ℕ) (l : List ℕ) (x : Ns) (v : ℕ), c ≠ 0 ∧ ctrlOf s.dev c = some k ∧ k.enabled = true ∧
      k.ended = false ∧ k.cove = 0 ∧ anaStatus s.dev = none ∧ s.dev.host.san.state ≠ 1 ∧ tget s.dev.host.nss n = some x ∧
      x.creating = false ∧ x.fmt ≠ FormatState.deleting ∧ covesReached s.dev l = some [v] ∧ v ∈ x.coves)
    ∧ (∃ (s : State) (c : ℕ) (k : Ctrl) (n : ℕ) (l : List ℕ) (x : Ns) (v : ℕ), c ≠ 0 ∧ ctrlOf s.dev c = some k ∧ k.enabled = true ∧
      k.ended = false ∧ k.cove = 0 ∧ anaStatus s.dev = none ∧ s.dev.host.san.state ≠ 1 ∧ tget s.dev.host.nss n = some x ∧
      x.creating = false ∧ x.fmt ≠ FormatState.deleting ∧ covesReached s.dev l = some [v] ∧ v ∉ x.coves ∧ (coveCfg s.dev v).nsQuota
      ≤ (coveNamespaces s.dev v).length)
    ∧ (∃ (s : State) (c : ℕ) (k : Ctrl) (n : ℕ) (l : List ℕ) (x : Ns) (v : ℕ), c ≠ 0 ∧ ctrlOf s.dev c = some k ∧ k.enabled = true ∧
      k.ended = false ∧ k.cove = 0 ∧ anaStatus s.dev = none ∧ s.dev.host.san.state ≠ 1 ∧ tget s.dev.host.nss n = some x ∧
      x.creating = false ∧ x.fmt ≠ FormatState.deleting ∧ covesReached s.dev l = some [v] ∧ v ∉ x.coves ∧ (coveNamespaces s.dev
      v).length < (coveCfg s.dev v).nsQuota)
    ∧ (∃ (s : State) (c : ℕ) (k : Ctrl) (n : ℕ) (x : Ns), c ≠ 0 ∧ ctrlOf s.dev c = some k ∧ k.enabled = true ∧ k.ended = false ∧
      k.cove = 0 ∧ anaStatus s.dev = none ∧ s.dev.host.san.state ≠ 1 ∧ n ≠ 4294967295 ∧ tget s.dev.host.nss n = some x ∧ x.creating
      = false ∧ formatWait s.dev n = none)
    ∧ (∃ (s : State) (c : ℕ) (k : Ctrl) (n : ℕ) (x : Ns), c ≠ 0 ∧ ctrlOf s.dev c = some k ∧ k.enabled = true ∧ k.ended = false ∧
      k.cove = 0 ∧ anaStatus s.dev = none ∧ s.dev.host.san.state ≠ 1 ∧ n ≠ 4294967295 ∧ tget s.dev.host.nss n = some x ∧ x.creating
      = false ∧ (formatWait s.dev n).isSome = true)
    ∧ (∃ (s : State) (c : ℕ) (k : Ctrl) (n : ℕ) (x : Ns) (w : AdminWait), c ≠ 0 ∧ ctrlOf s.dev c = some k ∧ k.enabled = true ∧
      k.ended = false ∧ k.cove = 0 ∧ tget s.dev.host.nss n = some x ∧ x.creating = true ∧ thas s.dev.keys.nsKeys n = true ∧
      List.filter (fun (w : AdminWait) => w.kind == 0 && w.subject == n) s.dev.host.waits = [w])
    ∧ (∃ (s : State) (c : ℕ) (k : Ctrl) (n : ℕ) (x : Ns), c ≠ 0 ∧ ctrlOf s.dev c = some k ∧ k.enabled = true ∧ k.ended = false ∧
      k.cove = 0 ∧ tget s.dev.host.nss n = some x ∧ x.creating = true ∧ thas s.dev.keys.nsKeys n = true ∧ List.filter (fun (w :
      AdminWait) => w.kind == 0 && w.subject == n) s.dev.host.waits = [])
    ∧ (∃ (s : State) (c : ℕ) (k : Ctrl) (x : NsCreateArgs) (base : ℕ), c ≠ 0 ∧ ctrlOf s.dev c = some k ∧ k.enabled = true ∧ k.ended
      = false ∧ k.cove = 0 ∧ anaStatus s.dev = none ∧ s.dev.host.san.state ≠ 1 ∧ x.nsze ≠ 0 ∧ x.grain ≤ 2 ∧ (shoalOf s.dev
      x.shoal).isSome = true ∧ x.flags ≤ 1 ∧ x.reserved = false ∧ reservedBlocks s.dev x.shoal + x.nsze ≤ usableBlocks s.dev
      x.shoal ∧ placePages s.dev (mapPagesFor x.nsze x.grain) = some base ∧ tfree s.dev.host.nss 1 4096 = none) := by
  exact ⟨⟨{ aRun with dev.host.ctrls := [(4096, { aCtrl with enabled := true, cove := 0 })], dev.pair.role := .standby }, 4096,
      { aCtrl with enabled := true, cove := 0 }, ({ sct := 3, sc := 2 }), by decide⟩,
    ⟨{ aRun with dev.host.san.state := 1, dev.host.ctrls := [(4096, { aCtrl with enabled := true, cove := 0 })] }, 4096,
      { aCtrl with enabled := true, cove := 0 }, by decide⟩,
    ⟨{ aRun with dev.host.ctrls := [(4096, { aCtrl with enabled := true, cove := 0 })] }, 4096,
      { aCtrl with enabled := true, cove := 0 }, { aNsCreateArgs with nsze := 0 }, by decide +kernel⟩,
    ⟨{ aRun with dev.host.ctrls := [(4096, { aCtrl with enabled := true, cove := 0 })] }, 4096,
      { aCtrl with enabled := true, cove := 0 }, { aNsCreateArgs with nsze := 2000000000 }, by decide +kernel⟩,
    ⟨{ aRun with dev.host.ctrls := [(4097, { aCtrl with enabled := true, cove := 0 })] }, 4097,
      { aCtrl with enabled := true, cove := 0 }, aNsCreateArgs, 0, 1, by decide +kernel⟩,
    ⟨{ aRun with dev.host.ctrls := [(4096, { aCtrl with enabled := true, cove := 0 })] }, 4096,
      { aCtrl with enabled := true, cove := 0 }, 4096, by decide⟩,
    ⟨{ aRun with dev.host.ctrls := [(4096, { aCtrl with enabled := true, cove := 0 })], dev.host.nss := [(4096, (aNs : Ns))] },
      4096, { aCtrl with enabled := true, cove := 0 }, 4096, [], aNs, by decide⟩,
    ⟨{ aRun with dev.host.ctrls := [(1, { aCtrl with enabled := true, cove := 0 }), (2, aCtrl)], dev.host.nss := [(4096, { aNs with coves := [1] })] },
      1, { aCtrl with enabled := true, cove := 0 }, 4096, [2], { aNs with coves := [1] }, 1, by decide⟩,
    ⟨{ aRun with dev.host.ctrls := [(1, { aCtrl with enabled := true, cove := 0 }), (2, aCtrl)], dev.host.nss := [(4096, { aNs with coves := [] })], dev.chart.inForce := some { defaultChart with template.nsQuota := 0 } },
      1, { aCtrl with enabled := true, cove := 0 }, 4096, [2], { aNs with coves := [] }, 1, by decide⟩,
    ⟨{ aRun with dev.host.ctrls := [(1, { aCtrl with enabled := true, cove := 0 })], dev.host.nss := [(4096, (aNs : Ns))] }, 1,
      { aCtrl with enabled := true, cove := 0 }, 4096, [1], aNs, 0, by decide⟩,
    ⟨{ aRun with dev.host.ctrls := [(4294967296, { aCtrl with enabled := true, cove := 0 })], dev.host.nss := [(4294967296, (aNs : Ns))] },
      4294967296, { aCtrl with enabled := true, cove := 0 }, 4294967296, aNs, by decide⟩,
    ⟨{ aRun with dev.host.ctrls := [(4294967296, { aCtrl with enabled := true, cove := 0 })], dev.host.nss := [(4096, (aNs : Ns))], dev.host.waits := [{ cntlid := 1, cid := 1, kind := 2, subject := 4096 }] },
      4294967296, { aCtrl with enabled := true, cove := 0 }, 4096, aNs, by decide⟩,
    ⟨{ aRun with dev.host.ctrls := [(4096, { aCtrl with enabled := true, cove := 0 })], dev.host.nss := [(4096, { aNs with creating := true })], dev.host.waits := [{ aAdminWait with kind := 0, subject := 4096 }], dev.keys.nsKeys := [(4096, aNsKey)] },
      4096, { aCtrl with enabled := true, cove := 0 }, 4096, { aNs with creating := true },
      { aAdminWait with kind := 0, subject := 4096 }, by decide⟩,
    ⟨{ aRun with dev.host.ctrls := [(4096, { aCtrl with enabled := true, cove := 0 })], dev.host.nss := [(4096, { aNs with creating := true })], dev.keys.nsKeys := [(4096, aNsKey)] },
      4096, { aCtrl with enabled := true, cove := 0 }, 4096, { aNs with creating := true }, by decide⟩,
    by
        obtain ⟨base, hb⟩ := aNsCrowd_place
        refine ⟨aNsCrowd, 4097, { aCtrl with enabled := true, cove := 0 },
      { aNsCreateArgs with nsze := 8 }, base, by decide, by decide, by decide, by decide, by decide, by decide, by decide, by
      decide, by decide, by decide, by decide, by decide, ?_, hb, tfree_run _ _ _⟩
        rw [show
      ({ aNsCreateArgs with nsze := 8 } : NsCreateArgs).shoal = 0 from rfl, aNsCrowd_reserved]; decide⟩

/-- The hypotheses of `Obligations.PartnerLost` can be met. -/
theorem witness_PartnerLost :
    (∃ (s : State), s.dev.pair.hbMissed ≠ 2 ∧ s.dev.tline.query = none ∧ (s.dev.pair.takeover ≠ TakeoverStep.grace ∨
      s.dev.boot.fenceHold = true) ∧ s.dev.pair.takeover ≠ TakeoverStep.waitFence ∧ s.dev.boot.tlineHold = false ∧
      s.dev.pair.takeover ≠ TakeoverStep.acquiring ∧ blocksOpen s.dev = true ∧ s.dev.pair.fencingPartner = false ∧
      s.dev.pair.fenceOut = false)
    ∧ (∃ (s : State), s.dev.pair.hbMissed = 2 ∧ s.dev.pair.partner = 0)
    ∧ (∃ (s : State), s.dev.pair.hbMissed = 2 ∧ s.dev.pair.partner = 1)
    ∧ (∃ (s : State), s.dev.pair.hbMissed = 2 ∧ s.dev.pair.partner = 2)
    ∧ (∃ (s : State) (v : ℕ), s.dev.tline.query = some (v, false))
    ∧ (∃ (s : State) (v : ℕ), s.dev.tline.query = some (v, true) ∧ s.dev.pair.takeover = TakeoverStep.querying)
    ∧ (∃ (s : State), s.dev.pair.role = Role.active ∧ s.dev.pair.fenceWired = true)
    ∧ (∃ (s : State) (a : PartnerState), s.dev.pair.role = Role.active ∧ s.dev.pair.fenceWired = false ∧ a ≠ PartnerState.noAnswer)
    ∧ (∃ (s : State), s.dev.pair.role = Role.standby ∧ s.dev.pair.fenceWired = true)
    ∧ (∃ (s : State), s.dev.pair.role = Role.standby ∧ s.dev.pair.fenceWired = false)
    ∧ (∃ (s : State), s.dev.pair.takeover = TakeoverStep.grace ∧ s.dev.boot.fenceHold = false)
    ∧ (∃ (s : State), s.dev.pair.takeover = TakeoverStep.waitFence)
    ∧ (∃ (s : State), s.dev.boot.tlineHold = true)
    ∧ (∃ (s : State), s.dev.pair.takeover = TakeoverStep.acquiring)
    ∧ (∃ (s : State), blocksOpen s.dev = true ∧ s.dev.pair.role = Role.solo ∧ s.dev.pair.partnerWait = false)
    ∧ (∃ (s : State), blocksOpen s.dev = true ∧ s.dev.pair.role = Role.fenced)
    ∧ (∃ (s : State), blocksOpen s.dev = true ∧ s.dev.pair.fencingPartner = true)
    ∧ (∃ (s : State) (m : ℕ) (x : MemberCmd), tget s.dev.shelf.cmds m = some x ∧ x.phase = MemberPhase.queued)
    ∧ (∃ (s : State) (m : ℕ) (x : MemberCmd) (p : Place), tget s.dev.shelf.cmds m = some x ∧ x.op = MemberOp.readBlock p ∧ x.phase
      ≠ MemberPhase.queued ∧ x.phase ≠ MemberPhase.reissued)
    ∧ (∃ (s : State) (m : ℕ) (x : MemberCmd) (p : Place), tget s.dev.shelf.cmds m = some x ∧ x.op = MemberOp.readBlock p ∧ x.phase
      = MemberPhase.reissued)
    ∧ (∃ (s : State) (m : ℕ) (x : MemberCmd) (k : Bool) (i : LabelCopy), tget s.dev.shelf.cmds m = some x ∧ x.op =
      MemberOp.labelWrite k i ∧ x.phase ≠ MemberPhase.queued ∧ x.phase = MemberPhase.reissued)
    ∧ (∃ (s : State) (m : ℕ) (x : MemberCmd) (k : Bool) (i : LabelCopy), tget s.dev.shelf.cmds m = some x ∧ x.op =
      MemberOp.labelWrite k i ∧ x.phase ≠ MemberPhase.queued ∧ x.phase ≠ MemberPhase.reissued)
    ∧ (∃ (s : State) (m : ℕ) (x : MemberCmd) (l : ℕ) (k : List Byte), tget s.dev.shelf.cmds m = some x ∧ x.op =
      MemberOp.recordWrite l k ∧ x.phase ≠ MemberPhase.queued)
    ∧ (∃ (s : State) (r : Role), s.dev.pair.role = r) := by
  exact ⟨⟨aRun, by decide⟩,
    ⟨{ aRun with dev.pair.hbMissed := 2 }, by decide⟩,
    ⟨{ aRun with dev.pair.hbMissed := 2, dev.pair.partner := 1 }, by decide⟩,
    ⟨{ aRun with dev.pair.hbMissed := 2, dev.pair.partner := 2 }, by decide⟩,
    ⟨{ aRun with dev.tline.query := some (4096, false) }, 4096, by decide⟩,
    ⟨{ aRun with dev.tline.query := some (4096, true), dev.pair.takeover := TakeoverStep.querying }, 4096, by decide⟩,
    ⟨{ aRun with dev.pair.role := Role.active, dev.pair.fenceWired := true }, by decide⟩,
    ⟨{ aRun with dev.pair.role := Role.active }, .alive, by decide⟩,
    ⟨{ aRun with dev.pair.role := Role.standby, dev.pair.fenceWired := true }, by decide⟩,
    ⟨{ aRun with dev.pair.role := Role.standby }, by decide⟩,
    ⟨{ aRun with dev.pair.takeover := TakeoverStep.grace }, by decide⟩,
    ⟨{ aRun with dev.pair.takeover := TakeoverStep.waitFence }, by decide⟩,
    ⟨{ aRun with dev.boot.tlineHold := true }, by decide⟩,
    ⟨{ aRun with dev.pair.takeover := TakeoverStep.acquiring }, by decide⟩,
    ⟨{ aRun with dev.pair.role := Role.solo }, by decide⟩,
    ⟨{ aRun with dev.pair.role := Role.fenced }, by decide⟩,
    ⟨{ aRun with dev.pair.fencingPartner := true }, by decide⟩,
    ⟨{ aRun with dev.shelf.cmds := [(4096, { aMemberCmd with phase := MemberPhase.queued })] }, 4096,
      { aMemberCmd with phase := MemberPhase.queued }, by decide⟩,
    ⟨{ aRun with dev.shelf.cmds := [(4096, { aMemberCmd with op := MemberOp.readBlock aPlace })] }, 4096,
      { aMemberCmd with op := MemberOp.readBlock aPlace }, aPlace, by decide⟩,
    ⟨{ aRun with dev.shelf.cmds := [(4096, { aMemberCmd with op := MemberOp.readBlock aPlace, phase := MemberPhase.reissued })] },
      4096, { aMemberCmd with op := MemberOp.readBlock aPlace, phase := MemberPhase.reissued }, aPlace, by decide⟩,
    ⟨{ aRun with dev.shelf.cmds := [(4096, { aMemberCmd with op := MemberOp.labelWrite true ({ shoal := 0 }), phase := MemberPhase.reissued })] },
      4096, { aMemberCmd with op := MemberOp.labelWrite true ({ shoal := 0 }), phase := MemberPhase.reissued }, true,
      ({ shoal := 0 }), by decide⟩,
    ⟨{ aRun with dev.shelf.cmds := [(4096, { aMemberCmd with op := MemberOp.labelWrite true ({ shoal := 0 }) })] }, 4096,
      { aMemberCmd with op := MemberOp.labelWrite true ({ shoal := 0 }) }, true, ({ shoal := 0 }), by decide⟩,
    ⟨{ aRun with dev.shelf.cmds := [(4096, { aMemberCmd with op := MemberOp.recordWrite 4096 [] })] }, 4096,
      { aMemberCmd with op := MemberOp.recordWrite 4096 [] }, 4096, [], by decide⟩,
    ⟨{ aRun with dev.pair.role := .active }, .active, by decide⟩⟩

/-- The hypotheses of `Obligations.PtpMeasurement` can be met. -/
theorem witness_PtpMeasurement :
    (∃ (s : State) (seq : ℕ) (origin : ℤ) (rx : ℤ) (a : Announce), (chartOf s.dev).clock.reference = 1 ∧ s.dev.clk.ptp.valid = true
      ∧ s.dev.clk.source = 1 ∧ s.dev.clk.ptpA.selected = some a ∧ s.dev.clk.ptpA.syncWait = some (seq, rx) ∧ s.dev.clk.todValid =
      true ∧ (rx - origin - s.dev.clk.ptpA.pathDelay).natAbs ≤ 1000000)
    ∧ (∃ (s : State) (seq : ℕ) (origin : ℤ) (rx : ℤ) (a : Announce), (chartOf s.dev).clock.reference = 1 ∧ s.dev.clk.ptp.valid =
      true ∧ s.dev.clk.source = 1 ∧ s.dev.clk.ptpA.selected = some a ∧ s.dev.clk.ptpA.syncWait = some (seq, rx) ∧
      (s.dev.clk.todValid = false ∨ 1000000 < (rx - origin - s.dev.clk.ptpA.pathDelay).natAbs))
    ∧ (∃ (s : State) (seq : ℕ) (a : Announce) (tx : ℤ), (chartOf s.dev).clock.reference = 1 ∧ s.dev.clk.ptp.valid = true ∧
      s.dev.clk.source = 1 ∧ s.dev.clk.ptpA.selected = some a ∧ s.dev.clk.ptpA.delayReq = some (seq, tx)) := by
  exact ⟨⟨{ aRun with dev.clk.ptp.valid := true, dev.clk.source := 1, dev.clk.ptpA.selected := some aAnnounce, dev.clk.ptpA.syncWait := some (1000001, 0), dev.clk.todValid := true, dev.chart.inForce := some { defaultChart with clock.reference := 1 } },
      1000001, 0, 0, aAnnounce, by decide⟩,
    ⟨{ aRun with dev.clk.ptp.valid := true, dev.clk.source := 1, dev.clk.ptpA.selected := some aAnnounce, dev.clk.ptpA.syncWait := some (1000001, 0), dev.clk.todValid := false, dev.chart.inForce := some { defaultChart with clock.reference := 1 } },
      1000001, 0, 0, aAnnounce, by decide⟩,
    ⟨{ aRun with dev.clk.ptp.valid := true, dev.clk.source := 1, dev.clk.ptpA.selected := some aAnnounce, dev.clk.ptpA.delayReq := some (4096, 0), dev.chart.inForce := some { defaultChart with clock.reference := 1 } },
      4096, aAnnounce, 0, by decide⟩⟩

/-- The hypotheses of `Obligations.QueuePairsEnd` can be met. -/
theorem witness_QueuePairsEnd :
    (∃ (s : State) (c : ℕ) (k : Ctrl), ctrlOf s.dev c = some k ∧ k.ended = false ∧ k.enabled = true ∧ sqsOf s.dev c = [] ∧
      s.dev.adm.cmds = [] ∧ s.dev.host.waits = [])
    ∧ (∃ (s : State) (c : ℕ) (k : Ctrl), ctrlOf s.dev c = some k ∧ k.ended = false ∧ k.enabled = false)
    ∧ (∃ (s : State) (c : ℕ) (k : Ctrl), ctrlOf s.dev c = some k ∧ k.ended = false ∧ k.shst = 0 ∧ sqsOf s.dev c = [] ∧ (k.kato = 0
      ∨ s.dev.host.admissionHeld = true))
    ∧ (∃ (s : State) (c : ℕ) (k : Ctrl), ctrlOf s.dev c = some k ∧ k.ended = false ∧ k.shst ≠ 0 ∧ ctrlBusy s.dev c = false ∧ k.shst
      = 1)
    ∧ (∃ (s : State) (c : ℕ) (k : Ctrl), ctrlOf s.dev c = some k ∧ k.ended = false ∧ k.kato ≠ 0 ∧ s.dev.host.admissionHeld = false)
    ∧ (∃ (s : State) (c : ℕ) (k : Ctrl), ctrlOf s.dev c = some k ∧ k.ended = false ∧ ctrlBusy s.dev c = true)
    ∧ (∃ (s : State) (c : ℕ) (k : Ctrl), ctrlOf s.dev c = some k ∧ k.ended = false ∧ ctrlBusy s.dev c = false ∧ k.shst ≠ 1 ∧
      k.draining = true)
    ∧ (∃ (s : State) (c : ℕ) (k : Ctrl), ctrlOf s.dev c = some k ∧ k.ended = true ∧ ctrlBusy s.dev c = false)
    ∧ (∃ (s : State) (n : ℕ) (q : Qp), qpOf s.dev n = some q ∧ q.disconnecting = false ∧ adminOfQp (closeQp n (endQpCmds n false
      (match sqOfQp s.dev n with | some y => deleteSq y.1 y.2 (some (gen 8)) s.dev | none => s.dev))) n = none ∧ (q.disconnecting = false ∨ q.released = true))
    ∧ (∃ (s : State) (n : ℕ) (q : Qp) (c : ℕ), qpOf s.dev n = some q ∧ q.disconnecting = false ∧ adminOfQp (closeQp n (endQpCmds n
      false (match sqOfQp s.dev n with | some y => deleteSq y.1 y.2 (some (gen 8)) s.dev | none => s.dev))) n = some c)
    ∧ (∃ (s : State) (n : ℕ) (q : Qp), qpOf s.dev n = some q ∧ q.disconnecting = true ∧ q.released = false ∧ q.landing = none)
    ∧ (∃ (s : State) (n : ℕ) (q : Qp), qpOf s.dev n = some q ∧ q.disconnecting = true ∧ q.released = false ∧ q.landing.isSome =
      true)
    ∧ (∃ (s : State) (n : ℕ) (q : Qp) (l : Landing), qpOf s.dev n = some q ∧ q.landing = some l ∧ l.revoked = true ∧ windowHeld q =
      false ∧ q.released = false)
    ∧ (∃ (s : State) (n : ℕ) (q : Qp) (l : Landing), qpOf s.dev n = some q ∧ q.landing = some l ∧ (l.revoked = false ∨ windowHeld q
      = true)) := by
  exact ⟨⟨{ aRun with dev.adm.cmds := [], dev.host.waits := [], dev.host.ctrls := [(4096, { aCtrl with enabled := true })] }, 4096,
      { aCtrl with enabled := true }, by decide⟩,
    ⟨{ aRun with dev.host.ctrls := [(4096, { aCtrl with enabled := false })] }, 4096, { aCtrl with enabled := false }, by decide⟩,
    ⟨{ aRun with dev.host.ctrls := [(4096, (aCtrl : Ctrl))] }, 4096, aCtrl, by decide⟩,
    ⟨{ aRun with dev.host.ctrls := [(4096, { aCtrl with shst := 1 })] }, 4096, { aCtrl with shst := 1 }, by decide⟩,
    ⟨{ aRun with dev.host.admissionHeld := false, dev.host.ctrls := [(4096, { aCtrl with kato := 1 })] }, 4096,
      { aCtrl with kato := 1 }, by decide⟩,
    ⟨{ aRun with dev.host.ctrls := [(4096, (aCtrl : Ctrl))], dev.adm.cmds := [(0, { aCmd with cntlid := 4096 })] }, 4096, aCtrl, by
      decide⟩,
    ⟨{ aRun with dev.host.ctrls := [(4096, { aCtrl with draining := true })] }, 4096, { aCtrl with draining := true }, by decide⟩,
    ⟨{ aRun with dev.host.ctrls := [(4096, { aCtrl with ended := true })] }, 4096, { aCtrl with ended := true }, by decide⟩,
    ⟨{ aRun with dev.net.qps := [(4096, (aQp : Qp))] }, 4096, aQp, by decide⟩,
    ⟨{ aRun with dev.net.qps := [(4096, (aQp : Qp))], dev.host.ctrls := [(1, { aCtrl with adminQpn := 4096 })] }, 4096, aQp, 1, by
      decide⟩,
    ⟨{ aRun with dev.net.qps := [(4096, { aQp with disconnecting := true })] }, 4096, { aQp with disconnecting := true }, by
      decide⟩,
    ⟨{ aRun with dev.net.qps := [(4096, { aQp with disconnecting := true, landing := some aLanding })] }, 4096,
      { aQp with disconnecting := true, landing := some aLanding }, by decide⟩,
    ⟨{ aRun with dev.net.qps := [(4096, { aQp with landing := some { aLanding with revoked := true }, released := false })] },
      4096, { aQp with landing := some { aLanding with revoked := true }, released := false }, { aLanding with revoked := true },
      by decide⟩,
    ⟨{ aRun with dev.net.qps := [(4096, { aQp with landing := some (aLanding : Landing) })] }, 4096,
      { aQp with landing := some (aLanding : Landing) }, aLanding, by decide⟩⟩

/-- The hypotheses of `Obligations.RebuildAndPatrol` can be met. -/
theorem witness_RebuildAndPatrol :
    (∃ (s : State), housekeepingPaused s.dev = true)
    ∧ (∃ (s : State) (sh : ℕ) (pos : ℕ) (row : ℕ) (bad : List (ℕ × ℕ)) (r : Resync) (t : Stripe) (p : ℕ), housekeepingPaused s.dev
      = false ∧ resyncOf s.dev sh pos = some r ∧ rowAt s.dev sh row = some t ∧ stateOf s.dev sh pos = some MemberState.resyncing ∧
      row ∈ resyncLeft s.dev sh r ∧ t.gen ∉ r.building ∧ stripePos s.dev t pos = some p ∧ p ∈ writtenPos (stripeGeom s.dev t) row ∧
      (readRow t bad [p] s.dev).1 = false)
    ∧ (∃ (s : State) (sh : ℕ) (pos : ℕ) (row : ℕ) (bad : List (ℕ × ℕ)) (r : Resync) (t : Stripe) (p : ℕ), housekeepingPaused s.dev
      = false ∧ resyncOf s.dev sh pos = some r ∧ rowAt s.dev sh row = some t ∧ stateOf s.dev sh pos = some MemberState.resyncing ∧
      row ∈ resyncLeft s.dev sh r ∧ t.gen ∉ r.building ∧ stripePos s.dev t pos = some p ∧ p ∈ writtenPos (stripeGeom s.dev t) row ∧
      (readRow t bad [p] s.dev).1 = true)
    ∧ (∃ (s : State) (sh : ℕ) (pos : ℕ) (row : ℕ) (r : Resync) (t : Stripe), housekeepingPaused s.dev = false ∧ resyncOf s.dev sh
      pos = some r ∧ rowAt s.dev sh row = some t ∧ (stateOf s.dev sh pos ≠ some MemberState.resyncing ∨ row ∉ resyncLeft s.dev sh r
      ∨ t.gen ∈ r.building))
    ∧ (∃ (s : State) (sh : ℕ) (row : ℕ) (t : Stripe), housekeepingPaused s.dev = false ∧ rowAt s.dev sh row = some t ∧ t.life ≠
      StripeLife.committed)
    ∧ (∃ (s : State) (sh : ℕ) (row : ℕ) (bad : List (ℕ × ℕ)) (t : Stripe) (u : Subst) (p : ℕ), housekeepingPaused s.dev = false ∧
      rowAt s.dev sh row = some t ∧ t.life = StripeLife.committed ∧ runningSubsts s.dev sh = [u] ∧ u.cursor < t.gen ∧ u.reach <
      t.gen ∧ t.gen < u.g0 ∧ ((rebuildLeft s.dev sh u).all fun (x : Stripe) => decide (t.gen ≤ x.gen)) = true ∧ Option.all (fun (g
      : ℕ) => decide (t.gen < g)) (inFlightGen s.dev sh) = true ∧ rowPos s.dev t u.pos = some p ∧ (readRow t bad [p] s.dev).1 =
      false)
    ∧ (∃ (s : State) (sh : ℕ) (row : ℕ) (bad : List (ℕ × ℕ)) (t : Stripe) (u : Subst) (p : ℕ), housekeepingPaused s.dev = false ∧
      rowAt s.dev sh row = some t ∧ t.life = StripeLife.committed ∧ runningSubsts s.dev sh = [u] ∧ u.cursor < t.gen ∧ u.reach <
      t.gen ∧ t.gen < u.g0 ∧ ((rebuildLeft s.dev sh u).all fun (x : Stripe) => decide (t.gen ≤ x.gen)) = true ∧ Option.all (fun (g
      : ℕ) => decide (t.gen < g)) (inFlightGen s.dev sh) = true ∧ rowPos s.dev t u.pos = some p ∧ (readRow t bad [p] s.dev).1 =
      true)
    ∧ (∃ (s : State) (sh : ℕ) (row : ℕ) (t : Stripe), housekeepingPaused s.dev = false ∧ (profileOf s.dev).patrol = 1 ∧
      s.dev.pool.level < 2 ∧ s.dev.light.stage = 0 ∧ s.dev.host.power ≠ 3 ∧ rowAt s.dev sh row = some t ∧ patrolNext s.dev sh =
      some row ∧ patrolReads s.dev t = false)
    ∧ (∃ (s : State) (sh : ℕ) (row : ℕ) (t : Stripe) (r : PatrolRead), housekeepingPaused s.dev = false ∧ (profileOf s.dev).patrol
      = 1 ∧ s.dev.pool.level < 2 ∧ s.dev.light.stage = 0 ∧ s.dev.host.power ≠ 3 ∧ rowAt s.dev sh row = some t ∧ patrolNext s.dev sh
      = some row ∧ patrolReads s.dev t = true ∧ judgePatrol s.dev t r = PatrolResult.equal ∧ r.failed = [])
    ∧ (∃ (s : State) (sh : ℕ) (row : ℕ) (t : Stripe) (r : PatrolRead), housekeepingPaused s.dev = false ∧ (profileOf s.dev).patrol
      = 1 ∧ s.dev.pool.level < 2 ∧ s.dev.light.stage = 0 ∧ s.dev.host.power ≠ 3 ∧ rowAt s.dev sh row = some t ∧ patrolNext s.dev sh
      = some row ∧ patrolReads s.dev t = true ∧ judgePatrol s.dev t r = PatrolResult.equal ∧ r.failed ≠ [])
    ∧ (∃ (s : State) (sh : ℕ) (row : ℕ) (t : Stripe) (r : PatrolRead) (b : ℕ), housekeepingPaused s.dev = false ∧ (profileOf
      s.dev).patrol = 1 ∧ s.dev.pool.level < 2 ∧ s.dev.light.stage = 0 ∧ s.dev.host.power ≠ 3 ∧ rowAt s.dev sh row = some t ∧
      patrolNext s.dev sh = some row ∧ patrolReads s.dev t = true ∧ judgePatrol s.dev t r = PatrolResult.badStrip b)
    ∧ (∃ (s : State) (sh : ℕ) (row : ℕ), housekeepingPaused s.dev = false ∧ ((profileOf s.dev).patrol ≠ 1 ∨ 2 ≤ s.dev.pool.level ∨
      1 ≤ s.dev.light.stage ∨ s.dev.host.power = 3 ∨ patrolNext s.dev sh ≠ some row))
    ∧ (∃ (s : State), s.dev.str.map = [] ∧ s.dev.shelf.scanOnly = [] ∧ s.dev.shelf.lostSlots = [])
    ∧ (∃ (s : State) (nsid : ℕ) (q : Place) (n : ℕ), s.dev.str.map = [] ∧ s.dev.shelf.scanOnly = [] ∧ s.dev.shelf.lostSlots = [(q,
      n)] ∧ q.shoal = nsShoal s.dev nsid) := by
  exact ⟨⟨{ aRun with dev.pair.role := .standby }, by decide⟩,
    ⟨{ aRun with dev.str.rows := [((rkey 0 0), { aStripe with life := .committed, row := 0 })], dev.shelf.labels := [(0, { roster := [(0, { bay := 0, state := .resyncing }), (1, { bay := 1, state := .online }), (2, { bay := 2, state := .online }), (3, { bay := 3, state := .online })], resync := [{ aResync with pos := 0, regions := [0] }] })] },
      0, 0, 0, [], { aResync with pos := 0, regions := [0] }, { aStripe with life := .committed, row := 0 }, 0, by decide⟩,
    ⟨{ aRun with dev.str.rows := [(rkey 0 0, { aStripe with life := .committed, row := 0, gen := 1, live := 1, late := 0, slots := [some aBlock], placed := [{ nsid := 1, grain := 0, slot := 0, count := 1, asn := 1 }] })], dev.shelf.labels := [(0, { roster := [(0, { bay := 0, state := .resyncing }), (1, { bay := 1, state := .online }), (2, { bay := 2, state := .online }), (3, { bay := 3, state := .online })], resync := [{ aResync with pos := 0, regions := [0], gA := 1, gR := 5 }] })] },
      0, 0, 0, [(1, 0), (2, 0), (3, 0)], { aResync with pos := 0, regions := [0], gA := 1, gR := 5 },
      { aStripe with life := .committed, row := 0, gen := 1, live := 1, late := 0, slots := [some aBlock], placed := [{ nsid := 1, grain := 0, slot := 0, count := 1, asn := 1 }] },
      0, by decide⟩,
    ⟨{ aRun with dev.str.rows := [(rkey 0 0, { aStripe with life := .committed, row := 0, gen := 1, live := 1 })], dev.shelf.labels := [(0, { roster := [(0, { bay := 0, state := .online }), (1, { bay := 1, state := .online }), (2, { bay := 2, state := .online }), (3, { bay := 3, state := .online })], resync := [{ aResync with pos := 0 }] })] },
      0, 0, 0, { aResync with pos := 0 }, { aStripe with life := .committed, row := 0, gen := 1, live := 1 }, by decide⟩,
    ⟨{ aRun with dev.str.rows := [((rkey 4096 4096), aStripe)] }, 4096, 4096, aStripe, by decide⟩,
    ⟨{ aRun with dev.str.rows := [(rkey 0 0, { aStripe with life := .committed, row := 0, gen := 1, live := 1, slots := [some aBlock] })], dev.shelf.labels := [(0, { roster := [(0, { bay := 0, state := .failed }), (1, { bay := 1, state := .online }), (2, { bay := 2, state := .online }), (3, { bay := 3, state := .online })], subst := [{ aSubst with pos := 0, kind := 2, g0 := 2, target := 9 }] })] },
      0, 0, [], { aStripe with life := .committed, row := 0, gen := 1, live := 1, slots := [some aBlock] },
      { aSubst with pos := 0, kind := 2, g0 := 2, target := 9 }, 0, by decide⟩,
    ⟨{ aRun with dev.str.rows := [(rkey 0 0, { aStripe with life := .committed, row := 0, gen := 1, live := 1, slots := [some aBlock] })], dev.shelf.labels := [(0, { roster := [(0, { bay := 0, state := .failed }), (1, { bay := 1, state := .online }), (2, { bay := 2, state := .online }), (3, { bay := 3, state := .online })], subst := [{ aSubst with pos := 0, kind := 2, g0 := 2, target := 9 }] })] },
      0, 0, [(0, 0), (1, 0), (2, 0), (3, 0)],
      { aStripe with life := .committed, row := 0, gen := 1, live := 1, slots := [some aBlock] },
      { aSubst with pos := 0, kind := 2, g0 := 2, target := 9 }, 0, by decide⟩,
    ⟨{ aRun with dev.light.stage := 0, dev.str.rows := [(rkey 0 0, { aStripe with life := .committed, row := 0, gen := 1, live := 1, late := 1 })], dev.shelf.labels := [(0, { roster := [(0, { bay := 0, state := .online }), (1, { bay := 1, state := .online }), (2, { bay := 2, state := .online }), (3, { bay := 3, state := .online })] })] },
      0, 0, { aStripe with life := .committed, row := 0, gen := 1, live := 1, late := 1 }, by decide⟩,
    ⟨{ aRun with dev.light.stage := 0, dev.str.rows := [(rkey 0 0, { aStripe with life := .committed, row := 0, gen := 1, live := 1 })], dev.shelf.labels := [(0, { roster := [(0, { bay := 0, state := .online }), (1, { bay := 1, state := .online }), (2, { bay := 2, state := .online }), (3, { bay := 3, state := .online })] })] },
      0, 0, { aStripe with life := .committed, row := 0, gen := 1, live := 1 }, ({  } : PatrolRead), by decide +kernel⟩,
    ⟨{ aRun with dev.light.stage := 0, dev.str.rows := [(rkey 0 0, { aStripe with life := .committed, row := 0, gen := 1, live := 1 })], dev.shelf.labels := [(0, { roster := [(0, { bay := 0, state := .online }), (1, { bay := 1, state := .online }), (2, { bay := 2, state := .online }), (3, { bay := 3, state := .online })] })] },
      0, 0, { aStripe with life := .committed, row := 0, gen := 1, live := 1 }, ({ failed := [0] } : PatrolRead), by
      decide +kernel⟩,
    ⟨{ aRun with dev.light.stage := 0, dev.str.rows := [(rkey 0 0, { aStripe with life := .committed, row := 0, gen := 1, live := 1 })], dev.shelf.labels := [(0, { roster := [(0, { bay := 0, state := .online }), (1, { bay := 1, state := .online }), (2, { bay := 2, state := .online }), (3, { bay := 3, state := .online })] })] },
      0, 0, { aStripe with life := .committed, row := 0, gen := 1, live := 1 }, ({ diffs := [(0, 1)], failed := [0] } :
      PatrolRead), 0, by decide +kernel⟩,
    ⟨aRun, 4096, 4096, by decide⟩,
    ⟨aRun, by decide⟩,
    ⟨{ aHost with dev.shelf.lostSlots := [(aPlace, 1)] }, 1, aPlace, 1, by decide⟩⟩

/-- The hypotheses of `Obligations.RegisterPairs` can be met. -/
theorem witness_RegisterPairs :
    (∃ (s : State) (lo : ℕ) (v : ℕ) (k : ℕ), blocksRead s.dev = true ∧ pairAt s.dev (lo + 4) = some v ∧ k < 4 ∧ within lo 1064960
      16384 = false ∧ tget s.dev.mhi.latches (lo + 4) = none)
    ∧ (∃ (s : State) (lo : ℕ) (v : ℕ) (k : ℕ) (x : ℕ), blocksRead s.dev = true ∧ pairAt s.dev (lo + 4) = some v ∧ k < 4 ∧ tget
      s.dev.mhi.latches (lo + 4) = some x)
    ∧ (∃ (s : State) (n : ℕ), n < 2048 ∧ blocksRead s.dev = true)
    ∧ (∃ (d : Dev) (c : ℕ) (k : ℕ) (r : CoveRec), c < 4096 ∧ k < 16 ∧ tget d.cove.tab c = some r)
    ∧ (∃ (s : State) (t : State) (u : State) (lo : ℕ) (v : ℕ) (c : Instr), blocksRead s.dev = true ∧ pairAt s.dev (lo + 4) = some v
      ∧ within lo 1064960 16384 = false ∧ exec (Instr.registerLoRead { offset := lo }) s = Host.Outcome.next t ∧
      (match c with | Instr.registerLoRead o => o.offset / 4 * 4 ≠ lo | Instr.registerHiRead o => o.offset / 4 * 4 ≠ lo + 4 | Instr.dpDataRead e => e = EccResult.clean | Instr.perfCntLoRead n => True | Instr.poolOccupancyRead => True | Instr.poolEccRead => True | Instr.pairStraitRead => True | Instr.bayCurrRead bay => True | x => False) ∧ exec c t = Host.Outcome.next u)
    ∧ (∃ (s : State) (t : State), s.dev.mhi.mboxResult = none ∧ blocksRead s.dev = true ∧ exec (Instr.registerLoWrite 1179648 lo) s
      = Host.Outcome.next t) := by
  exact ⟨⟨aRun, 0x100008, 0, 3, by decide⟩,
    ⟨{ aRun with dev.mhi.latches := [((0x100008 + 4), 4096)] }, 0x100008, 0, 3, 4096, by decide⟩,
    ⟨aRun, 2047, by decide⟩,
    ⟨{ aRun.dev with cove.tab := [(4095, aCoveRec)] }, 4095, 15, aCoveRec, by decide⟩,
    ⟨aRun, _, _, 0x100008, 0, .poolEccRead, by decide, by decide, by decide, rfl, trivial, rfl⟩,
    ⟨aRun, _, by decide, by decide, rfl⟩⟩

/-- The hypotheses of `Obligations.RegisterReads` can be met. -/
theorem witness_RegisterReads :
    (∃ (s : State) (b : ℕ) (v : Bay), blocksRead s.dev = true ∧ b < 32 ∧ tget s.dev.bay.bays b = some v)
    ∧ (∃ (s : State) (c : Instr), blocksRead s.dev = false ∧ mhiOpen s.dev = true ∧ c ∈ [Instr.poolOccupancyRead,
      Instr.poolEccRead, Instr.pairStraitRead, Instr.bayCurrRead 0]) := by
  exact ⟨⟨{ aRun with dev.bay.bays := [(31, aBay)] }, 31, aBay, by decide⟩,
    ⟨{ aRun with dev.mhi.restarting := true }, .poolEccRead, by decide, by decide, by simp⟩⟩

/-- The hypotheses of `Obligations.RegisterWrites` can be met. -/
theorem witness_RegisterWrites :
    (∃ (s : State) (off : ℕ) (n : ℕ), s.dev.mhi.mboxResult = none ∧ (n < 4 ∨ off % 4 ≠ 0))
    ∧ (∃ (s : State) (off : ℕ), s.dev.mhi.mboxResult = none ∧ mhiOpen s.dev = true ∧ off ∈ [0, 4, 8, 12, 24, 32, 36])
    ∧ (∃ (s : State), s.dev.mhi.mboxResult = none ∧ blocksRead s.dev = true)
    ∧ (∃ (s : State) (off : ℕ), s.dev.mhi.mboxResult = none ∧ blocksOpen s.dev = true ∧ off ∈ [65544, 65548, 65552, 65560, 65564,
      65568, 65572, 131072, 131076, 131080, 131084, 131088, 131092, 131096, 131100, 131108, 786432, 786444, 786448, 786452, 917504,
      917508, 917512, 983040, 983048, 983052, 983080])
    ∧ (∃ (s : State) (v : Reg), mhiOpen s.dev = true ∧ BitVec.getLsbD v 0 = true ∧ BitVec.toNat v / 256 % 256 = 90 ∧
      (!s.dev.boot.serving || s.dev.host.power == 3 || s.dev.pool.state == PoolState.failed) = true ∧ s.dev.mhi.service = false)
    ∧ (∃ (s : State) (v : Reg), mhiOpen s.dev = true ∧ BitVec.getLsbD v 0 = true ∧ (BitVec.toNat v / 256 % 256 ≠ 90 ∨
      (!s.dev.boot.serving || s.dev.host.power == 3 || s.dev.pool.state == PoolState.failed) = false ∨ s.dev.mhi.service = true))
    ∧ (∃ (s : State) (v : Reg), mhiOpen s.dev = true ∧ BitVec.getLsbD v 0 = false ∧ s.dev.mhi.service = true)
    ∧ (∃ (s : State) (v : Reg), mhiOpen s.dev = true ∧ BitVec.getLsbD v 0 = false ∧ s.dev.mhi.service = false)
    ∧ (∃ (s : State), mhiOpen s.dev = true ∧ s.dev.mhi.mboxResult = none ∧ (s.dev.mhi.mboxReady = false ∨ s.dev.mhi.mboxBusy =
      true))
    ∧ (∃ (s : State), mhiOpen s.dev = true ∧ s.dev.mhi.mboxResult = none ∧ s.dev.mhi.mboxReady = true ∧ s.dev.mhi.mboxBusy = false
      ∧ (leNum (mgets s.mem 274882101248 2)) ∈ [1, 16, 17, 18, 19, 20, 32, 33, 48, 49, 64, 65, 80] ∧ (leNum (mgets s.mem
      274882101250 2)) = 0 ∧ (leNum (mgets s.mem 274882101252 4)) ≤ 65536 ∧ (leNum (mgets s.mem 274882101256 4)) ≤ 65536)
    ∧ (∃ (s : State), mhiOpen s.dev = true ∧ s.dev.mhi.mboxResult = none ∧ s.dev.mhi.mboxReady = true ∧ s.dev.mhi.mboxBusy = false
      ∧ (leNum (mgets s.mem 274882101248 2)) ∉ [1, 16, 17, 18, 19, 20, 32, 33, 48, 49, 64, 65, 80]) := by
  exact ⟨⟨aRun, 4096, 3, by decide⟩,
    ⟨aRun, 36, by decide⟩,
    ⟨aRun, by decide⟩,
    ⟨aRun, 983080, by decide⟩,
    ⟨{ aRun with dev.host.power := 3 }, 0x5A01, by decide⟩,
    ⟨aRun, 1, by decide⟩,
    ⟨{ aRun with dev.mhi.service := true }, 0, by decide⟩,
    ⟨aRun, 0, by decide⟩,
    ⟨{ aRun with dev.mhi.mboxReady := false }, by decide⟩,
    ⟨{ aRun with dev.mhi.mboxReady := true, dev.mhi.mboxBusy := false, mem := mputs [] 0x4000400000 (leBytes 0x50 2 ++ leBytes 0 2 ++ leBytes 65536 4 ++ leBytes 65536 4) },
      by decide⟩,
    ⟨{ aRun with dev.mhi.mboxReady := true, dev.mhi.mboxBusy := false }, by decide⟩⟩

/-- The hypotheses of `Obligations.Reservations` can be met. -/
theorem witness_Reservations :
    (∃ (r : ResvRecord) (host : ℕ), holds r host = true)
    ∧ (∃ (r : ResvRecord) (host : ℕ), holds r host = false ∧ r.rtype = 0)
    ∧ (∃ (r : ResvRecord) (host : ℕ), holds r host = false ∧ r.rtype = 1)
    ∧ (∃ (r : ResvRecord) (host : ℕ), holds r host = false ∧ r.rtype = 2)
    ∧ (∃ (r : ResvRecord) (host : ℕ), holds r host = false ∧ (r.rtype = 3 ∨ r.rtype = 5))
    ∧ (∃ (r : ResvRecord) (host : ℕ), holds r host = false ∧ (r.rtype = 4 ∨ r.rtype = 6))
    ∧ (∃ (r : ResvRecord) (host : ℕ) (a : ResvArgs), a.action = 0 ∧ registrant r host = none ∧ r.registrants.length < 126 ∧ a.cptpl
      = 0)
    ∧ (∃ (r : ResvRecord) (host : ℕ) (a : ResvArgs) (i : ℕ), registrant r host = some i ∧ Option.map (fun (x : Registrant) =>
      x.key) r.registrants[i]? = some a.currentKey ∧ a.action = 0 ∧ r.rtype = 0 ∧ 1 ≤ a.rtype ∧ a.rtype ≤ 6)
    ∧ (∃ (r : ResvRecord) (host : ℕ) (a : ResvArgs) (i : ℕ), registrant r host = some i ∧ Option.map (fun (x : Registrant) =>
      x.key) r.registrants[i]? = some a.currentKey ∧ a.action = 1)
    ∧ (∃ (d : Dev) (w : AdminWait), w.kind = 10 ∧ d.host.waits = [w] ∧ w.stands = true ∧ (mirrors d = false ∨ w.mseq ≤
      d.pair.ackMseq))
    ∧ (∃ (d : Dev) (w : AdminWait), w.kind = 10 ∧ d.host.waits = [w] ∧ (w.stands = false ∨ mirrors d = true ∧ d.pair.ackMseq <
      w.mseq)) := by
  exact ⟨⟨{ aResvRecord with rtype := 1, holder := some 0, registrants := [aRegistrant] }, 1, by decide⟩,
    ⟨aResvRecord, 4096, by decide⟩,
    ⟨{ aResvRecord with rtype := 1 }, 4096, by decide⟩,
    ⟨{ aResvRecord with rtype := 2 }, 4096, by decide⟩,
    ⟨{ aResvRecord with rtype := 3 }, 4096, by decide⟩,
    ⟨{ aResvRecord with rtype := 4 }, 4096, by decide⟩,
    ⟨aResvRecord, 4096, { aResvArgs with action := 0 }, by decide⟩,
    ⟨{ aResvRecord with registrants := [aRegistrant] }, 1, { aResvArgs with action := 0, currentKey := 1, rtype := 6 }, 0, by
      decide⟩,
    ⟨{ aResvRecord with registrants := [aRegistrant] }, 1, { aResvArgs with action := 1, currentKey := 1 }, 0, by decide⟩,
    ⟨{ aRun.dev with host.waits := [{ aAdminWait with kind := 10, stands := true }] },
      { aAdminWait with kind := 10, stands := true }, by decide⟩,
    ⟨{ aRun.dev with host.waits := [{ aAdminWait with kind := 10 }] }, { aAdminWait with kind := 10 }, by decide⟩⟩

/-- The hypotheses of `Obligations.ResetAndStops` can be met. -/
theorem witness_ResetAndStops :
    (∃ (d : Dev) (n : ℕ) (c : Ns), d.pool.state ∉ [PoolState.off, PoolState.failed, PoolState.stopped] ∧ tget d.host.nss n = some
      c)
    ∧ (∃ (d : Dev), d.pool.state = PoolState.off)
    ∧ (∃ (d : Dev) (n : ℕ) (b : Bay), tget d.bay.bays n = some b)
    ∧ (∃ (s : State), coreRuns s.dev = true ∧ s.dev.boot.fenceHold = false)
    ∧ (∃ (s : State) (t : ℤ), coreRuns s.dev = true ∧ 105 ≤ t)
    ∧ (∃ (s : State) (x : RailTrip), coreRuns s.dev = true ∧ x.rail < vddIo)
    ∧ (∃ (s : State) (v : Reg), coreRuns s.dev = true ∧ s.dev.mhi.inReset = false ∧ bits (BitVec.toNat v) 15 8 = 165)
    ∧ (∃ (v : Reg), bits (BitVec.toNat v) 15 8 ≠ 165)
    ∧ (∃ (s : State), coreRuns s.dev = false ∧ coreHeld s.dev = true)
    ∧ (∃ (s : State), s.dev.boot.porstN = false)
    ∧ (∃ (s : State), s.dev.boot.fenceHold = true)
    ∧ (∃ (s : State) (r : ℕ), r ∈ s.dev.boot.railsLow ∧ r < vddIo)
    ∧ (∃ (s : State), coreHeld s.dev = false ∧ s.dev.boot.straps.tliHead = true)
    ∧ (∃ (s : State), coreHeld s.dev = false ∧ s.dev.boot.straps.tliHead = false) := by
  exact ⟨⟨{ aRun.dev with host.nss := [(4096, aNs)] }, 4096, aNs, by decide⟩,
    ⟨{ aRun.dev with pool.state := PoolState.off }, by decide⟩,
    ⟨{ aRun.dev with bay.bays := [(4096, aBay)] }, 4096, aBay, by decide⟩,
    ⟨aRun, by decide⟩,
    ⟨aRun, 200, by decide⟩,
    ⟨aRun, ({ rail := 0 }), by decide⟩,
    ⟨aRun, 0xA500, by decide⟩,
    ⟨0, by decide⟩,
    ⟨(State.reset : State), by decide⟩,
    ⟨{ aRun with dev.boot.porstN := false }, by decide⟩,
    ⟨{ aRun with dev.boot.fenceHold := true }, by decide⟩,
    ⟨{ aRun with dev.boot.railsLow := [7] }, 7, by decide⟩,
    ⟨{ aRun with dev.boot.straps.tliHead := true }, by decide⟩,
    ⟨{ aRun with dev.boot.straps.tliHead := false }, by decide⟩⟩

/-- The hypotheses of `Obligations.ResetState` can be met. -/
theorem witness_ResetState :
    (∃ (o : ℕ), o ∈ [4, 12, 32, 36, 40, 44] ∧ o ∈ [0, 4, 24, 28, 32, 40, 44])
    ∧ (∃ (o : ℕ), o ∈ [4, 12, 40])
    ∧ (∃ (o : ℕ), o ∈ [12, 16, 20, 28, 32])
    ∧ (∃ (n : ℕ), n < 32)
    ∧ (∃ (o : ℕ), o ∈ [0, 12, 32, 36])
    ∧ (∃ (n : ℕ), n < 2048) := by
  exact ⟨⟨44, by decide⟩,
    ⟨40, by decide⟩,
    ⟨32, by decide⟩,
    ⟨31, by decide⟩,
    ⟨36, by decide⟩,
    ⟨2047, by decide⟩⟩

/-- The hypotheses of `Obligations.RolesSwap` can be met. -/
theorem witness_RolesSwap :
    (∃ (s : State), blocksOpen s.dev = true ∧ s.dev.pair.swap ≠ SwapStep.draining ∧ s.dev.pair.swap ≠ SwapStep.selftest ∧
      (s.dev.pair.swap ≠ SwapStep.draining ∨ swapReady s.dev = false) ∧ (s.dev.pair.swap ≠ SwapStep.selftest ∨ s.dev.pair.role ≠
      Role.standby) ∧ s.dev.pair.swap ≠ SwapStep.acquiring ∧ (s.dev.pair.swap ≠ SwapStep.handover ∨ s.dev.pair.role ≠ Role.active)
      ∧ (s.dev.pair.role ≠ Role.active ∨ s.dev.pair.partner ≠ 2 ∨ s.dev.clk.todValid = false) ∧ (chartSwitched s.dev
      s.mem).1.clk.swapWaiting = false)
    ∧ (∃ (s : State), (s.dev.pair.swap ≠ SwapStep.none ∨ s.dev.pair.swapDeferred = true))
    ∧ (∃ (s : State), s.dev.pair.swap = SwapStep.none ∧ s.dev.pair.swapDeferred = false ∧ (s.dev.pair.role ≠ Role.active ∨
      s.dev.pair.partner ≠ 2 ∨ s.dev.chart.state ≠ ChartState.idle))
    ∧ (∃ (s : State), s.dev.pair.swap = SwapStep.none ∧ s.dev.pair.swapDeferred = false ∧ s.dev.pair.role = Role.active ∧
      s.dev.pair.partner = 2 ∧ s.dev.chart.state = ChartState.idle ∧ coveBusy s.dev = true)
    ∧ (∃ (s : State), s.dev.pair.swap = SwapStep.none ∧ s.dev.pair.swapDeferred = false ∧ s.dev.pair.role = Role.active ∧
      s.dev.pair.partner = 2 ∧ s.dev.chart.state = ChartState.idle ∧ coveBusy s.dev = false)
    ∧ (∃ (s : State), s.dev.pair.straitUp = true ∧ s.dev.pair.nakFor = none ∧ s.dev.pair.role = Role.standby ∧ s.dev.pair.partner =
      2)
    ∧ (∃ (s : State), s.dev.pair.straitUp = true ∧ s.dev.pair.nakFor = none ∧ (s.dev.pair.role ≠ Role.standby ∨ s.dev.pair.partner
      ≠ 2))
    ∧ (∃ (s : State), s.dev.pair.straitUp = true ∧ s.dev.pair.nakFor = none ∧ mirroring s.dev = true)
    ∧ (∃ (s : State), s.dev.pair.swap = SwapStep.selftest ∧ s.dev.pair.role = Role.standby)
    ∧ (∃ (s : State), s.dev.pair.swap = SwapStep.selftest ∧ s.dev.pair.role = Role.active ∧ s.dev.chart.state ≠ ChartState.writing
      ∧ s.dev.chart.state ≠ ChartState.switching)
    ∧ (∃ (s : State), s.dev.pair.swap = SwapStep.selftest ∧ s.dev.pair.role = Role.active ∧ (s.dev.chart.state = ChartState.writing
      ∨ s.dev.chart.state = ChartState.switching))
    ∧ (∃ (s : State), s.dev.pair.swap = SwapStep.draining ∧ swapReady s.dev = true)
    ∧ (∃ (s : State), s.dev.pair.swap = SwapStep.acquiring)
    ∧ (∃ (s : State), s.dev.pair.swap = SwapStep.handover ∧ s.dev.pair.role = Role.active ∧ s.dev.pair.swapForFirmware = false)
    ∧ (∃ (s : State) (p : ℕ) (i : ℕ) (x : TideEntry), (entriesOf (chartOf s.dev))[i]? = some x ∧ s.dev.clk.todValid = true ∧
      (recompute s.dev).clk.executed.contains (p, i) = true)
    ∧ (∃ (s : State) (p : ℕ) (i : ℕ) (x : TideEntry), (entriesOf (chartOf s.dev))[i]? = some x ∧ s.dev.clk.todValid = true ∧
      (recompute s.dev).clk.executed.contains (p, i) = false ∧ x.swap = false ∧ x.rack = false)
    ∧ (∃ (s : State) (i : ℕ), (entriesOf (chartOf s.dev))[i]? = none)
    ∧ (∃ (s : State) (x : TideEntry), Option.any (fun (q : Profile) => q.swapPermit == 1) (profilesOf (chartOf s.dev))[x.profile]?
      = true ∧ (chartOf s.dev).pair.swapEnable = 1 ∧ s.dev.pair.role = Role.active ∧ s.dev.pair.partner = 2 ∧ s.dev.clk.todValid =
      true) := by
  exact ⟨⟨aRun, by decide⟩,
    ⟨{ aRun with dev.pair.swapDeferred := true }, by decide⟩,
    ⟨{ aRun with dev.pair.swap := SwapStep.none }, by decide⟩,
    ⟨{ aRun with dev.pair.swap := SwapStep.none, dev.pair.swapDeferred := false, dev.pair.role := Role.active, dev.pair.partner := 2, dev.chart.state := ChartState.idle, dev.cove.tab := [(1, { aCoveRec with freezing := some 0 })] },
      by decide⟩,
    ⟨{ aRun with dev.pair.swap := SwapStep.none, dev.pair.role := Role.active, dev.pair.partner := 2, dev.chart.state := ChartState.idle },
      by decide⟩,
    ⟨{ aRun with dev.pair.straitUp := true, dev.pair.role := Role.standby, dev.pair.partner := 2 }, by decide⟩,
    ⟨{ aRun with dev.pair.straitUp := true }, by decide⟩,
    ⟨{ aRun with dev.pair.straitUp := true, dev.pair.role := .standby, dev.pair.partner := 2 }, by decide⟩,
    ⟨{ aRun with dev.pair.swap := SwapStep.selftest, dev.pair.role := Role.standby }, by decide⟩,
    ⟨{ aRun with dev.pair.swap := SwapStep.selftest, dev.pair.role := Role.active }, by decide⟩,
    ⟨{ aRun with dev.pair.swap := SwapStep.selftest, dev.pair.role := Role.active, dev.chart.state := ChartState.writing }, by
      decide⟩,
    ⟨{ aRun with dev.pair.swap := SwapStep.draining }, by decide⟩,
    ⟨{ aRun with dev.pair.swap := SwapStep.acquiring }, by decide⟩,
    ⟨{ aRun with dev.pair.swap := SwapStep.handover, dev.pair.role := Role.active }, by decide⟩,
    ⟨{ aRun with dev.clk.todValid := true, dev.clk.executed := [(0, 0)] }, 0, 0,
      ({ offsetS := 0, profile := 0, swap := true, rack := false }), by decide⟩,
    ⟨{ aRun with dev.clk.todValid := true, dev.chart.inForce := some { defaultChart with tide := { omitted := false, periodS := 86400, anchorS := 0, profiles := [], entries := [aTideEntry] } } },
      0, 0, aTideEntry, by decide⟩,
    ⟨aRun, 4096, by decide⟩,
    ⟨{ aRun with dev.pair.role := Role.active, dev.pair.partner := 2, dev.clk.todValid := true, dev.chart.inForce := some { defaultChart with pair.swapEnable := 1 } },
      aTideEntry, by decide⟩⟩

/-- The hypotheses of `Obligations.SidesPair` can be met. -/
theorem witness_SidesPair :
    (∃ (s : State), s.dev.pair.straitUp = true ∧ s.dev.pair.nakFor = none ∧ (s.dev.boot.step < 9 ∨ s.dev.pair.partner = 2))
    ∧ (∃ (s : State), s.dev.pair.straitUp = true ∧ s.dev.pair.nakFor = none ∧ 9 ≤ s.dev.boot.step ∧ s.dev.pair.partner ≠ 2 ∧
      s.dev.pair.helloSent = true ∧ s.dev.pair.partnerWait = false)
    ∧ (∃ (s : State), s.dev.pair.straitUp = true ∧ s.dev.pair.nakFor = none ∧ 9 ≤ s.dev.boot.step ∧ s.dev.pair.partner ≠ 2 ∧
      s.dev.pair.helloSent = true ∧ s.dev.pair.partnerWait = true)
    ∧ (∃ (s : State) (h : StraitHdr) (x : Hello), s.dev.pair.straitUp = true ∧ s.dev.pair.nakFor = none ∧ 9 ≤ s.dev.boot.step ∧
      s.dev.pair.partner ≠ 2 ∧ s.dev.pair.helloSent = false ∧ s.dev.pair.partnerWait = false ∧ (sendHello
      (({ (({ s.dev with pair.nakFor := none, pair.rxLseq := h.lseq } : Dev)) with pair.helloIn := some x } : Dev))
      s.mem).pair.partnerWait = false)
    ∧ (∃ (s : State), s.dev.pair.straitUp = true ∧ s.dev.pair.nakFor = none ∧ s.dev.pair.role = Role.fenced ∧
      s.dev.pair.fenceReason = 6)
    ∧ (∃ (s : State) (x : Hello) (c : ℕ), s.dev.pair.straitUp = true ∧ s.dev.pair.nakFor = none ∧ s.dev.pair.partner ≠ 2 ∧
      s.dev.pair.syncing = false ∧ (chartOf s.dev).laneMode ≠ 1 ∧ (joining s.dev = true ∨ servesPair s.dev = true) ∧
      (s.dev.pair.role ≠ Role.fenced ∨ s.dev.pair.fenceReason ≠ 6) ∧ helloCode (({ s.dev with pair.helloIn := some x } : Dev)) x =
      some c)
    ∧ (∃ (s : State) (x : Hello), s.dev.pair.straitUp = true ∧ s.dev.pair.nakFor = none ∧ x.shelfId ≠ s.dev.pair.shelfId ∧
      x.shelfId ≠ 0 ∧ s.dev.pair.shelfId ≠ 0)
    ∧ (∃ (s : State) (x : Hello), s.dev.pair.straitUp = true ∧ s.dev.pair.nakFor = none ∧ x.shelfId = s.dev.pair.shelfId ∧ x.side =
      s.dev.pair.side)
    ∧ (∃ (s : State) (x : Hello), s.dev.pair.straitUp = true ∧ s.dev.pair.nakFor = none ∧ x.shelfId = s.dev.pair.shelfId ∧ x.side ≠
      s.dev.pair.side ∧ chainAgrees s.dev x = false)
    ∧ (∃ (s : State) (x : Hello), s.dev.pair.straitUp = true ∧ s.dev.pair.nakFor = none ∧ x.shelfId = s.dev.pair.shelfId ∧ x.side ≠
      s.dev.pair.side ∧ chainAgrees s.dev x = true ∧ x.kekCheck ≠ s.dev.keys.kekCheck)
    ∧ (∃ (s : State) (x : Hello), s.dev.pair.straitUp = true ∧ s.dev.pair.nakFor = none ∧ x.shelfId = s.dev.pair.shelfId ∧ x.side ≠
      s.dev.pair.side ∧ chainAgrees s.dev x = true ∧ x.kekCheck = s.dev.keys.kekCheck)
    ∧ (∃ (s : State) (c : ℕ), s.dev.pair.straitUp = true ∧ s.dev.pair.nakFor = none ∧ s.dev.pair.helloIn = none ∧ s.dev.pair.refuse
      = c % 16)
    ∧ (∃ (s : State) (c : ℕ), s.dev.pair.straitUp = true ∧ s.dev.pair.nakFor = none ∧ s.dev.pair.refuse ≠ c % 16)
    ∧ (∃ (s : State), s.dev.pair.straitUp = true ∧ s.dev.pair.nakFor = none ∧ (joining s.dev = false ∨ s.dev.pair.partner = 2) ∧
      (joining s.dev = false ∨ s.dev.pair.syncing = false) ∧ mirrors s.dev = false ∧ s.dev.pair.recordNext = none)
    ∧ (∃ (s : State), s.dev.pair.straitUp = true ∧ s.dev.pair.nakFor = none ∧ joining s.dev = true ∧ s.dev.pair.partner ≠ 2)
    ∧ (∃ (s : State), s.dev.pair.straitUp = true ∧ s.dev.pair.nakFor = none ∧ mirrors s.dev = true ∧ s.dev.pair.syncEnd = none)
    ∧ (∃ (s : State) (h : StraitHdr) (n : ℕ) (k : ℕ), s.dev.pair.straitUp = true ∧ s.dev.pair.nakFor = none ∧ mirrors s.dev = true
      ∧ s.dev.pair.syncEnd = some k ∧
      (({ (({ s.dev with pair.nakFor := none, pair.rxLseq := h.lseq } : Dev)) with pair.ackMseq := max s.dev.pair.ackMseq (min n s.dev.pair.txMseq) }
      : Dev)).pair.ackMseq < k)
    ∧ (∃ (s : State) (h : StraitHdr) (n : ℕ) (k : ℕ), s.dev.pair.straitUp = true ∧ s.dev.pair.nakFor = none ∧ mirrors s.dev = true
      ∧ s.dev.pair.syncEnd = some k ∧ k ≤
      (({ (({ s.dev with pair.nakFor := none, pair.rxLseq := h.lseq } : Dev)) with pair.ackMseq := max s.dev.pair.ackMseq (min n s.dev.pair.txMseq) }
      : Dev)).pair.ackMseq)
    ∧ (∃ (s : State) (r : ShelfRecord), s.dev.pair.straitUp = true ∧ s.dev.pair.nakFor = none ∧ s.dev.pair.recordNext = some r ∧
      (s.dev.pair.recordFor = RecordCause.start ∨ s.dev.pair.recordFor = RecordCause.takeover ∨ s.dev.pair.recordFor =
      RecordCause.forced))
    ∧ (∃ (s : State) (r : ShelfRecord), s.dev.pair.straitUp = true ∧ s.dev.pair.nakFor = none ∧ s.dev.pair.recordNext = some r ∧
      s.dev.pair.recordFor = RecordCause.pairing)
    ∧ (∃ (s : State) (r : ShelfRecord), s.dev.pair.straitUp = true ∧ s.dev.pair.nakFor = none ∧ s.dev.pair.recordNext = some r ∧
      s.dev.pair.recordFor = RecordCause.solo)
    ∧ (∃ (s : State) (r : ShelfRecord), s.dev.pair.straitUp = true ∧ s.dev.pair.nakFor = none ∧ s.dev.pair.recordNext = some r ∧
      s.dev.pair.recordFor = RecordCause.swap)
    ∧ (∃ (s : State) (b : Bool), s.dev.pair.straitUp = true ∧ s.dev.pair.nakFor = none ∧ s.dev.chart.adopt ≠ 3 ∧ (storeDone b s.dev
      s.mem).1.clk.swapWaiting = false) := by
  exact ⟨⟨{ aRun with dev.pair.straitUp := true, dev.pair.partner := 2 }, by decide⟩,
    ⟨{ aRun with dev.pair.straitUp := true, dev.pair.helloSent := true }, by decide⟩,
    ⟨{ aRun with dev.pair.straitUp := true, dev.pair.helloSent := true, dev.pair.partnerWait := true }, by decide⟩,
    ⟨{ aRun with dev.pair.straitUp := true }, aStraitHdr, aHello, by decide⟩,
    ⟨{ aRun with dev.pair.straitUp := true, dev.pair.role := .fenced, dev.pair.fenceReason := 6 }, by decide⟩,
    ⟨{ aRun with dev.pair.straitUp := true }, { aHello with side := 0 }, 2, by decide⟩,
    ⟨{ aRun with dev.pair.straitUp := true, dev.pair.shelfId := 1 }, { aHello with shelfId := 2 }, by decide⟩,
    ⟨{ aRun with dev.pair.straitUp := true },
      { aHello with shelfId := ({ aRun with dev.pair.straitUp := true } : State).dev.pair.shelfId, side := ({ aRun with dev.pair.straitUp := true } : State).dev.pair.side },
      by decide⟩,
    ⟨{ aRun with dev.pair.straitUp := true, dev.pair.nakFor := none, dev.tline.roster := [(3, { shelf := 0, at_ := 0 })], dev.pair.shelfId := 0 },
      { aHello with shelfId := 0, tlineAddr := 3 }, by decide⟩,
    ⟨{ aRun with dev.pair.straitUp := true, dev.pair.shelfId := 0 }, { aHello with shelfId := 0, kekCheck := 1 }, by decide⟩,
    ⟨{ aRun with dev.pair.straitUp := true },
      { aHello with shelfId := ({ aRun with dev.pair.straitUp := true } : State).dev.pair.shelfId, kekCheck := ({ aRun with dev.pair.straitUp := true } : State).dev.keys.kekCheck },
      by decide⟩,
    ⟨{ aRun with dev.pair.straitUp := true, dev.pair.refuse := 4096 % 16 }, 4096, by decide⟩,
    ⟨{ aRun with dev.pair.straitUp := true }, 4095, by decide⟩,
    ⟨{ aRun with dev.pair.straitUp := true }, by decide⟩,
    ⟨{ aRun with dev.pair.straitUp := true, dev.pair.role := .standby }, by decide⟩,
    ⟨{ aRun with dev.pair.straitUp := true, dev.pair.role := .active, dev.pair.partner := 2 }, by decide⟩,
    ⟨{ aRun with dev.pair.straitUp := true, dev.pair.syncEnd := some 4096, dev.pair.role := .active, dev.pair.partner := 2 },
      aStraitHdr, 4096, 4096, by decide⟩,
    ⟨{ aRun with dev.pair.straitUp := true, dev.pair.syncEnd := some 0, dev.pair.role := .active, dev.pair.partner := 2 },
      aStraitHdr, 4096, 0, by decide⟩,
    ⟨{ aRun with dev.pair.straitUp := true, dev.pair.recordNext := some aShelfRecord, dev.pair.recordFor := RecordCause.start },
      aShelfRecord, by decide⟩,
    ⟨{ aRun with dev.pair.straitUp := true, dev.pair.recordNext := some aShelfRecord, dev.pair.recordFor := RecordCause.pairing },
      aShelfRecord, by decide⟩,
    ⟨{ aRun with dev.pair.straitUp := true, dev.pair.recordNext := some aShelfRecord, dev.pair.recordFor := RecordCause.solo },
      aShelfRecord, by decide⟩,
    ⟨{ aRun with dev.pair.straitUp := true, dev.pair.recordNext := some aShelfRecord, dev.pair.recordFor := RecordCause.swap },
      aShelfRecord, by decide⟩,
    ⟨{ aRun with dev.pair.straitUp := true }, true, by decide⟩⟩

/-- The hypotheses of `Obligations.SprayReceives` can be met. -/
theorem witness_SprayReceives :
    (∃ (s : State) (n : ℕ) (q : Qp), qpOf s.dev n = some q ∧ q.spray = true ∧ q.error = false ∧ 0 < q.unacked)
    ∧ (∃ (s : State) (n : ℕ) (q : Qp), qpOf s.dev n = some q ∧ (q.spray = false ∨ q.unacked = 0))
    ∧ (∃ (n : ℕ) (e : Dev), qpOf e n = none)
    ∧ (∃ (n : ℕ) (h : SprayHdr) (e : Dev) (q : Qp), qpOf e n = some q ∧ q.error = false ∧ q.connected = true ∧ (q.spray = false ∨
      h.version ≠ 1 ∨ h.fragCount ≤ h.fragIndex))
    ∧ (∃ (n : ℕ) (h : SprayHdr) (e : Dev) (q : Qp), qpOf e n = some q ∧ q.error = false ∧ q.connected = true ∧ q.spray = true ∧
      h.version = 1 ∧ h.fragIndex < h.fragCount ∧ h.fragCount ≤ 2048 ∧ h.path < 64 ∧ (h.fragCount - 1) * q.mtu < h.totalLen ∧
      h.totalLen ≤ h.fragCount * q.mtu ∧ (2 ^ 23 ≤ psnDiff h.psn q.rxPsn ∨ h.psn ∈ q.rxSet))
    ∧ (∃ (n : ℕ) (h : SprayHdr) (e : Dev) (q : Qp), qpOf e n = some q ∧ q.error = false ∧ q.connected = true ∧ q.spray = true ∧
      h.version = 1 ∧ h.fragIndex < h.fragCount ∧ h.fragCount ≤ 2048 ∧ h.path < 64 ∧ (h.fragCount - 1) * q.mtu < h.totalLen ∧
      h.totalLen ≤ h.fragCount * q.mtu ∧ 256 ≤ psnDiff h.psn q.rxPsn ∧ psnDiff h.psn q.rxPsn < 2 ^ 23 ∧ h.psn ∉ q.rxSet)
    ∧ (∃ (n : ℕ) (h : SprayHdr) (e : Dev) (q : Qp) (cap : Capsule), qpOf e n = some q ∧ q.error = false ∧ q.connected = true ∧
      q.spray = true ∧ h.version = 1 ∧ h.fragIndex < h.fragCount ∧ h.fragCount ≤ 2048 ∧ h.path < 64 ∧ (h.fragCount - 1) * q.mtu <
      h.totalLen ∧ h.totalLen ≤ h.fragCount * q.mtu ∧ psnDiff h.psn q.rxPsn < 256 ∧ h.psn ∉ q.rxSet ∧ (h.totalLen ≠ 64 + 4096 *
      cap.data.length ∨ 1 < cap.data.length ∨ pastDepth e n = true))
    ∧ (∃ (n : ℕ) (h : SprayHdr) (e : Dev) (q : Qp) (cap : Capsule), qpOf e n = some q ∧ q.error = false ∧ q.connected = true ∧
      q.spray = true ∧ h.version = 1 ∧ h.fragIndex < h.fragCount ∧ h.fragCount ≤ 2048 ∧ h.path < 64 ∧ (h.fragCount - 1) * q.mtu <
      h.totalLen ∧ h.totalLen ≤ h.fragCount * q.mtu ∧ psnDiff h.psn q.rxPsn < 256 ∧ h.psn ∉ q.rxSet ∧ h.totalLen = 64 + 4096 *
      cap.data.length ∧ pastDepth e n = false ∧ cap.data.length = 1 ∧ thas q.rxMsgs (lastPsn h) = false ∧ 524288 ≤ buffersTaken e)
    ∧ (∃ (n : ℕ) (h : SprayHdr) (e : Dev) (q : Qp) (cap : Capsule), qpOf e n = some q ∧ q.error = false ∧ q.connected = true ∧
      q.spray = true ∧ h.version = 1 ∧ h.fragIndex < h.fragCount ∧ h.fragCount ≤ 2048 ∧ h.path < 64 ∧ (h.fragCount - 1) * q.mtu <
      h.totalLen ∧ h.totalLen ≤ h.fragCount * q.mtu ∧ psnDiff h.psn q.rxPsn < 256 ∧ h.psn ∉ q.rxSet ∧ h.totalLen = 64 + 4096 *
      cap.data.length ∧ pastDepth e n = false ∧ (cap.data = [] ∨ cap.data.length = 1 ∧ buffersTaken e < 524288))
    ∧ (∃ (n : ℕ) (h : SprayHdr) (e : Dev) (q : Qp) (dt : Frag), qpOf e n = some q ∧ q.error = false ∧ q.connected = true ∧ q.spray
      = true ∧ h.version = 1 ∧ h.fragIndex < h.fragCount ∧ h.fragCount ≤ 2048 ∧ h.path < 64 ∧ (h.fragCount - 1) * q.mtu <
      h.totalLen ∧ h.totalLen ≤ h.fragCount * q.mtu ∧ dt.len = sprayLen q h ∧ psnDiff h.psn q.rxPsn < 256 ∧ h.psn ∉ q.rxSet ∧
      landingOk q h.rkey h.vaddr dt.len = false ∧ readOf q h = none)
    ∧ (∃ (n : ℕ) (h : SprayHdr) (e : Dev) (q : Qp) (dt : Frag) (l : Landing), qpOf e n = some q ∧ q.error = false ∧ q.connected =
      true ∧ q.spray = true ∧ h.version = 1 ∧ h.fragIndex < h.fragCount ∧ h.fragCount ≤ 2048 ∧ h.path < 64 ∧ (h.fragCount - 1) *
      q.mtu < h.totalLen ∧ h.totalLen ≤ h.fragCount * q.mtu ∧ dt.len = sprayLen q h ∧ psnDiff h.psn q.rxPsn < 256 ∧ h.psn ∉ q.rxSet
      ∧ q.landing = some l ∧ landingOk q h.rkey h.vaddr dt.len = true ∧ ((slotParts (dt.len / 65536 + 2) (h.vaddr - l.base) dt.len
      0).all fun (y : ℕ × ℕ × ℕ × ℕ) => (landSlot l y.1).gen == h.gen) = true)
    ∧ (∃ (n : ℕ) (h : SprayHdr) (e : Dev) (q : Qp) (dt : Frag) (l : Landing), qpOf e n = some q ∧ q.error = false ∧ q.connected =
      true ∧ q.spray = true ∧ h.version = 1 ∧ h.fragIndex < h.fragCount ∧ h.fragCount ≤ 2048 ∧ h.path < 64 ∧ (h.fragCount - 1) *
      q.mtu < h.totalLen ∧ h.totalLen ≤ h.fragCount * q.mtu ∧ dt.len = sprayLen q h ∧ psnDiff h.psn q.rxPsn < 256 ∧ h.psn ∉ q.rxSet
      ∧ q.landing = some l ∧ landingOk q h.rkey h.vaddr dt.len = true ∧ ((slotParts (dt.len / 65536 + 2) (h.vaddr - l.base) dt.len
      0).all fun (y : ℕ × ℕ × ℕ × ℕ) => (landSlot l y.1).gen == h.gen) = false)
    ∧ (∃ (n : ℕ) (h : SprayHdr) (e : Dev) (q : Qp) (tag : ℕ) (dt : Frag) (t : ℕ) (got : ℕ) (total : ℕ), qpOf e n = some q ∧ q.error
      = false ∧ q.connected = true ∧ q.spray = true ∧ h.version = 1 ∧ h.fragIndex < h.fragCount ∧ h.fragCount ≤ 2048 ∧ h.path < 64
      ∧ (h.fragCount - 1) * q.mtu < h.totalLen ∧ h.totalLen ≤ h.fragCount * q.mtu ∧ dt.len = sprayLen q h ∧ psnDiff h.psn q.rxPsn <
      256 ∧ h.psn ∉ q.rxSet ∧ readOf q h = some (t, got, total) ∧ t = tag ∧ dt.offset = h.fragIndex * q.mtu ∧ dt.offset + dt.len ≤
      total)
    ∧ (∃ (c : ℕ) (l : List ℕ), c ∉ l)
    ∧ (∃ (c : ℕ) (l : List ℕ), c ∈ l) := by
  exact ⟨⟨{ aRun with dev.net.qps := [(4096, { aQp with spray := true, unacked := 1 })] }, 4096,
      { aQp with spray := true, unacked := 1 }, by decide⟩,
    ⟨{ aRun with dev.net.qps := [(4096, (aQp : Qp))] }, 4096, aQp, by decide⟩,
    ⟨4096, (aRun.dev : Dev), by decide⟩,
    ⟨4096, aSprayHdr, { aRun.dev with net.qps := [(4096, { aQp with connected := true })] }, { aQp with connected := true }, by
      decide⟩,
    ⟨2, { aSprayHdr with version := 1, totalLen := 64, psn := 8388608 },
      { aRun.dev with net.qps := [(2, { aQp with connected := true, spray := true })] },
      { aQp with connected := true, spray := true }, by decide⟩,
    ⟨2, { aSprayHdr with version := 1, totalLen := 64, psn := 256 },
      { aRun.dev with net.qps := [(2, { aQp with connected := true, spray := true })] },
      { aQp with connected := true, spray := true }, by decide⟩,
    ⟨2, { aSprayHdr with version := 1, totalLen := 4096 },
      { aRun.dev with net.qps := [(2, { aQp with connected := true, spray := true })] },
      { aQp with connected := true, spray := true }, aCapsule, by decide⟩,
    ⟨2, { aSprayHdr with version := 1, totalLen := 4160, fragCount := 2 },
      { aRun.dev with net.qps := [(2, { aQp with connected := true, spray := true })], host.buffersUsed := 524288 },
      { aQp with connected := true, spray := true }, { aCapsule with data := [0] }, by decide⟩,
    ⟨524289, { aSprayHdr with version := 1, totalLen := 64 + 4096 * (aCapsule : Capsule).data.length },
      { aRun.dev with net.qps := [(524289, { aQp with connected := true, spray := true })] },
      { aQp with connected := true, spray := true }, aCapsule, by decide⟩,
    ⟨2, { aSprayHdr with version := 1, totalLen := 4096 },
      { aRun.dev with net.qps := [(2, { aQp with connected := true, spray := true })] },
      { aQp with connected := true, spray := true },
      { aFrag with len := sprayLen ({ aQp with connected := true, spray := true } : Qp) ({ aSprayHdr with version := 1, totalLen := 4096 } : SprayHdr) },
      by decide⟩,
    ⟨2, { aSprayHdr with version := 1, totalLen := 4096, rkey := 1 },
      { aRun.dev with net.qps := [(2, { aQp with connected := true, spray := true, landing := some aLanding })] },
      { aQp with connected := true, spray := true, landing := some aLanding },
      { aFrag with len := sprayLen ({ aQp with connected := true, spray := true, landing := some aLanding } : Qp) ({ aSprayHdr with version := 1, totalLen := 4096, rkey := 1 } : SprayHdr) },
      aLanding, by decide⟩,
    ⟨2, { aSprayHdr with version := 1, totalLen := 4096, rkey := 1, gen := 1 },
      { aRun.dev with net.qps := [(2, { aQp with connected := true, spray := true, landing := some aLanding })] },
      { aQp with connected := true, spray := true, landing := some aLanding },
      { aFrag with len := sprayLen ({ aQp with connected := true, spray := true, landing := some aLanding } : Qp) ({ aSprayHdr with version := 1, totalLen := 4096, rkey := 1, gen := 1 } : SprayHdr) },
      aLanding, by decide⟩,
    ⟨2, { aSprayHdr with version := 1, totalLen := 4096 },
      { aRun.dev with net.qps := [(2, { aQp with connected := true, spray := true, msgs := [(0, .readRequest 4096 0 4096)] })] },
      { aQp with connected := true, spray := true, msgs := [(0, .readRequest 4096 0 4096)] }, 4096,
      { aFrag with len := sprayLen ({ aQp with connected := true, spray := true, msgs := [(0, .readRequest 4096 0 4096)] } : Qp) ({ aSprayHdr with version := 1, totalLen := 4096 } : SprayHdr), offset := 0 },
      4096, 0, 4096, by decide⟩,
    ⟨4096, [], by decide⟩,
    ⟨1, [1], by decide⟩⟩

/-- The hypotheses of `Obligations.SpraySends` can be met. -/
theorem witness_SpraySends :
    (∃ (s : State) (n : ℕ), qpOf s.dev n = none)
    ∧ (∃ (s : State) (n : ℕ) (q : Qp), qpOf s.dev n = some q ∧ (q.error = true ∨ q.connected = false))
    ∧ (∃ (s : State) (n : ℕ) (q : Qp), qpOf s.dev n = some q ∧ q.error = false ∧ q.connected = true ∧ q.spray = false)
    ∧ (∃ (s : State) (n : ℕ) (b : SackBlock) (q : Qp), qpOf s.dev n = some q ∧ q.error = false ∧ q.connected = true ∧ q.spray =
      true ∧ b.syndrome = 2)
    ∧ (∃ (s : State) (n : ℕ) (b : SackBlock) (q : Qp), qpOf s.dev n = some q ∧ q.error = false ∧ q.connected = true ∧ q.spray =
      true ∧ b.syndrome = 3)
    ∧ (∃ (s : State) (n : ℕ) (b : SackBlock) (q : Qp), qpOf s.dev n = some q ∧ q.error = false ∧ q.connected = true ∧ q.spray =
      true ∧ b.syndrome = 4)
    ∧ (∃ (s : State) (n : ℕ) (b : SackBlock) (q : Qp), qpOf s.dev n = some q ∧ q.error = false ∧ q.connected = true ∧ q.spray =
      true ∧ 4 < b.syndrome)
    ∧ (∃ (s : State) (n : ℕ) (b : SackBlock) (q : Qp), qpOf s.dev n = some q ∧ q.error = false ∧ q.connected = true ∧ q.spray =
      true ∧ b.syndrome ≤ 1 ∧ (b.syndrome = 0 ∨ ((qpOf (List.foldl (fun (a : Dev) (p : SentPkt) => lostPkt n p.psn a) (changePaths
      n (fun i p => (fun (p1 : SprayPath) => if i ≠ b.path then p1 else (fun (p2 : SprayPath) => if b.ce then markCut (elapsed
      s.dev) p2 else p2) (if b.retx then p1 else rttSample (elapsed s.dev) ((elapsed s.dev + 2 ^ 32 - b.echoTs % 2 ^ 32) % 2 ^ 32)
      (tOffNs q) (rMax s.dev q) p1)) (if (b.path :: (q.sent.filter (fun p => sackHas b p.psn)).map (·.path)).contains i then
      { p with up := true, timeouts := 0 } else p)) (setQp n { q with sent := q.sent.filter (fun p => !sackHas b p.psn) } s.dev))
      (List.filter (fun (p : SentPkt) => p.left && (List.filter (fun (p : SentPkt) => sackHas b p.psn) q.sent).any fun (g :
      SentPkt) => g.path == p.path && decide (p.order < g.order)) (List.filter (fun (p : SentPkt) => !sackHas b p.psn) q.sent)))
      n).bind fun (w : Qp) => List.find? (fun (p : SentPkt) => p.psn == b.trigger) w.sent) = none))
    ∧ (∃ (s : State) (n : ℕ) (b : SackBlock) (q : Qp) (p : SentPkt), qpOf s.dev n = some q ∧ q.error = false ∧ q.connected = true ∧
      q.spray = true ∧ b.syndrome ≤ 1 ∧ b.syndrome = 1 ∧ ((qpOf (List.foldl (fun (a : Dev) (p : SentPkt) => lostPkt n p.psn a)
      (changePaths n (fun i p => (fun (p1 : SprayPath) => if i ≠ b.path then p1 else (fun (p2 : SprayPath) => if b.ce then markCut
      (elapsed s.dev) p2 else p2) (if b.retx then p1 else rttSample (elapsed s.dev) ((elapsed s.dev + 2 ^ 32 - b.echoTs % 2 ^ 32) %
      2 ^ 32) (tOffNs q) (rMax s.dev q) p1)) (if (b.path :: (q.sent.filter (fun p => sackHas b p.psn)).map (·.path)).contains i
      then { p with up := true, timeouts := 0 } else p)) (setQp n { q with sent := q.sent.filter (fun p => !sackHas b p.psn) }
      s.dev)) (List.filter (fun (p : SentPkt) => p.left && (List.filter (fun (p : SentPkt) => sackHas b p.psn) q.sent).any fun (g :
      SentPkt) => g.path == p.path && decide (p.order < g.order)) (List.filter (fun (p : SentPkt) => !sackHas b p.psn) q.sent)))
      n).bind fun (w : Qp) => List.find? (fun (p : SentPkt) => p.psn == b.trigger) w.sent) = some p ∧ 6 ≤ p.rnr)
    ∧ (∃ (s : State) (n : ℕ) (b : SackBlock) (q : Qp) (p : SentPkt), qpOf s.dev n = some q ∧ q.error = false ∧ q.connected = true ∧
      q.spray = true ∧ b.syndrome ≤ 1 ∧ b.syndrome = 1 ∧ ((qpOf (List.foldl (fun (a : Dev) (p : SentPkt) => lostPkt n p.psn a)
      (changePaths n (fun i p => (fun (p1 : SprayPath) => if i ≠ b.path then p1 else (fun (p2 : SprayPath) => if b.ce then markCut
      (elapsed s.dev) p2 else p2) (if b.retx then p1 else rttSample (elapsed s.dev) ((elapsed s.dev + 2 ^ 32 - b.echoTs % 2 ^ 32) %
      2 ^ 32) (tOffNs q) (rMax s.dev q) p1)) (if (b.path :: (q.sent.filter (fun p => sackHas b p.psn)).map (·.path)).contains i
      then { p with up := true, timeouts := 0 } else p)) (setQp n { q with sent := q.sent.filter (fun p => !sackHas b p.psn) }
      s.dev)) (List.filter (fun (p : SentPkt) => p.left && (List.filter (fun (p : SentPkt) => sackHas b p.psn) q.sent).any fun (g :
      SentPkt) => g.path == p.path && decide (p.order < g.order)) (List.filter (fun (p : SentPkt) => !sackHas b p.psn) q.sent)))
      n).bind fun (w : Qp) => List.find? (fun (p : SentPkt) => p.psn == b.trigger) w.sent) = some p ∧ p.rnr < 6)
    ∧ (∃ (s : State) (n : ℕ) (q : Qp) (p : SentPkt), qpOf s.dev n = some q ∧ q.error = false ∧ q.connected = true ∧ q.spray = true
      ∧ List.find? (fun (y : SentPkt) => y.psn == p.psn) q.sent = some p ∧ p.losses < 7)
    ∧ (∃ (s : State) (n : ℕ) (q : Qp) (p : SentPkt), qpOf s.dev n = some q ∧ q.error = false ∧ q.connected = true ∧ q.spray = true
      ∧ List.find? (fun (y : SentPkt) => y.psn == p.psn) q.sent = some p ∧ 7 ≤ p.losses)
    ∧ (∃ (s : State) (n : ℕ) (q : Qp) (p : SentPkt) (w : SprayPath), qpOf s.dev n = some q ∧ q.paths[p.path]? = some w ∧ w.up =
      true ∧ 3 ≤ w.timeouts)
    ∧ (∃ (s : State) (n : ℕ) (q : Qp) (p : SentPkt) (w : SprayPath), qpOf s.dev n = some q ∧ q.paths[p.path]? = some w ∧ (w.up =
      false ∨ w.timeouts < 3))
    ∧ (∃ (s : State) (n : ℕ) (q : Qp) (p : SentPkt), qpOf s.dev n = some q ∧ List.find? (fun (y : SentPkt) => y.psn == p.psn &&
      y.rnrWait) q.sent = some p) := by
  exact ⟨⟨aRun, 4096, by decide⟩,
    ⟨{ aRun with dev.net.qps := [(4096, { aQp with error := true })] }, 4096, { aQp with error := true }, by decide⟩,
    ⟨{ aRun with dev.net.qps := [(4096, { aQp with connected := true })] }, 4096, { aQp with connected := true }, by decide⟩,
    ⟨{ aRun with dev.net.qps := [(4096, { aQp with connected := true, spray := true })] }, 4096, { aSackBlock with syndrome := 2 },
      { aQp with connected := true, spray := true }, by decide⟩,
    ⟨{ aRun with dev.net.qps := [(4096, { aQp with connected := true, spray := true })] }, 4096, { aSackBlock with syndrome := 3 },
      { aQp with connected := true, spray := true }, by decide⟩,
    ⟨{ aRun with dev.net.qps := [(4096, { aQp with connected := true, spray := true })] }, 4096, { aSackBlock with syndrome := 4 },
      { aQp with connected := true, spray := true }, by decide⟩,
    ⟨{ aRun with dev.net.qps := [(4096, { aQp with connected := true, spray := true })] }, 4096, { aSackBlock with syndrome := 5 },
      { aQp with connected := true, spray := true }, by decide⟩,
    ⟨{ aRun with dev.net.qps := [(2, { aQp with error := false, connected := true, spray := true, sent := [{ aSentPkt with psn := 5, left := true }, { aSentPkt with psn := 6, order := 1, left := true }] })] },
      2, { aSackBlock with syndrome := 0, cumPsn := 5, trigger := 6 },
      { aQp with error := false, connected := true, spray := true, sent := [{ aSentPkt with psn := 5, left := true }, { aSentPkt with psn := 6, order := 1, left := true }] },
      by decide⟩,
    ⟨{ aRun with dev.net.qps := [(2, { aQp with error := false, connected := true, spray := true, sent := [{ aSentPkt with psn := 6, rnr := 6 }] })] },
      2, { aSackBlock with syndrome := 1, cumPsn := 5, trigger := 6 },
      { aQp with error := false, connected := true, spray := true, sent := [{ aSentPkt with psn := 6, rnr := 6 }] },
      { aSentPkt with psn := 6, rnr := 6 }, by decide⟩,
    ⟨{ aRun with dev.net.qps := [(2, { aQp with error := false, connected := true, spray := true, sent := [{ aSentPkt with psn := 6, rnr := 5 }] })] },
      2, { aSackBlock with syndrome := 1, cumPsn := 5, trigger := 6 },
      { aQp with error := false, connected := true, spray := true, sent := [{ aSentPkt with psn := 6, rnr := 5 }] },
      { aSentPkt with psn := 6, rnr := 5 }, by decide⟩,
    ⟨{ aRun with dev.net.qps := [(4096, { aQp with error := false, connected := true, spray := true, sent := [{ aSentPkt with losses := 6 }] })] },
      4096, { aQp with error := false, connected := true, spray := true, sent := [{ aSentPkt with losses := 6 }] },
      { aSentPkt with losses := 6 }, by decide⟩,
    ⟨{ aRun with dev.net.qps := [(4096, { aQp with error := false, connected := true, spray := true, sent := [{ aSentPkt with losses := 7 }] })] },
      4096, { aQp with error := false, connected := true, spray := true, sent := [{ aSentPkt with losses := 7 }] },
      { aSentPkt with losses := 7 }, by decide⟩,
    ⟨{ aRun with dev.net.qps := [(4096, { aQp with paths := [{ aSprayPath with up := true, timeouts := 3 }] })] }, 4096,
      { aQp with paths := [{ aSprayPath with up := true, timeouts := 3 }] }, aSentPkt,
      { aSprayPath with up := true, timeouts := 3 }, by decide⟩,
    ⟨{ aRun with dev.net.qps := [(4096, { aQp with paths := [aSprayPath] })] }, 4096, { aQp with paths := [aSprayPath] }, aSentPkt,
      aSprayPath, by decide⟩,
    ⟨{ aRun with dev.net.qps := [(4096, { aQp with sent := [{ aSentPkt with rnrWait := true }] })] }, 4096,
      { aQp with sent := [{ aSentPkt with rnrWait := true }] }, { aSentPkt with rnrWait := true }, by decide⟩⟩

/-- The hypotheses of `Obligations.StandardRequester` can be met. -/
theorem witness_StandardRequester :
    (∃ (s : State) (n : ℕ), qpOf s.dev n = none)
    ∧ (∃ (s : State) (n : ℕ) (q : Qp), qpOf s.dev n = some q ∧ q.error = false ∧ q.connected = true ∧ q.spray = true)
    ∧ (∃ (s : State) (n : ℕ) (q : Qp) (k : ℕ), qpOf s.dev n = some q ∧ q.error = false ∧ q.connected = true ∧ q.spray = false ∧ 4 ≤
      k)
    ∧ (∃ (s : State) (n : ℕ) (q : Qp), qpOf s.dev n = some q ∧ q.error = false ∧ q.connected = true ∧ q.spray = false ∧ q.rnrs < 6
      ∧ q.sent = [] ∧ q.retries < 7 ∧ List.find? (fun (x : SentPkt) => x.rnrWait) q.sent = none)
    ∧ (∃ (s : State) (n : ℕ) (q : Qp), qpOf s.dev n = some q ∧ q.error = false ∧ q.connected = true ∧ q.spray = false ∧ 6 ≤ q.rnrs)
    ∧ (∃ (s : State) (n : ℕ) (q : Qp) (p : SentPkt) (l : List SentPkt), qpOf s.dev n = some q ∧ q.error = false ∧ q.connected =
      true ∧ q.spray = false ∧ q.sent = p :: l)
    ∧ (∃ (s : State) (n : ℕ) (q : Qp), qpOf s.dev n = some q ∧ q.error = false ∧ q.connected = true ∧ q.spray = false ∧ 7 ≤
      q.retries)
    ∧ (∃ (s : State) (n : ℕ) (q : Qp) (p : SentPkt), qpOf s.dev n = some q ∧ q.error = false ∧ q.connected = true ∧ List.find? (fun
      (x : SentPkt) => x.rnrWait) q.sent = some p)
    ∧ (∃ (psn : ℕ) (q : Qp) (p : SentPkt), List.find? (fun (y : SentPkt) => y.opcode == 12) q.sent = some p ∧ p.psn ≠ psn ∧ psnFrom
      p.psn psn = true)
    ∧ (∃ (psn : ℕ) (q : Qp) (p : SentPkt), List.find? (fun (y : SentPkt) => y.opcode == 12) q.sent = some p ∧ p.psn ≠ psn ∧ psnFrom
      p.psn psn = false)
    ∧ (∃ (psn : ℕ) (tag : ℕ) (dt : Frag) (q : Qp) (p : SentPkt) (t : ℕ) (got : ℕ) (total : ℕ), List.find? (fun (y : SentPkt) =>
      y.opcode == 12) q.sent = some p ∧ p.psn = psn ∧ tget q.msgs p.msg = some (QpMsg.readRequest t got total) ∧ tag = t ∧
      dt.offset = got ∧ got + dt.len ≤ total)
    ∧ (∃ (psn : ℕ) (tag : ℕ) (dt : Frag) (q : Qp) (p : SentPkt) (t : ℕ) (got : ℕ) (total : ℕ), List.find? (fun (y : SentPkt) =>
      y.opcode == 12) q.sent = some p ∧ p.psn = psn ∧ tget q.msgs p.msg = some (QpMsg.readRequest t got total) ∧ (tag ≠ t ∨
      dt.offset ≠ got ∨ total < got + dt.len)) := by
  exact ⟨⟨aRun, 4096, by decide⟩,
    ⟨{ aRun with dev.net.qps := [(4096, { aQp with connected := true, spray := true })] }, 4096,
      { aQp with connected := true, spray := true }, by decide⟩,
    ⟨{ aRun with dev.net.qps := [(4096, { aQp with connected := true })] }, 4096, { aQp with connected := true }, 4096, by decide⟩,
    ⟨{ aRun with dev.net.qps := [(4096, { aQp with connected := true })] }, 4096, { aQp with connected := true }, by decide⟩,
    ⟨{ aRun with dev.net.qps := [(4096, { aQp with connected := true, rnrs := 6 })] }, 4096,
      { aQp with connected := true, rnrs := 6 }, by decide⟩,
    ⟨{ aRun with dev.net.qps := [(4096, { aQp with connected := true, sent := aSentPkt :: [] })] }, 4096,
      { aQp with connected := true, sent := aSentPkt :: [] }, aSentPkt, [], by decide⟩,
    ⟨{ aRun with dev.net.qps := [(4096, { aQp with connected := true, retries := 7 })] }, 4096,
      { aQp with connected := true, retries := 7 }, by decide⟩,
    ⟨{ aRun with dev.net.qps := [(4096, { aQp with error := false, connected := true, sent := [{ aSentPkt with rnrWait := true }] })] },
      4096, { aQp with error := false, connected := true, sent := [{ aSentPkt with rnrWait := true }] },
      { aSentPkt with rnrWait := true }, by decide⟩,
    ⟨8388607, { aQp with sent := [{ aSentPkt with opcode := 12 }] }, { aSentPkt with opcode := 12 }, by decide⟩,
    ⟨8388608, { aQp with sent := [{ aSentPkt with opcode := 12 }] }, { aSentPkt with opcode := 12 }, by decide⟩,
    ⟨0, 0, { aFrag with offset := 0 },
      { aQp with sent := [{ aSentPkt with psn := 0, opcode := 12 }], msgs := [(0, .readRequest 0 0 4096)] },
      { aSentPkt with psn := 0, opcode := 12 }, 0, 0, 4096, by decide⟩,
    ⟨0, 0, aFrag, { aQp with sent := [{ aSentPkt with psn := 0, opcode := 12 }], msgs := [(0, .readRequest 0 0 4095)] },
      { aSentPkt with psn := 0, opcode := 12 }, 0, 0, 4095, by decide⟩⟩

/-- The hypotheses of `Obligations.StandardResponder` can be met. -/
theorem witness_StandardResponder :
    (∃ (s : State) (x : FrameInfo), frameBad s.dev x = true ∧ x.fcsOk = true)
    ∧ (∃ (n : ℕ) (e : Dev), qpOf e n = none)
    ∧ (∃ (n : ℕ) (e : Dev) (q : Qp), qpOf e n = some q ∧ (q.error = true ∨ q.connected = false))
    ∧ (∃ (n : ℕ) (e : Dev) (q : Qp), qpOf e n = some q ∧ q.error = false ∧ q.connected = true ∧ q.spray = true)
    ∧ (∃ (n : ℕ) (psn : ℕ) (x : FrameInfo) (e : Dev) (q : Qp), qpOf e n = some q ∧ q.error = false ∧ q.connected = true ∧ q.spray =
      false ∧ x.ce = false ∧ psn = q.rxPsn)
    ∧ (∃ (n : ℕ) (psn : ℕ) (x : FrameInfo) (e : Dev) (q : Qp), qpOf e n = some q ∧ q.error = false ∧ q.connected = true ∧ q.spray =
      false ∧ x.ce = false ∧ psn ≠ q.rxPsn ∧ psnFrom q.rxPsn psn = false)
    ∧ (∃ (n : ℕ) (psn : ℕ) (x : FrameInfo) (e : Dev) (q : Qp), qpOf e n = some q ∧ q.error = false ∧ q.connected = true ∧ q.spray =
      false ∧ x.ce = false ∧ psn ≠ q.rxPsn ∧ psnFrom q.rxPsn psn = true ∧ q.nakSent = true)
    ∧ (∃ (n : ℕ) (psn : ℕ) (x : FrameInfo) (e : Dev) (q : Qp), qpOf e n = some q ∧ q.error = false ∧ q.connected = true ∧ q.spray =
      false ∧ x.ce = false ∧ psn ≠ q.rxPsn ∧ psnFrom q.rxPsn psn = true ∧ q.nakSent = false)
    ∧ (∃ (n : ℕ) (cap : Capsule) (e : Dev), (1 < cap.data.length ∨ pastDepth e n = true))
    ∧ (∃ (n : ℕ) (cap : Capsule) (e : Dev), cap.data.length = 1 ∧ pastDepth e n = false ∧ 524288 ≤ buffersTaken e)
    ∧ (∃ (n : ℕ) (cap : Capsule) (e : Dev), cap.data.length ≤ 1 ∧ pastDepth e n = false ∧ (cap.data = [] ∨ buffersTaken e <
      524288))
    ∧ (∃ (key : ℕ) (dt : Frag) (q : Qp), landingOk q key dt.offset dt.len = false)
    ∧ (∃ (key : ℕ) (dt : Frag) (q : Qp), landingOk q key dt.offset dt.len = true)
    ∧ (∃ (s : State) (n : ℕ) (q : Qp), qpOf s.dev n = some q ∧ q.unacked < 15)
    ∧ (∃ (s : State) (n : ℕ) (q : Qp), qpOf s.dev n = some q ∧ 15 ≤ q.unacked)
    ∧ (∃ (s : State) (n : ℕ) (q : Qp), qpOf s.dev n = some q ∧ q.spray = false ∧ q.error = false ∧ 0 < q.unacked)
    ∧ (∃ (s : State) (n : ℕ) (q : Qp), qpOf s.dev n = some q ∧ (q.spray = true ∨ q.unacked = 0))
    ∧ (∃ (s : State) (n : ℕ), qpOf s.dev n = none)
    ∧ (∃ (s : State) (n : ℕ) (op : ℕ) (q : Qp), qpOf s.dev n = some q ∧ (q.error = true ∨ q.connected = false ∨ q.spray = false ∧
      32 ≤ op ∧ op < 192))
    ∧ (∃ (s : State) (n : ℕ) (op : ℕ) (q : Qp), qpOf s.dev n = some q ∧ q.error = false ∧ q.connected = true ∧ (q.spray = true ∨ op
      < 32 ∨ 192 ≤ op)) := by
  exact ⟨⟨aRun, { aFrameInfo with fcsOk := true, len := 9217 }, by decide⟩,
    ⟨4096, (aRun.dev : Dev), by decide⟩,
    ⟨4096, { aRun.dev with net.qps := [(4096, { aQp with error := true })] }, { aQp with error := true }, by decide⟩,
    ⟨4096, { aRun.dev with net.qps := [(4096, { aQp with connected := true, spray := true })] },
      { aQp with connected := true, spray := true }, by decide⟩,
    ⟨4096, (({ aQp with connected := true } : Qp).rxPsn), aFrameInfo,
      { aRun.dev with net.qps := [(4096, { aQp with connected := true })] }, { aQp with connected := true }, by decide⟩,
    ⟨4096, 8388608, aFrameInfo, { aRun.dev with net.qps := [(4096, { aQp with connected := true })] },
      { aQp with connected := true }, by decide⟩,
    ⟨4096, 4096, aFrameInfo, { aRun.dev with net.qps := [(4096, { aQp with connected := true, nakSent := true })] },
      { aQp with connected := true, nakSent := true }, by decide⟩,
    ⟨4096, 4096, aFrameInfo, { aRun.dev with net.qps := [(4096, { aQp with connected := true })] }, { aQp with connected := true },
      by decide⟩,
    ⟨4096, { aCapsule with data := [0, 0] }, (aRun.dev : Dev), by decide⟩,
    ⟨524289, { aCapsule with data := [0] }, { aRun.dev with host.buffersUsed := 524288 }, by decide⟩,
    ⟨524289, aCapsule, (aRun.dev : Dev), by decide⟩,
    ⟨4096, aFrag, aQp, by decide⟩,
    ⟨1, { aFrag with offset := 61440 }, { aQp with landing := some aLanding }, by decide⟩,
    ⟨{ aRun with dev.net.qps := [(4096, aQp)] }, 4096, aQp, by decide⟩,
    ⟨{ aRun with dev.net.qps := [(4096, { aQp with unacked := 15 })] }, 4096, { aQp with unacked := 15 }, by decide⟩,
    ⟨{ aRun with dev.net.qps := [(4096, { aQp with unacked := 1 })] }, 4096, { aQp with unacked := 1 }, by decide⟩,
    ⟨{ aRun with dev.net.qps := [(4096, { aQp with spray := true })] }, 4096, { aQp with spray := true }, by decide⟩,
    ⟨aRun, 4096, by decide⟩,
    ⟨{ aRun with dev.net.qps := [(4096, { aQp with error := true })] }, 4096, 4096, { aQp with error := true }, by decide⟩,
    ⟨{ aRun with dev.net.qps := [(4096, { aQp with connected := true, spray := true })] }, 4096, 4096,
      { aQp with connected := true, spray := true }, by decide⟩⟩

/-- The hypotheses of `Obligations.StartsSettle` can be met. -/
theorem witness_StartsSettle :
    (∃ (s : State), (s.dev.boot.step ≠ 9 ∨ s.dev.pool.state ≠ PoolState.recovering ∨ s.dev.pair.partnerWait = true ∨
      s.dev.pair.settleWait = true ∨ s.dev.pair.joinWait = true) ∧ (s.dev.pool.state ≠ PoolState.replaying ∨ s.dev.pool.pages ≠ []
      ∨ s.dev.pair.recordPending = true))
    ∧ (∃ (s : State), coreRuns s.dev = true ∧ s.dev.boot.step = 9 ∧ s.dev.boot.code ≠ 8 ∧ s.dev.pool.state = PoolState.recovering ∧
      s.dev.pair.partnerWait = false ∧ s.dev.pair.settleWait = false ∧ s.dev.pair.joinWait = false ∧ s.dev.pair.recordPending =
      false)
    ∧ (∃ (s : State), (chartOf s.dev).laneMode = 1)
    ∧ (∃ (s : State), (chartOf s.dev).laneMode ≠ 1 ∧ (s.dev.pair.foreignPool = true ∨ recordEligible s.dev = false))
    ∧ (∃ (s : State) (x : Hello), (chartOf s.dev).laneMode ≠ 1 ∧ s.dev.pair.foreignPool = false ∧ recordEligible s.dev = true ∧
      s.dev.pair.helloIn = some x ∧ (helloCode (({ s.dev with pair.partnerWait := false, pool.state := .replaying } : Dev)) x =
      some 1 ∨ helloCode (({ s.dev with pair.partnerWait := false, pool.state := .replaying } : Dev)) x = some 2 ∨ partnerEligible
      (({ s.dev with pair.partnerWait := false, pool.state := .replaying } : Dev)) x = false))
    ∧ (∃ (s : State) (x : Hello), (chartOf s.dev).laneMode ≠ 1 ∧ s.dev.pair.foreignPool = false ∧ recordEligible s.dev = true ∧
      s.dev.pair.helloIn = some x ∧ helloCode (({ s.dev with pair.partnerWait := false, pool.state := .replaying } : Dev)) x = none
      ∧ partnerEligible (({ s.dev with pair.partnerWait := false, pool.state := .replaying } : Dev)) x = true ∧ isWriter
      (({ s.dev with pair.partnerWait := false, pool.state := .replaying } : Dev)) = true)
    ∧ (∃ (s : State) (x : Hello), (chartOf s.dev).laneMode ≠ 1 ∧ s.dev.pair.foreignPool = false ∧ recordEligible s.dev = true ∧
      s.dev.pair.helloIn = some x ∧ helloCode (({ s.dev with pair.partnerWait := false, pool.state := .replaying } : Dev)) x = none
      ∧ partnerEligible (({ s.dev with pair.partnerWait := false, pool.state := .replaying } : Dev)) x = true ∧ isWriter
      (({ s.dev with pair.partnerWait := false, pool.state := .replaying } : Dev)) = false)
    ∧ (∃ (s : State), coreRuns s.dev = true ∧ (s.dev.pair.partnerWait = true ∨ s.dev.pair.settleWait = true))
    ∧ (∃ (s : State), s.dev.pair.shelfId = 0)
    ∧ (∃ (s : State), s.dev.pair.shelfId ≠ 0)
    ∧ (∃ (s : State), s.dev.pair.straitUp = true ∧ s.dev.pair.nakFor = none ∧ s.dev.pair.settleWait = true)
    ∧ (∃ (s : State), s.dev.pair.straitUp = true ∧ s.dev.pair.nakFor = none ∧ s.dev.pair.settleWait = false)
    ∧ (∃ (s : State), s.dev.pool.state = PoolState.replaying ∧ s.dev.pool.pages = [] ∧ s.dev.pair.recordPending = false ∧
      s.dev.pair.liveRecovery = true ∧ (logEvent 2 9 0 (payload 0 0 0 ((pruneShadows
      { s.dev with pool.state := .ready, pool.kept := [] }).pool.discarded + (pruneShadows
      { s.dev with pool.state := .ready, pool.kept := [] }).pool.restriped * 2 ^ 64)) (raisePool 3 (pruneShadows
      { s.dev with pool.state := .ready, pool.kept := [] }))).pair.liveRecovery = true)
    ∧ (∃ (s : State) (b : List Byte), s.dev.mhi.mboxReady = true ∧ s.dev.mhi.mboxBusy = false ∧ blobOk s.dev b = false ∧
      s.dev.boot.replayHeld = false)
    ∧ (∃ (s : State) (b : List Byte), s.dev.mhi.mboxReady = true ∧ s.dev.mhi.mboxBusy = false ∧ blobOk s.dev b = true ∧
      s.dev.boot.replayHeld = false) := by
  exact ⟨⟨aRun, by decide⟩,
    ⟨{ aRun with dev.boot.step := 9, dev.pool.state := PoolState.recovering }, by decide⟩,
    ⟨{ aRun with dev.chart.inForce := some { defaultChart with laneMode := 1 } }, by decide⟩,
    ⟨{ aRun with dev.pair.foreignPool := true }, by decide⟩,
    ⟨{ aRun with dev.pair.foreignPool := false, dev.pair.helloIn := some { aHello with side := 0 } }, { aHello with side := 0 }, by
      decide⟩,
    ⟨{ aRun with dev.pair.helloIn := some aHello }, aHello, by decide⟩,
    ⟨{ aRun with dev.pair.foreignPool := false, dev.pair.helloIn := some { aHello with side := 0, shelfId := 0 }, dev.pair.side := 1 },
      { aHello with side := 0, shelfId := 0 }, by decide⟩,
    ⟨{ aRun with dev.pair.partnerWait := true }, by decide⟩,
    ⟨{ aRun with dev.pair.shelfId := 0 }, by decide⟩,
    ⟨{ aRun with dev.pair.shelfId := 1 }, by decide⟩,
    ⟨{ aRun with dev.pair.straitUp := true, dev.pair.settleWait := true }, by decide⟩,
    ⟨{ aRun with dev.pair.straitUp := true }, by decide⟩,
    ⟨{ aRun with dev.pool.state := PoolState.replaying, dev.pair.liveRecovery := true }, by decide⟩,
    ⟨{ aRun with dev.mhi.mboxReady := true, dev.mhi.mboxBusy := false }, [], by decide⟩,
    ⟨{ aRun with dev.mhi.mboxReady := true, dev.mhi.mboxBusy := false }, aBlob, by decide⟩⟩

/-- The hypotheses of `Obligations.StraitLinks` can be met. -/
theorem witness_StraitLinks :
    (∃ (s : State) (h : StraitHdr), (s.dev.pair.straitUp = false ∨ ∃ (x : ℕ), s.dev.pair.nakFor = some x ∧ x ≠ h.lseq))
    ∧ (∃ (s : State) (h : StraitHdr), s.dev.pair.straitUp = true ∧ (s.dev.pair.nakFor = none ∨ s.dev.pair.nakFor = some h.lseq))
    ∧ (∃ (s : State), s.dev.pair.partner ≠ 1 ∧ s.dev.pair.sendWaits = [] ∧ replayBytes s.dev < 2 ^ 20 ∧ (∀ f ∈
      s.dev.pair.replayBuffer, f.replays < 16) ∧ coreHeld s.dev = false ∧ coreRuns s.dev = true ∧ s.dev.pair.straitUp = false ∧
      s.dev.pair.partner ≠ 2 ∧ 9 ≤ s.dev.boot.step)
    ∧ (∃ (s : State), s.dev.pair.partner = 1)
    ∧ (∃ (s : State), (s.dev.pair.sendWaits ≠ [] ∨ 2 ^ 20 ≤ replayBytes s.dev ∨ ∃ f ∈ s.dev.pair.replayBuffer, 16 ≤ f.replays))
    ∧ (∃ (s : State), s.dev.pair.straitUp = true ∧ s.dev.pair.nakFor.isSome = true)
    ∧ (∃ (s : State) (n : ℕ) (f : StraitFrame) (l : List StraitFrame), s.dev.pair.straitUp = true ∧ s.dev.pair.replayBuffer = f ::
      l ∧ f.lseq = n ∧ (∀ g ∈ f :: l, g.replays < 15))
    ∧ (∃ (s : State) (n : ℕ), s.dev.pair.straitUp = true ∧ (∀ f ∈ s.dev.pair.replayBuffer, f.lseq ≠ n))
    ∧ (∃ (s : State) (f : StraitFrame), replayBytes s.dev + frameBytes f ≤ 2 ^ 20)
    ∧ (∃ (s : State), coreRuns s.dev = false ∧ coreHeld s.dev = true)
    ∧ (∃ (s : State) (r : ℕ) (p : ℕ) (e : ℕ), s.dev.pair.straitUp = true ∧ s.dev.pair.nakFor = none ∧ (s.dev.pair.role ≠
      Role.standby ∨ r ≠ 0 ∨ p ≠ 2 ∨ e ≤ s.dev.pair.epoch))
    ∧ (∃ (s : State) (r : ℕ) (p : ℕ) (e : ℕ), s.dev.pair.straitUp = true ∧ s.dev.pair.nakFor = none ∧ s.dev.pair.role =
      Role.standby ∧ r = 0 ∧ p = 2 ∧ s.dev.pair.epoch < e)
    ∧ (∃ (s : State) (n : ℕ), (coreRuns s.dev = false ∨ s.dev.pair.straitUp = true ∨ n ≠ 8 ∧ n ≠ 16))
    ∧ (∃ (s : State), coreRuns s.dev = true ∧ s.dev.pair.straitUp = false ∧ s.dev.pair.partner ≠ 2 ∧ s.dev.boot.step < 9)
    ∧ (∃ (s : State) (f : StraitFrame), 2 ^ 20 < replayBytes s.dev + frameBytes f) := by
  exact ⟨⟨aRun, aStraitHdr, by decide⟩,
    ⟨{ aRun with dev.pair.straitUp := true }, aStraitHdr, by decide⟩,
    ⟨aRun, by decide⟩,
    ⟨{ aRun with dev.pair.partner := 1 }, by decide⟩,
    ⟨{ aRun with dev.pair.replayBuffer := [{ type := 0, replays := 16 }] }, by decide⟩,
    ⟨{ aRun with dev.pair.straitUp := true, dev.pair.nakFor := some 1 }, by decide⟩,
    ⟨{ aRun with dev.pair.straitUp := true, dev.pair.replayBuffer := ({ aStraitFrame with lseq := 4096 } : StraitFrame) :: [] },
      4096, { aStraitFrame with lseq := 4096 }, [], by decide⟩,
    ⟨{ aRun with dev.pair.straitUp := true }, 4096, by decide⟩,
    ⟨aRun, aStraitFrame, by decide⟩,
    ⟨(State.reset : State), by decide⟩,
    ⟨{ aRun with dev.pair.straitUp := true }, 4096, 4096, 4096, by decide⟩,
    ⟨{ aRun with dev.pair.straitUp := true, dev.pair.role := Role.standby }, 0, 2, 4096, by decide⟩,
    ⟨aRun, 4096, by decide⟩,
    ⟨{ aRun with dev.boot.step := 8 }, by decide⟩,
    strait_full⟩

/-- The hypotheses of `Obligations.StripWrites` can be met. -/
theorem witness_StripWrites :
    (∃ (s : State) (sh : ℕ) (st : ℕ) (t : Stripe), openOf s.dev sh st = some t ∧ (t.slots ≠ [] ∨ recordSlots s.dev sh st ≠ 0) ∧
      t.sealWait = false ∧ freeJournal s.dev = none)
    ∧ (∃ (s : State) (sh : ℕ) (st : ℕ) (t : Stripe), openOf s.dev sh st = some t ∧ (t.slots = [] ∧ recordSlots s.dev sh st = 0 ∨
      t.sealWait = true))
    ∧ (∃ (s : State) (sh : ℕ) (st : ℕ) (t : Stripe), openOf s.dev sh st = some t ∧ t.sealWait = true ∧ freeJournal s.dev = none)
    ∧ (∃ (s : State) (sh : ℕ) (st : ℕ) (t : Stripe) (i : ℕ), openOf s.dev sh st = some t ∧ freeJournal s.dev = some i)
    ∧ (∃ (s : State) (sh : ℕ) (row : ℕ) (t : Stripe), rowAt s.dev sh row = some t ∧ t.life ≠ StripeLife.sealed)
    ∧ (∃ (s : State) (sh : ℕ) (row : ℕ) (t : Stripe), rowAt s.dev sh row = some t ∧ s.dev.pair.recordPending = true)
    ∧ (∃ (s : State) (sh : ℕ) (row : ℕ) (t : Stripe) (h : ShoalSt), rowAt s.dev sh row = some t ∧ t.life = StripeLife.sealed ∧
      t.parityDone = true ∧ s.dev.pair.recordPending = false ∧ shoalOf s.dev sh = some h ∧ dirtyRegion row ∉ h.dirty)
    ∧ (∃ (s : State) (sh : ℕ) (row : ℕ) (t : Stripe) (h : ShoalSt), rowAt s.dev sh row = some t ∧ t.life = StripeLife.sealed ∧
      t.parityDone = true ∧ s.dev.pair.recordPending = false ∧ shoalOf s.dev sh = some h ∧ dirtyRegion row ∈ h.dirty ∧
      LabelWait.issue sh row ∉ s.dev.shelf.labelWaits ∧ unmarkedOmitted s.dev t = [])
    ∧ (∃ (s : State) (sh : ℕ) (row : ℕ) (t : Stripe), rowAt s.dev sh row = some t ∧ t.life = StripeLife.writing ∧ undurable s.dev t
      = [])
    ∧ (∃ (s : State) (sh : ℕ) (row : ℕ) (t : Stripe), rowAt s.dev sh row = some t ∧ t.life = StripeLife.writing ∧ (stripeGeom s.dev
      t).parity - 1 < (undurable s.dev t).length)
    ∧ (∃ (s : State) (sh : ℕ) (h : ShoalSt), shoalOf s.dev sh = some h ∧ ((List.any (keepersWritten sh s.dev).shelf.cmds fun (x : ℕ
      × MemberCmd) => keeperOp sh x.2.op) || (keepersWritten sh s.dev).shelf.heldOps.any fun (x : ℕ × MemberOp) => keeperOp sh x.2)
      = true)
    ∧ (∃ (s : State) (sh : ℕ) (h : ShoalSt), shoalOf s.dev sh = some h ∧ ((List.any (keepersWritten sh s.dev).shelf.cmds fun (x : ℕ
      × MemberCmd) => keeperOp sh x.2.op) || (keepersWritten sh s.dev).shelf.heldOps.any fun (x : ℕ × MemberOp) => keeperOp sh x.2)
      = false ∧ (h.keeperBehind = false ∨ h.marking = []))
    ∧ (∃ (s : State) (sh : ℕ) (h : ShoalSt), shoalOf s.dev sh = some h ∧ ((List.any (keepersWritten sh s.dev).shelf.cmds fun (x : ℕ
      × MemberCmd) => keeperOp sh x.2.op) || (keepersWritten sh s.dev).shelf.heldOps.any fun (x : ℕ × MemberOp) => keeperOp sh x.2)
      = false ∧ h.keeperBehind = true ∧ h.marking ≠ [])
    ∧ (∃ (s : State) (sh : ℕ) (row : ℕ) (m : ℕ) (c : MemberCmd) (pos : ℕ), tget s.dev.shelf.cmds m = some c ∧ c.phase ≠
      MemberPhase.queued ∧ c.op = MemberOp.writeStrip sh row pos)
    ∧ (∃ (s : State) (sh : ℕ) (row : ℕ) (m : ℕ) (c : MemberCmd) (pos : ℕ), tget s.dev.shelf.cmds m = some c ∧ c.phase ≠
      MemberPhase.queued ∧ c.op = MemberOp.parityWrite sh row pos)
    ∧ (∃ (s : State) (sh : ℕ) (row : ℕ) (m : ℕ) (c : MemberCmd) (pos : ℕ), tget s.dev.shelf.cmds m = some c ∧ c.phase ≠
      MemberPhase.queued ∧ c.op = MemberOp.rebuildWrite sh row pos)
    ∧ (∃ (s : State) (m : ℕ) (c : MemberCmd) (lba : ℕ) (b : List Byte), tget s.dev.shelf.cmds m = some c ∧ c.phase ≠
      MemberPhase.queued ∧ c.op = MemberOp.recordWrite lba b)
    ∧ (∃ (s : State) (sh : ℕ) (st : ℕ) (t : Stripe) (e : Dev), openOf s.dev sh st = some t ∧ (t.slots ≠ [] ∨ recordSlots s.dev sh
      st ≠ 0) ∧ t.sealWait = false ∧ sealStripe 1 t s.dev = some e)
    ∧ (∃ (s : State) (sh : ℕ) (st : ℕ) (t : Stripe) (e : Dev), openOf s.dev sh st = some t ∧ t.sealWait = true ∧ sealStripe
      t.sealCause t s.dev = some e) := by
  exact ⟨⟨{ aRun with dev.str.rows := [(rkey 0 0, { aStripe with slots := [none] })], dev.pool.layout := { sjournal := 0 } }, 0, 0,
      { aStripe with slots := [none] }, by decide⟩,
    ⟨{ aRun with dev.str.rows := [(rkey 0 0, (aStripe : Stripe))] }, 0, 0, aStripe, by decide⟩,
    ⟨{ aRun with dev.str.rows := [(rkey 0 0, { aStripe with sealWait := true })], dev.pool.layout := { sjournal := 0 } }, 0, 0,
      { aStripe with sealWait := true }, by decide⟩,
    ⟨{ aRun with dev.str.rows := [(rkey 0 0, { aStripe with life := .opened })] }, 0, 0, { aStripe with life := .opened }, 0, by
      decide⟩,
    ⟨{ aRun with dev.str.rows := [((rkey 4096 4096), aStripe)] }, 4096, 4096, aStripe, by decide⟩,
    ⟨{ aRun with dev.pair.recordPending := true, dev.str.rows := [((rkey 4096 4096), aStripe)] }, 4096, 4096, aStripe, by decide⟩,
    ⟨{ aRun with dev.pair.recordPending := false, dev.str.rows := [((rkey 4096 4096), { aStripe with life := StripeLife.sealed, parityDone := true })], dev.str.shoals := [(4096, aShoalSt)] },
      4096, 4096, { aStripe with life := StripeLife.sealed, parityDone := true }, aShoalSt, by decide⟩,
    ⟨{ aRun with dev.pair.recordPending := false, dev.str.rows := [((rkey 0 0), { aStripe with life := StripeLife.sealed, parityDone := true })], dev.str.shoals := [(0, { aShoalSt with dirty := [dirtyRegion 0] })] },
      0, 0, { aStripe with life := StripeLife.sealed, parityDone := true }, { aShoalSt with dirty := [dirtyRegion 0] }, by decide⟩,
    ⟨{ aRun with dev.str.rows := [((rkey 0 0), { aStripe with life := StripeLife.writing, done := 0xFFFFFFFF })] }, 0, 0,
      { aStripe with life := StripeLife.writing, done := 0xFFFFFFFF }, by decide⟩,
    ⟨{ aRun with dev.str.rows := [((rkey 4096 4096), { aStripe with life := StripeLife.writing })] }, 4096, 4096,
      { aStripe with life := StripeLife.writing }, by decide⟩,
    ⟨{ aRun with dev.str.shoals := [(0, aShoalSt)], dev.shelf.cmds := [(0, { aMemberCmd with bay := 0, op := .keeperWrite { shoal := 0, seq := 1 }, phase := .queued })] },
      0, aShoalSt, by decide⟩,
    ⟨{ aRun with dev.str.shoals := [(4096, (aShoalSt : ShoalSt))] }, 4096, aShoalSt, by decide⟩,
    ⟨{ aRun with dev.str.shoals := [(0, { aShoalSt with keeperBehind := true, marking := [3] })], dev.shelf.cmds := [(0, { aMemberCmd with bay := 0, op := .keeperWrite { shoal := 0, seq := 1 }, phase := .issued })] },
      0, { aShoalSt with keeperBehind := true, marking := [3] }, by decide⟩,
    ⟨{ aRun with dev.shelf.cmds := [(4096, { aMemberCmd with op := MemberOp.writeStrip 4096 4096 4096 })] }, 4096, 4096, 4096,
      { aMemberCmd with op := MemberOp.writeStrip 4096 4096 4096 }, 4096, by decide⟩,
    ⟨{ aRun with dev.shelf.cmds := [(4096, { aMemberCmd with op := MemberOp.parityWrite 4096 4096 4096 })] }, 4096, 4096, 4096,
      { aMemberCmd with op := MemberOp.parityWrite 4096 4096 4096 }, 4096, by decide⟩,
    ⟨{ aRun with dev.shelf.cmds := [(4096, { aMemberCmd with op := MemberOp.rebuildWrite 4096 4096 4096 })] }, 4096, 4096, 4096,
      { aMemberCmd with op := MemberOp.rebuildWrite 4096 4096 4096 }, 4096, by decide⟩,
    ⟨{ aRun with dev.shelf.cmds := [(4096, { aMemberCmd with op := MemberOp.recordWrite 4096 [] })] }, 4096,
      { aMemberCmd with op := MemberOp.recordWrite 4096 [] }, 4096, [], by decide⟩,
    ⟨{ aRun with dev.str.rows := [(rkey 0 0, { aStripe with life := .opened, slots := [some aBlock] })] }, 0, 0,
      { aStripe with life := .opened, slots := [some aBlock] }, _, by decide, by decide, by decide, rfl⟩,
    ⟨{ aRun with dev.str.rows := [(rkey 0 0, { aStripe with life := .opened, slots := [some aBlock], sealWait := true, sealCause := 2 })] },
      0, 0, { aStripe with life := .opened, slots := [some aBlock], sealWait := true, sealCause := 2 }, _, by decide, by decide,
      rfl⟩⟩

/-- The hypotheses of `Obligations.StripesCommit` can be met. -/
theorem witness_StripesCommit :
    (∃ (d : Dev) (sh : ℕ) (row : ℕ) (t : Stripe), rowAt d sh row = some t ∧ t.life ≠ StripeLife.durable)
    ∧ (∃ (d : Dev) (sh : ℕ) (row : ℕ) (t : Stripe), rowAt d sh row = some t ∧ logFree d < (groupRuns d t.placed).length + 1)
    ∧ (∃ (d : Dev) (sh : ℕ) (row : ℕ) (t : Stripe), rowAt d sh row = some t ∧ t.life = StripeLife.durable ∧ t.shoal = sh ∧ t.row =
      row ∧ t.placed = [] ∧ t.live ≠ 0 ∧ 0 < logFree d)
    ∧ (∃ (d : Dev) (sh : ℕ) (row : ℕ) (t : Stripe) (s : State), rowAt d sh row = some t ∧ s.dev = d)
    ∧ (∃ (s : State), s.dev.str.ckpt = none ∧ s.dev.str.shoals ≠ [])
    ∧ (∃ (s : State), s.dev.str.ckpt.isSome = true)
    ∧ (∃ (s : State) (k : Checkpoint), s.dev.str.ckpt = some k ∧ k.todo = [] ∧ k.segments = true ∧ ckptLanded s.dev k.gen = true ∧
      2 * (List.filter (fun (r : LogRec) => decide (k.q < r.seq)) s.dev.str.log).length < logSize s.dev)
    ∧ (∃ (s : State) (k : Checkpoint), s.dev.str.ckpt = some k ∧ k.todo = [] ∧ k.segments = true ∧ ckptLanded s.dev k.gen = false ∧
      2 * s.dev.str.log.length < logSize s.dev)
    ∧ (∃ (s : State) (sh : ℕ) (h : ShoalSt), shoalOf s.dev sh = some h ∧ h.clearing ≠ [])
    ∧ (∃ (s : State) (sh : ℕ) (h : ShoalSt), shoalOf s.dev sh = some h ∧ h.clearing = [])
    ∧ (∃ (s : State) (p : ℕ) (got : BlockRead), p ∈ s.dev.str.fetching ∧ pageGood s.dev p got.res got.recon got.bad = true)
    ∧ (∃ (s : State) (p : ℕ) (got : BlockRead), p ∈ s.dev.str.fetching ∧ pageGood s.dev p got.res got.recon got.bad = false)
    ∧ (∃ (s : State) (p : ℕ), p ∉ s.dev.str.fetching)
    ∧ (∃ (s : State) (m : ℕ) (c : MemberCmd) (rs : List ℕ), tget s.dev.shelf.cmds m = some c ∧ c.op = MemberOp.deallocate rs) := by
  exact ⟨⟨{ aRun.dev with str.rows := [((rkey 4096 4096), aStripe)] }, 4096, 4096, aStripe, by decide⟩,
    ⟨{ aRun.dev with str.rows := [((rkey 4096 4096), aStripe)], pool.layout := { maplog := 0 } }, 4096, 4096, aStripe, by decide⟩,
    ⟨{ aRun.dev with str.rows := [((rkey 4096 4096), { aStripe with life := StripeLife.durable, shoal := 4096, row := 4096, live := 1 })] },
      4096, 4096, { aStripe with life := StripeLife.durable, shoal := 4096, row := 4096, live := 1 }, by decide⟩,
    ⟨{ aRun.dev with str.rows := [((rkey 4096 4096), aStripe)] }, 4096, 4096, aStripe,
      { aRun with dev := { aRun.dev with str.rows := [((rkey 4096 4096), aStripe)] } }, by decide⟩,
    ⟨aRun, by decide⟩,
    ⟨{ aRun with dev.str.ckpt := some aCheckpoint }, by decide⟩,
    ⟨{ aRun with dev.str.ckpt := some { aCheckpoint with segments := true } }, { aCheckpoint with segments := true }, by decide⟩,
    ⟨{ aRun with dev.str.ckpt := some { aCheckpoint with segments := true }, dev.str.rows := [(rkey 0 0, { aStripe with placed := [{ nsid := 0, grain := 0, slot := 0, count := 1, asn := 0, mapClass := some 0 }] })] },
      { aCheckpoint with segments := true }, by decide⟩,
    ⟨{ aRun with dev.str.shoals := [(4096, { aShoalSt with clearing := [0] })] }, 4096, { aShoalSt with clearing := [0] }, by
      decide⟩,
    ⟨{ aRun with dev.str.shoals := [(4096, (aShoalSt : ShoalSt))] }, 4096, aShoalSt, by decide⟩,
    ⟨{ aRun with dev.str.fetching := [4096] }, 4096, ({}), by decide⟩,
    ⟨{ aRun with dev.str.fetching := [5], dev.str.dir := [(dirKey 0 5, aPlace)], dev.str.rows := [(rkey 0 0, { aStripe with life := .committed })] },
      5, ({ res := .error, recon := .error } : BlockRead), by decide⟩,
    ⟨aRun, 4096, by decide⟩,
    ⟨{ aRun with dev.shelf.cmds := [(4096, { aMemberCmd with op := MemberOp.deallocate [] })] }, 4096,
      { aMemberCmd with op := MemberOp.deallocate [] }, [], by decide⟩⟩

/-- The hypotheses of `Obligations.TidePool` can be met. -/
theorem witness_TidePool :
    (∃ (d : Dev) (c : ℕ) (n : ℕ), gateWrite d c n = Gate.charge PoolSpace.shared)
    ∧ (∃ (d : Dev) (c : ℕ) (n : ℕ), gateWrite d c n = Gate.charge PoolSpace.reserve)
    ∧ (∃ (s : ℕ) (l : ℕ), l ≤ 3 ∧ 59392 = s ∧ l < 3)
    ∧ (∃ (s : ℕ) (l : ℕ), l ≤ 3 ∧ 59392 = s ∧ l = 3)
    ∧ (∃ (s : ℕ) (occ : ℕ) (l : ℕ), l ≤ 3 ∧ 59392 = s ∧ l < nextLevel s occ l)
    ∧ (∃ (s : ℕ) (occ : ℕ) (l : ℕ) (j : ℕ), l ≤ 3 ∧ 59392 = s ∧ nextLevel s occ l < l ∧ nextLevel s occ l < j ∧ j ≤ l)
    ∧ (∃ (s : ℕ) (occ : ℕ) (l : ℕ) (j : ℕ), l ≤ 3 ∧ 59392 = s ∧ 1 ≤ j ∧ j ≤ 3 ∧ threshold s j ≤ occ)
    ∧ (∃ (s : State) (p : ℕ) (g : StagePage), tget s.dev.pool.pages p = some g ∧ (g.life ≠ PageLife.writing ∨ p ∈
      s.dev.pool.repeatWaits))
    ∧ (∃ (s : State) (p : ℕ) (g : StagePage), tget s.dev.pool.pages p = some g ∧ g.life = PageLife.writing ∧ p ∉
      s.dev.pool.repeatWaits ∧ (List.all s.dev.adm.cmds fun (x : ℕ × Cmd) => !x.2.pages.contains (some p)) = true)
    ∧ (∃ (s : State) (p : ℕ) (g : StagePage) (tag : ℕ) (c : Cmd), tget s.dev.pool.pages p = some g ∧ g.life = PageLife.writing ∧ p
      ∉ s.dev.pool.repeatWaits ∧ List.find? (fun (x : ℕ × Cmd) => x.2.pages.contains (some p)) s.dev.adm.cmds = some (tag, c) ∧
      tget s.dev.adm.cmds tag = some c ∧ c.kind = CmdKind.write ∧ c.completed = false ∧ c.absent = false ∧ writeReady
      (({ s.dev with pool.pages := tput s.dev.pool.pages p { g with life := .staged } } : Dev)) c = true ∧ mirrorDone
      (({ s.dev with pool.pages := tput s.dev.pool.pages p { g with life := .staged } } : Dev)) c = true)
    ∧ (∃ (s : State) (p : ℕ) (g : StagePage) (tag : ℕ) (c : Cmd), tget s.dev.pool.pages p = some g ∧ g.life = PageLife.writing ∧ p
      ∉ s.dev.pool.repeatWaits ∧ List.find? (fun (x : ℕ × Cmd) => x.2.pages.contains (some p)) s.dev.adm.cmds = some (tag, c) ∧
      tget s.dev.adm.cmds tag = some c ∧ c.kind = CmdKind.write ∧ c.completed = false ∧ c.absent = false ∧ (writeReady
      (({ s.dev with pool.pages := tput s.dev.pool.pages p { g with life := .staged } } : Dev)) c = false ∨ mirrorDone
      (({ s.dev with pool.pages := tput s.dev.pool.pages p { g with life := .staged } } : Dev)) c = false))
    ∧ (∃ (p : ℕ), p < 65536)
    ∧ (∃ (p : ℕ), 65536 ≤ p)
    ∧ (∃ (d : Dev) (p : ℕ) (r : ℕ) (l : List ℕ), d.pool.withdrawn.contains p = false ∧ d.pool.retiredInPlace.contains p = false ∧
      List.filter (fun (x : ℕ) => x != p) (spareFree d) = r :: l ∧ fixedPage d p = false ∧ regionOf d.pool.layout p ≠ Region.stage)
    ∧ (∃ (d : Dev) (p : ℕ) (r : ℕ) (l : List ℕ), d.pool.withdrawn.contains p = false ∧ d.pool.retiredInPlace.contains p = false ∧
      spareFree d = r :: l ∧ regionOf d.pool.layout p = Region.stage)
    ∧ (∃ (d : Dev) (p : ℕ) (g : StagePage) (q : ℕ) (x : Dev) (tag : ℕ) (c : Cmd), d.pool.withdrawn.contains p = false ∧
      d.pool.retiredInPlace.contains p = false ∧ spareFree d = [] ∧ regionOf d.pool.layout p = Region.stage ∧ tget d.pool.pages p =
      some g ∧ allocPage (withdrawPage p (pageRetired p p d)) = some (q, x) ∧ tget d.adm.cmds tag = some c)
    ∧ (∃ (d : Dev) (c : ControlBlock) (n : ℕ), d.pool.state ∉ [PoolState.off, PoolState.failed, PoolState.stopped] ∧ d.pool.control
      = some c ∧ d.ev.nextEsn = some (n + 1)) := by
  exact ⟨⟨(aRun.dev : Dev), 4096, 4096, by decide⟩,
    ⟨{ aRun.dev with pool.held := [(1, 57344)] }, 0, 2048, by decide⟩,
    ⟨59392, 2, by decide⟩,
    ⟨59392, 3, by decide⟩,
    ⟨59392, 59393, 2, by decide⟩,
    ⟨59392, 4096, 3, 3, by decide⟩,
    ⟨59392, 59393, 3, 3, by decide⟩,
    ⟨{ aRun with dev.pool.pages := [(4096, aStagePage)] }, 4096, aStagePage, by decide⟩,
    ⟨{ aRun with dev.pool.pages := [(4096, { aStagePage with life := PageLife.writing })] }, 4096,
      { aStagePage with life := PageLife.writing }, by decide⟩,
    ⟨{ aRun with dev.pool.pages := [(0, { aStagePage with life := PageLife.writing })], dev.adm.cmds := [(0, { aCmd with kind := CmdKind.write, completed := false, absent := false, pages := [some 0], ranges := [{ lba := 0, len := 1 }], received := 4096 })] },
      0, { aStagePage with life := PageLife.writing }, 0,
      { aCmd with kind := CmdKind.write, completed := false, absent := false, pages := [some 0], ranges := [{ lba := 0, len := 1 }], received := 4096 },
      by decide⟩,
    ⟨{ aRun with dev.pool.pages := [(0, { aStagePage with life := PageLife.writing })], dev.adm.cmds := [(0, { aCmd with kind := CmdKind.write, completed := false, absent := false, pages := [some 0], ranges := [{ lba := 0, len := 1 }], received := 4095 })] },
      0, { aStagePage with life := PageLife.writing }, 0,
      { aCmd with kind := CmdKind.write, completed := false, absent := false, pages := [some 0], ranges := [{ lba := 0, len := 1 }], received := 4095 },
      by decide⟩,
    ⟨59392, by decide⟩,
    ⟨65536, by decide⟩,
    ⟨aRun.dev, 62000, ((spareFree aRun.dev).headD 0), ((spareFree aRun.dev).tail), by decide⟩,
    ⟨aRun.dev, 0, ((spareFree aRun.dev).headD 0), ((spareFree aRun.dev).tail), by decide⟩,
    ⟨{ aRun.dev with pool.pages := [(0, aStagePage)], adm.cmds := [(0, { aCmd with pages := [some 0], ranges := [{ lba := 0, len := 1 }], received := 4096 })], pool.layout := { spare := 2 } },
      0, aStagePage, (((allocPage (withdrawPage 0 (pageRetired 0 0
      ({ aRun.dev with pool.pages := [(0, aStagePage)], adm.cmds := [(0, { aCmd with pages := [some 0], ranges := [{ lba := 0, len := 1 }], received := 4096 })], pool.layout := { spare := 2 } }
      : Dev)))).map (·.1)).getD 0), (((allocPage (withdrawPage 0 (pageRetired 0 0
      ({ aRun.dev with pool.pages := [(0, aStagePage)], adm.cmds := [(0, { aCmd with pages := [some 0], ranges := [{ lba := 0, len := 1 }], received := 4096 })], pool.layout := { spare := 2 } }
      : Dev)))).map (·.2)).getD
      ({ aRun.dev with pool.pages := [(0, aStagePage)], adm.cmds := [(0, { aCmd with pages := [some 0], ranges := [{ lba := 0, len := 1 }], received := 4096 })], pool.layout := { spare := 2 } }
      : Dev)), 0, { aCmd with pages := [some 0], ranges := [{ lba := 0, len := 1 }], received := 4096 }, by decide⟩,
    ⟨{ aRun.dev with pool.control := some aControlBlock, ev.nextEsn := some (4096 + 1) }, aControlBlock, 4096, by decide⟩⟩

/-- The hypotheses of `Obligations.WrittenBlockLogs` can be met. -/
theorem witness_WrittenBlockLogs :
    (∃ (s : State) (n : ℕ) (nsid : ℕ) (k : Ctrl) (x : Ns), n ≠ 0 ∧ ctrlOf s.dev n = some k ∧ k.enabled = true ∧ k.ended = false ∧
      tget s.dev.host.nss nsid = some x ∧ attached s.dev n nsid = true ∧ wblMiB
      (({ s.dev with cove.wbl := tput s.dev.cove.wbl nsid { running := true, swapAsn := x.nextAsn } } : Dev)) ≤ (chartOf
      s.dev).hbm.shallowsMax ∧ wblOf s.dev nsid = none)
    ∧ (∃ (s : State) (n : ℕ) (nsid : ℕ) (k : Ctrl) (x : Ns), n ≠ 0 ∧ ctrlOf s.dev n = some k ∧ k.enabled = true ∧ k.ended = false ∧
      tget s.dev.host.nss nsid = some x ∧ attached s.dev n nsid = true ∧ (chartOf s.dev).hbm.shallowsMax < wblMiB
      (({ s.dev with cove.wbl := tput s.dev.cove.wbl nsid { running := true, swapAsn := x.nextAsn } } : Dev)))
    ∧ (∃ (s : State) (n : ℕ) (nsid : ℕ) (k : Ctrl) (x : Ns) (w : Wbl), n ≠ 0 ∧ ctrlOf s.dev n = some k ∧ k.enabled = true ∧ k.ended
      = false ∧ tget s.dev.host.nss nsid = some x ∧ attached s.dev n nsid = true ∧ wblOf s.dev nsid = some w)
    ∧ (∃ (s : State) (n : ℕ) (nsid : ℕ) (k : Ctrl) (x : Ns) (w : Wbl), n ≠ 0 ∧ ctrlOf s.dev n = some k ∧ k.enabled = true ∧ k.ended
      = false ∧ tget s.dev.host.nss nsid = some x ∧ attached s.dev n nsid = true ∧ tget s.dev.cove.wbl nsid = some w ∧ w.running =
      true)
    ∧ (∃ (s : State) (n : ℕ) (nsid : ℕ) (k : Ctrl) (x : Ns), n ≠ 0 ∧ ctrlOf s.dev n = some k ∧ k.enabled = true ∧ k.ended = false ∧
      tget s.dev.host.nss nsid = some x ∧ attached s.dev n nsid = false) := by
  exact ⟨⟨{ aRun with dev.host.ctrls := [(4096, { aCtrl with enabled := true })], dev.host.nss := [(4096, aNs)] }, 4096, 4096,
      { aCtrl with enabled := true }, aNs, by decide⟩,
    ⟨{ aRun with dev.host.ctrls := [(4096, { aCtrl with enabled := true })], dev.host.nss := [(4096, aNs)], dev.cove.tab := [(1, aCoveRec)], dev.chart.inForce := some { defaultChart with hbm.shallowsMax := 0 } },
      4096, 4096, { aCtrl with enabled := true }, aNs, by decide⟩,
    ⟨{ aRun with dev.host.ctrls := [(4096, { aCtrl with enabled := true })], dev.host.nss := [(4096, aNs)], dev.cove.tab := [(1, aCoveRec)], dev.cove.wbl := [(4096, { aWbl with running := true })] },
      4096, 4096, { aCtrl with enabled := true }, aNs, { aWbl with running := true }, by decide⟩,
    ⟨{ aRun with dev.host.ctrls := [(4096, { aCtrl with enabled := true })], dev.host.nss := [(4096, aNs)], dev.cove.wbl := [(4096, { aWbl with running := true })] },
      4096, 4096, { aCtrl with enabled := true }, aNs, { aWbl with running := true }, by decide⟩,
    ⟨{ aRun with dev.host.ctrls := [(4096, { aCtrl with enabled := true })], dev.host.nss := [(4096, { aNs with coves := [] })] },
      4096, 4096, { aCtrl with enabled := true }, { aNs with coves := [] }, by decide⟩⟩

end Sys2Proof.Tests
end

section
/-! Proofs about the Lighthouse (14 R430 to R436): its rates, the borrowing limit, capping, the step and the heat buckets, and from them
the statement O26. -/

namespace Sys2Proof.Machine

/-! ## Rates (R430) -/

theorem between_eq_self {lo hi v : Nat} (hlo : lo ≤ v) (hhi : v ≤ hi) : between lo hi v = v := by
  rw [between, Nat.min_eq_right hhi, Nat.max_eq_right hlo]

@[simp] theorem between_self (lo v : Nat) : between lo lo v = lo := by
  rw [between, Nat.max_eq_left (Nat.min_le_left lo v)]

/-- The value a rate moves towards at host pressure `h` (R430). -/
def rateTarget (b : Nat × Nat) (h : Nat) : Nat := b.1 * 65536 + (b.2 - b.1) * (65536 - h)

theorem rateTarget_mem {b : Nat × Nat} (hb : b.1 ≤ b.2) (h : Nat) :
    b.1 * 65536 ≤ rateTarget b h ∧ rateTarget b h ≤ b.2 * 65536 := by
  have share : (b.2 - b.1) * (65536 - h) ≤ (b.2 - b.1) * 65536 := Nat.mul_le_mul_left _ (Nat.sub_le _ _)
  unfold rateTarget
  omega

section
variable {b : Nat × Nat} {rate : Nat} (hb : b.1 ≤ b.2) (hlo : b.1 * 65536 ≤ rate) (hhi : rate ≤ b.2 * 65536) (h : Nat)
include hb hlo hhi

/-- Between bounds that the rate meets, the bounds cut nothing off the move. -/
theorem approach_eq : approach b h rate =
    min (max (rateTarget b h) (rate - (b.2 - b.1) * 4096)) (rate + (b.2 - b.1) * 4096) := by
  obtain ⟨htlo, hthi⟩ := rateTarget_mem hb h
  change between _ _ (min (max (rateTarget b h) _) _) = _
  exact between_eq_self (by omega) (by omega)

theorem approach_mem : b.1 * 65536 ≤ approach b h rate ∧ approach b h rate ≤ b.2 * 65536 := by
  obtain ⟨htlo, hthi⟩ := rateTarget_mem hb h
  rw [approach_eq hb hlo hhi]
  omega

/-- A step moves a rate by at most a sixteenth of its range. -/
theorem approach_near : approach b h rate ≤ rate + (b.2 - b.1) * 4096 ∧ rate ≤ approach b h rate + (b.2 - b.1) * 4096 := by
  rw [approach_eq hb hlo hhi]
  omega

theorem approach_rises (ht : rate ≤ rateTarget b h) : rate ≤ approach b h rate ∧ approach b h rate ≤ rateTarget b h := by
  rw [approach_eq hb hlo hhi]
  omega

theorem approach_falls (ht : rateTarget b h ≤ rate) : rateTarget b h ≤ approach b h rate ∧ approach b h rate ≤ rate := by
  rw [approach_eq hb hlo hhi]
  omega

theorem approach_reaches (h1 : rate ≤ rateTarget b h + (b.2 - b.1) * 4096) (h2 : rateTarget b h ≤ rate + (b.2 - b.1) * 4096) :
    approach b h rate = rateTarget b h := by
  rw [approach_eq hb hlo hhi]
  omega

end

/-- With a LIVE stripe at risk the rebuild rate is REBUILD_MAX, advised or applied (06 R187). -/
theorem rebuildApplied_atRisk {d : Dev} (hr : atRisk d = true) (hs : d.light.stage < 2) :
    rebuildApplied d = (chartOf d).light.rebuildMax * 65536 := by
  have hb : rebuildBounds d = ((chartOf d).light.rebuildMax, (chartOf d).light.rebuildMax) := if_pos hr
  simp only [rebuildApplied, hb, if_neg (Nat.not_le.mpr hs), between_self, ite_self]

theorem ebbApplied_press {d : Dev} (h : 2 ≤ d.pool.level) (sh : Nat) : ebbApplied d sh = 0 := by
  have hf : ebbForced d sh = some 0 := if_pos h
  rw [ebbApplied, hf, Option.getD_some]

/-! ## The borrowing limit (R431) -/

theorem borrowChosen_off {d : Dev} (h : (chartOf d).light.borrow = 0) : borrowChosen d = 0 := if_pos h

theorem borrowChosen_press {d : Dev} (hb : (chartOf d).light.borrow ≠ 0) (h : 2 ≤ d.pool.level) :
    borrowChosen d = d.light.borrow - (chartOf d).light.borrowMax / 8 := by
  simp only [borrowChosen, if_neg hb, if_pos h]

theorem borrowChosen_calm {d : Dev} (hb : (chartOf d).light.borrow ≠ 0) (h : d.pool.level < 2) :
    borrowChosen d = min (chartOf d).light.borrowMax (d.light.borrow + (chartOf d).light.borrowMax / 8) := by
  simp only [borrowChosen, if_neg hb, if_neg (Nat.not_le.mpr h)]

/-- A decision on the limit changes the limit and what its record changes. -/
theorem decideBorrow_shape (d : Dev) : ∃ r n x p o, decideBorrow d =
    { d with light.borrow := borrowChosen d, light.recorded := r, light.suppressed := n, ev := x, mhi.msixPending := p, out := o } := by
  unfold decideBorrow
  dsimp only
  split
  · exact ⟨d.light.recorded, d.light.suppressed, d.ev, d.mhi.msixPending, d.out, rfl⟩
  · exact logLight_shape _ _ _ _ _ _ _ _ _ _ _

theorem decideBorrow_borrow (d : Dev) : (decideBorrow d).light.borrow = borrowChosen d := by
  obtain ⟨_, _, _, _, _, k⟩ := decideBorrow_shape d; rw [k]

/-- The change of the limit takes no page back. -/
theorem decideBorrow_pool (d : Dev) : (decideBorrow d).pool = d.pool := by
  obtain ⟨_, _, _, _, _, k⟩ := decideBorrow_shape d; rw [k]

/-! ## Capping (R435) -/

section
variable (a b : Nat) (v : Bool) (c e f g h i j : Nat) (d : Dev)

@[simp] theorem logLight_light_stage : (logLight a b v c e f g h i j d).light.stage = d.light.stage := by
  obtain ⟨_, _, _, _, _, k⟩ := logLight_shape a b v c e f g h i j d; rw [k]
@[simp] theorem logLight_light_overSteps : (logLight a b v c e f g h i j d).light.overSteps = d.light.overSteps := by
  obtain ⟨_, _, _, _, _, k⟩ := logLight_shape a b v c e f g h i j d; rw [k]
@[simp] theorem logLight_light_admitted : (logLight a b v c e f g h i j d).light.admitted = d.light.admitted := by
  obtain ⟨_, _, _, _, _, k⟩ := logLight_shape a b v c e f g h i j d; rw [k]

end

@[simp] theorem setStage_stage (n : Nat) (d : Dev) : (setStage n d).light.stage = n := by simp [setStage]
@[simp] theorem setStage_overSteps (n : Nat) (d : Dev) : (setStage n d).light.overSteps = 0 := by simp [setStage]
@[simp] theorem setStage_admittedRate (n : Nat) (d : Dev) : admittedRate (setStage n d) = admittedRate d := by
  have hc : (setStage n d).clk = d.clk := by simp [setStage]
  have ha : (setStage n d).light.admitted = d.light.admitted := by simp [setStage]
  unfold admittedRate admittedSince elapsed
  rw [hc, ha]

/-- A new ceiling changes the ceiling and what its record changes. -/
theorem setCeiling_shape (c : Nat) (rises : Bool) (d : Dev) : ∃ r n x p o, setCeiling c rises d =
    { d with light.ceiling := c, light.recorded := r, light.suppressed := n, ev := x, mhi.msixPending := p, out := o } := by
  unfold setCeiling
  dsimp only
  split
  next h =>
    subst h
    exact ⟨d.light.recorded, d.light.suppressed, d.ev, d.mhi.msixPending, d.out, rfl⟩
  next => exact logLight_shape _ _ _ _ _ _ _ _ _ _ _

@[simp] theorem setCeiling_stage (c : Nat) (r : Bool) (d : Dev) : (setCeiling c r d).light.stage = d.light.stage := by
  obtain ⟨_, _, _, _, _, k⟩ := setCeiling_shape c r d; rw [k]
@[simp] theorem setCeiling_overSteps (c : Nat) (r : Bool) (d : Dev) : (setCeiling c r d).light.overSteps = d.light.overSteps := by
  obtain ⟨_, _, _, _, _, k⟩ := setCeiling_shape c r d; rw [k]
@[simp] theorem setCeiling_ceiling (c : Nat) (r : Bool) (d : Dev) : (setCeiling c r d).light.ceiling = c := by
  obtain ⟨_, _, _, _, _, k⟩ := setCeiling_shape c r d; rw [k]

/-- The limits for rising and for falling are 5 W and 5 °C apart, so no step counts for both. -/
theorem underLimit_of_overLimit {d : Dev} (h : overLimit d = true) : underLimit d = false := by
  simp only [overLimit, underLimit, Bool.or_eq_true, Bool.and_eq_false_iff, decide_eq_true_eq, decide_eq_false_iff_not] at *
  omega

theorem overLimit_of_underLimit {d : Dev} (h : underLimit d = true) : overLimit d = false := by
  by_contra ho
  simp [underLimit_of_overLimit (Bool.of_not_eq_false ho)] at h

/-- A device whose steps in a row over and under the limit count this step. -/
def countSteps (d : Dev) : Dev :=
  { d with light.overSteps := if overLimit d then d.light.overSteps + 1 else 0
           light.underSteps := if underLimit d then d.light.underSteps + 1 else 0 }

@[simp] theorem countSteps_stage (d : Dev) : (countSteps d).light.stage = d.light.stage := rfl

theorem countSteps_of_over {d : Dev} (ho : overLimit d = true) :
    countSteps d = { d with light.overSteps := d.light.overSteps + 1, light.underSteps := 0 } := by
  simp [countSteps, ho, underLimit_of_overLimit ho]

theorem countSteps_of_under {d : Dev} (hu : underLimit d = true) :
    countSteps d = { d with light.overSteps := 0, light.underSteps := d.light.underSteps + 1 } := by
  simp [countSteps, hu, overLimit_of_underLimit hu]

theorem countSteps_of_neither {d : Dev} (ho : overLimit d = false) (hu : underLimit d = false) :
    countSteps d = { d with light.overSteps := 0, light.underSteps := 0 } := by
  simp [countSteps, ho, hu]

/-- A rise to the next stage, with the ceiling set on entry to stage 3. -/
def raiseStage (d : Dev) : Dev :=
  let e := setStage (d.light.stage + 1) d
  if e.light.stage = 3 then setCeiling (admittedRate e) false e else e

theorem raiseStage_eq (d : Dev) : (raiseStage d).light.stage = d.light.stage + 1 ∧ (raiseStage d).light.overSteps = 0
    ∧ (d.light.stage = 2 → (raiseStage d).light.ceiling = admittedRate d) := by
  by_cases h : d.light.stage = 2 <;> simp [raiseStage, h]

theorem capStep_eq (d : Dev) : capStep d =
    if d.light.stage < 3 ∧ 5 ≤ (countSteps d).light.overSteps then raiseStage (countSteps d)
    else if 0 < d.light.stage ∧ 100 ≤ (countSteps d).light.underSteps then
      { setStage (d.light.stage - 1) (countSteps d) with light.ceiling := 0 }
    else if d.light.stage = 3 then stepCeiling (countSteps d)
    else countSteps d := rfl

theorem capStep_raises {d : Dev} (ho : overLimit d = true) (hs : d.light.stage < 3) (hn : 4 ≤ d.light.overSteps) :
    capStep d = raiseStage (countSteps d) := by
  have five : 5 ≤ (countSteps d).light.overSteps := by rw [countSteps_of_over ho]; exact Nat.succ_le_succ hn
  rw [capStep_eq, if_pos ⟨hs, five⟩]

/-- Below stage 3, a step over the limit that is not yet the fifth in a row changes the two counts alone. -/
theorem capStep_counts {d : Dev} (ho : overLimit d = true) (hs : d.light.stage < 3) (hn : d.light.overSteps < 4) :
    capStep d = { d with light.overSteps := d.light.overSteps + 1, light.underSteps := 0 } := by
  rw [capStep_eq, countSteps_of_over ho, if_neg (by simp; omega), if_neg (by simp), if_neg (by omega)]

theorem capStep_lowers {d : Dev} (hu : underLimit d = true) (hs : 0 < d.light.stage) (hn : 99 ≤ d.light.underSteps) :
    capStep d = { setStage (d.light.stage - 1) (countSteps d) with light.ceiling := 0 } := by
  rw [capStep_eq, countSteps_of_under hu, if_neg (by simp), if_pos ⟨hs, Nat.succ_le_succ hn⟩]

/-- At stage 3 and short of a hundred steps under the limit, a step is one of the ceiling. -/
theorem capStep_stage3 {d : Dev} (hs : d.light.stage = 3) (hn : (countSteps d).light.underSteps < 100) :
    capStep d = stepCeiling (countSteps d) := by
  rw [capStep_eq, if_neg (by omega), if_neg (by omega), if_pos hs]

theorem stepCeiling_over {d : Dev} (ho : overLimit d = true) (hc : 25000 < d.light.ceiling) :
    stepCeiling d = setCeiling (max 25000 (d.light.ceiling - 75000)) false d := by
  simp only [stepCeiling, if_pos ho, if_neg (Nat.not_le.mpr hc)]

theorem stepCeiling_under {d : Dev} (ho : overLimit d = false) (hn : 10 ≤ d.light.underSteps) :
    stepCeiling d = if 585000 ≤ d.light.ceiling then { setStage 2 d with light.ceiling := 0 }
      else setCeiling (d.light.ceiling + 15000) true d := by
  simp only [stepCeiling, ho, Bool.false_eq_true, if_false, if_pos hn, Nat.reduceLeDiff]

theorem stepCeiling_rests {d : Dev} (ho : overLimit d = false) (hn : d.light.underSteps < 10) : stepCeiling d = d := by
  simp only [stepCeiling, ho, Bool.false_eq_true, if_false, if_neg (Nat.not_le.mpr hn)]

/-- Over the limit at stage 3, C falls by 75 GB/s, not below 25 GB/s. -/
theorem capStep_over_stage3 {d : Dev} (ho : overLimit d = true) (hs : d.light.stage = 3) (hc : 25000 < d.light.ceiling) :
    capStep d = setCeiling (max 25000 (d.light.ceiling - 75000)) false (countSteps d) := by
  rw [capStep_stage3 hs (by simp [countSteps_of_over ho])]
  exact stepCeiling_over (d := countSteps d) ho hc

/-- From the tenth step under the limit C rises by 15 GB/s, until stage 3 ends at 600 GB/s. -/
theorem capStep_under_stage3 {d : Dev} (hu : underLimit d = true) (hs : d.light.stage = 3) (hn : 9 ≤ d.light.underSteps)
    (hn' : d.light.underSteps < 99) :
    capStep d = if 585000 ≤ d.light.ceiling then { setStage 2 (countSteps d) with light.ceiling := 0 }
      else setCeiling (d.light.ceiling + 15000) true (countSteps d) := by
  have count : (countSteps d).light.underSteps = d.light.underSteps + 1 := by rw [countSteps_of_under hu]
  rw [capStep_stage3 hs (by omega)]
  exact stepCeiling_under (d := countSteps d) (overLimit_of_underLimit hu) (by omega)

/-- A step that counts neither way changes no stage and no ceiling. -/
theorem capStep_rests {d : Dev} (ho : overLimit d = false) (hu : underLimit d = false) : capStep d = countSteps d := by
  have above : (countSteps d).light.overSteps = 0 := by rw [countSteps_of_neither ho hu]
  have below : (countSteps d).light.underSteps = 0 := by rw [countSteps_of_neither ho hu]
  rw [capStep_eq, if_neg (by omega), if_neg (by omega)]
  split
  · exact stepCeiling_rests ho (by omega)
  · rfl

/-! ## The step (R427) -/

/-- The sensors' averages stand and the alerts are judged. -/
def senseStep (t : Int) (p : Nat) (d : Dev) : Dev := judgeAlert { d with mhi.temp := t, mhi.power := p }

@[simp] theorem senseStep_boot (t : Int) (p : Nat) (d : Dev) : (senseStep t p d).boot = d.boot := by simp [senseStep]
@[simp] theorem senseStep_pair (t : Int) (p : Nat) (d : Dev) : (senseStep t p d).pair = d.pair := by simp [senseStep]
@[simp] theorem senseStep_pool (t : Int) (p : Nat) (d : Dev) : (senseStep t p d).pool = d.pool := by simp [senseStep]
@[simp] theorem senseStep_light (t : Int) (p : Nat) (d : Dev) : (senseStep t p d).light = d.light := by simp [senseStep]
@[simp] theorem senseStep_coreRuns (t : Int) (p : Nat) (d : Dev) : coreRuns (senseStep t p d) = coreRuns d := by
  simp [coreRuns, coreHeld]

/-- The device that a step decides on: its sensors read and the step counted. -/
def beginStep (t : Int) (p : Nat) (d : Dev) : Dev := { senseStep t p d with light.steps := d.light.steps + 1 }

/-- The end of a step: the counts of contended deliveries start anew, and what PRESS holds back or asks for is settled. -/
def endStep (d : Dev) : Dev := resumeRepairs (aroundAll { d with path.deliveries := 0, path.contended := 0 })

theorem lightStep_eq {d : Dev} (hr : coreRuns d = true) (t : Int) (p h : Nat) : lightStep t p h d =
    { (if d.boot.serving ∧ (d.pair.role = .active ∨ d.pair.role = .solo) then decideStep h (beginStep t p d) else beginStep t p d) with
      path.deliveries := 0, path.contended := 0 } := by
  have runs : ¬ (!coreRuns (senseStep t p d)) = true := by simp [hr]
  rw [beginStep, ← senseStep_light t p d, ← senseStep_boot t p d, ← senseStep_pair t p d]
  exact if_neg runs

theorem exec_lighthouseStep (t : Int) (p h : Nat) (s : State) :
    Gives (.lighthouseStep t p h) s (resumeRepairs (aroundAll (lightStep t p h s.dev))) := rfl

theorem lighthouseStep_decides {s : State} (hr : coreRuns s.dev = true) (hs : s.dev.boot.serving = true)
    (hw : s.dev.pair.role = .active ∨ s.dev.pair.role = .solo) (t : Int) (p h : Nat) :
    Gives (.lighthouseStep t p h) s (endStep (decideStep h (beginStep t p s.dev))) := by
  have e := exec_lighthouseStep t p h s
  rwa [lightStep_eq hr, if_pos ⟨hs, hw⟩] at e

theorem lighthouseStep_counts {s : State} (hr : coreRuns s.dev = true)
    (hw : s.dev.boot.serving = false ∨ s.dev.pair.role = .standby ∨ s.dev.pair.role = .fenced) (t : Int) (p h : Nat) :
    Gives (.lighthouseStep t p h) s (endStep (beginStep t p s.dev)) := by
  have e := exec_lighthouseStep t p h s
  have no : ¬ (s.dev.boot.serving ∧ (s.dev.pair.role = .active ∨ s.dev.pair.role = .solo)) := by
    rintro ⟨hs, hb⟩
    rcases hw with h0 | h0 | h0 <;> simp_all
  rwa [lightStep_eq hr, if_neg no] at e

/-! ## Heat and streams (R432, R433) -/

theorem exec_heatBucketRotate (b : Bool) (s : State) : Gives (.heatBucketRotate b) s (rotateHeat b s.dev) := rfl

theorem tget_rotateHeat {d : Dev} {k : Nat} {x : Heat} (b : Bool) (hk : tget d.light.heat k = some x) :
    tget (rotateHeat b d).light.heat k = some (if b then { x with writes15m := 0 :: x.writes15m.take 3 }
      else { x with reads := 0 :: x.reads.take 3, writes15s := 0 :: x.writes15s.take 3 }) := by
  rw [rotateHeat, tget_tall, hk, Option.map_some]

theorem band_zero : band 0 = 0 := rfl

/-- The band of a heat is one more than its logarithm to base 4. -/
theorem band_eq {w k : Nat} (hlo : 4 ^ k ≤ w) (hhi : w < 4 ^ (k + 1)) : band w = k + 1 := by
  have hw : w ≠ 0 := Nat.ne_of_gt (Nat.lt_of_lt_of_le (by positivity) hlo)
  rw [show 4 = 2 ^ 2 from rfl, ← pow_mul] at hlo hhi
  have lo := (Nat.le_log2 hw).mpr hlo
  have hi := (Nat.log2_lt hw).mpr hhi
  rw [band, if_neg hw]
  omega

theorem writeStream_few {n : Nat} (hn : n ≤ 2) (d : Dev) (nsid lba : Nat) : writeStream d n nsid lba = 0 := if_pos hn

theorem writeStream_band {n : Nat} (hn : 3 ≤ n) (d : Dev) (nsid lba : Nat) :
    writeStream d n nsid lba = min (n - 2) (band (writeHeat d nsid (lba / 256))) := if_neg (by omega)

end Sys2Proof.Machine

open Sys2Proof Sys2Proof.Machine

/-- Settles O26: clause by clause, from the lemmas on the rates, the borrowing limit, capping, the step and the heat buckets. -/
theorem lighthouseDecides : Obligations.LighthouseDecides := by
  refine ⟨⟨fun b h rate hb _ hlo hhi => ?_, fun d => ?_⟩, fun d => ?_, fun s => ⟨fun t p h hr => ?_, fun b => ?_, ?_, ?_, ?_⟩⟩
  · obtain ⟨hmin, hmax⟩ := approach_mem hb hlo hhi h
    obtain ⟨hup, hdown⟩ := approach_near hb hlo hhi h
    exact ⟨hmin, hmax, hup, hdown, approach_rises hb hlo hhi h, approach_falls hb hlo hhi h, approach_reaches hb hlo hhi h⟩
  · exact ⟨borrowChosen_off, borrowChosen_press, borrowChosen_calm, fun hr hs => (rebuildApplied_atRisk hr hs).symm,
      fun sh hp => ebbApplied_press hp sh, decideBorrow_borrow d, decideBorrow_pool d⟩
  · refine ⟨fun ho hs hn => ?_, capStep_counts, fun hu hs hn => ?_, fun ho hs hc => ?_,
      fun hu hs hn hn' => ⟨fun hc => ?_, fun hc => ?_⟩, fun ho hu => ?_⟩
    · rw [capStep_raises ho hs hn]
      exact raiseStage_eq (countSteps d)
    · rw [capStep_lowers hu hs hn]
      exact setStage_stage _ _
    · rw [capStep_over_stage3 ho hs hc]
      simp [hs]
    · rw [capStep_under_stage3 hu hs hn hn', if_neg (Nat.not_le.mpr hc)]
      simp [hs]
    · rw [capStep_under_stage3 hu hs hn hn', if_pos hc]
      exact setStage_stage _ _
    · rw [capStep_rests ho hu]
      exact ⟨rfl, rfl⟩
  · exact ⟨fun hs hw => lighthouseStep_decides hr hs hw t p h, fun hw => lighthouseStep_counts hr hw t p h⟩
  · exact ⟨_, exec_heatBucketRotate b s, ⟨rfl, rfl, rfl⟩, rfl, fun k x hk => tget_rotateHeat b hk⟩
  · exact fun n nsid lba hn => writeStream_few hn s.dev nsid lba
  · intro n nsid lba hn h0
    rw [writeStream_band hn, h0, band_zero, Nat.min_zero]
  · intro n nsid lba k hn hlo hhi
    rw [writeStream_band hn, band_eq hlo hhi]
end

section
/-! Proofs about the performance counters (17 R487, R488, R493) and the queue samplers (10 R337, R338), and from them the statement
O10. -/

namespace Sys2Proof.Machine

/-! ## Writes of open blocks (18 R501) -/

theorem whenReg_open {d : Dev} (h : blocksOpen d = true) (f : Dev → Dev) : whenReg f d = f d := if_pos h

theorem not_restarting_of_blocksOpen {d : Dev} (h : blocksOpen d = true) : d.mhi.restarting = false := by
  simp only [blocksOpen, blocksRead, Bool.and_eq_true, Bool.not_eq_true'] at h
  obtain ⟨⟨⟨_, hr⟩, _⟩, _⟩ := h
  exact hr

theorem onTable_open {d : Dev} (h : blocksOpen d = true) (a : Nat) (f : Dev → Dev) : onTable a f d = f d := by
  rw [onTable, if_neg (by simp [not_restarting_of_blocksOpen h]), whenReg_open h]

section
variable {s : State} (h : blocksOpen s.dev = true)
include h

/-- A command that is a register write changes the device as its write does, while the blocks take writes. -/
theorem gives_whenReg {c : Instr} {f : Dev → Dev} {d : Dev} (hc : exec c s = onDev s (whenReg f)) (hf : f s.dev = d) :
    Gives c s d := by
  rw [Gives, hc, onDev_eq, whenReg_open h, hf]

/-- The same of a write of an on-die table through the Data Port. -/
theorem gives_onTable {c : Instr} {a : Nat} {f : Dev → Dev} {d : Dev} (hc : exec c s = onDev s (onTable a f)) (hf : f s.dev = d) :
    Gives c s d := by
  rw [Gives, hc, onDev_eq, onTable_open h, hf]

end

/-! ## Counters and Lenses (17 R487, R488, R493) -/

/-- The counter that a PERF_CFG write of `v` leaves, with the class and the event that it takes or keeps. -/
def configured (v : Reg) (cls event : Nat) : Counter :=
  { count := 0, ovf := false, enable := v.getLsbD 31, lens := v.toNat / 65536 % 256, cls := cls, event := event }

theorem bits_lens (x : Nat) : bits x 23 16 = x / 65536 % 256 := rfl
theorem bits_class (x : Nat) : bits x 15 8 = x / 256 % 256 := rfl
theorem bits_event (x : Nat) : bits x 7 0 = x % 256 := congrArg (· % 256) (Nat.div_one x)

section
variable {n : Nat} {v : Reg} {d : Dev} (hn : n < 2048)
include hn

theorem perfCfgWrite_takes (hc : v.toNat / 256 % 256 < 11) (he : v.toNat % 256 < eventsOf (v.toNat / 256 % 256)) :
    perfCfgWrite n v d =
      { d with perf.counters := tput d.perf.counters n (configured v (v.toNat / 256 % 256) (v.toNat % 256)) } := by
  simp only [perfCfgWrite, configured, bits_lens, bits_class, bits_event, if_pos hn, hc, he, if_true]

/-- A reserved CLASS, and an EVENT that the class kept does not have, leave their fields (00 R9). -/
theorem perfCfgWrite_keeps {old : Counter} (ho : (tget d.perf.counters n).getD {} = old) (hc : 11 ≤ v.toNat / 256 % 256)
    (he : eventsOf old.cls ≤ v.toNat % 256) :
    perfCfgWrite n v d = { d with perf.counters := tput d.perf.counters n (configured v old.cls old.event) } := by
  subst ho
  simp only [perfCfgWrite, configured, bits_lens, bits_class, bits_event, if_pos hn, Nat.not_lt.mpr hc, Nat.not_lt.mpr he, if_false]

end

theorem tget_occur {d : Dev} {n : Nat} {c : Counter} (hc : tget d.perf.counters n = some c) (cls event k : Nat) (a : Attr) :
    tget (occur cls event k a d).perf.counters n = some (
      if c.enable = true ∧ c.cls = cls ∧ c.event = event ∧ (c.lens = 0 ∨ lensMatch ((tget d.perf.lens c.lens).getD 0) a = true) then
        addCount k c else c) := by
  simp only [occur, tget_tall, hc, Option.map_some, Bool.and_eq_true, Bool.or_eq_true, beq_iff_eq, and_assoc]

/-! ## Samplers (10 R337, R338) -/

theorem depthBin_eq (n : Nat) :
    depthBin n = if n = 0 then 0 else if n < 512 then 1 else if 4194304 ≤ n then 15 else Nat.log2 (n / 512) + 2 := by
  unfold depthBin
  split
  next => rfl
  next =>
    split
    next => rfl
    next hn =>
      have hq : n / 512 ≠ 0 := by omega
      split
      next hbig =>
        have : 13 ≤ Nat.log2 (n / 512) := (Nat.le_log2 hq).mpr (by omega)
        omega
      next hsmall =>
        have : Nat.log2 (n / 512) < 13 := (Nat.log2_lt hq).mpr (by omega)
        omega

/-- A sampler after it takes one sample of its queues in `d`. -/
def takeSample (d : Dev) (x : Sampler) : Sampler :=
  let depth := lsum (sampled d x) (·.len)
  let delay := elapsed d - oldestHead d x
  { x with samples := satAdd 32 x.samples 1
           maxDepth := max x.maxDepth (min depth (2 ^ 32 - 1))
           maxDelay := max x.maxDelay (min delay (2 ^ 32 - 1))
           depth := modNth x.depth (depthBin depth) (fun c => satAdd 32 c 1)
           delay := modNth x.delay (delayBin (sampled d x).isEmpty delay) (fun c => satAdd 32 c 1) }

/-- A sampler enabled anew: its settings, and every RO field zero. -/
def startSampler (x : Sampler) : Sampler :=
  { enable := true, kind := x.kind, link := x.link, cls := x.cls, cove := x.cove, intervalUs := x.intervalUs }

section
variable {d : Dev} {i : Nat} {x : Sampler} (hx : tget d.sched.samplers i = some x)
include hx

theorem samplerTick_takes (he : x.enable = true) (hi : x.intervalUs ≠ 0) :
    samplerTick i d = { d with sched.samplers := tput d.sched.samplers i (takeSample d x) } := by
  simp only [samplerTick, takeSample, hx, he, hi, ne_eq, not_false_eq_true, and_self, if_true]

theorem samplerTick_rests (h : x.enable = false ∨ x.intervalUs = 0) : samplerTick i d = d := by
  have off : ¬ (x.enable = true ∧ x.intervalUs ≠ 0) := fun ⟨he, hi⟩ => h.elim (fun hf => by simp [hf] at he) hi
  simp only [samplerTick, hx, if_neg off]

variable (hi : i < 256) {v : Byte}
include hi

theorem samplerCtrl_starts (hv : v.getLsbD 0 = true) (he : x.enable = false) :
    samplerCtrl i v d = { d with sched.samplers := tput d.sched.samplers i (startSampler x) } := by
  simp only [samplerCtrl, startSampler, if_pos hi, hx, Option.getD_some, hv, he, Bool.not_false, and_self, if_true]

/-- A write that does not set ENABLE anew writes ENABLE alone. -/
theorem samplerCtrl_writes (h : v.getLsbD 0 = false ∨ x.enable = true) :
    samplerCtrl i v d = { d with sched.samplers := tput d.sched.samplers i { x with enable := v.getLsbD 0 } } := by
  have stays : ¬ (v.getLsbD 0 = true ∧ (!x.enable) = true) := by
    rintro ⟨hv, he⟩
    rcases h with hoff | hon
    · exact ne_true_of_eq_false hoff hv
    · simp [hon] at he
  simp only [samplerCtrl, if_pos hi, hx, Option.getD_some, if_neg stays]

end

theorem exec_samplerTick (i : Nat) (s : State) : Gives (.samplerTick i) s (samplerTick i s.dev) := rfl

end Sys2Proof.Machine

open Sys2Proof Sys2Proof.Machine

/-- Settles O10: clause by clause, from the lemmas on a write of an open block, the counters, the bins and the samplers. -/
theorem countersAndSamplers : Obligations.CountersAndSamplers := by
  refine ⟨fun s v n ho => ⟨fun hv => ?_, fun hv => ?_, fun hn hc he => ?_, fun hn hc he => ?_, fun x h1 h2 => ?_, fun x => ?_,
    fun cls event k a c hc => tget_occur hc cls event k a⟩, fun s i x hi hx => ⟨fun he hu => ?_, fun h => ?_,
    fun v ho => ⟨fun hv he => ?_, fun hv he => ?_, fun hv => ?_⟩, depthBin_eq⟩⟩
  · exact gives_whenReg ho rfl (if_pos hv)
  · exact gives_whenReg ho rfl (if_neg (ne_true_of_eq_false hv))
  · exact gives_whenReg ho rfl (perfCfgWrite_takes hn hc he)
  · exact gives_whenReg ho rfl (perfCfgWrite_keeps hn rfl hc he)
  · exact gives_onTable ho rfl (if_neg (by omega))
  · exact gives_onTable ho rfl (if_pos (Or.inl rfl))
  · exact (exec_samplerTick i s).trans (by rw [samplerTick_takes hx he hu]; rfl)
  · exact (exec_samplerTick i s).trans (by rw [samplerTick_rests hx h])
  · exact gives_onTable ho rfl (samplerCtrl_starts hx hi hv he)
  · exact gives_onTable ho rfl (by rw [samplerCtrl_writes hx hi (Or.inr he), hv, ← he])
  · exact gives_onTable ho rfl (by rw [samplerCtrl_writes hx hi (Or.inl hv), hv])
end

section
/-! Proofs about Set and Get Features (05 R161, 07 R213, R215, R219, R227, R232, R233, R241, 17 R482), and from them the statement O36. -/

namespace Sys2Proof.Machine

/-! ## An admin command of a controller in use -/

/-- A controller `c` of a host is enabled and has not ended, with the record `k`. -/
structure InUse (d : Dev) (c : Nat) (k : Ctrl) : Prop where
  host : c ≠ 0
  found : ctrlOf d c = some k
  enabled : k.enabled = true
  live : k.ended = false

section
variable {d : Dev} {c : Nat} {k : Ctrl} (h : InUse d c k)
include h

/-- A command open to every Cove runs. -/
theorem admin_inUse {w : Who} (hw : w ≠ .cove0) (cid : Nat) (f : Dev → Dev) : admin c cid w f d = f d := by
  simp only [admin, if_neg h.host, h.found, h.enabled, h.live, hw, Bool.not_true, Bool.false_eq_true, or_self, false_and, if_false]

/-- What a Get reads of its controller is the field of its record. -/
theorem field_inUse {α : Type} (f : Ctrl → α) (x : α) : ((ctrlOf d c).map f).getD x = f k := by
  rw [h.found, Option.map_some, Option.getD_some]

theorem ctrlCove_inUse : ctrlCove d c = k.cove := field_inUse h (·.cove) 0

end

/-- A command of a controller in use changes the device as its effect does. -/
theorem runs_inUse {s : State} {c cid : Nat} {k : Ctrl} (h : InUse s.dev c k) {i : Instr} {w : Who} {f : Dev → Dev} {e : Dev}
    (hi : exec i s = onMbox s (admin c cid w f)) (hf : f s.dev = e) (hw : w ≠ .cove0 := by decide) : Runs i s e := by
  rw [Runs, hi, onMbox_eq, admin_inUse h hw, hf]

/-! ## Event log control (17 R482) -/

theorem bit_one_lor_two (v : Nat) : bit (Nat.lor v 2) 1 = true := by
  change (v ||| 2).testBit 1 = true
  rw [Nat.testBit_or, Nat.testBit_two_pow_self (n := 1), Bool.or_true]

theorem bit_zero_lor_one (v : Nat) : bit (Nat.lor v 1) 0 = true := by
  change (v ||| 1).testBit 0 = true
  rw [Nat.testBit_or, Nat.testBit_one_zero, Bool.or_true]

theorem bit_one_lor_one {v : Nat} (hv : v % 4 / 2 = 0) : bit (Nat.lor v 1) 1 = false := by
  have clear : v.testBit 1 = false := by
    rw [Nat.testBit_eq_decide_div_mod_eq, decide_eq_false_iff_not]
    omega
  change (v ||| 1).testBit 1 = false
  rw [Nat.testBit_or, clear]
  rfl

/-- A request's own bit takes no value of CDW11 into the range or out of it. -/
theorem four_le_lor {m : Nat} (hm : m < 4) (v : Nat) : 4 ≤ Nat.lor v m ↔ 4 ≤ v := by
  constructor
  · intro hle
    by_contra hv
    have small : v ||| m < 2 ^ 2 := Nat.or_lt_two_pow (Nat.lt_of_not_le hv) hm
    exact absurd hle (Nat.not_le.mpr small)
  · exact fun hv => hv.trans Nat.left_le_or

/-- The effect of Set Features C2h on a controller of Cove 0, and on any other. -/
def eventLogEffect (c cid cdw11 : Nat) (d : Dev) : Dev :=
  if ctrlCove d c ≠ 0 ∨ 4 ≤ cdw11 then badField c cid d
  else succeed c cid (if bit cdw11 1 then clearEvents 1 d else if bit cdw11 0 then requestFlush d else d)

theorem exec_eventLogControlClear (c cid v : Nat) (s : State) :
    exec (.eventLogControlClear c cid v) s = onMbox s (admin c cid .hosts (eventLogEffect c cid (Nat.lor v 2))) := rfl

theorem exec_eventLogControlFlush (c cid v : Nat) (s : State) :
    exec (.eventLogControlFlush c cid v) s = onMbox s (admin c cid .hosts (eventLogEffect c cid (Nat.lor v 1))) := rfl

section
variable {d : Dev} {c : Nat} {k : Ctrl} (h : InUse d c k) (cid : Nat) {v : Nat}
include h

theorem eventLogEffect_refused {m : Nat} (hm : m < 4) (hbad : k.cove ≠ 0 ∨ 4 ≤ v) :
    eventLogEffect c cid (Nat.lor v m) d = badField c cid d := by
  have bad : ctrlCove d c ≠ 0 ∨ 4 ≤ Nat.lor v m := by rwa [ctrlCove_inUse h, four_le_lor hm]
  exact if_pos bad

theorem eventLogEffect_permitted {m : Nat} (hm : m < 4) (hk : k.cove = 0) (hv : v < 4) :
    eventLogEffect c cid (Nat.lor v m) d = succeed c cid
      (if bit (Nat.lor v m) 1 then clearEvents 1 d else if bit (Nat.lor v m) 0 then requestFlush d else d) := by
  have good : ¬ (ctrlCove d c ≠ 0 ∨ 4 ≤ Nat.lor v m) := by
    rw [ctrlCove_inUse h, four_le_lor hm]
    omega
  exact if_neg good

theorem eventLogEffect_clears (hk : k.cove = 0) (hv : v < 4) :
    eventLogEffect c cid (Nat.lor v 2) d = succeed c cid (clearEvents 1 d) := by
  rw [eventLogEffect_permitted h cid (by decide) hk hv, if_pos (bit_one_lor_two v)]

theorem eventLogEffect_flushes (hk : k.cove = 0) (hv : v < 4) (hc : v % 4 / 2 = 0) :
    eventLogEffect c cid (Nat.lor v 1) d = succeed c cid (requestFlush d) := by
  rw [eventLogEffect_permitted h cid (by decide) hk hv, if_neg (ne_true_of_eq_false (bit_one_lor_one hc)), if_pos (bit_zero_lor_one v)]

end

/-! ## Power states (07 R232, R233) -/

/-- PS3 is entered later. -/
theorem setPower_ps3 (d : Dev) : setPower 3 d = { d with host.ps3Wanted := true } := rfl

theorem setPower_operational {ps : Nat} (h : ps < 3) (d : Dev) :
    (setPower ps d).host.power = ps ∧ (setPower ps d).host.lastOperational = ps := by
  rw [setPower, if_neg (Nat.ne_of_lt h), judgeService_host]
  exact ⟨rfl, rfl⟩

theorem exec_ps3Enter (s : State) : Gives .ps3Enter s
    (if ps3Ready s.dev then { s.dev with host.power := 3, host.ps3Wanted := false } else s.dev) := rfl

/-! ## Each feature's commands -/

section
variable {s : State} {c : Nat} {k : Ctrl} (h : InUse s.dev c k) (cid v : Nat)
include h

/-- Number of Queues (R219): 65,535 is out of range for both counts, and a set comes before the first I/O queue. -/
theorem setNumberOfQueues_runs (w : Nat) :
    let n := min (min v w + 1) ((coveCfg s.dev k.cove).qpQuota - 1)
    (v < 65535 → w < 65535 → sqsOf s.dev c = [] → Runs (.setFeaturesNumberOfQueues c cid v w) s
      (answerAdmin c cid ok (queuesDw0 n) (modCtrl c (fun x => { x with nQueues := n }) s.dev)))
    ∧ (65535 ≤ v ∨ 65535 ≤ w → Runs (.setFeaturesNumberOfQueues c cid v w) s (badField c cid s.dev))
    ∧ (v < 65535 → w < 65535 → sqsOf s.dev c ≠ [] → Runs (.setFeaturesNumberOfQueues c cid v w) s
      (answerAdmin c cid (gen 0x0C) 0 s.dev)) := by
  refine ⟨fun hv hw hq => ?_, fun hbad => ?_, fun hv hw hq => ?_⟩
  · exact runs_inUse h rfl (by rw [if_neg (by omega), if_neg (by simp [hq]), ctrlCove_inUse h])
  · exact runs_inUse h rfl (if_pos hbad)
  · exact runs_inUse h rfl (by rw [if_neg (by omega), if_pos (by simp [hq])])

/-- Power Management (R232): POWER_AUTH of the Cove permits it, and PS3 is the last state. -/
theorem setPowerManagement_runs :
    (bit (coveCfg s.dev k.cove).flags 0 = true →
      (v ≤ 3 → Runs (.setFeaturesPowerManagement c cid v) s (succeed c cid (setPower v s.dev)))
      ∧ (3 < v → Runs (.setFeaturesPowerManagement c cid v) s (badField c cid s.dev)))
    ∧ (bit (coveCfg s.dev k.cove).flags 0 = false →
      Runs (.setFeaturesPowerManagement c cid v) s (answerAdmin c cid (gen 0x15) 0 s.dev)) := by
  refine ⟨fun auth => ⟨fun hv => ?_, fun hv => ?_⟩, fun auth => ?_⟩
  · exact runs_inUse h rfl (by rw [ctrlCove_inUse h, if_neg (by simp [auth]), if_neg (by omega)])
  · exact runs_inUse h rfl (by rw [ctrlCove_inUse h, if_neg (by simp [auth]), if_pos hv])
  · exact runs_inUse h rfl (by rw [ctrlCove_inUse h, if_pos (by simp [auth])])

variable {nsid : Nat} {n : Ns} (hn : tget s.dev.host.nss nsid = some n) (ha : attached s.dev c nsid = true)
include hn ha

theorem getWriteProtection_runs : Runs (.getFeaturesWriteProtection c cid nsid) s (answerAdmin c cid ok n.writeProtect s.dev) :=
  runs_inUse h rfl (by simp only [hn, if_pos ha])

/-- Write Protection (R215): the state asked for is in range; that in force asks for nothing; protection until a power cycle, or
for good, stays. -/
theorem setWriteProtection_runs :
    (n.writeProtect = v → v ≤ 3 → Runs (.setFeaturesWriteProtection c cid nsid v) s (succeed c cid s.dev))
    ∧ (3 < v → Runs (.setFeaturesWriteProtection c cid nsid v) s (badField c cid s.dev))
    ∧ (v ≤ 3 → n.writeProtect < 2 → n.writeProtect ≠ v → Runs (.setFeaturesWriteProtection c cid nsid v) s
        (succeed c cid (writeProtect nsid v s.dev)))
    ∧ (v ≤ 3 → 2 ≤ n.writeProtect → n.writeProtect ≠ v → Runs (.setFeaturesWriteProtection c cid nsid v) s
        (answerAdmin c cid (cmdSpec 0x0E) 0 s.dev)) := by
  have here : ¬ (!attached s.dev c nsid) = true := by simp [ha]
  refine ⟨fun he hv => ?_, fun hv => ?_, fun hv hlow hne => ?_, fun hv hhigh hne => ?_⟩
  · exact runs_inUse h rfl (by simp only [hn, if_neg here, if_neg (Nat.not_lt.mpr hv), if_pos he])
  · exact runs_inUse h rfl (by simp only [hn, if_neg here, if_pos hv])
  · exact runs_inUse h rfl (by simp only [hn, if_neg here, if_neg (Nat.not_lt.mpr hv), if_neg hne, if_neg (Nat.not_le.mpr hlow)])
  · exact runs_inUse h rfl (by simp only [hn, if_neg here, if_neg (Nat.not_lt.mpr hv), if_neg hne, if_pos hhigh])

end

end Sys2Proof.Machine

open Sys2Proof Sys2Proof.Machine

/-- Settles O36: every command is its effect on a controller in use; then feature by feature. -/
theorem features : Obligations.Features := by
  intro s c cid v k d done bad dw0 hc hk he hl
  have h : InUse s.dev c k := ⟨hc, hk, he, hl⟩
  obtain ⟨authorised, unauthorised⟩ := setPowerManagement_runs h cid v
  refine ⟨-- ASN Reporting and Host Behavior
    fun hv => ⟨runs_inUse h rfl (if_neg (by omega)), runs_inUse h rfl (if_neg (by omega))⟩,
    fun hv => ⟨runs_inUse h rfl (if_pos hv), runs_inUse h rfl (if_pos hv)⟩,
    runs_inUse h rfl (by rw [field_inUse h]; rfl), runs_inUse h rfl (by rw [field_inUse h]; rfl),
    -- Asynchronous Event Configuration, Keep Alive Timer and Keep Alive
    runs_inUse h rfl rfl, runs_inUse h rfl (by rw [field_inUse h]),
    runs_inUse h rfl rfl, runs_inUse h rfl (by rw [field_inUse h]), runs_inUse h rfl rfl,
    -- Number of Queues
    setNumberOfQueues_runs h cid v, runs_inUse h rfl (by rw [field_inUse h]),
    -- Power Management
    authorised, unauthorised, runs_inUse h rfl rfl,
    -- Write Protection
    fun nsid n hn ha => ⟨getWriteProtection_runs h cid hn ha, setWriteProtection_runs h cid v hn ha⟩,
    -- Event Log Control
    fun hk0 hv => ⟨runs_inUse h (exec_eventLogControlClear c cid v s) (eventLogEffect_clears h cid hk0 hv),
      fun hb => runs_inUse h (exec_eventLogControlFlush c cid v s) (eventLogEffect_flushes h cid hk0 hv hb)⟩,
    fun hbad => ⟨runs_inUse h (exec_eventLogControlClear c cid v s) (eventLogEffect_refused h cid (by decide) hbad),
      runs_inUse h (exec_eventLogControlFlush c cid v s) (eventLogEffect_refused h cid (by decide) hbad)⟩,
    runs_inUse h rfl rfl,
    -- Lost Range
    runs_inUse h rfl rfl,
    -- the entry into PS3
    fun _ => ⟨fun hr => ?_, fun hr => ?_⟩, congrArg (·.host.power) (setPower_ps3 d), fun hv => setPower_operational hv d⟩
  · exact (exec_ps3Enter s).trans (by rw [if_pos hr])
  · exact (exec_ps3Enter s).trans (by rw [if_neg (ne_true_of_eq_false hr)])
end

section
/-! Proofs of the statements on every step (O2, O3): each command answers, leaves the queue alone and keeps the canonical form of memory.
Only a few operations write memory; each has a lemma here, and the rest of the commands change the device alone. -/

namespace Sys2Proof.Machine

/-! ## The operations that write memory keep its canonical form -/

theorem ite_wf {c : Prop} [Decidable c] {p q : Memory} (hp : p.wf = true) (hq : q.wf = true) : (if c then p else q).wf = true := by
  split
  · exact hp
  · exact hq

theorem ite_pair_wf {c : Prop} [Decidable c] {p q : Dev × Memory} (hp : p.2.wf = true) (hq : q.2.wf = true) :
    (if c then p else q).2.wf = true := by
  split
  · exact hp
  · exact hq

section
variable {m : Memory} (h : m.wf = true) (d : Dev)
include h

theorem settleLayout_wf (j l : Nat) : (settleLayout j l d m).2.wf = true := by
  unfold settleLayout
  extract_lets
  split_ifs
  · exact h
  · exact moveImages_wf d _ h
  · exact h

theorem writeImage_wf (i : Nat) (b : List Byte) : (writeImage i b d m).2.wf = true := mputs_wf _ _ h

theorem takeExport_wf (c : Nat) : (takeExport c d m).2.wf = true := by
  have kept : ∀ (slot : Option Nat) (b : List Byte) (e : Dev),
      (match slot with | some i => writeImage i b e m | none => (e, m)).2.wf = true := by
    rintro (_ | i) b e
    · exact h
    · exact writeImage_wf h e i b
  unfold takeExport
  split
  · exact h
  · dsimp only
    split
    · exact h
    · split <;> exact kept _ _ _

theorem beginExport_wf (c : Nat) : (beginExport c d m).2.wf = true := by
  unfold beginExport
  split
  · exact takeExport_wf h d c
  · exact h

theorem imageExport_wf (c cid v : Nat) (k : Bool) : (imageExport c cid v k d m).2.wf = true := by
  unfold imageExport
  extract_lets
  split
  · exact beginExport_wf h _ v
  · exact h

theorem exportByCtrl_wf (c : Nat) : (exportByCtrl c d m).2.wf = true := by
  unfold exportByCtrl
  split
  · exact beginExport_wf h _ c
  · exact h

/-! ### The Chart engine -/

theorem startSlot_wf : (startSlot d m).2.wf = true := mclear_wf _ _ h

theorem endSlot_wf (ok : Bool) : (endSlot ok d m).2.wf = true := by
  unfold endSlot
  extract_lets
  split
  · exact writeChartSlot_wf d _ _ h
  · exact mclear_wf _ _ h

theorem startCommit_wf : (startCommit d m).2.wf = true := startSlot_wf h _

theorem partnerAnswer_wf (p : Option Bool) : (partnerAnswer p d m).2.wf = true := by
  unfold partnerAnswer
  split
  · exact h
  · exact h
  · dsimp only
    split
    · exact startCommit_wf h _
    · exact h

theorem checkDone_wf (p : Option Bool) : (checkDone p d m).2.wf = true := by
  unfold checkDone
  split
  · split
    · exact h
    · exact partnerAnswer_wf h _ p
  · split
    · exact partnerAnswer_wf h _ p
    · exact h
  · exact h

theorem chartStore_wf (v : Reg) : (chartStore v d m).2.wf = true := by
  unfold chartStore
  extract_lets
  split
  · exact h
  · split
    · exact h
    · split
      · exact h
      · exact startSlot_wf h _

theorem storeDone_wf (ok : Bool) : (storeDone ok d m).2.wf = true := by
  have slot := endSlot_wf h d ok
  unfold storeDone
  dsimp only
  split
  · exact h
  · split_ifs <;> exact slot

theorem chartCommit_wf (v : Reg) : (chartCommit v d m).2.wf = true := by
  unfold chartCommit
  split_ifs
  · exact h
  · exact h
  · exact h
  · exact startCommit_wf h d

theorem resumeCommit_wf : (resumeCommit d m).2.wf = true := by
  unfold resumeCommit
  split
  · exact startCommit_wf h d
  · exact h

theorem readbackDone_wf (ok : Bool) : (readbackDone ok d m).2.wf = true := by
  have slot := endSlot_wf h d ok
  unfold readbackDone
  dsimp only
  split
  · exact h
  · split <;> exact slot

theorem chartArrived_wf (g : Img) (n : Nat) : (chartArrived g n d m).2.wf = true := by
  unfold chartArrived
  extract_lets
  split
  · split
    · exact h
    · split
      · exact h
      · exact startCommit_wf h _
  · split
    · exact h
    · split
      · exact h
      · exact startSlot_wf h _

theorem chartChunk_wf (o : Nat) (last : Bool) (b : List Byte) : (chartChunk o last b d m).2.wf = true := by
  unfold chartChunk
  extract_lets
  split_ifs
  all_goals first | exact h | exact chartArrived_wf h _ _ _

/-! ### The pair -/

theorem abandonPairing_wf : (abandonPairing d m).2.wf = true := resumeCommit_wf h _

theorem heartbeatMissed_wf : (heartbeatMissed d m).2.wf = true := by
  unfold heartbeatMissed
  extract_lets
  split_ifs
  · exact h
  · exact abandonPairing_wf h _
  · exact h
  · exact h

theorem linkDown_wf : (linkDown d m).2.wf = true := by
  unfold linkDown
  extract_lets
  split
  · exact abandonPairing_wf h _
  · exact h

theorem replayFrom_wf (l : Nat) : (replayFrom l d m).2.wf = true := by
  unfold replayFrom
  extract_lets
  split
  · exact h
  · split
    · exact linkDown_wf h _
    · exact h

theorem putUnit_wf (p u x : Nat) : (putUnit p u x d m).2.wf = true := by
  have stored : (mputs m (pageAddr p + 64 * u) (leBytes x 64)).wf = true := mputs_wf _ _ h
  unfold putUnit
  extract_lets
  split
  · exact h
  · split_ifs <;> exact h
  · exact h
  · generalize mputs m (pageAddr p + 64 * u) (leBytes x 64) = m' at stored
    exact stored
  · exact h

theorem tryPair_wf : (tryPair d m).2.wf = true := by
  unfold tryPair
  split
  · exact h
  · split
    · exact h
    · split
      · exact h
      · extract_lets
        split <;> exact h

theorem chartTaken_wf : (chartTaken d m).2.wf = true := by
  unfold chartTaken
  extract_lets
  split
  · exact h
  · split
    · exact h
    · split
      · split
        · exact h
        · exact tryPair_wf h _
      · exact h

theorem chartStored_wf (ok : Bool) : (chartStored ok d m).2.wf = true := by
  have store := storeDone_wf h d ok
  unfold chartStored
  extract_lets
  split
  · exact chartTaken_wf store _
  · exact store

theorem chartSwitched_wf : (chartSwitched d m).2.wf = true := by
  unfold chartSwitched
  extract_lets
  split
  · exact chartTaken_wf h _
  · exact h

theorem settlePair_wf (seen : Bool) : (settlePair seen d m).2.wf = true := by
  unfold settlePair
  extract_lets
  split
  · exact h
  · split
    · exact tryPair_wf h _
    · split
      · exact h
      · split
        · exact h
        · split
          · exact h
          · exact tryPair_wf h _

theorem replayComplete_wf : (replayComplete d m).2.wf = true := by
  unfold replayComplete
  split
  · exact h
  · extract_lets e
    have settled : e.2.wf = true := ite_pair_wf h (settleLayout_wf h d _ _)
    split <;> exact tryPair_wf settled _

theorem hello_wf (x : Hello) : (hello x d m).2.wf = true := by
  unfold hello
  extract_lets
  split
  · exact h
  · split
    · exact settlePair_wf h _ true
    · exact tryPair_wf h _

theorem linkUp'_wf (n : Nat) : (linkUp' n d m).2.wf = true := by
  unfold linkUp'
  extract_lets
  split
  · exact h
  · split <;> exact h

theorem updateSelf_wf : (updateSelf d m).2.wf = true := by
  unfold updateSelf
  extract_lets
  split
  · exact h
  · split
    · exact h
    · exact writeFwSlot_wf d _ _ h

theorem swapGiven_wf : (swapGiven d m).2.wf = true := by
  unfold swapGiven
  extract_lets
  split_ifs
  · exact h
  · exact updateSelf_wf h _
  · exact h

/-! ### Firmware, the Data Port and the registers -/

theorem storeDownload_wf (k : Nat) : (storeDownload k d m).2.wf = true := writeFwSlot_wf d k _ h

theorem activateSolo_wf (k c cid : Nat) : (activateSolo k c cid d m).2.wf = true := ite_pair_wf h (storeDownload_wf h d k)

theorem writeUnit_wf (a : Nat) (b : List Byte) : (writeUnit a b d m).2.wf = true := by
  unfold writeUnit
  extract_lets
  split
  · exact mputs_wf _ _ h
  · exact mputs_wf _ _ h
  · exact mputs_wf _ _ h
  · exact mputs_wf _ _ h
  · exact h

theorem accessWrite_wf (a : Nat) (b : List Byte) : (accessWrite a b d m).2.wf = true := by
  unfold accessWrite
  extract_lets
  split
  · exact h
  · exact writeUnit_wf h d a b

theorem writeDpUnit_wf (b : List Byte) : (writeDpUnit b d m).2.wf = true := by
  unfold writeDpUnit
  extract_lets
  split
  · exact h
  · exact accessWrite_wf h _ _ b

theorem dpDataWrite_wf (v : Reg) : (dpDataWrite v d m).2.wf = true := by
  unfold dpDataWrite
  extract_lets
  split
  · exact h
  · split
    · exact h
    · split
      · exact h
      · exact writeDpUnit_wf h d _

end

theorem putUnits_wf (p : Nat) (xs : List Nat) : ∀ (u : Nat) (d : Dev) {m : Memory}, m.wf = true → (putUnits p u xs d m).2.wf = true := by
  induction xs with
  | nil => exact fun _ _ _ h => h
  | cons x xs ih => exact fun u d _ h => ih (u + 1) _ (putUnit_wf h d p u x)

theorem settleUnits_wf (p o : Nat) (xs : List Nat) (d : Dev) {m : Memory} (h : m.wf = true) : (settleUnits p o xs d m).2.wf = true := by
  unfold settleUnits
  split
  · exact putUnits_wf p xs o _ h
  · exact h

theorem writeUnits_wf (n : Nat) : ∀ (a : Nat) (b : List Byte) (d : Dev) {m : Memory}, m.wf = true → (writeUnits a b n d m).2.wf = true := by
  induction n with
  | zero => exact fun _ _ _ _ h => h
  | succ n ih =>
    intro a b d m h
    unfold writeUnits
    dsimp only
    split
    · exact writeUnit_wf h d _ _
    · exact ih _ _ _ (writeUnit_wf h d _ _)

section
variable {m : Memory} (h : m.wf = true) (d : Dev)
include h

theorem bar2Write_wf (o : Nat) (b : List Byte) : (bar2Write o b d m).2.wf = true := by
  unfold bar2Write
  extract_lets
  split
  · exact h
  · exact ite_pair_wf h (writeUnits_wf _ _ _ _ h)

theorem chartCtrl_wf (v : Reg) : (chartCtrl v d m).2.wf = true := by
  unfold chartCtrl
  split_ifs
  · exact h
  · exact chartStore_wf h d v
  · exact h
  · exact h

theorem chartWrite_wf (o : Nat) (v : Reg) : (chartWrite o v d m).2.wf = true := by
  unfold chartWrite
  split
  · exact chartCtrl_wf h d v
  · exact h
  · exact chartCommit_wf h d v
  · exact h
  · exact h

theorem dportWrite_wf (o : Nat) (v : Reg) : (dportWrite o v d m).2.wf = true := by
  unfold dportWrite
  split
  · exact h
  · exact h
  · exact h
  · exact h
  · exact dpDataWrite_wf h d v
  · exact h

theorem coveCtrlWrite_wf (c : Nat) (v : Reg) : (coveCtrlWrite c v d m).2.wf = true := by
  unfold coveCtrlWrite
  split_ifs
  · exact h
  · exact h
  · exact h
  · exact h
  · exact exportByCtrl_wf h d c

theorem coveWrite_wf (c o : Nat) (v : Reg) : (coveWrite c o v d m).2.wf = true := by
  unfold coveWrite
  split_ifs
  · exact h
  · exact coveCtrlWrite_wf h d c v
  all_goals exact h

theorem regWrite_wf (o : Nat) (v : Reg) : (regWrite o v d m).2.wf = true := by
  unfold regWrite
  extract_lets
  split_ifs
  · exact h
  · exact h
  · exact dportWrite_wf h d _ v
  · exact h
  · exact h
  · exact h
  · exact coveWrite_wf h d _ _ v
  · split
    · exact chartWrite_wf h d _ v
    all_goals exact h

theorem barWriteMbox_wf (o n : Nat) (v : Reg) : (barWriteMbox o n v d m).2.wf = true :=
  placeMbox_wf _ (ite_pair_wf h (regWrite_wf h d o v))

end

/-! ## The outcome of a command -/

/-- An outcome of `s` that answers, leaves the waiting commands alone and keeps the canonical form of memory. -/
def Keeps (s : State) (r : Result) : Prop := ∃ t, r = .next t ∧ t.pending = s.pending ∧ (MemOk s → MemOk t)

section
variable (s : State)

theorem onDev_keeps (f : Dev → Dev) : Keeps s (onDev s f) := ⟨_, rfl, rfl, id⟩

theorem onDevMem_keeps (f : Dev → Memory → Dev) : Keeps s (onDevMem s f) := ⟨_, rfl, rfl, id⟩

theorem onMbox_keeps (f : Dev → Dev) : Keeps s (onMbox s f) := ⟨_, rfl, rfl, placeMbox_wf _⟩

variable {f : Dev → Memory → Dev × Memory} (hf : ∀ {m : Memory}, m.wf = true → ∀ d, (f d m).2.wf = true)
include hf

theorem onBoth_keeps : Keeps s (onBoth s f) := ⟨_, rfl, rfl, fun h => hf h _⟩

theorem onMboxMem_keeps : Keeps s (onMboxMem s f) := onBoth_keeps s fun h d => placeMbox_wf _ (hf h d)

theorem fwCommit_keeps (k c cid : Nat) (check : Dev → Memory → Option Status) : Keeps s (fwCommit k c cid check f s) := by
  refine onMboxMem_keeps s fun h d => ?_
  exact ite_wf (hf h d) h

theorem takeFrame'_wf (x : StraitHdr) {m : Memory} (h : m.wf = true) (d : Dev) : (takeFrame' x f d m).2.wf = true := by
  unfold takeFrame'
  split
  · exact h
  · split
    · exact h
    · exact hf h _

theorem applyMirror_wf (x : StraitHdr) {m : Memory} (h : m.wf = true) (d : Dev) : (applyMirror x f d m).2.wf = true := by
  unfold applyMirror
  split
  · exact hf h d
  · exact h

theorem frame_keeps (x : StraitHdr) : Keeps s (onBoth s (takeFrame' x f)) := onBoth_keeps s (takeFrame'_wf hf x)

end

theorem onFrame_keeps (x : StraitHdr) (f : Dev → Dev) (s : State) : Keeps s (onFrame x f s) := frame_keeps s (fun h _ => h) x

theorem onMirror_keeps (x : StraitHdr) (f : Dev → Dev) (s : State) : Keeps s (onMirror x f s) :=
  frame_keeps s (applyMirror_wf (fun h _ => h) x) x

theorem exec_keeps (c : Instr) (s : State) : Keeps s (exec c s) := by
  cases c
  all_goals dsimp only [exec]
  -- the commands that write memory
  case chartCtrlStore v => exact onBoth_keeps s fun h d => ite_pair_wf (chartStore_wf h d _) h
  case chartCommit v => exact onBoth_keeps s fun h d => ite_pair_wf (chartCommit_wf h d v) h
  case chartCheckDone p => exact onBoth_keeps s fun h d => checkDone_wf h d p
  case chartStoreDone ok => exact onBoth_keeps s fun h d => chartStored_wf h d ok
  case chartReadbackDone ok => exact onBoth_keeps s fun h d => readbackDone_wf h d ok
  case chartSwitchDone => exact onBoth_keeps s chartSwitched_wf
  case heartbeatMissed => exact onBoth_keeps s heartbeatMissed_wf
  case straitLinkDown => exact onBoth_keeps s linkDown_wf
  case straitReplayTimeout => exact onBoth_keeps s fun h d => ite_pair_wf (linkDown_wf h d) h
  case straitLlnak l => exact onBoth_keeps s fun h d => replayFrom_wf h d l
  case straitLinkUp n => exact onBoth_keeps s fun h d => linkUp'_wf h d n
  case pairSettle seen => exact onBoth_keeps s fun h d => ite_pair_wf (settlePair_wf h d seen) h
  case replayComplete => exact onBoth_keeps s replayComplete_wf
  case dpDataWrite v => exact onBoth_keeps s fun h d => dpDataWrite_wf h d v
  case bar2Write o b => exact onBoth_keeps s fun h d => bar2Write_wf h d o b
  case globalMboxDoorbell v => exact onBoth_keeps s fun h d => ite_pair_wf (placeMbox_wf _ h) h
  case registerWrite o n v => exact onBoth_keeps s fun h d => barWriteMbox_wf h d o n v
  case registerLoWrite o v => exact onBoth_keeps s fun h d => barWriteMbox_wf h d o 4 v
  case registerHiWrite o v => exact onBoth_keeps s fun h d => barWriteMbox_wf h d o 4 v
  -- the Strait's frames that write memory
  case straitPage x p tag data ok => exact frame_keeps s (fun h d => ite_pair_wf h (applyMirror_wf (fun h _ => h) x h d)) x
  case straitRegion x p o l =>
    exact frame_keeps s (fun h d => ite_pair_wf (applyMirror_wf (fun h _ => h) x h d)
      (ite_pair_wf (settleUnits_wf p o l d h) (applyMirror_wf (fun h d => putUnits_wf p l o d h) x h d))) x
  case straitConfigChartChunk x o last b =>
    exact frame_keeps s (fun h d => ite_pair_wf (applyMirror_wf (fun h d => chartChunk_wf h d o last b) x h d)
      (ite_pair_wf (chartChunk_wf h d o last b) h)) x
  case straitHello x y => exact frame_keeps s (fun h d => hello_wf h d y) x
  case straitSyncEnd x n => exact frame_keeps s (fun h _ => h) x
  case straitSwapDone x => exact frame_keeps s swapGiven_wf x
  -- Cove images and firmware
  case coveExportTake c => exact onMboxMem_keeps s fun h d => takeExport_wf h d c
  case coveImageExport c cid v k => exact onMboxMem_keeps s fun h d => imageExport_wf h d c cid v k
  case coveCtrlExport c v => exact onMboxMem_keeps s fun h d => ite_pair_wf h (exportByCtrl_wf h d c)
  case mboxCoveImport c k => exact onMboxMem_keeps s fun h _ => h
  case fwActivationResume => exact onMboxMem_keeps s fun h _ => h
  case getLogFirmwareSlot c cid o l => exact onMboxMem_keeps s fun h _ => h
  case firmwareCommitReplace c cid k => exact fwCommit_keeps s (fun h d => by exact storeDownload_wf h d k) k c cid _
  case firmwareCommitReplaceActivate c cid k => exact fwCommit_keeps s (fun h d => by exact storeDownload_wf h d k) k c cid _
  case firmwareCommitActivate c cid k => exact fwCommit_keeps s (fun h _ => h) k c cid _
  case firmwareCommitActivateNow c cid k ok =>
    exact fwCommit_keeps s (fun h d => ite_pair_wf h (activateSolo_wf h d k c cid)) k c cid _
  -- every other command writes at most the mailbox area
  all_goals first
    | exact onDev_keeps s _
    | exact onMbox_keeps s _
    | exact onDevMem_keeps s _
    | exact onFrame_keeps _ _ s
    | exact onMirror_keeps _ _ s

theorem step_keeps (s : State) : ∃ t, step s = .next t ∧ t.pending = s.pending.tail ∧ (MemOk s → MemOk t) := by
  match hp : s.pending with
  | [] =>
    obtain ⟨t, ht, hq, hm⟩ := onMbox_keeps s idleDev
    exact ⟨t, by rw [step, hp]; exact ht, by rw [hq, hp]; rfl, hm⟩
  | c :: rest =>
    obtain ⟨t, ht, hq, hm⟩ := exec_keeps c { s with pending := rest }
    exact ⟨t, by rw [step, hp]; exact ht, hq, hm⟩

end Sys2Proof.Machine

open Sys2Proof Sys2Proof.Machine

/-- Settles O3: from what every step keeps. -/
theorem memoryKept : Obligations.MemoryKept := by
  intro s t hm ht
  obtain ⟨u, hu, -, keep⟩ := step_keeps s
  obtain rfl : t = u := by simpa [ht] using hu
  exact keep hm

/-- Settles O2: from what every command and every step keeps. -/
theorem everyStepAnswers : Obligations.EveryStepAnswers := by
  refine ⟨fun c s => ?_, fun s => ?_⟩
  · obtain ⟨t, ht, hq, -⟩ := exec_keeps c s
    exact ⟨t, ht, hq⟩
  · obtain ⟨t, ht, hq, -⟩ := step_keeps s
    exact ⟨t, ht, hq⟩
end

section
/-! Proofs about BAR0 (18 R495 to R504, 00 R6 to R9): the pairs and their latches (O5). -/

namespace Sys2Proof.Machine

/-- A command that leaves memory as it was makes the device alone. -/
theorem gives_of_makes {c : Instr} {s : State} {x : Dev × Memory} {d : Dev} (h : Makes c s x) (hx : x = (d, s.mem)) : Gives c s d := by
  subst hx; exact h

theorem mhiOpen_of_blocksRead {d : Dev} (h : blocksRead d = true) : mhiOpen d = true := by
  simp only [blocksRead, Bool.and_eq_true] at h
  exact h.1

/-! ## Reads (00 R6, R7) -/

/-- The bytes of a register's value that a read of `n` bytes from its byte `k` returns (00 R6). -/
def lanes (k n x : Nat) : Nat := x / 2 ^ (8 * k) % 2 ^ (8 * min n 4)

theorem lanes_whole (x : Nat) : lanes 0 4 x = x % 2 ^ 32 := by simp [lanes]

/-- A read returns, of what the register's own read returns, the bytes that it addresses. -/
theorem barRead_eq {d : Dev} (h : mhiOpen d = true) (read : Nat → Dev → Memory → Dev) (off n : Nat) (m : Memory) :
    barRead read off n d m = { read (off / 4 * 4) d m with
      readData := lanes (off % 4) n (read (off / 4 * 4) d m).readData } := if_pos h

theorem exec_registerLoRead (o : BarRead) (s : State) :
    Gives (.registerLoRead o) s (barRead loRead o.offset o.nbytes s.dev s.mem) := rfl

theorem exec_registerHiRead (o : BarRead) (s : State) :
    Gives (.registerHiRead o) s (barRead hiRead o.offset o.nbytes s.dev s.mem) := rfl

/-- The offset of a pair's _HI register is aligned. -/
theorem pairAt_aligned {d : Dev} {hi v : Nat} (h : pairAt d hi = some v) : hi % 4 = 0 := by
  unfold pairAt at h
  split_ifs at h <;> omega

theorem within_iff {a b n : Nat} : within a b n = true ↔ b ≤ a ∧ a < b + n := by simp [within]

theorem readReg_open {d : Dev} (h : blocksRead d = true) (f : Dev → Dev) : readReg f d = f d := if_pos h

theorem exec_perfCntLoRead (n : Nat) (s : State) :
    Gives (.perfCntLoRead n) s (readReg (fun d => if n < 2048 then perfCntLoRead n d else { d with readData := 0 }) s.dev) := rfl

section
variable {d : Dev} (hr : blocksRead d = true) (m : Memory)
include hr

theorem loRead_pair {lo v : Nat} (hp : pairAt d (lo + 4) = some v) (hw : within lo 0x104000 0x4000 = false) :
    loRead lo d m = { d with readData := v % 2 ^ 32, mhi.latches := tput d.mhi.latches (lo + 4) (v / 2 ^ 32) } := by
  simp [loRead, hr, hw, hp]

theorem loRead_perfCnt {n : Nat} (hn : n < 2048) : loRead (0x104000 + 8 * n) d m = perfCntLoRead n d := by
  have inside : within (0x104000 + 8 * n) 0x104000 0x4000 = true := within_iff.mpr (by omega)
  have low : (0x104000 + 8 * n) % 8 = 0 := by omega
  have index : (0x104000 + 8 * n - 0x104000) / 8 = n := by omega
  rw [loRead, if_neg (by simp [hr]), if_pos ⟨inside, low⟩, index]

theorem hiRead_latched {hi v x : Nat} (hp : pairAt d hi = some v) (hx : tget d.mhi.latches hi = some x) :
    hiRead hi d m = { d with readData := x, mhi.latches := terase d.mhi.latches hi } := by
  simp [hiRead, hr, hp, hx]

theorem hiRead_live {hi v : Nat} (hp : pairAt d hi = some v) (hx : tget d.mhi.latches hi = none) :
    hiRead hi d m = { d with readData := v / 2 ^ 32 } := by
  simp [hiRead, hr, hp, hx]

end

theorem pairAt_perfCnt (d : Dev) {n : Nat} (hn : n < 2048) : pairAt d (0x104004 + 8 * n) =
    some (((tget d.perf.counters n).getD {}).count % 2 ^ 32 + perfHiVal ((tget d.perf.counters n).getD {}) * 2 ^ 32) := by
  have inside : within (0x104004 + 8 * n) 0x104000 0x4000 = true := within_iff.mpr (by omega)
  have high : (0x104004 + 8 * n) % 8 = 4 := by omega
  have index : (0x104004 + 8 * n - 0x104000) / 8 = n := by omega
  rw [pairAt, if_neg (by omega), if_neg (by omega), if_neg (by omega), if_neg (by omega), if_neg (by omega),
    if_pos ⟨inside, high⟩, index]

theorem pairAt_coveCounter (d : Dev) {c k : Nat} {r : CoveRec} (hc : c < 4096) (hk : k < 16) (ht : tget d.cove.tab c = some r) :
    pairAt d (0x1000000 + 4096 * c + 0x104 + 8 * k) = some (nth r.counters k 0 % 2 ^ 64) := by
  have outside : within (0x1000000 + 4096 * c + 0x104 + 8 * k) 0x104000 0x4000 = false := by
    simp only [within, Bool.and_eq_false_iff, decide_eq_false_iff_not]; omega
  have page : inCovePages (0x1000000 + 4096 * c + 0x104 + 8 * k) = true := within_iff.mpr (by unfold covePages; omega)
  have cove : (0x1000000 + 4096 * c + 0x104 + 8 * k - covePages) / 4096 = c := by unfold covePages; omega
  have low : (0x1000000 + 4096 * c + 0x104 + 8 * k) % 4096 = 0x104 + 8 * k := by omega
  have index : (0x104 + 8 * k - 0x100) / 8 = k := by omega
  rw [pairAt, if_neg (by omega), if_neg (by omega), if_neg (by omega), if_neg (by omega), if_neg (by omega),
    if_neg (by simp [outside]), cove, low, index, if_pos ⟨page, by omega, by omega, by omega⟩, ht, Option.map_some]

/-! ## What leaves a latch alone -/

/-- From `d` to `e` no pair appears or goes, the blocks stay readable, and the latch of `hi` is as it was. -/
structure LatchKept (hi : Nat) (d e : Dev) : Prop where
  boot : e.boot = d.boot
  cove : e.cove = d.cove
  inReset : e.mhi.inReset = d.mhi.inReset
  restarting : e.mhi.restarting = d.mhi.restarting
  latch : tget e.mhi.latches hi = tget d.mhi.latches hi

namespace LatchKept
variable {hi : Nat} {d e f : Dev}

theorem refl (hi : Nat) (d : Dev) : LatchKept hi d d := ⟨rfl, rfl, rfl, rfl, rfl⟩

theorem trans (h : LatchKept hi d e) (k : LatchKept hi e f) : LatchKept hi d f :=
  ⟨k.boot.trans h.boot, k.cove.trans h.cove, k.inReset.trans h.inReset, k.restarting.trans h.restarting, k.latch.trans h.latch⟩

theorem blocksRead_eq (h : LatchKept hi d e) : blocksRead e = blocksRead d := by
  simp [blocksRead, mhiOpen, coreHeld, h.boot, h.inReset, h.restarting]

theorem pairAt_isSome (h : LatchKept hi d e) (a : Nat) : (pairAt e a).isSome = (pairAt d a).isSome := by
  unfold pairAt
  split_ifs <;> simp [h.cove]

/-- A change of the value returned keeps the latch. -/
theorem withReadData (h : LatchKept hi d e) (x : Nat) : LatchKept hi d { e with readData := x } :=
  ⟨h.boot, h.cove, h.inReset, h.restarting, h.latch⟩

theorem barRead {read : Nat → Dev → Memory → Dev} {o n : Nat} {m : Memory} (h : LatchKept hi d (read (o / 4 * 4) d m)) :
    LatchKept hi d (Machine.barRead read o n d m) := by
  unfold Machine.barRead
  split
  · exact h.withReadData _
  · exact refl hi d

/-- A store under another key keeps the latch. -/
theorem put {k : Nat} (hk : hi ≠ k) (x y : Nat) (d : Dev) :
    LatchKept hi d { d with readData := y, mhi.latches := tput d.mhi.latches k x } := ⟨rfl, rfl, rfl, rfl, tget_tput_ne _ _ hk⟩

end LatchKept

/-- A refusal sets ERR and CODE, fires its vector and records its event. -/
theorem dpRefuse_shape (c a : Nat) (d : Dev) : ∃ e l p o, dpRefuse c a d =
    { d with ev := e, mhi.dpErr := true, mhi.dpCode := c, mhi.lastRefused := l, mhi.msixPending := p, out := o } := by
  have marked : ∃ p o, (if d.mhi.dpErr then d else fire 6 { d with mhi.dpErr := true }) =
      { d with mhi.dpErr := true, mhi.msixPending := p, out := o } := by
    split
    next h => exact ⟨d.mhi.msixPending, d.out, by rw [← h]⟩
    next => exact fire_shape 6 _
  obtain ⟨p, o, h⟩ := marked
  unfold dpRefuse
  rw [h]
  dsimp only
  split
  · obtain ⟨x, p', o', h'⟩ := logEvent_shape 0x12 1 1 (payload a 0 0 0)
      { d with mhi.dpErr := true, mhi.dpCode := c, mhi.msixPending := p, mhi.lastRefused := some (elapsed d), out := o }
    exact ⟨x, _, p', o', h'⟩
  · exact ⟨d.ev, _, p, o, rfl⟩

theorem dpRefuse_latchKept (hi c a : Nat) (d : Dev) : LatchKept hi d (dpRefuse c a d) := by
  obtain ⟨e, l, p, o, h⟩ := dpRefuse_shape c a d
  rw [h]; exact ⟨rfl, rfl, rfl, rfl, rfl⟩

theorem setDpAddr_latchKept (hi a : Nat) (d : Dev) : LatchKept hi d (setDpAddr a d) := by
  unfold setDpAddr
  split <;> exact ⟨rfl, rfl, rfl, rfl, rfl⟩

theorem nextDword_latchKept (hi : Nat) (l : List Nat) (n : Nat) (d : Dev) : LatchKept hi d (nextDword l n d) := by
  have done : ∀ x, LatchKept hi d (unitDone { d with readData := x }) := fun x => by
    unfold unitDone
    extract_lets e
    have dropped : LatchKept hi d e := ⟨rfl, rfl, rfl, rfl, rfl⟩
    split
    · exact dropped.trans (setDpAddr_latchKept hi _ _)
    · exact dropped
  unfold nextDword
  split
  · exact done _
  · exact done _
  · exact ⟨rfl, rfl, rfl, rfl, rfl⟩

theorem readUnit_clean_latchKept (hi a : Nat) (m : Memory) (d : Dev) : LatchKept hi d (readUnit .clean a m d).2 := by
  unfold readUnit
  simp only [openValue, poolRead, occur, if_true]
  split
  · exact ⟨rfl, rfl, rfl, rfl, rfl⟩
  · simp only [reduceCtorEq, if_false]
    split <;> exact ⟨rfl, rfl, rfl, rfl, rfl⟩

theorem readDpUnit_clean_latchKept (hi : Nat) (m : Memory) (d : Dev) : LatchKept hi d (readDpUnit .clean m d).2 := by
  unfold readDpUnit
  extract_lets n
  split
  · exact dpRefuse_latchKept hi _ _ d
  · unfold accessRead
    extract_lets c
    split
    · exact dpRefuse_latchKept hi _ _ d
    · exact readUnit_clean_latchKept hi _ m d

theorem dpDataRead_clean_latchKept (hi : Nat) (d : Dev) (m : Memory) : LatchKept hi d (dpDataRead .clean d m) := by
  unfold dpDataRead
  split
  · exact .refl hi d
  · split
    · exact (LatchKept.refl hi d).withReadData 0 |>.trans (dpRefuse_latchKept hi _ _ _)
    · split
      · exact nextDword_latchKept hi _ _ d
      · exact (readDpUnit_clean_latchKept hi m d).trans (nextDword_latchKept hi _ _ _)

theorem pairStraitRead_latchKept (hi : Nat) (d : Dev) : LatchKept hi d (pairStraitRead d) := ⟨rfl, rfl, rfl, rfl, rfl⟩

theorem bayCurrRead_latchKept (hi n : Nat) (d : Dev) : LatchKept hi d (bayCurrRead n d) := by
  unfold bayCurrRead
  dsimp only
  split <;> exact ⟨rfl, rfl, rfl, rfl, rfl⟩

theorem plainRead_latchKept (hi off : Nat) (d : Dev) (m : Memory) : LatchKept hi d (plainRead off d m) := by
  unfold plainRead
  split_ifs
  · exact (LatchKept.refl hi d).withReadData _
  · exact ⟨rfl, rfl, rfl, rfl, rfl⟩
  · exact ⟨rfl, rfl, rfl, rfl, rfl⟩
  · exact pairStraitRead_latchKept hi d
  · exact bayCurrRead_latchKept hi _ d
  · exact dpDataRead_clean_latchKept hi d m
  · exact (LatchKept.refl hi d).withReadData _

theorem perfCntLoRead_latchKept {hi n : Nat} (h : hi ≠ perfCntHi n) (d : Dev) : LatchKept hi d (perfCntLoRead n d) :=
  ⟨rfl, rfl, rfl, rfl, tget_tput_ne _ _ h⟩

theorem loRead_latchKept {hi off : Nat} (h : hi ≠ off + 4) (d : Dev) (m : Memory) : LatchKept hi d (loRead off d m) := by
  unfold loRead
  split
  · exact plainRead_latchKept hi off d m
  · split
    next hw =>
      obtain ⟨inside, low⟩ := hw
      rw [within_iff] at inside
      exact perfCntLoRead_latchKept (by unfold perfCntHi; omega) d
    next =>
      split
      · exact .put h _ _ d
      · exact plainRead_latchKept hi off d m

theorem hiRead_latchKept {hi off : Nat} (h : hi ≠ off) (d : Dev) (m : Memory) : LatchKept hi d (hiRead off d m) := by
  unfold hiRead
  split
  · exact plainRead_latchKept hi off d m
  · split
    · exact plainRead_latchKept hi off d m
    · split
      · exact ⟨rfl, rfl, rfl, rfl, tget_terase_ne _ h⟩
      · exact (LatchKept.refl hi d).withReadData _

theorem readReg_latchKept {hi : Nat} {f : Dev → Dev} {d : Dev} (h : LatchKept hi d (f d)) : LatchKept hi d (readReg f d) := by
  unfold readReg
  split
  · exact h
  · split
    · exact (LatchKept.refl hi d).withReadData 0
    · exact .refl hi d

/-- A read of a _HI register whose pair stands returns the latch that it holds, and uses it up. -/
theorem registerHiRead_latched {s : State} {hi w : Nat} (hr : blocksRead s.dev = true) (hp : (pairAt s.dev hi).isSome = true)
    (hl : tget s.dev.mhi.latches hi = some w) :
    Leads (.registerHiRead { offset := hi }) s (fun t => t.dev.readData = w % 2 ^ 32 ∧ tget t.dev.mhi.latches hi = none) := by
  obtain ⟨v, hv⟩ := Option.isSome_iff_exists.mp hp
  have aligned := pairAt_aligned hv
  have hoff : hi / 4 * 4 = hi ∧ hi % 4 = 0 := by omega
  refine ⟨_, exec_registerHiRead { offset := hi } s, ?_⟩
  rw [barRead_eq (mhiOpen_of_blocksRead hr), hoff.1, hoff.2, hiRead_latched hr s.mem hv hl, lanes_whole]
  exact ⟨rfl, tget_terase _ _⟩

/-- The reads between the two halves of a pair's read: they leave its latch alone. -/
def ReadsElsewhere (lo : Nat) (c : Instr) : Prop :=
  match c with
  | .registerLoRead o => o.offset / 4 * 4 ≠ lo
  | .registerHiRead o => o.offset / 4 * 4 ≠ lo + 4
  | .dpDataRead e => e = .clean
  | .perfCntLoRead _ | .poolOccupancyRead | .poolEccRead | .pairStraitRead | .bayCurrRead _ => True
  | _ => False

theorem readsElsewhere_latchKept {lo : Nat} {c : Instr} {s t : State} (hc : ReadsElsewhere lo c) (hw : within lo 0x104000 0x4000 = false)
    (h : exec c s = .next t) : LatchKept (lo + 4) s.dev t.dev := by
  unfold ReadsElsewhere at hc
  split at hc
  · cases h
    exact (loRead_latchKept (by omega) s.dev s.mem).barRead
  · cases h
    exact (hiRead_latchKept (Ne.symm hc) s.dev s.mem).barRead
  · cases h
    subst hc
    exact dpDataRead_clean_latchKept (lo + 4) s.dev s.mem
  · cases h
    dsimp only
    refine readReg_latchKept ?_
    split
    next n _ hn =>
      refine perfCntLoRead_latchKept ?_ s.dev
      rw [← Bool.not_eq_true, within_iff] at hw
      unfold perfCntHi
      omega
    next => exact (LatchKept.refl _ _).withReadData 0
  · cases h
    dsimp only
    exact readReg_latchKept ⟨rfl, rfl, rfl, rfl, rfl⟩
  · cases h
    dsimp only
    exact readReg_latchKept ⟨rfl, rfl, rfl, rfl, rfl⟩
  · cases h; exact readReg_latchKept (pairStraitRead_latchKept _ _)
  · cases h; exact readReg_latchKept (bayCurrRead_latchKept _ _ _)
  · exact hc.elim

/-! ## Writes (00 R6 to R9) -/

theorem exec_registerLoWrite (off : Nat) (v : Reg) (s : State) : Makes (.registerLoWrite off v) s (barWriteMbox off 4 v s.dev s.mem) := rfl

theorem exec_registerHiWrite (off : Nat) (v : Reg) (s : State) : Makes (.registerHiWrite off v) s (barWriteMbox off 4 v s.dev s.mem) := rfl

/-- A write of a whole register whose effect is `e` and leaves memory alone. -/
theorem barWriteMbox_eq {off : Nat} {v : Reg} {d e : Dev} {m : Memory} (ho : mhiOpen d = true) (h4 : off % 4 = 0)
    (hlt : off < 0x4000000) (hw : regWrite off v d m = (e, m)) (he : e.mhi.mboxResult = none) :
    barWriteMbox off 4 v d m = (e, m) := by
  have whole : barWrite off 4 v d m = (e, m) := by rw [barWrite, if_neg (by simp [ho]; omega), hw]
  simp only [barWriteMbox, whole, placeMbox_none e m he]

section
variable {d : Dev} (hr : blocksRead d = true) (v : Reg) (m : Memory)
include hr

/-- A write of a DPORT register at offset `o` of its block. -/
theorem regWrite_dport {o : Nat} (ho : o < 65536) : regWrite (0x120000 + o) v d m = dportWrite o v d m := by
  have low : (0x120000 + o) % 65536 = o := by omega
  have block : (0x120000 + o) / 65536 = 18 := by omega
  rw [regWrite, if_neg (by omega), if_neg (by simp [hr]), if_pos block, low]

end

/-- The address that a write of DP_ADDR_HI makes: with the held lower half, or with the live one. -/
def dpAddrJoined (hi : Reg) (d : Dev) : Nat := hi.toNat * 2 ^ 32 + (tget d.mhi.held 0x120004).getD (d.mhi.dpAddr % 2 ^ 32)

theorem dpAddrHi_eq (hi : Reg) (d : Dev) : dpAddrHi hi d =
    { d with mhi.held := terase d.mhi.held 0x120004, mhi.dpUnit := .none, mhi.dpAddr := dpAddrJoined hi d % 2 ^ 64,
             mhi.dpBuffer := if dpAddrJoined hi d % 2 ^ 64 = d.mhi.dpAddr then d.mhi.dpBuffer else none } := by
  unfold dpAddrHi setDpAddr dropUnit dpAddrJoined
  dsimp only
  split
  next h => simp only [h]
  next h => simp only [h, if_false]

section
variable {s : State} (hm : s.dev.mhi.mboxResult = none) (hr : blocksRead s.dev = true)
include hm hr

theorem registerHiWrite_dpAddr (hi : Reg) : Gives (.registerHiWrite 0x120004 hi) s (dpAddrHi hi s.dev) := by
  refine gives_of_makes (exec_registerHiWrite _ hi s) ?_
  exact barWriteMbox_eq (mhiOpen_of_blocksRead hr) (by decide) (by decide) (regWrite_dport hr hi s.mem (o := 4) (by decide))
    (by rw [dpAddrHi_eq]; exact hm)

theorem registerLoWrite_dpAddr (lo : Reg) : Gives (.registerLoWrite 0x120000 lo) s (dpAddrLo lo s.dev) := by
  refine gives_of_makes (exec_registerLoWrite _ lo s) ?_
  exact barWriteMbox_eq (mhiOpen_of_blocksRead hr) (by decide) (by decide) (regWrite_dport hr lo s.mem (o := 0) (by decide)) hm

end

end Sys2Proof.Machine

open Sys2Proof Sys2Proof.Machine

/-- Settles O5: the reads and their latches, what leaves a latch alone, and the writes of DP_ADDR. -/
theorem registerPairs : Obligations.RegisterPairs := by
  refine ⟨⟨fun s lo v k n hr hp hk => ?_, fun s n hn hr => ?_, fun d => ⟨rfl, rfl, rfl, rfl, rfl⟩,
    fun d c k r hc hk ht => pairAt_coveCounter d hc hk ht⟩, fun s t u lo v c hr hp hw ht hc hu => ?_, fun s lo hi hm hr => ⟨?_, fun t ht => ?_⟩⟩
  · -- the reads of a pair
    have aligned := pairAt_aligned hp
    have hoff : (lo + k) / 4 * 4 = lo ∧ (lo + k) % 4 = k ∧ (lo + 4 + k) / 4 * 4 = lo + 4 ∧ (lo + 4 + k) % 4 = k := by omega
    obtain ⟨loReg, loByte, hiReg, hiByte⟩ := hoff
    refine ⟨fun hw => ?_, fun x hx => ?_, fun hx => ?_⟩
    · have e := exec_registerLoRead { offset := lo + k, nbytes := n } s
      rwa [barRead_eq (mhiOpen_of_blocksRead hr), loReg, loByte, loRead_pair hr s.mem hp hw] at e
    · have e := exec_registerHiRead { offset := lo + 4 + k, nbytes := n } s
      rwa [barRead_eq (mhiOpen_of_blocksRead hr), hiReg, hiByte, hiRead_latched hr s.mem hp hx] at e
    · have e := exec_registerHiRead { offset := lo + 4 + k, nbytes := n } s
      rwa [barRead_eq (mhiOpen_of_blocksRead hr), hiReg, hiByte, hiRead_live hr s.mem hp hx] at e
  · -- PERF_CNT
    have hoff : (0x104000 + 8 * n) / 4 * 4 = 0x104000 + 8 * n ∧ (0x104000 + 8 * n) % 4 = 0 := by omega
    refine ⟨?_, ?_, pairAt_perfCnt s.dev hn⟩
    · have e := exec_registerLoRead { offset := 0x104000 + 8 * n } s
      rwa [barRead_eq (mhiOpen_of_blocksRead hr), hoff.1, hoff.2, loRead_perfCnt hr s.mem hn, lanes_whole, perfCntLoRead,
        Nat.mod_mod] at e
    · have e : Gives (.perfCntLoRead n) s _ := exec_perfCntLoRead n s
      rwa [readReg_open hr, if_pos hn] at e
  · -- the latch is kept until it is read
    have aligned := pairAt_aligned hp
    have hoff : lo / 4 * 4 = lo := by omega
    have latched : tget t.dev.mhi.latches (lo + 4) = some (v / 2 ^ 32) ∧ blocksRead t.dev = true ∧ (pairAt t.dev (lo + 4)).isSome = true := by
      cases ht
      show tget (barRead loRead lo 4 s.dev s.mem).mhi.latches _ = _ ∧ blocksRead (barRead loRead lo 4 s.dev s.mem) = _ ∧
        (pairAt (barRead loRead lo 4 s.dev s.mem) _).isSome = _
      rw [barRead_eq (mhiOpen_of_blocksRead hr), hoff, loRead_pair hr s.mem hp hw]
      refine ⟨tget_tput _ _ _, hr, ?_⟩
      have kept : LatchKept 0 s.dev { s.dev with readData := lanes (lo % 4) 4 (v % 2 ^ 32), mhi.latches := tput s.dev.mhi.latches (lo + 4) (v / 2 ^ 32) } :=
        .put (Nat.succ_ne_zero _).symm _ _ _
      rw [kept.pairAt_isSome, hp]
      rfl
    obtain ⟨held, reads, stands⟩ := latched
    have kept := readsElsewhere_latchKept (lo := lo) hc hw hu
    exact registerHiRead_latched (by rw [kept.blocksRead_eq, reads]) (by rw [kept.pairAt_isSome, stands]) (by rw [kept.latch, held])
  · have e := registerHiWrite_dpAddr hm hr hi
    rwa [dpAddrHi_eq] at e
  · -- both halves apply together
    rw [registerLoWrite_dpAddr hm hr lo] at ht
    cases ht
    have held : (tget (dpAddrLo lo s.dev).mhi.held 0x120004).getD ((dpAddrLo lo s.dev).mhi.dpAddr % 2 ^ 32) = lo.toNat := by
      show (tget (tput s.dev.mhi.held 0x120004 lo.toNat) 0x120004).getD _ = _
      rw [tget_tput, Option.getD_some]
    refine ⟨rfl, _, registerHiWrite_dpAddr (s := { s with dev := dpAddrLo lo s.dev }) hm hr hi, ?_⟩
    rw [dpAddrHi_eq]
    refine ⟨?_, tget_terase _ _⟩
    show dpAddrJoined hi (dpAddrLo lo s.dev) % 2 ^ 64 = _
    have hlt := hi.isLt
    have llt := lo.isLt
    rw [dpAddrJoined, held]
    omega
end

section
/-! Proofs about register writes and the mailbox doorbell (O6), and about the reads that clear and the sideband (O7). -/

namespace Sys2Proof.Machine

/-- A device with the mailbox READY, and a memory out of its canonical form: the byte after STATUS is listed behind a higher address,
so that storing STATUS does not reach it. -/
def staleMailbox : State :=
  { dev := { boot := { porstN := true }, mhi := { mboxReady := true } }, mem := [(0x4000500000, 1#8), (0x4000400081, 7#8)] }

/-- An OP that is not listed completes, and the stale byte stays in the STATUS field. -/
theorem staleMailbox_doorbell : ∀ t, exec (.globalMboxDoorbell 0) staleMailbox = .next t → leNum (mgets t.mem 0x4000400080 4) = 1 + 256 * 7 := by
  rintro t h
  cases h
  decide

/-! ## Reads that clear, and the sideband -/

theorem exec_poolOccupancyRead (s : State) : Gives .poolOccupancyRead s
    (readReg (fun d => { d with readData := occupancy d + peakNow d * 65536, pool.peak := 0 }) s.dev) := rfl
theorem exec_poolEccRead (s : State) : Gives .poolEccRead s
    (readReg (fun d => { d with readData := d.pool.corr2 + d.pool.uncorr * 65536, pool.corr2 := 0, pool.uncorr := 0 }) s.dev) := rfl
theorem exec_pairStraitRead (s : State) : Gives .pairStraitRead s (readReg pairStraitRead s.dev) := rfl
theorem exec_bayCurrRead (n : Nat) (s : State) : Gives (.bayCurrRead n) s (readReg (bayCurrRead n) s.dev) := rfl

theorem bayCurrRead_eq {n : Nat} {b : Bay} {d : Dev} (hn : n < 32) (hb : tget d.bay.bays n = some b) : bayCurrRead n d =
    { d with readData := b.current % 65536 + 65536 * (b.peak % 65536), bay.bays := tput d.bay.bays n { b with peak := 0 } } := by
  have here : bayOf d n = b := by rw [bayOf, hb, Option.getD_some]
  simp only [bayCurrRead, if_neg (Nat.not_le.mpr hn), here, setBay, Nat.mul_comm 65536]

/-- While the blocks restart, a read with an effect returns 0 (18 R501). -/
theorem readReg_restarting {d : Dev} (hr : blocksRead d = false) (ho : mhiOpen d = true) (f : Dev → Dev) :
    readReg f d = { d with readData := 0 } := by
  rw [readReg, if_neg (by simp [hr]), if_pos ho]

theorem flagNum_four (a b c d : Bool) : flagNum [a, b, c, d] = b2n a + 2 * b2n b + 4 * b2n c + 8 * b2n d := by
  simp only [flagNum]
  omega

theorem smbRead_eq (w : Nat) (f : Dev → Nat) (known : Dev → Bool) (d : Dev) : smbRead w f known d =
    if d.boot.alwaysOn then { d with readData := if known d then f d % 2 ^ w else 2 ^ w - 1 } else d := by
  unfold smbRead
  cases d.boot.alwaysOn <;> rfl

/-- A word of the core: known while the core is out of reset (18 R515). -/
theorem smbRead_core (w : Nat) (f : Dev → Nat) (d : Dev) : smbRead w f smbCore d =
    if d.boot.alwaysOn then { d with readData := if coreHeld d then 2 ^ w - 1 else f d % 2 ^ w } else d := by
  rw [smbRead_eq, smbCore]
  cases coreHeld d <;> rfl

end Sys2Proof.Machine

open Sys2Proof Sys2Proof.Machine

/-- Refutes O6: the doorbell's last clause is stated of every memory, also one out of its canonical form, where the STATUS read back is
not the one stored. -/
theorem not_registerWrites : ¬ Obligations.RegisterWrites := by
  rintro ⟨-, -, doorbell⟩
  obtain ⟨-, rung⟩ := doorbell staleMailbox 0 (by decide) rfl
  obtain ⟨-, unlisted⟩ := rung rfl rfl
  obtain ⟨t, ht, -, -, -, -, status, -⟩ := unlisted (by decide)
  have stale := staleMailbox_doorbell t ht
  omega

/-- Settles O7: the reads that clear, then word by word the sideband. -/
theorem registerReads : Obligations.RegisterReads := by
  refine ⟨fun s => ⟨fun hr => ⟨?_, ?_, ?_, fun b v hb hv => ?_⟩, fun hr ho c hc => ?_⟩,
    fun s => ⟨?_, ?_, ?_, ?_, ?_, ?_, ?_, ?_, ?_, rfl⟩⟩
  · have e := exec_poolOccupancyRead s
    rwa [readReg_open hr, Nat.mul_comm, peakNow] at e
  · have e := exec_poolEccRead s
    rwa [readReg_open hr, Nat.mul_comm] at e
  · have e := exec_pairStraitRead s
    rwa [readReg_open hr] at e
  · have e := exec_bayCurrRead b s
    rwa [readReg_open hr, bayCurrRead_eq hb hv] at e
  · simp only [List.mem_cons, List.not_mem_nil, or_false] at hc
    obtain rfl | rfl | rfl | rfl := hc
    · exact (exec_poolOccupancyRead s).trans (by rw [readReg_restarting hr ho])
    · exact (exec_poolEccRead s).trans (by rw [readReg_restarting hr ho])
    · exact (exec_pairStraitRead s).trans (by rw [readReg_restarting hr ho])
    · exact (exec_bayCurrRead 0 s).trans (by rw [readReg_restarting hr ho])
  all_goals
    show onDev s _ = _
    rw [onDev_eq]
  · rw [smbRead_core]
    simp only [flagNum_four, bayAlert]
  · exact congrArg _ (by rw [smbRead_core]; rfl)
  · rw [smbRead_core]
  · rw [smbRead_core]
  · rw [smbRead_core]
  · rw [smbRead_core]
  · rw [smbRead_core]
  · rw [smbRead_eq]; rfl
  · rw [smbRead_eq]; rfl
end

section
/-! Proofs about a step's command (O1) and about the state of reset (O4). -/

namespace Sys2Proof.Machine

/-- A bay's registers at reset (16 R471, R472): PERST_N asserted, and nothing else. -/
theorem bayValue_reset {n : Nat} (hn : n < 32) : bayValue State.reset.dev (0x100 + 16 * n) = 0x20000
    ∧ bayValue State.reset.dev (0x104 + 16 * n) = 0 ∧ bayValue State.reset.dev (0x108 + 16 * n) = 0 := by
  have every : ∀ k : Fin 32, bayValue State.reset.dev (0x100 + 16 * k) = 0x20000
      ∧ bayValue State.reset.dev (0x104 + 16 * k) = 0 ∧ bayValue State.reset.dev (0x108 + 16 * k) = 0 := by decide
  exact every ⟨n, hn⟩

/-- No counter is configured at reset, so that PERF_CFG(n) reads 0 (17 R493). -/
theorem perfValue_reset {n : Nat} (hn : n < 2048) : perfValue State.reset.dev (0x8000 + 4 * n) = 0 := by
  rw [perfValue, if_neg (by omega), if_pos (by omega)]
  rfl

end Sys2Proof.Machine

open Sys2Proof Sys2Proof.Machine

/-- Settles O1: a step with a command in front runs it. -/
theorem stepRunsFront : Obligations.StepRunsFront := fun _ _ _ => rfl

/-- Settles O4: register by register. -/
theorem resetState : Obligations.ResetState := by
  refine ⟨rfl, rfl, rfl, by decide, by decide, by decide, by decide, by decide, by decide, by decide, by decide, by decide, by decide, by decide,
    by decide, by decide, by decide, by decide, by decide, by decide, fun n hn => bayValue_reset hn, by decide, fun n hn => perfValue_reset hn,
    rfl, rfl, rfl⟩
end

section
/-! Proofs about the event recorder (17 R473 to R486): how a record enters, is flushed, cleared or lost (O9). -/

namespace Sys2Proof.Machine

theorem setBit_getLsbD {w i : Nat} (h : i < w) (x : BitVec w) : (setBit x i).getLsbD i = true := by
  rw [setBit, BitVec.getLsbD_or, BitVec.getLsbD_ofNat, decide_eq_true h, Nat.testBit_two_pow_self, Bool.and_self, Bool.or_true]

/-! ## Raising EVENT_INT -/

/-- A cause changes, of the recorder, EVENT_INT alone. -/
theorem raiseEvent_ev (i : Nat) (d : Dev) : ∃ a, (raiseEvent i d).ev = { d.ev with int := a } := by
  obtain ⟨a, p, o, h⟩ := raiseEvent_shape i d
  exact ⟨a, by rw [h]⟩

theorem raiseEvent_sets {i : Nat} (hi : i < 6) (d : Dev) : (raiseEvent i d).ev.int.getLsbD i = true := by
  unfold raiseEvent
  split
  next h => exact h
  next => rw [fireIf_ev]; exact setBit_getLsbD hi _

theorem raiseEvent_sets_ev {i : Nat} (hi : i < 6) (d : Dev) : ∃ a, a.getLsbD i = true ∧ (raiseEvent i d).ev = { d.ev with int := a } := by
  obtain ⟨a, h⟩ := raiseEvent_ev i d
  have sets := raiseEvent_sets hi d
  rw [h] at sets
  exact ⟨a, sets, h⟩

@[simp] theorem raiseEvent_ev_buffer (i : Nat) (d : Dev) : (raiseEvent i d).ev.buffer = d.ev.buffer := by
  obtain ⟨a, h⟩ := raiseEvent_ev i d; rw [h]
@[simp] theorem raiseEvent_ev_slots (i : Nat) (d : Dev) : (raiseEvent i d).ev.slots = d.ev.slots := by
  obtain ⟨a, h⟩ := raiseEvent_ev i d; rw [h]
@[simp] theorem raiseEvent_ev_nextEsn (i : Nat) (d : Dev) : (raiseEvent i d).ev.nextEsn = d.ev.nextEsn := by
  obtain ⟨a, h⟩ := raiseEvent_ev i d; rw [h]
@[simp] theorem raiseEvent_ev_lost (i : Nat) (d : Dev) : (raiseEvent i d).ev.lost = d.ev.lost := by
  obtain ⟨a, h⟩ := raiseEvent_ev i d; rw [h]
@[simp] theorem raiseEvent_ev_waiting (i : Nat) (d : Dev) : (raiseEvent i d).ev.waiting = d.ev.waiting := by
  obtain ⟨a, h⟩ := raiseEvent_ev i d; rw [h]
@[simp] theorem raiseEvent_ev_pendingClear (i : Nat) (d : Dev) : (raiseEvent i d).ev.pendingClear = d.ev.pendingClear := by
  obtain ⟨a, h⟩ := raiseEvent_ev i d; rw [h]
@[simp] theorem raiseEvent_ev_pendingFlush (i : Nat) (d : Dev) : (raiseEvent i d).ev.pendingFlush = d.ev.pendingFlush := by
  obtain ⟨a, h⟩ := raiseEvent_ev i d; rw [h]

/-! ## Flushing (R479) -/

/-- A flush moves the buffer to the end of EVENTS and changes, beside it, EVENT_INT alone. -/
theorem flushEvents_ev (d : Dev) : ∃ a, (flushEvents d).ev =
    { d.ev with slots := d.ev.slots ++ d.ev.buffer.map some, buffer := [], int := a } := by
  obtain ⟨a, p, o, h⟩ := flushEvents_shape d
  exact ⟨a, by rw [h]⟩

@[simp] theorem flushEvents_ev_buffer (d : Dev) : (flushEvents d).ev.buffer = [] := by
  obtain ⟨a, h⟩ := flushEvents_ev d; rw [h]
@[simp] theorem flushEvents_ev_slots (d : Dev) : (flushEvents d).ev.slots = d.ev.slots ++ d.ev.buffer.map some := by
  obtain ⟨a, h⟩ := flushEvents_ev d; rw [h]
@[simp] theorem flushEvents_ev_nextEsn (d : Dev) : (flushEvents d).ev.nextEsn = d.ev.nextEsn := by
  obtain ⟨a, h⟩ := flushEvents_ev d; rw [h]
@[simp] theorem flushEvents_ev_lost (d : Dev) : (flushEvents d).ev.lost = d.ev.lost := by
  obtain ⟨a, h⟩ := flushEvents_ev d; rw [h]
@[simp] theorem flushEvents_ev_waiting (d : Dev) : (flushEvents d).ev.waiting = d.ev.waiting := by
  obtain ⟨a, h⟩ := flushEvents_ev d; rw [h]
@[simp] theorem flushEvents_ev_pendingClear (d : Dev) : (flushEvents d).ev.pendingClear = d.ev.pendingClear := by
  obtain ⟨a, h⟩ := flushEvents_ev d; rw [h]
@[simp] theorem flushEvents_ev_pendingFlush (d : Dev) : (flushEvents d).ev.pendingFlush = d.ev.pendingFlush := by
  obtain ⟨a, h⟩ := flushEvents_ev d; rw [h]

/-! ## Recording (R475, R478) -/

/-- Is there a place in the buffer, and room in EVENTS, for one more record (R478)? -/
def HasPlace (d : Dev) : Prop := d.ev.buffer.length < 4096 ∧ d.ev.buffer.length + d.ev.slots.length < eventCapacity d

/-- A device whose buffer has taken the record under ESN `n`. -/
def withRecord (r : EventRec) (n : Nat) (d : Dev) : Dev :=
  { d with ev.buffer := d.ev.buffer ++ [{ r with esn := n }], ev.nextEsn := some (n + 1) }

/-- The record enters the buffer with the cause of its class; a FAULT, or the 3,072nd record, flushes the buffer. -/
theorem enterEvent_placed {r : EventRec} {n : Nat} {d : Dev} (h : HasPlace d) : ∃ a,
    (enterEvent r n d).ev = if r.cls = 2 ∨ 3072 ≤ d.ev.buffer.length + 1
      then { d.ev with slots := d.ev.slots ++ (d.ev.buffer ++ [{ r with esn := n }]).map some, buffer := [], nextEsn := some (n + 1), int := a }
      else { d.ev with buffer := d.ev.buffer ++ [{ r with esn := n }], nextEsn := some (n + 1), int := a } := by
  have entered : enterEvent r n d =
      let e := if r.cls = 1 then raiseEvent 1 (withRecord r n d) else if r.cls = 2 then raiseEvent 0 (withRecord r n d) else withRecord r n d
      if r.cls = 2 ∨ 3072 ≤ e.ev.buffer.length then flushEvents e else e := if_pos h
  have raised : ∃ a, (if r.cls = 1 then raiseEvent 1 (withRecord r n d) else if r.cls = 2 then raiseEvent 0 (withRecord r n d)
      else withRecord r n d).ev = { (withRecord r n d).ev with int := a } := by
    split_ifs
    · exact raiseEvent_ev 1 _
    · exact raiseEvent_ev 0 _
    · exact ⟨_, rfl⟩
  rw [entered]
  generalize (if r.cls = 1 then raiseEvent 1 (withRecord r n d) else if r.cls = 2 then raiseEvent 0 (withRecord r n d)
    else withRecord r n d) = e at raised
  obtain ⟨a, he⟩ := raised
  have count : e.ev.buffer.length = d.ev.buffer.length + 1 := by rw [he]; simp [withRecord]
  simp only [count]
  split
  · obtain ⟨b, hb⟩ := flushEvents_ev e
    exact ⟨b, by rw [hb, he]; rfl⟩
  · exact ⟨a, he⟩

theorem enterEvent_lost {r : EventRec} {n : Nat} {d : Dev} (h : ¬ HasPlace d) : enterEvent r n d = loseEvent d := if_neg h

theorem logRec_waits {d : Dev} (h : d.ev.nextEsn = none ∨ d.ev.pendingClear.isSome = true) (r : EventRec) :
    logRec r d = { d with ev.waiting := d.ev.waiting ++ [r] } := by
  unfold logRec
  split
  next hn hc => simp [hn, hc] at h
  next => rfl

theorem logRec_enters {d : Dev} {n : Nat} (hn : d.ev.nextEsn = some n) (hc : d.ev.pendingClear = none) (r : EventRec) :
    logRec r d = enterEvent r n d := by simp only [logRec, hn, hc]

/-- Recording an event keeps the bounds of the buffer and of EVENTS. -/
theorem logRec_bounded {d : Dev} (r : EventRec) (hb : d.ev.buffer.length ≤ 4096)
    (hs : d.ev.buffer.length + d.ev.slots.length ≤ eventCapacity d) :
    (logRec r d).ev.buffer.length ≤ 4096
      ∧ (logRec r d).ev.buffer.length + (logRec r d).ev.slots.length ≤ eventCapacity d := by
  unfold logRec
  split
  next n _ _ =>
    by_cases h : HasPlace d
    · obtain ⟨hb', hs'⟩ := h
      obtain ⟨a, he⟩ := enterEvent_placed (r := r) (n := n) ⟨hb', hs'⟩
      rw [he]
      split <;> simp <;> omega
    · rw [enterEvent_lost h, loseEvent]
      simp only [raiseEvent_ev_buffer, raiseEvent_ev_slots]
      exact ⟨hb, hs⟩
  next => exact ⟨hb, hs⟩

/-! ## EVENT_CTRL (R479, R481, R486) -/

/-- After a clear: the LOG_CLEARED record of the requester alone, under ESN `n`, with an empty buffer and nothing lost. -/
theorem clearEvents_ev (q : Nat) {d : Dev} {n : Nat} (hn : d.ev.nextEsn = some n) :
    let all := d.ev.slots ++ d.ev.buffer.map some
    ∃ a, a.getLsbD 2 = true ∧ (clearEvents q d).ev = { d.ev with
      buffer := [], lost := 0, nextEsn := some (n + 1), int := a
      slots := [some (EventRec.mk n 0x0F 2 (clearedClass d).1 (clearedClass d).2 none (slotEsn all.head? + slotEsn all.getLast? * 2 ^ 64
          + (d.ev.lost % 2 ^ 32) * 2 ^ 128 + (q % 256) * 2 ^ 160))] } := by
  obtain ⟨a, p, o, flushed⟩ := flushEvents_shape d
  unfold clearEvents
  rw [hn]
  dsimp only
  refine (raiseEvent_sets_ev (i := 2) (by decide) _).imp fun b ⟨hb, h⟩ => ⟨hb, h.trans ?_⟩
  rw [flushed]
  simp only [hn, Option.getD_some]

theorem exec_eventCtrlFlush (v : Reg) (s : State) : Gives (.eventCtrlFlush v) s (whenReg (eventCtrl (v ||| 1#32)) s.dev) := rfl
theorem exec_eventCtrlClear (v : Reg) (s : State) : Gives (.eventCtrlClear v) s (whenReg (eventCtrl (v ||| 2#32)) s.dev) := rfl

theorem eventCtrl_flush {v : Reg} (h : v.getLsbD 1 = false) (d : Dev) : eventCtrl (v ||| 1#32) d = requestFlush d := by
  have clear : (v ||| 1#32).getLsbD 1 = false := by rw [BitVec.getLsbD_or, h]; rfl
  have flush : (v ||| 1#32).getLsbD 0 = true := by rw [BitVec.getLsbD_or]; simp
  unfold eventCtrl
  rw [clear, flush]
  rfl

theorem eventCtrl_flush_ignored {v : Reg} (h : v.getLsbD 1 = true) (d : Dev) : eventCtrl (v ||| 1#32) d = d := by
  have clear : (v ||| 1#32).getLsbD 1 = true := by rw [BitVec.getLsbD_or, h]; rfl
  have flush : (v ||| 1#32).getLsbD 0 = true := by rw [BitVec.getLsbD_or]; simp
  unfold eventCtrl
  rw [clear, flush]
  rfl

/-- CLEAR set in a written value leaves KEY as it was. -/
theorem key_or_clear (v : Reg) : bits (v ||| 2#32).toNat 15 8 = v.toNat / 256 % 256 := by
  have key : (v.toNat ||| 2) / 2 ^ 8 = v.toNat / 2 ^ 8 := by
    rw [← Nat.shiftRight_eq_div_pow, Nat.shiftRight_or_distrib, Nat.shiftRight_eq_div_pow]
    simp
  rw [bits, BitVec.toNat_or]
  exact congrArg (· % 256) key

theorem clear_or_clear (v : Reg) : (v ||| 2#32).getLsbD 1 = true := by
  rw [BitVec.getLsbD_or]
  exact Bool.or_true _

theorem eventCtrl_clear {v : Reg} (hf : v.getLsbD 0 = false) (hk : v.toNat / 256 % 256 = 0xA5) (d : Dev) :
    eventCtrl (v ||| 2#32) d = clearEvents 0 d := by
  have flush : (v ||| 2#32).getLsbD 0 = false := by rw [BitVec.getLsbD_or, hf]; rfl
  unfold eventCtrl
  rw [key_or_clear, hk, flush, clear_or_clear]
  rfl

theorem eventCtrl_clear_ignored {v : Reg} (h : v.getLsbD 0 = true ∨ v.toNat / 256 % 256 ≠ 0xA5) (d : Dev) :
    eventCtrl (v ||| 2#32) d = d := by
  have refused : (v ||| 2#32).getLsbD 0 = true ∨ bits (v ||| 2#32).toNat 15 8 ≠ 0xA5 := by
    rw [key_or_clear, BitVec.getLsbD_or]
    exact h.imp_left fun hf => by rw [hf]; rfl
  unfold eventCtrl
  rw [clear_or_clear]
  exact if_pos refused

theorem requestFlush_waits {d : Dev} (h : d.ev.nextEsn = none) : requestFlush d = { d with ev.pendingFlush := true } := by
  simp only [requestFlush, h]

theorem requestFlush_eq {d : Dev} {n : Nat} (h : d.ev.nextEsn = some n) : requestFlush d = raiseEvent 2 (flushEvents d) := by
  simp only [requestFlush, h]

theorem clearEvents_waits {d : Dev} (h : d.ev.nextEsn = none) (q : Nat) : clearEvents q d = { d with ev.pendingClear := some q } := by
  simp only [clearEvents, h]

/-- With no event waiting and no flush asked for, the deferred clear is the clear. -/
theorem deferredClear_ev {d : Dev} {n q : Nat} (hn : d.ev.nextEsn = some n) (hq : d.ev.pendingClear = some q)
    (hf : d.ev.pendingFlush = false) (hw : d.ev.waiting = []) :
    (deferredClear d).ev = (clearEvents q { d with ev.pendingClear := none }).ev := by
  obtain ⟨a, -, he⟩ := clearEvents_ev q (d := { d with ev.pendingClear := none }) hn
  unfold deferredClear
  rw [hn, hq]
  dsimp only
  generalize clearEvents q { d with ev.pendingClear := none } = e at he ⊢
  have none_waits : e.ev.waiting = [] := by rw [he]; exact hw
  have no_flush : e.ev.pendingFlush = false := by rw [he]; exact hf
  have released : releaseWaiting e = e := by
    rw [releaseWaiting, none_waits, List.foldl_nil, ← none_waits]
  rw [released, if_neg (by simp [no_flush])]

theorem exec_eventDeferredClear (s : State) : Gives .eventDeferredClear s (deferredClear s.dev) := rfl

theorem exec_clockMarkTimer (s : State) : Gives .clockMarkTimer s (if coreRuns s.dev then clockMark s.dev else s.dev) := rfl

end Sys2Proof.Machine

open Sys2Proof Sys2Proof.Machine

/-- Settles O9: how a record enters or is lost, the bounds, and the forms of EVENT_CTRL. -/
theorem eventsRecorded : Obligations.EventsRecorded := by
  refine ⟨fun d r => ⟨fun h => logRec_waits h r, fun n hn hc hb hs => ?_, fun n hn hc full => ?_, fun src code cls pl h => ?_⟩,
    fun d r hb hs => ?_, fun s v => ⟨fun ho => ⟨fun h n hn => ?_, fun h hn => ?_, fun h => ?_, fun hf hk n hn => ?_, fun hf hk hn => ?_,
      fun h => ?_⟩, fun n q hn hq hf hw => ?_, fun h => ?_, fun h => ?_⟩⟩
  · -- a record finds its place
    obtain ⟨a, he⟩ := enterEvent_placed (r := r) (n := n) ⟨hb, hs⟩
    rw [logRec_enters hn hc]
    dsimp only
    rw [he]
    refine ⟨by split <;> rfl, by split <;> rfl, fun hr hl => ?_, fun h => ?_⟩
    · rw [if_neg (by omega)]
      exact ⟨rfl, rfl⟩
    · rw [if_pos h]
      exact ⟨rfl, rfl⟩
  · -- a record finds none
    rw [logRec_enters hn hc, enterEvent_lost full, loseEvent]
    dsimp only
    exact ⟨by simp [hn], by simp, by simp, by simp [satAdd], raiseEvent_sets (by decide) _⟩
  · simp only [logEvent, h]
  · -- the bounds
    obtain ⟨e, p, o, h⟩ := logRec_shape r d
    obtain ⟨bb, bs⟩ := logRec_bounded r hb hs
    refine ⟨bb, ?_, ?_⟩
    · rw [show eventCapacity (logRec r d) = eventCapacity d by rw [h]; rfl]
      exact bs
    · rw [h]; simp [blank]
  · refine ⟨_, exec_eventCtrlFlush v s, ?_⟩
    rw [whenReg_open ho, eventCtrl_flush h, requestFlush_eq hn]
    exact ⟨by simp, by simp, by simp [hn], raiseEvent_sets (by decide) _, rfl, rfl⟩
  · exact (exec_eventCtrlFlush v s).trans (by rw [whenReg_open ho, eventCtrl_flush h, requestFlush_waits hn])
  · exact (exec_eventCtrlFlush v s).trans (by rw [whenReg_open ho, eventCtrl_flush_ignored h])
  · refine ⟨_, exec_eventCtrlClear v s, ?_⟩
    obtain ⟨a, ha, he⟩ := clearEvents_ev 0 hn
    rw [whenReg_open ho, eventCtrl_clear hf hk]
    dsimp only
    rw [he]
    exact ⟨rfl, rfl, rfl, ha, rfl⟩
  · exact (exec_eventCtrlClear v s).trans (by rw [whenReg_open ho, eventCtrl_clear hf hk, clearEvents_waits hn])
  · exact (exec_eventCtrlClear v s).trans (by rw [whenReg_open ho, eventCtrl_clear_ignored h])
  · refine ⟨_, exec_eventDeferredClear s, ?_⟩
    obtain ⟨a, ha, he⟩ := clearEvents_ev q (d := { s.dev with ev.pendingClear := none }) hn
    dsimp only
    rw [deferredClear_ev hn hq hf hw, he]
    exact ⟨⟨rfl, rfl, rfl, ha, rfl⟩, rfl⟩
  · exact (exec_clockMarkTimer s).trans (by rw [if_neg (by simp [h])])
  · exact (exec_clockMarkTimer s).trans (by rw [if_pos h]; rfl)
end

section
/-! The Data Port (O8): a request of no bytes at the end of the BAR2 window. -/

namespace Sys2Proof.Machine

/-- A device whose BAR2 window ends with the address space, and whose buffer holds the last unit of it. -/
def windowEnd : State :=
  { dev := { boot := { porstN := true }, mhi := { dpAddr := 2 ^ 64 - 65536, dpBuffer := some (2 ^ 64 - 64, zeros 64) } } }

/-- A read of no bytes at offset 65,536 goes to address 0, where the sum of DP_ADDR and the offset wraps, and fills the buffer from there. -/
theorem windowEnd_read : ∀ t, exec (.bar2Read 65536 0 .clean) windowEnd = .next t → t.dev.mhi.dpBuffer = some (0, []) := by
  rintro t h
  cases h
  decide

end Sys2Proof.Machine

open Sys2Proof Sys2Proof.Machine

/-- Refutes O8: the clause on a BAR2 read inside the buffer adds the offset without the wrap at 2^64. A read of no bytes at the end of a
window that ends with the address space lies in the buffer by that sum, and yet the buffer is filled anew. -/
theorem not_dataPort : ¬ Obligations.DataPort := by
  rintro ⟨-, -, window⟩
  obtain ⟨inside, -⟩ := window windowEnd 65536 0 .clean (by decide) (by decide) (by decide) (by decide)
  have refilled := windowEnd_read _ (inside rfl (by decide))
  exact absurd refilled (by decide)
end

section
/-! Proofs about the Tide Clock (10 R313 to R321): its readings, its sources (O12), and what a measurement does (O13). -/

namespace Sys2Proof.Machine

/-! ## Readings (R313) -/

theorem clockTick_stopped {d : Dev} (h : d.boot.clocksStopped = true) : clockTick d = d := if_pos h

theorem clockTick_unadjusted {d : Dev} (hr : d.boot.clocksStopped = false) (hf : d.clk.freqPpb = 0) (ha : d.clk.acc < 1000000000) :
    clockTick d = { d with clk.elapsed16 := d.clk.elapsed16 + 10, clk.tod := todAdd d.clk.tod 10 } := by
  have advance : (10 * (1000000000 + d.clk.freqPpb)).toNat = 10000000000 := by rw [hf]; rfl
  have whole : (d.clk.acc + 10000000000) / 1000000000 = 10 := by omega
  have rest : (d.clk.acc + 10000000000) % 1000000000 = d.clk.acc := by omega
  rw [clockTick, if_neg (by simp [hr]), advance]
  simp only [whole, rest]

/-- A time of day is the seconds, nanoseconds and sixteenths of its whole count, modulo the 48 bits of its seconds. -/
theorem todAdd_counts (t : Tod) (n : Nat) : (todAdd t n).frac < 16 ∧ (todAdd t n).ns < 1000000000
    ∧ (todAdd t n).s * 16000000000 + (todAdd t n).ns * 16 + (todAdd t n).frac
      = (t.s * 16000000000 + t.ns * 16 + t.frac + n) % (2 ^ 48 * 16000000000) := by
  simp only [todAdd]
  omega

/-! ## Sources (R315, R320) -/

/-- The fields of the master in use change the grandmaster and the UTC offset alone. -/
theorem masterFields_shape (d : Dev) : ∃ g u v, masterFields d = { d with clk.gmId := g, clk.utcOffset := u, clk.utcValid := v } := by
  unfold masterFields
  dsimp only
  generalize (if d.clk.source = 1 then d.clk.ptpA.selected else _) = m
  cases m <;> exact ⟨_, _, _, rfl⟩

/-- A change of source: it is in use and nothing is locked; beside it the grandmaster's fields and the record change. -/
theorem changeSource_shape {n : Nat} {d : Dev} (h : n ≠ d.clk.source) : ∃ g u v e p o, changeSource n d =
    { d with clk.source := n, clk.lockCount := 0, clk.gmId := g, clk.utcOffset := u, clk.utcValid := v, ev := e, mhi.msixPending := p, out := o } := by
  rw [changeSource, if_neg h]
  obtain ⟨g, u, v, hm⟩ := masterFields_shape (logEvent 9 1 0 (payload 0 d.clk.source n 0) { d with clk.source := n, clk.lockCount := 0 })
  obtain ⟨e, p, o, hl⟩ := logEvent_shape 9 1 0 (payload 0 d.clk.source n 0) { d with clk.source := n, clk.lockCount := 0 }
  exact ⟨g, u, v, e, p, o, by rw [hm, hl]⟩

theorem changeSource_clk (n : Nat) (d : Dev) : ∃ x l g u v, (changeSource n d).clk =
    { d.clk with source := x, lockCount := l, gmId := g, utcOffset := u, utcValid := v } := by
  by_cases h : n = d.clk.source
  · exact ⟨d.clk.source, d.clk.lockCount, d.clk.gmId, d.clk.utcOffset, d.clk.utcValid, by rw [changeSource, if_pos h]⟩
  · obtain ⟨g, u, v, e, p, o, hc⟩ := changeSource_shape h
    exact ⟨n, 0, g, u, v, by rw [hc]⟩

theorem bestSource_none {d : Dev} (h1 : d.clk.ptp.valid = false) (h2 : d.clk.ptpBackup.valid = false) (h3 : d.clk.pps.valid = false)
    (h4 : d.clk.tline.valid = false) : bestSource d = 0 := by
  simp [bestSource, sourceOf, h1, h2, h3, h4]

theorem enterHoldover_eq {d : Dev} (h : d.clk.todValid = true) : enterHoldover d =
    { d with clk.state := 1, clk.holdoverS := d.clk.tod.s, clk.lockCount := 0,
             clk.freqPpb := averagePpb (elapsed d) d.clk.freqPpb d.clk.freqHist } := by
  rw [enterHoldover, if_neg (by simp [h])]

/-- The clock after the source in use, its last, was dropped: HOLDOVER at the frequency averaged over the lock. -/
structure HeldOver (d e : Dev) : Prop where
  state : e.clk.state = 1
  source : e.clk.source = 0
  lockCount : e.clk.lockCount = 0
  holdoverS : e.clk.holdoverS = d.clk.tod.s
  freqPpb : e.clk.freqPpb = averagePpb (elapsed d) d.clk.freqPpb d.clk.freqHist
  tod : e.clk.tod = d.clk.tod

theorem HeldOver.masterFields {d e : Dev} (h : HeldOver d e) : HeldOver d (masterFields e) := by
  obtain ⟨g, u, v, hm⟩ := masterFields_shape e
  obtain ⟨h1, h2, h3, h4, h5, h6⟩ := h
  rw [hm]
  exact ⟨h1, h2, h3, h4, h5, h6⟩

/-- A device whose source `n` is not valid. -/
def withoutSource (n : Nat) (d : Dev) : Dev := { d with clk := setSource n { valid := false } d.clk }

theorem dropSource_eq (n : Nat) (d : Dev) : dropSource n d =
    let e := changeSource (bestSource (withoutSource n d)) (withoutSource n d)
    if d.clk.source = n then (if e.clk.source = 0 then enterHoldover e else e) else withoutSource n d := rfl

@[simp] theorem setSource_source (n : Nat) (t : TimeSource) (k : ClockSt) : (setSource n t k).source = k.source := by
  unfold setSource; split <;> rfl

theorem enterHoldover_clk (d : Dev) : ∃ x l st h f, (enterHoldover d).clk =
    { d.clk with source := x, lockCount := l, state := st, holdoverS := h, freqPpb := f } := by
  unfold enterHoldover
  split
  · exact ⟨0, 0, d.clk.state, d.clk.holdoverS, d.clk.freqPpb, rfl⟩
  · exact ⟨d.clk.source, 0, 1, d.clk.tod.s, _, rfl⟩

/-- Beside the validity of the source dropped, dropping a source changes of the clock only the source in use, the lock, the fields of the
master and those of HOLDOVER. -/
theorem dropSource_clk (n : Nat) (d : Dev) : ∃ x l g u v st h f, (dropSource n d).clk =
    { setSource n { valid := false } d.clk with source := x, lockCount := l, gmId := g, utcOffset := u, utcValid := v, state := st, holdoverS := h, freqPpb := f } := by
  obtain ⟨x, l, g, u, v, hc⟩ := changeSource_clk (bestSource (withoutSource n d)) (withoutSource n d)
  rw [dropSource_eq]
  dsimp only
  split_ifs
  · obtain ⟨x', l', st, h, f, he⟩ := enterHoldover_clk (changeSource (bestSource (withoutSource n d)) (withoutSource n d))
    exact ⟨x', l', g, u, v, st, h, f, by rw [he, hc]; rfl⟩
  · exact ⟨x, l, g, u, v, (setSource n { valid := false } d.clk).state, (setSource n { valid := false } d.clk).holdoverS,
      (setSource n { valid := false } d.clk).freqPpb, hc⟩
  · let k := setSource n { valid := false } d.clk
    exact ⟨k.source, k.lockCount, k.gmId, k.utcOffset, k.utcValid, k.state, k.holdoverS, k.freqPpb, rfl⟩

/-- The last valid source in use is dropped (R315, R320). -/
theorem dropSource_heldOver {n : Nat} {d : Dev} (hn : n ∈ [1, 2, 3, 4]) (hs : d.clk.source = n) (hv : d.clk.todValid = true)
    (hb : bestSource (withoutSource n d) = 0) : HeldOver d (dropSource n d) := by
  have away : 0 ≠ (withoutSource n d).clk.source := by
    rw [withoutSource, setSource_source, hs]
    rintro rfl
    simp at hn
  obtain ⟨g, u, v, e, p, o, hc⟩ := changeSource_shape away
  rw [dropSource_eq, hb]
  dsimp only
  rw [if_pos hs, hc]
  simp only [List.mem_cons, List.not_mem_nil, or_false] at hn
  rw [if_pos rfl, enterHoldover_eq (by obtain rfl | rfl | rfl | rfl := hn <;> exact hv)]
  obtain rfl | rfl | rfl | rfl := hn <;> exact ⟨rfl, rfl, rfl, rfl, rfl, rfl⟩

theorem exec_ptpAnnounceReceive (a : Announce) (s : State) : Gives (.ptpAnnounceReceive a) s (announce a s.dev) := rfl
theorem exec_syncReceiptTimeout (p : Nat) (s : State) : Gives (.syncReceiptTimeout p) s
    (if ptpSource s.dev p = 0 then s.dev else dropSource (ptpSource s.dev p) s.dev) := rfl
theorem exec_announceReceiptTimeout (p : Nat) (s : State) : Gives (.announceReceiptTimeout p) s (announceTimeout p s.dev) := rfl
theorem exec_ppsInTimeout (s : State) : Gives .ppsInTimeout s (dropSource 3 { s.dev with clk.ppsMisses := 0 }) := rfl
theorem exec_sourceRevertTimer (n : Nat) (s : State) : Gives (.sourceRevertTimer n) s
    (if candidate (chartOf s.dev).clock n ∧ (sourceOf s.dev.clk n).valid ∧ (n < s.dev.clk.source ∨ s.dev.clk.source = 0)
      then changeSource n s.dev else s.dev) := rfl
theorem exec_holdoverLimit (s : State) : Gives .holdoverLimit s
    (if s.dev.clk.state = 1 ∧ !s.dev.clk.holdoverExceeded then
      logEvent 9 3 1 (payload 0 0 0 0) { s.dev with clk.holdoverExceeded := true } else s.dev) := rfl
theorem exec_ppsInEdge (s : State) : Gives .ppsInEdge s (ppsEdge s.dev) := rfl
theorem exec_ppsOutPulse (s : State) : Gives .ppsOutPulse s
    (if (chartOf s.dev).clock.ppsOut = 1 then { s.dev with clk.ppsOut := true } else s.dev) := rfl
theorem exec_ptpSyncReceive (p q : Nat) (two : Bool) (o r : Int) (s : State) : Gives (.ptpSyncReceive p q two o r) s (sync p q two o r s.dev) := rfl
theorem exec_ptpFollowUpReceive (p q : Nat) (o : Int) (s : State) : Gives (.ptpFollowUpReceive p q o) s (followUp p q o s.dev) := rfl
theorem exec_ptpDelayReqSend (p q : Nat) (tx : Int) (s : State) : Gives (.ptpDelayReqSend p q tx) s (delayReq p q tx s.dev) := rfl
theorem exec_ptpDelayRespReceive (p q : Nat) (r : Int) (s : State) : Gives (.ptpDelayRespReceive p q r) s (delayResp p q r s.dev) := rfl

/-! ## PTP (R316) -/

theorem ptpSource_ptpPort (d : Dev) : ptpSource d (chartOf d).clock.ptpPort = 1 := if_pos rfl

theorem announce_joins {a : Announce} {d : Dev} (hp : a.port = (chartOf d).clock.ptpPort) (hd : a.domain = (chartOf d).clock.domain) :
    let ms := d.clk.ptpA.masters.filter (fun m => m.clockId != a.clockId) ++ [a]
    announce a d = masterFields { d with clk.ptpA.masters := ms, clk.ptpA.selected := bestMaster ms } := by
  have source : ptpSource d a.port = 1 := by rw [hp, ptpSource_ptpPort]
  unfold announce
  rw [source, if_neg (by simp [hd])]
  rfl

theorem announce_ignored {a : Announce} {d : Dev} (h : a.domain ≠ (chartOf d).clock.domain
    ∨ (a.port ≠ (chartOf d).clock.ptpPort ∧ a.port ≠ (chartOf d).clock.backupPort)) : announce a d = d := by
  refine if_pos (h.symm.imp_left fun ⟨h1, h2⟩ => ?_)
  rw [ptpSource, if_neg h1, if_neg h2]

/-- A timeout of the Announces forgets the master and drops the source. -/
theorem announceTimeout_ptpPort (d : Dev) : ∃ ms, announceTimeout (chartOf d).clock.ptpPort d =
    masterFields (dropSource 1 { d with clk.ptpA.masters := ms, clk.ptpA.selected := bestMaster ms }) := by
  unfold announceTimeout
  rw [ptpSource_ptpPort]
  exact ⟨_, rfl⟩

section
variable {d : Dev} {port seq : Nat} (hp : ptpSource d port = 1)
include hp

/-- A Sync of the selected master of PTP_PORT. -/
theorem sync_selected {a : Announce} (hs : d.clk.ptpA.selected = some a) (two : Bool) (origin rx : Int) : sync port seq two origin rx d =
    if two then { d with clk.ptpA.syncWait := some (seq, rx) } else syncMeasure 1 rx origin d := by
  unfold sync
  rw [hp]
  exact if_neg (by simp [ptpOf, hs])

theorem followUp_waited {rx : Int} (hw : d.clk.ptpA.syncWait = some (seq, rx)) (origin : Int) :
    followUp port seq origin d = syncMeasure 1 rx origin d := by
  unfold followUp
  rw [hp]
  dsimp only
  rw [if_neg (by decide), show (ptpOf d.clk 1).syncWait = some (seq, rx) from hw]
  exact if_pos rfl

theorem delayReq_sent (tx : Int) : delayReq port seq tx d =
    queueMgmt (port * 4) { kind := 0, len := 64, opcode := 1, psn := seq } { d with clk.ptpA.delayReq := some (seq, tx) } := by
  unfold delayReq
  rw [hp]
  rfl

theorem delayResp_asked {tx : Int} (ht : d.clk.ptpA.delayReq = some (seq, tx)) (rx : Int) : delayResp port seq rx d =
    { d with clk.ptpA.delayReq := none, clk.ptpA.pathDelay := (d.clk.ptpA.syncDiff + (rx - tx)).tdiv 2 } := by
  unfold delayResp
  rw [hp]
  dsimp only
  rw [if_neg (by decide), show (ptpOf d.clk 1).delayReq = some (seq, tx) from ht]
  exact if_pos rfl

end

/-! ## Measurements (R319) -/

/-- A source in use that measures: `n` is valid, is in use, and PPS_IN does not discipline the seconds for it. -/
structure InUseSource (n : Nat) (d : Dev) : Prop where
  candidate : candidate (chartOf d).clock n = true
  valid : (sourceOf d.clk n).valid = true
  used : d.clk.source = n
  one : n ≠ 0
  alone : (chartOf d).clock.reference ≠ 3

theorem slew_eq (off : Int) (d : Dev) : ∃ f, slew off d = { d with clk.freqPpb := f, draws := d.draws + 1 }
    ∧ (off ≠ 0 → f.natAbs ≤ 100000) ∧ (0 < off → f ≤ 0) ∧ (off < 0 → 0 ≤ f) := by
  refine ⟨_, rfl, fun h => ?_, fun h => ?_, fun h => ?_⟩
  all_goals split_ifs <;> omega

/-- What a slew by a measured offset leaves (R319): time of day stands, and the frequency adjustment opposes the offset. -/
structure Slewed (bound : Nat) (off : Int) (d e : Dev) : Prop where
  only : blank [.clk, .draws] e = blank [.clk, .draws] d
  tod : e.clk.tod = d.clk.tod
  ppsMisses : e.clk.ppsMisses = d.clk.ppsMisses
  offset : e.clk.offsetNs = off
  small : off ≠ 0 → e.clk.freqPpb.natAbs ≤ 100000
  against : 0 < off → e.clk.freqPpb ≤ 0
  along : off < 0 → 0 ≤ e.clk.freqPpb
  count : e.clk.lockCount = if off.natAbs ≤ bound then min (d.clk.lockCount + 1) 16 else 0
  locks : off.natAbs ≤ bound → 15 ≤ d.clk.lockCount → e.clk.state = 0

theorem measure_slews {n : Nat} {d : Dev} (h : InUseSource n d) (hn : n ≠ 4) (hv : d.clk.todValid = true) {off : Int}
    (ho : off.natAbs ≤ 1000000) : Slewed 200 off d (measure n off d) := by
  obtain ⟨cand, valid, used, one, alone⟩ := h
  have clamp : max (-(2147483647 : Int)) (min off 2147483647) = off := by omega
  obtain ⟨f, hs, small, against, along⟩ := slew_eq off { d with clk.offsetNs := off }
  unfold measure
  dsimp only
  rw [if_pos cand, if_pos valid, if_neg (show ¬ d.clk.source = 0 by omega), if_pos (Or.inl ⟨used, by simp [alone]⟩), clamp, if_neg (by simp [hv]; omega), hs, if_neg hn]
  by_cases hb : off.natAbs ≤ 200
  · simp only [if_pos hb]
    split
    next h16 => exact ⟨by simp [blank], rfl, rfl, rfl, small, against, along, by simp [hb], fun _ _ => rfl⟩
    next h16 => exact ⟨by simp [blank], rfl, rfl, rfl, small, against, along, by simp [hb], fun _ hl => absurd (Nat.succ_le_succ hl) h16⟩
  · simp only [if_neg hb]
    rw [if_neg (by decide)]
    exact ⟨by simp [blank], rfl, rfl, rfl, small, against, along, by simp [hb], fun hb' => absurd hb' hb⟩

/-- A step of time of day (R319): to the reference, with the profile worked out afresh. -/
structure Stepped (off : Int) (d e : Dev) : Prop where
  todValid : e.clk.todValid = true
  suspended : e.clk.suspended = false
  seconds : e.clk.tod.s = (((todNs d : Nat) : Int) - off).toNat / 1000000000 % 2 ^ 48
  nanoseconds : e.clk.tod.ns = (((todNs d : Nat) : Int) - off).toNat % 1000000000
  steps : e.clk.steps = min (d.clk.steps + 1) 65535
  lockCount : e.clk.lockCount = 0

theorem setProfile_clk (p : Nat) (d : Dev) : (setProfile p d).clk = { d.clk with profile := p } := by
  unfold setProfile setShallows
  dsimp only
  split
  next h => rw [h]
  next => rw [logEvent_clk]

theorem recompute_clk {d : Dev} (h : d.clk.todValid = true) : (recompute d).clk =
    { d.clk with suspended := false, tableRan := true, profile := profileAt (chartOf d) d.clk.tod.s } := by
  rw [recompute, if_pos h, setProfile_clk]

theorem stepTod_stepped (off : Int) (d : Dev) : Stepped off d (stepTod off d) := by
  unfold stepTod
  dsimp only
  rw [show ∀ e : Dev, Stepped off d e ↔ Stepped off d { d with clk := e.clk } from fun e => ⟨fun ⟨a, b, c, d, e, f⟩ => ⟨a, b, c, d, e, f⟩,
    fun ⟨a, b, c, d, e, f⟩ => ⟨a, b, c, d, e, f⟩⟩, recompute_clk (by simp), clockMark_clk, logEvent_clk]
  exact ⟨rfl, rfl, rfl, rfl, rfl, rfl⟩

theorem measure_steps {n : Nat} {d : Dev} (h : InUseSource n d) {off : Int} (ho : d.clk.todValid = false ∨ 1000000 < off.natAbs) :
    Stepped off d (measure n off d) := by
  obtain ⟨cand, valid, used, one, alone⟩ := h
  unfold measure
  dsimp only
  rw [if_pos cand, if_pos valid, if_neg (show ¬ d.clk.source = 0 by omega), if_pos (Or.inl ⟨used, by simp [alone]⟩), if_pos (by simpa using ho)]
  obtain ⟨h1, h2, h3, h4, h5, h6⟩ := stepTod_stepped off { d with clk.offsetNs := max (-2147483647) (min off 2147483647) }
  exact ⟨h1, h2, h3, h4, h5, h6⟩

/-! ## PPS (R317) -/

theorem ppsEdge_measures {d : Dev} (hc : (chartOf d).clock.reference = 2) (ho : (ppsPhase d).natAbs ≤ 1000) :
    ppsEdge d = measure 3 (ppsPhase d) { d with clk.ppsMisses := 0 } := by
  have cand : candidate (chartOf d).clock 3 = true := by simp [candidate, hc]
  unfold ppsEdge
  dsimp only
  rw [if_pos cand, if_neg (show ¬ (d.clk.todValid = true ∧ 1000 < (ppsPhase d).natAbs) by omega), if_neg (by decide), if_neg (by simp [hc])]

theorem ppsEdge_drops {d : Dev} (hc : (chartOf d).clock.reference = 2) (hv : d.clk.todValid = true) (ho : 1000 < (ppsPhase d).natAbs)
    (hm : 2 ≤ d.clk.ppsMisses) : ppsEdge d = dropSource 3 { d with clk.ppsMisses := 0 } := by
  have cand : candidate (chartOf d).clock 3 = true := by simp [candidate, hc]
  unfold ppsEdge
  dsimp only
  rw [if_pos cand, if_pos (show d.clk.todValid = true ∧ 1000 < (ppsPhase d).natAbs from ⟨hv, ho⟩), if_pos (by omega)]

theorem ppsEdge_unused {d : Dev} (hc : (chartOf d).clock.reference = 1) : ppsEdge d = d := by
  rw [ppsEdge, if_neg (by simp [candidate, hc])]

end Sys2Proof.Machine

open Sys2Proof Sys2Proof.Machine

/-- Settles O12: the readings, then the sources, then PPS. -/
theorem clockSources : Obligations.ClockSources := by
  refine ⟨fun d => ⟨clockTick_stopped, clockTick_unadjusted, fun t _ _ n => todAdd_counts t n⟩, fun s => ?_, fun s => ?_⟩
  · refine ⟨fun a hp hd => ?_, fun a h => ?_, fun hs h2 h3 h4 hv => ⟨?_, ?_⟩, fun hs h1 h2 h4 hv => ?_, fun hc h1 hs => ?_, fun hs => ?_,
      fun hs hx => ?_, fun h => ?_⟩
    · exact (exec_ptpAnnounceReceive a s).trans (by rw [announce_joins hp hd])
    · exact (exec_ptpAnnounceReceive a s).trans (by rw [announce_ignored h])
    · have h := dropSource_heldOver (n := 1) (by decide) hs hv (bestSource_none rfl h2 h3 h4)
      obtain ⟨x, l, g, u, v, st, ho, f, hc⟩ := dropSource_clk 1 s.dev
      refine ⟨_, exec_syncReceiptTimeout _ s, ?_⟩
      rw [ptpSource_ptpPort, if_neg (by decide)]
      exact ⟨⟨h.state, h.source, h.lockCount, h.holdoverS, h.freqPpb, h.tod⟩, by rw [hc]; rfl, rfl⟩
    · obtain ⟨ms, ha⟩ := announceTimeout_ptpPort s.dev
      let d := { s.dev with clk.ptpA.masters := ms, clk.ptpA.selected := bestMaster ms }
      have h := (dropSource_heldOver (n := 1) (d := d) (by decide) hs hv (bestSource_none rfl h2 h3 h4)).masterFields
      obtain ⟨x, l, g, u, v, st, ho, f, hc⟩ := dropSource_clk 1 d
      obtain ⟨g', u', v', hm⟩ := masterFields_shape (dropSource 1 d)
      refine ⟨_, exec_announceReceiptTimeout _ s, ?_⟩
      rw [ha]
      exact ⟨⟨h.state, h.source, h.lockCount, h.holdoverS, h.freqPpb, h.tod⟩, by rw [hm, hc]; rfl, rfl⟩
    · have h := dropSource_heldOver (n := 3) (d := { s.dev with clk.ppsMisses := 0 }) (by decide) hs hv (bestSource_none h1 h2 rfl h4)
      obtain ⟨x, l, g, u, v, st, ho, f, hc⟩ := dropSource_clk 3 { s.dev with clk.ppsMisses := 0 }
      exact ⟨_, exec_ppsInTimeout s, ⟨h.state, h.source, h.lockCount, h.holdoverS, h.freqPpb, h.tod⟩, by rw [hc]; rfl, rfl⟩
    · refine (exec_sourceRevertTimer 1 s).trans ?_
      rw [if_pos ⟨by simp [candidate, hc], h1, Or.inl hs⟩, changeSource, if_neg (by omega)]
    · exact (exec_sourceRevertTimer 1 s).trans (by rw [if_neg (by simp [hs])])
    · exact (exec_holdoverLimit s).trans (by rw [if_pos ⟨hs, by simp [hx]⟩])
    · exact (exec_holdoverLimit s).trans (by rw [if_neg (by rintro ⟨a, b⟩; simp_all)])
  · refine ⟨fun hc hv hs hp ho => ?_, fun hc hv ho hm => ?_, fun hc => ?_, fun h => ?_, fun h => ?_, rfl⟩
    · have cand : candidate (chartOf s.dev).clock 3 = true := by simp [candidate, hc]
      have used : InUseSource 3 { s.dev with clk.ppsMisses := 0 } :=
        ⟨cand, hp, hs, by decide, fun h3 => absurd (hc.symm.trans h3) (by decide)⟩
      have h := measure_slews used (by decide) hv (off := ppsPhase s.dev) (by simp only [ppsPhase]; omega)
      refine ⟨_, exec_ppsInEdge s, ?_⟩
      rw [ppsEdge_measures hc ho]
      exact ⟨h.ppsMisses, h.offset, h.tod, h.count, h.only, rfl, rfl⟩
    · obtain ⟨x, l, g, u, v, st, hh, f, hd⟩ := dropSource_clk 3 { s.dev with clk.ppsMisses := 0 }
      refine ⟨_, exec_ppsInEdge s, ?_⟩
      rw [ppsEdge_drops hc hv ho hm]
      exact ⟨by rw [hd]; rfl, by rw [hd]; rfl, by rw [hd]; rfl, rfl⟩
    · exact (exec_ppsInEdge s).trans (by rw [ppsEdge_unused hc])
    · exact (exec_ppsOutPulse s).trans (by rw [if_pos h])
    · exact (exec_ppsOutPulse s).trans (by rw [if_neg h])

/-- Settles O13: a measurement in use slews or steps; then the frames that give one. -/
theorem ptpMeasurement : Obligations.PtpMeasurement := by
  intro s seq origin rx a d port off measured hc hv hs hsel
  have reach : ∀ {c : Instr}, Gives c s (syncMeasure 1 rx origin d) → measured c := by
    intro c h
    let e := { d with clk.ptpA.syncWait := none, clk.ptpA.syncDiff := rx - origin, clk.ptpA.lastOff := off }
    have given : Gives c s (measure 1 off e) := h
    have cand : candidate (chartOf d).clock 1 = true := by simp [candidate, hc]
    have used : InUseSource 1 e := ⟨cand, hv, hs, by decide, fun h3 => absurd (hc.symm.trans h3) (by decide)⟩
    refine ⟨fun htv ho => ?_, fun ho => ?_⟩
    · have m := measure_slews used (by decide) htv ho
      exact ⟨_, given, m.tod, m.offset, m.small, m.against, m.along, m.count, m.locks, m.only, rfl, rfl⟩
    · have m := measure_steps used ho
      exact ⟨_, given, m.todValid, m.suspended, m.seconds, m.nanoseconds, m.steps, m.lockCount, rfl⟩
  have source : ptpSource d port = 1 := ptpSource_ptpPort d
  refine ⟨reach ?_, fun hw => reach ?_, ?_, fun tx ht => ?_, fun tx => ?_⟩
  · exact (exec_ptpSyncReceive port seq false origin rx s).trans (by rw [sync_selected source hsel]; rfl)
  · exact (exec_ptpFollowUpReceive port seq origin s).trans (by rw [followUp_waited source hw])
  · exact (exec_ptpSyncReceive port seq true origin rx s).trans (by rw [sync_selected source hsel]; rfl)
  · exact (exec_ptpDelayRespReceive port seq rx s).trans (by rw [delayResp_asked source ht])
  · exact (exec_ptpDelayReqSend port seq tx s).trans (by rw [delayReq_sent source])
end

section
/-! Proofs about bay power (16 R461 to R472): how a bay comes to power (O14), and its faults, removal and commands (O15). -/

namespace Sys2Proof.Machine

theorem gives_congr {c : Instr} {s : State} {e d : Dev} (h : Gives c s e) (he : e = d) : Gives c s d := he ▸ h

/-! ## Bays and their rules -/

@[simp] theorem bayOf_setBay (n : Nat) (b : Bay) (d : Dev) : bayOf (setBay n b d) n = b := by
  rw [bayOf, setBay, tget_tput, Option.getD_some]

theorem bayOf_setBay_ne {n m : Nat} (h : m ≠ n) (b : Bay) (d : Dev) : bayOf (setBay n b d) m = bayOf d m := by
  rw [bayOf, setBay, tget_tput_ne _ _ h, bayOf]

/-- The bays that a device holds are all that `bayOf` looks at. -/
theorem bayOf_congr {d e : Dev} (h : e.bay.bays = d.bay.bays) (n : Nat) : bayOf e n = bayOf d n := by rw [bayOf, h, bayOf]

theorem whileRuns_runs {d : Dev} (h : coreRuns d = true) (f : Dev → Dev) : whileRuns f d = f d := if_pos h

theorem setStep_step (n : Nat) (d : Dev) : (setStep n d).boot.step = n := by
  unfold setStep
  split
  next h => exact h
  next => rw [raiseGlobal_boot]

/-- Step 7 ends at most in step 8: the bays stand. -/
theorem endStep7_shape (d : Dev) : ∃ k a p o, endStep7 d = { d with boot.step := k, mhi.int := a, mhi.msixPending := p, out := o } := by
  unfold endStep7
  split
  · exact setStep_shape 8 d
  · exact ⟨_, _, _, _, rfl⟩

@[simp] theorem endStep7_bay (d : Dev) : (endStep7 d).bay = d.bay := by
  obtain ⟨k, a, p, o, h⟩ := endStep7_shape d; rw [h]

/-! ## The commands -/

theorem exec_bayBringupPower (s : State) : Gives .bayBringupPower s (bringupBays s.dev) := rfl
theorem exec_bayPrsntAssert (n v : Nat) (s : State) : Gives (.bayPrsntAssert n v) s (prsntAssert n v s.dev) := rfl
theorem exec_bayInsertDelayExpiry (n v : Nat) (s : State) : Gives (.bayInsertDelayExpiry n v) s (insertExpiry n v s.dev) := rfl
theorem exec_bayRampStart (n : Nat) (s : State) : Gives (.bayRampStart n) s (rampStart n s.dev) := rfl
theorem exec_bayRampReached (n v : Nat) (s : State) : Gives (.bayRampReached n v) s (rampReached n v s.dev) := rfl
theorem exec_bayPowerGood (n v : Nat) (s : State) : Gives (.bayPowerGood n v) s (powerGood n v s.dev) := rfl
theorem exec_bayPerstRelease (n : Nat) (s : State) : Gives (.bayPerstRelease n) s (perstRelease n s.dev) := rfl
theorem exec_bayRetryExpiry (n : Nat) (s : State) : Gives (.bayRetryExpiry n) s
    (if (bayOf s.dev n).state = .retry then setBay n { bayOf s.dev n with state := .queued, order := elapsed s.dev } s.dev else s.dev) := rfl
theorem exec_bayAttemptsReset (n : Nat) (s : State) : Gives (.bayAttemptsReset n) s
    (if (bayOf s.dev n).pg then setBay n { bayOf s.dev n with attempts := 0 } s.dev else s.dev) := rfl

section
variable {d : Dev} {n : Nat}

theorem prsntAssert_rises {vin : Nat} (hn : n < 32) (hr : coreRuns d = true) (hp : (bayOf d n).prsnt = false) : prsntAssert n vin d =
    raiseBayChange n (setBay n { bayOf d n with prsnt := true, vin := vin,
                                                state := if (bayOf d n).state = .empty then .insert else (bayOf d n).state } d) := by
  rw [prsntAssert, if_neg (by omega)]
  dsimp only
  rw [if_neg (by simp [hp])]
  exact if_pos hr

theorem insertExpiry_inserted (hb : baysPower d = true) (hs : (bayOf d n).state = .insert) (hp : (bayOf d n).prsnt = true) (vin : Nat) :
    insertExpiry n vin d = if vinInside d n vin then setBay n { bayOf d n with vin := vin, state := .queued, order := elapsed d } d
      else endStep7 (setBay n { bayOf d n with vin := vin } d) := if_pos ⟨hb, hs, hp⟩

end

/-! ## Step 7 of bring-up (15 R442) -/

/-- Every bay as step 7 takes it up: an EMPTY bay with a drive, and a QUEUED one, begin their insertion delay. -/
def insertBay (b : Bay) : Bay :=
  match b.state with
  | .empty => if b.prsnt then { b with state := .insert } else b
  | .queued => { b with state := .insert }
  | _ => b

theorem bringupBays_eq {d : Dev} (hr : coreRuns d = true) (h7 : d.boot.step = 7) :
    bringupBays d = endStep7 { d with bay.bays := tall d.bay.bays insertBay } := if_pos ⟨hr, h7⟩

theorem endStep7_step {d : Dev} (hr : coreRuns d = true) (h7 : d.boot.step = 7) :
    (endStep7 d).boot.step = if d.bay.bays.all (fun e => !onItsWay d e.1 e.2) then 8 else 7 := by
  unfold endStep7
  split
  next h => rw [setStep_step, if_pos h.2.2]
  next h => rw [if_neg fun ha => h ⟨hr, h7, ha⟩, h7]

/-! ## The next bay to ramp (R465) -/

/-- Does `e` ramp before `y`, or with it at the lower number? -/
def RampsFirst (e y : Nat × Bay) : Prop := e.2.order < y.2.order ∨ (e.2.order = y.2.order ∧ e.1 ≤ y.1)

/-- The best of two queued bays, the first one on a tie (R465). -/
def earlier (best : Option (Nat × Bay)) (e : Nat × Bay) : Option (Nat × Bay) :=
  match best with
  | none => some e
  | some x => if e.2.order < x.2.order then some e else some x

/-- Among bays in rising order behind `x`, the earliest is one of them or `x`, and ramps before all of them. -/
theorem foldl_earlier {l : List (Nat × Bay)} : ∀ {x r : Nat × Bay}, l.Pairwise (fun y z => y.1 < z.1) → (∀ y ∈ l, x.1 < y.1) →
    l.foldl earlier (some x) = some r → r ∈ x :: l ∧ ∀ y ∈ x :: l, RampsFirst r y := by
  induction l with
  | nil =>
    rintro x r - - h
    obtain rfl : x = r := by simpa using h
    exact ⟨List.mem_cons_self, fun y hy => by
      obtain rfl : y = x := by simpa using hy
      exact Or.inr ⟨rfl, le_rfl⟩⟩
  | cons e l ih =>
    intro x r hp hx h
    obtain ⟨he, hp⟩ := List.pairwise_cons.mp hp
    have hxe := hx e List.mem_cons_self
    rw [List.foldl_cons, earlier] at h
    by_cases ho : e.2.order < x.2.order
    · rw [if_pos ho] at h
      obtain ⟨hr, hall⟩ := ih hp he h
      refine ⟨List.mem_cons_of_mem _ hr, fun y hy => ?_⟩
      obtain rfl | hy := List.mem_cons.mp hy
      · obtain he' | ⟨he', -⟩ := hall e List.mem_cons_self
        · exact Or.inl (by omega)
        · exact Or.inl (by omega)
      · exact hall y hy
    · rw [if_neg ho] at h
      obtain ⟨hr, hall⟩ := ih hp (fun y hy => hx y (List.mem_cons_of_mem _ hy)) h
      refine ⟨?_, fun y hy => ?_⟩
      · obtain rfl | hr := List.mem_cons.mp hr
        · exact List.mem_cons_self
        · exact List.mem_cons_of_mem _ (List.mem_cons_of_mem _ hr)
      · obtain rfl | hy := List.mem_cons.mp hy
        · exact hall y List.mem_cons_self
        · obtain rfl | hy := List.mem_cons.mp hy
          · obtain hx' | ⟨hx', hk⟩ := hall x List.mem_cons_self
            · exact Or.inl (by omega)
            · by_cases heq : x.2.order = y.2.order
              · exact Or.inr ⟨by omega, by omega⟩
              · exact Or.inl (by omega)
          · exact hall y (List.mem_cons_of_mem _ hy)

/-- In a table in rising order a lookup finds the entry of its key. -/
theorem tget_eq_some_iff {α : Type} {t : Table α} (hp : t.Pairwise (fun y z => y.1 < z.1)) {k : Nat} {x : α} :
    tget t k = some x ↔ (k, x) ∈ t := by
  induction t with
  | nil => simp
  | cons e t ih =>
    obtain ⟨j, w⟩ := e
    obtain ⟨he, hp⟩ := List.pairwise_cons.mp hp
    by_cases hk : k = j
    · subst hk
      have absent : (k, x) ∉ t := fun hm => absurd (he _ hm) (lt_irrefl k)
      simp [tget, absent, eq_comm]
    · simp only [tget, List.lookup, beq_false_of_ne hk, List.mem_cons, Prod.mk.injEq, hk, false_and, false_or]
      exact ih hp

theorem nextToRamp_first {d : Dev} {m : Nat} {x : Bay} (hm : nextToRamp d = some m) (hp : d.bay.bays.Pairwise (fun y z => y.1 < z.1))
    (hx : tget d.bay.bays m = some x) : x.state = .queued
      ∧ ∀ k y, tget d.bay.bays k = some y → y.state = .queued → x.order < y.order ∨ (x.order = y.order ∧ m ≤ k) := by
  let queued := d.bay.bays.filter (fun e => e.2.state == .queued)
  have hq : queued.Pairwise (fun y z => y.1 < z.1) := hp.filter _
  have best : (queued.foldl earlier none).map (·.1) = some m := hm
  obtain ⟨r, hr, rfl⟩ := Option.map_eq_some_iff.mp best
  have first : r ∈ queued ∧ ∀ y ∈ queued, RampsFirst r y := by
    cases hl : queued with
    | nil => rw [hl] at hr; simp at hr
    | cons e l =>
      rw [hl] at hr hq
      obtain ⟨he, hq⟩ := List.pairwise_cons.mp hq
      exact foldl_earlier hq he hr
  obtain ⟨hmem, hall⟩ := first
  obtain ⟨hin, hs⟩ := List.mem_filter.mp hmem
  obtain rfl : r.2 = x := Option.some.inj (((tget_eq_some_iff hp).mpr hin).symm.trans hx)
  refine ⟨by simpa using hs, fun k y hk hy => ?_⟩
  exact hall (k, y) (List.mem_filter.mpr ⟨(tget_eq_some_iff hp).mp hk, by simpa using hy⟩)

/-! ## Faults (R466, R467) -/

/-- A fault at bay `n`: the bay is `x`, BAY_INT names it, the other bays stand, and beside the bays only the recorder, the interrupts,
the step of bring-up and the member manager changed. -/
structure BayHit (n : Nat) (x : Bay) (d e : Dev) : Prop where
  bay : bayOf e n = x
  int : e.bay.int.getLsbD n = true
  others : ∀ m, m ≠ n → bayOf e m = bayOf d m
  only : blank [.ev, .mhi, .boot, .shelf, .bay, .out] e = blank [.ev, .mhi, .boot, .shelf, .bay, .out] d

namespace BayHit
variable {n : Nat} {x : Bay} {d e f : Dev}

theorem of_bay_eq (h : BayHit n x d e) (hb : f.bay = e.bay)
    (ho : blank [.ev, .mhi, .boot, .shelf, .bay, .out] f = blank [.ev, .mhi, .boot, .shelf, .bay, .out] e) : BayHit n x d f :=
  ⟨(bayOf_congr (by rw [hb]) n).trans h.bay, by rw [hb]; exact h.int, fun m hm => (bayOf_congr (by rw [hb]) m).trans (h.others m hm),
    ho.trans h.only⟩

theorem logged (h : BayHit n x d e) (a b c l : Nat) : BayHit n x d (whileRuns (logEvent a b c l) e) := by
  unfold whileRuns
  split
  · obtain ⟨y, p, o, hl⟩ := logEvent_shape a b c l e
    exact h.of_bay_eq (logEvent_bay a b c l e) (by rw [hl]; rfl)
  · exact h

theorem endStep7 (h : BayHit n x d e) : BayHit n x d (Machine.endStep7 e) := by
  obtain ⟨k, a, p, o, hs⟩ := endStep7_shape e
  exact h.of_bay_eq (endStep7_bay e) (by rw [hs]; rfl)

end BayHit

theorem raiseBay_bays (i : Nat) (d : Dev) : (raiseBay i d).bay.bays = d.bay.bays := by
  obtain ⟨a, p, o, h⟩ := raiseBay_shape i d; rw [h]

theorem raiseBay_sets {i : Nat} (hi : i < 32) (d : Dev) : (raiseBay i d).bay.int.getLsbD i = true := by
  unfold raiseBay
  split
  next h => exact h
  next => rw [fireIf_bay]; exact setBit_getLsbD hi _

theorem faultAt_hit {n : Nat} (hn : n < 32) {d : Dev} (hr : coreRuns d = true) (b : Bay) : BayHit n b d (faultAt n b d) := by
  let e := if (bayOf d n).state = .on then lostLink n (setBay n b d) else setBay n b d
  have given : faultAt n b d = raiseBay n e := if_pos hr
  have bays : (raiseBay n e).bay.bays = (setBay n b d).bay.bays := by
    rw [raiseBay_bays]
    simp only [e]
    split <;> rfl
  rw [given]
  refine ⟨(bayOf_congr bays n).trans (bayOf_setBay n b d), raiseBay_sets hn e,
    fun m hm => (bayOf_congr bays m).trans (bayOf_setBay_ne hm b d), ?_⟩
  obtain ⟨a, p, o, h⟩ := raiseBay_shape n e
  rw [h]
  simp only [e]
  split <;> rfl

/-- The bay that a failed attempt leaves (R467). -/
def attempted (cause : Nat) (b : Bay) : Bay :=
  { gateDown b with cause := cause, attempts := min 3 (b.attempts + 1), state := if 2 ≤ b.attempts then .latched else .retry }

section
variable {n : Nat} (hn : n < 32) {d : Dev} (hr : coreRuns d = true)
include hn hr

theorem failedAttempt_hit (cause : Nat) (b : Bay) : BayHit n (attempted cause b) d (failedAttempt n cause b d) := by
  have third : (if min 3 (b.attempts + 1) = 3 then BayState.latched else .retry) = if 2 ≤ b.attempts then .latched else .retry := by
    split_ifs <;> first | rfl | omega
  unfold failedAttempt
  dsimp only
  rw [third]
  refine .endStep7 ?_
  split
  · exact ((faultAt_hit hn hr _).logged _ _ _ _).logged _ _ _ _
  · exact (faultAt_hit hn hr _).logged _ _ _ _

theorem vinFault_hit {b : Bay} (hb : bayOf d n = b) (hd : driven b = true) (cause vin : Nat) :
    BayHit n { gateDown b with cause := cause, vin := vin, state := .insert } d (vinFault n cause vin d) := by
  subst hb
  unfold vinFault
  dsimp only
  rw [if_pos hd]
  exact ((faultAt_hit hn hr _).logged _ _ _ _).endStep7

theorem fetDamaged_hit {vout : Nat} (hb : (bayOf d n).state ∉ [.ramping, .on, .fetFailed]) (hv : 1500 < vout) :
    BayHit n { gateDown (bayOf d n) with cause := 7, vout := vout, state := .fetFailed } d (fetDamaged n vout d) := by
  simp only [List.mem_cons, List.not_mem_nil, or_false, not_or] at hb
  obtain ⟨h1, h2, h3⟩ := hb
  unfold fetDamaged
  dsimp only
  rw [if_neg (by simp [driven, h1, h2, h3]; omega)]
  exact ((faultAt_hit hn hr _).logged _ _ _ _).endStep7

end

theorem driven_of_state {b : Bay} (h : b.state = .ramping ∨ b.state = .on) : driven b = true := by
  obtain h | h := h <;> simp [driven, h]

theorem exec_bayBreakerTrip (n ma : Nat) (s : State) : Gives (.bayBreakerTrip n ma) s
    (if driven (seeCurrent (bayOf s.dev n) ma) ∧ ((bayRecord s.dev n).breaker < ma ∨ !coreRuns s.dev) then
      failedAttempt n (if coreRuns s.dev ∧ 2 * (bayRecord s.dev n).breaker < ma then 2 else 1) (seeCurrent (bayOf s.dev n) ma) s.dev
      else s.dev) := rfl
theorem exec_bayFastTrip (n ma : Nat) (s : State) : Gives (.bayFastTrip n ma) s
    (if driven (seeCurrent (bayOf s.dev n) ma) ∧ (2 * (bayRecord s.dev n).breaker < ma ∨ !coreRuns s.dev) then
      failedAttempt n 2 (seeCurrent (bayOf s.dev n) ma) s.dev else s.dev) := rfl
theorem exec_bayRampTimeout (n : Nat) (s : State) : Gives (.bayRampTimeout n) s
    (if (bayOf s.dev n).state = .ramping then failedAttempt n 3 (bayOf s.dev n) s.dev else s.dev) := rfl
theorem exec_bayPowerGoodLost (n v : Nat) (s : State) : Gives (.bayPowerGoodLost n v) s
    (if (bayOf s.dev n).state = .on ∧ (vinInside s.dev n (bayOf s.dev n).vin ∨ !coreRuns s.dev) then
      failedAttempt n 4 { bayOf s.dev n with vout := v } s.dev else s.dev) := rfl
theorem exec_bayVinUnder (n v : Nat) (s : State) : Gives (.bayVinUnder n v) s
    (if v < (bayRecord s.dev n).uv ∨ !coreRuns s.dev then vinFault n 5 v s.dev else s.dev) := rfl
theorem exec_bayVinOver (n v : Nat) (s : State) : Gives (.bayVinOver n v) s
    (if (bayRecord s.dev n).ov < v ∨ !coreRuns s.dev then vinFault n 6 v s.dev else s.dev) := rfl
theorem exec_bayFetDamaged (n v : Nat) (s : State) : Gives (.bayFetDamaged n v) s (fetDamaged n v s.dev) := rfl

/-! ## BAY_CTRL (R469, R471) -/

/-- What BAY_CTRL does to one bay, by CMD. -/
def bayCommand (cmd : Nat) (vout : Nat) (n : Nat) : Dev → Dev :=
  match cmd with
  | 1 => bayOn n
  | 2 => bayOff n
  | 3 => bayClear vout n
  | _ => fun x => x

theorem bayCtrl_one {v : Reg} {d : Dev} (hr : coreRuns d = true) (ho : blocksOpen d = true) (hall : v.getLsbD 13 = false) (f : Nat → Nat) :
    bayCtrl v f d = bayCommand (bits v.toNat 1 0) (f (bits v.toNat 12 8)) (bits v.toNat 12 8) d := by
  have one : (if v.getLsbD 13 then List.range 32 else [bits v.toNat 12 8]) = [bits v.toNat 12 8] := if_neg (by rw [hall]; decide)
  unfold bayCtrl bayCommand
  rw [if_pos ⟨hr, ho⟩, one]
  generalize bits v.toNat 1 0 = cmd
  match cmd with
  | 0 | 1 | 2 | 3 | _ + 4 => rfl

theorem bayCtrl_closed {d : Dev} (ho : blocksOpen d = false) (v : Reg) (f : Nat → Nat) : bayCtrl v f d = d :=
  if_neg (by simp [ho])

/-- A field of a register, taken as a slice of it. -/
theorem bits_eq_extract (v : Reg) (hi lo : Nat) : bits v.toNat hi lo = (v.extractLsb' lo (hi + 1 - lo)).toNat := by
  rw [bits, BitVec.extractLsb'_toNat, Nat.shiftRight_eq_div_pow]

/-- BAY_CTRL with the CMD `k`: its other bits are those of `v`. -/
def withCmd (v : Reg) (k : BitVec 2) : Reg := (v &&& ~~~3#32) ||| k.setWidth 32

theorem withCmd_getLsbD (v : Reg) (k : BitVec 2) {i : Nat} (hi : 2 ≤ i) : (withCmd v k).getLsbD i = v.getLsbD i := by
  have outside : (3#32).getLsbD i = false := by
    rw [show (3#32) = (3#2).setWidth 32 from rfl, BitVec.getLsbD_setWidth, BitVec.getLsbD_of_ge (3#2) i hi, Bool.and_false]
  have beyond : k.getLsbD i = false := BitVec.getLsbD_of_ge k i hi
  simp only [withCmd, BitVec.getLsbD_or, BitVec.getLsbD_and, BitVec.getLsbD_not, outside, BitVec.getLsbD_setWidth, beyond]
  by_cases h : i < 32
  · simp [h]
  · simp [h, BitVec.getLsbD_of_ge v i (by omega)]

theorem withCmd_bay (v : Reg) (k : BitVec 2) : bits (withCmd v k).toNat 12 8 = bits v.toNat 12 8 := by
  rw [bits_eq_extract, bits_eq_extract]
  refine congrArg BitVec.toNat (BitVec.eq_of_getLsbD_eq fun i hi => ?_)
  rw [BitVec.getLsbD_extractLsb', BitVec.getLsbD_extractLsb', withCmd_getLsbD v k (by omega)]

theorem withCmd_cmd (v : Reg) (k : BitVec 2) : bits (withCmd v k).toNat 1 0 = k.toNat := by
  rw [bits_eq_extract]
  refine congrArg BitVec.toNat (BitVec.eq_of_getLsbD_eq fun i hi => ?_)
  have inside : (3#32).getLsbD i = true := by
    obtain rfl | rfl : i = 0 ∨ i = 1 := by omega
    all_goals rfl
  rw [BitVec.getLsbD_extractLsb', withCmd, BitVec.getLsbD_or, BitVec.getLsbD_and, BitVec.getLsbD_not, Nat.zero_add, inside]
  simp [hi, show i < 32 by omega]

theorem or_three (v : Reg) : v ||| 3#32 = withCmd v 3#2 := by
  refine BitVec.eq_of_getLsbD_eq fun i hi => ?_
  simp only [withCmd, BitVec.getLsbD_or, BitVec.getLsbD_and, BitVec.getLsbD_not, hi, BitVec.getLsbD_setWidth, decide_true, Bool.true_and]
  rw [show (3#32) = (3#2).setWidth 32 from rfl, BitVec.getLsbD_setWidth]
  cases v.getLsbD i <;> simp [hi]

theorem exec_bayCtrlOn_withCmd (v : Reg) (s : State) : Gives (.bayCtrlOn v) s (bayCtrl (withCmd v 1#2) (fun _ => 0) s.dev) := rfl
theorem exec_bayCtrlOff_withCmd (v : Reg) (s : State) : Gives (.bayCtrlOff v) s (bayCtrl (withCmd v 2#2) (fun _ => 0) s.dev) := rfl
theorem exec_bayCtrlClear_withCmd (v : Reg) (vout : Nat) (s : State) :
    Gives (.bayCtrlClear v vout) s (bayCtrl (withCmd v 3#2) (fun _ => vout) s.dev) := or_three v ▸ rfl

section
variable {v : Reg} {s : State} (hr : coreRuns s.dev = true) (ho : blocksOpen s.dev = true) (hall : v.getLsbD 13 = false)
include hr ho hall

theorem bayCtrl_withCmd (k : BitVec 2) (f : Nat → Nat) :
    bayCtrl (withCmd v k) f s.dev = bayCommand k.toNat (f (bits v.toNat 12 8)) (bits v.toNat 12 8) s.dev := by
  rw [bayCtrl_one hr ho ((withCmd_getLsbD v k (by omega)).trans hall), withCmd_bay, withCmd_cmd]

theorem exec_bayCtrlOn : Gives (.bayCtrlOn v) s (bayOn (bits v.toNat 12 8) s.dev) :=
  gives_congr (exec_bayCtrlOn_withCmd v s) (bayCtrl_withCmd hr ho hall _ _)

theorem exec_bayCtrlOff : Gives (.bayCtrlOff v) s (bayOff (bits v.toNat 12 8) s.dev) :=
  gives_congr (exec_bayCtrlOff_withCmd v s) (bayCtrl_withCmd hr ho hall _ _)

theorem exec_bayCtrlClear (vout : Nat) : Gives (.bayCtrlClear v vout) s (bayClear vout (bits v.toNat 12 8) s.dev) :=
  gives_congr (exec_bayCtrlClear_withCmd v vout s) (bayCtrl_withCmd hr ho hall _ _)

end

section
variable {d : Dev} {n : Nat}

theorem bayOff_ignored (h : (bayOf d n).state = .latched ∨ (bayOf d n).state = .fetFailed) : bayOff n d = d := if_pos h

theorem bayOff_driven (h : (bayOf d n).state = .ramping ∨ (bayOf d n).state = .on) :
    bayOff n d = endStep7 (driveGone n (setBay n { gateDown (bayOf d n) with state := .off, cmdOff := true } d)) := by
  unfold bayOff
  dsimp only
  rw [if_neg (by obtain h | h := h <;> simp [h]), if_pos (driven_of_state h)]

theorem bayOff_undriven (h : (bayOf d n).state ∉ [.latched, .fetFailed, .ramping, .on]) :
    bayOff n d = endStep7 (setBay n { gateDown (bayOf d n) with state := .off, cmdOff := true } d) := by
  simp only [List.mem_cons, List.not_mem_nil, or_false, not_or] at h
  obtain ⟨hl, hf, hr, ho⟩ := h
  unfold bayOff
  dsimp only
  rw [if_neg (by simp [hl, hf]), if_neg (by simp [driven, hr, ho])]

theorem bayClear_latched (h : (bayOf d n).state = .latched) (vout : Nat) :
    bayClear vout n d = setBay n { bayOf d n with state := .empty, attempts := 0 } d := by
  simp only [bayClear, h]

theorem bayClear_fetFailed (h : (bayOf d n).state = .fetFailed) (vout : Nat) : bayClear vout n d =
    if vout ≤ 500 then setBay n { bayOf d n with vout := vout, state := restState (bayOf d n), attempts := 0 } d
    else logEvent 0x0E 5 1 (payload n 0 0 0) (setBay n { bayOf d n with vout := vout } d) := by
  simp only [bayClear, h]

theorem prsntDeassert_falls (hn : n < 32) (hr : coreRuns d = true) (hp : (bayOf d n).prsnt = true) : prsntDeassert n d =
    endStep7 (driveGone n (raiseBayChange n (setBay n
      (if (bayOf d n).state = .fetFailed then { gateDown (bayOf d n) with prsnt := false, attempts := 0 }
        else { gateDown (bayOf d n) with prsnt := false, attempts := 0, state := .empty, cmdOff := false }) d))) := by
  unfold prsntDeassert
  dsimp only
  rw [if_neg (by simp [hp]; omega)]
  refine congrArg endStep7 ((whileRuns_runs (by exact hr) _).trans ?_)
  split <;> rfl

end

theorem exec_bayCtrl_closed {s : State} (ho : blocksOpen s.dev = false) (v : Reg) (vout : Nat) :
    Gives (.bayCtrlOn v) s s.dev ∧ Gives (.bayCtrlOff v) s s.dev ∧ Gives (.bayCtrlClear v vout) s s.dev :=
  ⟨gives_congr (exec_bayCtrlOn_withCmd v s) (bayCtrl_closed ho _ _), gives_congr (exec_bayCtrlOff_withCmd v s) (bayCtrl_closed ho _ _),
    gives_congr (exec_bayCtrlClear_withCmd v vout s) (bayCtrl_closed ho _ _)⟩

end Sys2Proof.Machine

open Sys2Proof Sys2Proof.Machine

/-- Settles O14: step 7, then from PRSNT to power-good, then the order of the ramps. -/
theorem bayPowersOn : Obligations.BayPowersOn := by
  intro s n d b
  refine ⟨fun hr h7 => ?_, fun vin hn hr hp => ?_, fun hb => ⟨fun vin hs hp => ⟨fun hv => ?_, fun hv => ?_⟩, fun hlt hnext => ?_, fun hle => ?_,
    fun hs hg => ?_⟩, fun hs => ?_, fun v hs => ⟨fun hg hv => ?_, fun hv => ?_, fun hg hv => ?_⟩, fun hg => ?_,
    fun m x hm hp hx => nextToRamp_first hm hp hx⟩
  · let e := { d with bay.bays := tall d.bay.bays insertBay }
    refine ⟨_, exec_bayBringupPower s, ?_⟩
    rw [bringupBays_eq hr h7]
    refine ⟨fun m x hx => ?_, ?_, ?_, rfl, rfl⟩
    · have taken : tget (endStep7 e).bay.bays m = some (insertBay x) := by
        rw [endStep7_bay]
        show tget (tall d.bay.bays insertBay) m = _
        rw [tget_tall, hx, Option.map_some]
      refine ⟨fun hs hp => taken.trans (by simp [insertBay, hs, hp]), fun hs => taken.trans ?_⟩
      obtain hs | hs := hs <;> simp [insertBay, hs]
    · refine (endStep7_step (d := e) hr h7).trans ?_
      rw [endStep7_bay]
      rfl
    · obtain ⟨k, a, p, o, h⟩ := endStep7_shape e
      show blank _ (endStep7 e) = _
      rw [h]
      rfl
  · exact gives_congr (exec_bayPrsntAssert n vin s) (prsntAssert_rises hn hr hp)
  · exact gives_congr (exec_bayInsertDelayExpiry n vin s) ((insertExpiry_inserted hb hs hp vin).trans (if_pos hv))
  · exact gives_congr (exec_bayInsertDelayExpiry n vin s) ((insertExpiry_inserted hb hs hp vin).trans (if_neg (by simp [hv])))
  · exact gives_congr (exec_bayRampStart n s) (if_pos ⟨hb, hnext, hlt⟩)
  · exact gives_congr (exec_bayRampStart n s) (if_neg fun h => absurd h.2.2 (Nat.not_lt.mpr hle))
  · exact gives_congr (exec_bayPerstRelease n s) (if_pos ⟨hb, hs, hg⟩)
  · exact gives_congr (exec_bayRetryExpiry n s) (if_pos hs)
  · exact gives_congr (exec_bayRampReached n v s) (if_pos ⟨hs, hg, hv⟩)
  · exact gives_congr (exec_bayRampReached n v s) (if_neg fun h => absurd h.2.2 (Nat.not_le.mpr hv))
  · exact gives_congr (exec_bayPowerGood n v s) (if_pos ⟨hs, hg, Or.inl hv⟩)
  · exact gives_congr (exec_bayAttemptsReset n s) (if_pos hg)

/-- Settles O15: the faults by cause, the readings inside their limits, and the pull and the commands by the bay's state. -/
theorem bayFaults : Obligations.BayFaults := by
  refine ⟨fun s n => ?_, fun s v => ?_⟩
  · intro d b r hit attempt
    have hits {c : Instr} {e : Dev} {x : Bay} (he : Gives c s e) (h : BayHit n x d e) : Leads c s (hit x) :=
      ⟨_, he, h.bay, h.int, h.others, h.only, rfl, rfl⟩
    have inside (hr : coreRuns d = true) {x y : Nat} (hle : x ≤ y) : ¬ (y < x ∨ (!coreRuns d) = true) := by simp [hr, hle]
    refine ⟨fun hn hr => ⟨fun ma hs => ?_, fun hs => ?_, fun v hs hv => ?_, fun v hs => ⟨fun hv => ?_, fun hv => ?_⟩, fun v hs hv => ?_⟩,
      fun ma hr hle => ⟨?_, ?_⟩, fun v hr => ⟨fun hle => ?_, fun hle => ?_⟩, fun v hv => ?_⟩
    · have seen : driven (seeCurrent b ma) = true := driven_of_state hs
      refine ⟨fun h1 h2 => hits (gives_congr (exec_bayBreakerTrip n ma s) (if_pos ⟨seen, Or.inl h1⟩)) ?_,
        fun h1 h2 => hits (gives_congr (exec_bayBreakerTrip n ma s) (if_pos ⟨seen, Or.inl h1⟩)) ?_,
        fun h2 => hits (gives_congr (exec_bayFastTrip n ma s) (if_pos ⟨seen, Or.inl h2⟩)) (failedAttempt_hit hn hr 2 _)⟩
      · rw [if_neg fun h => absurd h.2 (Nat.not_lt.mpr h2)]
        exact failedAttempt_hit hn hr 1 _
      · rw [if_pos ⟨hr, h2⟩]
        exact failedAttempt_hit hn hr 2 _
    · exact hits (gives_congr (exec_bayRampTimeout n s) (if_pos hs)) (failedAttempt_hit hn hr 3 _)
    · exact hits (gives_congr (exec_bayPowerGoodLost n v s) (if_pos ⟨hs, Or.inl hv⟩)) (failedAttempt_hit hn hr 4 _)
    · exact hits (gives_congr (exec_bayVinUnder n v s) (if_pos (Or.inl hv))) (vinFault_hit hn hr rfl (driven_of_state hs) 5 v)
    · exact hits (gives_congr (exec_bayVinOver n v s) (if_pos (Or.inl hv))) (vinFault_hit hn hr rfl (driven_of_state hs) 6 v)
    · exact hits (exec_bayFetDamaged n v s) (fetDamaged_hit hn hr hs hv)
    · exact gives_congr (exec_bayBreakerTrip n ma s) (if_neg fun h => inside hr hle h.2)
    · exact gives_congr (exec_bayFastTrip n ma s) (if_neg fun h => inside hr (hle.trans (Nat.le_mul_of_pos_left _ (by decide))) h.2)
    · exact gives_congr (exec_bayVinUnder n v s) (if_neg (inside hr hle))
    · exact gives_congr (exec_bayVinOver n v s) (if_neg (inside hr hle))
    · exact gives_congr (exec_bayFetDamaged n v s) (if_pos (Or.inr (Or.inr (Or.inr hv))))
  · intro d n b rest
    refine ⟨fun k hk hp hr => gives_congr (rfl : Gives (.bayPrsntDeassert k) s (prsntDeassert k d)) (prsntDeassert_falls hk hr hp),
      fun hr ho hall => ⟨fun hc => gives_congr (exec_bayCtrlOn hr ho hall) (if_pos hc),
        fun hs => gives_congr (exec_bayCtrlOff hr ho hall) (bayOff_ignored hs),
        fun hs => gives_congr (exec_bayCtrlOff hr ho hall) (bayOff_driven hs),
        fun hs => gives_congr (exec_bayCtrlOff hr ho hall) (bayOff_undriven hs),
        fun vout => ⟨fun hs => gives_congr (exec_bayCtrlClear hr ho hall vout) (bayClear_latched hs vout),
          fun hs hle => gives_congr (exec_bayCtrlClear hr ho hall vout) ((bayClear_fetFailed hs vout).trans (if_pos hle)),
          fun hs hlt => gives_congr (exec_bayCtrlClear hr ho hall vout)
            ((bayClear_fetFailed hs vout).trans (if_neg (Nat.not_le.mpr hlt)))⟩⟩,
      fun vout ho => exec_bayCtrl_closed ho v vout⟩
end


section
/-! PROOF. Stops, the reset of the core and the steps of bring-up (O16, O17). -/

namespace Sys2Proof.Machine

/-! ## Conditions of the core -/

theorem coreRuns_iff (d : Dev) : coreRuns d = true ↔
    coreHeld d = false ∧ d.boot.clocksStopped = false ∧ d.boot.pfailStopped = false ∧ d.pool.state ≠ .stopped := by
  simp [coreRuns, and_assoc]

theorem coreHeld_eq_false_iff (d : Dev) : coreHeld d = false ↔ d.boot.porstN = true ∧ d.boot.fenceHold = false
    ∧ d.boot.tlineHold = false ∧ d.boot.junctionHold = false ∧ d.boot.railsLow = [] := by
  simp [coreHeld, and_assoc]

theorem coreHeld_of_runs {d : Dev} (h : coreRuns d = true) : coreHeld d = false := ((coreRuns_iff d).mp h).1

theorem porstN_of_runs {d : Dev} (h : coreRuns d = true) : d.boot.porstN = true :=
  ((coreHeld_eq_false_iff d).mp (coreHeld_of_runs h)).1

theorem railsLow_of_runs {d : Dev} (h : coreRuns d = true) : d.boot.railsLow = [] :=
  ((coreHeld_eq_false_iff d).mp (coreHeld_of_runs h)).2.2.2.2

theorem tget_tall_of_tget {α : Type} {t : Table α} {k : Nat} {x : α} (h : tget t k = some x) (f : α → α) :
    tget (tall t f) k = some (f x) := by
  rw [tget_tall, h, Option.map_some]

/-! ## The stop (03 R89) -/

/-- The first part of the stop: what the device served is dropped, and GLOBAL_INT tells it. -/
def stopServing (d : Dev) : Dev := (if d.boot.serving then raiseGlobal 3 else id) (dropHosts d)

theorem stopServing_shape (d : Dev) : ∃ a p o, stopServing d = { dropHosts d with mhi.int := a, mhi.msixPending := p, out := o } := by
  unfold stopServing
  split
  · exact ⟨_, _, _, (raiseGlobal_shape 3 (dropHosts d)).choose_spec.choose_spec.choose_spec⟩
  · exact ⟨_, _, _, rfl⟩

theorem stopDevice_idle {d : Dev} (h : d.pool.state = .off ∨ d.pool.state = .failed ∨ d.pool.state = .stopped) :
    stopDevice d = stopServing d := by
  obtain h | h | h := h <;> simp only [stopDevice, h] <;> rfl

theorem stopDevice_live {d : Dev} (h : d.pool.state ∉ [.off, .failed, .stopped]) : stopDevice d =
    zeroizeKeys (writeStopMarker (flushEvents (finishWrites { stopServing d with pool.state := .stopping }))) := by
  simp only [List.mem_cons, List.not_mem_nil, or_false, not_or] at h
  obtain ⟨ho, hf, hs⟩ := h
  unfold stopDevice
  dsimp only
  split <;> first | contradiction | rfl

theorem writeStopMarker_shape (d : Dev) : ∃ j p o, writeStopMarker d = { d with
    pool.state := .stopped, pool.int := j, mhi.msixPending := p, out := o, pool.control := d.pool.control.map (fun c =>
      { c with stopMarker := some (c.bootCount, (d.ev.nextEsn.getD 1) - 1, d.pool.ptr), pointer := d.pool.ptr }) } :=
  ⟨_, _, _, (raisePool_shape 4 _).choose_spec.choose_spec.choose_spec⟩

/-- The stop of a pool that is written, field by field. -/
theorem stopDevice_live_shape {d : Dev} (h : d.pool.state ∉ [.off, .failed, .stopped]) : ∃ a p o i j, stopDevice d =
    zeroizeKeys { finishWrites (dropHosts d) with
      mhi.int := a, mhi.msixPending := p, out := o, ev.slots := d.ev.slots ++ d.ev.buffer.map some, ev.buffer := [], ev.int := i
      pool.int := j, pool.state := .stopped, pool.control := d.pool.control.map (fun c =>
        { c with stopMarker := some (c.bootCount, (d.ev.nextEsn.getD 1) - 1, d.pool.ptr), pointer := d.pool.ptr }) } := by
  obtain ⟨a, p, o, hs⟩ := stopServing_shape d
  obtain ⟨i, p, o, hf⟩ := flushEvents_shape (finishWrites { stopServing d with pool.state := .stopping })
  obtain ⟨j, p, o, hm⟩ := writeStopMarker_shape (flushEvents (finishWrites { stopServing d with pool.state := .stopping }))
  rw [stopDevice_live h, hm, hf, hs]
  exact ⟨_, _, _, _, _, rfl⟩

/-- What every stop leaves of what the device served. -/
theorem stopDevice_drops (d : Dev) : (stopDevice d).host.ctrls = [] ∧ (stopDevice d).host.sqs = [] ∧ (stopDevice d).net.qps = []
    ∧ (stopDevice d).adm = {} ∧ (stopDevice d).shelf.cmds = [] ∧ (stopDevice d).pool.waiting = []
    ∧ (stopDevice d).host.admissionOpen = false ∧ (stopDevice d).boot.serving = false ∧ (stopDevice d).mhi.mboxBusy = false := by
  by_cases h : d.pool.state ∈ [.off, .failed, .stopped]
  · obtain ⟨a, p, o, hs⟩ := stopServing_shape d
    rw [stopDevice_idle (by simpa using h), hs]
    exact ⟨rfl, rfl, rfl, rfl, rfl, rfl, rfl, rfl, rfl⟩
  · obtain ⟨a, p, o, i, j, hs⟩ := stopDevice_live_shape h
    rw [hs]
    exact ⟨rfl, rfl, rfl, rfl, rfl, rfl, rfl, rfl, rfl⟩

/-! ## A start (15 R442) -/

theorem clockStart_clk (d : Dev) : ∃ e p o, clockStart d = { d with clk := {}, ev := e, mhi.msixPending := p, out := o } := by
  unfold clockStart
  extract_lets d1 d2
  obtain ⟨e, p, o, h⟩ := logEvent_shape 9 4 1 (payload 0 0 0 0) d1
  split
  · exact ⟨e, p, o, h⟩
  · obtain ⟨e', p', o', h'⟩ := logEvent_shape 9 9 1 (payload 0 0 0 0) d2
    rw [h', show d2 = _ from h]
    exact ⟨e', p', o', rfl⟩

/-- The device where bring-up takes over from the reset. -/
def atStart (d : Dev) : Dev :=
  { d with boot.started := true, boot.step := 1, boot.code := 0, boot.clocksStopped := false,
           pair.side := b2n d.boot.straps.pairSide, mhi.inReset := !d.mhi.perstN,
           bay.bays := tall d.bay.bays (fun b => if b.cmdOff then
             { b with cmdOff := false, state := if b.state = .off then (if b.prsnt then .insert else .empty) else b.state } else b) }

theorem beginStart_held {d : Dev} (h : coreHeld d = true) : beginStart d = d := if_pos h
theorem beginStart_free {d : Dev} (h : coreHeld d = false) : beginStart d = startNumbering (clockStart (atStart d)) :=
  if_neg (by rw [h]; decide)

theorem startNumbering_head {d : Dev} (h : d.boot.straps.tliHead = true) :
    startNumbering d = { d with tline.addr := some 0, tline.head := true, tline.settled := true } := if_pos h
theorem startNumbering_tail {d : Dev} (h : d.boot.straps.tliHead = false) :
    startNumbering d = { d with tline.head := false, tline.settled := d.tline.addr.isSome } := if_neg (by rw [h]; decide)

theorem beginStart_begins {d : Dev} (h : coreHeld d = false) :
    (beginStart d).boot.step = 1 ∧ (beginStart d).boot.code = 0 ∧ (beginStart d).clk = {}
    ∧ (beginStart d).pair.side = b2n d.boot.straps.pairSide ∧ (beginStart d).boot.clocksStopped = false
    ∧ (d.boot.straps.tliHead = true → (beginStart d).tline.addr = some 0)
    ∧ (d.boot.straps.tliHead = false → (beginStart d).tline.addr = d.tline.addr) := by
  obtain ⟨e, p, o, hc⟩ := clockStart_clk (atStart d)
  cases ht : d.boot.straps.tliHead
  · rw [beginStart_free h, hc, startNumbering_tail (by exact ht)]
    exact ⟨rfl, rfl, rfl, rfl, rfl, nofun, fun _ => rfl⟩
  · rw [beginStart_free h, hc, startNumbering_head (by exact ht)]
    exact ⟨rfl, rfl, rfl, rfl, rfl, fun _ => rfl, nofun⟩

/-! ## The pins and monitors -/

section
variable (s : State)

theorem exec_porstNRelease (x : Straps) : Gives (.porstNRelease x) s (porstRelease x s.dev) := rfl
theorem exec_porstNAssert : Gives .porstNAssert s (porstAssert s.dev) := rfl
theorem exec_pfailNFall : Gives .pfailNFall s (pfailFall s.dev) := rfl
theorem exec_pfailNRise : Gives .pfailNRise s { s.dev with boot.pfailN := true } := rfl
theorem exec_fenceInHold : Gives .fenceInHold s (fenceHold s.dev) := rfl
theorem exec_fenceInRelease (x : Straps) : Gives (.fenceInRelease x) s (fenceRelease s.dev) := rfl
theorem exec_mhiPerstNAssert : Gives .mhiPerstNAssert s
    { s.dev with mhi.perstN := false, mhi.inReset := true, mhi.msixTable := [], mhi.msixPending := 0 } := rfl
theorem exec_mhiPerstNRelease : Gives .mhiPerstNRelease s { s.dev with mhi.perstN := true, mhi.inReset := coreHeld s.dev } := rfl
theorem exec_railMonitorTrip (x : RailTrip) : Gives (.railMonitorTrip x) s (railTrip x.rail x.torn s.dev) := rfl
theorem exec_railMonitorRelease (r : Nat) : Gives (.railMonitorRelease r) s (railRelease r s.dev) := rfl
theorem exec_junctionLimit (t : Int) : Gives (.junctionLimit t) s (junctionLimit t s.dev) := rfl
theorem exec_thermalTrip : Gives .thermalTrip s (if coreHeld s.dev then s.dev
    else { (if coreRuns s.dev then abruptStop s.dev else s.dev) with boot.clocksStopped := true, boot.junctionHold := true }) := rfl
theorem exec_globalResetRestart (v : Reg) : Gives (.globalResetRestart v) s (globalReset (v ||| 1#32) s.dev) := rfl

end

theorem stopDevice_railsLow (d : Dev) : (stopDevice d).boot.railsLow = d.boot.railsLow := by
  by_cases h : d.pool.state ∈ [.off, .failed, .stopped]
  · obtain ⟨a, p, o, hs⟩ := stopServing_shape d
    rw [stopDevice_idle (by simpa using h), hs]
    rfl
  · obtain ⟨a, p, o, i, j, hs⟩ := stopDevice_live_shape h
    rw [hs]
    rfl

section
variable {d : Dev} (hr : coreRuns d = true)
include hr

theorem stopIfRuns_runs : stopIfRuns d = stopDevice d := if_pos hr

theorem porstAssert_stops : porstAssert d = resetCore false { stopDevice d with boot.porstN := false } := by
  rw [porstAssert, if_pos (porstN_of_runs hr), stopIfRuns_runs hr]

theorem pfailFall_stops : pfailFall d = { stopDevice { d with boot.pfailN := false } with boot.pfailStopped := true } := if_pos hr

theorem fenceHold_stops : fenceHold d = resetCore false { stopDevice d with boot.fenceHold := true } := by
  have free := ((coreHeld_eq_false_iff d).mp (coreHeld_of_runs hr)).2.1
  rw [fenceHold, if_neg (by rw [free]; decide), stopIfRuns_runs hr]

theorem abruptStop_railsLow : (abruptStop d).boot.railsLow = [] := by
  have low := railsLow_of_runs hr
  by_cases h : Config.freeValue d.draws % 2 = 0
  · rw [show abruptStop d = stopDevice { d with draws := d.draws + 1 } from if_pos h, stopDevice_railsLow]
    exact low
  · exact (congrArg (fun x => x.boot.railsLow) (if_neg h : abruptStop d = zeroizeKeys _)).trans low

theorem railTrip_stops {rail : Nat} (hlt : rail < vddIo) (torn : FlashTear) : railTrip rail torn d =
    resetCore false { abruptStop d with boot.junctionHold := true, boot.torn := torn, boot.railsLow := [rail] } := by
  unfold railTrip
  rw [if_neg (by rw [railsLow_of_runs hr]; simp; omega), if_pos hr, if_neg (Nat.ne_of_lt hlt)]
  dsimp only
  rw [abruptStop_railsLow hr, List.nil_append]

end

theorem restart_or (v : Reg) : bits (v ||| 1#32).toNat 15 8 = bits v.toNat 15 8 := by
  rw [bits_eq_extract, bits_eq_extract]
  refine congrArg BitVec.toNat (BitVec.eq_of_getLsbD_eq fun i hi => ?_)
  have above : (1#32).getLsbD (8 + i) = false := by simp
  rw [BitVec.getLsbD_extractLsb', BitVec.getLsbD_extractLsb', BitVec.getLsbD_or, above, Bool.or_false]

end Sys2Proof.Machine

open Sys2Proof Sys2Proof.Machine

/-- Settles O16: what the stop and the reset leave, then pin by pin. -/
theorem resetAndStops : Obligations.ResetAndStops := by
  refine ⟨fun d => ?_, fun s => ?_⟩
  · obtain ⟨h1, h2, h3, h4, h5, h6, h7, h8, h9⟩ := stopDevice_drops d
    refine ⟨h1, h2, h3, h4, h5, h6, h7, h8, h9, fun h => ?_, fun h => ?_,
      rfl, rfl, rfl, rfl, rfl, rfl, rfl, rfl, rfl, rfl, rfl, rfl, rfl, rfl, fun n b hb => ?_⟩
    · obtain ⟨a, p, o, i, j, hs⟩ := stopDevice_live_shape h
      rw [hs]
      exact ⟨rfl, rfl, rfl, rfl, rfl, rfl, rfl, fun n c hc => tget_tall_of_tget hc (fun c => { c with keyAvailable := false })⟩
    · obtain ⟨a, p, o, hs⟩ := stopServing_shape d
      rw [stopDevice_idle (Or.inl h), hs]
      exact ⟨rfl, rfl, h, rfl⟩
    · exact tget_tall_of_tget hb (fun b => { b with perst := true })
  · intro d
    refine ⟨fun hr => ⟨gives_congr (exec_porstNAssert s) (porstAssert_stops hr), gives_congr (exec_pfailNFall s) (pfailFall_stops hr),
        fun _ => gives_congr (exec_fenceInHold s) (fenceHold_stops hr),
        fun t ht => gives_congr (exec_junctionLimit s t) (if_pos ⟨hr, ht⟩),
        fun x hx => gives_congr (exec_railMonitorTrip s x) (railTrip_stops hr hx x.torn),
        gives_congr (exec_thermalTrip s) ?_, fun v hm hv => gives_congr (exec_globalResetRestart s v) ?_⟩,
      fun v hv => gives_congr (exec_globalResetRestart s v) ?_, exec_pfailNRise s,
      fun hr => gives_congr (exec_pfailNFall s) (if_neg (by simpa using hr)),
      fun x hp => gives_congr (exec_porstNRelease s x) (if_neg (ne_true_of_eq_false hp)),
      fun x => ⟨fun hf => gives_congr (exec_fenceInRelease s x) (if_pos hf),
        fun hf => gives_congr (exec_fenceInRelease s x) (if_neg (ne_true_of_eq_false hf))⟩,
      fun r hr hlt => gives_congr (exec_railMonitorRelease s r) ?_, exec_mhiPerstNAssert s, exec_mhiPerstNRelease s,
      beginStart_held, beginStart_begins⟩
    · rw [if_neg (ne_true_of_eq_false (coreHeld_of_runs hr)), if_pos hr]
    · exact if_pos ⟨hr, by simpa using hm, (restart_or v).trans hv⟩
    · exact if_neg fun h => hv ((restart_or v).symm.trans h.2.2)
    · have other : (r == vddIo) = false := by simpa using Nat.ne_of_lt hlt
      rw [railRelease, if_pos (by simpa using hr), other, Bool.or_false]

namespace Sys2Proof.Machine

/-! ## The steps (15 R442) -/

section
variable (s : State)

theorem exec_sfdpRead (a b : FlashProbe) : Gives (.sfdpRead a b) s (sfdpRead a b s.dev) := rfl
theorem exec_firmwareLoad : Gives .firmwareLoad s (firmwareLoad s.dev s.mem) := rfl
theorem exec_hbmTrain (a b : Bool) : Gives (.hbmTrain a b) s (hbmTrain a b s.dev) := rfl
theorem exec_poolRecovery (fs : List PoolFault) : Gives (.poolRecovery fs) s (poolRecovery fs s.dev) := rfl
theorem exec_tidelineWait (t : Bool) : Gives (.tidelineWait t) s (tidelineWait t s.dev) := rfl
theorem exec_shoalAssembly (ps : List DriveProbe) (r : Option ShelfRecord) :
    Gives (.shoalAssembly ps r) s (shoalAssembly ps r s.dev s.mem) := rfl
theorem exec_openAdmission (ls : List Nat) : Gives (.openAdmission ls) s (openAdmission ls s.dev) := rfl

end

theorem setStep_same {n : Nat} {d : Dev} (h : d.boot.step = n) : setStep n d = d := if_pos h

section
variable {d : Dev}

theorem flashFound_absent {p : FlashProbe} (h : p.present = false) (octal : Bool) : flashFound octal p = { present := false, qualifies := false } := by
  simp [flashFound, h]

/-- The device with what step 2 found on both chip selects. -/
def withFlash (a b : FlashProbe) (d : Dev) : Dev :=
  { d with boot.flash0 := flashFound d.boot.straps.flashMode a, boot.flash1 := flashFound d.boot.straps.flashMode b }

theorem sfdpRead_second_absent (hr : coreRuns d = true) (hs : d.boot.step ≤ 2) (hc : d.boot.code = 0) {b : FlashProbe}
    (hb : b.present = false) (a : FlashProbe) : sfdpRead a b d = if (flashFound d.boot.straps.flashMode a).qualifies then
      setStep 3 (withFlash a b d) else bringupFail 1 (setStep 2 (withFlash a b d)) := by
  have quiet : ¬ ((flashFound d.boot.straps.flashMode b).present = true ∧ (!(flashFound d.boot.straps.flashMode b).qualifies) = true) := by
    simp [flashFound_absent hb]
  unfold sfdpRead
  dsimp only
  rw [if_pos ⟨hr, hs, hc⟩, if_neg quiet]
  rfl

theorem firmwareLoad_none (hr : coreRuns d = true) (hs : d.boot.step = 3) (hc : d.boot.code = 0) {m : Memory}
    (h : runSlot (flashRepair d) m = none) : firmwareLoad d m = bringupFail 2 { flashRepair d with boot.romRecovery := true } := by
  unfold firmwareLoad
  rw [if_pos ⟨hr, hs, hc⟩]
  dsimp only
  rw [h]

/-- The firmware slot is noted: the second one sets code 3. -/
def slotNoted (k : Nat) (d : Dev) : Dev := if k = firstSlot d then d else logEvent 0 3 1 (payload k 0 0 0) { d with boot.code := 3 }

theorem slotNoted_net (k : Nat) (d : Dev) : (slotNoted k d).net = d.net := by
  unfold slotNoted
  split
  · rfl
  · exact logEvent_net 0 3 1 _ { d with boot.code := 3 }

/-- Step 3 with the firmware of slot `k`: the addresses that persist, then the Chart and the KEK. -/
def startFirmware (k : Nat) (m : Memory) (persisted : Table NetAddr) (d : Dev) : Dev :=
  let e := slotNoted k d
  let f := countAttempt k { e with
    boot.fwSlot := k, boot.fwSvn := fwImage d m k 0x14, mhi.fwVersion := fwVersionOf (fwImage d m k), mhi.mboxReady := true
    net.addrs := persisted.map (fun a => (a.1, { rec_ := a.2, link := a.2.home })) }
  let g := flashBlob f.keys.blob1 (flashBlob f.keys.blob0 (chooseChart f m))
  setStep 4 { g with mhi.restarting := false }

theorem firmwareLoad_some (hr : coreRuns d = true) (hs : d.boot.step = 3) (hc : d.boot.code = 0) {m : Memory} {k : Nat}
    (h : runSlot (flashRepair d) m = some k) :
    firmwareLoad d m = startFirmware k m (slotNoted k (flashRepair d)).net.persisted (flashRepair d) := by
  unfold firmwareLoad
  rw [if_pos ⟨hr, hs, hc⟩]
  dsimp only
  rw [h]
  rfl

theorem hbmTrain_trains (hr : coreRuns d = true) (hs : d.boot.step = 4) (hf : d.chart.inForce.isSome = true) (hc : d.boot.code ≠ 5)
    (a b : Bool) : hbmTrain a b d = if a && b then setStep 5 d
      else if 1 ≤ d.boot.hbmFails then bringupFail 5 { d with boot.hbmFails := 2 } else { d with boot.hbmFails := 1 } :=
  if_pos ⟨hr, hs, hf, hc⟩

theorem poolRecovery_recovers (hr : coreRuns d = true) (hs : d.boot.step = 5) (hn : d.boot.pfailN = true) (ho : d.pool.state = .off)
    (fs : List PoolFault) : poolRecovery fs d = if (recoverPool fs d).pool.state = .failed then bringupFail 6 (recoverPool fs d)
      else setStep 6 (keysMissing (judgeFloors (resumeAsns (recoverPool fs d)))) := if_pos ⟨hr, hs, hn, ho⟩

theorem tidelineWait_ends (hr : coreRuns d = true) (hs : d.boot.step = 6) {t : Bool} (ht : t = true ∨ d.tline.settled = true) :
    tidelineWait t d = setStep 7 (if d.tline.addr.isNone then logEvent 0x11 1 1 (payload 0 0 0 0) d else d) := if_pos ⟨hr, hs, ht⟩

end

/-! ## Step 8 (R445) -/

/-- The Shoals with the drives that answered, and the shelf record where one was read. -/
def assembled (ps : List DriveProbe) (r kept : Option ShelfRecord) (d : Dev) : Dev :=
  { assembleAll ps d with pair.record := if r.isSome then r else kept }

/-- The end of an attempt at assembly: registered on the members, or code 8. -/
def afterAssembly (d : Dev) : Dev :=
  if d.str.shoals.all (fun e => e.2.assembled) then registerAll (if d.boot.code = 8 then judgeAlert { d with boot.code := 0 } else d)
  else if d.boot.code = 8 then d else bringupFail 8 d

section
variable {d : Dev} (hr : coreRuns d = true)
include hr

theorem shoalAssembly_first (h : d.boot.step = 8) (ps : List DriveProbe) (r : Option ShelfRecord) (m : Memory) :
    shoalAssembly ps r d m = sendHello (setStep 9 (afterAssembly (assembled ps r d.pair.record (takeShelfId (labelsOf ps) d)))) m := by
  unfold shoalAssembly
  rw [if_neg (by simp [hr, h])]
  simp only [h, decide_true, true_or, if_true]
  rfl

theorem shoalAssembly_again (h : d.boot.step = 9) (hc : d.boot.code = 8) (hi : d.pair.shelfId ≠ 0) (ps : List DriveProbe)
    (r : Option ShelfRecord) (m : Memory) : shoalAssembly ps r d m = afterAssembly (assembled ps r d.pair.record d) := by
  unfold shoalAssembly
  rw [if_neg (by simp [hr, h, hc])]
  simp only [h, hi, Nat.reduceEqDiff, decide_false, Bool.false_eq_true, or_self, if_false]
  rfl

theorem openAdmission_closed (h : d.boot.step = 10) (ho : d.host.admissionOpen = false) (ls : List Nat) : openAdmission ls d =
    if d.keys.kek.isNone then (if d.boot.code = 0 ∨ d.boot.code = 3 then bringupFail 7 d else d)
    else
      let e := writeBoot d.boot.fwSlot 0 d.boot.fwSlot { d with host.admissionOpen := true, boot.serving := true, host.anaChange := false }
      let f := judgeService (raiseGlobal 3 (ls.foldl (fun a l => netLinkUp l a) e))
      if f.pair.role = .active ∨ f.pair.role = .solo then resumeWork f else f := if_neg (by simp [hr, h, ho])

end

theorem afterAssembly_whole {d : Dev} (h : d.str.shoals.all (fun e => e.2.assembled) = true) :
    afterAssembly d = registerAll (if d.boot.code = 8 then judgeAlert { d with boot.code := 0 } else d) := if_pos h
theorem afterAssembly_part {d : Dev} (h : d.str.shoals.all (fun e => e.2.assembled) = false) :
    afterAssembly d = if d.boot.code = 8 then d else bringupFail 8 d := if_neg (ne_true_of_eq_false h)

end Sys2Proof.Machine

/-- Settles O17: steps 2 to 6, then step 8 and step 10. -/
theorem bringUpSteps : Obligations.BringUpSteps := by
  refine ⟨fun s => ?_, fun s => ?_⟩
  · intro d flash hr
    refine ⟨fun a b hc hs ha hb => gives_congr (exec_sfdpRead s a b) ((sfdpRead_second_absent hr hs hc hb a).trans (if_pos ha)),
      fun a b hc hs ha hb => gives_congr (exec_sfdpRead s a b) ?_, fun hc hs hk => gives_congr (exec_firmwareLoad s) (firmwareLoad_none hr hs hc hk),
      fun k hc hs hk => gives_congr (exec_firmwareLoad s) ?_, fun p hp => ⟨fun c hp' => ?_, fun e c hp' ho => ?_, fun e e' hp' ho => ?_⟩,
      fun hs hf hc => ⟨gives_congr (exec_hbmTrain s true true) (hbmTrain_trains hr hs hf hc true true),
        fun a b hab h0 => gives_congr (exec_hbmTrain s a b) ?_, fun a b hab h1 => gives_congr (exec_hbmTrain s a b) ?_⟩,
      fun hn => gives_congr (exec_hbmTrain s true true) (if_neg (by simp [show s.dev.chart.inForce = none from hn])),
      fun fs hs hn ho => ⟨fun hf => gives_congr (exec_poolRecovery s fs) ((poolRecovery_recovers hr hs hn ho fs).trans (if_pos hf)),
        fun hf => gives_congr (exec_poolRecovery s fs) ((poolRecovery_recovers hr hs hn ho fs).trans (if_neg hf))⟩,
      fun fs hn => gives_congr (exec_poolRecovery s fs) (if_neg (by simp [show s.dev.boot.pfailN = false from hn])),
      fun hs ht => gives_congr (exec_tidelineWait s false) ?_, fun hs ht => gives_congr (exec_tidelineWait s true) ?_,
      fun ht => gives_congr (exec_tidelineWait s false) (if_neg (by simp [show s.dev.tline.settled = false from ht]))⟩
    · rw [sfdpRead_second_absent hr (by omega) hc hb a, flashFound_absent ha]
      exact congrArg (bringupFail 1) (setStep_same (by exact hs))
    · refine (firmwareLoad_some hr hs hc hk).trans ?_
      rw [slotNoted_net]
      rfl
    · subst hp
      rw [chooseChart, hp']
    · subst hp
      rw [chooseChart, hp', ho]
    · subst hp
      rw [chooseChart, hp', ho]
    · rw [hbmTrain_trains hr hs hf hc, if_neg (ne_true_of_eq_false hab), if_neg (by rw [h0]; decide)]
    · rw [hbmTrain_trains hr hs hf hc, if_neg (ne_true_of_eq_false hab), if_pos (by rw [h1])]
    · obtain ⟨hset, haddr⟩ := ht
      rw [tidelineWait_ends hr hs (Or.inr hset), if_neg (by rw [Option.isNone_iff_eq_none]; exact Option.isSome_iff_ne_none.mp haddr)]
    · exact (tidelineWait_ends hr hs (Or.inl rfl)).trans (congrArg (setStep 7) (if_pos (by rw [ht]; rfl)))
  · intro d found whole hr
    refine ⟨fun ps r hs he => ⟨fun hw => gives_congr (exec_shoalAssembly s ps r) ?_, fun hw => gives_congr (exec_shoalAssembly s ps r) ?_⟩,
      fun ps r hs hc hi he => ⟨fun hw => gives_congr (exec_shoalAssembly s ps r) ?_, fun hw => gives_congr (exec_shoalAssembly s ps r) ?_⟩,
      fun hs ho => ⟨fun ls hk hc => gives_congr (exec_openAdmission s ls) ?_, fun ls hk => gives_congr (exec_openAdmission s ls) ?_⟩,
      fun ls hs => gives_congr (exec_openAdmission s ls) (if_pos (Or.inr (Or.inl hs)))⟩
    · refine (shoalAssembly_first hr hs ps r s.mem).trans (congrArg (fun x => sendHello (setStep 9 x) s.mem) ?_)
      exact (afterAssembly_whole hw).trans (congrArg registerAll (if_neg he))
    · refine (shoalAssembly_first hr hs ps r s.mem).trans (congrArg (fun x => sendHello (setStep 9 x) s.mem) ?_)
      exact (afterAssembly_part hw).trans (if_neg he)
    · exact (shoalAssembly_again hr hs hc hi ps r s.mem).trans ((afterAssembly_whole hw).trans (congrArg registerAll (if_pos he)))
    · exact (shoalAssembly_again hr hs hc hi ps r s.mem).trans ((afterAssembly_part hw).trans (if_pos he))
    · rw [openAdmission_closed hr hs ho, if_pos (by rw [hk]; rfl), if_pos hc]
    · rw [openAdmission_closed hr hs ho, if_neg (by rw [Option.isNone_iff_eq_none]; exact Option.isSome_iff_ne_none.mp hk)]
end


section
/-! PROOF. The Chart engine: staging, storing, committing, and the switch of its groups (O18, O19). -/

namespace Sys2Proof.Machine

/-! ## The commands -/

section
variable (s : State)

theorem exec_chartCtrlStage (v : Reg) : Gives (.chartCtrlStage v) s (whenReg (fun x => chartStage (v ||| 1#32) x s.mem) s.dev) := rfl
theorem exec_chartCtrlDiscard (v : Reg) :
    Gives (.chartCtrlDiscard v) s (whenReg (fun d => waitingSwap (chartDiscard (v ||| 4#32) d)) s.dev) := rfl
theorem exec_chartCheckDone (p : Option Bool) : Makes (.chartCheckDone p) s (thenSwap (checkDone p) s.dev s.mem) := rfl
theorem exec_chartStoreDone (ok : Bool) : Makes (.chartStoreDone ok) s (thenSwap (chartStored ok) s.dev s.mem) := rfl
theorem exec_chartReadbackDone (ok : Bool) : Makes (.chartReadbackDone ok) s (thenSwap (readbackDone ok) s.dev s.mem) := rfl
theorem exec_chartSwitchDone : Makes .chartSwitchDone s (thenSwap chartSwitched s.dev s.mem) := rfl
theorem exec_chartCommit (v : Reg) :
    Makes (.chartCommit v) s (if blocksOpen s.dev then chartCommit v s.dev s.mem else (s.dev, s.mem)) := rfl
theorem exec_chartCtrlStore (v : Reg) :
    Makes (.chartCtrlStore v) s (if blocksOpen s.dev then chartStore (v ||| 2#32) s.dev s.mem else (s.dev, s.mem)) := rfl
theorem exec_tableEpochAdvance : Gives .tableEpochAdvance s (epochAdvance s.dev) := rfl
theorem exec_chartPairSwitch : Gives .chartPairSwitch s
    (if s.dev.chart.state = .switching ∧ s.dev.chart.pairWait then startSwitch s.dev else s.dev) := rfl

end

theorem makes_congr {c : Instr} {s : State} {x y : Dev × Memory} (h : Makes c s x) (e : x = y) : Makes c s y := e ▸ h

/-- A command that leaves memory as it is changes the device alone. -/
theorem gives_of_makes_mem {c : Instr} {s : State} {d : Dev} (h : Makes c s (d, s.mem)) : Gives c s d := h

/-! ## A swap that waits (10 R324) -/

section
variable {d : Dev}

theorem waitingSwap_none (h : d.clk.swapWaiting = false) : waitingSwap d = d := if_pos (Or.inl (by simp [h]))
theorem waitingSwap_busy (h : d.chart.state ≠ .idle) : waitingSwap d = d := if_pos (Or.inr h)

theorem thenSwap_busy {f : Dev → Memory → Dev × Memory} {m : Memory} (h : (f d m).1.chart.state ≠ .idle) : thenSwap f d m = f d m :=
  Prod.ext (waitingSwap_busy h) rfl

theorem thenSwap_none {f : Dev → Memory → Dev × Memory} {m : Memory} (h : (f d m).1.clk.swapWaiting = false) : thenSwap f d m = f d m :=
  Prod.ext (waitingSwap_none h) rfl

end

/-! ## CHART_INT and ERR (02 R63 to R65) -/

theorem raiseChart_sets {i : Nat} (hi : i < 2) (d : Dev) : (raiseChart i d).chart.int.getLsbD i = true := by
  unfold raiseChart
  split
  next h => exact h
  next =>
    rw [fire_chart]
    exact setBit_getLsbD hi d.chart.int

theorem chartError_shape (e : ChartErr) (d : Dev) : ∃ a p o, chartError e d = { d with
    chart.err := e.code, chart.errSection := e.section_, chart.errField := e.field, chart.errOffset := e.offset
    chart.int := a, mhi.msixPending := p, out := o } ∧ a.getLsbD 1 = true := by
  let x := { d with chart.err := e.code, chart.errSection := e.section_, chart.errField := e.field, chart.errOffset := e.offset }
  obtain ⟨a, p, o, h⟩ := raiseChart_shape 1 x
  have sets := raiseChart_sets (i := 1) (by decide) x
  rw [h] at sets
  exact ⟨a, p, o, h, sets⟩

/-- An image checked and found wrong: the patch goes, with its ERR code. -/
theorem chartError_dropPatch (e : ChartErr) (d : Dev) : ∃ a p o, chartError e (dropPatch d) = { dropPatch d with
    chart.err := e.code, chart.errSection := e.section_, chart.errField := e.field, chart.errOffset := e.offset
    chart.int := a, mhi.msixPending := p, out := o } ∧ a.getLsbD 1 = true := chartError_shape e (dropPatch d)

/-! ## The image to the partner (02 R57) -/

theorem mirrorSend_shape (f : StraitFrame) (d : Dev) : ∃ p o, mirrorSend f d = { d with pair := p, out := o } := by
  unfold mirrorSend
  split
  · obtain ⟨q, b, w, o, h⟩ := straitSend_shape { f with mseq := d.pair.txMseq + 1 } { d with pair.txMseq := d.pair.txMseq + 1 }
    exact ⟨_, _, h⟩
  · exact ⟨_, _, rfl⟩

theorem sendChunk_shape (b : List Byte) (d : Dev) : ∃ p o, sendChunk b d = { d with pair := p, out := o } := by
  unfold sendChunk
  split
  · exact mirrorSend_shape _ d
  · obtain ⟨q, c, w, o, h⟩ := straitSend_shape { type := 8, payload := leBytes 7 1 ++ leBytes 0 7 ++ b } d
    exact ⟨_, _, h⟩

theorem sendChunks_shape (b : List Byte) (n : Nat) : ∀ (off : Nat) (d : Dev), ∃ p o, sendChunks b off n d = { d with pair := p, out := o } := by
  induction n with
  | zero => exact fun off d => ⟨_, _, rfl⟩
  | succ n ih =>
    intro off d
    obtain ⟨p, o, h⟩ := sendChunk_shape
      (leBytes off 4 ++ leBytes (b2n (decide (b.length ≤ off + 4096))) 4 ++ (b.drop off).take 4096) d
    rw [sendChunks, h]
    split
    · exact ⟨_, _, rfl⟩
    · obtain ⟨p, o, h⟩ := ih (off + 4096) { d with pair := p, out := o }
      exact ⟨_, _, h⟩

/-! ## Staging -/

section
variable {d : Dev} {v : Reg} {m : Memory}

/-- STAGE is accepted: validation starts. -/
def stageChecked (d : Dev) : Dev := chartAccept { d with
  chart.state := .checking, chart.storing := false, chart.partnerStaged := false
  chart.commitWaits := false, chart.imageLen := d.chart.stageLen, chart.partnerHeld := false }

theorem chartStage_accepted (hb : chartCtrlBad v = false) (hs : d.chart.state = .idle) (hf : d.chart.inForce.isSome = true)
    (hr : d.pair.role ≠ .standby) (hm : d.pair.mixed = false) : chartStage v d m =
    if paired d then sendChunks (mgets m stageBase d.chart.stageLen) 0 1025 (stageChecked d) else stageChecked d := by
  have some' : d.chart.inForce ≠ none := Option.isSome_iff_ne_none.mp hf
  exact if_neg (by simp [hb, hs, hr, hm, some'])

theorem chartStage_refused (h : chartCtrlBad v = true ∨ d.chart.state ≠ .idle ∨ d.chart.inForce = none ∨ d.pair.role = .standby
    ∨ d.pair.mixed = true) : chartStage v d m = chartIgnore 0x0B d := by
  rw [← Option.isNone_iff_eq_none] at h
  exact if_pos h

theorem paired_iff (d : Dev) : paired d = true ↔ d.pair.role = .active ∧ d.pair.partner = 2 := by simp [paired]

theorem checkDone_passes {c : Chart} (hs : d.chart.state = .checking)
    (hc : checkLive d m (imgAt m stageBase) d.chart.imageLen = .ok c) (p : Option Bool) :
    checkDone p d m = partnerAnswer p (raiseChart 0 (stagePatch c d)) m := by
  rw [checkDone, hs]
  dsimp only
  rw [hc]

theorem checkDone_fails {e : ChartErr} (hs : d.chart.state = .checking)
    (hc : checkLive d m (imgAt m stageBase) d.chart.imageLen = .error e) (p : Option Bool) :
    checkDone p d m = (chartError e (dropPatch d), m) := by
  rw [checkDone, hs]
  dsimp only
  rw [hc]

theorem chartDiscard_drops (hb : chartCtrlBad v = false) (hs : d.chart.state = .staged) :
    chartDiscard v d = dropPatch (chartAccept d) := if_neg (by simp [hb, hs])

theorem chartDiscard_refused (h : chartCtrlBad v = true ∨ d.chart.state ≠ .staged) : chartDiscard v d = chartIgnore 0x0B d := if_pos h

/-! ## Commit and store -/

theorem targetSlot_running (hf : d.chart.inForce.isSome = true) : targetSlot d m = 1 - d.chart.runSlot := if_pos hf

theorem startSlot_running (hf : d.chart.inForce.isSome = true) : startSlot d m =
    (setSlot (1 - d.chart.runSlot) false 0 { d with chart.state := .writing }, mclear m (chartAddr d (1 - d.chart.runSlot)) chartSlotSize) := by
  rw [startSlot, targetSlot_running hf]

theorem chartCommit_refused (h : d.chart.state ≠ .staged) : chartCommit v d m = (chartIgnore 0x0B d, m) := if_pos (Or.inr h)

theorem chartCommit_staged (hf : d.chart.inForce.isSome = true) (hs : d.chart.state = .staged) : chartCommit v d m =
    if v.toNat ≠ d.chart.stageSeq then (chartIgnore 0x0C d, m)
    else if (d.pair.partner = 1 ∨ paired d) ∧ !d.chart.partnerStaged then ({ d with chart.commitWaits := true }, m)
    else startCommit d m := by
  have some' : d.chart.inForce ≠ none := Option.isSome_iff_ne_none.mp hf
  exact if_neg (by simp [hs, some'])

theorem chartStore_refused (h : chartCtrlBad v = true ∨ d.chart.state ≠ .idle) : chartStore v d m = (chartIgnore 0x0B d, m) := if_pos h

theorem chartStore_accepted {c : Chart} (hb : chartCtrlBad v = false) (hs : d.chart.state = .idle) 
    (hc : validate (imgAt m stageBase) (stagedEnv d d.chart.stageLen) = .ok c) (hq : d.chart.runSeq < c.sequence) : chartStore v d m =
    startSlot { chartAccept { d with chart.storing := true, chart.imageLen := d.chart.stageLen, chart.partnerHeld := false } with
      chart.stageSeq := c.sequence } m := by
  unfold chartStore
  dsimp only
  rw [if_neg (by simp [hb, hs])]
  have same : stagedEnv (chartAccept { d with chart.storing := true, chart.imageLen := d.chart.stageLen, chart.partnerHeld := false })
    (chartAccept { d with chart.storing := true, chart.imageLen := d.chart.stageLen, chart.partnerHeld := false }).chart.imageLen
    = stagedEnv d d.chart.stageLen := rfl
  rw [same, hc]
  exact if_neg fun h => absurd h.2 (Nat.not_le.mpr hq)

end

end Sys2Proof.Machine

open Sys2Proof Sys2Proof.Machine

/-- Settles O18: STAGE, the end of validation and DISCARD, then the commit and STORE. -/
theorem chartStaging : Obligations.ChartStaging := by
  refine ⟨fun s v ho => ?_, fun s v ho hf => ?_⟩
  · intro d noErr refused
    refine ⟨fun hb hs hf hr hm hp => gives_congr (exec_chartCtrlStage s v) ?_, fun hb hs hf hr hm => ?_,
      fun h => gives_congr (exec_chartCtrlStage s v) ((whenReg_open ho _).trans (chartStage_refused h)),
      fun c hs hc => gives_of_makes_mem (makes_congr (exec_chartCheckDone s none) ?_), fun e p hs hw hc => ?_,
      fun hb hs hw => gives_congr (exec_chartCtrlDiscard s v) ((whenReg_open ho _).trans ?_),
      fun h hw => gives_congr (exec_chartCtrlDiscard s v) ((whenReg_open ho _).trans ?_)⟩
    · refine (whenReg_open ho _).trans ((chartStage_accepted hb hs hf hr hm).trans (if_neg ?_))
      exact fun h => hp ((paired_iff d).mp h)
    · have role : d.pair.role ≠ .standby := by rw [hr]; decide
      refine ⟨_, gives_congr (exec_chartCtrlStage s v) ((whenReg_open ho _).trans (chartStage_accepted hb hs hf role hm)), ?_⟩
      split
      · obtain ⟨p, o, h⟩ := sendChunks_shape (mgets s.mem stageBase d.chart.stageLen) 1025 0 (stageChecked d)
        dsimp only
        rw [h]
        exact ⟨rfl, rfl, rfl, rfl⟩
      · exact ⟨rfl, rfl, rfl, rfl⟩
    · have done := checkDone_passes hs hc none
      obtain ⟨a, p, o, h⟩ := raiseChart_shape 0 (stagePatch c d)
      have staged : (raiseChart 0 (stagePatch c d)).chart.state ≠ .idle := by rw [h]; exact nofun
      rw [thenSwap_busy (by rw [done]; exact staged), done]
      rfl
    · obtain ⟨a, q, o, h, sets⟩ := chartError_dropPatch e d
      have done := (checkDone_fails hs hc p).trans (congrArg (·, s.mem) h)
      have made := makes_congr (exec_chartCheckDone s p) ((thenSwap_none (by rw [done]; exact hw)).trans done)
      exact ⟨_, made, rfl, rfl, rfl, rfl, rfl, rfl, sets, rfl, rfl, rfl, rfl⟩
    · rw [chartDiscard_drops hb hs]
      exact waitingSwap_none hw
    · obtain ⟨a, p, o, he, -⟩ := chartError_shape { code := 0x0B } d
      rw [chartDiscard_refused h]
      exact waitingSwap_none (by rw [chartIgnore, he]; exact hw)
  · intro d k erased refused
    have opened {x : Dev × Memory} : (if blocksOpen s.dev then x else (s.dev, s.mem)) = x := if_pos ho
    have commits {x : Dev × Memory} (h : chartCommit v d s.mem = x) : Makes (.chartCommit v) s x :=
      makes_congr (exec_chartCommit s v) (opened.trans h)
    have stores {x : Dev × Memory} (h : chartStore (v ||| 2#32) d s.mem = x) : Makes (.chartCtrlStore v) s x :=
      makes_congr (exec_chartCtrlStore s v) (opened.trans h)
    refine ⟨fun hs hv hp => commits (x := (_, _)) ?_, fun hs hv hp hst => gives_of_makes_mem (commits ?_),
      fun hs hv => gives_of_makes_mem (commits ((chartCommit_staged hf hs).trans (if_pos hv))),
      fun hs => gives_of_makes_mem (commits (chartCommit_refused hs)),
      fun c hb hs hc hq => stores (x := (_, _)) ((chartStore_accepted hb hs hc hq).trans (startSlot_running hf)),
      fun h => gives_of_makes_mem (stores (chartStore_refused h)), fun x => ⟨rfl, rfl, rfl, rfl⟩⟩
    · have alone : ¬ ((d.pair.partner = 1 ∨ paired d = true) ∧ (!d.chart.partnerStaged) = true) := by simp [paired, hp]
      rw [chartCommit_staged hf hs, if_neg (not_not.mpr hv), if_neg alone]
      exact startSlot_running (d := { d with chart.commitWaits := false }) hf
    · rw [chartCommit_staged hf hs, if_neg (not_not.mpr hv), if_pos ⟨hp.imp_right (paired_iff d).mpr, by rw [hst]; rfl⟩]

namespace Sys2Proof.Machine

/-! ## The end of a slot write (02 R52) -/

/-- Bytes, validity and SEQUENCE of the slot change, and no more. -/
theorem setSlot_shape (k : Nat) (ok : Bool) (q : Nat) (d : Dev) : ∃ a b x y, setSlot k ok q d = { d with
    chart.slot0Valid := a, chart.slot0Seq := x, chart.slot1Valid := b, chart.slot1Seq := y }
    ∧ (k = 0 → a = ok) ∧ (k = 1 → b = ok) := by
  by_cases h : k = 0
  · exact ⟨_, _, _, _, if_pos h, fun _ => rfl, fun h1 => absurd (h.symm.trans h1) (by decide)⟩
  · exact ⟨_, _, _, _, if_neg h, fun h0 => absurd h0 h, fun _ => rfl⟩

section
variable {d : Dev} {m : Memory} (hf : d.chart.inForce.isSome = true)
include hf

theorem endSlot_ok : endSlot true d m = (setSlot (1 - d.chart.runSlot) true (leNum (((writtenBytes d m).drop 0x10).take 4)) d,
    mputs (mclear m (chartAddr d (1 - d.chart.runSlot)) 0x400000) (chartAddr d (1 - d.chart.runSlot)) (writtenBytes d m)) := by
  unfold endSlot
  rw [targetSlot_running hf]
  rfl

theorem endSlot_bad : endSlot false d m = (setSlot (1 - d.chart.runSlot) false 0 d, mclear m (chartAddr d (1 - d.chart.runSlot)) 0x400000) := by
  unfold endSlot
  rw [targetSlot_running hf]
  rfl

end

/-- The engine after a STORE. -/
def storeIdle (d : Dev) : Dev :=
  { d with chart.state := .idle, chart.storing := false, chart.adopt := 0, chart.partnerImage := [], chart.partnerHeld := false }

section
variable {d : Dev} {m : Memory} (hs : d.chart.state = .writing)
include hs

theorem storeDone_ok (hw : d.chart.storing = true) (ha : d.chart.adopt = 0) :
    storeDone true d m = (raiseChart 0 (storeIdle (endSlot true d m).1), (endSlot true d m).2) := by
  unfold storeDone
  rw [if_neg (by simp [hs, hw])]
  simp [ha, storeIdle]

theorem storeDone_bad (hw : d.chart.storing = true) : storeDone false d m =
    (chartError { code := 0x0D } { storeIdle (endSlot false d m).1 with chart.stageSeq := 0 }, (endSlot false d m).2) := by
  unfold storeDone
  rw [if_neg (by simp [hs, hw])]
  rfl

omit hs in
theorem chartStored_kept (ok : Bool) (ha : d.chart.adopt = 0) : chartStored ok d m = storeDone ok d m := if_neg (by simp [ha])

theorem readbackDone_ok (hw : d.chart.storing = false) (hp : d.pair.partner = 0) (hq : (endSlot true d m).1.pair.partner = d.pair.partner) :
    readbackDone true d m = (startSwitch { (endSlot true d m).1 with chart.state := .switching }, (endSlot true d m).2) := by
  unfold readbackDone
  dsimp only
  rw [if_neg (by simp [hs, hw])]
  simp [hq, hp]

theorem readbackDone_bad (hw : d.chart.storing = false) : readbackDone false d m =
    (chartError { code := 0x0D } (logEvent 1 2 1 (payload 0 0 0x0D 0) (dropPatch (endSlot false d m).1)), (endSlot false d m).2) := by
  unfold readbackDone
  dsimp only
  rw [if_neg (by simp [hs, hw])]
  rfl

end

theorem startSwitch_staged {d : Dev} {n : Chart} (h : d.chart.shadow = some n) : startSwitch d = { d with
    chart.inForce := some (ownRecords (chartOf d) n), chart.groupsLeft := changedGroups (ownRecords (chartOf d) n) n, chart.pairWait := false
    prism.changes := d.prism.changes ++ (changedGroups (ownRecords (chartOf d) n) n).map .group } := by
  rw [startSwitch, h]

/-! ## Epochs (09 R306) -/

/-- The next epoch, with the versions that a live epoch still uses. -/
def nextEpoch (g : CommitGroup) (rest : List TableChange) (d : Dev) : Dev :=
  let next := { d with prism.changes := rest, prism.epoch := d.prism.epoch + 1 }
  { next with prism.versions := (d.prism.versions ++ [(TableChange.group g, d.prism.epoch + 1)]).filter (fun v => olderLive next v.2) }

section
variable {d : Dev}

theorem epochAdvance_idle (h : d.prism.changes = [] ∨ 4 ≤ liveEpochs d) : epochAdvance d = d := by
  unfold epochAdvance
  split
  next => rfl
  next c rest hc =>
    rw [hc] at h
    exact if_pos (h.resolve_left nofun)

theorem epochAdvance_group {g : CommitGroup} {rest : List TableChange} (hc : d.prism.changes = .group g :: rest) (hl : liveEpochs d < 4) :
    epochAdvance d = switchGroup g (nextEpoch g rest d) := by
  unfold epochAdvance
  rw [hc]
  exact if_neg (Nat.not_le.mpr hl)

/-- A group switched: the Chart in force takes its fields, and it is no longer left. -/
def groupSwitched (g : CommitGroup) (n : Chart) (d : Dev) : Dev :=
  { d with chart.inForce := some (switchFields g n (chartOf d)), chart.groupsLeft := d.chart.groupsLeft.erase g }

variable {n : Chart} (hn : d.chart.shadow = some n)
include hn

theorem switchGroup_plain {g : CommitGroup} (h : g ∈ [.fabricClasses, .eventClasses, .rampConcurrency, .pairPolicy, .storageTiming]
    ∨ ∃ k, g = .coveAttributes k ∨ g = .portClasses k ∨ g = .bayLimits k) : switchGroup g d = groupSwitched g n d := by
  simp only [List.mem_cons, List.not_mem_nil, or_false] at h
  rw [switchGroup, hn]
  obtain (rfl | rfl | rfl | rfl | rfl) | ⟨k, rfl | rfl | rfl⟩ := h <;> rfl

theorem switchGroup_lighthouse : switchGroup .lighthousePolicy d = aroundAll (groupSwitched .lighthousePolicy n d) := by
  rw [switchGroup, hn]
  rfl

theorem switchGroup_gates (p : Nat) : switchGroup (.gateList p) d = { groupSwitched (.gateList p) n d with
    sched.gates := tput d.sched.gates p { gatesOf d p with waiting := some (gatesIn n p) } } := by
  rw [switchGroup, hn]
  rfl

theorem switchDone_switched (hs : d.chart.state = .switching) (hw : d.chart.pairWait = false) (hg : d.chart.groupsLeft = []) :
    switchDone d = logEvent 1 1 0 (payload 0 d.chart.runSeq n.sequence 0) (raiseChart 0 { d with
      chart.inForce := some n, chart.shadow := none, chart.state := .idle, chart.runSeq := n.sequence
      chart.runSlot := 1 - d.chart.runSlot, chart.fallback := false, chart.partnerStaged := false, chart.stageSeq := 0
      chart.partnerImage := [], chart.partnerHeld := false, chart.adopt := 0 }) := by
  rw [switchDone, hn]
  exact if_neg (by simp [hs, hw, hg])

end

end Sys2Proof.Machine

/-- Settles O19: the end of a read-back, then epoch advances, the pair's instant and the last group. -/
theorem chartSwitch : Obligations.ChartSwitch := by
  refine ⟨fun s hf hs ha hp hr hw => ?_, fun s n hn => ?_⟩
  · intro d k image written valid
    obtain ⟨a, b, x, y, hv, -⟩ := setSlot_shape k true (leNum ((image.drop 0x10).take 4)) d
    have hv : valid = _ := hv
    have good : endSlot true d s.mem = (valid, written) := endSlot_ok hf
    clear_value valid
    subst hv
    have bad : endSlot false d s.mem = (setSlot k false 0 d, mclear s.mem (chartAddr d k) 0x400000) := endSlot_bad hf
    refine ⟨fun hst => ?_, fun n hst hn => ?_, ?_⟩
    · have stored := (chartStored_kept true ha).trans (storeDone_ok (m := s.mem) hs hst ha)
      rw [good] at stored
      have waits : (chartStored true d s.mem).1.clk.swapWaiting = false := by
        obtain ⟨i, p, o, hi⟩ := raiseChart_shape 0 (storeIdle { d with
          chart.slot0Valid := a, chart.slot0Seq := x, chart.slot1Valid := b, chart.slot1Seq := y })
        rw [stored, hi]
        exact hw
      exact makes_congr (y := (_, _)) (exec_chartStoreDone s true) ((thenSwap_none waits).trans stored)
    · have read := readbackDone_ok (m := s.mem) hs hst hp (by rw [good])
      rw [good, startSwitch_staged (by exact hn)] at read
      exact makes_congr (y := (_, _)) (exec_chartReadbackDone s true) ((thenSwap_busy (by rw [read]; exact nofun)).trans read)
    · obtain ⟨a, b, x, y, hz, h0, h1⟩ := setSlot_shape k false 0 d
      rintro c (⟨rfl, hst⟩ | ⟨rfl, hst⟩)
      · obtain ⟨i, p, o, he, sets⟩ := chartError_shape { code := 0x0D } { storeIdle (setSlot k false 0 d) with chart.stageSeq := 0 }
        have stored := (chartStored_kept false ha).trans (storeDone_bad (m := s.mem) hs hst)
        rw [bad, he, hz] at stored
        refine ⟨_, makes_congr (exec_chartStoreDone s false) ((thenSwap_none (by rw [stored]; exact hw)).trans stored), ?_⟩
        exact ⟨rfl, rfl, sets, rfl, rfl, h0, h1, rfl, rfl⟩
      · obtain ⟨e, p, o, hl⟩ := logEvent_shape 1 2 1 (payload 0 0 0x0D 0) (dropPatch (setSlot k false 0 d))
        obtain ⟨i, p, o, he, sets⟩ := chartError_shape { code := 0x0D } (logEvent 1 2 1 (payload 0 0 0x0D 0) (dropPatch (setSlot k false 0 d)))
        have read := readbackDone_bad (m := s.mem) hs hst
        rw [bad, he, hl, hz] at read
        refine ⟨_, makes_congr (exec_chartReadbackDone s false) ((thenSwap_none (by rw [read]; exact hw)).trans read), ?_⟩
        exact ⟨rfl, rfl, sets, rfl, rfl, h0, h1, rfl, rfl⟩
  · intro d
    refine ⟨fun g rest hc hl => ⟨fun h => ?_, ?_, ?_⟩, fun h => gives_congr (exec_tableEpochAdvance s) (epochAdvance_idle h),
      fun hs hw => gives_congr (exec_chartPairSwitch s) ((if_pos ⟨hs, hw⟩).trans (startSwitch_staged hn)),
      fun h => gives_congr (exec_chartPairSwitch s) (if_neg ?_), fun hs hw hg ha hsw => ?_⟩
    · exact gives_congr (exec_tableEpochAdvance s) ((epochAdvance_group hc hl).trans (switchGroup_plain (d := nextEpoch g rest d) hn h))
    · rintro rfl
      exact gives_congr (exec_tableEpochAdvance s) ((epochAdvance_group hc hl).trans (switchGroup_lighthouse (d := nextEpoch _ rest d) hn))
    · rintro p rfl
      exact gives_congr (exec_tableEpochAdvance s) ((epochAdvance_group hc hl).trans (switchGroup_gates (d := nextEpoch _ rest d) hn p))
    · rintro ⟨hs, hw⟩
      exact h.elim (fun h => h hs) (fun h => by rw [show s.dev.chart.pairWait = false from h] at hw; exact Bool.noConfusion hw)
    · have done : chartSwitched d s.mem = (switchDone d, s.mem) := if_neg fun h => ha h.1
      let x : Dev := { d with
        chart.inForce := some n, chart.shadow := none, chart.state := .idle, chart.runSeq := n.sequence
        chart.runSlot := 1 - d.chart.runSlot, chart.fallback := false, chart.partnerStaged := false, chart.stageSeq := 0
        chart.partnerImage := [], chart.partnerHeld := false, chart.adopt := 0 }
      have sets := raiseChart_sets (i := 0) (by decide) x
      obtain ⟨i, p, o, hi⟩ := raiseChart_shape 0 x
      obtain ⟨e, p, o, hl⟩ := logEvent_shape 1 1 0 (payload 0 d.chart.runSeq n.sequence 0) (raiseChart 0 x)
      rw [switchDone_switched hn hs hw hg, hl, hi] at done
      rw [hi] at sets
      exact ⟨_, makes_congr (exec_chartSwitchDone s) ((thenSwap_none (by rw [done]; exact hsw)).trans done),
        rfl, rfl, rfl, rfl, rfl, sets, rfl, rfl⟩
end


section
/-! PROOF. Coves: creation, deletion, binding, Connect, freeze, thaw and reset (O20 to O23). -/

namespace Sys2Proof.Machine

theorem bnot_of_false {b : Bool} (h : b = false) : (!b) = true := by rw [h]; rfl
theorem not_bnot_of_true {b : Bool} (h : b = true) : ¬ (!b) = true := by rw [h]; exact nofun

/-! ## Mailbox commands -/

/-- The device as a mailbox command finds it that is taken up (18 R504). -/
def mboxBegun (d : Dev) : Dev :=
  { d with mhi.mboxRefused := false, mhi.mboxBusy := true, mhi.mboxPending := false
           mhi.mboxRoom := if d.mhi.mboxPending then d.mhi.mboxRoom else none }

/-- The mailbox takes a command up: it is READY, and idle but for the doorbell that started the command. -/
structure MboxTakes (d : Dev) : Prop where
  ready : d.mhi.mboxReady = true
  idle : d.mhi.mboxBusy = false ∨ d.mhi.mboxPending = true

theorem mboxRun_takes {d : Dev} (h : MboxTakes d) (f : Dev → Dev) : mboxRun f d = f (mboxBegun d) := by
  refine if_neg ?_
  obtain h' | h' := h.idle <;> simp [h.ready, h']

/-- A mailbox command that is taken up changes the device as its effect does. -/
theorem runs_mbox {s : State} {i : Instr} {f : Dev → Dev} {e : Dev} (h : MboxTakes s.dev) (hi : exec i s = onMbox s (mboxRun f))
    (hf : f (mboxBegun s.dev) = e) : Runs i s e := by
  rw [Runs, hi, onMbox_eq, mboxRun_takes h, hf]

theorem runs_onMbox {s : State} {i : Instr} {f : Dev → Dev} {e : Dev} (hi : exec i s = onMbox s f) (hf : f s.dev = e) : Runs i s e := by
  rw [Runs, hi, onMbox_eq, hf]

section
variable {s : State} {i : Instr} {f : Dev → Dev} (h : MboxTakes s.dev) (hi : exec i s = onMbox s (mboxRun (onServing f)))
include h hi

theorem runs_serving {e : Dev} (hs : serves s.dev = true) (hf : f (mboxBegun s.dev) = e) : Runs i s e :=
  runs_mbox h hi ((if_pos hs).trans hf)

theorem runs_notServing (hs : serves s.dev = false) : Runs i s (mboxDone { status := 3 } (mboxBegun s.dev)) :=
  runs_mbox h hi (if_neg (ne_true_of_eq_false hs))

end

/-! ## Creation and deletion (11 R341, R343) -/

section
variable {d : Dev} {c : Nat} {n : List Byte}

theorem coveCreate_malformed (h : c = 0 ∨ 4096 ≤ c ∨ n = [] ∨ 223 < n.length) : coveCreate c n d = mboxDone { status := 2 } d := by
  rw [← List.isEmpty_iff] at h
  exact if_pos h

theorem coveCreate_wellFormed (h0 : c ≠ 0) (h4 : c < 4096) (hn : n ≠ []) (hl : n.length ≤ 223) : coveCreate c n d =
    if thas d.cove.tab c ∨ (coveOfNqn d n).isSome then mboxDone { status := 4 } d
    else if floorsBroken d c then mboxDone { status := 6 } d
    else mboxDone { status := 0 } (mirrorCove c (bornCove c { nqn := n } d)) := by
  refine if_neg ?_
  rw [List.isEmpty_iff]
  simp [h0, hn, Nat.not_le.mpr h4, Nat.not_lt.mpr hl]

theorem judgeFloors_cove (d : Dev) : (judgeFloors d).cove = d.cove := by
  unfold judgeFloors
  extract_lets short src d1
  split
  · exact raisePool_cove 7 d1
  · rfl

theorem coveOf_bornCove (c : Nat) (r : CoveRec) (d : Dev) : coveOf (bornCove c r d) c = some r := by
  rw [coveOf, bornCove, judgeFloors_cove]
  exact tget_tput _ _ _

theorem coveDelete_none (h : coveOf d c = none) : coveDelete c d = mboxDone { status := 5 } d := by rw [coveDelete, h]; rfl

theorem coveDelete_some {r : CoveRec} (h : coveOf d c = some r) : coveDelete c d =
    if c = 0 ∨ r.state = .deleting then mboxDone { status := 3 } d
    else
      let x := { d with host.waits := d.host.waits ++ [{ cntlid := 0, cid := 0, kind := 7, subject := c }] }
      if r.state = .resetting then x else startDelete c x := by
  rw [coveDelete, h]
  rfl

theorem deleteDrained_none (h : coveOf d c = none) : deleteDrained c d = d := by rw [deleteDrained, h]

theorem deleteDrained_waits {r : CoveRec} (h : coveOf d c = some r) (hr : r.state ≠ .deleting ∨ deleteReady d c = false) :
    deleteDrained c d = d := by
  rw [deleteDrained, h]
  exact if_pos (hr.imp_right (by simp [·]))

/-- A deletion at its end: bindings, attachments, key slots and the record are gone (R343 steps 4 and 5). -/
def coveGone (c : Nat) (d : Dev) : Dev :=
  let x := destroySlots c { d with
    cove.bindings := d.cove.bindings.filter (fun b => b.2.cove != c), pool.held := terase d.pool.held c
    host.nss := tall d.host.nss (fun n => { n with coves := n.coves.filter (fun z => z != c) })
    prism.changes := d.prism.changes ++ (coveNamespaces d c).map TableChange.nsmap }
  ((d.cove.bindings.filter (fun b => b.2.cove == c)).map (·.1)).foldl (fun a i => mirrorBinding i a)
    (mirrorCove c (judgeFloors { x with cove.tab := terase x.cove.tab c }))

theorem deleteDrained_ready {r : CoveRec} (h : coveOf d c = some r) (hs : r.state = .deleting) (hr : deleteReady d c = true) :
    deleteDrained c d =
      if (coveGone c d).host.waits.any (fun w => w.kind == 7 && w.subject == c) then mboxDone { status := 0 } { coveGone c d with
        host.waits := (coveGone c d).host.waits.filter (fun w => !(w.kind == 7 && w.subject == c)) }
      else coveGone c d := by
  rw [deleteDrained, h]
  exact if_neg (by simp [hs, hr])

/-! ## Bindings (11 R344, R346) -/

theorem bindSet_malformed {b : Binding} (h : 4096 ≤ b.cove ∨ 255 < b.maxAssoc ∨ (16384 ≤ c ∧ c ≠ 0xFFFFFFFF)) :
    bindSet c b d = mboxDone { status := 2 } d := if_pos h

/-- The other valid entries of the Cove that an entry names. -/
def otherBindings (c : Nat) (b : Binding) (d : Dev) : Table Binding :=
  d.cove.bindings.filter (fun y => y.1 != c && y.2.valid && y.2.cove == b.cove)

theorem bindSet_named {b : Binding} (hc : b.cove < 4096) (hm : b.maxAssoc ≤ 255) (hi : c < 16384) : bindSet c b d =
    if !thas d.cove.tab b.cove then mboxDone { status := 5 } d
    else if b.valid ∧ (otherBindings c b d).any
      (fun e => (e.2.anyHost && b.anyHost) || (!e.2.anyHost && !b.anyHost && e.2.hostid == b.hostid)) then mboxDone { status := 4 } d
    else if c = 16384 ∨ (b.valid ∧ 1024 ≤ (otherBindings c b d).length) then mboxDone { status := 6 } d
    else
      let same := (tget d.cove.bindings c).any (fun o => o.hostid == b.hostid && o.cove == b.cove && o.anyHost == b.anyHost)
      let kept := if same then ((tget d.cove.bindings c).map (·.assoc)).getD 0 else 0
      let d1 := if same then d else detachBinding c d
      mboxDone { status := 0, dw0 := c } (mirrorBinding c { d1 with cove.bindings := tput d1.cove.bindings c { b with assoc := kept } }) := by
  have own : (if c = 0xFFFFFFFF then (tfree d.cove.bindings 0 16384).getD 16384 else c) = c := if_neg (by omega)
  unfold bindSet
  rw [own]
  exact if_neg (by omega)

theorem bindClear_malformed (h : 16384 ≤ c) : bindClear c d = mboxDone { status := 2 } d := if_pos h

theorem bindClear_named (h : c < 16384) : bindClear c d = if !thas d.cove.bindings c then mboxDone { status := 5 } d
    else mboxDone { status := 0, dw0 := c } (mirrorBinding c (detachBinding c { d with cove.bindings := terase d.cove.bindings c })) :=
  if_neg (Nat.not_le.mpr h)

end

end Sys2Proof.Machine

open Sys2Proof Sys2Proof.Machine

/-- Settles O20: a side that does not serve, then creation, deletion and bindings, and the end of a deletion. -/
theorem covesDefined : Obligations.CovesDefined := by
  intro s c d e ended
  refine ⟨fun hr hb => ?_, fun r x => coveOf_bornCove c r x, fun r hc => ⟨fun h => runs_onMbox rfl (deleteDrained_waits hc h), fun hs hd => ?_⟩,
    fun hc => runs_onMbox rfl (deleteDrained_none hc)⟩
  · have takes : MboxTakes s.dev := ⟨hr, hb⟩
    refine ⟨fun hs => ⟨fun n => runs_notServing takes rfl hs, runs_notServing takes rfl hs, fun b => runs_notServing takes rfl hs,
      runs_notServing takes rfl hs⟩, fun hs => ?_⟩
    refine ⟨fun n => ⟨fun h => runs_serving takes rfl hs (coveCreate_malformed h), fun h0 h4 hn hl => ?_⟩,
      fun hc => runs_serving takes rfl hs (coveDelete_none hc),
      fun r hc => ⟨fun h => runs_serving takes rfl hs ((coveDelete_some (d := mboxBegun d) hc).trans (if_pos h)), fun h0 hd => ?_⟩,
      fun b => ⟨fun h => runs_serving takes rfl hs (bindSet_malformed h), fun hc hm hi => ?_⟩,
      fun h => runs_serving takes rfl hs (bindClear_malformed h),
      fun h ht => runs_serving takes rfl hs ((bindClear_named h).trans (if_pos (bnot_of_false ht))),
      fun h ht => runs_serving takes rfl hs ((bindClear_named h).trans (if_neg (not_bnot_of_true ht)))⟩
    · have created := coveCreate_wellFormed (d := mboxBegun d) h0 h4 hn hl
      refine ⟨fun h => runs_serving takes rfl hs (created.trans (if_pos h)), fun ht hq => ?_⟩
      have free : ¬ (thas d.cove.tab c = true ∨ (coveOfNqn d n).isSome = true) := by simp [ht, hq]
      have created := created.trans (if_neg free)
      exact ⟨fun h => runs_serving takes rfl hs (created.trans (if_pos h)),
        fun h => runs_serving takes rfl hs (created.trans (if_neg (ne_true_of_eq_false h)))⟩
    · have deleted := (coveDelete_some (d := mboxBegun d) hc).trans (if_neg (not_or.mpr ⟨h0, hd⟩))
      exact ⟨fun h => runs_serving takes rfl hs (deleted.trans (if_pos h)), fun h => runs_serving takes rfl hs (deleted.trans (if_neg h))⟩
    · have set := bindSet_named (d := mboxBegun d) hc hm hi
      refine ⟨fun h => runs_serving takes rfl hs (set.trans (if_pos (bnot_of_false h))), fun h => ?_⟩
      have set := set.trans (if_neg (not_bnot_of_true h))
      refine ⟨fun hv ha => runs_serving takes rfl hs (set.trans (if_pos ⟨hv, ha⟩)), fun hn hg => runs_serving takes rfl hs (set.trans ?_)⟩
      have others : otherBindings c b (mboxBegun d) = [] := hn
      have new : tget (mboxBegun d).cove.bindings c = none := hg
      rw [others, new, if_neg (by simp), if_neg (by simp; omega)]
      rfl
  · have gone := deleteDrained_ready (d := d) hc hs hd
    exact ⟨fun h => runs_onMbox rfl (gone.trans (if_pos h)), fun h => runs_onMbox rfl (gone.trans (if_neg (ne_true_of_eq_false h)))⟩

namespace Sys2Proof.Machine

/-! ## Connect (11 R345, R347) -/

theorem exec_connect (x : ConnectArgs) (s : State) : Gives (.connect x) s (connect x s.dev) := rfl

section
variable {d : Dev} {x : ConnectArgs} {q : Qp}

theorem connect_noQp (h : qpOf d x.qpn = none) : connect x d = d := by rw [connect, h]

theorem connect_unfit (hq : qpOf d x.qpn = some q) (h : q.error = true ∨ q.connected = false ∨ q.cntlid ≠ 0) : connect x d = d := by
  rw [connect, hq]
  exact if_pos (h.imp_right (Or.imp_left bnot_of_false))

theorem connect_fit (hq : qpOf d x.qpn = some q) (he : q.error = false) (hc : q.connected = true) (h0 : q.cntlid = 0) :
    connect x d = if x.qid = 0 then connectAdmin x q d else connectIo x q d := by
  rw [connect, hq]
  exact if_neg (by simp [he, hc, h0])

theorem connectAdmin_noCove (h : coveOfNqn d x.subnqn = none) : connectAdmin x q d = refuseConnect x 0x82 d := by
  simp only [connectAdmin, adminConnectCheck, h]

variable {c : Nat} (hc : coveOfNqn d x.subnqn = some c)
include hc

/-- A check that fails once the Cove is found. -/
theorem connectAdmin_refused {sc : Nat} (h : adminConnectCheck d x q = .error sc) :
    connectAdmin x q d = refuseConnect x sc (coveCount c 14 1 d) := by
  simp only [connectAdmin, h, hc]

variable {r : CoveRec} (hr : coveOf d c = some r)
include hr

theorem adminConnectCheck_resetting (h : r.state = .resetting) : adminConnectCheck d x q = .error 0x81 := by
  simp only [adminConnectCheck, hc, hr, h, Option.map_some, Option.getD_some]

theorem adminConnectCheck_gone (h : r.state = .deleting ∨ r.state = .free) : adminConnectCheck d x q = .error 0x82 := by
  obtain h | h := h <;> simp only [adminConnectCheck, hc, hr, h, Option.map_some, Option.getD_some]

variable (hs : r.state = .active ∨ r.state = .frozen)
include hs

theorem adminConnectCheck_unbound (h : bindingFor d c x.hostid = none) : adminConnectCheck d x q = .error 0x84 := by
  obtain hs | hs := hs <;> simp only [adminConnectCheck, hc, hr, hs, h, Option.map_some, Option.getD_some]

theorem adminConnectCheck_bound {i : Nat} {b : Binding} (h : bindingFor d c x.hostid = some (i, b)) : adminConnectCheck d x q =
    if b.maxAssoc ≠ 0 ∧ b.maxAssoc ≤ b.assoc then .error 0x82
    else match tfree d.host.ctrls 1 65519 with
      | none => .error 0x82
      | some k => if x.cntlid = 0xFFFF ∧ queueFits d c q (x.sqsize + 1) true then .ok (c, i, k) else .error 0x82 := by
  obtain hs | hs := hs <;> simp only [adminConnectCheck, hc, hr, hs, h, Option.map_some, Option.getD_some] <;> rfl

theorem adminConnectCheck_under {i : Nat} {b : Binding} (h : bindingFor d c x.hostid = some (i, b))
    (hm : b.maxAssoc = 0 ∨ b.assoc < b.maxAssoc) : adminConnectCheck d x q =
    match tfree d.host.ctrls 1 65519 with
      | none => .error 0x82
      | some k => if x.cntlid = 0xFFFF ∧ queueFits d c q (x.sqsize + 1) true then .ok (c, i, k) else .error 0x82 :=
  (adminConnectCheck_bound hc hr hs h).trans (if_neg (by omega))

end

/-- A controller connects: it counts under its binding (R345). -/
def ctrlBorn (x : ConnectArgs) (c i k : Nat) (d : Dev) : Dev :=
  { d with
    host.ctrls := tput d.host.ctrls k { cove := c, hostid := x.hostid, adminQpn := x.qpn, adminSize := x.sqsize + 1, binding := i
                                        hostnqn := x.hostnqn, kato := ceilDiv x.kato 100 * 100 }
    cove.bindings := tmod d.cove.bindings i (fun b => { b with assoc := b.assoc + 1 })
    net.qps := tmod d.net.qps x.qpn (fun w => { w with cntlid := k, sqid := 0, cove := c })
    prism.changes := d.prism.changes ++ [.qpmap x.qpn] }

section
variable {d : Dev} {x : ConnectArgs} {q : Qp}

theorem connectAdmin_connects {c i k : Nat} (h : adminConnectCheck d x q = .ok (c, i, k)) :
    connectAdmin x q d = answerAdmin k x.cid ok k (coveCount c 13 1 (ctrlBorn x c i k d)) := by
  simp only [connectAdmin, h]
  rfl

theorem connectIo_noCtrl (h : ctrlOf d x.cntlid = none) : connectIo x q d = refuseConnect x 0x82 d := by rw [connectIo, h]

theorem connectIo_ctrl {k : Ctrl} (h : ctrlOf d x.cntlid = some k) : connectIo x q d =
    if k.ended ∨ !k.enabled ∨ k.shst ≠ 0 ∨ thas d.host.sqs (sqKey x.cntlid x.qid) ∨ !queueFits d k.cove q (x.sqsize + 1) false then
      refuseConnect x 0x82 (coveCount k.cove 14 1 d)
    else answer x.cntlid x.qid x.cid ok x.cntlid (coveCount k.cove 13 1 { d with
      host.sqs := tput d.host.sqs (sqKey x.cntlid x.qid) { qpn := x.qpn, size := x.sqsize + 1 }
      net.qps := tmod d.net.qps x.qpn (fun w => { w with cntlid := x.cntlid, sqid := x.qid, cove := k.cove })
      prism.changes := d.prism.changes ++ [.qpmap x.qpn] }) := by
  rw [connectIo, h]

theorem queueFits_bounds {c n : Nat} {a : Bool} (h : queueFits d c q n a = true) :
    2 ≤ n ∧ n ≤ 1024 ∧ coveQps d c + (if q.spray then 8 else 1) ≤ (coveCfg d c).qpQuota := by
  simp only [queueFits, Bool.and_eq_true, decide_eq_true_eq] at h
  obtain ⟨⟨⟨hn, -⟩, hq⟩, -⟩ := h
  cases a <;> simp only [Bool.false_eq_true, if_true, if_false, Bool.and_eq_true, decide_eq_true_eq] at hn
  · exact ⟨hn.1, hn.2, hq⟩
  · exact ⟨by omega, by omega, hq⟩

end

end Sys2Proof.Machine

/-- Settles O21: the queue pair, then the admin queue's checks in their order, then an I/O queue. -/
theorem hostsConnect : Obligations.HostsConnect := by
  intro s x d failed
  have gives {e : Dev} (h : connect x d = e) : Gives (.connect x) s e := gives_congr (exec_connect x s) h
  refine ⟨fun h => gives (connect_noQp h), fun q hq => ⟨fun h => gives (connect_unfit hq h), fun he hc h0 => ?_⟩, fun c q n a h => queueFits_bounds h⟩
  have fit := connect_fit hq he hc h0
  refine ⟨fun hid => ?_, fun hid => ?_⟩
  · have fit := fit.trans (if_pos hid)
    refine ⟨fun h => gives (fit.trans (connectAdmin_noCove h)), fun c r hn hr => ?_⟩
    have refused {sc : Nat} (h : adminConnectCheck d x q = .error sc) : Gives (.connect x) s (failed sc (coveCount c 14 1 d)) :=
      gives (fit.trans (connectAdmin_refused hn h))
    refine ⟨fun h => refused (adminConnectCheck_resetting hn hr h), fun h => refused (adminConnectCheck_gone hn hr h), fun hs =>
      ⟨fun h => refused (adminConnectCheck_unbound hn hr hs h), fun i b hb => ⟨fun hm hle =>
        refused ((adminConnectCheck_bound hn hr hs hb).trans (if_pos ⟨hm, hle⟩)), fun hm => ?_⟩⟩⟩
    have under := adminConnectCheck_under (q := q) hn hr hs hb hm
    refine ⟨fun hk => refused (by rw [under, hk]), fun k hk => ?_⟩
    rw [show tfree d.host.ctrls 1 65519 = some k from hk] at under
    exact ⟨fun h => refused (under.trans (if_neg fun g => absurd g.2 (ne_true_of_eq_false h))),
      fun hx h => gives (fit.trans (connectAdmin_connects (under.trans (if_pos ⟨hx, h⟩))))⟩
  · have fit := fit.trans (if_neg hid)
    refine ⟨fun h => gives (fit.trans (connectIo_noCtrl h)), fun k hk => ⟨fun h => gives (fit.trans ((connectIo_ctrl hk).trans (if_pos ?_))),
      fun h1 h2 h3 h4 h5 => gives (fit.trans ((connectIo_ctrl hk).trans (if_neg ?_)))⟩⟩
    · exact h.imp_right fun h => h.elim (fun h => Or.inl (bnot_of_false h)) fun h =>
        Or.inr (Or.inr (h.imp_right bnot_of_false))
    · simp only [not_or]
      exact ⟨ne_true_of_eq_false h1, not_bnot_of_true h2, not_not.mpr h3, ne_true_of_eq_false h4, not_bnot_of_true h5⟩

namespace Sys2Proof.Machine

/-! ## Freeze and thaw (11 R342, R350, R352, R355) -/

/-- The Cove `c` has a page and the record `r`, and the blocks take writes. -/
structure CovePage (d : Dev) (c : Nat) (r : CoveRec) : Prop where
  paged : c < 4096
  found : coveOf d c = some r
  opened : blocksOpen d = true

theorem thas_of_tget {α : Type} {t : Table α} {k : Nat} {x : α} (h : tget t k = some x) : thas t k = true := by
  induction t with
  | nil => cases h
  | cons e t ih =>
    obtain ⟨j, w⟩ := e
    by_cases hk : k = j
    · simp [thas, hk]
    · simp only [tget, List.lookup, beq_false_of_ne hk] at h
      simp only [thas, List.any_cons, Bool.or_eq_true]
      exact Or.inr (ih h)

section
variable {d : Dev} {c : Nat} {r : CoveRec} (h : CovePage d c r) {v : Reg} (f : Dev → Dev)
include h

theorem coveCtrl_one (hv : ([0, 2, 3, 4].filter (fun i => v.getLsbD i)).length = 1) : coveCtrl c v f d = f d :=
  if_neg (by simp [hv, thas_of_tget h.found, h.opened, h.paged])

omit h in
theorem coveCtrl_many (hv : ([0, 2, 3, 4].filter (fun i => v.getLsbD i)).length ≠ 1) : coveCtrl c v f d = d := if_pos (Or.inl hv)

end

theorem or_getLsbD_left {v : Reg} {i : Nat} (h : v.getLsbD i = true) (w : Reg) : (v ||| w).getLsbD i = true := by
  rw [BitVec.getLsbD_or, h, Bool.true_or]

theorem or_getLsbD_right (v : Reg) {w : Reg} {i : Nat} (h : w.getLsbD i = true) : (v ||| w).getLsbD i = true := by
  rw [BitVec.getLsbD_or, h, Bool.or_true]

/-- COVE_CTRL with a second request set beside `i` is ignored. -/
theorem requests_ne_one {v : Reg} {i j : Nat} (hi : i ∈ [0, 2, 3, 4]) (hj : j ∈ [0, 2, 3, 4]) (hij : i ≠ j)
    (hvi : v.getLsbD i = true) (hvj : v.getLsbD j = true) : ([0, 2, 3, 4].filter (fun i => v.getLsbD i)).length ≠ 1 := by
  intro h
  obtain ⟨k, hk⟩ := List.length_eq_one_iff.mp h
  have mi : i ∈ [0, 2, 3, 4].filter (fun i => v.getLsbD i) := List.mem_filter.mpr ⟨hi, hvi⟩
  have mj : j ∈ [0, 2, 3, 4].filter (fun i => v.getLsbD i) := List.mem_filter.mpr ⟨hj, hvj⟩
  rw [hk, List.mem_singleton] at mi mj
  exact hij (mi.trans mj.symm)

section
variable {d : Dev} {c : Nat} {r : CoveRec} (h : coveOf d c = some r)
include h

theorem coveStateOf_some : coveStateOf d c = some r.state := by rw [coveStateOf, h]; rfl

theorem coveFreezing_some : coveFreezing d c = r.freezing.isSome := by rw [coveFreezing, h]; rfl

theorem freezeByCtrl_active (hs : r.state = .active) : freezeByCtrl c d =
    if r.freezing.isSome then joinFreeze c d else modCove c (fun x => { x with freezing := some 0 }) d := by
  simp only [freezeByCtrl, h, hs]

theorem freezeByCtrl_frozen (hs : r.state = .frozen) : freezeByCtrl c d = raiseCove c 0 d := by simp only [freezeByCtrl, h, hs]

theorem freezeByCtrl_busy (hs : r.state = .resetting ∨ r.state = .deleting) : freezeByCtrl c d = refuseControl c d := by
  obtain hs | hs := hs <;> simp only [freezeByCtrl, h, hs]

theorem coveFrozen_waits (hs : r.state ≠ .active ∨ r.freezing = none ∨ coveLive d c ≠ 0) : coveFrozen c d = d := by
  rw [coveFrozen, h]
  refine if_pos ?_
  obtain hs | hs | hs := hs <;> simp [hs]

theorem coveFrozen_frozen {z : Nat} (hs : r.state = .active) (hf : r.freezing = some z) (hl : coveLive d c = 0) (hw : r.resetWaits = none) :
    coveFrozen c d = answerWaits 3 c ok (if z = 2 then mirrorCove c (modCove c (fun x => { x with state := .frozen, freezing := none }) d)
      else raiseCove c 0 (mirrorCove c (modCove c (fun x => { x with state := .frozen, freezing := none }) d))) := by
  rw [coveFrozen, h]
  dsimp only
  rw [if_neg (by simp [hs, hf, hl]), hw, hf]
  simp only [Option.some.injEq]

theorem coveOf_modCove (f : CoveRec → CoveRec) : coveOf (modCove c f d) c = some (f r) := by
  rw [coveOf, modCove, tget_tmod, ← coveOf, h, Option.map_some]

end

theorem dropFreeze_none {d : Dev} {c : Nat} {r : CoveRec} (h : coveOf d c = some r) (hf : r.freezing = none) (he : r.exporting = false)
    (hw : d.host.waits.any (fun w => w.kind == 6 && w.subject == c) = false) : dropFreeze c d = d := by
  rw [dropFreeze, h]
  exact if_pos ⟨by rw [hf]; rfl, bnot_of_false he, bnot_of_false hw⟩

theorem thawCove_active {d : Dev} {c : Nat} {r : CoveRec} (h : coveOf d c = some r) (hs : r.state = .active) (hf : r.freezing = none)
    (hr : r.resetWaits = none) (he : r.exporting = false) (hw : d.host.waits.any (fun w => w.kind == 6 && w.subject == c) = false) :
    thawCove c d = resumeCove c (raiseCove c 0 (modCove c (fun x => { x with state := .active, resetWaits := none }) d)) := by
  have dropped : dropFreeze c (modCove c (fun x => { x with state := .active, resetWaits := none }) d) = _ :=
    dropFreeze_none (coveOf_modCove h _) hf he hw
  rw [thawCove, h]
  dsimp only
  rw [hr, dropped, hs]
  rfl

/-! ## Cove Control by a command (11 R352) -/

section
variable {s : State} {n cid c : Nat} {k : Ctrl} (u : InUse s.dev n k) (hc : c < 4096) {i : Instr} {f : Dev → Dev} {b : Bool}
  (hi : exec i s = onMbox s (coveFeature n cid c b f))
include u hi

theorem runs_coveFeature_foreign (h : k.cove ≠ 0 ∨ (b = true ∧ c = 0)) : Runs i s (answerAdmin n cid (gen 0x02) 0 s.dev) := by
  refine runs_inUse u hi ?_
  rw [ctrlCove_inUse u]
  exact if_pos (h.imp_right Or.inr)

include hc

theorem runs_coveFeature (h0 : k.cove = 0) (hb : b = false ∨ c ≠ 0) {e : Dev} (hf : f s.dev = e) : Runs i s e := by
  refine runs_inUse u hi ?_
  rw [ctrlCove_inUse u]
  refine (if_neg ?_).trans hf
  obtain rfl | hb := hb <;> simp [*]

end

end Sys2Proof.Machine

/-- Settles O22: COVE_CTRL, Set Features C1h, then the end of a freeze and a thaw. -/
theorem covesFreeze : Obligations.CovesFreeze := by
  intro s c n cid k r d freezing hc hr ho hn hk he hl
  have u : InUse s.dev n k := ⟨hn, hk, he, hl⟩
  have page : CovePage s.dev c r := ⟨hc, hr, ho⟩
  have state : coveStateOf s.dev c = some r.state := coveStateOf_some hr
  have freezes : coveFreezing s.dev c = r.freezing.isSome := coveFreezing_some hr
  refine ⟨fun v hv => runs_onMbox rfl ?_, fun hs hf => runs_onMbox rfl ((coveCtrl_one page _ (by decide)).trans ?_),
    fun hs hf => runs_onMbox rfl ((coveCtrl_one page _ (by decide)).trans ((freezeByCtrl_active hr hs).trans (if_pos hf))),
    fun hs => runs_onMbox rfl ((coveCtrl_one page _ (by decide)).trans (freezeByCtrl_frozen hr hs)),
    fun hs => ⟨runs_onMbox rfl ((coveCtrl_one page _ (by decide)).trans (freezeByCtrl_busy hr hs)),
      runs_onMbox rfl ((coveCtrl_one page _ (by decide)).trans ?_)⟩,
    fun hs => runs_onMbox rfl ((coveCtrl_one page _ (by decide)).trans ?_),
    fun h0 => ⟨runs_coveFeature_foreign u rfl (Or.inl h0), runs_coveFeature_foreign u rfl (Or.inl h0), runs_coveFeature_foreign u rfl (Or.inl h0)⟩,
    fun h0 => ⟨fun hs hf => runs_coveFeature u hc rfl h0 (Or.inl rfl) ?_, fun hs hf => runs_coveFeature u hc rfl h0 (Or.inl rfl) ?_,
      fun hs => runs_coveFeature u hc rfl h0 (Or.inl rfl) ?_,
      fun hs => ⟨runs_coveFeature u hc rfl h0 (Or.inl rfl) ?_, runs_coveFeature u hc rfl h0 (Or.inl rfl) ?_⟩,
      fun hs => runs_coveFeature u hc rfl h0 (Or.inl rfl) ?_, runs_coveFeature u hc rfl h0 (Or.inl rfl) ?_⟩,
    fun hs => runs_onMbox rfl (coveFrozen_waits hr hs), fun z hs hf hv hw => runs_onMbox rfl (coveFrozen_frozen hr hs hf hv hw),
    fun hs hf hw hx ha => thawCove_active hr hs hf hw hx ha⟩
  · obtain hv | hv | hv := hv
    · exact coveCtrl_many _ (requests_ne_one (i := 0) (j := 2) (by decide) (by decide) (by decide) (or_getLsbD_left hv _) (or_getLsbD_right v rfl))
    · exact coveCtrl_many _ (requests_ne_one (i := 3) (j := 2) (by decide) (by decide) (by decide) (or_getLsbD_left hv _) (or_getLsbD_right v rfl))
    · exact coveCtrl_many _ (requests_ne_one (i := 4) (j := 2) (by decide) (by decide) (by decide) (or_getLsbD_left hv _) (or_getLsbD_right v rfl))
  · exact (freezeByCtrl_active hr hs).trans (if_neg (by rw [hf]; exact nofun))
  · obtain hs | hs := hs <;> simp only [state, hs, d]
  · obtain hs | hs := hs <;> simp only [state, hs, d]
  · simp only [state, hs, freezes, hf, Option.isSome_none, Bool.false_eq_true, if_false, freezing, d]
  · simp only [state, hs, freezes, hf, if_true, d]
  · simp only [state, hs]
    rfl
  · obtain hs | hs := hs <;> simp only [state, hs, d]
  · obtain hs | hs := hs <;> simp only [state, hs, d]
  · obtain hs | hs := hs <;> simp only [state, hs] <;> rfl
  · simp only [show coveOf s.dev c = some r from hr, Option.getD_some, d]

namespace Sys2Proof.Machine

/-! ## Reset (11 R352 to R355) -/

section
variable {d : Dev} {c : Nat} {r : CoveRec} (h : coveOf d c = some r) (ends : Bool)
include h

theorem requestReset_runs (hs : r.state = .frozen ∨ (r.state = .active ∧ r.freezing = none)) :
    requestReset c ends d = some (startReset c ends d) := by
  obtain hs | ⟨hs, hf⟩ := hs
  · simp only [requestReset, h, hs]
  · simp only [requestReset, h, hs, hf, Option.isSome_none, Bool.false_eq_true, if_false]

theorem requestReset_waits (hs : r.state = .active) (hf : r.freezing.isSome = true) :
    requestReset c ends d = some (modCove c (fun x => { x with resetWaits := some ends }) d) := by
  simp only [requestReset, h, hs, hf, if_true]

theorem requestReset_refused (hs : r.state = .resetting ∨ r.state = .deleting) : requestReset c ends d = none := by
  obtain hs | hs := hs <;> simp only [requestReset, h, hs]

end

/-- Set Features C1h waits for the reset that it began, or is a Command Sequence Error (R352). -/
def resetAsked (n cid c : Nat) (d : Dev) : Option Dev → Dev
  | some x => waitFor n cid 4 c 0 x
  | none => answerAdmin n cid (gen 0x0C) 0 d

/-- A write of the Cove is still to complete. -/
def writesLeft (c : Nat) (d : Dev) : Bool := d.adm.cmds.any (fun e => e.2.cove == c && isWrite e.2.kind && !e.2.completed)

/-- The end of step 4 of a reset: no command is taken up again, and GEN counts (R352). -/
def coveSquashed (c : Nat) (d : Dev) : Dev := modCove c (fun x => { x with squashed := true, gen := (x.gen + 1) % 256 }) d

/-- The reads of a Cove that a reset in mode 0 ends, and the capsules held that it rejects (R352). -/
def resetEndsReads (c : Nat) (d : Dev) : Dev :=
  d.adm.cmds.foldl (fun a e => if e.2.cove = c ∧ isRead e.2.kind ∧ !e.2.completed then resetRead e.1 e.2 a else a) d

section
variable {d : Dev} {c : Nat} {r : CoveRec} (h : coveOf d c = some r)
include h

theorem resetDrained_waits (hs : r.state ≠ .resetting ∨ r.squashed = true ∨ writesLeft c d = true) : resetDrained c d = d := by
  rw [resetDrained, h]
  exact if_pos hs

variable (hs : r.state = .resetting) (hq : r.squashed = false) (hw : writesLeft c d = false)
include hs hq hw

omit h in
theorem resetDrained_ready : ¬ (r.state ≠ .resetting ∨ r.squashed = true ∨ writesLeft c d = true) := by simp [hs, hq, hw]

theorem resetDrained_ends (he : r.resetEnds = true) :
    resetDrained c d = coveSquashed c ((ctrlsOfCove d c).foldl (fun a y => endAssociation y a) d) := by
  rw [resetDrained, h]
  refine (if_neg (resetDrained_ready hs hq hw)).trans ?_
  dsimp only
  rw [if_pos he]
  rfl

/-- Where no queue is left to look at, the reads that end are all there is. -/
theorem resetDrained_reads (he : r.resetEnds = false) (hn : allSqs (resetEndsReads c d) = []) :
    resetDrained c d = coveSquashed c (resetEndsReads c d) := by
  rw [resetDrained, h]
  refine (if_neg (resetDrained_ready hs hq hw)).trans ?_
  dsimp only
  unfold resetEndsReads at hn
  rw [if_neg (ne_true_of_eq_false he), hn]
  rfl

end

section
variable {d : Dev} {c : Nat} {r : CoveRec} (h : coveOf d c = some r)
include h

theorem resetDone_waits (hs : r.state ≠ .resetting ∨ r.squashed = false ∨ coveInflight d c ≠ 0) : resetDone c d = d := by
  rw [resetDone, h]
  exact if_pos (hs.imp_right (Or.imp_left bnot_of_false))

/-- A reset at its end: the Cove is as it was before, and the commands that waited are answered (R352 step 5). -/
def coveReset (c gen : Nat) (d : Dev) : Dev :=
  let e := modCove c (fun x => { x with state := if x.resetToFrozen then .frozen else .active, squashed := false }) d
  answerWaits 4 c ok (mirrorCove c (logCove c (0x8000 + c) 1 0 (payload c 0 gen 0) (raiseCove c 0 (coveCount c 15 1 e))))

theorem resetDone_ready (hs : r.state = .resetting) (hq : r.squashed = true) (hi : coveInflight d c = 0) : resetDone c d =
    if (coveReset c r.gen d).host.waits.any (fun w => w.kind == 7 && w.subject == c) then startDelete c (coveReset c r.gen d)
    else if r.resetToFrozen then coveReset c r.gen d else resumeCove c (coveReset c r.gen d) := by
  rw [resetDone, h]
  exact if_neg (by simp [hs, hq, hi])

end

theorem exec_coveResetWritesDrained (c : Nat) (s : State) : Gives (.coveResetWritesDrained c) s (resetDrained c s.dev) := rfl

end Sys2Proof.Machine

/-- Settles O23: COVE_CTRL, Set Features C1h, then the two steps of a reset. -/
theorem covesReset : Obligations.CovesReset := by
  intro s c n cid k r d waits hc hr ho hn hk he hl
  have u : InUse s.dev n k := ⟨hn, hk, he, hl⟩
  have page : CovePage s.dev c r := ⟨hc, hr, ho⟩
  have byCtrl {v : Reg} {x : Option Dev} {e : Dev} (hv : ([0, 2, 3, 4].filter (fun i => (v ||| 1#32).getLsbD i)).length = 1)
      (hx : requestReset c (v.getLsbD 1) s.dev = x) (hxe : x.getD (refuseControl c s.dev) = e) : Runs (.coveCtrlReset c v) s e :=
    runs_onMbox rfl ((coveCtrl_one page _ hv).trans (hx ▸ hxe))
  have ignored {v : Reg} {j : Nat} (hj : j ∈ [0, 2, 3, 4]) (hj0 : 0 ≠ j) (hv : v.getLsbD j = true) : Runs (.coveCtrlReset c v) s d :=
    runs_onMbox rfl (coveCtrl_many _ (requests_ne_one (i := 0) (by decide) hj hj0 (or_getLsbD_right v rfl) (or_getLsbD_left hv _)))
  refine ⟨fun hs hf => ⟨byCtrl (by decide) (requestReset_runs hr _ (Or.inr ⟨hs, hf⟩)) rfl, byCtrl (by decide) (requestReset_runs hr _ (Or.inr ⟨hs, hf⟩)) rfl⟩,
    fun hs hf => byCtrl (by decide) (requestReset_waits hr _ hs hf) rfl, fun hs => byCtrl (by decide) (requestReset_runs hr _ (Or.inl hs)) rfl,
    fun hs => byCtrl (by decide) (requestReset_refused hr _ hs) rfl,
    fun v hv => hv.elim (ignored (by decide) (by decide)) fun hv => hv.elim (ignored (by decide) (by decide)) (ignored (by decide) (by decide)),
    fun h => ⟨runs_coveFeature_foreign u rfl (h.imp_right (⟨rfl, ·⟩)), runs_coveFeature_foreign u rfl (h.imp_right (⟨rfl, ·⟩))⟩,
    fun h0 hc0 => ?_, ⟨fun hs => gives_congr (exec_coveResetWritesDrained c s) (resetDrained_waits hr hs), fun hs hq hw he =>
      gives_congr (exec_coveResetWritesDrained c s) (resetDrained_ends hr hs hq hw he), fun hs hq hw he hn ha =>
      gives_congr (exec_coveResetWritesDrained c s) ?_, fun hs hq t x ha hx hrd hwr hcp he hn => gives_congr (exec_coveResetWritesDrained c s) ?_⟩,
    fun hs => runs_onMbox rfl (resetDone_waits hr hs), fun hs hq hi => ?_⟩
  · have byFeature {i : Instr} {b : Bool} {x : Option Dev} {e : Dev} (hi : exec i s = onMbox s (resetByFeature n cid c b))
        (hx : requestReset c b s.dev = x) (hxe : resetAsked n cid c s.dev x = e) : Runs i s e :=
      runs_coveFeature u hc hi h0 (Or.inr hc0) (by rw [hx]; exact hxe)
    exact ⟨fun hs => ⟨byFeature rfl (requestReset_runs hr _ hs) rfl, byFeature rfl (requestReset_runs hr _ hs) rfl⟩,
      fun hs hf => byFeature rfl (requestReset_waits hr _ hs hf) rfl,
      fun hs => ⟨byFeature rfl (requestReset_refused hr _ hs) rfl, byFeature rfl (requestReset_refused hr _ hs) rfl⟩⟩
  · have none : resetEndsReads c s.dev = s.dev := by
      rw [resetEndsReads, show s.dev.adm.cmds = [] from ha]
      rfl
    refine (resetDrained_reads hr hs hq hw he (by rw [none]; exact hn)).trans (by rw [none]; rfl)
  · have one : resetEndsReads c s.dev = resetRead t x s.dev := by
      rw [resetEndsReads, show s.dev.adm.cmds = [(t, x)] from ha]
      exact if_pos ⟨hx, hrd, bnot_of_false hcp⟩
    have hw : writesLeft c s.dev = false := by
      rw [writesLeft, show s.dev.adm.cmds = [(t, x)] from ha]
      simp [hwr]
    exact (resetDrained_reads hr hs hq hw he (by rw [one]; exact hn)).trans (by rw [one]; rfl)
  · have done := resetDone_ready (d := s.dev) hr hs hq hi
    exact ⟨fun h => runs_onMbox rfl (done.trans (if_pos h)), fun h => runs_onMbox rfl (done.trans (if_neg (ne_true_of_eq_false h)))⟩
end


section
/-! PROOF. Cove images and written-block logs (O24, O25). -/

namespace Sys2Proof.Machine

/-! ## What a completion to a host changes (08 R262) -/

theorem queuePacket_shape (qpn path : Nat) (b c : Bool) (p : SentPkt) (d : Dev) :
    ∃ n x y, queuePacket qpn path b c p d = { d with net := n, sched := x, prism := y } := by
  unfold queuePacket
  split
  · exact ⟨_, _, _, rfl⟩
  · exact ⟨_, _, _, rfl⟩

theorem cutPacket_shape {qpn : Nat} {d e : Dev} (h : cutPacket qpn d = some e) : ∃ n x y, e = { d with net := n, sched := x, prism := y } := by
  unfold cutPacket at h
  split at h
  · cases h
  split at h
  · cases h
  split at h
  · cases h
  split at h
  · cases h
    exact ⟨_, _, _, rfl⟩
  extract_lets bytes n op len at h
  split at h
  · cases h
  split at h
  · cases h
  · cases h
    exact ⟨_, _, _, (queuePacket_shape _ _ _ _ _ _).choose_spec.choose_spec.choose_spec⟩

theorem pumpQp_shape (n : Nat) (qpn : Nat) : ∀ d : Dev, ∃ t x y, pumpQp n qpn d = { d with net := t, sched := x, prism := y } := by
  induction n with
  | zero => exact fun d => ⟨_, _, _, rfl⟩
  | succ n ih =>
    intro d
    rw [pumpQp]
    split
    next => exact ⟨_, _, _, rfl⟩
    next e he =>
      obtain ⟨t, x, y, rfl⟩ := cutPacket_shape he
      obtain ⟨t, x, y, hp⟩ := ih { d with net := t, sched := x, prism := y }
      exact ⟨_, _, _, hp⟩

theorem netSend_shape (qpn : Nat) (m : QpMsg) (d : Dev) : ∃ t x y, netSend qpn m d = { d with net := t, sched := x, prism := y } := by
  unfold netSend
  split
  · exact ⟨_, _, _, rfl⟩
  · split
    · exact ⟨_, _, _, rfl⟩
    · exact pumpQp_shape _ _ _

theorem answer_shape {c : Nat} (h : c ≠ 0) (q cid : Nat) (st : Status) (w : Nat) (d : Dev) :
    ∃ t x y o, answer c q cid st w d = { d with net := t, sched := x, prism := y, out := o } := by
  unfold answer
  rw [if_neg h]
  split
  · exact ⟨_, _, _, _, rfl⟩
  · obtain ⟨t, x, y, hs⟩ := netSend_shape ‹_› (.completion cid st w) (complete c q cid st w d)
    exact ⟨_, _, _, _, hs⟩

/-! ## A command open to the management Cove alone -/

theorem admin_cove0 {d : Dev} {c : Nat} {k : Ctrl} (h : InUse d c k) (h0 : k.cove = 0) (cid : Nat) (f : Dev → Dev) :
    admin c cid .cove0 f d = f d := by
  simp only [admin, if_neg h.host, h.found, h.enabled, h.live, h0, Bool.not_true, Bool.false_eq_true, or_self, if_false, ne_eq,
    not_true_eq_false, and_false]

theorem runs_cove0 {s : State} {c cid : Nat} {k : Ctrl} (h : InUse s.dev c k) (h0 : k.cove = 0) {i : Instr} {f : Dev → Dev} {e : Dev}
    (hi : exec i s = onMbox s (admin c cid .cove0 f)) (hf : f s.dev = e) : Runs i s e := by
  rw [Runs, hi, onMbox_eq, admin_cove0 h h0, hf]

/-! ## Slots of COVEIMG (18 R505) -/

theorem imageClaim_none {d : Dev} (h : freeImage d = none) : imageClaim d = mboxDone { status := 6 } d := by rw [imageClaim, h]; rfl
theorem imageClaim_some {d : Dev} {i : Nat} (h : freeImage d = some i) :
    imageClaim d = mboxDone { status := 0, dw0 := i } { d with pool.imgClaimed := d.pool.imgClaimed ++ [i] } := by rw [imageClaim, h]; rfl

theorem freeImage_lt {d : Dev} {i : Nat} (h : freeImage d = some i) : i < imageSlots d :=
  List.mem_range.mp (List.mem_of_find?_eq_some h)

/-! ## Import (11 R359) -/

theorem importFails_bad {b : List Byte} (h : imageOk b = false) (d : Dev) (c : Nat) : importFails d c b = some (gen 0x02, 2) :=
  if_pos (bnot_of_false h)

theorem importFails_taken {d : Dev} {c : Nat} {b : List Byte} (h : imageOk b = true) (ht : thas d.cove.tab c = true) :
    importFails d c b = some (gen 0x0C, 4) := by
  unfold importFails
  exact (if_neg (not_bnot_of_true h)).trans (if_pos (Or.inr (Or.inr ht)))

/-- The mailbox's import from slot `i` of an image `b` (R359). -/
def importSlot (c i : Nat) (b : List Byte) (d : Dev) : Dev :=
  match importFails d c b with
  | some (_, n) => mboxDone { status := n } d
  | none => mboxDone { status := 0 } (freeImageSlot i (importCove c b d))

theorem importSlot_fails {d : Dev} {c i m : Nat} {b : List Byte} {st : Status} (h : importFails d c b = some (st, m)) :
    importSlot c i b d = mboxDone { status := m } d := by rw [importSlot, h]

theorem importSlot_ok {d : Dev} {c i : Nat} {b : List Byte} (h : importFails d c b = none) :
    importSlot c i b d = mboxDone { status := 0 } (freeImageSlot i (importCove c b d)) := by rw [importSlot, h]

theorem importFromSlot_takes {d : Dev} {m : Memory} {c i : Nat} (h : MboxTakes d) (hs : serves d = true) (hi : i < imageSlots d)
    (hu : slotInUse d i = true) (hv : i ∉ d.pool.imgInvalid) :
    importFromSlot c i d m = (importSlot c i (mgets m (pageAddr (imagePage d i)) 65536) (mboxBegun d), m) := by
  unfold importFromSlot
  rw [mboxRun_takes h]
  refine Prod.ext ((if_pos hs).trans ((if_neg (Nat.not_le.mpr hi)).trans ((if_neg (not_bnot_of_true hu)).trans ((if_neg ?_).trans rfl)))) rfl
  rw [List.contains_iff_mem]
  exact hv

/-! ## Export (11 R357, R358) -/

theorem makes_onMboxMem {s : State} {i : Instr} {f : Dev → Memory → Dev × Memory} {x : Dev × Memory} (hi : exec i s = onMboxMem s f)
    (hf : f s.dev s.mem = x) : Places i s x := by
  rw [Places, Makes, hi, ← hf]
  rfl

theorem runs_onMboxMem {s : State} {i : Instr} {f : Dev → Memory → Dev × Memory} {e : Dev} (hi : exec i s = onMboxMem s f)
    (hf : f s.dev s.mem = (e, s.mem)) : Runs i s e := makes_onMboxMem hi hf

/-- A request for a Cove's image that passed its checks, or its refusal (R358). -/
def exportAsked (n cid c : Nat) (keep : Bool) (d : Dev) : Dev :=
  match exportFails d c keep with
  | some st => answerAdmin n cid st 0 d
  | none => waitFor n cid 6 c (b2n keep) d

section
variable {d : Dev} {n : Nat} {k : Ctrl} (u : InUse d n k) (h0 : k.cove = 0) {cid c : Nat} {keep : Bool} (m : Memory)
include u h0

theorem imageExport_refused {st : Status} (h : exportFails d c keep = some st) : imageExport n cid c keep d m = (answerAdmin n cid st 0 d, m) := by
  obtain ⟨t, x, y, o, ha⟩ := answer_shape u.host 0 cid st 0 d
  have asked : admin n cid .cove0 (exportAsked n cid c keep) d = answerAdmin n cid st 0 d := by
    rw [admin_cove0 u h0, exportAsked, h]
  have same : exportsOf (answerAdmin n cid st 0 d) c = exportsOf d c := by
    rw [answerAdmin, ha]
    rfl
  refine (if_neg ?_).trans (Prod.ext asked rfl)
  show ¬ (exportsOf (admin n cid .cove0 (exportAsked n cid c keep) d) c).length = _
  rw [asked, same]
  omega

theorem imageExport_begins (h : exportFails d c keep = none) : imageExport n cid c keep d m =
    beginExport c (waitFor n cid 6 c (if keep then 1 else 0) d) m := by
  have asked : admin n cid .cove0 (exportAsked n cid c keep) d = waitFor n cid 6 c (b2n keep) d := by
    rw [admin_cove0 u h0, exportAsked, h]
  have more : (exportsOf (waitFor n cid 6 c (b2n keep) d) c).length = (exportsOf d c).length + 1 := by
    simp [exportsOf, waitFor]
  refine (if_pos ?_).trans (congrArg (beginExport c · m) asked)
  show (exportsOf (admin n cid .cove0 (exportAsked n cid c keep) d) c).length = _
  rw [asked, more]

end

section
variable {d : Dev} {c : Nat} {r : CoveRec} (h : coveOf d c = some r)
include h

theorem exportFails_zero (h0 : c = 0) (b : Bool) : exportFails d c b = some (gen 0x02) := by
  rw [exportFails, h]
  exact if_pos h0

theorem exportFails_state (h0 : c ≠ 0) (hs : r.state = .resetting ∨ r.state = .deleting ∨ r.freezing.isSome = true) (b : Bool) :
    exportFails d c b = some (gen 0x0C) := by
  rw [exportFails, h]
  exact (if_neg h0).trans (if_pos hs)

theorem takeExport_none (hs : r.state ≠ .frozen ∨ (r.exporting = false ∧ exportsOf d c = [])) (m : Memory) : takeExport c d m = (d, m) := by
  rw [takeExport, h]
  refine if_pos (hs.imp_right fun ⟨he, hx⟩ => ⟨bnot_of_false he, by rw [hx]; rfl⟩)

theorem beginExport_freezes (hs : r.state ≠ .frozen) (m : Memory) :
    beginExport c d m = (modCove c (fun x => { x with freezing := some 2 }) d, m) := by
  refine if_neg ?_
  rw [coveStateOf_some h]
  exact fun e => hs (Option.some.inj e)

theorem exportByCtrl_full (hf : exportFails d c true = some (gen 0x81)) (m : Memory) :
    exportByCtrl c d m = (raiseCove c 2 (modCove c (fun x => { x with imageSlot := 0xFF, imageLen := 0 }) d), m) := by
  rw [exportByCtrl, hf]
  refine Prod.ext (if_neg ?_) rfl
  rw [h]
  exact not_or.mpr ⟨by decide, nofun⟩

end

theorem exportByCtrl_begins {d : Dev} {c : Nat} (hf : exportFails d c true = none) (m : Memory) :
    exportByCtrl c d m = beginExport c (modCove c (fun x => { x with exporting := true }) d) m := by rw [exportByCtrl, hf]

/-- COVE_CTRL's EXPORT, once no other request stands beside it (R350). -/
def exportCtrl (c : Nat) (v : Reg) (d : Dev) (m : Memory) : Dev × Memory :=
  if ([0, 2, 3, 4].filter (fun i => v.getLsbD i)).length ≠ 1 ∨ 4096 ≤ c ∨ !thas d.cove.tab c ∨ !blocksOpen d then (d, m) else exportByCtrl c d m

theorem exec_coveCtrlExport (c : Nat) (v : Reg) (s : State) : exec (.coveCtrlExport c v) s = onMboxMem s (exportCtrl c (v ||| 16#32)) := rfl

theorem exportCtrl_one {d : Dev} {c : Nat} {r : CoveRec} (h : CovePage d c r) {v : Reg}
    (hv : ([0, 2, 3, 4].filter (fun i => v.getLsbD i)).length = 1) (m : Memory) : exportCtrl c v d m = exportByCtrl c d m :=
  if_neg (by simp [hv, thas_of_tget h.found, h.opened, h.paged])

/-! ## Written-block logs (11 R360 to R364) -/

theorem window_length (page : List Byte) (off len : Nat) : (window page off len).length = len := by
  simp [window]

/-- A namespace's log just started (R360). -/
def wblBegun (nsid : Nat) (x : Ns) (d : Dev) : Dev :=
  { d with cove.wbl := tput d.cove.wbl nsid { running := true, swapAsn := x.nextAsn } }

section
variable {d : Dev} {nsid : Nat}

theorem wblStart_ns {x : Ns} (h : tget d.host.nss nsid = some x) : wblStart nsid d =
    if (chartOf d).hbm.shallowsMax < wblMiB (wblBegun nsid x d) then none else some (setShallows (profileOf d).shallows (wblBegun nsid x d)) := by
  rw [wblStart, h]
  rfl

theorem wblOf_stopped (nsid : Nat) (d : Dev) : wblOf (wblStop nsid d) nsid = none := by
  show (tget (terase d.cove.wbl nsid) nsid).bind _ = none
  rw [tget_terase]
  rfl

theorem wblReturn_none (h : wblOf d nsid = none) (n cid o l : Nat) : wblReturn n cid nsid o l d = answerAdmin n cid (gen 0x0C) 0 d := by
  rw [wblReturn, h]

theorem wblReturn_some {w : Wbl} (h : wblOf d nsid = some w) (n cid o l : Nat) :
    wblReturn n cid nsid o l d = answerData n cid (wblBytes d nsid o l w) 0 d := by rw [wblReturn, h]

/-- The two halves of a log change places (R362). -/
def wblSwapped (asn : Nat) (w : Wbl) : Wbl := { w with live := [], retired := w.live, swapAsn := asn, retiredHalf := 1 - w.retiredHalf }

theorem tget_wblSwap {x : Ns} {w : Wbl} (hx : tget d.host.nss nsid = some x) (hw : tget d.cove.wbl nsid = some w) (hr : w.running = true) :
    tget (wblSwap nsid d).cove.wbl nsid = some (wblSwapped x.nextAsn w) := by
  unfold wblSwap
  dsimp only
  rw [tget_tmod, hw, hx, Option.map_some]
  exact congrArg some (if_pos hr)

theorem wblOf_running {w : Wbl} (hw : tget d.cove.wbl nsid = some w) (hr : w.running = true) : wblOf d nsid = some w := by
  rw [wblOf, hw]
  exact if_pos hr

end

section
variable {s : State} {n cid nsid : Nat} {k : Ctrl} (u : InUse s.dev n k) {i : Instr} {f : Dev → Dev}
  (hi : exec i s = onMbox s (wblCmd n cid nsid f))
include u hi

theorem runs_wblCmd (ha : attached s.dev n nsid = true) {e : Dev} (hf : f s.dev = e) : Runs i s e :=
  runs_inUse u hi ((if_pos ha).trans hf)

theorem runs_wblCmd_detached (ha : attached s.dev n nsid = false) : Runs i s (answerAdmin n cid (gen 0x0B) 0 s.dev) :=
  runs_inUse u hi (if_neg (ne_true_of_eq_false ha))

end

end Sys2Proof.Machine

open Sys2Proof Sys2Proof.Machine

/-- Settles O24: slots and the mailbox's import, then import by a command, and images asked for by a command and by COVE_CTRL. -/
theorem coveImages : Obligations.CoveImages := by
  intro s c n cid k d e hn hk he hl h0 ho hc
  have u : InUse s.dev n k := ⟨hn, hk, he, hl⟩
  refine ⟨fun hr hb => ?_, fun b => ⟨fun st m h => runs_cove0 u h0 rfl ?_, fun h => runs_cove0 u h0 rfl ?_,
      fun h => importFails_bad h d c, fun h ht => importFails_taken h ht⟩,
    fun keep st h => runs_onMboxMem rfl (imageExport_refused u h0 s.mem h),
    fun keep h => makes_onMboxMem rfl (imageExport_begins u h0 s.mem h), fun r hr => ?_⟩
  · have takes : MboxTakes s.dev := ⟨hr, hb⟩
    refine ⟨fun h => runs_mbox takes rfl (imageClaim_none h), fun i h => ⟨freeImage_lt h, runs_mbox takes rfl (imageClaim_some h)⟩,
      fun i => ⟨fun h => runs_mbox takes rfl (if_pos h), fun h hu => runs_mbox takes rfl ((if_neg (Nat.not_le.mpr h)).trans (if_pos (bnot_of_false hu))),
        fun h hu => runs_mbox takes rfl ((if_neg (Nat.not_le.mpr h)).trans (if_neg (not_bnot_of_true hu)))⟩,
      runs_mbox takes rfl rfl, fun hs i hi hu hv => ?_⟩
    have slot := importFromSlot_takes (m := s.mem) (c := c) takes hs hi hu hv
    refine ⟨fun st m h => runs_onMboxMem rfl (slot.trans ?_), fun h => runs_onMboxMem rfl (slot.trans ?_)⟩
    · exact congrArg (·, s.mem) (importSlot_fails (d := mboxBegun s.dev) h)
    · exact congrArg (·, s.mem) (importSlot_ok (d := mboxBegun s.dev) h)
  · rw [show importFails s.dev c b = _ from h]
  · rw [show importFails s.dev c b = _ from h]
    rfl
  · have page : CovePage s.dev c r := ⟨hc, hr, ho⟩
    refine ⟨fun h => exportFails_zero hr h true, fun h hs => exportFails_state hr h hs true,
      fun h => makes_onMboxMem (exec_coveCtrlExport c 16 s) ((exportCtrl_one page (by decide) s.mem).trans (exportByCtrl_begins h s.mem)),
      fun h => runs_onMboxMem (exec_coveCtrlExport c 16 s) ((exportCtrl_one page (by decide) s.mem).trans (exportByCtrl_full hr h s.mem)),
      fun v hv => runs_onMboxMem (exec_coveCtrlExport c v s) (if_pos (Or.inl ?_)), makes_onMboxMem rfl rfl,
      fun hs => takeExport_none hr hs s.mem, fun hs => beginExport_freezes hr hs s.mem⟩
    have second {j : Nat} (hj : j ∈ [0, 2, 3, 4]) (hj4 : 4 ≠ j) (hv : v.getLsbD j = true) :=
      requests_ne_one (v := v ||| 16#32) (i := 4) (by decide) hj hj4 (or_getLsbD_right v rfl) (or_getLsbD_left hv _)
    exact hv.elim (second (by decide) (by decide)) fun hv => hv.elim (second (by decide) (by decide)) (second (by decide) (by decide))

/-- Settles O25: C4h of an attached namespace and of another, then the control table. -/
theorem writtenBlockLogs : Obligations.WrittenBlockLogs := by
  intro s n cid nsid k x d started hn hk he hl hx
  have u : InUse s.dev n k := ⟨hn, hk, he, hl⟩
  have start : wblStart nsid s.dev = _ := wblStart_ns hx
  refine ⟨fun ha => ⟨fun h => runs_wblCmd u rfl ha ?_, fun h => runs_wblCmd u rfl ha ?_,
      fun o l h => runs_wblCmd u rfl ha (wblReturn_none h n cid o l),
      fun o l w h => ⟨runs_wblCmd u rfl ha (wblReturn_some h n cid o l), window_length _ _ _⟩,
      fun o l w hw hr => ?_, runs_wblCmd u rfl ha rfl⟩,
    fun ha o l => ⟨runs_wblCmd_detached u rfl ha, runs_wblCmd_detached u rfl ha, runs_wblCmd_detached u rfl ha, runs_wblCmd_detached u rfl ha⟩,
    rfl, rfl, rfl, start, wblOf_stopped nsid d⟩
  · rw [start.trans (if_neg (Nat.not_lt.mpr h))]
    rfl
  · rw [start.trans (if_pos h)]
  · have swapped := tget_wblSwap hx hw hr
    exact ⟨swapped, runs_wblCmd u rfl ha (wblReturn_some (wblOf_running swapped hr) n cid o l)⟩
end


section
/-! PROOF. The states of members (O27). -/

namespace Sys2Proof.Machine

/-- A fold keeps what each of its steps keeps. -/
theorem foldl_keeps {α β γ : Type} (p : α → γ) {f : α → β → α} (h : ∀ a b, p (f a b) = p a) (l : List β) : ∀ a, p (l.foldl f a) = p a := by
  induction l with
  | nil => exact fun a => rfl
  | cons b l ih => exact fun a => (ih (f a b)).trans (h a b)

/-! ## The state of a member (06 R172) -/

theorem memberIssue_labels (b : Nat) (o : MemberOp) (d : Dev) : (memberIssue b o d).shelf.labels = d.shelf.labels := by
  obtain ⟨_, _, _, _, _, _, _, h⟩ := memberIssue_shape b o d; rw [h]

theorem writeKeepers_labels (sh : Nat) (l : List Nat) (d : Dev) : (writeKeepers sh l d).shelf.labels = d.shelf.labels := by
  unfold writeKeepers
  split
  · rfl
  · exact foldl_keeps (fun x : Dev => x.shelf.labels) (fun a b => memberIssue_labels b _ a) l _

theorem changeKeeper_labels (sh : Nat) (l : List Nat) (d : Dev) : (changeKeeper sh l d).shelf.labels = d.shelf.labels := by
  unfold changeKeeper
  extract_lets new
  split
  · rfl
  · exact writeKeepers_labels sh _ _

theorem logEvent_labels (a b c l : Nat) (d : Dev) : (logEvent a b c l d).shelf.labels = d.shelf.labels := by
  obtain ⟨_, _, _, h⟩ := logEvent_shape a b c l d; rw [h]

section
variable {d : Dev} {sh pos : Nat} {st : MemberState} {e : RosterEntry}

theorem stateOf_congr {x y : Dev} (h : x.shelf.labels = y.shelf.labels) (sh pos : Nat) : stateOf x sh pos = stateOf y sh pos := by
  rw [stateOf, labelOf, h]
  rfl

theorem setState_labels (hp : pos < 32) (he : tget (labelOf d sh).roster pos = some e) (hne : e.state ≠ st) :
    (setState sh pos st d).shelf.labels = (setLabel sh { labelOf d sh with
      roster := tput (labelOf d sh).roster pos { e with state := st } } d).shelf.labels := by
  have near : (if st = .online ∧ 32 ≤ pos then MemberState.evacuating else st) = st := if_neg fun h => absurd h.2 (by omega)
  unfold setState
  dsimp only
  rw [he, near]
  dsimp only
  rw [if_neg hne, changeKeeper_labels, logEvent_labels]
  rfl

theorem stateOf_setState (hp : pos < 32) (he : tget (labelOf d sh).roster pos = some e) (hne : e.state ≠ st) :
    stateOf (setState sh pos st d) sh pos = some st := by
  rw [stateOf_congr (setState_labels hp he hne), stateOf, labelOf, setLabel]
  dsimp only
  rw [tget_tput, Option.getD_some]
  exact congrArg (Option.map _) (tget_tput _ _ _)

theorem setState_same (hp : pos < 32) (he : tget (labelOf d sh).roster pos = some e) : setState sh pos e.state d = d := by
  have near : (if e.state = .online ∧ 32 ≤ pos then MemberState.evacuating else e.state) = e.state := if_neg fun h => absurd h.2 (by omega)
  unfold setState
  dsimp only
  rw [he, near]
  exact if_pos rfl

end

/-! ## An interval of a member's latencies (06 R172, R179) -/

/-- A drive after an interval beyond SLOW_THRESHOLD. -/
def seenPast (ms : Nat) (v : Drive) : Drive := { v with lats := (ms :: v.lats).take 6000, past := v.past + 1, under := 0 }

/-- A drive after an interval within SLOW_THRESHOLD. -/
def seenUnder (ms : Nat) (v : Drive) : Drive := { v with lats := (ms :: v.lats).take 6000, past := 0, under := v.under + 1 }

/-- The device with the drive of a bay as `v`. -/
def withDrive (b : Nat) (v : Drive) (d : Dev) : Dev := { d with shelf.drives := tput d.shelf.drives b v }

/-- A SLOW member is within its threshold again (06 R172). -/
def slowRecovers (sh pos : Nat) (d : Dev) : Dev :=
  if folded d sh pos then
    let l := labelOf d sh
    setState sh pos .resyncing (setLabel sh { l with resync := l.resync.map (fun r =>
      if r.pos = pos then { r with gR := ((shoalOf d sh).map (·.gen)).getD 0 + 1 } else r) } d)
  else setState sh pos .online { d with shelf.foldWaits := d.shelf.foldWaits.filter (fun x => x != (sh, pos)) }

section
variable {d : Dev} {b sh pos ms : Nat} {v : Drive} (hv : tget d.shelf.drives b = some v) (hb : rosterOfBay d b = some (sh, pos))
include hv hb

section
variable (hs : stateOf d sh pos = some .online)
include hs

theorem latencyInterval_online_under (hm : ms ≤ (chartOf d).storage.slowThreshold) : latencyInterval b ms d = withDrive b (seenUnder ms v) d := by
  have within : decide ((chartOf d).storage.slowThreshold < ms) = false := decide_eq_false (Nat.not_lt.mpr hm)
  simp only [latencyInterval, hv, hb, hs, within, Bool.false_eq_true, if_false]
  rfl

theorem latencyInterval_online_past (hm : (chartOf d).storage.slowThreshold < ms) : latencyInterval b ms d =
    logEvent 4 2 1 (payload b sh pos ms) (setState sh pos .slow { d with
      shelf.drives := tput (tput d.shelf.drives b (seenPast ms v)) b { seenPast ms v with past := 1 } }) := by
  simp only [latencyInterval, hv, hb, hs, decide_eq_true hm, if_true]
  rfl

end

variable (hs : stateOf d sh pos = some .slow)
include hs

theorem latencyInterval_slow_past (hm : (chartOf d).storage.slowThreshold < ms) : latencyInterval b ms d =
    if (chartOf d).storage.slowWindow * 10 ≤ v.past + 1 then
      if wouldExceed (withDrive b (seenPast ms v) d) sh pos then
        logEvent 4 5 1 (payload b sh pos 0) { d with
          shelf.drives := tput (tput d.shelf.drives b (seenPast ms v)) b { seenPast ms v with past := 0 } }
      else judgeMissing sh (missingCount d sh) (memberFail sh pos (logLight 5 8 false 2 b 0 0 0 0 0 (withDrive b (seenPast ms v) d)))
    else withDrive b (seenPast ms v) d := by
  simp only [latencyInterval, hv, hb, hs, decide_eq_true hm, if_true, true_and, Nat.reduceLeDiff, false_and, if_false]
  rfl

theorem latencyInterval_slow_under (hm : ms ≤ (chartOf d).storage.slowThreshold) : latencyInterval b ms d =
    if 10 ≤ v.under + 1 ∧ !writeOverdue (withDrive b (seenUnder ms v) d) b then slowRecovers sh pos (withDrive b (seenUnder ms v) d)
    else withDrive b (seenUnder ms v) d := by
  have within : decide ((chartOf d).storage.slowThreshold < ms) = false := decide_eq_false (Nat.not_lt.mpr hm)
  simp only [latencyInterval, hv, hb, hs, within, Bool.false_eq_true, if_false, false_and]
  rfl

end

/-! ## Drives that are lost -/

section
variable (s : State)

theorem exec_memberLatencyInterval (b ms : Nat) : Gives (.memberLatencyInterval b ms) s (latencyInterval b ms s.dev) := rfl
theorem exec_driveReadyTimeout (b : Nat) : Gives (.driveReadyTimeout b) s (driveNotReady b s.dev) := rfl
theorem exec_linkRetrainTimeout (b : Nat) : Gives (.linkRetrainTimeout b) s
    (if (tget s.dev.shelf.drives b).any (fun v => !v.linkUp) then failBay b s.dev else s.dev) := rfl
theorem exec_memberResetTimeout (b : Nat) : Gives (.memberResetTimeout b) s
    (if s.dev.shelf.cmds.any (fun e => e.2.bay == b && e.2.op == .resetController) then failBay b s.dev else s.dev) := rfl
theorem exec_absenceTimerExpiry (sh pos : Nat) : Gives (.absenceTimerExpiry sh pos) s (if (stateOf s.dev sh pos) = some .absent then
    memberFail sh pos (logEvent 4 7 2 (payload (rosterBay s.dev sh pos) sh pos 0) s.dev) else s.dev) := rfl

end

section
variable {d : Dev} {b sh pos : Nat} {st : MemberState}

theorem failBay_member (h : rosterOfBay d b = some (sh, pos)) : failBay b d = judgeMissing sh (missingCount d sh) (memberFail sh pos d) := by
  rw [failBay, h]

theorem driveNotReady_present (h : thas d.shelf.drives b = true) : driveNotReady b d = d := if_pos h

variable (hd : thas d.shelf.drives b = false) (hp : posOfBay d b = some (sh, pos)) (hs : stateOf d sh pos = some st)
include hd hp hs

theorem driveNotReady_rebuilding (h : st = .rebuilding) : driveNotReady b d = judgeMissing sh (missingCount d sh) (memberFail sh pos d) := by
  simp only [driveNotReady, hd, hp, hs, h, Bool.false_eq_true, if_false]

theorem driveNotReady_absent (h : st ∉ [.failed, .absent, .rebuilding]) : driveNotReady b d =
    let e := setState sh pos .absent { d with shelf.absentAt := tput d.shelf.absentAt (posKey sh pos) (elapsed d) }
    if assembledShoal e sh then judgeMissing sh (missingCount d sh) (fold sh pos e) else e := by
  simp only [List.mem_cons, List.not_mem_nil, or_false, not_or] at h
  obtain ⟨hf, ha, hr⟩ := h
  simp only [driveNotReady, hd, hp, hs, Bool.false_eq_true, if_false]
  cases st <;> first | contradiction | rfl

end

end Sys2Proof.Machine

open Sys2Proof Sys2Proof.Machine

/-- Settles O27: a change of state, the intervals of latency, then what is lost. -/
theorem memberStates : Obligations.MemberStates := by
  intro s d
  refine ⟨fun sh pos st e he hne hp => ⟨stateOf_setState hp he hne, setState_same hp he⟩, fun b v sh pos ms hv hb => ?_, fun b => ⟨rfl, rfl⟩,
    fun b v hv => ⟨fun hl => gives_congr (exec_linkRetrainTimeout s b) (if_pos ?_), fun hl => gives_congr (exec_linkRetrainTimeout s b) (if_neg ?_)⟩,
    fun b h => gives_congr (exec_memberResetTimeout s b) (if_pos h), fun b sh pos h => failBay_member h,
    fun sh pos => ⟨fun h => gives_congr (exec_absenceTimerExpiry s sh pos) (if_pos h), fun h => gives_congr (exec_absenceTimerExpiry s sh pos) (if_neg h)⟩,
    fun b sh pos st hd hp hs => ⟨fun h ha => gives_congr (exec_driveReadyTimeout s b) ((driveNotReady_absent hd hp hs h).trans (if_pos ha)),
      fun h ha => gives_congr (exec_driveReadyTimeout s b) ((driveNotReady_absent hd hp hs h).trans (if_neg (ne_true_of_eq_false ha))),
      fun h => gives_congr (exec_driveReadyTimeout s b) (driveNotReady_rebuilding hd hp hs h)⟩,
    fun b h => gives_congr (exec_driveReadyTimeout s b) (driveNotReady_present h)⟩
  · intro slow seen up down
    have interval {e : Dev} (h : latencyInterval b ms s.dev = e) : Gives (.memberLatencyInterval b ms) s e :=
      gives_congr (exec_memberLatencyInterval s b ms) h
    refine ⟨fun hs hm => interval (latencyInterval_online_under hv hb hs hm), fun hs hm => interval (latencyInterval_online_past hv hb hs hm),
      fun hs hm => ⟨fun hw => interval ((latencyInterval_slow_past hv hb hs hm).trans (if_neg (Nat.not_le.mpr hw))), fun hw => ?_⟩,
      fun hs hm => ?_⟩
    · have past := (latencyInterval_slow_past hv hb hs hm).trans (if_pos hw)
      exact ⟨fun hx => interval (past.trans (if_neg (ne_true_of_eq_false hx))), fun hx => interval (past.trans (if_pos hx))⟩
    · have under := latencyInterval_slow_under hv hb hs hm
      refine ⟨fun hu => interval (under.trans (if_neg fun h => absurd h.1 (Nat.not_le.mpr hu))),
        fun ho => interval (under.trans (if_neg fun h => absurd h.2 (not_bnot_of_true ho))), fun hu ho hf => interval ?_, fun hu ho hf => interval ?_⟩
      · exact under.trans ((if_pos ⟨hu, bnot_of_false ho⟩).trans (if_pos hf))
      · exact under.trans ((if_pos ⟨hu, bnot_of_false ho⟩).trans (if_neg (ne_true_of_eq_false hf)))
  · rw [show tget s.dev.shelf.drives b = some v from hv]
    exact bnot_of_false hl
  · rw [show tget s.dev.shelf.drives b = some v from hv]
    exact not_bnot_of_true hl
end


section
/-! PROOF. Drives that enumerate, labels, and member commands that fail or time out (O28). -/

namespace Sys2Proof.Machine

/-! ## A drive that enumerates (06 R166, R167, R172) -/

theorem exec_driveEnumerate (p : DriveProbe) (s : State) : Gives (.driveEnumerate p) s (resumeSubsts (enumerate p s.dev)) := rfl

section
variable {d : Dev} {p : DriveProbe}

theorem enumerate_noPort (h : rootPort d p.bay = false) : enumerate p d = d := if_pos (bnot_of_false h)

variable (hp : rootPort d p.bay = true)
include hp

theorem enumerate_unmet (h : driveMeets p = false) : enumerate p d = logEvent 4 0x0A 1 (payload p.bay 0 0 0) d :=
  (if_neg (not_bnot_of_true hp)).trans (if_pos (bnot_of_false h))

variable (hm : driveMeets p = true)
include hm

theorem enumerate_spare (hs : (chartOf d).spareBays.getLsbD p.bay = true) (hr : rosterOfBay d p.bay = none) (hx : p.ext64 = true) :
    enumerate p d = rewriteRecords p.bay (writeLabel 0xFF p.bay { takeDrive p (draw d).1 (draw d).2 with
      shelf.spares := if (takeDrive p (draw d).1 (draw d).2).shelf.spares.contains p.bay then (takeDrive p (draw d).1 (draw d).2).shelf.spares
        else (takeDrive p (draw d).1 (draw d).2).shelf.spares ++ [p.bay] }) := by
  refine (if_neg (not_bnot_of_true hp)).trans ((if_neg (not_bnot_of_true hm)).trans ((if_pos ⟨hs, hr⟩).trans (if_neg ?_)))
  exact fun h => not_bnot_of_true hx h.1

/-- Does the drive's label agree with the roster entry of its bay (06 R172)? -/
def labelAgrees (p : DriveProbe) (e : Option RosterEntry) : Bool :=
  (e.bind (fun r => p.label.map (fun x => x.serial == r.serial && p.serial == r.serial && x.labelGen == r.labelGen))).getD false

variable {sh pos : Nat} (hr : rosterOfBay d p.bay = some (sh, pos))
include hr

theorem enumerate_member (hl : (labelOf d sh).roster.isEmpty = false) : enumerate p d =
    if (curGeom d sh).metaMode = 0 ∧ !p.ext64 then logEvent 3 6 1 (payload p.bay sh 0 0) d
    else if tooSmall d sh p.capacity then logEvent 4 0x0A 1 (payload p.bay sh 0 0) d
    else match ((tget (labelOf d sh).roster pos).map (·.state) : Option MemberState) with
      | some .failed => joinRebuild sh pos p d
      | some .rebuilding =>
        if labelAgrees p (tget (labelOf d sh).roster pos) then takeDrive p (((tget (labelOf d sh).roster pos).map (·.labelGen)).getD 0) d
        else joinRebuild sh pos p d
      | _ => if labelAgrees p (tget (labelOf d sh).roster pos) then
          memberReturn sh pos p (((tget (labelOf d sh).roster pos).map (·.labelGen)).getD 0) d
        else joinRebuild sh pos p d := by
  have bay : posOfBay d p.bay = some (sh, pos) := by rw [posOfBay, hr]
  have taken : ¬ ((chartOf d).spareBays.getLsbD p.bay = true ∧ rosterOfBay d p.bay = none) := fun h => by rw [hr] at h; exact nomatch h.2
  unfold enumerate
  rw [if_neg (not_bnot_of_true hp), if_neg (not_bnot_of_true hm), if_neg taken, bay]
  dsimp only
  rw [hl]
  rfl

theorem enumerate_fits (hl : (labelOf d sh).roster.isEmpty = false) (hx : p.ext64 = true) (ht : tooSmall d sh p.capacity = false)
    {e : RosterEntry} (he : tget (labelOf d sh).roster pos = some e) : enumerate p d =
    match e.state with
      | .failed => joinRebuild sh pos p d
      | .rebuilding => if labelAgrees p (some e) then takeDrive p e.labelGen d else joinRebuild sh pos p d
      | _ => if labelAgrees p (some e) then memberReturn sh pos p e.labelGen d else joinRebuild sh pos p d := by
  rw [enumerate_member hp hm hr hl, if_neg fun h => not_bnot_of_true hx h.2, if_neg (ne_true_of_eq_false ht), he]
  cases hs : e.state <;> simp only [Option.map_some, Option.getD_some, hs]

end

section
variable {d : Dev} {p : DriveProbe} {sh pos : Nat} {e : RosterEntry}

theorem labelAgrees_of_eq (h : e.serial = p.serial) (hl : p.label.map (fun x => (x.serial, x.labelGen)) = some (e.serial, e.labelGen)) :
    labelAgrees p (some e) = true := by
  obtain ⟨x, hx, hxe⟩ := Option.map_eq_some_iff.mp hl
  obtain ⟨hs, hg⟩ := Prod.mk.inj hxe
  simp [labelAgrees, hx, hs, hg, h]

theorem labelAgrees_none (h : p.label = none) (e : Option RosterEntry) : labelAgrees p e = false := by
  cases e <;> simp [labelAgrees, h]

theorem pullMember_labels (b : Nat) (d : Dev) : (pullMember b d).shelf.labels = d.shelf.labels := by
  obtain ⟨_, _, _, _, _, h⟩ := pullBay_shape ((queuedOf d b true).length + (queuedOf d b false).length) b d
  rw [pullMember, h]

theorem issueNow_labels (b : Nat) (o : MemberOp) (d : Dev) : (issueNow b o d).shelf.labels = d.shelf.labels := by
  obtain ⟨_, _, _, _, _, _, h⟩ := issueNow_shape b o d; rw [h]

theorem memberEnd_labels (m : Nat) (d : Dev) : (memberEnd m d).shelf.labels = d.shelf.labels := by
  unfold memberEnd
  split
  · rfl
  · exact pullMember_labels _ _

theorem reserveDrive_labels (b : Nat) (d : Dev) : (reserveDrive b d).shelf.labels = d.shelf.labels := by
  have once (o : MemberOp) (a : Dev) : (memberEnd a.shelf.nextMcid (issueNow b o a)).shelf.labels = a.shelf.labels :=
    (memberEnd_labels _ _).trans (issueNow_labels b o a)
  unfold reserveDrive
  extract_lets writer run src src' d1
  split
  · rfl
  · split
    · exact (once _ d1).trans (once _ d)
    · exact once _ d

theorem takeDrive_labels (p : DriveProbe) (g : Nat) (d : Dev) : (takeDrive p g d).shelf.labels = d.shelf.labels := by
  unfold takeDrive
  extract_lets src d1
  refine (reserveDrive_labels _ _).trans ?_
  split
  · exact (memberEnd_labels _ _).trans (issueNow_labels _ _ _)
  · rfl

theorem rewriteRecords_labels (b : Nat) (d : Dev) : (rewriteRecords b d).shelf.labels = d.shelf.labels :=
  foldl_keeps (fun x : Dev => x.shelf.labels) (fun a _ => memberIssue_labels _ _ a) _ d

theorem freshenRecords_labels (b : Nat) (d : Dev) : (freshenRecords b d).shelf.labels = d.shelf.labels :=
  foldl_keeps (fun x : Dev => x.shelf.labels) (fun a _ => memberIssue_labels _ _ a) _ d

/-- A member that returns while its resync slot is open: the slot begins anew (06 R172). -/
def reopened (sh pos : Nat) (d x : Dev) : Dev :=
  let l := labelOf d sh
  if l.resync.any (fun r => r.pos == pos) then setLabel sh { l with resync := l.resync.map (fun r =>
    if r.pos = pos then { r with gR := ((shoalOf d sh).map (·.gen)).getD 0 + 1 } else r) } x else x

theorem reopened_roster {x : Dev} (h : x.shelf.labels = d.shelf.labels) : (labelOf (reopened sh pos d x) sh).roster = (labelOf d sh).roster := by
  unfold reopened
  extract_lets l
  split
  · rw [labelOf, setLabel]
    dsimp only
    rw [tget_tput, Option.getD_some]
  · rw [labelOf, h, ← labelOf]

/-- A member as it is taken back, its absence timer stopped. -/
def takenBack (sh pos : Nat) (p : DriveProbe) (g : Nat) (d : Dev) : Dev :=
  reopened sh pos d (takeDrive p g { d with shelf.absentAt := terase d.shelf.absentAt (posKey sh pos) })

theorem memberReturn_open (g : Nat) (h : (labelOf d sh).resync.any (fun r => r.pos == pos) = true) :
    memberReturn sh pos p g d = rewriteRecords p.bay (setState sh pos .resyncing (takenBack sh pos p g d)) := by
  simp only [memberReturn, takenBack, reopened, h, if_true]

theorem memberReturn_closed (g : Nat) (h : (labelOf d sh).resync.any (fun r => r.pos == pos) = false) :
    memberReturn sh pos p g d = freshenRecords p.bay (setState sh pos .online (takenBack sh pos p g d)) := by
  simp only [memberReturn, takenBack, reopened, h, Bool.false_eq_true, if_false]

theorem stateOf_memberReturn (hp : pos < 32) (he : tget (labelOf d sh).roster pos = some e) (hs : e.state = .absent) (g : Nat) :
    stateOf (memberReturn sh pos p g d) sh pos = some (if (labelOf d sh).resync.any (fun r => r.pos == pos) then .resyncing else .online) := by
  have roster : (labelOf (takenBack sh pos p g d) sh).roster = (labelOf d sh).roster := reopened_roster (takeDrive_labels p g _)
  have set (st : MemberState) (hst : st ≠ .absent) : stateOf (setState sh pos st (takenBack sh pos p g d)) sh pos = some st :=
    stateOf_setState hp (by rw [roster]; exact he) (by rw [hs]; exact hst.symm)
  cases ho : (labelOf d sh).resync.any (fun r => r.pos == pos)
  · rw [memberReturn_closed g ho, stateOf_congr (freshenRecords_labels _ _), set .online (by decide)]
    rfl
  · rw [memberReturn_open g ho, stateOf_congr (rewriteRecords_labels _ _), set .resyncing (by decide)]
    rfl

end

/-! ## A format that is done (06 R167) -/

theorem exec_memberFormatDone (b : Nat) (s : State) : Gives (.memberFormatDone b) s (formatDone b s.dev) := rfl

section
variable {d : Dev} {b : Nat} {v : Drive} (hv : tget d.shelf.drives b = some v)
include hv

theorem formatDone_idle (hf : v.formatting = false) : formatDone b d = d := by
  refine if_neg ?_
  rw [hv]
  exact ne_true_of_eq_false hf

theorem formatDone_formatting (hf : v.formatting = true) : formatDone b d =
    let e := { d with shelf.drives := tmod d.shelf.drives b (fun x => { x with formatting := false }),
                      shelf.cmds := d.shelf.cmds.filter (fun x => !(x.2.bay == b && formatOp x.2.op)) }
    match shoalOfBay d b with
    | some sh => pullMember b (writeLabel sh b e)
    | none => pullMember b e := by
  refine if_pos ?_
  rw [hv]
  exact hf

end

/-! ## Timeouts (06 R173) -/

section
variable (s : State)

theorem exec_memberHardTimeout (m : Nat) : Gives (.memberHardTimeout m) s (settleStripes (hardTimeout m s.dev)) := rfl
theorem exec_memberAbortTimeout (m : Nat) : Gives (.memberAbortTimeout m) s (abortTimeout m s.dev) := rfl
theorem exec_foldResume (sh pos : Nat) : Gives (.foldResume sh pos) s
    (if s.dev.shelf.foldWaits.contains (sh, pos) ∧ (labelOf s.dev sh).resync.length < 3 then judgeMissing sh (missingCount s.dev sh)
      (foldSlow sh pos { s.dev with shelf.foldWaits := s.dev.shelf.foldWaits.filter (fun x => x != (sh, pos)) }) else s.dev) := rfl
theorem exec_writeSoftDeadline (sh row : Nat) : Gives (.writeSoftDeadline sh row) s
    (maybeCheckpoint (aroundAll (judgeFolds (softWrites sh row s.dev)))) := rfl
theorem exec_labelPropagate (sh : Nat) : Gives (.labelPropagate sh) s
    (if s.dev.shelf.labelDirty.contains sh then propagate sh s.dev else s.dev) := rfl
theorem exec_patrolCursorRecord (sh : Nat) : Gives (.patrolCursorRecord sh) s
    (if thas s.dev.shelf.labels sh then setLabel sh (labelOf s.dev sh) s.dev else s.dev) := rfl

end

section
variable {d : Dev} {m : Nat} {c : MemberCmd} (hc : tget d.shelf.cmds m = some c)
include hc

theorem hardTimeout_again (ha : c.again = true) :
    hardTimeout m d = failServing c.bay (occur 6 3 1 (memberAttr c.bay (opClass c.op)) d) := by
  rw [hardTimeout, hc]
  exact if_pos ha

theorem hardTimeout_first (ha : c.again = false) : hardTimeout m d =
    if c.phase = .issued then memberIssue c.bay (.abort m) { occur 6 3 1 (memberAttr c.bay (opClass c.op)) d with
      shelf.cmds := tput d.shelf.cmds m { c with phase := .aborting } }
    else occur 6 3 1 (memberAttr c.bay (opClass c.op)) d := by
  rw [hardTimeout, hc]
  refine (if_neg (ne_true_of_eq_false ha)).trans ?_
  rw [abortMember, occur_shelf, hc]
  rfl

theorem abortTimeout_waits (hp : c.phase ≠ .aborting) : abortTimeout m d = d := by
  rw [abortTimeout, hc]
  exact if_pos hp

end

/-- The only command of a member is an ordinary one: the reset waits for none but it. -/
theorem abortTimeout_only {d : Dev} {m : Nat} {c : MemberCmd} (hd : d.shelf.cmds = [(m, c)]) (hp : c.phase = .aborting)
    (hr : c.op ≠ .resetController) (ha : ∀ k, c.op ≠ .abort k) : abortTimeout m d =
    memberIssue c.bay .resetController { d with shelf.cmds := [(m, { c with phase := .resetting })] } := by
  have found : tget d.shelf.cmds m = some c := by simp [hd, tget]
  unfold abortTimeout
  rw [found]
  dsimp only
  rw [if_neg (not_not.mpr hp), hd]
  simp [tmod, hp, hr, ha]

/-! ## Stripes past their write deadline (04 R107) -/

section
variable {d : Dev} {sh row : Nat} {t : Stripe}

theorem softWrites_other (hr : rowAt d sh row = some t) (hl : t.life ≠ .writing) : softWrites sh row d = d := by
  rw [softWrites, hr]
  exact if_neg hl

theorem softWrites_writing (hr : rowAt d sh row = some t) (hl : t.life = .writing) : softWrites sh row d =
    judgeStripe sh row (setRow { t with overdue := t.overdue ||| (t.issued &&& ~~~t.done) } d) := by
  rw [softWrites, hr]
  exact if_pos hl

theorem writeAround_tooMany (h : (stripeGeom d t).parity - 1 < (undurable d t).length) : writeAround t d = d :=
  if_neg fun g => absurd g.2 (Nat.not_le.mpr h)

end

/-! ## Labels that are durable (06 R171) -/

section
variable {d : Dev} {sh : Nat}

theorem labelDone_writing (h : labelWriting (labelsWritten sh d) (fun x => x == sh) = true) : labelDone sh d = labelsWritten sh d := if_pos h

theorem labelDone_noWaits (h : labelWriting (labelsWritten sh d) (fun x => x == sh) = false) (hw : (labelsWritten sh d).shelf.labelWaits = []) :
    labelDone sh d = labelsWritten sh d := by
  refine (if_neg (ne_true_of_eq_false h)).trans ?_
  dsimp only
  simp only [hw, List.filter_nil, List.foldl_nil]
  rw [← hw]

theorem labelDone_issue {r : Nat} (h : labelWriting (labelsWritten sh d) (fun x => x == sh) = false)
    (hw : (labelsWritten sh d).shelf.labelWaits = [.issue sh r]) :
    labelDone sh d = tryIssue sh r { labelsWritten sh d with shelf.labelWaits := [] } := by
  refine (if_neg (ne_true_of_eq_false h)).trans ?_
  dsimp only
  rw [hw]
  simp

end

theorem runs_labelWriteDone {s : State} {sh : Nat} {e : Dev} (h : labelDone sh s.dev = e) :
    Runs (.labelWriteDone sh) s (maybeCheckpoint (aroundAll (judgeFolds e))) :=
  runs_onMbox (f := fun d => maybeCheckpoint (aroundAll (judgeFolds (labelDone sh d)))) rfl
    (congrArg (fun x => maybeCheckpoint (aroundAll (judgeFolds x))) h)

theorem countWritten_shelf (n : Nat) (l : List (Nat × MemberCmd)) (d : Dev) : (countWritten n l d).shelf = d.shelf :=
  foldl_keeps (fun x : Dev => x.shelf) (fun a _ => occur_shelf _ _ _ _ a) l d

theorem pullMember_idle {d : Dev} (h : d.shelf.cmds = []) (b : Nat) : pullMember b d = d := by
  have none (a : Bool) : queuedOf d b a = [] := by simp [queuedOf, h]
  rw [pullMember, none, none]
  rfl

theorem pullMembers_idle {d : Dev} (h : d.shelf.cmds = []) (l : List Nat) : l.foldl (fun a b => pullMember b a) d = d := by
  induction l with
  | nil => rfl
  | cons b l ih => rw [List.foldl_cons, pullMember_idle h, ih]

/-- A label write that ends stands in its copy, and was the last command. -/
theorem labelsWritten_one {d : Dev} {sh m : Nat} {b : Bool} {l : LabelCopy} {c : MemberCmd} (hd : d.shelf.cmds = [(m, c)])
    (ho : c.op = .labelWrite b l) (hs : l.shoal = sh) (hp : c.phase = .issued) (ha : d.shelf.labelAgain = []) :
    tget (labelsWritten sh d).shelf.labelCopies (2 * c.bay + b2n b) = some l ∧ (labelsWritten sh d).shelf.cmds = [] := by
  unfold labelsWritten
  simp [ha, hd, ho, hp, hs, endCmds, countWritten_shelf, pullMembers_idle]

end Sys2Proof.Machine

open Sys2Proof Sys2Proof.Machine

/-- Settles O28: a drive that enumerates and its format, then timeouts, deadlines and labels. -/
theorem drivesAndUpkeep : Obligations.DrivesAndUpkeep := by
  refine ⟨fun s p => ?_, fun s => ?_⟩
  · intro d spare
    have enumerates {e : Dev} (h : enumerate p s.dev = e) : Gives (.driveEnumerate p) s (resumeSubsts e) :=
      gives_congr (exec_driveEnumerate p s) (congrArg resumeSubsts h)
    refine ⟨fun h => enumerates (enumerate_noPort h), fun hp h => enumerates (enumerate_unmet hp h),
      fun hp hm hs hr hx => enumerates (enumerate_spare hp hm hs hr hx), fun sh pos e hp hm hr he hl => ⟨fun h0 hx => enumerates ?_,
        fun hx ht => enumerates ?_, fun hx ht => ⟨fun hf hs ha => enumerates ?_, fun h => enumerates ?_⟩⟩,
      fun sh pos g e he hs hp => stateOf_memberReturn hp he hs g, fun b v hv => ⟨fun hf => ⟨fun sh pos hb => ?_, fun hb => ?_⟩,
        fun hf => gives_congr (exec_memberFormatDone b s) (formatDone_idle hv hf)⟩⟩
    · exact (enumerate_member hp hm hr hl).trans (if_pos ⟨h0, bnot_of_false hx⟩)
    · exact (enumerate_member hp hm hr hl).trans ((if_neg fun h => not_bnot_of_true hx h.2).trans (if_pos ht))
    · rw [enumerate_fits hp hm hr hl hx ht he, labelAgrees_of_eq hs ha]
      cases hst : e.state <;> first | exact absurd hst hf | rfl
    · rw [enumerate_fits hp hm hr hl hx ht he]
      obtain h | h := h
      · rw [h]
      · rw [labelAgrees_none h]
        cases e.state <;> rfl
    · refine gives_congr (exec_memberFormatDone b s) ((formatDone_formatting hv hf).trans ?_)
      have shoal : shoalOfBay s.dev b = some sh := by rw [shoalOfBay, show rosterOfBay s.dev b = _ from hb]
      rw [shoal]
    · refine gives_congr (exec_memberFormatDone b s) ((formatDone_formatting hv hf).trans ?_)
      rw [show shoalOfBay s.dev b = none from hb]
  · intro d
    refine ⟨fun m c hc => ?_, fun sh pos => ⟨fun hm hl => gives_congr (exec_foldResume s sh pos) (if_pos ⟨List.contains_iff_mem.mpr hm, hl⟩),
        fun hm => gives_congr (exec_foldResume s sh pos) (if_neg fun h => hm (List.contains_iff_mem.mp h.1)),
        fun hl => gives_congr (exec_foldResume s sh pos) (if_neg fun h => absurd h.2 (Nat.not_lt.mpr hl))⟩,
      fun sh row t ht => ⟨fun hl => gives_congr (exec_writeSoftDeadline s sh row) (by rw [softWrites_other ht hl]),
        fun hl => gives_congr (exec_writeSoftDeadline s sh row) (by rw [softWrites_writing ht hl]), fun h => writeAround_tooMany h⟩,
      fun sh => ⟨fun hm => gives_congr (exec_labelPropagate s sh) (if_pos (List.contains_iff_mem.mpr hm)),
        fun hm => gives_congr (exec_labelPropagate s sh) (if_neg fun h => hm (List.contains_iff_mem.mp h))⟩,
      fun sh => ⟨fun h => runs_labelWriteDone (labelDone_writing h), fun h hw => runs_labelWriteDone (labelDone_noWaits h hw),
        fun r h hw => runs_labelWriteDone (labelDone_issue h hw), fun m b l c hd ho hs hp ha => labelsWritten_one hd ho hs hp ha⟩,
      fun b w => rfl, fun sh h => gives_congr (exec_patrolCursorRecord s sh) (if_pos h)⟩
    have hard {e : Dev} (h : hardTimeout m s.dev = e) : Gives (.memberHardTimeout m) s (settleStripes e) :=
      gives_congr (exec_memberHardTimeout s m) (congrArg settleStripes h)
    exact ⟨fun ha hp => hard ((hardTimeout_first hc ha).trans (if_pos hp)), fun ha hp => hard ((hardTimeout_first hc ha).trans (if_neg hp)),
      fun ha => hard (hardTimeout_again hc ha), fun hp => gives_congr (exec_memberAbortTimeout s m) (abortTimeout_waits hc hp),
      fun hp hd hr ha => gives_congr (exec_memberAbortTimeout s m) (abortTimeout_only hd hp hr ha)⟩
end

section
/-! Resync, rebuild and patrol (O29): one equation for each way that a row is taken. -/

namespace Sys2Proof.Machine

theorem houseWork_paused {f : Dev → Dev} {d : Dev} (h : housekeepingPaused d = true) : houseWork f d = d := if_pos h

theorem houseWork_goes {f : Dev → Dev} {d : Dev} (h : housekeepingPaused d = false) : houseWork f d = f d :=
  if_neg (ne_true_of_eq_false h)

theorem readRow_lost (d : Dev) (t : Stripe) (bad : List (Nat × Nat)) (ps : List Nat) :
    (readRow t bad ps d).1 = true ↔ lostSlotsOf d t bad ≠ [] := by
  simp [readRow]

section
variable {d : Dev} {sh pos row : Nat} {bad : List (Nat × Nat)} {r : Resync} {t : Stripe}
  (hr : resyncOf d sh pos = some r) (ht : rowAt d sh row = some t)
include hr ht

theorem resyncRow_leaves (h : stateOf d sh pos ≠ some .resyncing ∨ row ∉ resyncLeft d sh r ∨ t.gen ∈ r.building) :
    resyncRow sh pos row bad d = resyncAdvance sh pos d := by
  simp only [resyncRow, hr, ht]
  exact if_pos (h.imp_right fun h => h.imp (fun h => bnot_of_false (by simpa using h)) List.contains_iff_mem.mpr)

/-- A row of the set whose strip stands at position p is taken: its loss waits for the labels, else its strip is written. -/
theorem resyncRow_takes {p : Nat} (hs : stateOf d sh pos = some .resyncing) (hl : row ∈ resyncLeft d sh r) (hb : t.gen ∉ r.building)
    (hp : stripePos d t pos = some p) (hw : p ∈ writtenPos (stripeGeom d t) row) :
    resyncRow sh pos row bad d =
      (let e := occur 6 6 (rebuiltBlocks d t bad p) {}
        (modResync sh pos (fun y => { y with building := y.building ++ [t.gen] }) (readRow t bad [p] d).2)
      resumeRepairs (if (readRow t bad [p] d).1 = true then
          writeLabels sh { e with shelf.labelWaits := e.shelf.labelWaits ++ [.rebuilt sh row (some pos)] }
        else resyncWrite sh pos t e)) := by
  have stays : ¬ (stateOf d sh pos ≠ some .resyncing ∨ (!(resyncLeft d sh r).contains row) = true ∨ r.building.contains t.gen = true) := by
    simp [hs, hl, hb]
  have at_p : (stripePos d t pos).filter (fun p => (writtenPos (stripeGeom d t) row).contains p) = some p := by
    simp [hp, hw]
  simp only [resyncRow, hr, ht]
  rw [if_neg stays, at_p]

end

section
variable {d : Dev} {sh row : Nat} {bad : List (Nat × Nat)} {t : Stripe} (ht : rowAt d sh row = some t)
include ht

theorem rebuildRow_notLive (h : t.life ≠ .committed) : rebuildRow sh row bad d = settleSubsts sh d := by
  simp only [rebuildRow, ht]
  exact if_pos (.inl h)

/-- The next row in GEN order, for a substitution that alone runs: its loss waits for the labels, else its strips are written. -/
theorem rebuildRow_next {u : Subst} {p : Nat} (hl : t.life = .committed) (hu : runningSubsts d sh = [u]) (hc : u.cursor < t.gen)
    (hr : u.reach < t.gen) (hg : t.gen < u.g0) (hn : (rebuildLeft d sh u).all (fun x => decide (t.gen ≤ x.gen)) = true)
    (hf : (inFlightGen d sh).all (fun g => decide (t.gen < g)) = true) (hp : rowPos d t u.pos = some p) :
    rebuildRow sh row bad d =
      (let e := occur 6 6 (rebuiltBlocks d t bad p) {}
        (modSubst sh u.idx (fun y => { y with reach := t.gen, building := y.building ++ [t.gen] }) (readRow t bad [p] d).2)
      resumeRepairs (settleSubsts sh (if (readRow t bad [p] d).1 = true then
          writeLabels sh { e with shelf.labelWaits := e.shelf.labelWaits ++ [.rebuilt sh row none] }
        else buildRow t e))) := by
  have takes : (runningSubsts d sh).filter (fun u => decide (max u.cursor u.reach < t.gen) && decide (t.gen < u.g0)) = [u] := by
    simp [hu, hc, hr, hg]
  have goes : ¬ (t.life ≠ .committed ∨ ([u] : List Subst).isEmpty = true ∨ (!([u].all (fun u => (rebuildLeft d sh u).all (fun x =>
      decide (t.gen ≤ x.gen))) && (inFlightGen d sh).all (fun g => decide (t.gen < g)))) = true) := by
    simp only [List.all_cons, List.all_nil, hn, hf]
    simp [hl]
  have sum : lsum [p] (rebuiltBlocks d t bad) = rebuiltBlocks d t bad p := Nat.zero_add _
  simp only [rebuildRow, ht, takes]
  rw [if_neg goes, show [u].filterMap (fun u => rowPos d t u.pos) = [p] by simp [hp], sum]
  rfl

end

section
variable {d : Dev} {sh row : Nat} {t : Stripe} {r : PatrolRead}

theorem patrol_stands (h : (profileOf d).patrol ≠ 1 ∨ 2 ≤ d.pool.level ∨ 1 ≤ d.light.stage ∨ d.host.power = 3 ∨
    patrolNext d sh ≠ some row) : patrol sh row r d = d := if_pos h

theorem patrol_next (hp : (profileOf d).patrol = 1) (hl : d.pool.level < 2) (hs : d.light.stage = 0) (hw : d.host.power ≠ 3)
    (hn : patrolNext d sh = some row) (ht : rowAt d sh row = some t) :
    patrol sh row r d = if (!patrolReads d t) = true then patrolStep sh row d else
      patrolStep sh row (match judgePatrol d t r with
        | .equal => if r.failed.isEmpty then noteErrors 3 sh row (r.failed.map (fun p => (p, 0))) false d
          else repairRow sh row [] (noteErrors 3 sh row (r.failed.map (fun p => (p, 0))) false d)
        | .badStrip p => repairRow sh row ((List.range 32).map (fun i => (p, i)))
            (noteErrors 3 sh row (r.failed.map (fun p => (p, 0))) false d)
        | .unnamed => logEvent 4 9 1 (payload row sh 0 0)
            ((List.range (stripeGeom d t).parity).foldl (fun a k =>
              let p := (rowOffset (stripeGeom d t) row + k) % max (stripeGeom d t).width 1
              match stripBay a t p with
              | some b => memberIssue b (.parityWrite sh row p) a
              | none => a) (noteErrors 3 sh row (r.failed.map (fun p => (p, 0))) false d))) := by
  have goes : ¬ ((profileOf d).patrol ≠ 1 ∨ 2 ≤ d.pool.level ∨ 1 ≤ d.light.stage ∨ d.host.power = 3 ∨ patrolNext d sh ≠ some row) := by
    simp only [not_or, not_not]
    exact ⟨hp, by omega, by omega, hw, hn⟩
  refine (if_neg goes).trans ?_
  simp only [ht] <;> rfl

end

/-- With nothing mapped, a scan passes every page of the Shoal at once. -/
theorem lostScan_noMap {d : Dev} {nsid page : Nat} (hm : d.str.map = []) (hs : d.shelf.scanOnly = []) :
    lostScan nsid page d = (d.shelf.lostSlots.filter (fun x => x.1.shoal == nsShoal d nsid)).foldl
      (fun a x => passPage (mapPage d nsid (512 * page)) x.1 a) d := by
  simp [lostScan, hm, hs]

theorem passPage_noMap {d : Dev} {page : Nat} {q : Place} (hm : d.str.map = []) : passPage page q d = deadSlot q d :=
  if_pos (by simp [shoalPages, hm])

end Sys2Proof.Machine

open Sys2Proof Sys2Proof.Machine

/-- Settles O29: each row that resync, rebuild or patrol takes, then the move of patrol and the scan for listed slots. -/
theorem rebuildAndPatrol : Obligations.RebuildAndPatrol := by
  intro s d
  refine ⟨fun sh row pos r got h => ⟨gives_congr rfl (houseWork_paused h), gives_congr rfl (houseWork_paused h),
      gives_congr rfl (houseWork_paused h)⟩, fun hh => ?_, fun sh row => rfl, fun nsid page q n hm hs =>
      ⟨fun hl => gives_congr rfl ((lostScan_noMap hm hs).trans (by rw [hl]; rfl)),
        fun hl hq => gives_congr rfl ((lostScan_noMap hm hs).trans ?_)⟩⟩
  · have work {f : Dev → Dev} {i : Instr} {e : Dev} (hi : Gives i s (houseWork f d)) (h : f d = e) : Gives i s e :=
      gives_congr hi ((houseWork_goes hh).trans h)
    have resync {sh pos row : Nat} {bad : List (Nat × Nat)} {e : Dev} (h : resyncRow sh pos row bad d = e) :
        Gives (.resyncRow sh pos { row := row, bad := bad }) s e := work rfl h
    have rebuild {sh row : Nat} {bad : List (Nat × Nat)} {e : Dev} (h : rebuildRow sh row bad d = e) :
        Gives (.rebuildRow sh { row := row, bad := bad }) s e := work rfl h
    have patrols {sh row : Nat} {r : PatrolRead} {e : Dev} (h : patrol sh row r d = e) : Gives (.patrolRow sh row r) s e := work rfl h
    refine ⟨fun sh pos row bad r t hr ht => ⟨fun p hs hl hb hp hw => ?_, fun h => resync (resyncRow_leaves hr ht h)⟩,
      fun sh row bad t ht => ⟨fun h => rebuild (rebuildRow_notLive ht h), fun u p hl hu hc hr hg hn hf hp => ?_, readRow_lost d t bad⟩,
      fun sh row t r hp hl hs hw ht hn => ?_, fun sh row r h => patrols (patrol_stands h)⟩
    · exact ⟨fun h => resync ((resyncRow_takes hr ht hs hl hb hp hw).trans (congrArg resumeRepairs (if_neg (ne_true_of_eq_false h)))),
        fun h => resync ((resyncRow_takes hr ht hs hl hb hp hw).trans (congrArg resumeRepairs (if_pos h)))⟩
    · exact ⟨fun h => rebuild ((rebuildRow_next ht hl hu hc hr hg hn hf hp).trans
          (congrArg (fun x => resumeRepairs (settleSubsts sh x)) (if_neg (ne_true_of_eq_false h)))),
        fun h => rebuild ((rebuildRow_next ht hl hu hc hr hg hn hf hp).trans
          (congrArg (fun x => resumeRepairs (settleSubsts sh x)) (if_pos h)))⟩
    · have next := patrol_next (r := r) hp hl hs hw hn ht
      refine ⟨fun h => patrols (next.trans (if_pos (bnot_of_false h))), fun h => ?_⟩
      have reads := next.trans (if_neg (by rw [h]; decide))
      refine ⟨fun hj hf => patrols (reads.trans ?_), fun hj hf => patrols (reads.trans ?_), fun b hj => patrols (reads.trans ?_)⟩
      · rw [hj, hf]
        rfl
      · rw [hj]
        exact congrArg (patrolStep sh row) (if_neg (by simpa using hf))
      · rw [hj]
  · have listed : d.shelf.lostSlots.filter (fun x => x.1.shoal == nsShoal d nsid) = [(q, n)] := by
      rw [hl]
      simp [hq]
    rw [show s.dev.shelf.lostSlots.filter (fun x => x.1.shoal == nsShoal s.dev nsid) = _ from listed]
    exact passPage_noMap hm
end

section
/-! The Tide Pool (O30): the Breakwater's gate and levels, the pages, their retirement, and a stop with the start that follows. -/

namespace Sys2Proof.Machine

/-! ## What judging the pool and reporting on it changes -/

/-- From d to e only the recorder, the counters, the outputs and the pool's level and flags changed. -/
def Noted (d e : Dev) : Prop := ∃ v t p o l k i s, e =
  { d with ev := v, perf.counters := t, mhi.msixPending := p, out := o, pool.level := l, pool.peak := k, pool.int := i, pool.floorsShort := s }

theorem Noted.refl (d : Dev) : Noted d d := ⟨_, _, _, _, _, _, _, _, rfl⟩

theorem Noted.trans {d e f : Dev} : Noted d e → Noted e f → Noted d f := by
  rintro ⟨v, t, p, o, l, k, i, s, rfl⟩ ⟨v', t', p', o', l', k', i', s', rfl⟩
  exact ⟨_, _, _, _, _, _, _, _, rfl⟩

theorem noted_logEvent (a b c l : Nat) (d : Dev) : Noted d (logEvent a b c l d) := by
  obtain ⟨e, p, o, h⟩ := logEvent_shape a b c l d
  exact ⟨_, _, _, _, _, _, _, _, h⟩

theorem noted_occur (c e n : Nat) (a : Attr) (d : Dev) : Noted d (occur c e n a d) := by
  obtain ⟨t, h⟩ := occur_shape c e n a d
  exact ⟨_, _, _, _, _, _, _, _, h⟩

theorem noted_raisePool (i : Nat) (d : Dev) : Noted d (raisePool i d) := by
  obtain ⟨a, p, o, h⟩ := raisePool_shape i d
  exact ⟨_, _, _, _, _, _, _, _, h⟩

theorem noted_foldl {α : Type} {f : Dev → α → Dev} (h : ∀ a b, Noted a (f a b)) (l : List α) : ∀ d, Noted d (l.foldl f d) := by
  induction l with
  | nil => exact Noted.refl
  | cons b l ih => exact fun d => (h d b).trans (ih (f d b))

theorem noted_judgeLevel (d : Dev) : Noted d (judgeLevel d) := by
  unfold judgeLevel
  extract_lets occ old new src d1
  have start : Noted d d1 := ⟨_, _, _, _, _, _, _, _, rfl⟩
  split
  · exact start.trans (noted_foldl (fun a k => (noted_raisePool 8 a).trans (noted_logEvent 2 4 0 _ _)) _ d1)
  · exact start.trans (noted_foldl (fun a k => (noted_raisePool (k - 1) a).trans (noted_logEvent 2 k (k - 1) _ _)) _ d1)

theorem noted_judgeFloors (d : Dev) : Noted d (judgeFloors d) := by
  unfold judgeFloors
  extract_lets short src d1
  have start : Noted d d1 := ⟨_, _, _, _, _, _, _, _, rfl⟩
  split
  · exact start.trans (noted_raisePool 7 d1)
  · exact start

theorem noted_judgeSpare (d : Dev) : Noted d (judgeSpare d) := by
  unfold judgeSpare
  split
  · exact noted_raisePool 6 d
  · exact Noted.refl d

/-- What `Noted` leaves of the pool and of the other blocks. -/
theorem Noted.keeps {d e : Dev} (h : Noted d e) : e.pool.withdrawn = d.pool.withdrawn ∧ e.pool.pages = d.pool.pages
    ∧ e.pool.remap = d.pool.remap ∧ blank [.ev, .perf, .mhi, .pool, .out] e = blank [.ev, .perf, .mhi, .pool, .out] d := by
  obtain ⟨v, t, p, o, l, k, i, s, rfl⟩ := h
  exact ⟨rfl, rfl, rfl, rfl⟩

/-- `Noted` leaves what the choice of a SPARE page looks at, and both counts. -/
theorem Noted.spare {d e : Dev} (h : Noted d e) : spareFree e = spareFree d ∧ (∀ p, fixedPage e p = fixedPage d p)
    ∧ e.pool.retiredInPlace = d.pool.retiredInPlace ∧ e.pool.corr2 = d.pool.corr2 ∧ e.pool.uncorr = d.pool.uncorr := by
  obtain ⟨v, t, p, o, l, k, i, s, rfl⟩ := h
  exact ⟨rfl, fun _ => rfl, rfl, rfl, rfl⟩

/-! ## The POOL_INT causes -/

theorem raisePool_sets {i : Nat} (h : i < 9) (d : Dev) : (raisePool i d).pool.int.getLsbD i = true := by
  unfold raisePool
  split
  next hb => exact hb
  · obtain ⟨p, o, hf⟩ := fireIf_shape (d.pool.intEn.getLsbD i) 2 { d with pool.int := setBit d.pool.int i }
    rw [hf]
    exact setBit_getLsbD h _

theorem raisePool_holds {i j : Nat} {d : Dev} (h : d.pool.int.getLsbD j = true) : (raisePool i d).pool.int.getLsbD j = true := by
  unfold raisePool
  split
  · exact h
  · obtain ⟨p, o, hf⟩ := fireIf_shape (d.pool.intEn.getLsbD i) 2 { d with pool.int := setBit d.pool.int i }
    rw [hf]
    exact (BitVec.getLsbD_or ..).trans (by rw [h, Bool.true_or])

/-! ## Retirement to a SPARE page (03 R70) -/

/-- Page p is now replaced by r, and of the rest only what `Noted` may change did. -/
def Replaced (p r : Nat) (d e : Dev) : Prop := remapped e p = r ∧ ∃ m, Noted { d with pool.remap := m } e

theorem tget_remap (t : Table Nat) (p r : Nat) :
    (tget (tput (t.map (fun e => (e.1, if e.2 = (tget t p).getD p then r else e.2))) ((tget t p).getD p) r) p).getD p = r := by
  by_cases h : p = (tget t p).getD p
  · rw [← h, tget_tput]
    rfl
  · rw [tget_tput_ne _ _ h, show t.map _ = tall t (fun v => if v = (tget t p).getD p then r else v) from rfl, tget_tall]
    cases hp : tget t p with
    | none => exact absurd (by rw [hp]; rfl) h
    | some v => simp

theorem remapTo_replaced (p r : Nat) (d : Dev) : Replaced p r d (remapTo p r d) := by
  have noted (x : Dev) : Noted x (judgeSpare (pageRetired p r x)) := (noted_logEvent 2 5 1 _ x).trans (noted_judgeSpare _)
  refine ⟨?_, _, noted _⟩
  rw [remapped, show (remapTo p r d).pool.remap = _ from (noted _).keeps.2.2.1]
  exact tget_remap d.pool.remap p r

theorem retirePage_spare {d : Dev} {p r : Nat} {l : List Nat} (hw : d.pool.withdrawn.contains p = false)
    (hi : d.pool.retiredInPlace.contains p = false) (hs : (spareFree d).filter (fun x => x != p) = r :: l) (hf : fixedPage d p = false) :
    retirePage p d = remapTo p r d := by
  refine (if_neg fun h => ?_).trans ((if_neg (ne_true_of_eq_false hf)).trans (by rw [hs]))
  rw [hw, hi] at h
  exact h.elim nofun nofun

theorem remapTo_int {d : Dev} {p r i : Nat} (h : d.pool.int.getLsbD i = true) : (remapTo p r d).pool.int.getLsbD i = true := by
  have logged (x : Dev) (hx : x.pool.int.getLsbD i = true) : (pageRetired p r x).pool.int.getLsbD i = true := by
    rw [pageRetired, logEvent_pool]
    exact hx
  unfold remapTo judgeSpare
  dsimp only
  split
  · exact raisePool_holds (logged _ h)
  · exact logged _ h

/-- A retirement to a SPARE page, after a count and what was noted with it. -/
theorem retirePage_keeps {d d1 : Dev} {p r c u : Nat} {l : List Nat} (h : Noted { d with pool.corr2 := c, pool.uncorr := u } d1)
    (hw : d.pool.withdrawn.contains p = false) (hi : d.pool.retiredInPlace.contains p = false)
    (hs : (spareFree d).filter (fun x => x != p) = r :: l) (hf : fixedPage d p = false) :
    (remapped (retirePage p d1) p = r ∧ (retirePage p d1).pool.withdrawn = d.pool.withdrawn ∧ (retirePage p d1).pool.pages = d.pool.pages
      ∧ blank [.ev, .perf, .mhi, .pool, .out] (retirePage p d1) = blank [.ev, .perf, .mhi, .pool, .out] d)
    ∧ (retirePage p d1).pool.corr2 = c ∧ (retirePage p d1).pool.uncorr = u
    ∧ (∀ i, d1.pool.int.getLsbD i = true → (retirePage p d1).pool.int.getLsbD i = true) := by
  obtain ⟨free, fixed, inPlace, corr, uncorr⟩ := h.spare
  obtain ⟨gone, pages, -, others⟩ := h.keeps
  rw [retirePage_spare (by rw [gone]; exact hw) (by rw [inPlace]; exact hi) (by rw [free]; exact hs) ((fixed p).trans hf)]
  obtain ⟨here, m, after⟩ := remapTo_replaced p r d1
  obtain ⟨gone', pages', -, others'⟩ := after.keeps
  obtain ⟨-, -, -, corr', uncorr'⟩ := after.spare
  exact ⟨⟨here, gone'.trans gone, pages'.trans pages, others'.trans others⟩, corr'.trans corr, uncorr'.trans uncorr, fun i h => remapTo_int h⟩

/-! ## A failed write without a SPARE page (03 R70) -/

theorem withdrawPage_shape {p : Nat} {d : Dev} (h : d.pool.withdrawn.contains p = false) :
    ∃ x q o, Noted { d with pool.withdrawn := d.pool.withdrawn ++ [p] } x ∧ withdrawPage p d = { x with pair := q, out := o } := by
  have judged := (noted_judgeLevel { d with pool.withdrawn := d.pool.withdrawn ++ [p] }).trans (noted_judgeFloors _)
  rw [withdrawPage, if_neg (ne_true_of_eq_false h)]
  dsimp only
  split
  · obtain ⟨q, b, w, o, hc⟩ := straitControl_shape 8 (leBytes p 4) (judgeFloors (judgeLevel { d with pool.withdrawn := d.pool.withdrawn ++ [p] }))
    exact ⟨_, _, _, judged, hc⟩
  · exact ⟨_, _, _, judged, rfl⟩

theorem allocPage_shape {d x : Dev} {q : Nat} (h : allocPage d = some (q, x)) :
    pageFree d q = true ∧ ∃ a b c, x = { d with pool.ptr := a, pool.sinceSave := b, pool.control := c } := by
  simp only [allocPage, Option.map_eq_some_iff, Prod.mk.injEq] at h
  obtain ⟨y, hy, rfl, rfl⟩ := h
  refine ⟨List.find?_some hy, ?_⟩
  split <;> exact ⟨_, _, _, rfl⟩

theorem mirrorPage_shape (p : Nat) (t : Tag) (n : Nat) (y : Bool) (d : Dev) : ∃ q o, mirrorPage p t n y d = { d with pair := q, out := o } := by
  unfold mirrorPage
  split
  · obtain ⟨q, o, h⟩ := mirrorSend_shape { type := 1, sync := y, page := p, payload := tagBytes t (leBytes n 4096) ++ leBytes n 4096 } d
    dsimp only
    rw [h]
    exact ⟨_, _, rfl⟩
  · exact ⟨_, _, rfl⟩

theorem stagePage_shape (src p : Nat) (t : Tag) (data key : Nat) (d : Dev) : ∃ n c q o, stagePage src p t data key d =
    { d with
      pool.pages := tput d.pool.pages p { life := .writing, slot := n, tag := t, data := data, key := key }
      perf.counters := c, pair := q, out := o } := by
  unfold stagePage
  extract_lets pg
  obtain ⟨q, o, h⟩ := mirrorPage_shape p t (pageText d pg) false (occur 4 0 1 (poolAttr src p) { d with pool.pages := tput d.pool.pages p pg })
  obtain ⟨c, hc⟩ := occur_shape 4 0 1 (poolAttr src p) { d with pool.pages := tput d.pool.pages p pg }
  rw [h, hc]
  exact ⟨_, _, _, _, rfl⟩

theorem writeFailed_noSpare {d : Dev} {p : Nat} (again : Bool) (hw : d.pool.withdrawn.contains p = false)
    (hr : regionOf d.pool.layout p = .stage) (hs : spareFree d = []) : writeFailed p again d = repeatWrite p d := by
  rw [writeFailed, if_neg (ne_true_of_eq_false hw), if_neg (not_not.mpr hr), hs]

theorem inService_withdrawn {d e : Dev} {p : Nat} (hl : e.pool.layout = d.pool.layout) (hw : e.pool.withdrawn = d.pool.withdrawn ++ [p])
    (hp : p < d.pool.layout.stage) : inService e = inService d - 1 := by
  rw [inService, inService, hl, hw, List.filter_append, List.length_append]
  simp only [List.filter_cons, decide_eq_true hp, if_true, List.filter_nil, List.length_singleton]
  omega

theorem stage_of_regionOf {l : PoolLayout} {p : Nat} (h : regionOf l p = .stage) : p < l.stage := by
  by_contra hp
  rw [regionOf, if_neg (show ¬ p < regionStart l .sjournal from hp)] at h
  repeat' split at h
  all_goals exact absurd h nofun

/-- The write of page p is repeated on q: q holds its data, p is out of service, and its command names q for it. -/
theorem repeatWrite_moves {d x : Dev} {p q : Nat} {g : StagePage} (hw : d.pool.withdrawn.contains p = false)
    (hg : tget d.pool.pages p = some g) (ha : allocPage (withdrawPage p (pageRetired p p d)) = some (q, x)) :
    let e := repeatWrite p d
    tget e.pool.pages p = none ∧ e.pool.withdrawn = d.pool.withdrawn ++ [p] ∧ e.pool.layout = d.pool.layout
    ∧ (∃ h, tget e.pool.pages q = some h ∧ h.life = .writing ∧ h.tag = g.tag ∧ h.data = g.data)
    ∧ (∀ tag c, tget d.adm.cmds tag = some c →
      tget e.adm.cmds tag = some { c with pages := c.pages.map (fun y => if y = some p then some q else y) }) := by
  have logged : Noted d (pageRetired p p d) := noted_logEvent 2 5 1 _ d
  obtain ⟨y, r, o, noted, hy⟩ := withdrawPage_shape (p := p) (d := pageRetired p p d) (by rw [logged.keeps.1]; exact hw)
  obtain ⟨free, a, b, c, hx⟩ := allocPage_shape ha
  obtain ⟨n, c', r', o', hp⟩ := stagePage_shape poolStation q g.tag g.data g.key (movePage p q x)
  have moved : repeatWrite p d = { stagePage poolStation q g.tag g.data g.key (movePage p q x) with
      pool.pages := terase (stagePage poolStation q g.tag g.data g.key (movePage p q x)).pool.pages p
      pair.mirrorPages := terase (stagePage poolStation q g.tag g.data g.key (movePage p q x)).pair.mirrorPages p
      pool.repeatWaits := (stagePage poolStation q g.tag g.data g.key (movePage p q x)).pool.repeatWaits.filter (fun x => x != p) } := by
    simp only [repeatWrite, hg, if_neg (ne_true_of_eq_false hw), ha]
  have gone : y.pool.withdrawn = d.pool.withdrawn ++ [p] := noted.keeps.1.trans (by rw [logged.keeps.1])
  have ne : q ≠ p := by
    rintro rfl
    rw [hy] at free
    simp [pageFree, gone] at free
  have cmds : y.adm.cmds = d.adm.cmds ∧ y.pool.layout = d.pool.layout := by
    obtain ⟨v, t, m, o1, l, k, i, s, rfl⟩ := noted
    obtain ⟨v, t, m, o1, l, k, i, s, hl⟩ := logged
    rw [hl]
    exact ⟨rfl, rfl⟩
  rw [moved, hp, hx, hy]
  refine ⟨tget_terase _ _, gone, cmds.2, ⟨_, (tget_terase_ne _ ne).trans (tget_tput ..), rfl, rfl, rfl⟩, fun tag c hc => ?_⟩
  exact tget_tall_of_tget (t := y.adm.cmds) (by rw [cmds.1]; exact hc) (fun c => { c with pages := c.pages.map (fun y => if y = some p then some q else y) })

/-! ## The Breakwater (03 R79, R83) -/

theorem fits_bounds {d : Dev} {c n : Nat} (h : fits d c n = true) : heldBy d c + n ≤ (coveCfg d c).cap
    ∧ (heldBy d c + n ≤ (coveCfg d c).floor ∨ ((chartOf d).light.borrow = 1 ∧ heldBy d c + n - (coveCfg d c).floor ≤ borrowMax d)) := by
  simp only [fits, Bool.and_eq_true, Bool.or_eq_true, decide_eq_true_eq, beq_iff_eq] at h
  obtain ⟨cap, floor | ⟨⟨borrow, most⟩, -⟩⟩ := h
  · exact ⟨cap, .inl floor⟩
  · exact ⟨cap, .inr ⟨borrow, most⟩⟩

theorem gateWrite_shared {d : Dev} {c n : Nat} (h : gateWrite d c n = .charge .shared) :
    fits d c n = true ∧ sharedHeld d + n ≤ inService d - 2048 := by
  unfold gateWrite at h
  split at h
  · exact nomatch h
  · split at h
    · assumption
    · split at h <;> exact nomatch h

theorem gateWrite_reserve {d : Dev} {c n : Nat} (h : gateWrite d c n = .charge .reserve) : c = 0 ∧ d.pool.reserveHeld + n ≤ 2048 := by
  unfold gateWrite at h
  split at h
  · exact nomatch h
  · split at h
    · exact nomatch h
    · split at h
      · assumption
      · exact nomatch h

theorem gateWrite_exhausted (d : Dev) (c n : Nat) : gateWrite d c n = .exhausted ↔ c ≠ 0 ∧ inService d * 97 / 100 ≤ occupancy d := by
  unfold gateWrite
  split
  next h => exact ⟨fun _ => h, fun _ => rfl⟩
  next h =>
    refine ⟨fun hg => ?_, fun hc => absurd hc h⟩
    split at hg
    · exact nomatch hg
    · split at hg <;> exact nomatch hg

/-- The level of a full ring: entered at its threshold, left 512 pages below it. -/
theorem nextLevel_full {occ l : Nat} :
    nextLevel 59392 occ l = max (if 57610 ≤ occ then 3 else if 51968 ≤ occ then 2 else if 44544 ≤ occ then 1 else 0)
      (if 3 ≤ l ∧ 57098 ≤ occ then 3 else if 2 ≤ l ∧ 51456 ≤ occ then 2 else if 1 ≤ l ∧ 44032 ≤ occ then 1 else 0) := by
  simp [nextLevel, threshold]

theorem nextLevel_bounds {occ l : Nat} (hl : l ≤ 3) : let k := nextLevel 59392 occ l
    k ≤ 3 ∧ (l < 3 → (k = 3 ↔ 57610 ≤ occ)) ∧ (l = 3 → (k = 3 ↔ 57098 ≤ occ))
    ∧ (l < k → threshold 59392 k ≤ occ) ∧ (k < l → ∀ j, k < j → j ≤ l → occ < threshold 59392 j - 512)
    ∧ (∀ j, 1 ≤ j → j ≤ 3 → threshold 59392 j ≤ occ → j ≤ k) := by
  have one : threshold 59392 1 = 44544 := rfl
  have two : threshold 59392 2 = 51968 := rfl
  have three : threshold 59392 3 = 57610 := rfl
  intro k
  have hk : k = _ := nextLevel_full
  have three_iff : k = 3 ↔ 57610 ≤ occ ∨ (l = 3 ∧ 57098 ≤ occ) := by rw [hk]; split_ifs <;> omega
  have two_iff : 2 ≤ k ↔ 51968 ≤ occ ∨ (2 ≤ l ∧ 51456 ≤ occ) := by rw [hk]; split_ifs <;> omega
  have one_iff : 1 ≤ k ↔ 44544 ≤ occ ∨ (1 ≤ l ∧ 44032 ≤ occ) := by rw [hk]; split_ifs <;> omega
  have most : k ≤ 3 := by rw [hk]; split_ifs <;> omega
  clear_value k
  refine ⟨most, by omega, by omega, fun h => ?_, fun h j hj hjl => ?_, fun j h1 h3 ht => ?_⟩
  · obtain rfl | rfl | rfl : k = 1 ∨ k = 2 ∨ k = 3 := by omega
    all_goals omega
  · obtain rfl | rfl | rfl : j = 1 ∨ j = 2 ∨ j = 3 := by omega
    all_goals omega
  · obtain rfl | rfl | rfl : j = 1 ∨ j = 2 ∨ j = 3 := by omega
    all_goals omega

/-! ## A STAGE write that is done (03 R86, 01 R17 step 8) -/

theorem poolWriteDone_other {d : Dev} {p : Nat} {g : StagePage} (hg : tget d.pool.pages p = some g)
    (h : g.life ≠ .writing ∨ p ∈ d.pool.repeatWaits) : poolWriteDone p d = d := by
  simp only [poolWriteDone, hg]
  exact if_pos (h.imp_right List.contains_iff_mem.mpr)

theorem poolWriteDone_staged {d : Dev} {p : Nat} {g : StagePage} (hg : tget d.pool.pages p = some g) (hw : g.life = .writing)
    (hr : p ∉ d.pool.repeatWaits) : poolWriteDone p d = match d.adm.cmds.find? (fun e => e.2.pages.contains (some p)) with
      | some e => tryCompleteWrite e.1 { d with pool.pages := tput d.pool.pages p { g with life := .staged } }
      | none => { d with pool.pages := tput d.pool.pages p { g with life := .staged } } := by
  simp only [poolWriteDone, hg]
  exact if_neg fun h => h.elim (absurd hw) fun h => hr (List.contains_iff_mem.mp h)

theorem tryCompleteWrite_open {d : Dev} {tag : Nat} {c : Cmd} (hc : tget d.adm.cmds tag = some c) (hd : c.completed = false)
    (ha : c.absent = false) :
    tryCompleteWrite tag d = if writeReady d c = true ∧ mirrorDone d c = true then endCmd tag ok d else d := by
  simp only [tryCompleteWrite, hc, hd, ha]
  simp

theorem pagesStaged_of_writeReady {d : Dev} {c : Cmd} (hk : c.kind = .write) (h : writeReady d c = true) : pagesStaged d c = true := by
  rwa [writeReady, if_pos hk] at h

/-! ## The next start (03 R89 to R91) -/

theorem le_foldl_max (l : List Nat) : ∀ a, a ≤ l.foldl max a ∧ ∀ x ∈ l, x ≤ l.foldl max a := by
  induction l with
  | nil => exact fun a => ⟨le_rfl, fun _ h => nomatch h⟩
  | cons y l ih =>
    intro a
    obtain ⟨first, others⟩ := ih (max a y)
    refine ⟨(le_max_left a y).trans first, fun x hx => ?_⟩
    obtain rfl | hx := List.mem_cons.mp hx
    · exact (le_max_right a x).trans first
    · exact others x hx

/-- Without a marker the counter resumes beyond every ESN on record. -/
theorem resumeEsn_beyond {d : Dev} {r : EventRec} (h : some r ∈ d.ev.slots) : r.esn + 4096 < resumeEsn d none := by
  have listed : r.esn ∈ (d.ev.slots.filterMap id).map (·.esn) := List.mem_map_of_mem (List.mem_filterMap.mpr ⟨_, h, rfl⟩)
  have top := (le_foldl_max _ 0).2 _ listed
  unfold resumeEsn
  dsimp only
  split
  next hn =>
    rw [hn] at listed
    exact nomatch listed
  next => omega

end Sys2Proof.Machine

open Sys2Proof Sys2Proof.Machine

/-- Settles O30: the gate and the levels, a page whose write is done, scrub and failed writes, retirement, and a stop with the next start. -/
theorem tidePool : Obligations.TidePool := by
  refine ⟨fun d c n => ⟨fun h => ?_, gateWrite_reserve, gateWrite_exhausted d c n, fun s occ l hl hs => ?_⟩, fun s p g => ?_, fun s p => ?_,
    fun d p r l hw hi => ?_, fun d c n hs hc hn => ?_⟩
  · obtain ⟨hf, room⟩ := gateWrite_shared h
    exact ⟨room, fits_bounds hf⟩
  · subst hs
    exact nextLevel_bounds hl
  · intro d e hg
    have ends {x : Dev} (h : poolWriteDone p s.dev = x) : Gives (.tidePoolWriteDone p) s x := gives_congr rfl h
    refine ⟨fun h => ends (poolWriteDone_other hg h), fun hw hr => ⟨fun h => ends ?_, fun tag c hf hc hk hd ha => ?_⟩⟩
    · have none : s.dev.adm.cmds.find? (fun x => x.2.pages.contains (some p)) = none :=
        List.find?_eq_none.mpr fun x hx => by simpa using List.all_eq_true.mp h x hx
      rw [poolWriteDone_staged hg hw hr, none]
    · have staged : poolWriteDone p s.dev = _ := (poolWriteDone_staged hg hw hr).trans (by rw [hf])
      have done := tryCompleteWrite_open (d := e) hc hd ha
      refine ⟨fun h1 h2 => ends (staged.trans (done.trans (if_pos ⟨h1, h2⟩))), fun h => ends (staged.trans (done.trans (if_neg fun hb => ?_))),
        pagesStaged_of_writeReady hk⟩
      rw [hb.1, hb.2] at h
      exact h.elim nofun nofun
  · intro d settled seen
    have scrub {r : EccResult} (h : p < 65536) : Gives (.poolScrub p r) s (settled (poolRead p r
        (upkeepUnit poolStation [mgmtStation] p p 4096 d))) := gives_congr rfl (if_pos h)
    exact ⟨fun h => ⟨scrub h, scrub h, scrub h, scrub h⟩, fun e h => gives_congr rfl (if_neg (Nat.not_lt.mpr h)), fun again => rfl⟩
  · intro kept
    refine ⟨fun hs hf => ⟨?_, ?_, fun hr again => ?_⟩, fun hs hr => ?_, fun g q x again hs hr hg ha => ?_⟩
    · have noted : Noted { d with pool.corr2 := satAdd 16 d.pool.corr2 1, pool.uncorr := d.pool.uncorr } _ := noted_occur 4 2 1 (poolAttr mgmtStation p) _
      rw [show corrected2 p d = retirePage p _ from if_neg (ne_true_of_eq_false hi)]
      obtain ⟨rest, corr, uncorr, -⟩ := retirePage_keeps noted hw hi hs hf
      exact ⟨rest, corr, uncorr⟩
    · have noted : Noted { d with pool.corr2 := d.pool.corr2, pool.uncorr := satAdd 16 d.pool.uncorr 1 } _ :=
        (noted_occur 4 3 1 (poolAttr mgmtStation p) _).trans ((noted_raisePool 5 _).trans
          (noted_logEvent 2 7 2 (payload p 0 (regionNum (regionOf d.pool.layout p)) 0) _))
      obtain ⟨rest, corr, uncorr, int⟩ := retirePage_keeps noted hw hi hs hf
      refine ⟨rest, uncorr, corr, int 5 ?_⟩
      rw [logEvent_pool]
      exact raisePool_sets (by decide) _
    · have failed : writeFailed p again d = retirePage p d := (if_neg (ne_true_of_eq_false hw)).trans (if_pos hr)
      rw [failed]
      exact (retirePage_keeps (Noted.refl d) hw hi hs hf).1
    · have failed : writeFailed p true d = remapTo p r d :=
        (if_neg (ne_true_of_eq_false hw)).trans ((if_neg (not_not.mpr hr)).trans (by rw [hs]; rfl))
      obtain ⟨here, m, noted⟩ := remapTo_replaced p r d
      obtain ⟨gone, pages, -, others⟩ := noted.keeps
      rw [failed]
      exact ⟨here, gone, pages, others⟩
    · intro e
      obtain ⟨free, gone, layout, page, cmds⟩ := repeatWrite_moves hw hg ha
      rw [← writeFailed_noSpare again hw hr hs] at free gone layout page cmds
      exact ⟨free, gone, page, cmds, inService_withdrawn layout gone (stage_of_regionOf hr)⟩
  · obtain ⟨a, p, o, i, j, stopped⟩ := stopDevice_live_shape hs
    refine ⟨{ c with stopMarker := some (c.bootCount, n, d.pool.ptr), pointer := d.pool.ptr }, ?_, ?_, fun f => ⟨rfl, rfl, fun r hr => ⟨_, rfl, resumeEsn_beyond hr⟩⟩⟩
    · rw [stopped]
      simp [resetCore, poolAfterReset, zeroizeKeys, hc, hn]
    · rw [stopped]
      exact ⟨rfl, rfl, rfl, rfl, rfl, rfl⟩
end

section
/-! The order of admission (O31): the head of a submission queue, one equation for each point at which it may end. -/

namespace Sys2Proof.Machine

/-- The rest of the order for a head that the checks and the policer let pass (05 R142): HALT, credits, rows, the tracker and MAPLOG,
the ceiling, and the assignment. -/
def headGoes (c q : Nat) (s : Sq) (h : HeldCapsule) (d : Dev) : HeadOut :=
  let cove := ctrlCove d c
  let n := if h.op = .write then creditsFor (sglBytes h.cap) else 0
  let note := fun (ev : Nat) (a : Dev) => if d.pool.waiting.contains (c, q) then a else occur 2 ev 1 (capAttr cove h.op h.cap) a
  if cove ≠ 0 ∧ threshold (inService d) 3 ≤ occupancy d then
    .gone (rejectCapsule c q h (vendor d c 0x84 false 1) (occur 2 4 1 (capAttr cove h.op h.cap) d))
  else match (if h.op = .write then (if behindCove d c q then .wait else gateWrite d cove n) else Gate.charge .shared) with
    | .exhausted => .gone (rejectCapsule c q h (vendor d c 0x84 false 1) (occur 2 4 1 (capAttr cove h.op h.cap) d))
    | .wait => .waits (note 5 d)
    | .charge sp =>
      if (h.op = .write ∨ h.op = .writeZeroes) ∧ !aboveReserve d (nsShoal d h.cap.nsid) then .waits (note 7 d)
      else if !trackerRoom d (trackRanges d h.op h.cap) ∨ !logRoom d h then .waits (note 6 d)
      else if !underCeiling d (sglBytes h.cap) then .waits d
      else assignHead c q s h n sp d

theorem note_first (b : Bool) (x y : Dev) : (if (!b) = true then x else y) = if b = true then y else x := by
  cases b <;> rfl

theorem police_shape (cove bytes : Nat) (d : Dev) : ∃ x, (police cove bytes d).2 = { d with sched := x } := by
  simp only [police]
  split <;> exact ⟨_, rfl⟩

section
variable {d : Dev} {c q : Nat} {s : Sq} {h : HeldCapsule} {l : List HeldCapsule} (hs : sqOf d c q = some s) (hh : s.held = h :: l)
include hs hh

theorem headStep_stopped (ht : stopped d c s = true) : headStep c q d = .idle d := by
  simp only [headStep, hs, hh]
  exact if_pos ht

theorem headStep_policed (ht : stopped d c s = false) (hp : h.policed = true) : headStep c q d = headGoes c q s h d := by
  have same : ({ s with held := h :: l } : Sq) = s := by rw [← hh]
  simp only [headStep, hs, hh, if_neg (ne_true_of_eq_false ht), if_pos hp, policeHead, List.drop_one, List.tail_cons, same, note_first]
  rfl

theorem headStep_checked {st : Status} (ht : stopped d c s = false) (hp : h.policed = false)
    (hc : checkCapsule d c q s.qpn h.op h.cap = some st) : headStep c q d = .gone (rejectCapsule c q h st d) := by
  simp only [headStep, hs, hh, if_neg (ne_true_of_eq_false ht), if_neg (ne_true_of_eq_false hp), hc]

theorem headStep_red {e : Dev} (ht : stopped d c s = false) (hp : h.policed = false) (hc : checkCapsule d c q s.qpn h.op h.cap = none)
    (hr : police (ctrlCove d c) (sglBytes h.cap) d = (.red, e)) : headStep c q d = .gone (rejectCapsule c q h (vendor d c 0x80 false 1)
      (coveCount (ctrlCove d c) 5 1 (occur 2 2 1 (capAttr (ctrlCove d c) h.op h.cap) e))) := by
  simp only [headStep, hs, hh, if_neg (ne_true_of_eq_false ht), if_neg (ne_true_of_eq_false hp), hc, policeHead, hr]

/-- A head that the policer lets pass goes on as one that has been policed, with its colour noted. -/
theorem headStep_passes {e : Dev} {col : Colour} {y : Bool} (ht : stopped d c s = false) (hp : h.policed = false)
    (hc : checkCapsule d c q s.qpn h.op h.cap = none) (hr : police (ctrlCove d c) (sglBytes h.cap) d = (col, e)) (hn : col ≠ .red)
    (hy : (col == .yellow) = y) :
    headStep c q d = headStep c q (modSq c q (fun x => { x with held := { h with policed := true, yellow := y } :: l })
      (if y then occur 2 3 1 (capAttr (ctrlCove d c) h.op h.cap) e else e)) := by
  obtain ⟨x, rfl⟩ : ∃ x, e = { d with sched := x } := by
    obtain ⟨x, hx⟩ := police_shape (ctrlCove d c) (sglBytes h.cap) d
    rw [hr] at hx
    exact ⟨x, hx⟩
  have noted : ∃ p, (if y then occur 2 3 1 (capAttr (ctrlCove d c) h.op h.cap) { d with sched := x } else { d with sched := x }) =
      { d with sched := x, perf := p } := by
    split
    · obtain ⟨t, hv⟩ := occur_shape 2 3 1 (capAttr (ctrlCove d c) h.op h.cap) { d with sched := x }
      exact ⟨_, hv⟩
    · exact ⟨_, rfl⟩
  have goes : policeHead c q s h d = (true, { h with policed := true, yellow := y },
      modSq c q (fun x => { x with held := { h with policed := true, yellow := y } :: l })
        (if y then occur 2 3 1 (capAttr (ctrlCove d c) h.op h.cap) { d with sched := x } else { d with sched := x })) := by
    simp only [policeHead, if_neg (ne_true_of_eq_false hp), hr, hh, List.drop_one, List.tail_cons, ← hy]
  obtain ⟨p, noted⟩ := noted
  rw [noted] at goes ⊢
  have queued : sqOf (modSq c q (fun x => { x with held := { h with policed := true, yellow := y } :: l }) { d with sched := x, perf := p }) c q =
      some { s with held := { h with policed := true, yellow := y } :: l } := by
    rw [sqOf, modSq, tget_tmod, show tget d.host.sqs (sqKey c q) = some s from hs]
    rfl
  rw [headStep_policed queued rfl (show stopped d c s = false from ht) rfl]
  simp only [headStep, hs, hh, if_neg (ne_true_of_eq_false ht), if_neg (ne_true_of_eq_false hp), hc, goes, List.drop_one, List.tail_cons, note_first]
  rfl

end

/-! ## The head that has been policed -/

section
variable {d : Dev} {c q : Nat} {s : Sq} {h : HeldCapsule}

theorem headGoes_halt (hc : ctrlCove d c ≠ 0) (hf : threshold (inService d) 3 ≤ occupancy d) : headGoes c q s h d =
    .gone (rejectCapsule c q h (vendor d c 0x84 false 1) (occur 2 4 1 (capAttr (ctrlCove d c) h.op h.cap) d)) := if_pos ⟨hc, hf⟩

variable (hl : ¬ (ctrlCove d c ≠ 0 ∧ threshold (inService d) 3 ≤ occupancy d))
include hl

theorem headGoes_gateWaits (hg : (if h.op = .write then (if behindCove d c q then .wait
    else gateWrite d (ctrlCove d c) (if h.op = .write then creditsFor (sglBytes h.cap) else 0)) else Gate.charge .shared) = .wait) :
    headGoes c q s h d = .waits (if d.pool.waiting.contains (c, q) then d else occur 2 5 1 (capAttr (ctrlCove d c) h.op h.cap) d) :=
  (if_neg hl).trans (by rw [hg])

theorem headGoes_charged {sp : PoolSpace} (hg : (if h.op = .write then (if behindCove d c q then .wait
    else gateWrite d (ctrlCove d c) (if h.op = .write then creditsFor (sglBytes h.cap) else 0)) else Gate.charge .shared) = .charge sp) :
    headGoes c q s h d =
      if (h.op = .write ∨ h.op = .writeZeroes) ∧ !aboveReserve d (nsShoal d h.cap.nsid) then
        .waits (if d.pool.waiting.contains (c, q) then d else occur 2 7 1 (capAttr (ctrlCove d c) h.op h.cap) d)
      else if !trackerRoom d (trackRanges d h.op h.cap) ∨ !logRoom d h then
        .waits (if d.pool.waiting.contains (c, q) then d else occur 2 6 1 (capAttr (ctrlCove d c) h.op h.cap) d)
      else if !underCeiling d (sglBytes h.cap) then .waits d
      else assignHead c q s h (if h.op = .write then creditsFor (sglBytes h.cap) else 0) sp d :=
  (if_neg hl).trans (by rw [hg])

end

/-! ## The assignment -/

section
variable {d : Dev} {c q n : Nat} {s : Sq} {h : HeldCapsule} {sp : PoolSpace}

theorem assignHead_io (ho : h.op ∉ [.resvRegister, .resvReport, .resvAcquire, .resvRelease]) (hk : kindOf h.op h.cap ≠ .flushAll) :
    assignHead c q s h n sp d =
      if resvConflict (resvOf d h.cap.nsid) (hostOf d c) (opReads h.op) then .gone (rejectCapsule c q h (gen 0x83) d)
      else if !markStands d h.cap.nsid then .waits (askMark h.cap.nsid d)
      else .gone (admitHead c q s h n sp d) := by
  have other : (h.op == .resvRegister || h.op == .resvReport || h.op == .resvAcquire || h.op == .resvRelease) = false := by
    simpa [not_or, and_assoc] using ho
  simp only [assignHead, other, if_neg hk]

theorem assignHead_resv {a : ResvArgs} (ha : h.cap.resv = some a) (ho : h.op ∈ [.resvRegister, .resvReport, .resvAcquire, .resvRelease]) :
    assignHead c q s h n sp d =
      .gone (runResv c q h.cap.cid h.cap.nsid h.op a (coveCount (ctrlCove d c) 0 1 (dropCapsule c q h d))) := by
  have one : (h.op == .resvRegister || h.op == .resvReport || h.op == .resvAcquire || h.op == .resvRelease) = true := by
    simpa [or_assoc] using ho
  simp only [assignHead, one, ha]

end

end Sys2Proof.Machine

open Sys2Proof Sys2Proof.Machine

/-- Settles O31: the points of the order at the head, in turn, then the assignment. -/
theorem admissionOrder : Obligations.AdmissionOrder := by
  intro d c q s h l cove n gate attr note room hs hh
  refine ⟨headStep_stopped hs hh, fun ht hp st => headStep_checked hs hh ht hp, fun ht hp hc e => headStep_red hs hh ht hp hc,
    fun ht hp hc e hr => headStep_passes (y := false) hs hh ht hp hc hr nofun rfl,
    fun ht hp hc e hr => headStep_passes (y := true) hs hh ht hp hc hr nofun rfl, fun ht hp => ?_, fun sp ho hk => ?_,
    fun sp a ha ho => assignHead_resv ha ho⟩
  · have goes := headStep_policed hs hh ht hp
    refine ⟨fun hc hf => goes.trans (headGoes_halt hc hf), fun hl => ⟨fun hg => goes.trans (headGoes_gateWaits hl hg), fun sp hg => ?_⟩⟩
    have charged := goes.trans (headGoes_charged hl hg)
    refine ⟨fun hw hr => charged.trans (if_pos ⟨hw, bnot_of_false hr⟩), fun hr => ?_⟩
    have roomy := charged.trans (if_neg fun hb => not_bnot_of_true (hr hb.1) hb.2)
    refine ⟨fun hf => roomy.trans (if_pos (hf.imp bnot_of_false bnot_of_false)), fun h1 h2 => ?_⟩
    have tracked := roomy.trans (if_neg fun hb => hb.elim (not_bnot_of_true h1) (not_bnot_of_true h2))
    exact ⟨fun hu => tracked.trans (if_pos (bnot_of_false hu)), fun hu => tracked.trans (if_neg (not_bnot_of_true hu))⟩
  · intro r
    have io := assignHead_io (s := s) (c := c) (q := q) (n := n) (sp := sp) (d := d) ho hk
    refine ⟨fun hr => io.trans (if_pos hr), fun hr hm => ?_, fun hr hm => ?_⟩
    · exact (io.trans (if_neg (ne_true_of_eq_false hr))).trans (if_pos (bnot_of_false hm))
    · exact (io.trans (if_neg (ne_true_of_eq_false hr))).trans (if_neg (not_bnot_of_true hm))
end

section
/-! Reservations (O33): who may pass, what Register, Acquire and Release do, and when a changed record completes. -/

namespace Sys2Proof.Machine

section
variable {r : ResvRecord} {host : Nat}

theorem resvConflict_holder (h : holds r host = true) (b : Bool) : resvConflict r host b = false := if_pos h

theorem resvConflict_other (h : holds r host = false) (b : Bool) : resvConflict r host b = match r.rtype with
    | 0 => false
    | 1 => !b
    | 2 => true
    | 3 => !b && !(registrant r host).isSome
    | 4 => !(registrant r host).isSome
    | 5 => !b && !(registrant r host).isSome
    | _ => !(registrant r host).isSome := if_neg (ne_true_of_eq_false h)

/-- A host that registers anew stands behind the registrants so far. -/
theorem registrant_append {k c : Nat} (h : registrant r host = none) :
    registrant { r with registrants := r.registrants ++ [{ hostid := host, key := k, cove := c }] } host = some r.registrants.length := by
  have none : r.registrants.findIdx? (fun g => g.hostid == host) = none := h
  simp [registrant, List.findIdx?_append, none]

theorem resvRegister_new {cove : Nat} {a : ResvArgs} (ha : a.action = 0) (h : registrant r host = none) (hl : r.registrants.length < 126)
    (hc : a.cptpl = 0) : resvRegister r host cove a =
      ⟨ok, { r with registrants := r.registrants ++ [{ hostid := host, key := a.newKey, cove := cove }] }, []⟩ := by
  simp [resvRegister, ha, h, hc, Nat.not_le.mpr hl]

theorem resvAcquire_stranger (a : ResvArgs) (h : registrant r host = none) : resvAcquire r host a = ⟨gen 0x83, r, []⟩ := by
  simp only [resvAcquire, h]

theorem resvRelease_stranger (a : ResvArgs) (h : registrant r host = none) : resvRelease r host a = ⟨gen 0x83, r, []⟩ := by
  simp only [resvRelease, h]

theorem resvAcquire_free {i : Nat} {a : ResvArgs} (h : registrant r host = some i)
    (hk : (r.registrants[i]?).map (·.key) = some a.currentKey) (ha : a.action = 0) (hr : r.rtype = 0) (h1 : 1 ≤ a.rtype) (h6 : a.rtype ≤ 6) :
    resvAcquire r host a = ⟨ok, { r with rtype := a.rtype, holder := some i }, []⟩ := by
  have valid : ¬ (a.rtype = 0 ∨ 6 < a.rtype) := by omega
  simp only [resvAcquire, h, if_neg (not_not.mpr hk), if_neg valid, if_pos ha, if_pos hr]

theorem holds_acquired {i n : Nat} (h : registrant r host = some i) (hn : 1 ≤ n) : holds { r with rtype := n, holder := some i } host = true := by
  have same : registrant { r with rtype := n, holder := some i } host = some i := h
  simp only [holds, same]
  simp [Nat.pos_iff_ne_zero.mp hn]

theorem resvRelease_clear {i : Nat} {a : ResvArgs} (h : registrant r host = some i)
    (hk : (r.registrants[i]?).map (·.key) = some a.currentKey) (ha : a.action = 1) : resvRelease r host a =
      ⟨ok, { r with rtype := 0, holder := none, registrants := [] }, [(3, otherHosts r host)]⟩ := by
  simp only [resvRelease, h, if_neg (not_not.mpr hk), ha]
  rfl

end

/-! ## Completion of a changed record (13 R395) -/

/-- The record of a wait stands, and the mirror has acknowledged it. -/
def resvSettled (d : Dev) (w : AdminWait) : Bool := w.kind == 10 && w.stands && (!mirrors d || decide (w.mseq ≤ d.pair.ackMseq))

theorem settleResv_eq (d : Dev) : settleResv d = (d.host.waits.filter (resvSettled d)).foldl (fun a w =>
    decideIo { cntlid := w.cntlid, sqid := w.arg, cid := w.cid, nsid := w.subject } ok false a)
    { d with host.waits := d.host.waits.filter (fun w => !resvSettled d w) } := rfl

theorem settleResv_one {d : Dev} {w : AdminWait} (hw : d.host.waits = [w]) (h : resvSettled d w = true) :
    settleResv d = decideIo { cntlid := w.cntlid, sqid := w.arg, cid := w.cid, nsid := w.subject } ok false { d with host.waits := [] } := by
  simp [settleResv_eq, hw, h]

theorem settleResv_none {d : Dev} {w : AdminWait} (hw : d.host.waits = [w]) (h : resvSettled d w = false) : settleResv d = d := by
  simp only [settleResv_eq, hw, List.filter_cons, h, Bool.not_false, if_true, List.filter_nil, Bool.false_eq_true, if_false, List.foldl_nil]
  rw [← hw]

end Sys2Proof.Machine

open Sys2Proof Sys2Proof.Machine

/-- Settles O33: conflicts, the reservation commands, and the record that becomes durable. -/
theorem reservations : Obligations.Reservations := by
  intro r host cove a
  refine ⟨resvConflict_holder, fun h => ?_, fun ha h hl hc => ?_, fun h => ?_, fun i h hk => ⟨fun ha hr h1 h6 => ?_, fun ha => ?_⟩,
    fun s n => rfl, fun d w hk hw => ⟨fun hs hm => settleResv_one hw ?_, fun h => settleResv_none hw ?_⟩⟩
  · have other := resvConflict_other h
    refine ⟨fun ht b => ?_, fun ht b => ?_, fun ht b => ?_, fun ht b => ?_, fun ht b => ?_⟩
    · simp [other, ht]
    · simp [other, ht]
    · simp [other, ht]
    · obtain ht | ht := ht <;> rw [other, ht] <;> simp
    · obtain ht | ht := ht <;> rw [other, ht] <;> simp
  · rw [resvRegister_new ha h hl hc]
    exact ⟨rfl, rfl, registrant_append h⟩
  · rw [resvAcquire_stranger a h, resvRelease_stranger a h]
    exact ⟨rfl, rfl, rfl⟩
  · rw [resvAcquire_free h hk ha hr h1 h6]
    exact ⟨rfl, rfl, holds_acquired h h1⟩
  · rw [resvRelease_clear h hk ha]
    exact ⟨rfl, rfl⟩
  · obtain hm | hm := hm <;> simp [resvSettled, hk, hs, hm]
  · obtain h | ⟨hm, ha⟩ := h
    · simp [resvSettled, h]
    · simp [resvSettled, hm, Nat.not_le.mpr ha]
end

section
/-! Who may run an admin command, aborts, event requests, Queue Thaw and Lost Range Acknowledge (O34). -/

namespace Sys2Proof.Machine

/-! ## The mailbox area (18 R505) -/

theorem leBytes_length (n : Nat) : ∀ x, (leBytes x n).length = n := by
  induction n with
  | zero => exact fun _ => rfl
  | succ n ih => exact fun x => congrArg (· + 1) (ih (x / 256))

/-- Part of what was stored, read back. -/
theorem mgets_mputs_part {m : Memory} (hm : m.wf = true) (a : Nat) {x y z : List Byte} {i n : Nat} (hi : x.length = i) (hn : y.length = n) :
    mgets (mputs m a (x ++ y ++ z)) (a + i) n = y := by
  subst hi hn
  apply List.ext_getElem
  · simp
  · intro j h1 h2
    simp only [mgets, List.getElem_map, run_getElem]
    rw [Nat.add_assoc, mget_mputs _ m hm (by simp only [List.length_append]; omega), List.getElem_append_left (by simp only [List.length_append]; omega),
      List.getElem_append_right (by omega)]
    simp

/-- A result stands in the mailbox area: STATUS, DW0, the length and the NVM Express status, then the bytes. -/
theorem placeMbox_area {d : Dev} {m : Memory} {r : MboxResult} (hm : m.wf = true) (hr : d.mhi.mboxResult = some r) :
    let n := (placeMbox d m).2
    mgets n (mailboxBase + 0x80) 4 = leBytes r.status 4 ∧ mgets n (mailboxBase + 0x84) 4 = leBytes r.dw0 4
    ∧ mgets n (mailboxBase + 0x88) 4 = leBytes (mboxOut d r).length 4 ∧ mgets n (mailboxBase + 0x8C) 4 = leBytes r.nvme 4
    ∧ mgets n (mailboxBase + 0x1000) (mboxOut d r).length = mboxOut d r ∧ n.wf = true := by
  have area : (placeMbox d m).2 = mputs (mputs m (mailboxBase + 0x80) (leBytes r.status 4 ++ leBytes r.dw0 4 ++
      leBytes (mboxOut d r).length 4 ++ leBytes r.nvme 4)) (mailboxBase + 0x1000) (mboxOut d r) := by rw [placeMbox, hr]
  have kept := mputs_wf (mailboxBase + 0x80) (leBytes r.status 4 ++ leBytes r.dw0 4 ++ leBytes (mboxOut d r).length 4 ++ leBytes r.nvme 4) hm
  intro n
  rw [show n = _ from area]
  have head (i : Nat) (hi : i ≤ 0xFFC) (x : List Byte) (h : mgets (mputs m (mailboxBase + 0x80) (leBytes r.status 4 ++ leBytes r.dw0 4 ++
      leBytes (mboxOut d r).length 4 ++ leBytes r.nvme 4)) (mailboxBase + i) 4 = x) :
      mgets (mputs (mputs m (mailboxBase + 0x80) (leBytes r.status 4 ++ leBytes r.dw0 4 ++ leBytes (mboxOut d r).length 4 ++
        leBytes r.nvme 4)) (mailboxBase + 0x1000) (mboxOut d r)) (mailboxBase + i) 4 = x :=
    (mgets_mputs_out _ _ _ _ _ (.inl (by omega))).trans h
  refine ⟨head _ (by decide) _ ?_, head _ (by decide) _ ?_, head _ (by decide) _ ?_, head _ (by decide) _ ?_, mgets_mputs _ _ _ kept,
    mputs_wf _ _ kept⟩
  · have part := mgets_mputs_part hm (mailboxBase + 0x80) (x := []) (y := leBytes r.status 4)
      (z := leBytes r.dw0 4 ++ leBytes (mboxOut d r).length 4 ++ leBytes r.nvme 4) (i := 0) rfl (leBytes_length 4 _)
    simpa only [List.nil_append, List.append_assoc, Nat.add_zero] using part
  · have part := mgets_mputs_part hm (mailboxBase + 0x80) (x := leBytes r.status 4) (y := leBytes r.dw0 4)
      (z := leBytes (mboxOut d r).length 4 ++ leBytes r.nvme 4) (leBytes_length 4 _) (leBytes_length 4 _)
    simpa only [List.append_assoc] using part
  · have part := mgets_mputs_part hm (mailboxBase + 0x80) (x := leBytes r.status 4 ++ leBytes r.dw0 4) (y := leBytes (mboxOut d r).length 4)
      (z := leBytes r.nvme 4) (i := 8) (by simp [leBytes_length]) (leBytes_length 4 _)
    simpa only [List.append_assoc] using part
  · have part := mgets_mputs_part hm (mailboxBase + 0x80) (x := leBytes r.status 4 ++ leBytes r.dw0 4 ++ leBytes (mboxOut d r).length 4)
      (y := leBytes r.nvme 4) (z := []) (i := 12) (by simp [leBytes_length]) (leBytes_length 4 _)
    simpa only [List.append_assoc, List.append_nil] using part

theorem mboxOut_room {d : Dev} {n : Nat} (h : d.mhi.mboxRoom = some n) (r : MboxResult) : (mboxOut d r).length ≤ n := by
  rw [mboxOut, h]
  exact List.length_take_le ..

theorem mboxOut_whole {d : Dev} (h : d.mhi.mboxRoom = none) (r : MboxResult) : mboxOut d r = r.bytes := by rw [mboxOut, h]

/-! ## Who may run a command (07 R199, 18 R504) -/

section
variable {d : Dev} {c : Nat} (cid : Nat) (w : Who) (f : Dev → Dev)

theorem admin_noCtrl (h0 : c ≠ 0) (h : ctrlOf d c = none) : admin c cid w f d = d := by
  rw [admin, if_neg h0, h]

theorem admin_ctrl {k : Ctrl} (h0 : c ≠ 0) (h : ctrlOf d c = some k) : admin c cid w f d =
    if !k.enabled ∨ k.ended then d else if w = .cove0 ∧ k.cove ≠ 0 then answerAdmin c cid (gen 0x01) 0 d else f d := by
  rw [admin, if_neg h0, h]

theorem admin_mbox : admin 0 cid w f d = mboxRun (fun a => if w = .hosts then answerAdmin 0 cid (gen 0x01) 0 a else f a) d := if_pos rfl

theorem mboxRun_refused {g : Dev → Dev} (h : d.mhi.mboxReady = false ∨ (d.mhi.mboxBusy = true ∧ d.mhi.mboxPending = false)) :
    mboxRun g d = { d with mhi.mboxRefused := true } := by
  refine if_pos ?_
  obtain h | ⟨h1, h2⟩ := h
  · simp [h]
  · simp [h1, h2]

end

/-! ## Queue Thaw (07 R217) -/

section
variable {d : Dev} {c q : Nat} {x : Sq} (cid : Nat) (h : sqOf d c q = some x) (h0 : q ≠ 0)

section
include h h0

theorem thawFails_open (hf : x.frozen = false) : thawFails d c q = some (gen 0x0C) := by
  simp only [thawFails, if_neg h0, h, hf]
  rfl

theorem thawFails_frozen (hf : x.frozen = true) : thawFails d c q = none := by
  simp only [thawFails, if_neg h0, h, hf]
  rfl

theorem thawResume_frozen (hf : x.frozen = true) : thawResume c cid q d =
    runSq c q (recheckHead c q (answerAdmin c cid ok x.held.length (modSq c q (fun y => { y with frozen := false, entry := none }) d))) := by
  rw [thawResume, thawFails_frozen h h0 hf, h]
  rfl

theorem thawDiscard_frozen (hf : x.frozen = true) : thawDiscard c cid q d =
    answerAdmin c cid ok x.held.length (modSq c q (fun s => { s with entry := s.entry.map (fun e => { e with cause := 3 }) })
      (x.held.foldl (fun a h => rejectCapsule c q h (vendor a c 0x81 true 0) a) d)) := by
  rw [thawDiscard, thawFails_frozen h h0 hf, h]
  rfl

end

theorem thawFails_noSq (h : sqOf d c q = none) : thawFails d c q = some (cmdSpec 0x01) := by
  rw [thawFails, h, ite_self]

theorem thawResume_fails {st : Status} (h : thawFails d c q = some st) : thawResume c cid q d = answerAdmin c cid st 0 d := by
  rw [thawResume, h]

theorem thawDiscard_fails {st : Status} (h : thawFails d c q = some st) : thawDiscard c cid q d = answerAdmin c cid st 0 d := by
  rw [thawDiscard, h]

/-! ## Abort and event requests (07 R220, R205) -/

theorem abortCmd_none {n : Nat} (h : (sqOf d c q).bind (fun s => s.held.find? (fun h => h.cap.cid == n)) = none) :
    abortCmd c cid q n d = answerAdmin c cid ok 1 d := by rw [abortCmd, h]

theorem abortCmd_head {n : Nat} {g : HeldCapsule} {l : List HeldCapsule} (h : sqOf d c q = some x) (hx : x.held = g :: l) (hg : g.cap.cid = n) :
    abortCmd c cid q n d = runSq c q (answerAdmin c cid ok 0 (rejectCapsule c q g (gen 0x07)
      { d with pool.waiting := d.pool.waiting.filter (fun y => y != (c, q)) })) := by
  have found : (sqOf d c q).bind (fun s => s.held.find? (fun h => h.cap.cid == n)) = some g := by simp [h, hx, hg]
  have first : (sqOf d c q).bind (·.held.head?) = some g := by simp [h, hx]
  rw [abortCmd, found]
  dsimp only
  rw [if_pos first]

end

theorem tmod_tmod {α : Type} (t : Table α) (k : Nat) (f g : α → α) : tmod (tmod t k f) k g = tmod t k (fun x => g (f x)) := by
  simp only [tmod, List.map_map]
  refine List.map_congr_left fun e _ => ?_
  by_cases h : e.1 = k <;> simp [h]

section
variable {d : Dev} {c : Nat} {k : Ctrl} (cid : Nat) (h : ctrlOf d c = some k)
include h

theorem eventRequest_full (ha : 4 ≤ k.aers.length) : eventRequest c cid d = answerAdmin c cid (cmdSpec 0x05) 0 d := by
  simp only [eventRequest, h]
  exact if_pos ha

theorem eventRequest_held (ha : k.aers.length < 4) (hp : k.pendingEvents = []) : eventRequest c cid d =
    modCtrl c (fun x => { x with aers := x.aers ++ [cid], pendingEvents := x.pendingEvents.drop 1 }) d := by
  simp only [eventRequest, h, if_neg (Nat.not_le.mpr ha), hp]

/-- The first request of a controller with an event that waits completes at once. -/
theorem eventRequest_delivers {e : AsyncEvent} {l : List AsyncEvent} (ha : k.aers = []) (hp : k.pendingEvents = e :: l) :
    eventRequest c cid d = answerAdmin c cid ok (asyncDw0 e)
      (emit (.asyncEvent c cid e) (modCtrl c (fun x => { x with aers := [], pendingEvents := x.pendingEvents.drop 1 }) d)) := by
  have room : ¬ 4 ≤ k.aers.length := by rw [ha]; decide
  have held : ctrlOf (modCtrl c (fun x => { x with aers := x.aers ++ [cid], pendingEvents := x.pendingEvents.drop 1 }) d) c =
      some { k with aers := [cid], pendingEvents := l } := by
    rw [ctrlOf, modCtrl, tget_tmod, show tget d.host.ctrls c = some k from h, Option.map_some, ha, hp]
    rfl
  have emptied : modCtrl c (fun x => { x with aers := [] })
      (modCtrl c (fun x => { x with aers := x.aers ++ [cid], pendingEvents := x.pendingEvents.drop 1 }) d) =
      modCtrl c (fun x => { x with aers := [], pendingEvents := x.pendingEvents.drop 1 }) d := by
    simp only [modCtrl, tmod_tmod]
  simp only [eventRequest, h, if_neg room, hp, deliverAsync, held, emptied]

end

/-! ## Lost Range Acknowledge (07 R227) -/

section
variable {d : Dev} {c cid v n : Nat}

theorem lostAcknowledge_foreign (h : ctrlCove d c ≠ 0) : lostAcknowledge c cid v n d = answerAdmin c cid (gen 0x02) 0 d := if_pos (.inl h)

theorem lostAcknowledge_nothing (h : ctrlCove d c = 0) (hv : v < 2) (hn : (d.shelf.labels.all (fun l =>
    !l.2.lost.any (fun e => decide (e.seq ≤ n) && (e.resolved || e.dead)) && l.2.lostOverflow == 0)) = true) :
    lostAcknowledge c cid v n d = answerAdmin c cid ok 0 d := by
  have allowed : ¬ (ctrlCove d c ≠ 0 ∨ 2 ≤ v) := by omega
  refine (if_neg allowed).trans (if_pos ?_)
  rw [List.isEmpty_iff, List.filter_eq_nil_iff]
  intro l hl
  have none := List.all_eq_true.mp hn l hl
  simp only [Bool.and_eq_true, Bool.not_eq_true', beq_iff_eq] at none
  simp [none.1, none.2]

theorem lostAcknowledge_one {sh : Nat} {l : ShoalLabel} (h : ctrlCove d c = 0) (hd : d.shelf.labels = [(sh, l)])
    (ha : l.lost.any (fun e => decide (e.seq ≤ n) && (e.resolved || e.dead)) = true) :
    let gone := fun (e : LostEntry) => decide (e.seq ≤ n) && (e.resolved || e.dead)
    let e := writeLabels sh (setLabel sh { l with lost := l.lost.filter (fun x => !gone x) } d)
    lostAcknowledge c cid 0 n d = { e with shelf.labelWaits := e.shelf.labelWaits ++ [.ack c cid (l.lost.filter gone).length] } := by
  intro gone e
  have allowed : ¬ (ctrlCove d c ≠ 0 ∨ 2 ≤ 0) := by omega
  have touched : d.shelf.labels.filter (fun l => l.2.lost.any gone || ((0 : Nat) == 1 && l.2.lostOverflow != 0)) = [(sh, l)] := by
    rw [hd, List.filter_cons, if_pos (by rw [show l.lost.any gone = true from ha]; rfl), List.filter_nil]
  have count : ((lostEntries d).filter gone).length = (l.lost.filter gone).length := by
    have sorted := (List.mergeSort_perm (d.shelf.labels.flatMap (fun l => l.2.lost)) (fun a b => decide (a.seq ≤ b.seq))).filter gone
    rw [lostEntries, sorted.length_eq, hd]
    simp
  refine (if_neg allowed).trans ?_
  dsimp only
  rw [show d.shelf.labels.filter _ = _ from touched, show List.length _ = _ from count]
  rfl

end

end Sys2Proof.Machine

open Sys2Proof Sys2Proof.Machine

/-- Settles O34: who may run a command and the mailbox area, then Queue Thaw, Abort, event requests and Lost Range Acknowledge. -/
theorem adminCommands : Obligations.AdminCommands := by
  refine ⟨fun d c cid w f => ⟨fun h0 => ⟨admin_noCtrl cid w f h0, fun k hk => ⟨fun h => ?_, fun he hl => ⟨fun hw hc => ?_, fun h => ?_⟩⟩⟩,
      fun h => (admin_mbox cid w f).trans (mboxRun_refused h), fun hr hi => ?_, fun m r hm hr _ => ?_⟩,
    fun s c cid q n k => ?_⟩
  · refine (admin_ctrl cid w f h0 hk).trans (if_pos (h.imp_left bnot_of_false))
  · refine (admin_ctrl cid w f h0 hk).trans ((if_neg ?_).trans (if_pos ⟨hw, hc⟩))
    simp [he, hl]
  · refine (admin_ctrl cid w f h0 hk).trans ((if_neg ?_).trans (if_neg fun hb => h.elim (· hb.1) hb.2))
    simp [he, hl]
  · have taken := (admin_mbox cid w f).trans (mboxRun_takes ⟨hr, hi⟩ _)
    exact ⟨fun hw => taken.trans (if_pos hw), fun hw => taken.trans (if_neg hw)⟩
  · obtain ⟨status, dw0, len, nvme, bytes, wf⟩ := placeMbox_area hm hr
    exact ⟨status, dw0, len, nvme, bytes, wf, fun room h => mboxOut_room h r, fun h => mboxOut_whole h r⟩
  · intro d hc hk he hl
    have h : InUse s.dev c k := ⟨hc, hk, he, hl⟩
    have cove := ctrlCove_inUse h
    refine ⟨fun x hx h0 => ⟨fun hf => ⟨runs_inUse h rfl (thawResume_frozen cid hx h0 hf),
          fun hn => runs_inUse h rfl ((thawDiscard_frozen cid hx h0 hf).trans (by rw [hn]; rfl)),
          fun g hg => runs_inUse h rfl ((thawDiscard_frozen cid hx h0 hf).trans (by rw [hg]; rfl))⟩,
        fun hf => ⟨runs_inUse h rfl (thawResume_fails cid (thawFails_open hx h0 hf)), runs_inUse h rfl (thawDiscard_fails cid (thawFails_open hx h0 hf))⟩,
        fun hn => runs_inUse h rfl (abortCmd_none cid (by rw [hx]; exact hn)), fun g l hg hi => runs_inUse h rfl (abortCmd_head cid hx hg hi)⟩,
      fun hx => ⟨runs_inUse h rfl (thawResume_fails cid (thawFails_noSq hx)), runs_inUse h rfl (thawDiscard_fails cid (thawFails_noSq hx)),
        runs_inUse h rfl (abortCmd_none cid (by rw [hx]; rfl))⟩,
      fun ha => runs_inUse h rfl (eventRequest_full cid hk ha), fun ha hp => runs_inUse h rfl (eventRequest_held cid hk ha hp),
      fun e l ha hp => runs_inUse h rfl (eventRequest_delivers cid hk ha hp), fun h0 => ⟨fun v hv hn => ?_, fun sh l hd ha => ?_⟩,
      fun h0 v => runs_inUse h rfl (lostAcknowledge_foreign (by rwa [cove]))⟩
    · exact runs_inUse h rfl (lostAcknowledge_nothing (cove.trans h0) hv hn)
    · exact runs_inUse h rfl (lostAcknowledge_one (cove.trans h0) hd ha)
end

section
/-! Log pages, Identify and Get ASN Status (O35). -/

namespace Sys2Proof.Machine

/-! ## Parts of a page -/

theorem zeros_length (n : Nat) : (zeros n).length = n := List.length_replicate

theorem take_leBytes (x n : Nat) (l : List Byte) : (leBytes x n ++ l).take n = leBytes x n :=
  List.take_left' (leBytes_length n x)

theorem drop_leBytes (x n k : Nat) (l : List Byte) : (leBytes x n ++ l).drop (n + k) = l.drop k := by
  rw [← List.drop_drop, List.drop_left' (leBytes_length n x)]

theorem window_getElem? (l : List Byte) (off : Nat) {len i : Nat} (h : i < len) : (window l off len)[i]? = some ((l[off + i]?).getD 0) := by
  rw [window]
  by_cases hi : off + i < l.length
  · rw [List.getElem?_append_left (by simp; omega), List.getElem?_take_of_lt h, List.getElem?_drop, List.getElem?_eq_getElem hi, Option.getD_some]
  · rw [List.getElem?_append_right (by simp; omega), List.getElem?_replicate_of_lt (by simp; omega),
      List.getElem?_eq_none (by omega), Option.getD_none]
    rfl

/-! ## The pages whose first fields are named (07 R226, R228, R230, R238) -/

section
variable (d : Dev) (c : Nat)

/-- The page of Sanitize Status. -/
def sanitizePage : List Byte :=
  leBytes (min (d.host.san.percent * 65536 / 100) 65535) 2 ++ leBytes (match d.host.san.state with
      | 1 => 2
      | 2 => 1
      | n => n) 2 ++ leBytes d.host.san.cdw10 4 ++ leBytes 0xFFFFFFFF 4 ++ leBytes (eraseEstimate d) 4 ++ leBytes 30 4 ++ zeros 492

theorem sanitizePage_fields : (sanitizePage d).length = 512
    ∧ (d.host.san.state ≤ 3 → ((sanitizePage d).drop 2).take 2 = leBytes ([0, 2, 1, 3].getD d.host.san.state 0) 2)
    ∧ ((sanitizePage d).drop 4).take 4 = leBytes d.host.san.cdw10 4 := by
  refine ⟨by simp only [sanitizePage, List.length_append, leBytes_length, zeros_length], fun hs => ?_, ?_⟩ <;> simp only [sanitizePage, List.append_assoc]
  · rw [drop_leBytes _ 2 0, List.drop_zero, take_leBytes]
    obtain h | h | h | h : d.host.san.state = 0 ∨ d.host.san.state = 1 ∨ d.host.san.state = 2 ∨ d.host.san.state = 3 := by omega
    all_goals rw [h]; rfl
  · rw [drop_leBytes _ 2 2, drop_leBytes _ 2 0, List.drop_zero, take_leBytes]

/-- The page of Lost Range to a controller. -/
def lostPage : List Byte :=
  let seen := if ctrlCove d c = 0 then lostEntries d else (lostEntries d).filter (fun e => e.resolved && attached d c e.nsid)
  leBytes seen.length 4 ++ zeros 4 ++ leBytes (lostOverflow d) 8 ++ leBytes ((lostEntries d).foldl (fun a e => max a e.seq) 0) 8 ++ zeros 40
    ++ seen.flatMap lostBytes

theorem lostPage_overflow : ((lostPage d c).drop 8).take 8 = leBytes (lostOverflow d) 8 := by
  simp only [lostPage, List.append_assoc]
  rw [drop_leBytes _ 4 4, List.drop_left' (zeros_length 4), take_leBytes]

theorem lostPage_count (h : ctrlCove d c = 0) : (lostPage d c).take 4 = leBytes (lostEntries d).length 4 := by
  simp only [lostPage, if_pos h, List.append_assoc, take_leBytes]

/-- The page of Queue Freeze to a controller. -/
def freezePage : List Byte :=
  let mine := (d.host.sqs.filter (fun e => e.1 / 65536 == c && e.2.frozen)).mergeSort (fun a b => decide (a.2.order ≤ b.2.order))
  leBytes mine.length 4 ++ zeros 12 ++ mine.flatMap (fun e => match e.2.entry with
    | some f => freezeBytes (e.1 % 65536) e.2.held.length f
    | none => [])

theorem freezePage_count : (freezePage d c).take 4 = leBytes (d.host.sqs.filter (fun x => x.1 / 65536 == c && x.2.frozen)).length 4 := by
  simp only [freezePage, List.append_assoc, take_leBytes, List.length_mergeSort]

/-- The page of Format Progress to a controller. -/
def formatPage : List Byte :=
  let mine := d.host.nss.filter (fun n => n.2.fmt != .none && attached d c n.1)
  let start := fun (n : Ns) => d.clk.tod.s - (d.clk.tod.s + 8388608 - n.startS % 8388608) % 8388608
  leBytes mine.length 4 ++ zeros 12 ++ mine.flatMap (fun n =>
    leBytes n.1 4 ++ leBytes (formatStateNum n.2.fmt) 1 ++ leBytes n.2.percent 1 ++ zeros 2 ++ leBytes (start n.2) 6 ++ zeros 2)

theorem formatPage_count : (formatPage d c).take 4 = leBytes (d.host.nss.filter (fun n => n.2.fmt != .none && attached d c n.1)).length 4 := by
  simp only [formatPage, List.append_assoc, take_leBytes]

end

end Sys2Proof.Machine

open Sys2Proof Sys2Proof.Machine

/-- Settles O35: each log page, then Identify, Get ASN Status and the window of a page. -/
theorem logPages : Obligations.LogPages := by
  intro s c cid off len k d page hc hk he hl
  have h : InUse s.dev c k := ⟨hc, hk, he, hl⟩
  obtain ⟨size, state, cdw10⟩ := sanitizePage_fields d
  refine ⟨runs_inUse h rfl ?_, runs_inUse h rfl rfl, runs_inUse h rfl rfl, fun hn => runs_inUse h rfl ?_, fun t n r hn => runs_inUse h rfl ?_,
    ⟨sanitizePage d, runs_inUse h rfl rfl, size, state, cdw10⟩,
    ⟨lostPage d c, runs_inUse h rfl rfl, lostPage_overflow d c, fun h0 => lostPage_count d c ((ctrlCove_inUse h).trans h0)⟩,
    fun rae => ⟨freezePage d c, runs_inUse h rfl rfl, freezePage_count d c⟩, runs_inUse h rfl rfl,
    ⟨formatPage d c, runs_inUse h rfl rfl, formatPage_count d c⟩, fun cns nsid l hi => runs_inUse h rfl ?_, fun cns nsid hi => runs_inUse h rfl ?_,
    fun nsid n hn ha => runs_inUse h rfl ?_, fun nsid ha => runs_inUse h rfl ?_, fun l => ⟨window_length l off len, fun i => window_getElem? l off⟩⟩
  · show page (((ctrlOf d c).map (·.errors)).getD [] |>.flatMap errorBytes) d = _
    rw [field_inUse h]
  · simp only [h.found, hn]
    rfl
  · simp only [h.found, hn]
    rfl
  · simp only [show identifyData s.dev c cns nsid = some l from hi]
    rfl
  · simp only [show identifyData s.dev c cns nsid = none from hi]
    rfl
  · simp only [show tget s.dev.host.nss nsid = some n from hn, show attached s.dev c nsid = true from ha, if_true]
    rfl
  · simp only [show attached s.dev c nsid = false from ha, Bool.false_eq_true, if_false]
    split <;> rfl
end

section
/-! Stripe assembly, fills, changes held back, and Ebb (O39). -/

namespace Sys2Proof.Machine

section
variable {d : Dev} {tag : Nat} {c : Cmd} (hc : tget d.adm.cmds tag = some c)
include hc

theorem assemble_unready (h : allStaged d c = false) : assemble tag d = d := by
  simp only [assemble, hc]
  exact if_pos (.inr (.inr (.inr (bnot_of_false h))))

theorem assemble_ready (hk : c.kind = .write) (ha : c.absent = false) (hp : c.pages ≠ []) (h : allStaged d c = true) :
    assemble tag d =
      (let n := max (nsGrain d c.nsid) 1
      let g := curGeom d (nsShoal d c.nsid)
      let st := if g.streams ≤ 1 then 0 else min c.stream (g.streams - 2)
      placeWhole tag st n (c.toPlace.filter (fun x => coversGrain c.ranges x n))
        { d with adm.cmds := tput d.adm.cmds tag { c with assembled := true, stream := st } }) := by
  simp only [assemble, hc]
  exact if_neg (by simp [hk, ha, hp, h])

theorem fillResolve_assembled (bad : List (Nat × Nat × Nat)) (h : c.assembled = true) (ha : c.absent = false) : fillResolve tag bad d =
    fillGrains tag (max (nsGrain d c.nsid) 1) bad (c.toPlace.filter (fun x => !coversGrain c.ranges x (max (nsGrain d c.nsid) 1))) d := by
  simp only [fillResolve, hc]
  exact if_neg (by simp [h, ha])

theorem fillResolve_unassembled (bad : List (Nat × Nat × Nat)) (h : c.assembled = false) : fillResolve tag bad d = d := by
  simp only [fillResolve, hc]
  exact if_pos (.inl (bnot_of_false h))

end

/-! ## Changes held back (05 R153) -/

section
variable {d : Dev} {nsid g : Nat} {x : Deferred} (hd : d.str.deferred = [x]) (hn : x.nsid = nsid) (hg : x.grain = g)
include hd hn hg

omit hn hg in
theorem applyDeferred_held (h : heldBack d nsid g x.asn = true) : applyDeferred nsid g d = d := by
  simp [applyDeferred, hd, h]

theorem applyDeferred_free (hc : x.cmd = none) (h : heldBack d nsid g x.asn = false) :
    applyDeferred nsid g d = freeNamed x.entry (applyGrain nsid g x.entry x.asn { d with str.deferred := [] }) := by
  simp [applyDeferred, hd, h, hn, hg, hc]

end

/-! ## Ebb (04 R134, R136) -/

theorem housekeepingPaused_of_role {d : Dev} (h : d.pair.role = .standby ∨ d.pair.role = .fenced) : housekeepingPaused d = true := by
  obtain h | h := h <;> simp [housekeepingPaused, h]

theorem ebbRelocate_none {d : Dev} {sh row : Nat} {cold : Bool} {bad : List (Nat × Nat)} (h : 2 ≤ (judgeEvacuation sh d).pool.level ∨
    (judgeEvacuation sh d).host.power = 3 ∨ (ebbChoice (judgeEvacuation sh d) sh).any (fun y => y.row == row) = false) :
    ebbRelocate sh row cold bad d = judgeEvacuation sh d :=
  if_pos (h.imp_right fun h => h.imp_right bnot_of_false)

theorem ebbRelocate_row {d : Dev} {sh row : Nat} {cold : Bool} {bad : List (Nat × Nat)} {x : Stripe} :
    let e := judgeEvacuation sh d
    e.pool.level < 2 → e.host.power ≠ 3 → (ebbChoice e sh).any (fun y => y.row == row) = true → rowAt e sh row = some x →
    ebbRelocate sh row cold bad d =
      (let r := rewriteRow 2 sh row (if cold then lastStream (curGeom e sh) else 0) bad e
      let f := mirrorAdmin 38 sh 1 (modShoal sh (fun y =>
        if usesEvacuating e x = true ∧ y.evacPaused = false then { y with cursor1 := row + 1 }
        else if x.geometry ≠ (curGeom e sh).geometryId then { y with cursor3 := row + 1 } else y) r)
      resumeRepairs { f with shelf.repairs := f.shelf.repairs.filter (fun k => k != rkey sh row) }) := by
  intro e hl hp hc hx
  have goes : ¬ (2 ≤ e.pool.level ∨ e.host.power = 3 ∨ (!(ebbChoice e sh).any (fun y => y.row == row)) = true) := by
    simp only [hc, Bool.not_true, Bool.false_eq_true, or_false, not_or]
    exact ⟨by omega, hp⟩
  refine (if_neg goes).trans ?_
  dsimp only
  rw [show rowAt (judgeEvacuation sh d) sh row = some x from hx]
  simp only [Bool.not_eq_true']
  rfl

/-! ## The rewrite of a masked grain (04 R132) -/

section
variable {d : Dev} {nsid g : Nat} (bad : List (Nat × Nat × Nat))

theorem zeroRewrite_unmasked (h : d.str.overlays.all (fun x => !(x.nsid == nsid && x.grain == g)) = true) : zeroRewrite nsid g bad d = d := by
  have none : d.str.overlays.find? (fun o => o.nsid == nsid && o.grain == g) = none :=
    List.find?_eq_none.mpr fun x hx hb => not_bnot_of_true hb (List.all_eq_true.mp h x hx)
  simp only [zeroRewrite, none]

variable {bad} {o : Overlay} (ho : d.str.overlays.find? (fun x => x.nsid == nsid && x.grain == g) = some o)
  (hq : d.str.rows.any (fun e => e.2.life != .committed && e.2.placed.any (fun p =>
    p.nsid == nsid && p.grain == g && p.asn == o.asn && p.src.isNone)) = false)
include ho hq

theorem zeroRewrite_waits :
    let n := max (nsGrain d nsid) 1
    let rest := (run (g * n) n).filter (fun l => !bit o.mask (l % n))
    let e := fillFetch nsid o.asn rest d
    rest.all (fun l => fillReady e nsid l o.asn) = false → zeroRewrite nsid g bad d = e := by
  intro n rest e h
  simp only [zeroRewrite, ho, hq, Bool.false_eq_true, if_false]
  exact if_pos (bnot_of_false h)

theorem zeroRewrite_filled {bs : List Block} {f : Dev} :
    let n := max (nsGrain d nsid) 1
    let rest := (run (g * n) n).filter (fun l => !bit o.mask (l % n))
    let e := fillFetch nsid o.asn rest d
    rest.all (fun l => fillReady e nsid l o.asn) = true →
    fillBlocks bad nsid o.asn (fun a l => if bit o.mask (l % n) then some (some (zeroBlock a nsid l o.asn)) else none) (run (g * n) n) e = (some bs, f) →
    zeroRewrite nsid g bad d =
      (placeGrain (nsShoal d nsid) 0 false 0 { nsid := nsid, grain := g, slot := 0, count := n, asn := o.asn } bs f).2 := by
  intro n rest e h hf
  simp only [zeroRewrite, ho, hq, Bool.false_eq_true, if_false]
  refine (if_neg (not_bnot_of_true h)).trans ?_
  rw [show fillBlocks bad nsid o.asn _ (run (g * max (nsGrain d nsid) 1) (max (nsGrain d nsid) 1)) (fillFetch nsid o.asn
    ((run (g * max (nsGrain d nsid) 1) (max (nsGrain d nsid) 1)).filter (fun l => !bit o.mask (l % max (nsGrain d nsid) 1))) d) = _ from hf]

end

end Sys2Proof.Machine

open Sys2Proof Sys2Proof.Machine

/-- Settles O39: assembly and fills, the rewrite of a masked grain, a change held back, and Ebb. -/
theorem assemblyAndEbb : Obligations.AssemblyAndEbb := by
  intro s d
  have fills {tag : Nat} {bad : List (Nat × Nat × Nat)} {e : Dev} (h : fillResolve tag bad d = e) :
      Gives (.fillResolve { tag := tag, bad := bad }) s (resumeRepairs e) := gives_congr rfl (congrArg resumeRepairs h)
  have rewrites {nsid g : Nat} {bad : List (Nat × Nat × Nat)} {e : Dev} (h : zeroRewrite nsid g bad d = e) :
      Gives (.zeroMaskRewrite nsid { grain := g, bad := bad }) s (resumeRepairs e) := gives_congr rfl (congrArg resumeRepairs h)
  refine ⟨fun tag c hc => ⟨fun hk ha hp h => gives_congr rfl (assemble_ready hc hk ha hp h), fun h => gives_congr rfl (assemble_unready hc h),
      fun bad h ha => fills (fillResolve_assembled hc bad h ha), fun bad h => fills (fillResolve_unassembled hc bad h)⟩,
    fun nsid g o bs bad ho hq => ⟨fun h => rewrites (zeroRewrite_waits ho hq h), fun f h hf => rewrites (zeroRewrite_filled ho hq h hf)⟩,
    fun nsid g bad h => rewrites (zeroRewrite_unmasked bad h),
    fun nsid g x hd hn hg hc => ⟨fun h => gives_congr rfl (applyDeferred_free hd hn hg hc h), fun h => gives_congr rfl (applyDeferred_held hd h)⟩,
    fun sh got cold h => gives_congr rfl (houseWork_paused (housekeepingPaused_of_role h)), fun sh row bad cold hh => ?_⟩
  have ebb {e : Dev} (h : ebbRelocate sh row cold bad d = e) : Gives (.ebbRelocate sh { row := row, bad := bad } cold) s e :=
    gives_congr rfl ((houseWork_goes hh).trans h)
  exact ⟨fun h => ebb (ebbRelocate_none h), fun x hl hp hc hx => ebb (ebbRelocate_row hl hp hc hx)⟩
end

section
/-! Entropy, key rotation and the key slots of a Cove (O40). -/

namespace Sys2Proof.Machine

/-! ## Namespace keys and rotation (12 R374, R379, R380) -/

theorem drawKey_ns {d : Dev} {n : Nat} {x : Ns} (h : tget d.host.nss n = some x) (g : Nat) :
    let r : KeyRecord := { nsid := n, kind := if x.auth then 2 else 1, keyGen := g, kekEpoch := kekEpoch d }
    let v := Config.drbg d.draws % 2 ^ (8 * kindBytes r.kind)
    let k : NsKey := { rec_ := r, wrapped := wrapNs d r v, key := v }
    drawKey n g d = configWrite (keyLba n) (keyRecord k) (mirrorConfig 5 (keyRecord k) (mirrorKeyIndex n
      { kwPass (if x.auth then 30 else 54) { d with draws := d.draws + 1 } with
        keys.seeds := d.keys.seeds + 1, keys.nsKeys := tput d.keys.nsKeys n k
        host.nss := tmod d.host.nss n (fun y => { y with keyGen := g, keyAvailable := true }) })) := by
  intro r v k
  rw [drawKey, h]
  rfl

section
variable {d : Dev} {b : List Byte} {p : Bool}

theorem shelfkeyRotate_refused (h : d.keys.kek = none ∨ d.keys.rotating.isSome = true ∨ d.pair.role = .standby ∨ d.pair.role = .fenced) :
    shelfkeyRotate b p d = mboxDone { status := 3 } d := by
  unfold shelfkeyRotate
  split
  next => rfl
  next hk => exact if_pos (h.resolve_left fun hn => nomatch hn.symm.trans hk)

variable {k : Nat × Nat} (hk : d.keys.kek = some k) (hr : d.keys.rotating = none) (ho : d.pair.role = .solo ∨ d.pair.role = .active)
include hk hr ho

theorem shelfkeyRotate_allowed : shelfkeyRotate b p d = if !blobOk d b ∨ blobEpoch b ≤ k.1 then mboxDone { status := 2 } d
    else match unsealBlob b with
      | none => mboxDone { status := 7 } d
      | some s => noteFlash d { d with keys.rotating := some (blobEpoch b), keys.rotatePersist := p
                                       keys.extra := tput d.keys.extra (blobEpoch b) s
                                       keys.blob1 := if p then b else d.keys.blob1
                                       host.waits := d.host.waits ++ [{ cntlid := 0, cid := 0, kind := 8 }] } := by
  have allowed : ¬ (d.keys.rotating.isSome = true ∨ d.pair.role = .standby ∨ d.pair.role = .fenced) := by
    obtain ho | ho := ho <;> simp [hr, ho]
  rw [shelfkeyRotate, hk]
  exact (if_neg allowed).trans rfl

theorem shelfkeyRotate_bad (h : blobOk d b = false ∨ blobEpoch b ≤ k.1) : shelfkeyRotate b p d = mboxDone { status := 2 } d :=
  (shelfkeyRotate_allowed hk hr ho).trans (if_pos (h.imp_left bnot_of_false))

theorem shelfkeyRotate_good (h : blobOk d b = true) (he : k.1 < blobEpoch b) : shelfkeyRotate b p d = match unsealBlob b with
      | none => mboxDone { status := 7 } d
      | some s => noteFlash d { d with keys.rotating := some (blobEpoch b), keys.rotatePersist := p
                                       keys.extra := tput d.keys.extra (blobEpoch b) s
                                       keys.blob1 := if p then b else d.keys.blob1
                                       host.waits := d.host.waits ++ [{ cntlid := 0, cid := 0, kind := 8 }] } :=
  (shelfkeyRotate_allowed hk hr ho).trans (if_neg fun hb => hb.elim (not_bnot_of_true h) (Nat.not_le.mpr he))

end

section
variable {d : Dev}

theorem rotationDone_waits (h : d.keys.rotating = none ∨ d.keys.entropyOk = false ∨ d.keys.kek = none) : rotationDone d = d := by
  unfold rotationDone
  split
  next => rfl
  next => rfl
  next hn hv =>
    refine if_pos ?_
    obtain h | h | h := h
    · exact nomatch h.symm.trans hn
    · exact .inl (bnot_of_false h)
    · exact .inr (by rw [h]; rfl)

theorem noteFlash_keys (e f : Dev) : (noteFlash e f).keys = f.keys := by
  unfold noteFlash
  split <;> rfl

/-- A rotation with no record to rewrap. -/
theorem rotationDone_empty {n v : Nat} (hr : d.keys.rotating = some n) (hv : tget d.keys.extra n = some v) (he : d.keys.entropyOk = true)
    (hk : d.keys.kek.isSome = true) (hn : d.keys.nsKeys = []) (hs : d.keys.slots = []) :
    rotationDone d = mboxDone { status := 0 } (logEvent 0x0B 4 0 (payload 0 (kekEpoch d) n 0) (kwPass 0 (noteFlash d { d with
      keys.rotating := none, keys.extra := terase (terase d.keys.extra n) (kekEpoch d), keys.blob1 := []
      keys.blob0 := if d.keys.rotatePersist = true ∨ blobEpoch d.keys.blob1 = n then d.keys.blob1 else []
      keys.kek := some (n, v), keys.kekCheck := kekCheckOf (kekValue v d.pair.shelfId n)
      keys.nsKeys := [], keys.slots := [], host.waits := d.host.waits.filter (fun w => w.kind != 8) }))) := by
  have open_ : ¬ ((!d.keys.entropyOk) = true ∨ d.keys.kek.isNone = true) := by
    obtain ⟨k, hk⟩ := Option.isSome_iff_exists.mp hk
    simp [he, hk]
  have blob : (if d.keys.rotatePersist = true then d.keys.blob1 else if blobEpoch d.keys.blob1 = n then d.keys.blob1 else []) =
      if d.keys.rotatePersist = true ∨ blobEpoch d.keys.blob1 = n then d.keys.blob1 else [] := by
    split_ifs <;> simp_all
  have unwritten (x : Dev) (h1 : x.keys.nsKeys = []) (h2 : x.keys.slots = []) : writeRecords x = x := by
    simp [writeRecords, h1, h2]
  simp only [rotationDone, hr, Option.bind_some, hv, if_neg open_, hn, hs, blob]
  simp only [tall, List.map_nil, List.foldl_nil, List.length_nil, Nat.mul_zero, Nat.add_zero]
  rw [unwritten _ (by rw [kwPass]; exact congrArg (·.nsKeys) (noteFlash_keys _ _)) (by rw [kwPass]; exact congrArg (·.slots) (noteFlash_keys _ _))]
  rfl

end

/-! ## Key slots (12 R385 to R387) -/

theorem slotCmd_closed {d : Dev} {c i : Nat} (h : 16 ≤ i ∨ thas d.cove.tab c = false ∨ blocksOpen d = false) (f : Dev → Dev) :
    slotCmd c i f d = d := if_pos (h.imp_right fun h => h.imp bnot_of_false bnot_of_false)

theorem slotCmd_open {d : Dev} {c i : Nat} (hi : i < 16) (hc : thas d.cove.tab c = true) (hb : blocksOpen d = true) (f : Dev → Dev) :
    slotCmd c i f d = f { d with keys.stage := terase d.keys.stage (c * 16 + i) } := if_neg (by simp [hi, hc, hb])

section
variable {d : Dev} {c i : Nat} {w : List Byte}

theorem loadWrapped_noKek (h : kekOf d (wide w 48 4) = none) : loadWrapped c i w d = slotResult c i 2 d := if_pos (by rw [h]; rfl)

theorem loadWrapped_kek (h : (kekOf d (wide w 48 4)).isSome = true) : loadWrapped c i w d =
    match unwrapSlot d (wide w 48 4) (w.take 48) with
    | none => slotResult c i 1 d
    | some (k, n, m) =>
      if n ≠ i then slotResult c i 1 d
      else if 16 ≤ m then slotResult c i 3 d
      else writeSlot { cove := c, slot := i, loaded := true, modes := m, kekEpoch := wide w 48 4, key := k, wrapped := w.take 48 } (kwPass 30 d) := by
  obtain ⟨v, hv⟩ := Option.isSome_iff_exists.mp h
  refine (if_neg ?_).trans rfl
  rw [hv]
  exact nofun

theorem applySlot_noReads {r : SlotRecord} (h : slotReads d r.cove r.slot = []) :
    let y := { d with keys.slots := tput d.keys.slots (r.cove * 16 + r.slot) r }
    let x := configWrite (slotLba r.cove) (slotBlockBytes y r.cove) (mirrorConfig 6 (slotRecord r) y)
    applySlot r d = { x with keys.lastResult := tput x.keys.lastResult r.cove (r.slot, 0) } := by
  intro y x
  simp only [applySlot, h]
  rfl

theorem oldKeyZeroize_live (h : d.keys.oldKeys.any (fun o => o.cove == c && o.slot == i &&
    o.tags.any (fun t => (tget d.adm.cmds t).any (fun x => !x.completed))) = true) : oldKeyZeroize c i d = d := if_pos h

theorem oldKeyZeroize_ended (h : d.keys.oldKeys.any (fun o => o.cove == c && o.slot == i &&
    o.tags.any (fun t => (tget d.adm.cmds t).any (fun x => !x.completed))) = false) :
    let x := { d with keys.oldKeys := d.keys.oldKeys.filter (fun o => !(o.cove == c && o.slot == i))
                      keys.slotPending := terase d.keys.slotPending (c * 16 + i) }
    oldKeyZeroize c i d = match tget d.keys.slotPending (c * 16 + i) with
      | some r => applySlot r x
      | none => x := if_neg (ne_true_of_eq_false h)

end

end Sys2Proof.Machine

open Sys2Proof Sys2Proof.Machine

/-- Settles O40: entropy, drawing and rotation, then the key slots. -/
theorem keysAndRotation : Obligations.KeysAndRotation := by
  refine ⟨fun s b p => ?_, fun s c i => ?_⟩
  · intro d e
    refine ⟨fun h => ⟨gives_congr rfl (if_pos h), gives_congr rfl (if_pos h)⟩,
      fun h => ⟨gives_congr rfl (if_neg (ne_true_of_eq_false h)), gives_congr rfl (if_neg (ne_true_of_eq_false h))⟩,
      fun n h => if_neg (ne_true_of_eq_false h), fun n g x hx => drawKey_ns hx g, fun hready hidle => ?_, fun h => runs_onMbox rfl (rotationDone_waits h),
      fun n v hr hv he hk hn hs => runs_onMbox rfl (rotationDone_empty hr hv he hk hn hs)⟩
    have rotate {f : Dev} (h : shelfkeyRotate b p (mboxBegun s.dev) = f) : Runs (.mboxShelfkeyRotate b p) s f := runs_mbox ⟨hready, hidle⟩ rfl h
    refine ⟨fun h => rotate (shelfkeyRotate_refused h), fun k hk hr ho => ⟨fun h => rotate (shelfkeyRotate_bad hk hr ho h),
      fun h he => ⟨fun hu => rotate ?_, fun v hu => rotate ?_⟩⟩⟩
    · rw [shelfkeyRotate_good (d := mboxBegun s.dev) hk hr ho h he, hu]
      rfl
    · rw [shelfkeyRotate_good (d := mboxBegun s.dev) hk hr ho h he, hu]
      rfl
  · intro d e fails loaded
    refine ⟨fun h => ⟨fun m k => gives_congr rfl (slotCmd_closed h _), fun w => gives_congr rfl (slotCmd_closed h _), gives_congr rfl (slotCmd_closed h _)⟩,
      fun hi hc hb => ?_, fun r => ⟨fun h => if_pos h, fun h => if_neg (ne_true_of_eq_false h), fun h => applySlot_noReads h⟩,
      fun h => gives_congr rfl (oldKeyZeroize_live h), fun h => ⟨fun hn => gives_congr rfl ?_, fun r hr => gives_congr rfl ?_⟩⟩
    · have slot {f : Dev → Dev} {j : Instr} {x : Dev} (hj : Gives j s (slotCmd c i f s.dev)) (h : f e = x) : Gives j s x :=
        gives_congr hj ((slotCmd_open hi hc hb f).trans h)
      refine ⟨fun m k => ⟨fun hm => slot rfl (if_neg (Nat.not_le.mpr hm)), fun hm => slot rfl (if_pos hm)⟩, slot rfl rfl, fun w => ?_⟩
      refine ⟨fun hn => slot rfl (loadWrapped_noKek hn), fun hn => ?_⟩
      have wrapped := loadWrapped_kek (d := e) (c := c) (i := i) (w := w) hn
      refine ⟨fun hu => slot rfl (wrapped.trans ?_), fun k j m hu => ⟨fun hj => slot rfl (wrapped.trans ?_), fun hj hm => slot rfl (wrapped.trans ?_),
        fun hj hm => slot rfl (wrapped.trans ?_)⟩⟩
      · rw [show unwrapSlot e (wide w 48 4) (w.take 48) = none from hu]
        rfl
      · rw [show unwrapSlot e (wide w 48 4) (w.take 48) = some (k, j, m) from hu]
        exact if_pos hj
      · rw [show unwrapSlot e (wide w 48 4) (w.take 48) = some (k, j, m) from hu]
        exact (if_neg (not_not.mpr hj)).trans (if_pos hm)
      · rw [show unwrapSlot e (wide w 48 4) (w.take 48) = some (k, j, m) from hu]
        exact (if_neg (not_not.mpr hj)).trans (if_neg (Nat.not_le.mpr hm))
    · rw [oldKeyZeroize_ended h, show tget s.dev.keys.slotPending (c * 16 + i) = none from hn]
    · rw [oldKeyZeroize_ended h, show tget s.dev.keys.slotPending (c * 16 + i) = some r from hr]
end

section
/-! Firmware download, commit and activation (O41), and the mailbox commands on fuses, addresses and power (O42). -/

namespace Sys2Proof.Machine

/-! ## Commits (07 R242 to R245) -/

section
variable {s : State} {c cid slot : Nat} {k : Ctrl} (h : InUse s.dev c k) (h0 : k.cove = 0) {i : Instr}
  {check : Dev → Memory → Option Status} {f : Dev → Memory → Dev × Memory} (hi : exec i s = fwCommit slot c cid check f s)
include h h0 hi

/-- A commit that is refused leaves the device and the flash, and answers. -/
theorem runs_fwCommit_refused {st : Status} (hc : (if 2 ≤ slot then some badSlot else check s.dev s.mem) = some st) :
    Runs i s (answerAdmin c cid st 0 s.dev) := by
  refine runs_onMboxMem hi ?_
  simp only [admin_cove0 h h0, hc]
  exact congrArg (Prod.mk _) (if_neg fun hb => nomatch hb.2)

/-- A commit that passes its check has its effect on both. -/
theorem places_fwCommit (hs : slot < 2) (hc : check s.dev s.mem = none) : Places i s (f s.dev s.mem) := by
  have passed : (if 2 ≤ slot then some badSlot else check s.dev s.mem) = none := (if_neg (Nat.not_le.mpr hs)).trans hc
  have runs : cove0Runs c s.dev = true := by simp [cove0Runs, h.host, h.found, h.enabled, h.live, h0]
  refine makes_onMboxMem hi ?_
  simp only [admin_cove0 h h0, passed]
  exact congrArg (Prod.mk _) (if_pos ⟨runs, trivial⟩)

theorem runs_fwCommit_badSlot (hs : 2 ≤ slot) : Runs i s (answerAdmin c cid (cmdSpec 0x06) 0 s.dev) :=
  runs_fwCommit_refused h h0 hi (if_pos hs)

theorem runs_fwCommit_checked {st : Status} (hs : slot < 2) (hc : check s.dev s.mem = some st) : Runs i s (answerAdmin c cid st 0 s.dev) :=
  runs_fwCommit_refused h h0 hi ((if_neg (Nat.not_le.mpr hs)).trans hc)

end

theorem downloadBad_bad {d : Dev} (m : Memory) (h : d.host.fwBuffer = [] ∨ fwOk d (fwDownload d) = false) :
    downloadBad d m = some (cmdSpec 0x07) := if_pos (h.imp List.isEmpty_iff.mpr bnot_of_false)

theorem downloadBad_good {d : Dev} (m : Memory) (h : d.host.fwBuffer ≠ []) (hg : fwOk d (fwDownload d) = true) :
    downloadBad d m = none := if_neg fun hb => hb.elim (fun he => h (List.isEmpty_iff.mp he)) (not_bnot_of_true hg)

section
variable {d : Dev} {m : Memory} {slot : Nat} {p : Bool}

theorem activateBad_busy (h : d.pair.role = .standby ∨ d.host.fwActivating.isSome = true) : activateBad slot p d m = some (gen 0x0C) := if_pos h

variable (hn : d.host.fwActivating = none)
  (hg : (if d.host.fwBuffer.isEmpty then fwOk d (fwImage d m slot) else fwOk d (fwDownload d)) = true)
include hn hg

theorem activateBad_good (hr : d.pair.role ≠ .standby) : activateBad slot p d m =
    if d.pair.role = .fenced ∨ (d.pair.role = .active ∧ (!p) = true) then some needsReset else none := by
  refine (if_neg fun h => h.elim hr ?_).trans (if_neg (not_bnot_of_true hg))
  rw [hn]
  exact nofun

theorem activateBad_solo (hr : d.pair.role = .solo) : activateBad slot p d m = none := by
  rw [activateBad_good hn hg (by rw [hr]; decide), if_neg (by rw [hr]; simp)]

theorem activateBad_active (hr : d.pair.role = .active) : activateBad slot p d m = if p then none else some needsReset := by
  rw [activateBad_good hn hg (by rw [hr]; decide), hr]
  cases p <;> rfl

end

theorem good_downloaded {d : Dev} {m : Memory} {slot : Nat} (hb : d.host.fwBuffer ≠ []) (hg : fwOk d (fwDownload d) = true) :
    (if d.host.fwBuffer.isEmpty then fwOk d (fwImage d m slot) else fwOk d (fwDownload d)) = true := by
  rw [if_neg fun he => hb (List.isEmpty_iff.mp he), hg]

theorem good_stored {d : Dev} {m : Memory} {slot : Nat} (hb : d.host.fwBuffer = []) (hg : fwOk d (fwImage d m slot) = true) :
    (if d.host.fwBuffer.isEmpty then fwOk d (fwImage d m slot) else fwOk d (fwDownload d)) = true := by
  rw [if_pos (List.isEmpty_iff.mpr hb), hg]

theorem activateSolo_downloaded {d : Dev} (hb : d.host.fwBuffer ≠ []) (slot c cid : Nat) (m : Memory) : activateSolo slot c cid d m =
    (setPp true { selectSlot slot { d with host.fwBuffer := [] } with
      host.fwActivating := some slot, host.admissionHeld := true
      host.waits := d.host.waits ++ [{ cntlid := c, cid := cid, kind := 5, subject := slot }] }, writeFwSlot d slot (downloadBytes d) m) := by
  rw [activateSolo, if_neg fun he => hb (List.isEmpty_iff.mp he)]
  rfl

theorem activateSolo_stored {d : Dev} (hb : d.host.fwBuffer = []) (slot c cid : Nat) (m : Memory) : activateSolo slot c cid d m =
    (setPp true { selectSlot slot d with
      host.fwActivating := some slot, host.admissionHeld := true
      host.waits := d.host.waits ++ [{ cntlid := c, cid := cid, kind := 5, subject := slot }] }, m) := by
  rw [activateSolo, if_pos (List.isEmpty_iff.mpr hb)]
  rfl

/-- The page of Firmware Slot Information (07 R224). -/
def fwSlotPage (d : Dev) (m : Memory) : List Byte :=
  leBytes (d.boot.fwSlot + 1 + 16 * (d.boot.nextSlot + 1)) 1 ++ zeros 7
    ++ (if fwHeaderOk (fwImage d m 0) then leBytes (fwVersionOf (fwImage d m 0)) 8 else zeros 8)
    ++ (if fwHeaderOk (fwImage d m 1) then leBytes (fwVersionOf (fwImage d m 1)) 8 else zeros 8) ++ zeros 488

theorem fwSlotPage_fields (d : Dev) (m : Memory) : (fwSlotPage d m).length = 512
    ∧ (fwSlotPage d m).take 1 = leBytes (d.boot.fwSlot + 1 + 16 * (d.boot.nextSlot + 1)) 1
    ∧ (fwHeaderOk (fwImage d m 0) = true → ((fwSlotPage d m).drop 8).take 8 = leBytes (fwVersionOf (fwImage d m 0)) 8) := by
  refine ⟨?_, ?_, fun h => ?_⟩
  · simp only [fwSlotPage, List.length_append, apply_ite List.length, leBytes_length, zeros_length, ite_self]
  · simp only [fwSlotPage, List.append_assoc, take_leBytes]
  · simp only [fwSlotPage, if_pos h, List.append_assoc]
    rw [drop_leBytes _ 1 7, List.drop_left' (zeros_length 7), take_leBytes]

section
variable (s : State) (c cid slot : Nat)
/-! The commands' effects, written out. -/

theorem exec_firmwareCommitReplace : exec (.firmwareCommitReplace c cid slot) s = fwCommit slot c cid downloadBad
    (fun d m => (answerAdmin c cid ok 0 { d with host.fwBuffer := [] }, writeFwSlot d slot (downloadBytes d) m)) s := rfl
theorem exec_firmwareCommitReplaceActivate : exec (.firmwareCommitReplaceActivate c cid slot) s = fwCommit slot c cid downloadBad
    (fun d m => (answerAdmin c cid ok 0 (selectSlot slot { d with host.fwBuffer := [] }), writeFwSlot d slot (downloadBytes d) m)) s := rfl
theorem exec_firmwareCommitActivate : exec (.firmwareCommitActivate c cid slot) s = fwCommit slot c cid
    (fun d m => if fwOk d (fwImage d m slot) then none else some badImage) (fun d m => (answerAdmin c cid ok 0 (selectSlot slot d), m)) s := rfl
theorem exec_firmwareCommitActivateNow (p : Bool) : exec (.firmwareCommitActivateNow c cid slot p) s = fwCommit slot c cid (activateBad slot p)
    (fun d m => if d.pair.role = .active then (activatePair slot c cid d, m) else activateSolo slot c cid d m) s := rfl
theorem exec_getLogFirmwareSlot (o n : Nat) : exec (.getLogFirmwareSlot c cid o n) s =
    onMboxMem s (fun d m => (admin c cid .hosts (logPage c cid o n (fwSlotPage d m)) d, m)) := rfl

end

/-- The end of an activation that did not drain (07 R245). -/
def fwTimeout (d : Dev) : Dev :=
  match fwWait d 0 with
  | some w => endActivation w needsReset d
  | none => d

theorem exec_fwActivationResume (s : State) : exec .fwActivationResume s = onMboxMem s (fun d m => (fwResume d m, m)) := rfl

theorem places_congr {i : Instr} {s : State} {x y : Dev × Memory} (h : Places i s x) (e : x = y) : Places i s y := e ▸ h

theorem exec_fwActivationTimeout (s : State) : exec .fwActivationTimeout s = onMbox s fwTimeout := rfl

end Sys2Proof.Machine

open Sys2Proof Sys2Proof.Machine

/-- Settles O41: the download, the four commits, and the end of an activation. -/
theorem firmwareCommits : Obligations.FirmwareCommits := by
  intro s c cid slot k d failed good next stored emptied hc hk he hl h0
  have h : InUse s.dev c k := ⟨hc, hk, he, hl⟩
  have replace := exec_firmwareCommitReplace s c cid slot
  have replaceActivate := exec_firmwareCommitReplaceActivate s c cid slot
  have activate := exec_firmwareCommitActivate s c cid slot
  have activateNow := exec_firmwareCommitActivateNow s c cid slot
  refine ⟨fun o b => ⟨fun hb => ?_, fun hb => ?_⟩,
    fun hs => ?_, fun hs => ?_, fun w hw => ?_, fun w hw => runs_onMboxMem (exec_fwActivationResume s) ?_, fun hw => runs_onMboxMem (exec_fwActivationResume s) ?_,
    fun hw => runs_onMbox (exec_fwActivationTimeout s) ?_, fun o n => ?_⟩
  · exact runs_cove0 h h0 rfl (if_neg (Nat.not_lt.mpr hb))
  · exact runs_cove0 h h0 rfl (if_pos hb)
  · exact ⟨runs_fwCommit_badSlot h h0 replace hs, runs_fwCommit_badSlot h h0 replaceActivate hs, runs_fwCommit_badSlot h h0 activate hs,
      fun p => runs_fwCommit_badSlot h h0 (activateNow p) hs⟩
  · refine ⟨fun hb => ?_, fun hb hg => ?_, fun hg => ?_, fun hg => ?_,
      fun p hb => ?_, fun hr hn hb hg => ?_, fun hr hn p => ⟨fun hb hg => ?_, fun hb hg => ?_⟩⟩
    · exact ⟨runs_fwCommit_checked h h0 replace hs (downloadBad_bad s.mem hb), runs_fwCommit_checked h h0 replaceActivate hs (downloadBad_bad s.mem hb)⟩
    · have replaced := places_fwCommit h h0 replace hs (downloadBad_good s.mem hb hg)
      have activated := places_fwCommit h h0 replaceActivate hs (downloadBad_good s.mem hb hg)
      exact ⟨replaced, activated⟩
    · have activated := places_fwCommit h h0 activate hs (if_pos hg)
      exact activated
    · exact runs_fwCommit_checked h h0 activate hs (if_neg (ne_true_of_eq_false hg))
    · exact runs_fwCommit_checked h h0 (activateNow p) hs (activateBad_busy hb)
    · have bad := activateBad_active (p := false) hn (good_downloaded (m := s.mem) (slot := slot) hb hg) hr
      have allowed := activateBad_active (p := true) hn (good_downloaded (m := s.mem) (slot := slot) hb hg) hr
      have placed := places_fwCommit h h0 (activateNow true) hs allowed
      have pair := places_congr placed (if_pos hr)
      exact ⟨runs_fwCommit_checked h h0 (activateNow false) hs bad, pair⟩
    · have placed := places_fwCommit h h0 (activateNow p) hs (activateBad_solo hn (good_downloaded hb hg) hr)
      have solo := places_congr placed ((if_neg (by rw [hr]; decide)).trans (activateSolo_downloaded hb slot c cid s.mem))
      exact solo
    · have placed := places_fwCommit h h0 (activateNow p) hs (activateBad_solo hn (good_stored hb hg) hr)
      have solo := places_congr placed ((if_neg (by rw [hr]; decide)).trans (activateSolo_stored hb slot c cid s.mem))
      exact solo
  · have waits : (fwWait s.dev 0).isSome = true := by rw [show fwWait s.dev 0 = some w from hw]; rfl
    refine ⟨fun hl => gives_congr rfl (if_pos ⟨waits, hl⟩), fun hl => gives_congr rfl (if_neg fun hb => hl hb.2),
      runs_onMbox (exec_fwActivationTimeout s) ?_⟩
    rw [fwTimeout, show fwWait s.dev 0 = some w from hw]
    rfl
  · rw [fwResume, show fwWait s.dev 1 = some w from hw]
  · rw [fwResume, show fwWait s.dev 1 = none from hw]
  · rw [fwTimeout, show fwWait s.dev 0 = none from hw]
  · obtain ⟨size, first, version⟩ := fwSlotPage_fields d s.mem
    refine ⟨fwSlotPage d s.mem, runs_onMboxMem (exec_getLogFirmwareSlot s c cid o n) ?_, size, first, version⟩
    rw [admin_inUse h (by decide)]
    rfl
end

section
namespace Sys2Proof.Machine

/-! ## Fuses, addresses and power (15 R448, 18 R505) -/

theorem thas_of_tget_none {α : Type} {t : Table α} {k : Nat} (h : tget t k = none) : thas t k = false := by
  refine List.any_eq_false.mpr fun e he hk => ?_
  have ne := List.lookup_eq_none_iff.mp h e he
  rw [eq_of_beq hk] at ne
  simp at ne

/-- Moving addresses to other links leaves the flash. -/
theorem moveAddr_flash (i l : Nat) (d : Dev) : flashHeld (moveAddr i l d) = flashHeld d := by
  unfold moveAddr
  split
  · rfl
  · split
    · rfl
    · simp only [flashHeld, logEvent_net, logEvent_tline, logEvent_keys]
      rfl

theorem moveAll_flash (d : Dev) : flashHeld (moveAll d) = flashHeld d := by
  unfold moveAll
  refine foldl_keeps flashHeld (fun a e => ?_) d.net.addrs d
  split
  · rfl
  · split
    · exact moveAddr_flash _ _ a
    · rfl

/-- What does not touch the flash is not noted there. -/
theorem noteFlash_same {e x : Dev} (h : flashHeld x = flashHeld e) : noteFlash e x = x := if_pos h.symm

theorem netAddrBytes_length (a : NetAddr) : (netAddrBytes a).length = 48 := by
  simp only [netAddrBytes, List.length_append, leBytes_length, zeros_length, List.length_take, List.length_replicate]
  omega

theorem flatMap_length {α β : Type} {n : Nat} {f : α → List β} (h : ∀ x, (f x).length = n) (l : List α) : (l.flatMap f).length = l.length * n := by
  simp [List.length_flatMap, h]

/-- The record of an address slot in the list (18 R505). -/
def addrRecord (d : Dev) (i : Nat) : List Byte := match tget d.net.addrs i with
  | some a => netAddrBytes a.rec_
  | none => zeros 48

theorem addrRecord_length (d : Dev) (i : Nat) : (addrRecord d i).length = 48 := by
  unfold addrRecord
  split
  · exact netAddrBytes_length _
  · exact zeros_length 48

/-- The list begins with the record of slot 0. -/
theorem addrList_first {d : Dev} {x : AddrState} (h : tget d.net.addrs 0 = some x) : ((List.range 32).flatMap (addrRecord d)).take 4 =
    leBytes x.rec_.index 1 ++ leBytes x.rec_.family 1 ++ leBytes x.rec_.prefixLen 1 ++ leBytes x.rec_.home 1 := by
  have first : addrRecord d 0 = netAddrBytes x.rec_ := by rw [addrRecord, h]
  rw [List.range_succ_eq_map, List.flatMap_cons, first, netAddrBytes]
  simp only [List.append_assoc]
  simp only [← List.append_assoc (leBytes x.rec_.index 1)]
  simp only [← List.append_assoc (leBytes x.rec_.index 1 ++ leBytes x.rec_.family 1)]
  simp only [← List.append_assoc (leBytes x.rec_.index 1 ++ leBytes x.rec_.family 1 ++ leBytes x.rec_.prefixLen 1)]
  exact List.take_left' (by simp [leBytes_length])

/-- The end of a mailbox command: it is idle, the sequence number is taken, and its result stands to be placed. -/
theorem mboxDone_busy {x : Dev} (h : x.mhi.mboxBusy = true) (r : MboxResult) :
    (mboxDone r x).mhi.mboxBusy = false ∧ (mboxDone r x).mhi.mboxDoneSeq = x.mhi.mboxSeq ∧ (mboxDone r x).mhi.mboxResult = some r
    ∧ Out.mailbox r.status r.dw0 r.bytes ∈ (mboxDone r x).out := by
  obtain ⟨a, p, o, hg⟩ := raiseGlobal_shape 0
    { x with mhi.mboxBusy := false, mhi.mboxPending := false, mhi.mboxDoneSeq := x.mhi.mboxSeq, mhi.mboxResult := some r }
  rw [mboxDone, if_pos h, hg]
  exact ⟨rfl, rfl, rfl, List.mem_append_right _ (List.mem_singleton.mpr rfl)⟩

section
variable (s : State)

theorem exec_mboxNetAddrList : exec .mboxNetAddrList s = onMbox s (mboxRun (fun d =>
    mboxDone { status := 0, bytes := (List.range 32).flatMap (addrRecord d) } d)) := rfl

end

end Sys2Proof.Machine

open Sys2Proof Sys2Proof.Machine

/-- Settles O42: the commands while the mailbox takes none, then each of them, and how a command ends. -/
theorem managerCommands : Obligations.ManagerCommands := by
  intro s d e refused
  have refuses {i : Instr} {f : Dev → Dev} (hi : exec i s = onMbox s (mboxRun f))
      (h : d.mhi.mboxReady = false ∨ (d.mhi.mboxBusy = true ∧ d.mhi.mboxPending = false)) : Runs i s refused := runs_onMbox hi (mboxRun_refused h)
  refine ⟨fun h => ⟨fun n => ⟨refuses rfl h, refuses rfl h⟩, refuses (exec_mboxNetAddrList s) h⟩, fun hr hi => ?_, fun r x h => mboxDone_busy h r,
    fun r x h => if_neg (ne_true_of_eq_false h)⟩
  have h : MboxTakes s.dev := ⟨hr, hi⟩
  refine ⟨fun g hg => runs_mbox h rfl (if_pos hg), runs_mbox h rfl (if_neg (not_not.mpr rfl)), fun k g hk hg => ⟨fun hn => ?_, fun hn => ?_⟩,
    fun k g hg => ⟨fun b => runs_mbox h rfl (if_pos (hg.imp_right Or.inl)), runs_mbox h rfl (if_pos hg)⟩, fun k hk => ⟨fun hn => ?_, fun hn => ?_⟩,
    fun a => ⟨fun ha p => runs_mbox h rfl (if_pos (bnot_of_false ha)), fun ha => ⟨?_, ?_⟩⟩,
    fun i p => ⟨fun hl => runs_mbox h rfl (if_pos hl), fun hl hn => ?_, fun hl hn => ?_⟩,
    ⟨(List.range 32).flatMap (addrRecord d), runs_mbox h (exec_mboxNetAddrList s) rfl, flatMap_length (addrRecord_length d) _, ?_⟩,
    fun n => ⟨fun hn => runs_mbox h rfl (if_pos hn), fun hn => runs_mbox h rfl (if_neg (Nat.not_lt.mpr hn))⟩⟩
  · have valid : ¬ (4 ≤ k ∨ 0xA5 ≠ 0xA5 ∨ g.length ≠ 48) := by omega
    exact runs_mbox h rfl ((if_neg valid).trans (if_neg (ne_true_of_eq_false (thas_of_tget_none hn))))
  · have valid : ¬ (4 ≤ k ∨ 0xA5 ≠ 0xA5 ∨ g.length ≠ 48) := by omega
    exact runs_mbox h rfl ((if_neg valid).trans (if_pos hn))
  · have valid : ¬ (4 ≤ k ∨ 0xA5 ≠ 0xA5) := by omega
    exact runs_mbox h rfl ((if_neg valid).trans (if_pos (bnot_of_false hn)))
  · have valid : ¬ (4 ≤ k ∨ 0xA5 ≠ 0xA5) := by omega
    exact ⟨fun hg => runs_mbox h rfl ((if_neg valid).trans ((if_neg (not_bnot_of_true hn)).trans (if_pos hg))),
      fun hg => runs_mbox h rfl ((if_neg valid).trans ((if_neg (not_bnot_of_true hn)).trans (if_neg hg)))⟩
  · exact runs_mbox h rfl ((if_neg (not_bnot_of_true ha)).trans (congrArg (mboxOk 0) (noteFlash_same (moveAll_flash _))))
  · exact runs_mbox h rfl (if_neg (not_bnot_of_true ha))
  · exact runs_mbox h rfl ((if_neg (Nat.not_le.mpr hl)).trans (if_pos (bnot_of_false hn)))
  · refine runs_mbox h rfl ((if_neg (Nat.not_le.mpr hl)).trans ((if_neg (not_bnot_of_true hn)).trans ?_))
    cases p <;> rfl
  · rintro a x hx rfl
    exact addrList_first hx
end

section
/-! A CNP (O43): the queue pairs' table is written even where no path is cut. -/

namespace Sys2Proof.Machine

/-- A device whose table of queue pairs is out of its order: queue pair 0, with one path, stands behind queue pair 1. -/
def unsortedQps : State := { dev := { net := { qps := [(1, {}), (0, { paths := [{}] })] } } }

/-- The queue pair that no CNP cuts is listed a second time, in front. -/
theorem unsortedQps_cnp : ∀ t, exec (.recvCnp 0) unsortedQps = .next t → t.dev.net.qps.length = 3 := by
  rintro t h
  cases h
  decide

end Sys2Proof.Machine

open Sys2Proof Sys2Proof.Machine

/-- Refutes O43: the clause on a CNP within max (srtt, 20 µs) of the last cut says that the device keeps every queue pair as it is. The
model writes the queue pair back all the same, and in a table that is not in order, which no hypothesis excludes, that lists it twice. -/
theorem not_connects : ¬ Obligations.Connects := by
  intro h
  obtain ⟨-, -, -, -, cnp, -⟩ := h unsortedQps { qpn := 0, port := 0 }
  obtain ⟨-, one⟩ := cnp 0
  obtain ⟨kept, -⟩ := one { paths := [{}] } {} rfl rfl
  have listed := unsortedQps_cnp _ (kept (by decide))
  rw [occur_net] at listed
  exact absurd listed (by decide)
end

section
/-! Standard mode as responder (O44). -/

namespace Sys2Proof.Machine

theorem receive_bad {d : Dev} {x : FrameInfo} (h : frameBad d x = true) (hc : x.fcsOk = true) (f : Dev → Dev) : receive x f d =
    dropFrame x (occur 0 1 x.len (netAttr x.port x.cove) (occur 0 0 1 (netAttr x.port x.cove) d)) :=
  (if_pos h).trans (congrArg (dropFrame x) (if_pos hc))

/-! ## A request (08 R253, R254) -/

theorem standardRequest_noQp {n : Nat} {e : Dev} (h : qpOf e n = none) (psn k : Nat) (x : FrameInfo) (f : Qp → Dev → Dev) :
    standardRequest n psn k x f e = countDrop x e := by rw [standardRequest, h]

theorem notePoint_unmarked {n : Nat} {e : Dev} {q : Qp} {x : FrameInfo} (h : qpOf e n = some q) (hx : x.ce = false) : notePoint n x e = e := by
  simp only [notePoint, h]
  exact if_neg fun hb => ne_true_of_eq_false hx hb.1

section
variable {n psn k : Nat} {x : FrameInfo} {f : Qp → Dev → Dev} {e : Dev} {q : Qp} (h : qpOf e n = some q)
include h

theorem standardRequest_unusable (hq : q.error = true ∨ q.connected = false) : standardRequest n psn k x f e = countDrop x e := by
  rw [standardRequest, h]
  exact if_pos (hq.imp_right bnot_of_false)

variable (he : q.error = false) (hc : q.connected = true)
include he hc

omit h in
theorem usable : ¬ (q.error = true ∨ (!q.connected) = true) := by simp [he, hc]

theorem standardRequest_spray (hs : q.spray = true) : standardRequest n psn k x f e = errorQp n 1 true e := by
  rw [standardRequest, h]
  exact (if_neg (usable he hc)).trans (if_pos hs)

/-- A request without a congestion mark: by its PSN it is taken, a gap, or a duplicate. -/
theorem standardRequest_psn (hs : q.spray = false) (hx : x.ce = false) : standardRequest n psn k x f e =
    if psn = q.rxPsn then f q e
    else if psnFrom q.rxPsn psn then
      if q.nakSent then e
      else occur 1 2 1 (netAttr q.port q.cove) (standardAck n q.rxPsn 0x60
        { e with net.qps := tmod e.net.qps n (fun w => { w with nakSent := true }) })
    else occur 1 4 k (netAttr q.port q.cove) (ackNow n e) := by
  rw [standardRequest, h]
  refine (if_neg (usable he hc)).trans ((if_neg (ne_true_of_eq_false hs)).trans ?_)
  rw [notePoint_unmarked h hx]

end

/-! ## What is taken (08 R254, R276) -/

section
variable {n k op : Nat} {cap : Capsule} {q : Qp} {e : Dev}

theorem takeSend_invalid (h : 1 < cap.data.length ∨ pastDepth e n = true) : takeSend n k op cap q e = errorQp n 1 true e := if_pos h

theorem takeSend_valid (hl : cap.data.length ≤ 1) (hp : pastDepth e n = false) : takeSend n k op cap q e =
    if !cap.data.isEmpty ∧ 524288 ≤ buffersTaken e then occur 1 3 1 (netAttr q.port q.cove) (standardAck n q.rxPsn 0x21 e)
    else deliverCapsule n op cap (countIn n k e) :=
  if_neg fun h => h.elim (Nat.not_lt.mpr hl) (ne_true_of_eq_false hp)

theorem takeSend_noBuffer (hl : cap.data.length = 1) (hp : pastDepth e n = false) (hb : 524288 ≤ buffersTaken e) :
    takeSend n k op cap q e = occur 1 3 1 (netAttr q.port q.cove) (standardAck n q.rxPsn 0x21 e) := by
  refine (takeSend_valid hl.le hp).trans (if_pos ⟨bnot_of_false ?_, hb⟩)
  rw [List.isEmpty_eq_false_iff, ← List.length_pos_iff]
  omega

theorem takeSend_buffered (hl : cap.data.length ≤ 1) (hp : pastDepth e n = false) (hb : cap.data = [] ∨ buffersTaken e < 524288) :
    takeSend n k op cap q e = deliverCapsule n op cap (countIn n k e) := by
  refine (takeSend_valid hl hp).trans (if_neg fun h => ?_)
  obtain hb | hb := hb
  · exact not_bnot_of_true (List.isEmpty_iff.mpr hb) h.1
  · exact Nat.not_lt.mpr h.2 hb

end

/-! ## Acknowledgement (08 R254) -/

section
variable {d : Dev} {n : Nat} {q : Qp} (h : qpOf d n = some q)
include h

theorem qpOf_modQps (f : Qp → Qp) : qpOf { d with net.qps := tmod d.net.qps n f } n = some (f q) := by
  rw [qpOf, tget_tmod, show tget d.net.qps n = some q from h, Option.map_some]

theorem countIn_one : countIn n 1 d =
    (let e := { d with net.qps := tmod d.net.qps n (fun v => { v with rxPsn := (v.rxPsn + 1) % 2 ^ 24, unacked := v.unacked + 1, nakSent := false }) }
    if decide (16 ≤ q.unacked + 1) = true then ackNow n e else e) := by
  simp only [countIn, qpOf_modQps h]
  rfl

theorem ackNow_qp : ackNow n d = standardAck n ((q.rxPsn + 2 ^ 24 - 1) % 2 ^ 24) 0 (setQp n { q with unacked := 0 } d) := by
  rw [ackNow, h]

theorem ackTimer_owes : (qpOf d n).any (fun q => !q.spray && !q.error && decide (0 < q.unacked)) =
    (!q.spray && !q.error && decide (0 < q.unacked)) := by
  rw [h, Option.any_some]

/-- An opcode that is refused (08 R253, R257). -/
theorem recvRefused_qp (op : Nat) : recvRefused n op d =
    if q.error ∨ !q.connected ∨ (!q.spray ∧ 0x20 ≤ op ∧ op < 0xC0) then { d with net.drops := d.net.drops + 1 } else errorQp n 1 true d := by
  rw [recvRefused, h]

end

end Sys2Proof.Machine

open Sys2Proof Sys2Proof.Machine

/-- Settles O44: a request by its PSN, what a Send and a Write do, the acknowledgements, and a refused opcode. -/
theorem standardResponder : Obligations.StandardResponder := by
  intro s n psn x d gone
  refine ⟨fun op cap => rfl, fun key dt => rfl, fun h hc f => receive_bad h hc f, fun k f e h => standardRequest_noQp h psn k x f,
    fun k f e q h => ⟨standardRequest_unusable h, fun he hc => ⟨standardRequest_spray h he hc, fun hs hx => ?_⟩⟩,
    fun k op cap q e => ⟨takeSend_invalid, takeSend_noBuffer, takeSend_buffered⟩, fun key dt q e => ⟨fun h => if_neg (ne_true_of_eq_false h), fun h => if_pos h⟩,
    fun q h => ⟨qpOf_modQps h _, fun hu => ?_, fun hu => ?_⟩, fun q h => ⟨fun hs he hu => gives_congr rfl (if_pos ?_), fun hb => gives_congr rfl (if_neg ?_), ackNow_qp h⟩,
    fun op => ⟨fun h => gives_congr rfl ?_, fun q h => ⟨fun hb => gives_congr rfl ((recvRefused_qp h op).trans (if_pos ?_)),
      fun he hc hb => gives_congr rfl ((recvRefused_qp h op).trans (if_neg ?_))⟩⟩⟩
  · have psn := standardRequest_psn (psn := psn) (k := k) (f := f) h he hc hs hx
    exact ⟨fun hp => psn.trans (if_pos hp), fun hp hf => psn.trans ((if_neg hp).trans (if_neg (ne_true_of_eq_false hf))),
      fun hp hf => ⟨fun hn => psn.trans ((if_neg hp).trans ((if_pos hf).trans (if_pos hn))),
        fun hn => psn.trans ((if_neg hp).trans ((if_pos hf).trans (if_neg (ne_true_of_eq_false hn))))⟩⟩
  · exact (countIn_one h).trans (if_neg (by rw [decide_eq_true_eq]; omega))
  · exact (countIn_one h).trans (if_pos (by rw [decide_eq_true_eq]; omega))
  · rw [ackTimer_owes h]
    simp [hs, he, hu]
  · rw [ackTimer_owes h]
    obtain hb | hb := hb <;> simp [hb]
  · rw [recvRefused, show qpOf s.dev n = none from h]
  · exact hb.imp_right fun hb => hb.imp bnot_of_false fun hb => ⟨bnot_of_false hb.1, hb.2⟩
  · simp only [he, hc, Bool.not_true, Bool.false_eq_true, false_or]
    obtain hb | hb | hb := hb
    · simp [hb]
    · omega
    · omega
end

section
/-! Spray as sender (O47). -/

namespace Sys2Proof.Machine

section
variable {d : Dev} {n : Nat} {b : SackBlock}

theorem recvSprayAck_noQp (h : qpOf d n = none) : recvSprayAck n b d = { d with net.drops := d.net.drops + 1 } := by rw [recvSprayAck, h]

theorem sprayTimeout_noQp (h : qpOf d n = none) (p : Nat) : sprayTimeout n p d = d := by rw [sprayTimeout, h]

theorem sprayRnrRetry_noQp (h : qpOf d n = none) (p : Nat) : sprayRnrRetry n p d = d := by
  rw [sprayRnrRetry, h]
  rfl

/-- The effect of an acknowledgement on the packets that it shows received, on its path, and on those it shows lost (08 R266, R268, R271). -/
def sackTaken (n : Nat) (b : SackBlock) (q : Qp) (d : Dev) : Dev :=
  let got := q.sent.filter (fun p => sackHas b p.psn)
  let rest := q.sent.filter (fun p => !sackHas b p.psn)
  let now := elapsed d
  let e := changePaths n (fun i p =>
    let p1 := if (b.path :: got.map (·.path)).contains i then { p with up := true, timeouts := 0 } else p
    if i ≠ b.path then p1
    else
      let p2 := if b.retx then p1 else rttSample now ((now + 2 ^ 32 - b.echoTs % 2 ^ 32) % 2 ^ 32) (tOffNs q) (rMax d q) p1
      if b.ce then markCut now p2 else p2) (setQp n { q with sent := rest } d)
  (rest.filter (fun p => p.left && got.any (fun g => g.path == p.path && decide (p.order < g.order)))).foldl (fun a p => lostPkt n p.psn a) e

/-- An RNR's trigger, while it is not acknowledged. -/
def sackHeld (n : Nat) (b : SackBlock) (f : Dev) : Option SentPkt := (qpOf f n).bind (fun w => w.sent.find? (fun p => p.psn == b.trigger))

variable {q : Qp} (h : qpOf d n = some q)
include h

theorem recvSprayAck_unusable (hq : q.error = true ∨ q.connected = false) :
    recvSprayAck n b d = { d with net.drops := d.net.drops + 1 } := by
  rw [recvSprayAck, h]
  exact if_pos (hq.imp_right bnot_of_false)

section
variable (he : q.error = false) (hc : q.connected = true)
include he hc

theorem recvSprayAck_standard (hs : q.spray = false) : recvSprayAck n b d = errorQp n 1 true d := by
  rw [recvSprayAck, h]
  exact (if_neg (usable he hc)).trans (if_pos (bnot_of_false hs))

variable (hs : q.spray = true)
include hs

theorem recvSprayAck_syndrome : recvSprayAck n b d = match b.syndrome with
    | 2 => errorQp n 1 false d
    | 3 => errorQp n 0 false d
    | 4 => errorQp n 2 false d
    | _ => if 4 < b.syndrome then d
      else
        let f := sackTaken n b q d
        pumpQp 4096 n (finishMsgs n (if b.syndrome = 1 then
          match sackHeld n b f with
          | some p => if 6 ≤ p.rnr then errorQp n 3 false f else modPkt n b.trigger (fun w => { w with rnr := w.rnr + 1, rnrWait := true }) f
          | none => f
        else f)) := by
  rw [recvSprayAck, h]
  exact (if_neg (usable he hc)).trans ((if_neg (not_bnot_of_true hs)).trans rfl)

theorem recvSprayAck_reserved (hb : 4 < b.syndrome) : recvSprayAck n b d = d := by
  rw [recvSprayAck_syndrome h he hc hs]
  split
  · omega
  · omega
  · omega
  · exact if_pos hb

theorem recvSprayAck_taken (hb : b.syndrome ≤ 1) : recvSprayAck n b d =
    (let f := sackTaken n b q d
    pumpQp 4096 n (finishMsgs n (if b.syndrome = 1 then
      match sackHeld n b f with
      | some p => if 6 ≤ p.rnr then errorQp n 3 false f else modPkt n b.trigger (fun w => { w with rnr := w.rnr + 1, rnrWait := true }) f
      | none => f
    else f))) := by
  rw [recvSprayAck_syndrome h he hc hs]
  split
  · omega
  · omega
  · omega
  · exact if_neg (by omega)

end

/-! ## Losses, timeouts and retries (08 R266, R268) -/

section
variable {p : SentPkt} (hp : q.sent.find? (fun y => y.psn == p.psn) = some p)
include hp

theorem lostPkt_sent : lostPkt n p.psn d = if 7 ≤ p.losses then errorQp n 3 false d
    else
      let p1 := { p with losses := p.losses + 1, left := false, rnrWait := false, path := nextUp q p.path }
      resend n [p1] (modPkt n p.psn (fun _ => p1) d) := by
  simp only [lostPkt, h, hp]

theorem sprayTimeout_sent (hs : q.spray = true) : sprayTimeout n p.psn d = lostPkt n p.psn (pathDown n p.path p (changePaths n
    (fun i w => if i = p.path then { timeoutCut (elapsed d) w with timeouts := w.timeouts + 1 } else w)
    (occur 1 1 1 (netAttr q.port q.cove) d))) := by
  simp only [sprayTimeout, h, hp]
  exact if_neg (not_bnot_of_true hs)

end

theorem pathDown_path {p : SentPkt} {w : SprayPath} (hw : q.paths[p.path]? = some w) : pathDown n p.path p d =
    if w.up ∧ 3 ≤ w.timeouts then queuePacket n p.path true true p
      (setQp n { q with paths := modNth q.paths p.path (fun v => { v with up := false, k := v.k + 1, rate := 10000 }) } d)
    else d := by
  have path : q.paths.getD p.path {} = w := by rw [List.getD_eq_getElem?_getD, hw, Option.getD_some]
  simp only [pathDown, h, path]
  rfl

theorem sprayRnrRetry_waits {p : SentPkt} (hp : q.sent.find? (fun y => y.psn == p.psn && y.rnrWait) = some p) :
    sprayRnrRetry n p.psn d = resend n [p] (modPkt n p.psn (fun y => { y with rnrWait := false, left := false }) d) := by
  simp only [sprayRnrRetry, h, Option.bind_some, hp]

end

end Sys2Proof.Machine

open Sys2Proof Sys2Proof.Machine

/-- Settles O47: an acknowledgement by its syndrome, then losses, timeouts, a path that goes down, and the RNR retry. -/
theorem spraySends : Obligations.SpraySends := by
  intro s n b d gone
  have acks {e : Dev} (h : recvSprayAck n b s.dev = e) : Gives (.recvSprayAck n b) s e := gives_congr rfl h
  refine ⟨fun h => ⟨acks (recvSprayAck_noQp h), fun p => ⟨gives_congr rfl (sprayTimeout_noQp h p), gives_congr rfl (sprayRnrRetry_noQp h p)⟩⟩,
    fun q h => ⟨fun hq => acks (recvSprayAck_unusable h hq), fun he hc hs => acks (recvSprayAck_standard h he hc hs), fun he hc hs => ?_,
      fun p w hw => ⟨fun hu ht => (pathDown_path h hw).trans (if_pos ⟨hu, ht⟩), fun hd => (pathDown_path h hw).trans (if_neg fun hb => ?_)⟩,
      fun p hp => gives_congr rfl (sprayRnrRetry_waits h hp)⟩⟩
  · have syndrome := recvSprayAck_syndrome (b := b) h he hc hs
    refine ⟨fun hb => acks (syndrome.trans (by simp only [hb])), fun hb => acks (syndrome.trans (by simp only [hb])), fun hb => acks (syndrome.trans (by simp only [hb])),
      fun hb => acks (recvSprayAck_reserved h he hc hs hb), fun hb => ?_, fun p hp => ⟨fun hl => ?_, fun hl => (lostPkt_sent h hp).trans (if_pos hl),
        gives_congr rfl (sprayTimeout_sent h hp hs)⟩⟩
    · intro got rest now e lost f held
      have taken := recvSprayAck_taken (b := b) h he hc hs hb
      have here : sackHeld n b (sackTaken n b q s.dev) = held := rfl
      refine ⟨fun hn => acks (taken.trans ?_), fun p h1 hp => ⟨fun hr => acks (taken.trans ?_), fun hr => acks (taken.trans ?_)⟩⟩
      · obtain h0 | hn := hn
        · exact congrArg (fun x => pumpQp 4096 n (finishMsgs n x)) (if_neg (by omega))
        · refine congrArg (fun x => pumpQp 4096 n (finishMsgs n x)) ?_
          rw [here, hn]
          exact ite_self _
      · refine congrArg (fun x => pumpQp 4096 n (finishMsgs n x)) ((if_pos h1).trans ?_)
        rw [here, hp]
        exact if_pos hr
      · refine congrArg (fun x => pumpQp 4096 n (finishMsgs n x)) ((if_pos h1).trans ?_)
        rw [here, hp]
        exact if_neg (Nat.not_le.mpr hr)
    · exact (lostPkt_sent h hp).trans (if_neg (Nat.not_le.mpr hl))
  · obtain hd | hd := hd
    · exact ne_true_of_eq_false hd hb.1
    · exact Nat.not_le.mpr hd hb.2
end

section
/-! Namespaces: creation, attachment, deletion and the key's durable record (O49). -/

namespace Sys2Proof.Machine

section
variable {d : Dev} {c cid : Nat} {f : Dev → Dev}

theorem managing_ana {st : Status} (h : anaStatus d = some st) : managing c cid f d = answerAdmin c cid st 0 d := by rw [managing, h]

theorem managing_sanitizing (h : anaStatus d = none) (hs : d.host.san.state = 1) : managing c cid f d = answerAdmin c cid (gen 0x1D) 0 d := by
  rw [managing, h]
  exact if_pos hs

theorem managing_runs (h : anaStatus d = none) (hs : d.host.san.state ≠ 1) : managing c cid f d = f d := by
  rw [managing, h]
  exact if_neg hs

/-! ## Creation (07 R201) -/

section
variable {x : NsCreateArgs}

theorem nsCreate_invalid (h : x.nsze = 0 ∨ 2 < x.grain ∨ shoalOf d x.shoal = none ∨ 1 < x.flags ∨ x.reserved = true) :
    nsCreate c cid x d = answerAdmin c cid (gen 0x02) 0 d :=
  if_pos (h.imp_right fun h => h.imp_right fun h => h.imp_left fun h => by rw [h]; rfl)

variable (hz : x.nsze ≠ 0) (hg : x.grain ≤ 2) (hs : (shoalOf d x.shoal).isSome = true) (hf : x.flags ≤ 1) (hr : x.reserved = false)
include hz hg hs hf hr

theorem nsCreate_valid : nsCreate c cid x d =
    if usableBlocks d x.shoal < reservedBlocks d x.shoal + x.nsze then answerAdmin c cid (cmdSpec 0x15) 0 d
    else match placePages d (mapPagesFor x.nsze x.grain) with
    | none => answerAdmin c cid (cmdSpec 0x15) 0 d
    | some base => match tfree d.host.nss 1 4096 with
      | none => answerAdmin c cid (cmdSpec 0x16) 0 d
      | some nsid => firstKey nsid (waitFor c cid 0 nsid 0 (mirrorNamespace nsid (writeMark nsid (firstAsn d nsid) { d with
          host.nss := tput d.host.nss nsid { nsze := x.nsze, grain := x.grain, shoal := x.shoal, auth := x.flags == 1
                                             pageBase := base, nextAsn := firstAsn d nsid, creating := true, keyAvailable := false }
          prism.changes := d.prism.changes ++ [.nsmap nsid] }))) := by
  refine (if_neg ?_).trans rfl
  obtain ⟨st, hst⟩ := Option.isSome_iff_exists.mp hs
  simp [hz, hg, hf, hr, hst]

theorem nsCreate_noRoom (h : usableBlocks d x.shoal < reservedBlocks d x.shoal + x.nsze ∨ placePages d (mapPagesFor x.nsze x.grain) = none) :
    nsCreate c cid x d = answerAdmin c cid (cmdSpec 0x15) 0 d := by
  rw [nsCreate_valid hz hg hs hf hr]
  by_cases hu : usableBlocks d x.shoal < reservedBlocks d x.shoal + x.nsze
  · exact if_pos hu
  · rw [if_neg hu, h.resolve_left hu]

theorem nsCreate_placed {base : Nat} (hu : reservedBlocks d x.shoal + x.nsze ≤ usableBlocks d x.shoal)
    (hp : placePages d (mapPagesFor x.nsze x.grain) = some base) : nsCreate c cid x d = match tfree d.host.nss 1 4096 with
      | none => answerAdmin c cid (cmdSpec 0x16) 0 d
      | some nsid => firstKey nsid (waitFor c cid 0 nsid 0 (mirrorNamespace nsid (writeMark nsid (firstAsn d nsid) { d with
          host.nss := tput d.host.nss nsid { nsze := x.nsze, grain := x.grain, shoal := x.shoal, auth := x.flags == 1
                                             pageBase := base, nextAsn := firstAsn d nsid, creating := true, keyAvailable := false }
          prism.changes := d.prism.changes ++ [.nsmap nsid] }))) := by
  rw [nsCreate_valid hz hg hs hf hr, if_neg (Nat.not_lt.mpr hu), hp]

end

/-! ## Attachment (07 R199, 11 R347) -/

section
variable {n v : Nat} {l : List Nat} {x : Ns}

theorem nsAttach_noNs (h : tget d.host.nss n = none) : nsAttach c cid n l d = answerAdmin c cid (gen 0x0B) 0 d := by rw [nsAttach, h]

theorem nsDetach_noNs (h : tget d.host.nss n = none) : nsDetach c cid n l d = answerAdmin c cid (gen 0x0B) 0 d := by rw [nsDetach, h]

theorem nsDetach_noList (h : tget d.host.nss n = some x) (hl : covesReached d l = none) :
    nsDetach c cid n l d = answerAdmin c cid (cmdSpec 0x1C) 0 d := by
  rw [nsDetach, h]
  dsimp only
  rw [hl]

theorem nsDetach_one (h : tget d.host.nss n = some x) (hl : covesReached d l = some [v]) : nsDetach c cid n l d = if v ∈ x.coves then
      answerAdmin c cid ok 0 (setAttached n (x.coves.filter (fun y => y != v)) [v] d)
    else answerAdmin c cid (cmdSpec 0x1A) 0 d := by
  rw [nsDetach, h]
  dsimp only
  rw [hl]
  by_cases hv : v ∈ x.coves
  · simp only [List.all_cons, List.contains_iff_mem.mpr hv, List.all_nil, Bool.and_true, Bool.not_true, Bool.false_eq_true, if_false, if_pos hv]
    refine congrArg (fun l => answerAdmin c cid ok 0 (setAttached n l [v] d)) (List.filter_congr fun y _ => ?_)
    simp only [List.contains_cons, List.contains_nil, Bool.or_false]
    rfl
  · simp [hv]

variable (h : tget d.host.nss n = some x) (hc : x.creating = false) (hf : x.fmt ≠ .deleting)
include h hc hf

omit h in
theorem attachable : ¬ (x.creating = true ∨ x.fmt = .deleting) := fun hb => hb.elim (ne_true_of_eq_false hc) hf

theorem nsAttach_noList (hl : covesReached d l = none) : nsAttach c cid n l d = answerAdmin c cid (cmdSpec 0x1C) 0 d := by
  rw [nsAttach, h]
  dsimp only
  rw [if_neg (attachable hc hf), hl]

variable (hl : covesReached d l = some [v])
include hl

theorem nsAttach_one : nsAttach c cid n l d = if v ∈ x.coves then answerAdmin c cid (cmdSpec 0x18) 0 d
    else if (coveCfg d v).nsQuota ≤ (coveNamespaces d v).length then answerAdmin c cid (cmdSpec 0x27) 0 d
    else answerAdmin c cid ok 0 (setAttached n (x.coves ++ [v]) [v] d) := by
  rw [nsAttach, h]
  dsimp only
  rw [if_neg (attachable hc hf), hl]
  simp [succeed]

end

/-! ## Deletion and the durable key (07 R201, 12 R380) -/

section
variable {n : Nat} {x : Ns} (h : tget d.host.nss n = some x)
include h

theorem nsDelete_one (hn : n ≠ 0xFFFFFFFF) (hc : x.creating = false) : nsDelete c cid n d =
    if (formatWait d n).isSome then answerAdmin c cid (gen 0x84) 0 d else beginFormats 1 c cid [n] d := by
  have named : namedNs d n (fun n => (tget d.host.nss n).any (fun x => !x.creating)) = [n] := by
    rw [namedNs, if_neg hn]
    exact if_pos (by rw [h]; exact bnot_of_false hc)
  simp only [nsDelete, named]
  simp [inFormat]

theorem keyDurable_other (hc : x.creating = false) : keyDurable n d = d := by
  refine if_neg ?_
  rw [h, Option.any_some, hc]
  exact nofun

theorem keyDurable_creating (hc : x.creating = true) (hk : thas d.keys.nsKeys n = true) : keyDurable n d =
    (let mine := fun (w : AdminWait) => w.kind == 0 && w.subject == n
    let w0 := recordsWritten (fun _ c => writesLba (fun l => l == keyLba n) c) d
    (d.host.waits.filter mine).foldl (fun a w => answerAdmin w.cntlid w.cid ok n a) (mirrorKeyIndex n { w0 with
      keys.nsKeys := tmod d.keys.nsKeys n (fun q => { q with durable := true })
      host.nss := tmod d.host.nss n (fun y => { y with creating := false })
      host.waits := d.host.waits.filter (fun w => !mine w) })) := by
  refine if_pos ?_
  rw [h, Option.any_some, hc, hk]
  rfl

end

end

end Sys2Proof.Machine

open Sys2Proof Sys2Proof.Machine

/-- Settles O49: the refusals of a path, then creation, attachment, deletion, and the key that becomes durable. -/
theorem namespacesManaged : Obligations.NamespacesManaged := by
  intro s c cid k d no_ hc hk he hl h0
  have h : InUse s.dev c k := ⟨hc, hk, he, hl⟩
  refine ⟨fun x st ha => runs_cove0 h h0 rfl (managing_ana ha), fun ha hs n l => ⟨runs_cove0 h h0 rfl (managing_sanitizing ha hs),
    runs_cove0 h h0 rfl (managing_sanitizing ha hs)⟩, fun ha hs => ?_, fun n x hx => ⟨fun hcr hkey => ?_, fun hcr => runs_onMbox rfl (keyDurable_other hx hcr)⟩⟩
  · have runs {i : Instr} {f : Dev → Dev} {e : Dev} (hi : exec i s = onMbox s (admin c cid .cove0 (managing c cid f))) (hf : f d = e) :
        Runs i s e := runs_cove0 h h0 hi ((managing_runs ha hs).trans hf)
    refine ⟨fun x => ⟨fun hx => runs rfl (nsCreate_invalid hx), fun hz hg hsh hf hr => ⟨fun hn => runs rfl (nsCreate_noRoom hz hg hsh hf hr hn),
        fun hu base hb => ⟨fun hn => runs rfl ((nsCreate_placed hz hg hsh hf hr hu hb).trans ?_),
          fun nsid hn => runs rfl ((nsCreate_placed hz hg hsh hf hr hu hb).trans ?_)⟩⟩⟩,
      fun n l => ⟨fun hn => ⟨runs rfl (nsAttach_noNs hn), runs rfl (nsDetach_noNs hn)⟩, fun x hx hcr hf =>
        ⟨fun hr => ⟨runs rfl (nsAttach_noList hx hcr hf hr), runs rfl (nsDetach_noList hx hr)⟩, fun v hr => ?_⟩⟩,
      fun n x hn hx hcr => ⟨fun hw => runs rfl ((nsDelete_one hx hn hcr).trans (if_neg ?_)), fun hw => runs rfl ((nsDelete_one hx hn hcr).trans (if_pos hw))⟩⟩
    · rw [hn]
    · rw [hn]
      rfl
    · have attach := nsAttach_one (c := c) (cid := cid) hx hcr hf hr
      have detach := nsDetach_one (c := c) (cid := cid) hx hr
      exact ⟨fun hv => ⟨runs rfl (attach.trans (if_pos hv)), runs rfl (detach.trans (if_pos hv))⟩,
        fun hv => ⟨runs rfl (detach.trans (if_neg hv)), fun hq => runs rfl (attach.trans ((if_neg hv).trans (if_pos hq))),
          fun hq => runs rfl (attach.trans ((if_neg hv).trans (if_neg (Nat.not_le.mpr hq))))⟩⟩
    · rw [show formatWait s.dev n = none from hw]
      exact nofun
  · intro mine w0 e
    have durable := keyDurable_creating hx hcr hkey
    have completes {l : List AdminWait} (hw : s.dev.host.waits.filter mine = l) : keyDurable n s.dev =
        l.foldl (fun a w => answerAdmin w.cntlid w.cid ok n a) e := durable.trans (congrArg (List.foldl _ e) hw)
    exact ⟨fun w hw => runs_onMbox rfl (completes hw), fun hw => runs_onMbox rfl (completes hw)⟩
end

section
/-! Format NVM and Sanitize (O50). -/

namespace Sys2Proof.Machine

/-! ## Format NVM (07 R234) -/

section
variable {d : Dev} {c cid n f p m e : Nat}

theorem formatNvm_badFormat (h : f ≠ 0 ∨ p ≠ 0 ∨ m ≠ 0) : formatNvm c cid n f p m e d = answerAdmin c cid (cmdSpec 0x0A) 0 d := if_pos h

/-- LBAF, PI and MSET of 0 pass the first check of R234. -/
theorem zeroFields : ¬ (0 ≠ 0 ∨ 0 ≠ 0 ∨ 0 ≠ 0) := by decide

theorem formatNvm_badSes (h : 2 < e) : formatNvm c cid n 0 0 0 e d = answerAdmin c cid (gen 0x02) 0 d := by
  rw [formatNvm]
  exact (if_neg zeroFields).trans (if_pos h)

/-- Format NVM with its fields in order, over the namespaces that it names. -/
theorem formatNvm_fields (h : e ≤ 2) {ns : List Nat} (hns : namedNs d n (attached d c) = ns) : formatNvm c cid n 0 0 0 e d =
    if ns.isEmpty ∧ n ≠ 0xFFFFFFFF then answerAdmin c cid (gen 0x0B) 0 d
    else if ns.any (inFormat d) then answerAdmin c cid (gen 0x84) 0 d else beginFormats 2 c cid ns d := by
  rw [formatNvm, hns]
  exact (if_neg zeroFields).trans (if_neg (Nat.not_lt.mpr h))

theorem formatNvm_all (h : e ≤ 2) (hf : ((d.host.nss.map (·.1)).filter (attached d c)).any (inFormat d) = false) :
    formatNvm c cid 0xFFFFFFFF 0 0 0 e d = beginFormats 2 c cid ((d.host.nss.map (·.1)).filter (attached d c)) d :=
  (formatNvm_fields h (if_pos rfl)).trans ((if_neg fun hb => hb.2 rfl).trans (if_neg (ne_true_of_eq_false hf)))

theorem formatNvm_detached (h : e ≤ 2) (hn : n ≠ 0xFFFFFFFF) (ha : attached d c n = false) :
    formatNvm c cid n 0 0 0 e d = answerAdmin c cid (gen 0x0B) 0 d :=
  (formatNvm_fields h ((if_neg hn).trans (if_neg (ne_true_of_eq_false ha)))).trans (if_pos ⟨rfl, hn⟩)

theorem formatNvm_one (h : e ≤ 2) (hn : n ≠ 0xFFFFFFFF) (ha : attached d c n = true) : formatNvm c cid n 0 0 0 e d =
    if (formatWait d n).isSome then answerAdmin c cid (gen 0x84) 0 d else beginFormats 2 c cid [n] d := by
  rw [formatNvm_fields h ((if_neg hn).trans (if_pos ha)), if_neg fun hb => Bool.noConfusion hb.1]
  simp [inFormat]

end

/-! ## A format that waits (07 R234 steps 1 to 5) -/

section
variable {d : Dev} {n : Nat} {w : AdminWait}

theorem runFormat_none (h : formatWait d n = none) : runFormat n d = d := by rw [runFormat, h]

variable (hw : formatWait d n = some w)
include hw

theorem runFormat_waits (h : n ∉ d.host.formatDrain ∨ nsBusy d n = true ∨ d.keys.entropyOk = false) : runFormat n d = d := by
  rw [runFormat, hw]
  refine if_pos ?_
  rcases h with h | h | h
  · exact Or.inl (bnot_of_false (Bool.eq_false_iff.mpr fun hc => h (List.contains_iff_mem.mp hc)))
  · exact Or.inr (Or.inl h)
  · exact Or.inr (Or.inr (Or.inl (bnot_of_false h)))

variable (hin : n ∈ d.host.formatDrain) (hb : nsBusy d n = false) (hk : d.keys.entropyOk = true)
  (hroom : ((tget d.host.nss n).map unmapCount).getD 0 ≤ logFree d)
include hin hb hk hroom

omit hw in
theorem formatGoes : ¬ ((!d.host.formatDrain.contains n) = true ∨ nsBusy d n = true ∨ (!d.keys.entropyOk) = true ∨
    (!decide (((tget d.host.nss n).map unmapCount).getD 0 ≤ logFree d)) = true) := by simp [hin, hb, hk, hroom]

theorem runFormat_noMark (hm : markStands d n = false) : runFormat n d = askMark n d := by
  rw [runFormat, hw]
  exact (if_neg (formatGoes hin hb hk hroom)).trans (if_pos (bnot_of_false hm))

theorem runFormat_last (hm : markStands d n = true) (hl : d.host.waits = [w]) (h2 : w.kind = 2)
    (he : (eraseFormat n (setFormat n .erasing 0 0
      { d with host.formatDrain := d.host.formatDrain.filter (fun x => x != n), host.waits := [] })).host.waits = []) :
    runFormat n d = answerAdmin w.cntlid w.cid ok 0 (eraseFormat n (setFormat n .erasing 0 0
      { d with host.formatDrain := d.host.formatDrain.filter (fun x => x != n), host.waits := [] })) := by
  rw [runFormat, hw]
  refine (if_neg (formatGoes hin hb hk hroom)).trans ((if_neg (not_bnot_of_true hm)).trans ?_)
  have taken : d.host.waits.erase w = [] := by rw [hl, List.erase_cons_head]
  have kind : ¬ w.kind = 1 := by omega
  dsimp only
  rw [taken, if_neg kind, he, List.find?_nil]

end

/-! ## The walk over the old map pages (07 R234 step 6) -/

section
variable {d : Dev} {n : Nat} {x : Ns} (hx : tget d.host.nss n = some x)
include hx

theorem walkPage_paused (h : x.fmt ≠ .reclaiming ∨ 2 ≤ d.pool.level ∨ d.host.power = 3 ∨ housekeepingPaused d = true) : walkPage n d = d := by
  rw [walkPage, hx]
  exact if_pos h

theorem walkPage_goes (hf : x.fmt = .reclaiming) (hl : d.pool.level < 2) (hp : d.host.power ≠ 3) (hh : housekeepingPaused d = false) :
    walkPage n d =
      (let here := fun (z : Nat × MapEntry) => z.1 / 512 == x.cursor || z.1 == oldPageKey x.cursor
      let e := (x.oldMap.filter here).foldl (fun a z => dropOld x z a)
        { d with host.nss := tmod d.host.nss n (fun y => { y with oldMap := y.oldMap.filter (fun z => !here z) }) }
      if nsPages x ≤ x.cursor + 1 then setFormat n .complete 100 (x.cursor + 1) e
      else setFormat n .reclaiming ((x.cursor + 1) * 100 / nsPages x) (x.cursor + 1) e) := by
  rw [walkPage, hx]
  refine if_neg fun hb => ?_
  rcases hb with hb | hb | hb | hb
  · exact hb hf
  · omega
  · exact hp hb
  · exact ne_true_of_eq_false hh hb

theorem unmapAll_unmapped : (∀ y ∈ (unmapAll n d).str.map, y.1 / 2 ^ 40 ≠ n) ∧ n ∉ (unmapAll n d).str.unknownNs ∧
    (∀ y ∈ (unmapAll n d).str.overlays, y.nsid ≠ n) ∧
    (∀ p ∈ (unmapAll n d).str.dir, p.1 < x.pageBase ∨ x.pageBase + nsPages x ≤ p.1) := by
  rw [unmapAll, hx]
  refine ⟨fun y hy => ?_, fun h => ?_, fun y hy => ?_, fun p hp => ?_⟩
  · simpa using (List.mem_filter.mp hy).2
  · simpa using (List.mem_filter.mp h).2
  · simpa using (List.mem_filter.mp hy).2
  · have := (List.mem_filter.mp hp).2
    simp only [Bool.not_and, Bool.or_eq_true, Bool.not_eq_true', decide_eq_false_iff_not] at this
    omega

end

/-! ## Sanitize (07 R236, R237) -/

section
variable {d : Dev}

theorem runSan_notReady (h : sanReady d = false) : runSan d =
    if d.host.sanDrain = true ∧ liveCmds d = 0 then d.host.nss.foldl (fun a n => askMark n.1 a) d else d := if_pos (bnot_of_false h)

theorem runSan_noDrain (h : d.host.sanDrain = false) : runSan d = d :=
  (runSan_notReady (by rw [sanReady, h]; rfl)).trans (if_neg fun hb => ne_true_of_eq_false h hb.1)

theorem runSan_ready (h : sanReady d = true) (ha : d.host.san.sanact ≠ 2) :
    runSan d = sanErase (setSan { d.host.san with step := 3 } { d with host.sanDrain := false }) :=
  (if_neg (not_bnot_of_true h)).trans (if_neg ha)

@[simp] theorem dropLost_str (keep : LostEntry → Bool) (d : Dev) : (dropLost keep d).str = d.str :=
  foldl_keeps (f := fun (a : Dev) (l : Nat × ShoalLabel) => setLabel l.1 { l.2 with lost := l.2.lost.filter keep } a) Dev.str (fun _ _ => rfl) _ d

theorem sanErase_unmapped (d : Dev) : (sanErase d).str.map = [] ∧ (sanErase d).str.dir = [] ∧ (sanErase d).str.shallows = [] ∧
    (sanErase d).str.overlays = [] ∧ (sanErase d).str.unknownNs = [] := by
  rw [sanErase, dropLost_str]
  exact ⟨rfl, rfl, rfl, rfl, rfl⟩

section
variable {m b : Nat} {x : MemberCmd} {g : Bool}
  (hm : d.shelf.cmds.find? (fun e => e.2.bay == b && (e.2.op == .sanitize || e.2.op == .eraseFormat)) = some (m, x))
include hm

theorem sanMember_other (h : d.host.san.state ≠ 1 ∨ d.host.san.step ≠ 4) : sanMember b g d = d := by
  rw [sanMember, show d.shelf.cmds.find? (fun e => e.2.bay == b && isErase e.2.op) = _ from hm]
  exact if_pos h

variable (h1 : d.host.san.state = 1) (h4 : d.host.san.step = 4)
include h1 h4

theorem sanMember_step : sanMember b g d = if (!g) = true then setSan { d.host.san with state := 3 } (memberEnd m d) else
    (let e := setSan { d.host.san with
        membersDone := setBit d.host.san.membersDone b
        percent := min 99 ((bitList (setBit d.host.san.membersDone b).toNat 32).length * 100 / max (memberBaysUp d).length 1) } (memberEnd m d)
     match rosterOfBay e b with
     | some (sh, _) => writeLabel sh b e
     | none => e) := by
  rw [sanMember, show d.shelf.cmds.find? (fun e => e.2.bay == b && isErase e.2.op) = _ from hm]
  exact (if_neg fun hb => hb.elim (· h1) (· h4)).trans rfl

end

/-! ## The end of a Sanitize (07 R236 step 5) -/

theorem sanComplete_other (hd : d.host.sanDrain = false) (h : d.host.san.state ≠ 1) : sanComplete d = d := by
  rw [sanComplete, runSan_noDrain hd]
  exact if_neg fun hb => h hb.1

theorem sanComplete_done (hd : d.host.sanDrain = false) (h : d.host.san.state = 1)
    (hs : d.host.san.step = 3 ∧ d.host.san.sanact = 4 ∨
      d.host.san.step = 4 ∧ ∀ e ∈ d.shelf.cmds, e.2.op ≠ .sanitize ∧ e.2.op ≠ .eraseFormat) :
    sanComplete d = postAll { type := 6, info := 1, log := 0x81 } (setSan { d.host.san with state := 2, step := 5, percent := 100 } d) := by
  rw [sanComplete, runSan_noDrain hd]
  refine if_pos ⟨h, ?_⟩
  rcases hs with ⟨h3, h4⟩ | ⟨h4, hn⟩
  · rw [h3, h4, hd]
    rfl
  · have none_erases : d.shelf.cmds.any (fun e => isErase e.2.op) = false := List.any_eq_false.mpr fun e he => by
      simp [isErase, hn e he]
    rw [h4, none_erases]
    exact Bool.or_true _

end

end Sys2Proof.Machine

open Sys2Proof Sys2Proof.Machine

/-- Settles O50: a format from its fields to its walk, and a Sanitize from its start to its notice. -/
theorem namespacesFormatted : Obligations.NamespacesFormatted := by
  refine ⟨fun s c cid n k => ?_, fun s c cid v k => ?_⟩
  · intro d hc hk he hl ha hs
    have runs {i : Instr} {f : Dev → Dev} {e : Dev} (hi : exec i s = onMbox s (admin c cid .all (managing c cid f))) (hf : f d = e) :
        Runs i s e := runs_inUse ⟨hc, hk, he, hl⟩ hi ((managing_runs ha hs).trans hf)
    refine ⟨fun f p m e h => runs rfl (formatNvm_badFormat h), fun e h => runs rfl (formatNvm_badSes h), fun e h hn =>
        ⟨fun hat => runs rfl (formatNvm_detached h hn hat), fun hat hw => runs rfl ((formatNvm_one h hn hat).trans (if_pos hw)),
          fun hat hw => runs rfl ((formatNvm_one h hn hat).trans (if_neg (by rw [hw]; exact nofun)))⟩,
      fun e h hf => runs rfl (formatNvm_all h hf), rfl, fun w hw => ⟨runFormat_waits hw, fun hin hb hk hroom => runFormat_noMark hw hin hb hk hroom,
        fun hin hb hk hm hroom hl h2 he => runFormat_last hw hin hb hk hroom hm hl h2 he⟩,
      fun x hx hw => ?_, fun x hx => unmapAll_unmapped hx⟩
    have walks {e : Dev} (h : walkPage n d = e) : Runs (.formatWalk n) s e :=
      runs_onMbox (f := fun d => walkPage n (runFormat n d)) rfl ((congrArg (walkPage n) (runFormat_none hw)).trans h)
    exact ⟨fun h => walks (walkPage_paused hx h), fun hf hl hp hh =>
      ⟨fun hlast => walks ((walkPage_goes hx hf hl hp hh).trans (if_pos hlast)),
        fun hmore => walks ((walkPage_goes hx hf hl hp hh).trans (if_neg (Nat.not_le.mpr hmore)))⟩⟩
  · intro d r hc hk he hl h0 ha
    have h : InUse s.dev c k := ⟨hc, hk, he, hl⟩
    refine ⟨fun hr => ⟨runs_cove0 h h0 rfl (managing_sanitizing ha hr), runs_cove0 h h0 rfl (managing_sanitizing ha hr)⟩, fun hr => ?_, fun act => rfl,
      fun hn => ⟨fun hi => (runSan_notReady hn).trans (if_neg fun hb => hi.elim (ne_true_of_eq_false · hb.1) (· hb.2)),
        fun hd hz => (runSan_notReady hn).trans (if_pos ⟨hd, hz⟩)⟩,
      runSan_ready, sanErase_unmapped d, fun m x b g hm => ⟨fun ho => gives_congr rfl (sanMember_other hm ho), fun h1 h4 =>
        ⟨gives_congr rfl (sanMember_step hm h1 h4), ?_⟩⟩, fun b => rfl, fun hd =>
        ⟨fun ho => gives_congr rfl (sanComplete_other hd ho), fun h1 h3 h4 => gives_congr rfl (sanComplete_done hd h1 (Or.inl ⟨h3, h4⟩)),
          fun h1 h4 hn => gives_congr rfl (sanComplete_done hd h1 (Or.inr ⟨h4, hn⟩))⟩⟩
    · have runs {i : Instr} {f : Dev → Dev} {e : Dev} (hi : exec i s = onMbox s (admin c cid .cove0 (managing c cid f))) (hf : f d = e) :
          Runs i s e := runs_cove0 h h0 hi ((managing_runs ha hr).trans hf)
      exact ⟨fun hv => runs rfl (if_pos hv), fun hv => runs rfl (if_pos hv), fun hv => runs rfl (if_pos hv),
        fun hv => runs rfl (if_neg (not_not.mpr hv)), fun hv => runs rfl (if_neg (not_not.mpr hv)), fun hv => runs rfl (if_neg (not_not.mpr hv))⟩
    · intro e
      have step := sanMember_step (g := true) hm h1 h4
      refine ⟨fun hb => gives_congr rfl (step.trans ?_), fun sh pos hb => gives_congr rfl (step.trans ?_)⟩
      all_goals
        rw [if_neg (by decide)]
        dsimp only
      · rw [show rosterOfBay _ b = none from hb]
      · rw [show rosterOfBay _ b = some (sh, pos) from hb]
end

section
/-! Reads: their blocks, the member reads that bring them, and reissues (O51). -/

namespace Sys2Proof.Machine

/-! ## The blocks of a read (05 R151, R152) -/

section
variable {d : Dev} {tag i : Nat} {c : Cmd} (hc : tget d.adm.cmds tag = some c)
include hc

/-- READ_RESOLVE acts on a read alone (R152). -/
theorem gives_readResolve {s : State} (hs : s.dev = d) : Gives (.readResolve tag) s (if isRead c.kind = true then runRead tag d else d) := by
  subst hs
  refine gives_congr rfl ?_
  dsimp only
  rw [hc]

variable (hw : c.blocks.getD i .lost = .waiting)
include hw

theorem captureBlock_waits (h : resolve d c.nsid (firstLba c + i) c.asn = .wait) : captureBlock tag i d = d := by
  rw [captureBlock, hc]
  dsimp only
  rw [if_neg (not_not.mpr hw), h]

theorem captureBlock_data {b : Block} (h : resolve d c.nsid (firstLba c + i) c.asn = .data b) :
    captureBlock tag i d = setBlock tag i (.value b.data) d := by
  rw [captureBlock, hc]
  dsimp only
  rw [if_neg (not_not.mpr hw), h]

theorem captureBlock_fetch {p : Nat} (h : resolve d c.nsid (firstLba c + i) c.asn = .fetch p) : captureBlock tag i d = fetchPage p d := by
  rw [captureBlock, hc]
  dsimp only
  rw [if_neg (not_not.mpr hw), h]

theorem captureBlock_zero (h : resolve d c.nsid (firstLba c + i) c.asn = .zero)
    (hl : (lowerWrites d c.nsid (firstLba c + i) c.asn).isEmpty = false) : captureBlock tag i d = setBlock tag i (.value 0) d := by
  rw [captureBlock, hc]
  dsimp only
  rw [if_neg (not_not.mpr hw), h]
  dsimp only
  rw [if_neg (ne_true_of_eq_false hl)]

end

/-! ## Reconstruction (06 R174) -/

section
variable {d : Dev} {p : Place} {o : ReadBack} {l : List (Nat × Nat)} {fix : Bool} {tags : List Nat} {st : Stripe}
  (hst : rowAt d p.shoal p.row = some st)
include hst

theorem rebuildBlock_unreadable (h : readableAt d p l = false) : rebuildBlock p o l fix tags d = loseRead p l tags d := by
  rw [rebuildBlock, hst]
  exact if_pos (bnot_of_false h)

theorem rebuildBlock_readable (h : readableAt d p l = true) : rebuildBlock p o l fix tags d =
    (let x := expected p tags d
     match checkBlock x.2 st x.1 o with
     | .good v =>
       let f := deliver p (.value v) tags (occur 6 6 1 { nsid := some x.1.nsid, lba := some x.1.lba } x.2)
       if fix then repairRow p.shoal p.row (l.filter (fun y => (stripBay d st y.1).isSome)) f else f
     | .gcm => authRead p tags x.2
     | .bad => loseRead p l tags x.2) := by
  rw [rebuildBlock, hst]
  exact (if_neg (not_bnot_of_true h)).trans rfl

/-! ## What a member read brought (04 R108, 06 R174, R178) -/

theorem ownAt_row : ownAt d p = slotPos (stripeGeom d st) st.row p.slot := by rw [ownAt, hst]

variable {c : MemberCmd} {r : ReadBack}

theorem readCame_recon (hc : c.recon = true) : readCame c p r o l d =
    rebuildBlock p o l false c.joined (noteErrors 0 p.shoal p.row (badMet d p l) true (expected p c.joined d).2) := by
  rw [readCame, hst]
  exact if_pos hc

theorem readCame_own (hc : c.recon = false) : readCame c p r o l d =
    match checkBlock (expected p c.joined d).2 st (expected p c.joined d).1 r with
    | .good v => tryFree p.shoal p.row (deliver p (.value v) c.joined (expected p c.joined d).2)
    | _ => rebuildBlock p o (slotPos (stripeGeom d st) st.row p.slot :: l) true c.joined
        (noteErrors 0 p.shoal p.row (badMet d p (slotPos (stripeGeom d st) st.row p.slot :: l)) false (expected p c.joined d).2) := by
  rw [readCame, hst]
  dsimp only
  rw [if_neg (ne_true_of_eq_false hc), ownAt_row hst] <;> rfl

theorem readCame_bad (hc : c.recon = false)
    (hb : ∀ v, checkBlock (expected p c.joined d).2 st (expected p c.joined d).1 r ≠ .good v) : readCame c p r o l d =
    rebuildBlock p o (slotPos (stripeGeom d st) st.row p.slot :: l) true c.joined
      (noteErrors 0 p.shoal p.row (badMet d p (slotPos (stripeGeom d st) st.row p.slot :: l)) false (expected p c.joined d).2) := by
  rw [readCame_own hst hc]
  split
  · next v h => exact absurd h (hb v)
  · rfl

variable {m : Nat} {late : List Nat} {out : List (Nat × Nat)} (hm : tget d.shelf.cmds m = some c) (hop : c.op = .readBlock p)
  (hout : slotPos (stripeGeom d st) st.row p.slot ::
    late.flatMap (fun q => [(q, (slotPos (stripeGeom d st) st.row p.slot).2), (q, 31)]) ++ l = out)
include hm hop hout

theorem softDeadline_row : softDeadline m o late l d = if c.joined.isEmpty = true ∨ (!readableAt d p out) = true then d else
    match checkBlock (expected p c.joined d).2 st (expected p c.joined d).1 o with
    | .good v =>
      let f := occur 6 6 1 { nsid := some (expected p c.joined d).1.nsid, lba := some (expected p c.joined d).1.lba }
        (noteErrors 0 p.shoal p.row (badMet d p (slotPos (stripeGeom d st) st.row p.slot :: l)) true (expected p c.joined d).2)
      deliver p (.value v) c.joined { f with shelf.cmds := tput f.shelf.cmds m { c with joined := [] } }
    | _ => d := by
  rw [softDeadline, hm]
  dsimp only
  rw [hop]
  dsimp only
  rw [hst]
  dsimp only
  rw [ownAt_row hst, hout] <;> rfl

theorem softDeadline_none (h : c.joined = [] ∨ readableAt d p out = false) : softDeadline m o late l d = d := by
  rw [softDeadline_row hst hm hop hout]
  refine if_pos (h.imp (fun h => ?_) bnot_of_false)
  rw [h]
  rfl

theorem softDeadline_good {v : Nat} (hj : c.joined ≠ []) (hr : readableAt d p out = true)
    (hv : checkBlock (expected p c.joined d).2 st (expected p c.joined d).1 o = .good v) : softDeadline m o late l d =
    (let f := occur 6 6 1 { nsid := some (expected p c.joined d).1.nsid, lba := some (expected p c.joined d).1.lba }
      (noteErrors 0 p.shoal p.row (badMet d p (slotPos (stripeGeom d st) st.row p.slot :: l)) true (expected p c.joined d).2)
     deliver p (.value v) c.joined { f with shelf.cmds := tput f.shelf.cmds m { c with joined := [] } }) := by
  rw [softDeadline_row hst hm hop hout, if_neg, hv]
  exact fun hb => hb.elim (fun hb => hj (List.isEmpty_iff.mp hb)) (not_bnot_of_true hr)

end

section
variable {d : Dev} {m : Nat} {c : MemberCmd} {p : Place} {r o : ReadBack} {l : List (Nat × Nat)} (hm : tget d.shelf.cmds m = some c)
include hm

section
variable (hop : c.op = .readBlock p)
include hop

theorem readComplete_queued (h : c.phase = .queued) : readComplete m r o l d = d := by
  rw [readComplete, hm]
  dsimp only
  rw [hop]
  exact if_pos h

theorem readComplete_came (h : c.phase ≠ .queued) : readComplete m r o l d =
    readCame c p r o l (occur 6 1 4096 (memberAttr c.bay 0) (memberEnd m (memberCells m c d))) := by
  rw [readComplete, hm]
  dsimp only
  rw [hop]
  exact if_neg h

end

/-! ## A reissue that ends (06 R173) -/

theorem reissueComplete_phase {g : Bool} (h : c.phase = .reissued) : reissueComplete m g r o l d =
    if g = true then memberDone m c r o l (transientFault c.bay d) else failServing c.bay d := by
  rw [reissueComplete, hm]
  exact if_neg (not_not.mpr h)

end

/-! ## The checks of a block (04 R108, 06 R174) -/

section
variable {d : Dev} {st : Stripe} {b : Block} {m x : Nat}

/-- The fields that a block carries agree with what is asked for, and its guard with its data. -/
def SameBlock (st : Stripe) (b : Block) (m x : Nat) : Prop :=
  bits m 95 64 = b.nsid ∧ bits m 159 96 = b.lba ∧ bits m 383 352 = geoGen st ∧ bits m 223 160 = Config.guard64 x

theorem checkBlock_other (h : ¬ SameBlock st b m x) : checkBlock d st b (.block m x) = .bad := by
  refine if_pos ?_
  simpa only [SameBlock, not_and_or] using h

variable (h : SameBlock st b m x)
include h

theorem checkBlock_same : checkBlock d st b (.block m x) =
    if ((tget d.host.nss b.nsid).map (·.auth)).getD false = true ∧ bits m 351 224 ≠ blockTag b.key b.nsid b.lba (bits m 63 0) x then .gcm
    else .good x := by
  refine if_neg fun hb => ?_
  obtain ⟨hn, hl, hg, hd⟩ := h
  exact hb.elim (· hn) (·.elim (· hl) (·.elim (· hg) (· hd)))

theorem checkBlock_untagged (ht : ((tget d.host.nss b.nsid).map (·.auth)).getD false = false ∨
    bits m 351 224 = blockTag b.key b.nsid b.lba (bits m 63 0) x) : checkBlock d st b (.block m x) = .good x :=
  (checkBlock_same h).trans (if_neg fun hb => ht.elim (ne_true_of_eq_false · hb.1) (hb.2 ·))

end

end Sys2Proof.Machine

open Sys2Proof Sys2Proof.Machine

/-- Settles O51: a read's blocks, what a member read brings, its soft deadline, its checks, and its reissue. -/
theorem memberReads : Obligations.MemberReads := by
  intro s d
  refine ⟨fun tag c hc => ⟨fun hr => gives_congr (gives_readResolve hc rfl) (if_pos hr),
      fun hr => gives_congr (gives_readResolve hc rfl) (if_neg (ne_true_of_eq_false hr)), fun i hw => ⟨captureBlock_waits hc hw,
        fun b => captureBlock_data hc hw, fun p => captureBlock_fetch hc hw, captureBlock_zero hc hw⟩⟩,
    fun m c p hm hop => ?_, fun p o l fix tags e st hst => ⟨rebuildBlock_unreadable hst, fun hr => ?_⟩,
    fun e st b m x => ⟨rfl, rfl, checkBlock_other, fun hs ha ht => (checkBlock_same hs).trans (if_pos ⟨ha, ht⟩), checkBlock_untagged⟩,
    fun m c hm hp => ?_⟩
  · intro e after
    have reads {r o : ReadBack} {l : List (Nat × Nat)} {f : Dev} (h : readComplete m r o l d = f) :
        Gives (.memberReadComplete m r o l) s (after f) := gives_congr rfl (congrArg after h)
    refine ⟨fun hq r o l => reads (readComplete_queued hm hop hq), fun st hq hst => ?_, fun st hst o late l => ?_⟩
    · intro own x
      refine ⟨fun r o l v hr hv => reads ((readComplete_came hm hop hq).trans ((readCame_own hst hr).trans ?_)),
        fun r o l hr hv => reads ((readComplete_came hm hop hq).trans (readCame_bad hst hr hv)),
        fun r o l hr => reads ((readComplete_came hm hop hq).trans (readCame_recon hst hr))⟩
      rw [show checkBlock (expected p c.joined e).2 st (expected p c.joined e).1 r = .good v from hv]
    · exact ⟨fun h => gives_congr rfl (congrArg resumeRepairs (softDeadline_none hst hm hop rfl h)),
        fun v hj hr hv => gives_congr rfl (congrArg resumeRepairs (softDeadline_good hst hm hop rfl hj hr hv))⟩
  · have step := rebuildBlock_readable (o := o) (fix := fix) (tags := tags) hst hr
    refine ⟨fun v hv => step.trans ?_, fun hv => step.trans ?_, fun hv => step.trans ?_⟩
    all_goals
      dsimp only
      rw [hv]
  · exact ⟨fun r => gives_congr rfl (congrArg (fun e => settleStripes (resumeRepairs e)) ((reissueComplete_phase hm hp).trans (if_pos rfl))),
      gives_congr rfl (congrArg (fun e => settleStripes (resumeRepairs e)) ((reissueComplete_phase hm hp).trans (if_neg Bool.false_ne_true)))⟩
end

section
/-! Controllers, associations and queue pairs that end (O52). -/

namespace Sys2Proof.Machine

/-! ## Controllers (07 R239 to R241) -/

section
variable {d : Dev} {c : Nat}

theorem quiesce_idle (hq : sqsOf d c = []) (hc : d.adm.cmds = []) (hw : d.host.waits = []) : quiesce c d = modCtrl c (fun x => { x with
    enabled := false, draining := true, asnReport := false, aers := [], pendingEvents := [] }) d := by
  have waits : d.host.waits.filter (fun w => !(w.kind == 10 && w.cntlid == c)) = d.host.waits := by rw [hw, List.filter_nil]
  rw [quiesce, hq]
  dsimp only [List.foldl_nil]
  rw [hc]
  dsimp only [List.foldl_nil]
  rw [waits]

variable {k : Ctrl} (hk : ctrlOf d c = some k)
include hk

theorem gives_controllerDisable {s : State} (hs : s.dev = d) :
    Gives (.controllerDisable c) s (if k.enabled = true ∧ (!k.ended) = true then quiesce c d else d) := by
  subst hs
  refine gives_congr rfl ?_
  dsimp only
  rw [hk]

theorem gives_keepAliveExpiry {s : State} (hs : s.dev = d) : Gives (.keepAliveExpiry c) s
    (if k.kato = 0 ∨ k.ended = true ∨ d.host.admissionHeld = true then d else endAssociation c (logEvent 5 4 1 (payload c 0 0 0) d)) := by
  subst hs
  refine gives_congr rfl ?_
  dsimp only
  rw [hk]

theorem settleCtrl_busy (h : ctrlBusy d c = true) : settleCtrl c d = d := by
  rw [settleCtrl, hk]
  exact if_pos h

theorem settleCtrl_ended (h : ctrlBusy d c = false) (he : k.ended = true) : settleCtrl c d =
    { d with host.ctrls := terase d.host.ctrls c, cove.bindings := tmod d.cove.bindings k.binding (fun b => { b with assoc := b.assoc - 1 }) } := by
  rw [settleCtrl, hk]
  exact (if_neg (ne_true_of_eq_false h)).trans (if_pos he)

theorem shutdown_begun (h : k.shst ≠ 0) : shutdown c d = d := by
  rw [shutdown, hk]
  exact if_pos (Or.inr h)

variable (he : k.ended = false)
include he

theorem settleCtrl_drained (h : ctrlBusy d c = false) : settleCtrl c d =
    if k.shst = 1 then modCtrl c (fun x => { x with shst := 2 }) d
    else if k.draining = true then modCtrl c (fun x => { x with ready := false, draining := false }) d else d := by
  rw [settleCtrl, hk]
  exact (if_neg (ne_true_of_eq_false h)).trans (if_neg (ne_true_of_eq_false he))

theorem shutdown_noQueues (h : k.shst = 0) (hq : sqsOf d c = []) : shutdown c d =
    settleCtrl c (modCtrl c (fun x => { x with shst := 1 }) { d with pool.waiting := d.pool.waiting.filter (fun w => w.1 != c) }) := by
  rw [shutdown, hk, hq]
  exact if_neg fun hb => hb.elim (ne_true_of_eq_false he) (· h)

end

/-! ## Queue pairs (08 R280, R284) -/

@[simp] theorem purgeFrames_net (n : Nat) (d : Dev) : (purgeFrames n d).net = d.net :=
  foldl_keeps (f := fun (a : Dev) (f : TxFrame) => epochOut f.stamp a) Dev.net (fun _ _ => rfl) _ _

section
variable {d : Dev} {n : Nat} {q : Qp} (hq : qpOf d n = some q)
include hq

section
variable (hd : q.disconnecting = false)
include hd

theorem closeQp_open : closeQp n d = emit (.cmDisconnect n) { purgeFrames n (revokeLanding n d) with
    net.qps := tmod (purgeFrames n (revokeLanding n d)).net.qps n (fun w =>
      { w with disconnecting := true, connected := false, msgs := [], backlog := [], sent := [] }) } := by
  rw [closeQp, hq]
  exact if_neg (ne_true_of_eq_false hd)

theorem closeQp_tells : Out.cmDisconnect n ∈ (closeQp n d).out := by
  rw [closeQp_open hq hd]
  exact List.mem_append_right _ (List.mem_singleton_self _)

theorem closeQp_qp : qpOf (closeQp n d) n = some { q with
    landing := q.landing.map (fun w => { w with revoked := true }), disconnecting := true, connected := false, msgs := [], backlog := [], sent := [] } := by
  have taken : tget d.net.qps n = some q := hq
  rw [closeQp_open hq hd, purgeFrames_net, qpOf, emit, revokeLanding, modLanding]
  dsimp only
  rw [tget_tmod, tget_tmod, taken]
  rfl

theorem hostDisconnect_open {x e : Dev} (hx : (match sqOfQp d n with
    | some y => deleteSq y.1 y.2 (some (gen 0x08)) d
    | none => d) = x) (he : closeQp n (endQpCmds n false x) = e) : hostDisconnect n d = match adminOfQp e n with
      | some c => endAssociation c e
      | none => e := by
  subst he hx
  rw [hostDisconnect, hq]
  refine (if_neg (ne_true_of_eq_false hd)).trans ?_
  cases sqOfQp d n <;> rfl

end

theorem hostDisconnect_closed (h : q.disconnecting = true) : hostDisconnect n d = d := by
  rw [hostDisconnect, hq]
  exact if_pos h

theorem cmDisconnect_other (h : q.disconnecting = false ∨ q.released = true) : cmDisconnect n d = d := by
  rw [cmDisconnect, hq]
  exact if_pos (h.imp_left bnot_of_false)

theorem cmDisconnect_frees (h : q.disconnecting = true) (hr : q.released = false) : cmDisconnect n d =
    (let e := { d with net.contexts := d.net.contexts - contextsOf q }
     if q.landing.isNone = true then dropQp n e
     else { e with net.qps := tmod d.net.qps n (fun w => { w with released := true }) }) := by
  rw [cmDisconnect, hq]
  exact if_neg fun hb => hb.elim (not_bnot_of_true h) (ne_true_of_eq_false hr)

section
variable {l : Landing} (hl : q.landing = some l)
include hl

theorem landingReturn_held (h : l.revoked = false ∨ windowHeld q = true) : landingReturn n d = d := by
  rw [landingReturn, hq]
  dsimp only
  rw [hl]
  exact if_pos (h.imp_left bnot_of_false)

theorem landingReturn_free (h : l.revoked = true) (hw : windowHeld q = false) (hr : q.released = false) : landingReturn n d = { d with
    net.landingUsed := d.net.landingUsed - l.size, net.qps := tmod d.net.qps n (fun w => { w with landing := none }) } := by
  rw [landingReturn, hq]
  dsimp only
  rw [hl]
  exact (if_neg fun hb => hb.elim (not_bnot_of_true h) (ne_true_of_eq_false hw)).trans (if_neg (ne_true_of_eq_false hr))

end

end

end Sys2Proof.Machine

open Sys2Proof Sys2Proof.Machine

/-- Settles O52: disabling, shutdown, keep-alive and drain of a controller, then the teardown of a queue pair. -/
theorem queuePairsEnd : Obligations.QueuePairsEnd := by
  intro s d
  refine ⟨fun c k hk he => ⟨fun hen => ⟨gives_congr (gives_controllerDisable hk rfl) (if_pos ⟨hen, bnot_of_false he⟩), quiesce_idle⟩,
      fun hen => gives_congr (gives_controllerDisable hk rfl) (if_neg fun hb => ne_true_of_eq_false hen hb.1),
      fun h hq => gives_congr rfl (shutdown_noQueues hk he h hq), fun h => gives_congr rfl (shutdown_begun hk h),
      fun h ha => gives_congr (gives_keepAliveExpiry hk rfl) (if_neg fun hb => hb.elim h (·.elim (ne_true_of_eq_false he) (ne_true_of_eq_false ha))),
      fun h => gives_congr (gives_keepAliveExpiry hk rfl) (if_pos (h.imp_right Or.inr)), fun h => gives_congr rfl (settleCtrl_busy hk h),
      fun h => ⟨fun h1 => gives_congr rfl ((settleCtrl_drained hk he h).trans (if_pos h1)),
        fun h1 hd => gives_congr rfl ((settleCtrl_drained hk he h).trans ((if_neg h1).trans (if_pos hd)))⟩⟩,
    fun c k hk he h => gives_congr rfl (settleCtrl_ended hk h he), fun n q hq => ⟨fun h => gives_congr rfl (hostDisconnect_closed hq h),
      fun hd => ?_, fun hd => ⟨closeQp_tells hq hd, _, closeQp_qp hq hd, rfl, rfl, rfl, rfl, rfl, ?_⟩, fun hd hr => ?_,
      fun h => gives_congr rfl (cmDisconnect_other hq h), fun l hl => ⟨fun h hw hr => gives_congr rfl (landingReturn_free hq hl h hw hr),
        fun h => gives_congr rfl (landingReturn_held hq hl h)⟩⟩⟩
  · intro x e
    have closes := hostDisconnect_open (x := x) (e := e) hq hd rfl rfl
    refine ⟨fun hc => gives_congr rfl (closes.trans ?_), fun c hc => gives_congr rfl (closes.trans ?_)⟩
    · rw [hc]
    · rw [hc]
  · cases q.landing <;> rfl
  · intro e
    refine ⟨fun hl => gives_congr rfl ((cmDisconnect_frees hq hd hr).trans (if_pos ?_)),
      fun hl => gives_congr rfl ((cmDisconnect_frees hq hd hr).trans (if_neg ?_))⟩
    · rw [hl]
      rfl
    · rw [Option.isNone_iff_eq_none]
      exact Option.isSome_iff_ne_none.mp hl
end

section
/-! The Strait's link: replay, acknowledgement, heartbeats and the wiring test (O53). -/

namespace Sys2Proof.Machine

@[simp] theorem dropOutput_pair (o : Nat) (d : Dev) : (dropOutput o d).pair = d.pair :=
  foldl_keeps (f := fun (a : Dev) (r : CellRun) => queueRun r a) Dev.pair (fun _ _ => rfl) _ _

/-! ## A frame that arrives (13 R402) -/

section
variable {d : Dev} {m : Memory} {h : StraitHdr}

theorem takeFrame'_lost (f : Dev → Memory → Dev × Memory) (hd : d.pair.straitUp = false ∨ ∃ x, d.pair.nakFor = some x ∧ x ≠ h.lseq) :
    takeFrame' h f d m = (d, m) := by
  rcases hd with hd | ⟨x, hx, hne⟩
  · exact if_pos (bnot_of_false hd)
  · have named : d.pair.nakFor.any (fun n => n != h.lseq) = true := by simp [hx, hne]
    unfold takeFrame'
    rw [if_pos named, ite_self]

theorem takeFrame'_taken (f : Dev → Memory → Dev × Memory) (hu : d.pair.straitUp = true)
    (hn : d.pair.nakFor = none ∨ d.pair.nakFor = some h.lseq) :
    takeFrame' h f d m = f { d with pair.nakFor := none, pair.rxLseq := h.lseq } m := by
  refine (if_neg (not_bnot_of_true hu)).trans (if_neg ?_)
  rcases hn with hn | hn
  · simp [hn]
  · simp [hn]

/-- A frame taken by a meaning on the device alone. -/
theorem gives_onFrame {s : State} {i : Instr} {f : Dev → Dev} {e : Dev} (hi : exec i s = onFrame h f s) (hu : s.dev.pair.straitUp = true)
    (hn : s.dev.pair.nakFor = none) (he : f { s.dev with pair.nakFor := none, pair.rxLseq := h.lseq } = e) : Gives i s e := by
  rw [Gives, hi, onFrame, onBoth, takeFrame'_taken _ hu (Or.inl hn), he]

/-! ## The link's end (13 R397, R402, R407) -/

theorem linkDown_alone (hp : d.pair.partner ≠ 1) : linkDown d m = (dropOutput straitStation { d with
    pair.straitUp := false, pair.lanes := 0, pair.replayBuffer := [], pair.sendWaits := [], pair.nakFor := none, pair.helloSent := false }, m) := by
  rw [linkDown, dropOutput_pair]
  exact if_neg hp

theorem linkDown_pairing (hp : d.pair.partner = 1) : linkDown d m = abandonPairing (dropOutput straitStation { d with
    pair.straitUp := false, pair.lanes := 0, pair.replayBuffer := [], pair.sendWaits := [], pair.nakFor := none, pair.helloSent := false }) m := by
  rw [linkDown, dropOutput_pair]
  exact if_pos hp

/-- The replay buffer stays full, or a frame was replayed 16 times (13 R402). -/
def ReplayStuck (d : Dev) : Prop := d.pair.sendWaits ≠ [] ∨ 2 ^ 20 ≤ replayBytes d ∨ ∃ f ∈ d.pair.replayBuffer, 16 ≤ f.replays

theorem replayStuck_iff (d : Dev) : ReplayStuck d ↔ (!d.pair.sendWaits.isEmpty) = true ∨ 2 ^ 20 ≤ replayBytes d ∨
    d.pair.replayBuffer.any (fun f => decide (16 ≤ f.replays)) = true := by
  simp [ReplayStuck]

theorem makes_straitReplayTimeout (s : State) : Makes .straitReplayTimeout s (if (!s.dev.pair.sendWaits.isEmpty) = true ∨
    2 ^ 20 ≤ replayBytes s.dev ∨ s.dev.pair.replayBuffer.any (fun f => decide (16 ≤ f.replays)) = true then linkDown s.dev s.mem
    else (s.dev, s.mem)) := rfl

/-- This side's pulse has come: the test stands on what the partner saw (13 R411). -/
theorem judgeWired_pulse (d : Dev) : judgeWired { d with pair.fencePulseSeen := true } =
    { d with pair.fencePulseSeen := true, pair.fenceWired := d.pair.fenceSentSeen } := by
  rw [judgeWired]
  dsimp only
  rw [Bool.and_true]

/-! ## Replay (13 R402) -/

section
variable {n : Nat}

theorem replayFrom_down (hu : d.pair.straitUp = false) : replayFrom n d m = (d, m) := if_pos (Or.inl (bnot_of_false hu))

theorem replayFrom_unknown (hn : ∀ f ∈ d.pair.replayBuffer, f.lseq ≠ n) : replayFrom n d m = (d, m) := by
  refine if_pos (Or.inr (bnot_of_false (List.any_eq_false.mpr fun f hf => ?_)))
  simpa using hn f hf

theorem replayFrom_first {f : StraitFrame} {l : List StraitFrame} (hu : d.pair.straitUp = true) (hb : d.pair.replayBuffer = f :: l)
    (hf : f.lseq = n) (hr : ∀ g ∈ f :: l, g.replays < 15) : replayFrom n d m =
      (let again := (f :: l).map (fun x => { x with replays := x.replays + 1 })
       (again.foldl (fun a x => emit (.strait x) a) { d with pair.replayBuffer := again, pair.replays := satAdd 16 d.pair.replays 1 }, m)) := by
  have first : (f.lseq == n) = true := beq_iff_eq.mpr hf
  have fresh : ¬ ((f :: l).map (fun x : StraitFrame => { x with replays := x.replays + 1 })).any (fun g => decide (16 ≤ g.replays)) = true := by
    simp only [List.any_map, List.any_eq_true, Function.comp_apply, decide_eq_true_eq, not_exists, not_and, Nat.not_le]
    exact fun g hg => Nat.succ_lt_succ (hr g hg)
  rw [replayFrom, hb, if_neg (by simp [hu, hf])]
  simp only [List.takeWhile_cons, bne, first, Bool.not_true, Bool.false_eq_true, if_false, List.length_nil, List.drop_zero, List.nil_append]
  rw [if_neg fresh]

end

/-! ## The link coming up (13 R398) -/

section
variable {n : Nat}

theorem linkUp'_other (hn : coreRuns d = false ∨ d.pair.straitUp = true ∨ (n ≠ 8 ∧ n ≠ 16)) : linkUp' n d m = (d, m) :=
  if_pos (hn.imp_left bnot_of_false)

theorem linkUp'_full (hr : coreRuns d = true) (hu : d.pair.straitUp = false) (hp : d.pair.partner ≠ 2) : linkUp' 16 d m =
    (let x := { d with pair.straitUp := true, pair.lanes := 16, pair.txLseq := 0, pair.rxLseq := 0, pair.nakFor := none,
                       pair.replayBuffer := [], pair.sendWaits := [] }
     (if 9 ≤ d.boot.step then sendHello x m else x, m)) := by
  refine (if_neg fun hb => ?_).trans (if_neg hp)
  exact hb.elim (not_bnot_of_true hr) (·.elim (ne_true_of_eq_false hu) (fun hb => hb.2 rfl))

end

end

end Sys2Proof.Machine

open Sys2Proof Sys2Proof.Machine

/-- Settles O53: frames taken or lost, the link's end, replay and acknowledgement, heartbeats, the wiring test and the link's training. -/
theorem straitLinks : Obligations.StraitLinks := by
  intro s h n d frame
  refine ⟨fun f hd => takeFrame'_lost f hd, fun f hu hn => takeFrame'_taken f hu hn, ⟨rfl, linkDown_alone, linkDown_pairing⟩,
    fun hs => makes_congr (makes_straitReplayTimeout s) (if_pos ((replayStuck_iff d).mp hs)),
    fun hw hb hf => gives_of_makes_mem (makes_congr (makes_straitReplayTimeout s) (if_neg fun hs => ?_)),
    fun hu => ⟨gives_congr rfl (if_pos hu), fun hn => gives_congr rfl (if_neg ?_), fun hn => gives_congr rfl (if_pos (Or.inr hn)),
      fun f l hb hf hr => gives_of_makes_mem (makes_congr rfl (replayFrom_first hu hb hf hr)),
      fun hf => gives_of_makes_mem (makes_congr rfl (replayFrom_unknown hf))⟩,
    fun hu => ⟨gives_congr rfl (if_neg (ne_true_of_eq_false hu)), gives_of_makes_mem (makes_congr rfl (replayFrom_down hu)),
      gives_congr rfl (if_pos (Or.inl (bnot_of_false hu)))⟩,
    fun f l hf => if_pos hf, rfl, fun f l => ⟨rfl, fun hb => if_pos hb, fun hb => if_neg (Nat.not_lt.mpr hb)⟩,
    fun hr b => gives_congr rfl (if_pos (bnot_of_false hr)),
    fun hr => ⟨gives_congr rfl (if_neg (not_bnot_of_true hr)), gives_congr rfl (if_neg (not_bnot_of_true hr))⟩,
    fun hu hn => ⟨fun r p w v c e q => ⟨fun ho => gives_onFrame rfl hu hn (if_neg fun hb => ?_),
        fun hs h0 h2 he => gives_onFrame rfl hu hn (if_pos ⟨hs, h0, h2, he⟩)⟩, fun b => gives_onFrame rfl hu hn rfl⟩,
    fun hc => gives_congr rfl (if_pos hc), fun hc => gives_congr rfl ((if_neg (ne_true_of_eq_false hc)).trans (congrArg (straitControl 9 [1#8]) (judgeWired_pulse d))),
    fun ho => gives_of_makes_mem (makes_congr rfl (linkUp'_other ho)),
    fun hr hu hp => ⟨fun hb => gives_of_makes_mem (makes_congr rfl ((linkUp'_full hr hu hp).trans ?_)),
      fun hb => gives_of_makes_mem (makes_congr rfl ((linkUp'_full hr hu hp).trans ?_))⟩⟩
  · rcases (replayStuck_iff d).mpr hs with hs | hs | ⟨f, hm, hs⟩
    · exact hs hw
    · exact absurd hb (Nat.not_lt.mpr hs)
    · exact absurd (hf f hm) (Nat.not_lt.mpr hs)
  · exact fun hb => hb.elim (not_bnot_of_true hu) (by rw [show s.dev.pair.nakFor = none from hn]; exact nofun)
  · obtain ⟨hs, h0, h2, he⟩ := hb
    exact ho.elim (· hs) (·.elim (· h0) (·.elim (· h2) (fun hl => Nat.lt_irrefl _ (Nat.lt_of_lt_of_le he hl))))
  · exact congrArg (·, s.mem) (if_pos hb)
  · exact congrArg (·, s.mem) (if_neg (Nat.not_le.mpr hb))
end

section
/-! Mirror frames over the Strait (O54). -/

namespace Sys2Proof.Machine

/-! ## Frames at a mirroring side (13 R401) -/

section
variable {s : State} {i : Instr} {h : StraitHdr} (hu : s.dev.pair.straitUp = true) (hn : s.dev.pair.nakFor = none)
include hu hn

/-- A frame taken by a meaning on the device and on memory. -/
theorem makes_frame {f : Dev → Memory → Dev × Memory} {x : Dev × Memory} (hi : exec i s = onBoth s (takeFrame' h f))
    (hx : f { s.dev with pair.nakFor := none, pair.rxLseq := h.lseq } s.mem = x) : Makes i s x := by
  rw [Makes, hi, onBoth, takeFrame'_taken f hu (Or.inl hn), hx]

theorem gives_mirrored {f : Dev → Dev} {e : Dev} (hm : mirroring s.dev = true) (hi : exec i s = onMirror h f s)
    (he : f { s.dev with pair.nakFor := none, pair.rxLseq := h.lseq } = e) : Gives i s (sendMack { e with pair.rxMseq := h.mseq }) :=
  gives_of_makes_mem (makes_frame hu hn hi ((if_pos hm).trans (congrArg (fun e : Dev => (sendMack { e with pair.rxMseq := h.mseq }, s.mem)) he)))

theorem gives_unmirrored {f : Dev → Dev} (hm : mirroring s.dev = false) (hi : exec i s = onMirror h f s) :
    Gives i s { s.dev with pair.nakFor := none, pair.rxLseq := h.lseq } :=
  gives_of_makes_mem (makes_frame hu hn hi (if_neg (ne_true_of_eq_false hm)))

end

section
variable {h : StraitHdr} {d : Dev} {m : Memory} (f : Dev → Memory → Dev × Memory)

theorem applyMirror_mirrors (hm : mirroring d = true) : applyMirror h f d m = (sendMack { (f d m).1 with pair.rxMseq := h.mseq }, (f d m).2) := if_pos hm

theorem applyMirror_other (hm : mirroring d = false) : applyMirror h f d m = (d, m) := if_neg (ne_true_of_eq_false hm)

end

/-! ## Definitions (13 R399) -/

section
variable {x : NsDef} {sync : Bool} {d : Dev}

theorem putNamespace_gone (h : x.present = false) : putNamespace sync x d =
    { d with host.nss := terase d.host.nss x.nsid, str.unknownNs := d.str.unknownNs.filter (fun n => n != x.nsid) } :=
  if_pos (bnot_of_false h)

theorem putNamespace_known {o : Ns} (h : x.present = true) (ho : tget d.host.nss x.nsid = some o) : putNamespace sync x d = { d with
    host.nss := tput d.host.nss x.nsid { o with nsze := x.nsze, grain := x.grain, shoal := x.shoal, auth := x.auth, pageBase := x.pageBase,
                                                  nextAsn := max o.nextAsn x.nextAsn, resumes := x.resumes, writeProtect := x.writeProtect } } := by
  rw [putNamespace, if_neg (not_bnot_of_true h), ho]
  dsimp only
  rw [if_neg]
  rw [thas_of_tget ho, Bool.not_true, Bool.and_false, Bool.false_and]
  exact Bool.false_ne_true

end

/-! ## Pages (13 R399, R400, 09 R302) -/

section
variable {p v : Nat} {t : Tag} {g : Bool} {d : Dev}

theorem putPage_other (h : regionOf d.pool.layout p ≠ .stage ∨ d.pool.withdrawn.contains p = true) : putPage p t v g d = d := if_pos h

theorem putPage_stage (hr : regionOf d.pool.layout p = .stage) (hw : d.pool.withdrawn.contains p = false) : putPage p t v g d =
    if (!g) = true then { d with pair.poisoned := p :: d.pair.poisoned.filter (fun q => q != p) }
    else occur 4 0 1 (poolAttr straitStation p) { d with
      pool.pages := tput d.pool.pages p { life := .staged, slot := nextSlot d p, tag := t, data := v, key := nsKeyValue d t.nsid }
      pair.poisoned := d.pair.poisoned.filter (fun q => q != p) } :=
  if_neg fun hb => hb.elim (· hr) (ne_true_of_eq_false hw)

theorem partnerWithdrew_other (h : d.pool.withdrawn.contains p = true ∨ regionOf d.pool.layout p ≠ .stage) : partnerWithdrew p d = d := if_pos h

section
variable (hw : d.pool.withdrawn.contains p = false) (hr : regionOf d.pool.layout p = .stage)
include hw hr

theorem partnerWithdrew_free (hp : tget d.pool.pages p = none) :
    partnerWithdrew p d = judgeFloors (judgeLevel { d with pool.withdrawn := d.pool.withdrawn ++ [p] }) := by
  have listed : ¬ (d.pool.withdrawn.contains p = true ∨ regionOf d.pool.layout p ≠ .stage) :=
    fun hb => hb.elim (ne_true_of_eq_false hw) (· hr)
  rw [partnerWithdrew, if_neg listed, if_neg fun hb => ne_true_of_eq_false (thas_of_tget_none hp) hb.2.2, hp]

theorem partnerWithdrew_data (hs : serves d = true) (hj : joining d = false) (hp : thas d.pool.pages p = true) :
    partnerWithdrew p d = repeatWrite p d :=
  (if_neg fun hb => hb.elim (ne_true_of_eq_false hw) (· hr)).trans (if_pos ⟨hs, bnot_of_false hj, hp⟩)

end

end

theorem sendMack_clean {d : Dev} (h : d.pair.poisoned = []) :
    sendMack d = straitSend { type := 4, payload := leBytes d.pair.rxMseq 4 ++ leBytes 0 4 } d := by
  refine if_pos ?_
  rw [h]
  rfl

theorem sendMack_poisoned {d : Dev} (h : d.pair.poisoned ≠ []) : sendMack d = d := if_neg fun hb => h (List.isEmpty_iff.mp hb)

/-! ## Pages and units that arrive (13 R399, R404, R408) -/

/-- What STRAIT_PAGE does with the frame that it takes. -/
def pageCame (h : StraitHdr) (p : Nat) (t : Tag) (v : Nat) (g : Bool) (d : Dev) (m : Memory) : Dev × Memory :=
  if d.pair.settleWait = true ∧ h.sync = true then (settlePage p t v g d, m) else applyMirror h (fun a n => (putPage p t v g a, n)) d m

theorem exec_straitPage (h : StraitHdr) (p : Nat) (t : Tag) (v : Nat) (g : Bool) (s : State) :
    exec (.straitPage h p t v g) s = onBoth s (takeFrame' h (pageCame h p t v (g && !h.poison))) := rfl

/-- What STRAIT_REGION does with the frame that it takes. -/
def unitsCame (h : StraitHdr) (p o : Nat) (u : List Nat) (d : Dev) (m : Memory) : Dev × Memory :=
  if 64 < o + u.length then applyMirror h (fun a n => (a, n)) d m
  else if d.pair.settleWait = true ∧ h.sync = true then settleUnits p o u d m
  else applyMirror h (putUnits p o u) d m

theorem exec_straitRegion (h : StraitHdr) (p o : Nat) (u : List Nat) (s : State) :
    exec (.straitRegion h p o u) s = onBoth s (takeFrame' h (unitsCame h p o u)) := rfl

/-- What STRAIT_CONFIG_CHART_CHUNK does with the frame that it takes. -/
def chunkCame (h : StraitHdr) (o : Nat) (l : Bool) (b : List Byte) (d : Dev) (m : Memory) : Dev × Memory :=
  if mirroring d then applyMirror h (chartChunk o l b) d m
  else if d.chart.adopt ≠ 0 then chartChunk o l b d m else (d, m)

theorem exec_straitConfigChartChunk (h : StraitHdr) (o : Nat) (l : Bool) (b : List Byte) (s : State) :
    exec (.straitConfigChartChunk h o l b) s = onBoth s (takeFrame' h (chunkCame h o l b)) := rfl

section
variable {h : StraitHdr} {d : Dev} {m : Memory} {p o : Nat} {u : List Nat} {t : Tag} {v : Nat} {g : Bool}

theorem pageCame_settles (hs : d.pair.settleWait = true) (hy : h.sync = true) : pageCame h p t v g d m = (settlePage p t v g d, m) :=
  if_pos ⟨hs, hy⟩

theorem pageCame_mirrors (hs : d.pair.settleWait = false) :
    pageCame h p t v g d m = applyMirror h (fun a n => (putPage p t v g a, n)) d m := if_neg fun hb => ne_true_of_eq_false hs hb.1

theorem unitsCame_long (hl : 64 < o + u.length) : unitsCame h p o u d m = applyMirror h (fun a n => (a, n)) d m := if_pos hl

theorem unitsCame_settles (hl : o + u.length ≤ 64) (hs : d.pair.settleWait = true) (hy : h.sync = true) :
    unitsCame h p o u d m = settleUnits p o u d m := (if_neg (Nat.not_lt.mpr hl)).trans (if_pos ⟨hs, hy⟩)

theorem unitsCame_mirrors (hl : o + u.length ≤ 64) (hs : d.pair.settleWait = false) :
    unitsCame h p o u d m = applyMirror h (putUnits p o u) d m :=
  (if_neg (Nat.not_lt.mpr hl)).trans (if_neg fun hb => ne_true_of_eq_false hs hb.1)

theorem unitsCame_other (hm : mirroring d = false) (hs : d.pair.settleWait = false) : unitsCame h p o u d m = (d, m) := by
  rcases Nat.lt_or_ge 64 (o + u.length) with hl | hl
  · rw [unitsCame_long hl, applyMirror_other _ hm]
  · rw [unitsCame_mirrors hl hs, applyMirror_other _ hm]

theorem chunkCame_mirrors {l : Bool} {b : List Byte} (hm : mirroring d = true) :
    chunkCame h o l b d m = applyMirror h (chartChunk o l b) d m := if_pos hm

theorem chunkCame_adopts {l : Bool} {b : List Byte} (hm : mirroring d = false) (ha : d.chart.adopt ≠ 0) :
    chunkCame h o l b d m = chartChunk o l b d m := (if_neg (ne_true_of_eq_false hm)).trans (if_pos ha)

end

end Sys2Proof.Machine

open Sys2Proof Sys2Proof.Machine

/-- Settles O54: what each mirror frame does at a side that mirrors, at one that does not, and while two starts settle. -/
theorem mirrorFrames : Obligations.MirrorFrames := by
  intro s h d e done hu hn
  have page p t v g : Makes (.straitPage h p t v g) s (pageCame h p t v (g && !h.poison) e s.mem) := makes_frame hu hn (exec_straitPage h p t v g s) rfl
  have units p o u : Makes (.straitRegion h p o u) s (unitsCame h p o u e s.mem) := makes_frame hu hn (exec_straitRegion h p o u s) rfl
  have chunk o l b : Makes (.straitConfigChartChunk h o l b) s (chunkCame h o l b e s.mem) :=
    makes_frame hu hn (exec_straitConfigChartChunk h o l b s) rfl
  refine ⟨fun hm hs => ⟨fun p t v g => ?_, fun p o u => ?_, fun r => gives_unmirrored hu hn hm rfl, fun x => gives_unmirrored hu hn hm rfl,
      fun x => gives_unmirrored hu hn hm rfl⟩, fun hm => ?_, fun hm ha o l b => ?_, fun p o u hl hs hy => ?_, fun p t v g hs hy => ?_,
    fun p t v => ⟨fun ho g => putPage_other ho, fun hr hw => ⟨(putPage_stage hr hw).trans (if_pos rfl), (putPage_stage hr hw).trans (if_neg (by decide))⟩⟩,
    fun x => ⟨sendMack_clean, sendMack_poisoned⟩, fun p => ⟨gives_onFrame rfl hu hn rfl, partnerWithdrew_other,
      fun hw hr => ⟨partnerWithdrew_free hw hr, partnerWithdrew_data hw hr⟩⟩⟩
  · exact gives_of_makes_mem (makes_congr (page p t v g) ((pageCame_mirrors (d := e) hs).trans (applyMirror_other _ (d := e) hm)))
  · exact gives_of_makes_mem (makes_congr (units p o u) (unitsCame_other (d := e) hm hs))
  · refine ⟨fun p t v g hs => ?_, fun p o u => ⟨fun hl hs => ?_, fun hl => ?_⟩, fun r => gives_mirrored hu hn hm rfl rfl,
      fun x hx => gives_mirrored hu hn hm rfl (putNamespace_gone hx), fun x hx => ⟨gives_mirrored hu hn hm rfl rfl, fun o ho => ?_⟩,
      fun x => gives_mirrored hu hn hm rfl rfl, fun i b => ⟨fun hb => gives_mirrored hu hn hm rfl (if_neg fun hv => not_bnot_of_true hb hv.1),
        fun hb hh ha => gives_mirrored hu hn hm rfl (if_pos ⟨bnot_of_false hb, hh, ha⟩)⟩, fun r => gives_mirrored hu hn hm rfl rfl,
      fun r k => ⟨fun hk => gives_mirrored hu hn hm rfl (if_pos hk), fun hk => gives_mirrored hu hn hm rfl rfl⟩,
      fun r => gives_mirrored hu hn hm rfl rfl, fun o l b => ?_⟩
    · exact gives_of_makes_mem (makes_congr (page p t v g) ((pageCame_mirrors (d := e) hs).trans (applyMirror_mirrors _ (d := e) hm)))
    · exact makes_congr (units p o u) ((unitsCame_mirrors (d := e) hl hs).trans (applyMirror_mirrors _ (d := e) hm))
    · exact gives_of_makes_mem (makes_congr (units p o u) ((unitsCame_long (d := e) hl).trans (applyMirror_mirrors _ (d := e) hm)))
    · exact putNamespace_known (d := e) hx ho
    · exact makes_congr (chunk o l b) ((chunkCame_mirrors (d := e) hm).trans (applyMirror_mirrors _ (d := e) hm))
  · exact makes_congr (chunk o l b) (chunkCame_adopts (d := e) hm ha)
  · exact makes_congr (units p o u) (unitsCame_settles (d := e) hl hs hy)
  · exact gives_of_makes_mem (makes_congr (page p t v g) (pageCame_settles (d := e) hs hy))
end

section
/-! Two sides pair: HELLO, refusal, the sync and the record (O55). -/

namespace Sys2Proof.Machine

section
variable {d : Dev} {m : Memory} {x : Hello}

/-! ## HELLO (13 R400, R406) -/

theorem hello_kept (h : d.boot.step < 9 ∨ d.pair.partner = 2) : hello x d m = ({ d with pair.helloIn := some x }, m) := if_pos h

theorem hello_goes (hb : 9 ≤ d.boot.step) (hp : d.pair.partner ≠ 2) : hello x d m =
    (let y := { d with pair.helloIn := some x }
     let z := if d.pair.helloSent = true then y else sendHello y m
     if z.pair.partnerWait = true then settlePair true z m else tryPair z m) :=
  if_neg fun h => h.elim (Nat.not_lt.mpr hb) hp

theorem hello_said (hb : 9 ≤ d.boot.step) (hp : d.pair.partner ≠ 2) (hs : d.pair.helloSent = true) : hello x d m =
    if d.pair.partnerWait = true then settlePair true { d with pair.helloIn := some x } m else tryPair { d with pair.helloIn := some x } m := by
  rw [hello_goes hb hp]
  dsimp only
  rw [if_pos hs]

theorem hello_says (hb : 9 ≤ d.boot.step) (hp : d.pair.partner ≠ 2) (hs : d.pair.helloSent = false)
    (hw : (sendHello { d with pair.helloIn := some x } m).pair.partnerWait = false) :
    hello x d m = tryPair (sendHello { d with pair.helloIn := some x } m) m := by
  rw [hello_goes hb hp]
  dsimp only
  rw [if_neg (ne_true_of_eq_false hs)]
  exact if_neg (ne_true_of_eq_false hw)

theorem tryPair_fenced (hx : d.pair.helloIn = some x) (hf : d.pair.role = .fenced) (hr : d.pair.fenceReason = 6) : tryPair d m = (d, m) := by
  rw [tryPair, hx]
  exact if_pos (Or.inr (Or.inr (Or.inr (Or.inr (Or.inr ⟨hf, hr⟩)))))

theorem tryPair_refuses {c : Nat} (hx : d.pair.helloIn = some x) (hu : d.pair.straitUp = true) (hp : d.pair.partner ≠ 2)
    (hy : d.pair.syncing = false) (hl : (chartOf d).laneMode ≠ 1) (hj : joining d = true ∨ servesPair d = true)
    (hf : d.pair.role ≠ .fenced ∨ d.pair.fenceReason ≠ 6) (hc : helloCode d x = some c) :
    tryPair d m = (refusePair c (straitControl 2 (leBytes c 1) d), m) := by
  rw [tryPair, hx]
  dsimp only
  rw [if_neg, hc]
  rintro (h | h | h | h | h | ⟨h, h6⟩)
  · exact not_bnot_of_true hu h
  · exact hp h
  · exact ne_true_of_eq_false hy h
  · exact hl h
  · exact not_bnot_of_true ((Bool.or_eq_true _ _).mpr hj) h
  · exact hf.elim (· h) (· h6)

theorem helloCode_otherShelf (hs : x.shelfId ≠ d.pair.shelfId) (hx : x.shelfId ≠ 0) (hd : d.pair.shelfId ≠ 0) : helloCode d x = some 1 :=
  if_pos ⟨hs, hx, hd⟩

section
variable (hs : x.shelfId = d.pair.shelfId)
include hs

theorem helloCode_sameShelf : helloCode d x = if x.side = d.pair.side then some 2 else if (!chainAgrees d x) = true then some 3
    else if x.kekCheck ≠ d.keys.kekCheck then some 5 else if x.version ≠ 1 then some 6 else none := if_neg fun h => h.1 hs

theorem helloCode_chain (hx : x.side ≠ d.pair.side) (hc : chainAgrees d x = true) : helloCode d x =
    if x.kekCheck ≠ d.keys.kekCheck then some 5 else if x.version ≠ 1 then some 6 else none :=
  (helloCode_sameShelf hs).trans ((if_neg hx).trans (if_neg (not_bnot_of_true hc)))

end

/-! ## The sync (13 R407) -/

theorem syncBegin_other (h : joining d = false ∨ d.pair.partner = 2) : syncBegin d = d := if_pos (h.imp_left bnot_of_false)

theorem syncBegin_joins (hj : joining d = true) (hp : d.pair.partner ≠ 2) : syncBegin d = { emptySide { d with pair.partner := 1 } with
    pair.syncing := true, pair.rxMseq := 0, pair.poisoned := [], pool.state := .ready, boot.replayHeld := false } :=
  if_neg fun h => h.elim (not_bnot_of_true hj) hp

theorem syncEnded_other (h : joining d = false ∨ d.pair.syncing = false) : syncEnded d = d := by
  refine if_pos (bnot_of_false ?_)
  rcases h with h | h
  · rw [h, Bool.false_and]
  · rw [h, Bool.and_false]

theorem mack_mirrors {n : Nat} (h : mirrors d = true) : mack n d =
    (let y := { d with pair.ackMseq := max d.pair.ackMseq (min n d.pair.txMseq) }
     settleResv (tryCompleteAll (match d.pair.syncEnd with
       | some k => if k ≤ y.pair.ackMseq then recordBegin .pairing 0 (some .active) { y with pair.syncEnd := none } else y
       | none => y))) := if_neg (not_bnot_of_true h)

/-! ## The record of an epoch (13 R392) -/

/-- The device with an epoch's record durable and the role that the record brings. -/
def recordStands (r : ShelfRecord) (d : Dev) : Dev :=
  let y := { recordsWritten (fun _ c => writesLba (fun l => l == shelfLba r.epoch) c) d with
    pair.epoch := r.epoch, pair.record := some r, pair.recordPending := false, pair.recordNext := none, pair.recordRole := none, shelf.heldOps := [] }
  match d.pair.recordRole with
  | some x => setRole x y
  | none => y

theorem epochDurable_next {r : ShelfRecord} (h : d.pair.recordNext = some r) : epochDurable d =
    (let e := d.shelf.heldOps.foldl (fun a o => memberIssue o.1 o.2 a) (spreadRecord r (match d.pair.recordFor with
       | .pairing => raisePair 2 { recordStands r d with pair.partner := 2, pair.syncing := false }
       | .solo => settleWrites (recordStands r d)
       | .swap => swapTaken (recordStands r d)
       | _ => recordStands r d))
     e.str.shoals.foldl (fun a e => issueAll e.1 a) e) := by
  rw [epochDurable, h]
  rfl

end

end Sys2Proof.Machine

open Sys2Proof Sys2Proof.Machine

/-- Settles O55: a HELLO and its checks, a refusal, the sync from its begin to the MACK that covers it, and the epoch's record. -/
theorem sidesPair : Obligations.SidesPair := by
  intro s h d e hu hn
  refine ⟨fun x => ?_, fun x => ⟨tryPair_fenced (d := { d with pair.helloIn := some x }) rfl, fun c hp hy hl hj hf hc => tryPair_refuses (d := { d with pair.helloIn := some x }) rfl hu hp hy hl hj hf hc, helloCode_otherShelf,
      fun hs => ⟨fun hx => (helloCode_sameShelf hs).trans (if_pos hx), fun hx =>
        ⟨fun hc => (helloCode_sameShelf hs).trans ((if_neg hx).trans (if_pos (bnot_of_false hc))), fun hc =>
          ⟨fun hk => (helloCode_chain hs hx hc).trans (if_pos hk), fun hk => ?_⟩⟩⟩⟩,
    fun c => ⟨fun hi hr => gives_onFrame rfl hu hn (if_pos ⟨Option.isNone_iff_eq_none.mpr hi, hr⟩), fun hr => gives_onFrame rfl hu hn (if_neg fun hb => hr hb.2)⟩,
    fun ho => gives_onFrame rfl hu hn (syncBegin_other ho), fun hj hp => ⟨_, gives_onFrame rfl hu hn (syncBegin_joins hj hp),
      rfl, rfl, rfl, rfl, rfl, rfl, rfl, rfl, rfl, rfl, rfl, rfl⟩, fun n => ?_, fun n => ⟨fun hm => gives_onFrame rfl hu hn (if_pos (bnot_of_false hm)),
      fun hm => ?_⟩, fun hr => gives_congr rfl ?_, fun r hr => ?_, fun b ha hw => makes_congr rfl ?_⟩
  · intro y
    have came {z : Dev × Memory} (hz : hello x e s.mem = z) : Makes (.straitHello h x) s z := makes_frame hu hn rfl hz
    exact ⟨fun ho => gives_of_makes_mem (came (hello_kept ho)), fun hb hp hs => ⟨fun hw => came ((hello_said (d := e) hb hp hs).trans (if_neg (ne_true_of_eq_false hw))),
      fun hw => came ((hello_said (d := e) hb hp hs).trans (if_pos hw))⟩, fun hb hp hs _ hw => came (hello_says (d := e) hb hp hs hw)⟩
  · rw [helloCode_chain hs hx hc, if_neg (not_not.mpr hk)]
    exact ite_not _ _ _
  · have ended {z : Dev} (hz : syncEnded e = z) : Gives (.straitSyncEnd h n) s (sendMack z) :=
      gives_of_makes_mem (makes_frame hu hn rfl (congrArg (fun z => (sendMack z, s.mem)) hz))
    exact ⟨fun ho => ended (syncEnded_other ho), ended rfl⟩
  · intro y
    have came := mack_mirrors (n := n) (d := e) hm
    refine ⟨fun hk => gives_onFrame rfl hu hn (came.trans ?_), fun k hk => ⟨fun hl => gives_onFrame rfl hu hn (came.trans ?_),
      fun hl => gives_onFrame rfl hu hn (came.trans ?_)⟩⟩
    · rw [show e.pair.syncEnd = none from hk]
    · rw [show e.pair.syncEnd = some k from hk]
      exact congrArg (fun z => settleResv (tryCompleteAll z)) (if_neg (Nat.not_le.mpr hl))
    · rw [show e.pair.syncEnd = some k from hk]
      exact congrArg (fun z => settleResv (tryCompleteAll z)) (if_pos hl)
  · rw [epochDurable, hr]
  · intro y z lets goes
    have stands := epochDurable_next hr
    refine ⟨fun hf => gives_congr rfl (stands.trans ?_), fun hf => gives_congr rfl (stands.trans ?_), fun hf => gives_congr rfl (stands.trans ?_),
      fun hf => gives_congr rfl (stands.trans ?_)⟩
    · rcases hf with hf | hf | hf
      all_goals
        rw [hf]
        rfl
    all_goals
      rw [hf]
      rfl
  · have stored : chartStored b s.dev s.mem = storeDone b s.dev s.mem := if_neg fun hb => ha hb.1
    exact (thenSwap_none (by rw [stored]; exact hw)).trans stored
end

section
/-! How a start settles the role (O56). -/

namespace Sys2Proof.Machine

/-! ## PAIR_SETTLE (13 R408) -/

section
variable {d : Dev} {m : Memory} {b : Bool}

/-- Does PAIR_SETTLE act in this state? -/
def Settles (d : Dev) : Prop := coreRuns d = true ∧ d.boot.step = 9 ∧ d.boot.code ≠ 8 ∧ d.pool.state = .recovering ∧
  (!d.pair.partnerWait) = true ∧ (!d.pair.settleWait) = true ∧ (!d.pair.joinWait) = true ∧ (!d.pair.recordPending) = true

theorem makes_pairSettle {s : State} (h : Settles s.dev) : Makes (.pairSettle b) s (settlePair b s.dev s.mem) := makes_congr rfl (if_pos h)

theorem gives_pairSettle_other {s : State} (h : ¬ Settles s.dev) : Gives (.pairSettle b) s s.dev :=
  gives_of_makes_mem (makes_congr rfl (if_neg h))

/-- The device as PAIR_SETTLE finds it: REPLAYING, with no wait for the partner. -/
def settling (d : Dev) : Dev := { d with pair.partnerWait := false, pool.state := .replaying }

theorem settlePair_solo (hl : (chartOf d).laneMode = 1) : settlePair b d m = (startSolo (settling d), m) := if_pos hl

section
variable (hl : (chartOf d).laneMode ≠ 1)
include hl

theorem settlePair_foreign (h : d.pair.foreignPool = true ∨ recordEligible d = false) : settlePair b d m = tryPair (startFenced (settling d)) m :=
  (if_neg hl).trans (if_pos (h.imp_right bnot_of_false))

variable (hf : d.pair.foreignPool = false) (he : recordEligible d = true)
include hf he

theorem settlePair_eligible : settlePair b d m = match (if b = true then d.pair.helloIn else none) with
    | none => ({ d with pair.partnerWait := true, pool.state := .replaying }, m)
    | some x => if helloCode (settling d) x = some 1 ∨ helloCode (settling d) x = some 2 ∨ (!partnerEligible (settling d) x) = true then
        (startSolo (settling d), m)
      else if isWriter (settling d) = true then (acquireStart (drawShelf { settling d with pair.settleWait := true }), m)
      else tryPair (sendPages (settling d)) m :=
  (if_neg hl).trans ((if_neg fun h => h.elim (ne_true_of_eq_false hf) (not_bnot_of_true he)).trans rfl)

theorem settlePair_unseen : settlePair false d m = ({ d with pair.partnerWait := true, pool.state := .replaying }, m) := by
  rw [settlePair_eligible hl hf he, if_neg Bool.false_ne_true]

variable {x : Hello} (hx : d.pair.helloIn = some x)
include hx

theorem settlePair_seen : settlePair true d m =
    if helloCode (settling d) x = some 1 ∨ helloCode (settling d) x = some 2 ∨ (!partnerEligible (settling d) x) = true then
      (startSolo (settling d), m)
    else if isWriter (settling d) = true then (acquireStart (drawShelf { settling d with pair.settleWait := true }), m)
    else tryPair (sendPages (settling d)) m := by
  rw [settlePair_eligible hl hf he, if_pos rfl, hx]

theorem settlePair_agrees (hc : helloCode (settling d) x = none) (hp : partnerEligible (settling d) x = true) : settlePair true d m =
    if isWriter (settling d) = true then (acquireStart (drawShelf { settling d with pair.settleWait := true }), m)
    else tryPair (sendPages (settling d)) m := by
  refine (settlePair_seen hl hf he hx).trans (if_neg ?_)
  rw [hc, hp]
  rintro (h | h | h)
  · exact nomatch h
  · exact nomatch h
  · exact Bool.false_ne_true h

end

/-! ## The writer's start (13 R393, R408) -/

theorem drawShelf_draws (h : d.pair.shelfId = 0) : drawShelf d = { d with pair.shelfId := Config.drbg d.draws % 2 ^ 128, draws := d.draws + 1 } :=
  if_pos h

theorem drawShelf_known (h : d.pair.shelfId ≠ 0) : drawShelf d = d := if_neg h

theorem replayComplete_waits (h : d.pool.state ≠ .replaying ∨ d.pool.pages ≠ [] ∨ d.pair.recordPending = true) : replayComplete d m = (d, m) :=
  if_pos (h.imp_right (Or.imp_left fun h => bnot_of_false (Bool.eq_false_iff.mpr fun hb => h (List.isEmpty_iff.mp hb))))

theorem replayComplete_live (hs : d.pool.state = .replaying) (hp : d.pool.pages = []) (hr : d.pair.recordPending = false)
    (hl : d.pair.liveRecovery = true) : replayComplete d m =
      (let x := pruneShadows { d with pool.state := .ready, pool.kept := [] }
       let y := logEvent 2 9 0 (payload 0 0 0 (x.pool.discarded + x.pool.restriped * 2 ^ 64)) (raisePool 3 x)
       tryPair (resumeAll (resumeWork (setAna false { y with pair.liveRecovery := false, host.admissionHeld := false }))) m) := by
  rw [replayComplete, if_neg]
  · dsimp only
    rw [if_pos hl, if_pos hl]
  · rw [hp]
    rintro (h | h | h)
    · exact h hs
    · exact Bool.false_ne_true h
    · exact ne_true_of_eq_false hr h

end

/-! ## A KEK that is loaded (12 R376, R378) -/

section
variable {d : Dev} {b : List Byte} {p : Bool}

theorem shelfkeyLoad_invalid (h : blobOk d b = false) : shelfkeyLoad b p d = mboxDone { status := 2 } d := if_pos (bnot_of_false h)

theorem shelfkeyLoad_sealed (h : blobOk d b = true) (hu : unsealBlob b = none) : shelfkeyLoad b p d = mboxDone { status := 7 } d := by
  rw [shelfkeyLoad, if_neg (not_bnot_of_true h), hu]
  rfl

/-- Replay that waited for a KEK goes on. -/
def loadedGoesOn (d : Dev) : Dev := if d.boot.replayHeld = true ∧ d.keys.kek.isSome = true then replayKept d else d

theorem loadedGoesOn_not (h : d.boot.replayHeld = false) : loadedGoesOn d = d := if_neg fun hb => ne_true_of_eq_false h hb.1

theorem exec_mboxShelfkeyLoad (s : State) : exec (.mboxShelfkeyLoad b p) s = onMbox s (mboxRun fun d => loadedGoesOn (shelfkeyLoad b p d)) := rfl

end

end Sys2Proof.Machine

open Sys2Proof Sys2Proof.Machine

/-- Settles O56: PAIR_SETTLE in each case, the wait's end, the writer's start, and replay from the KEK to its end. -/
theorem startsSettle : Obligations.StartsSettle := by
  intro s h d waits
  refine ⟨fun b ho => gives_pairSettle_other ?_, fun b hr h9 h8 hs hp hw hj hn => makes_pairSettle
      ⟨hr, h9, h8, hs, bnot_of_false hp, bnot_of_false hw, bnot_of_false hj, bnot_of_false hn⟩, fun hl b => settlePair_solo hl,
    fun hl b hf => settlePair_foreign hl hf, fun hl hf he => ⟨settlePair_unseen hl hf he, fun x hx => ⟨fun ho =>
        (settlePair_seen hl hf he hx).trans (if_pos (ho.imp_right (Or.imp_right bnot_of_false))), fun hc hp =>
      ⟨fun hw => (settlePair_agrees hl hf he hx hc hp).trans (if_pos hw),
        fun hw => (settlePair_agrees hl hf he hx hc hp).trans (if_neg (ne_true_of_eq_false hw))⟩⟩⟩,
    fun hr hw => gives_congr rfl (if_pos ⟨hr, hw⟩), fun hp hw => gives_congr rfl (if_neg fun hb => hb.2.elim (ne_true_of_eq_false hp) (ne_true_of_eq_false hw)),
    drawShelf_draws, drawShelf_known, rfl, fun n hu hn => ⟨fun hw => gives_onFrame rfl hu hn (if_pos hw),
      fun hw => gives_onFrame rfl hu hn (if_neg (ne_true_of_eq_false hw))⟩,
    fun ho => gives_of_makes_mem (makes_congr rfl (replayComplete_waits ho)),
    fun hs hp hr hl _ => makes_congr rfl (replayComplete_live hs hp hr hl), fun b p hready hidle => ?_⟩
  · rintro ⟨-, h9, -, hs, hp, hw, hj, -⟩
    rcases ho with ho | ho | ho | ho | ho
    · exact ho h9
    · exact ho hs
    · exact not_bnot_of_true ho hp
    · exact not_bnot_of_true ho hw
    · exact not_bnot_of_true ho hj
  · have loads {x y : Dev} (hx : shelfkeyLoad b p (mboxBegun s.dev) = x) (hy : loadedGoesOn x = y) : Runs (.mboxShelfkeyLoad b p) s y :=
      runs_mbox ⟨hready, Or.inl hidle⟩ (exec_mboxShelfkeyLoad s) ((congrArg loadedGoesOn hx).trans hy)
    refine ⟨fun hb hh => loads (shelfkeyLoad_invalid hb) (loadedGoesOn_not ?_), fun hb hu hh => loads (shelfkeyLoad_sealed hb hu) (loadedGoesOn_not ?_),
      fun v hb hu => ⟨fun hh => loads rfl (loadedGoesOn_not hh), fun hh hk => loads rfl (if_pos ⟨hh, hk⟩)⟩⟩
    · rw [mboxDone_boot]
      exact hh
    · rw [mboxDone_boot]
      exact hh
end

section
/-! A partner lost: heartbeats, the query, takeover, fencing, FORCE and member errors (O57). -/

namespace Sys2Proof.Machine

/-! ## Heartbeats and the query (13 R409, 15 R457) -/

section
variable {d : Dev} {m : Memory}

theorem heartbeatMissed_few (h : d.pair.hbMissed ≠ 2) : heartbeatMissed d m = ({ d with pair.hbMissed := d.pair.hbMissed + 1 }, m) :=
  if_pos fun h3 => h (Nat.succ.inj h3)

theorem heartbeatMissed_third (h : d.pair.hbMissed = 2) : heartbeatMissed d m =
    (let x := { d with pair.hbMissed := d.pair.hbMissed + 1 }
     if d.pair.partner = 1 then abandonPairing (raisePair 1 x) m
     else if d.pair.partner = 2 then (tlQuery (raisePair 1 { x with pair.takeover := .querying }), m) else (x, m)) :=
  if_neg (not_not.mpr (congrArg (· + 1) h))

section
variable {v : Nat}

theorem queryTimeout_none (h : d.tline.query = none) : queryTimeout d = d := by rw [queryTimeout, h]

theorem queryTimeout_first (h : d.tline.query = some (v, false)) : queryTimeout d = tlPartner 6 v { d with tline.query := some (v, true) } := by
  rw [queryTimeout, h]

theorem queryTimeout_second (h : d.tline.query = some (v, true)) (ht : d.pair.takeover = .querying) : queryTimeout d =
    actOnAnswer .noAnswer { d with tline.query := none, pair.tidelinePartner := false, pair.takeover := .none } := by
  rw [queryTimeout, h]
  exact if_pos ht

end

/-! ## The action on an answer (13 R410) -/

section
variable {a : PartnerState} (h : d.pair.role = .active)
include h

theorem actOnAnswer_wired (hf : d.pair.fenceWired = true) :
    actOnAnswer a d = enterSolo { d with pair.fenceOut := true, pair.fencingPartner := true } := by
  rw [actOnAnswer.eq_def, h]
  exact if_pos hf

theorem actOnAnswer_unwired (hf : d.pair.fenceWired = false) : actOnAnswer a d = if a = .noAnswer then enterSolo d
    else tlPartner 8 (d.pair.shelfId % 2 ^ 32) { d with pair.takeover := .soloFencing, pair.fencingPartner := true } := by
  rw [actOnAnswer.eq_def, h]
  exact if_neg (ne_true_of_eq_false hf)

end

@[simp] theorem tlSend_pair (out : Bool) (w : Word64) (d : Dev) : (tlSend out w d).pair = d.pair := by
  unfold tlSend tlDrop
  split_ifs <;> rfl

@[simp] theorem tlPartner_pair (t p : Nat) (d : Dev) : (tlPartner t p d).pair = d.pair := by
  unfold tlPartner
  split
  · rw [tlUnicast]
    split
    · rfl
    · exact tlSend_pair _ _ _
  · rfl

section
variable (h : d.pair.role = .standby)
include h

theorem actOnAnswer_alive : actOnAnswer .alive d = { d with pair.takeover := .waitFence } := by rw [actOnAnswer, h]

theorem actOnAnswer_silent : actOnAnswer .noAnswer d = if d.pair.fenceWired = true then { d with pair.takeover := .grace } else becomeFenced 6 d := by
  rw [actOnAnswer, h]

theorem actOnAnswer_dead : actOnAnswer .dead d =
    (let x := tlPartner 8 (d.pair.shelfId % 2 ^ 32) { d with pair.fencingPartner := true }
     if x.pair.fenceWired = true then startTakeover (wireFence x) else { x with pair.takeover := .fencing }) := by
  have same : (tlineFence d).pair.fenceWired = d.pair.fenceWired := by rw [tlineFence, tlPartner_pair]
  rw [actOnAnswer, h]
  exact congrArg (fun b : Bool => if b = true then startTakeover (wireFence (tlineFence d)) else { tlineFence d with pair.takeover := .fencing })
    same.symm

end

/-! ## PAIR_CTRL (13 R419, R424) -/

theorem pairForce_noKey (f : List PoolFault) : pairForce (0 ||| 2#32) f d = pairIgnore d := if_pos (by decide)

theorem pairForce_key (f : List PoolFault) : pairForce (0xA500 ||| 2#32) f d =
    if d.pair.role ≠ .fenced ∧ (!(d.pair.partnerWait && !recordEligible d)) = true then d
    else
      (let x := acquired (acquireAll true true (clearPairing d))
       liveRecover f (setAna true (recordBegin .forced 2 (some .solo) (logEvent 0x0C 6 2 (payload 0 0 0 0) { x with pair.foreignPool := false })))) :=
  if_neg (by decide)

theorem pairUnfence_noKey : pairUnfence (0 ||| 4#32) d = pairIgnore d := if_pos (by decide)

theorem pairUnfence_key : pairUnfence (0xA500 ||| 4#32) d = if d.pair.fencingPartner = true ∨ d.pair.fenceOut = true then
    tlPartner 9 (d.pair.shelfId % 2 ^ 32) { d with pair.fenceOut := false, pair.fencingPartner := false } else d :=
  if_neg (by decide)

end

/-! ## Errors of member commands (06 R173, 12 R382, 13 R418) -/

/-- Is the reservation conflict of this operation that of a write (13 R418)? -/
def conflicts (op : MemberOp) : Bool :=
  match op with
  | .readBlock _ => false
  | .abort _ => false
  | .resetController => false
  | _ => true

section
variable {d : Dev} {m : Nat} {x : MemberCmd} {b : Bool} (hm : tget d.shelf.cmds m = some x)
include hm

theorem memberError_queued (h : x.phase = .queued) : memberError m b d = d := by
  rw [memberError, hm]
  exact if_pos h

theorem memberError_running (h : x.phase ≠ .queued) : memberError m b d =
    if b = true ∧ conflicts x.op = true then becomeFenced 2 d
    else if recordOp x.op = true then memberEnd m d
    else if x.phase = .reissued then failServing x.bay d
    else reissueMember m (occur 6 3 1 (memberAttr x.bay (opClass x.op)) d) := by
  rw [memberError, hm]
  exact (if_neg h).trans rfl

theorem memberError_retried (h : x.phase ≠ .queued) (hb : ¬ (b = true ∧ conflicts x.op = true)) (hr : recordOp x.op = false) :
    memberError m b d = if x.phase = .reissued then failServing x.bay d
      else reissueMember m (occur 6 3 1 (memberAttr x.bay (opClass x.op)) d) := by
  rw [memberError_running hm h, if_neg hb, if_neg (ne_true_of_eq_false hr)]

end

end Sys2Proof.Machine

open Sys2Proof Sys2Proof.Machine

/-- Settles O57: missed heartbeats and the query, each role's action, the timers of a fence, PAIR_CTRL, and member errors. -/
theorem partnerLost : Obligations.PartnerLost := by
  intro s d missed shelf
  refine ⟨fun h => gives_of_makes_mem (makes_congr rfl (heartbeatMissed_few h)), fun h => ⟨fun hp => ?_, fun hp => ?_, fun hp => ?_⟩,
    fun h => gives_congr rfl (queryTimeout_none h), fun v => ⟨fun h => gives_congr rfl (queryTimeout_first h),
      fun h ht => gives_congr rfl (queryTimeout_second h ht)⟩,
    fun h => ⟨fun hf a => actOnAnswer_wired h hf, fun hf => ⟨(actOnAnswer_unwired h hf).trans (if_pos rfl),
      fun a ha => (actOnAnswer_unwired h hf).trans (if_neg ha)⟩⟩,
    fun h => ⟨actOnAnswer_alive h, fun hf => (actOnAnswer_silent h).trans (if_pos hf), fun hf =>
      ⟨(actOnAnswer_silent h).trans (if_neg (ne_true_of_eq_false hf)), actOnAnswer_dead h⟩⟩,
    fun h hh => gives_congr rfl (if_pos ⟨h, bnot_of_false hh⟩), fun h => gives_congr rfl (if_neg fun hb => h.elim (· hb.1) fun hh => not_bnot_of_true hh hb.2),
    fun h => gives_congr rfl (if_pos h), fun h => gives_congr rfl (if_neg h),
    ⟨fun h => gives_congr rfl (if_neg (ne_true_of_eq_false h)), fun h => gives_congr rfl (if_pos h)⟩,
    fun f => ⟨fun h => gives_congr rfl (if_pos h), fun h => gives_congr rfl (if_neg (not_not.mpr h))⟩,
    fun ho => ⟨fun f => ⟨gives_whenReg ho rfl (pairForce_noKey f), fun hr hw => gives_whenReg ho rfl ((pairForce_key f).trans (if_pos ?_)),
        fun hr => gives_whenReg ho rfl ((pairForce_key f).trans (if_neg fun hb => hb.1 hr))⟩, gives_whenReg ho rfl pairUnfence_noKey,
      fun hf => gives_whenReg ho rfl (pairUnfence_key.trans (if_pos (Or.inl hf))),
      fun hf hn => gives_whenReg ho rfl (pairUnfence_key.trans (if_neg fun hb => hb.elim (ne_true_of_eq_false hf) (ne_true_of_eq_false hn)))⟩,
    fun m x hm => ⟨fun h b => gives_congr rfl (memberError_queued hm h), fun p hp b => ?_, fun k i hp hq => ?_, fun l k hp hq => ?_⟩,
    fun r hr => if_pos hr⟩
  · exact gives_of_makes_mem (makes_congr rfl ((heartbeatMissed_third h).trans ((if_neg (by rw [show s.dev.pair.partner = 0 from hp]; decide)).trans
      (if_neg (by rw [show s.dev.pair.partner = 0 from hp]; decide)))))
  · exact makes_congr rfl ((heartbeatMissed_third h).trans (if_pos hp))
  · exact gives_of_makes_mem (makes_congr rfl ((heartbeatMissed_third h).trans ((if_neg (by rw [show s.dev.pair.partner = 2 from hp]; decide)).trans
      (if_pos hp))))
  · rw [show s.dev.pair.role = .solo from hr, show s.dev.pair.partnerWait = false from hw]
    exact ⟨nofun, rfl⟩
  · have errs {e : Dev} (h : x.phase ≠ .queued) (he : (if x.phase = .reissued then failServing x.bay d
        else reissueMember m (occur 6 3 1 (memberAttr x.bay (opClass x.op)) d)) = e) : Gives (.memberCommandError m b) s e :=
      gives_congr rfl ((memberError_retried hm h (by rw [hp]; exact fun hb => Bool.false_ne_true hb.2) (by rw [hp]; rfl)).trans he)
    exact ⟨fun h hr => errs h ((if_neg hr).trans (by rw [hp]; rfl)), fun hr => errs (by rw [hr]; exact nofun) (if_pos hr)⟩
  · have errs {e : Dev} (he : (if x.phase = .reissued then failServing x.bay d
        else reissueMember m (occur 6 3 1 (memberAttr x.bay (opClass x.op)) d)) = e) : Gives (.memberCommandError m false) s e :=
      gives_congr rfl ((memberError_retried hm hq (fun hb => Bool.false_ne_true hb.1) (by rw [hp]; rfl)).trans he)
    exact ⟨gives_congr rfl ((memberError_running hm hq).trans (if_pos ⟨rfl, by rw [hp]; rfl⟩)), fun hr => errs (if_pos hr),
      fun hr => errs ((if_neg hr).trans (by rw [hp]; rfl))⟩
  · exact gives_congr rfl ((memberError_running hm hq).trans ((if_neg fun hb => Bool.false_ne_true hb.1).trans (if_pos (by rw [hp]; rfl))))
end

section
/-! Planned role swaps and the Tide Table (O58). -/

namespace Sys2Proof.Machine

/-! ## A swap begins (13 R415) -/

section
variable {d : Dev}

theorem startSwap_underWay (h : d.pair.swap ≠ .none ∨ d.pair.swapDeferred = true) : startSwap d = d := if_pos h

section
variable (hs : d.pair.swap = .none) (hd : d.pair.swapDeferred = false)
include hs hd

theorem startSwap_free : startSwap d = if d.pair.role ≠ .active ∨ d.pair.partner ≠ 2 ∨ d.chart.state ≠ .idle then swapEnds 2 d
    else if coveBusy d = true then { d with pair.swapDeferred := true } else beginSwap d :=
  if_neg fun h => h.elim (· hs) (ne_true_of_eq_false hd)

theorem startSwap_paired (hr : d.pair.role = .active) (hp : d.pair.partner = 2) (hc : d.chart.state = .idle) :
    startSwap d = if coveBusy d = true then { d with pair.swapDeferred := true } else beginSwap d :=
  (startSwap_free hs hd).trans (if_neg fun h => h.elim (· hr) (·.elim (· hp) (· hc)))

end

/-! ## The self-test and the pause (13 R415 to R417) -/

section
variable {b : Bool} {p : List Nat}

theorem selftestDone_other (h : d.pair.swap ≠ .selftest) : selftestDone b p d = d := if_pos h

variable (h : d.pair.swap = .selftest)
include h

theorem selftestDone_standby (hr : d.pair.role = .standby) : selftestDone b p d =
    if b = true then setAna true { d with pair.selftestFail := false } else selftestFailed p d := (if_neg (not_not.mpr h)).trans (if_pos hr)

theorem selftestDone_active (hr : d.pair.role = .active) : selftestDone b p d =
    if b = true ∧ (d.chart.state = .writing ∨ d.chart.state = .switching) then
      { d with pair.selftestFail := false, pair.swap := .none, pair.swapDeferred := true }
    else if b = true then swapPause { d with pair.selftestFail := false }
    else swapEnds 3 (logEvent 0x0C 4 2 (payload 0 0 0 0) { d with pair.selftestFail := true }) := by
  have other : ¬ d.pair.role = .standby := by rw [hr]; exact nofun
  exact (if_neg (not_not.mpr h)).trans (if_neg other)

end

theorem swapAbandoned_draining (h : d.pair.swap = .draining) : swapAbandoned d =
    resumeAll (swapEnds 4 (setAna false { d with host.admissionHeld := false, pair.pauseMs := pauseSoFar d })) := by
  rw [swapAbandoned, h]

theorem swapAbandoned_standby (h : d.pair.swap = .selftest) (hr : d.pair.role = .standby) :
    swapAbandoned d = setAna false { d with pair.swap := .none } := by
  rw [swapAbandoned, h]
  exact if_pos hr

theorem swapAbandoned_other (h : d.pair.swap ≠ .draining) (h' : d.pair.swap ≠ .selftest) : swapAbandoned d = d := by
  unfold swapAbandoned
  split
  · exact absurd ‹_› h
  · exact absurd ‹_› h'
  · rfl

/-! ## Handover (13 R415 steps 4 to 6) -/

theorem swapGiven_other {m : Memory} (h : d.pair.swap ≠ .handover ∨ d.pair.role ≠ .active) : swapGiven d m = (d, m) := if_pos h

theorem swapGiven_hands {m : Memory} (h : d.pair.swap = .handover) (hr : d.pair.role = .active) (hf : d.pair.swapForFirmware = false) :
    swapGiven d m = (resumeAll (swapEnds 1 (setRole .standby { d with
      pair.pauseMs := pauseSoFar d, host.admissionHeld := false, host.anaChange := false
      pair.mirrorPages := [], pair.rxMseq := 0, shelf.drives := tall d.shelf.drives (fun v => { v with holder := false }) })), m) :=
  (if_neg fun hb => hb.elim (· h) (· hr)).trans (if_neg (ne_true_of_eq_false hf))

/-! ## The Tide Table (10 R323 to R325) -/

section
variable {p i : Nat} {x : TideEntry}

theorem tideEntry_none (h : (entriesOf (chartOf d))[i]? = none) : tideEntry p i d = d := by rw [tideEntry, h]

section
variable (hx : (entriesOf (chartOf d))[i]? = some x) (hv : d.clk.todValid = true)
include hx hv

theorem tideEntry_executed (h : (recompute d).clk.executed.contains (p, i) = true) : tideEntry p i d = recompute d := by
  rw [tideEntry, hx]
  dsimp only
  rw [if_pos hv]
  exact if_pos h

theorem tideEntry_plain (h : (recompute d).clk.executed.contains (p, i) = false) (hs : x.swap = false) (hr : x.rack = false) :
    tideEntry p i d = { recompute d with clk.executed := (recompute d).clk.executed ++ [(p, i)] } := by
  rw [tideEntry, hx]
  dsimp only
  rw [if_pos hv, if_neg (ne_true_of_eq_false h), if_neg (ne_true_of_eq_false hs), if_neg fun hb => ne_true_of_eq_false hr hb.1]

end

theorem swapEntry_permitted (hq : ((profilesOf (chartOf d))[x.profile]?).any (fun q => q.swapPermit == 1) = true)
    (he : (chartOf d).pair.swapEnable = 1) (hr : d.pair.role = .active) (hp : d.pair.partner = 2) (hv : d.clk.todValid = true) :
    swapEntry i x d = if d.chart.state = .idle then startSwap d else { d with clk.swapWaiting := true } := if_pos ⟨hq, he, hr, hp, hv⟩

theorem swapEntry_other (h : d.pair.role ≠ .active ∨ d.pair.partner ≠ 2 ∨ d.clk.todValid = false) :
    swapEntry i x d = logEvent 9 7 0 (payload i 0 0 0) d := by
  refine if_neg ?_
  rintro ⟨-, -, hr, hp, hv⟩
  exact h.elim (· hr) (·.elim (· hp) (fun h => ne_true_of_eq_false h hv))

end

end

end Sys2Proof.Machine

open Sys2Proof Sys2Proof.Machine

/-- Settles O58: a swap from its request to its end at either side, the Tide Table, and a swap that waits for the Chart engine. -/
theorem rolesSwap : Obligations.RolesSwap := by
  intro s h d e prepare
  refine ⟨fun ho => ⟨gives_whenReg ho rfl (if_neg (by decide)), gives_whenReg ho rfl (if_pos (by decide))⟩, startSwap_underWay,
    fun hs hd => ⟨fun hn => (startSwap_free hs hd).trans (if_pos hn), fun hr hp hc => ⟨fun hb => (startSwap_paired hs hd hr hp hc).trans (if_pos hb),
      fun hb => (startSwap_paired hs hd hr hp hc).trans (if_neg (ne_true_of_eq_false hb))⟩⟩,
    fun hu hn => ⟨fun hr hp => gives_onFrame rfl hu hn (if_pos ⟨hr, hp⟩), fun ho => gives_onFrame rfl hu hn (if_neg fun hb => ho.elim (· hb.1) (· hb.2)),
      fun x w hm => gives_mirrored hu hn hm rfl rfl, makes_frame hu hn rfl rfl⟩,
    fun p => ⟨fun hs b => gives_congr rfl (selftestDone_other hs), fun hs hr => ⟨gives_congr rfl ((selftestDone_standby hs hr).trans (if_pos rfl)),
        gives_congr rfl ((selftestDone_standby hs hr).trans (if_neg Bool.false_ne_true))⟩, fun hs hr => ⟨fun hw hsw => ?_, fun hc => ?_, ?_⟩⟩,
    rfl, fun hs => gives_congr rfl (swapAbandoned_draining hs), fun hs hr => gives_congr rfl (swapAbandoned_standby hs hr),
    fun hs hs' => gives_congr rfl (swapAbandoned_other hs hs'), fun hs hr => gives_congr rfl (if_pos ⟨hs, hr⟩),
    fun ho => gives_congr rfl (if_neg fun hb => ho.elim (· hb.1) fun hr => ne_true_of_eq_false hr hb.2), fun x w ho => if_pos ho,
    fun hs => gives_congr rfl (if_pos hs), fun hs => gives_congr rfl (if_neg hs), swapGiven_other, swapGiven_hands,
    fun p i x hx hv => ⟨fun hc => gives_congr rfl (tideEntry_executed hx hv hc), fun hc hs hr => gives_congr rfl (tideEntry_plain hx hv hc hs hr)⟩,
    fun p i hx => gives_congr rfl (tideEntry_none hx), fun i x hq he hr hp hv => swapEntry_permitted hq he hr hp hv, fun i x => swapEntry_other,
    ⟨rfl, fun hw => makes_congr rfl (thenSwap_none hw)⟩, fun p => rfl, fun b => ⟨rfl, rfl⟩⟩
  · exact gives_congr rfl ((selftestDone_active hs hr).trans ((if_neg fun hb => hb.2.elim hw hsw).trans (if_pos rfl)))
  · exact gives_congr rfl ((selftestDone_active hs hr).trans (if_pos ⟨rfl, hc⟩))
  · exact gives_congr rfl ((selftestDone_active hs hr).trans ((if_neg fun hb => Bool.false_ne_true hb.1).trans (if_neg Bool.false_ne_true)))
end

section
/-! The Tideline: links, frames and addresses (O59). -/

namespace Sys2Proof.Machine

/-- Is the link that a frame arrives on up? -/
def tlLinkUp (inn : Bool) (d : Dev) : Bool := if inn then d.tline.inUp else d.tline.outUp

/-! ## A frame that arrives (15 R451, R452, R456) -/

section
variable {d : Dev} {inn : Bool} {w : Word64} {k : Nat} {f : Dev → Dev}

theorem tlReceive_off (h : d.boot.alwaysOn = false ∨ tlLinkUp inn d = false) : tlReceive k inn w f d = d :=
  if_pos (h.imp bnot_of_false bnot_of_false)

section
variable (ho : d.boot.alwaysOn = true) (hu : tlLinkUp inn d = true)
include ho hu

theorem tlReceive_on : tlReceive k inn w f d = if (!tlCrcOk w) = true ∨ 14 ≤ tlType w then { d with tline.bad := satAdd 32 d.tline.bad 1 }
    else if tlType w ≠ k then d else f (judgeHead w d) :=
  if_neg fun h => h.elim (not_bnot_of_true ho) (not_bnot_of_true hu)

theorem tlReceive_bad (h : tlCrcOk w = false ∨ 14 ≤ tlType w) : tlReceive k inn w f d = { d with tline.bad := satAdd 32 d.tline.bad 1 } :=
  (tlReceive_on ho hu).trans (if_pos (h.imp_left bnot_of_false))

variable (hc : tlCrcOk w = true)
include hc

theorem tlReceive_other (ht : tlType w < 14) (hk : tlType w ≠ k) : tlReceive k inn w f d = d :=
  (tlReceive_on ho hu).trans ((if_neg fun h => h.elim (not_bnot_of_true hc) (Nat.not_le.mpr ht)).trans (if_pos hk))

theorem tlReceive_type (ht : tlType w < 14) : tlReceive (tlType w) inn w f d = f (judgeHead w d) :=
  (tlReceive_on ho hu).trans ((if_neg fun h => h.elim (not_bnot_of_true hc) (Nat.not_le.mpr ht)).trans (if_neg (not_not.mpr rfl)))

end

theorem judgeHead_notHead (h : d.tline.head = false) : judgeHead w d = d := if_neg fun hb => ne_true_of_eq_false h hb.1

/-- A frame reaches a controller that is not the head: whole, on a link that is up (15 R451, R452). -/
structure TlArrives (inn : Bool) (w : Word64) (d : Dev) : Prop where
  crc : tlCrcOk w = true
  on : d.boot.alwaysOn = true
  up : tlLinkUp inn d = true
  notHead : d.tline.head = false

theorem tlReceive_takes (h : TlArrives inn w d) (hk : tlType w = k) (h14 : k < 14) : tlReceive k inn w f d = f d := by
  obtain ⟨hc, ho, hu, hh⟩ := h
  subst hk
  rw [tlReceive_type ho hu hc h14, judgeHead_notHead hh]

theorem gives_tlReceive {s : State} {i : Instr} {e : Dev} (h : TlArrives inn w s.dev) (hk : tlType w = k) (h14 : k < 14)
    (hi : exec i s = onDev s (tlReceive k inn w f)) (he : f s.dev = e) : Gives i s e := by
  rw [Gives, hi, onDev, tlReceive_takes h hk h14, he]

/-! ## Passing a frame on (15 R454) -/

theorem tlForward_last (out : Bool) (h : tlHop w = 63) : tlForward out w d = tlDrop d := if_pos (Or.inl h)

theorem tlPass_bcast (h : tlBcast w = true) : tlPass inn w d = if d.tline.addr = some (tlSrc w) then tlDrop d else tlForward inn w d := if_pos h

theorem tlPass_unnumbered (h : tlBcast w = false) (ha : d.tline.addr = none) : tlPass inn w d = tlForward inn w d := by
  rw [tlPass, if_neg (ne_true_of_eq_false h), ha]

theorem tlPass_unicast {a : Nat} (h : tlBcast w = false) (ha : d.tline.addr = some a) :
    tlPass inn w d = if tlDst w = a then d else tlForward (decide (a < tlDst w)) w d := by
  rw [tlPass, if_neg (ne_true_of_eq_false h), ha]

theorem tlPass_last (h : tlHop w = 63) : tlPass inn w d = tlDrop d ∨ (tlBcast w = false ∧ ∃ a, d.tline.addr = some a ∧ tlDst w = a) := by
  cases hb : tlBcast w with
  | true => rw [tlPass_bcast hb, tlForward_last _ h, ite_self]; exact Or.inl rfl
  | false =>
    cases ha : d.tline.addr with
    | none => exact Or.inl ((tlPass_unnumbered hb ha).trans (tlForward_last _ h))
    | some a =>
      by_cases hd : tlDst w = a
      · exact Or.inr ⟨rfl, a, rfl, hd⟩
      · exact Or.inl ((tlPass_unicast hb ha).trans ((if_neg hd).trans (tlForward_last _ h)))

theorem tlPass_own (h : tlBcast w = true) (ha : d.tline.addr = some (tlSrc w)) : tlPass inn w d = tlDrop d :=
  (tlPass_bcast h).trans (if_pos ha)

theorem tlHeard_own (h : tlBcast w = true) (ha : d.tline.addr = some (tlSrc w)) : tlHeard inn w f d = tlDrop d :=
  (congrArg (tlPass inn w) (if_pos ha)).trans (tlPass_own h ha)

theorem tlHeard_other (ha : d.tline.addr ≠ some (tlSrc w)) : tlHeard inn w f d = tlPass inn w (f d) := congrArg (tlPass inn w) (if_neg ha)

section
variable {a : Nat} (h : tlBcast w = false) (ha : d.tline.addr = some a)
include h ha

theorem tlMine_here (hd : tlDst w = a) : tlMine inn w f d = f d := if_pos ⟨bnot_of_false h, by rw [ha, hd]⟩

theorem tlMine_passed (hd : tlDst w ≠ a) : tlMine inn w f d = tlForward (decide (a < tlDst w)) w d := by
  refine (if_neg fun hb => hd ?_).trans ((tlPass_unicast h ha).trans (if_neg hd))
  rw [ha] at hb
  exact (Option.some.inj hb.2).symm

end

/-! ## Numbering (15 R455, R456) -/

section
variable {a : Option Nat} (ha : (if tlNumbered w = true then some (tlSrc w) else none) = a)
include ha

theorem tlNullFrame_out : tlNullFrame false w d = { d with tline.downstream := a } := ha ▸ rfl

theorem tlNullFrame_in : tlNullFrame true w d = if d.tline.addr.isSome = true ∨ d.tline.settled = true ∨ d.tline.claim.isSome = true ∨
      (!tlNumbered w) = true ∨ (!d.boot.started) = true then { d with tline.upstream := a }
    else if tlSrc w = 63 then { d with tline.upstream := a, tline.settled := true }
    else tlClaim (tlSrc w + 1) { d with tline.upstream := a } := ha ▸ rfl

theorem tlNullFrame_known (h : d.tline.addr.isSome = true ∨ tlNumbered w = false) : tlNullFrame true w d = { d with tline.upstream := a } :=
  (tlNullFrame_in ha).trans (if_pos (h.imp_right fun h => Or.inr (Or.inr (Or.inl (bnot_of_false h)))))

theorem tlNullFrame_claims (h : d.tline.addr = none) (hs : d.tline.settled = false) (hc : d.tline.claim = none) (hn : tlNumbered w = true)
    (hb : d.boot.started = true) : tlNullFrame true w d = if tlSrc w = 63 then { d with tline.upstream := a, tline.settled := true }
      else tlClaim (tlSrc w + 1) { d with tline.upstream := a } :=
  (tlNullFrame_in ha).trans (if_neg (by simp [h, hs, hc, hn, hb]))

end

theorem tlEnumerate_other (h : inn = false ∨ tlSrc w = 63 ∨ d.boot.started = false) : tlEnumerate inn w d = d :=
  if_pos (h.imp bnot_of_false fun h => Or.inr (h.imp_right bnot_of_false))

theorem tlEnumerate_takes (hh : d.tline.head = false) (hs : tlSrc w ≠ 63) (hb : d.boot.started = true) : tlEnumerate true w d =
    tlSettled (logEvent 0x11 3 0 (payload 0 (d.tline.addr.getD 0xFF) (tlSrc w + 1) 0)
      (tlEnum { tlTake (tlSrc w + 1) d with tline.reenums := d.tline.reenums + 1 })) :=
  if_neg fun h => h.elim (fun h => Bool.false_ne_true h) (·.elim (ne_true_of_eq_false hh) (·.elim hs (not_bnot_of_true hb)))

theorem tlReenum_head (hh : d.tline.head = true) (hc : d.tline.headConflict = false) : tlReenum d = mboxDone { status := 0 } (tlEnum d) :=
  (if_pos hh).trans (congrArg (mboxOk 0) (if_neg (ne_true_of_eq_false hc)))

theorem tlReenum_asks (hh : d.tline.head = false) : tlReenum d =
    tlUnicast 5 0 0 { d with host.waits := d.host.waits ++ [{ cntlid := 0, cid := 0, kind := 9 }] } := if_neg (ne_true_of_eq_false hh)

theorem tlNull_before (b : Bool) (h : d.boot.started = false) : tlNull b d = d := if_pos (Or.inl (bnot_of_false h))

/-- TLI_IN has not come up, and the address is not settled: its timeout (15 R455). -/
theorem gives_tlineInTimeout {s : State} (ho : s.dev.boot.alwaysOn = true) (hi : s.dev.tline.inUp = false) (hs : s.dev.tline.settled = false)
    (ha : s.dev.tline.addr = none) (hb : s.dev.boot.started = true) : Gives .tlineInTimeout s (match s.dev.tline.stored with
      | some a => tlTake a s.dev
      | none => { s.dev with tline.settled := true }) :=
  gives_congr rfl ((if_neg (by simp [tlPowered, ho, hi, hs, ha, hb])).trans rfl)

theorem gives_tlineInTimeout_settled {s : State} (h : s.dev.tline.inUp = true ∨ s.dev.tline.settled = true ∨ s.dev.tline.addr.isSome = true) :
    Gives .tlineInTimeout s s.dev := gives_congr rfl (if_pos (Or.inr (h.imp_right (Or.imp_right Or.inl))))

/-! ## The slots of a link (15 R454) -/

section
variable (ho : d.boot.alwaysOn = true) (hu : d.tline.outUp = true)
include ho hu

theorem tlSend_out : tlSend true w d = if 16 ≤ d.tline.outQ.length then tlDrop d else { d with tline.outQ := tlQueued d.tline.outQ w } :=
  (if_pos ⟨ho, hu⟩).trans rfl

theorem tlSend_full (h : 16 ≤ d.tline.outQ.length) : tlSend true w d = tlDrop d := (tlSend_out ho hu).trans (if_pos h)

theorem tlSend_room {q : List Word64} (h : d.tline.outQ.length < 16) (hq : tlQueued d.tline.outQ w = q) :
    tlSend true w d = { d with tline.outQ := q } := hq ▸ (tlSend_out ho hu).trans (if_neg (Nat.not_le.mpr h))

end

end

end Sys2Proof.Machine

open Sys2Proof Sys2Proof.Machine

/-- Settles O59: a frame that arrives, is passed on or taken, how an address is found, and the links' slots. -/
theorem chainAddresses : Obligations.ChainAddresses := by
  intro s inn w d dropped up whole
  have arrives (h : whole) : TlArrives inn w d := ⟨h.1, h.2.1, h.2.2.1, h.2.2.2⟩
  refine ⟨fun h k f => tlReceive_off h, fun ho hu h k f => tlReceive_bad ho hu h, fun h k f hk => ⟨fun ht => tlReceive_takes (arrives h) ht hk, fun h14 ht => ?_⟩,
    fun ho hu hc h14 h2 hh hn hs hf f => ?_, tlPass_last, fun hb ha => ⟨tlPass_own hb ha, fun f => tlHeard_own hb ha⟩,
    fun a hb ha => ⟨fun hd f => tlMine_here hb ha hd, fun hd f => tlMine_passed hb ha hd⟩, fun h => ?_,
    fun v c h => gives_congr rfl ?_, fun h => gives_congr rfl ?_, fun ho hi hs ha hb => ⟨fun hn => gives_congr (gives_tlineInTimeout ho hi hs ha hb) ?_,
      fun a hn => gives_congr (gives_tlineInTimeout ho hi hs ha hb) ?_⟩, gives_tlineInTimeout_settled, ?_,
    fun ho => ⟨gives_congr rfl (if_neg (not_bnot_of_true ho)), gives_congr rfl (if_neg (not_bnot_of_true ho))⟩, fun h b => tlNull_before b h, rfl, rfl,
    fun f ho hu => ⟨tlSend_full ho hu, fun hl hq => tlSend_room ho hu hl (if_neg (ne_true_of_eq_false hq)), fun hl hq => tlSend_room ho hu hl (if_pos hq)⟩,
    fun f l h => ?_⟩
  · obtain ⟨hc, ho, hu, -⟩ := h
    exact tlReceive_other ho hu hc h14 ht
  · exact (tlReceive_type ho hu hc h14).trans (congrArg f (if_pos ⟨hh, hn, hs, h2, bnot_of_false hf⟩))
  · have h' := arrives h
    refine ⟨fun h0 => ?_, fun h2 => ⟨fun ha => ?_, fun ha => ?_⟩, fun h3 ha => ⟨fun v c hc hv => ?_, fun hc => ?_⟩, fun h4 => ?_, fun h5 => ?_⟩
    · intro a
      have nulls {b : Bool} {e : Dev} (hb : inn = b) (he : tlNullFrame b w d = e) : Gives (.tlineNull inn w) s e :=
        gives_tlReceive h' h0 (by decide) rfl (hb ▸ he)
      exact ⟨fun hi => nulls hi (tlNullFrame_out rfl), fun hi => ⟨fun hk => nulls hi (tlNullFrame_known rfl hk), fun ha hs hc hn hb =>
        ⟨fun h63 => nulls hi ((tlNullFrame_claims rfl ha hs hc hn hb).trans (if_pos h63)),
          fun h63 => nulls hi ((tlNullFrame_claims rfl ha hs hc hn hb).trans (if_neg (Nat.ne_of_lt h63)))⟩⟩⟩
    · exact gives_tlReceive h' h2 (by decide) rfl (if_pos ha)
    · exact gives_tlReceive h' h2 (by decide) rfl (if_neg ha)
    · have mine : d.tline.claim.any (fun c => c.1 == tlPayload w % 65536) = true := by rw [hc, hv]; exact beq_self_eq_true _
      exact gives_tlReceive h' h3 (by decide) rfl ((tlHeard_other (by rw [ha]; exact nofun)).trans (congrArg (tlPass inn w) (if_pos mine)))
    · have none_ : ¬ d.tline.claim.any (fun c => c.1 == tlPayload w % 65536) = true := by rw [hc]; exact nofun
      exact gives_tlReceive h' h3 (by decide) rfl ((tlHeard_other (by rw [ha]; exact nofun)).trans (congrArg (tlPass inn w) (if_neg none_)))
    · have enums {e : Dev} (he : tlEnumerate inn w d = e) : Runs (.tlineEnum inn w) s e :=
        runs_onMbox (f := tlReceive 4 inn w (tlEnumerate inn w)) rfl ((tlReceive_takes h' h4 (by decide)).trans he)
      refine ⟨fun ho => enums (tlEnumerate_other ho), fun hi hs hb => enums ?_⟩
      subst hi
      exact tlEnumerate_takes h'.notHead (Nat.ne_of_lt hs) hb
    · exact gives_tlReceive h' h5 (by decide) rfl rfl
  · dsimp only
    rw [h]
  · dsimp only
    rw [h]
  · rw [hn]
  · rw [hn]
  · intro e hready hidle
    exact ⟨fun hh hc => runs_mbox ⟨hready, Or.inl hidle⟩ rfl (tlReenum_head (d := e) hh hc), fun hh => runs_mbox ⟨hready, Or.inl hidle⟩ rfl (tlReenum_asks (d := e) hh)⟩
  · rw [tlSlotOut, h]
end

section
/-! The Tideline: roster, queries, fences and time (O60). -/

namespace Sys2Proof.Machine

/-! ## The fields of a frame (15 R452, R453) -/

section
variable (k : Nat) (b n : Bool) (t r h p : Nat)

/-- A frame without its CRC. -/
def tlBody : Nat := (k % 16) * 2 ^ 60 + b2n b * 2 ^ 59 + b2n n * 2 ^ 58 + (t % 64) * 2 ^ 52 + (r % 64) * 2 ^ 46
  + (h % 64) * 2 ^ 40 + (p % 2 ^ 32) * 2 ^ 8

theorem tlCrc_lt (x : Nat) : tlCrc x < 256 := (crc8 _).isLt

theorem b2n_lt (b : Bool) : b2n b < 2 := by cases b <;> decide

theorem tlFrame_toNat : (tlFrame k b n t r h p).toNat = tlBody k b n t r h p + tlCrc (tlBody k b n t r h p) := by
  have crc := tlCrc_lt (tlBody k b n t r h p)
  have hb := b2n_lt b
  have hn := b2n_lt n
  rw [tlFrame, ← tlBody, BitVec.toNat_ofNat]
  refine Nat.mod_eq_of_lt ?_
  generalize tlCrc (tlBody k b n t r h p) = c at crc ⊢
  rw [tlBody]
  omega

/-- A frame with the fields of a whole one, and its CRC, as a sum of the fields at their places. -/
theorem tlFrame_sum : ∃ c < 256, (tlFrame k b n t r h p).toNat = (k % 16) * 2 ^ 60 + b2n b * 2 ^ 59 + b2n n * 2 ^ 58 + (t % 64) * 2 ^ 52
    + (r % 64) * 2 ^ 46 + (h % 64) * 2 ^ 40 + (p % 2 ^ 32) * 2 ^ 8 + c := ⟨_, tlCrc_lt _, tlFrame_toNat k b n t r h p⟩

theorem tlType_tlFrame : tlType (tlFrame k b n t r h p) = k % 16 := by
  obtain ⟨c, hc, hf⟩ := tlFrame_sum k b n t r h p
  have hb := b2n_lt b
  have hn := b2n_lt n
  rw [tlType, bits, hf]
  omega

theorem tlDst_tlFrame : tlDst (tlFrame k b n t r h p) = t % 64 := by
  obtain ⟨c, hc, hf⟩ := tlFrame_sum k b n t r h p
  rw [tlDst, bits, hf]
  omega

theorem tlSrc_tlFrame : tlSrc (tlFrame k b n t r h p) = r % 64 := by
  obtain ⟨c, hc, hf⟩ := tlFrame_sum k b n t r h p
  rw [tlSrc, bits, hf]
  omega

theorem tlHop_tlFrame : tlHop (tlFrame k b n t r h p) = h % 64 := by
  obtain ⟨c, hc, hf⟩ := tlFrame_sum k b n t r h p
  rw [tlHop, bits, hf]
  omega

theorem tlPayload_tlFrame : tlPayload (tlFrame k b n t r h p) = p % 2 ^ 32 := by
  obtain ⟨c, hc, hf⟩ := tlFrame_sum k b n t r h p
  rw [tlPayload, bits, hf]
  omega

theorem decide_b2n (b : Bool) : decide (b2n b = 1) = b := by cases b <;> rfl

theorem tlBcast_tlFrame : tlBcast (tlFrame k b n t r h p) = b := by
  obtain ⟨c, hc, hf⟩ := tlFrame_sum k b n t r h p
  have hb := b2n_lt b
  have hn := b2n_lt n
  have field : (tlFrame k b n t r h p).toNat / 2 ^ 59 % 2 = b2n b := by omega
  rw [tlBcast, bit, Nat.testBit_eq_decide_div_mod_eq, field, decide_b2n]

theorem tlNumbered_tlFrame : tlNumbered (tlFrame k b n t r h p) = n := by
  obtain ⟨c, hc, hf⟩ := tlFrame_sum k b n t r h p
  have hn := b2n_lt n
  have field : (tlFrame k b n t r h p).toNat / 2 ^ 58 % 2 = b2n n := by omega
  rw [tlNumbered, bit, Nat.testBit_eq_decide_div_mod_eq, field, decide_b2n]

theorem tlCrcOk_tlFrame : tlCrcOk (tlFrame k b n t r h p) = true := by
  have crc := tlCrc_lt (tlBody k b n t r h p)
  have whole : tlBody k b n t r h p % 256 = 0 := by rw [tlBody]; omega
  have body : (tlFrame k b n t r h p).toNat / 256 * 256 = tlBody k b n t r h p := by rw [tlFrame_toNat]; omega
  have last : (tlFrame k b n t r h p).toNat % 256 = tlCrc (tlBody k b n t r h p) := by rw [tlFrame_toNat]; omega
  rw [tlCrcOk, body, last, beq_self_eq_true]

theorem tlUrgent_tlFrame : tlUrgent (tlFrame k b n t r h p) = decide (6 ≤ k % 16 ∧ k % 16 ≤ 10) := by
  unfold tlUrgent
  rw [tlType_tlFrame]

end

/-! ## Queries and fences (15 R457) -/

section
variable {d : Dev} {w : Word64} {a : Nat}

theorem tlFenceOk_iff (ha : d.tline.addr = some a) :
    tlFenceOk d w = true ↔ (tlSrc w = a + 1 ∨ tlSrc w + 1 = a) ∧ tlPayload w = d.pair.shelfId % 2 ^ 32 := by
  rw [tlFenceOk, ha, Option.any_some, Bool.and_eq_true, Bool.or_eq_true]
  simp only [beq_iff_eq]
  rfl

theorem tlFenced_alive {src : Nat} (h : tlState d = 0) : tlFenced src d = tlUnicast 10 src 0 (becomeFenced 1 d) := if_pos h

theorem tlFenced_held {src : Nat} (h : tlState d ≠ 0) :
    tlFenced src d = tlUnicast 10 src 1 (stopAndHold { d with boot.tlineHold := true, tline.fencedBy := some src }) := if_neg h

theorem tlUnfenced_same {src : Nat} (h : d.boot.tlineHold = true) (hs : d.tline.fencedBy = some src) :
    tlUnfenced src d = beginStart { d with boot.tlineHold := false, tline.fencedBy := none } := if_pos ⟨h, hs⟩

theorem tlUnfenced_other {src : Nat} (h : d.boot.tlineHold = false ∨ d.tline.fencedBy ≠ some src) : tlUnfenced src d = d :=
  if_neg fun hb => h.elim (ne_true_of_eq_false · hb.1) (· hb.2)

theorem fenceAcked_fencing (h : d.pair.takeover = .fencing) : fenceAcked d = startTakeover { d with pair.takeover := .none } := by
  rw [fenceAcked, h]

theorem fenceAcked_solo (h : d.pair.takeover = .soloFencing) : fenceAcked d = enterSolo d := by rw [fenceAcked, h]

theorem fenceAcked_none (h : d.pair.takeover = .none) : fenceAcked d = d := by rw [fenceAcked, h]

/-! ## Time over the chain (15 R458) -/

theorem tlAccepts_own (h : d.tline.addr = some (tlSrc w)) : tlAccepts d w = false := by
  rw [tlAccepts, h, bne_self_eq_false, Bool.false_and]

theorem tlAccepts_higher {o : Nat} (h : d.tline.timeOrigin = some o) (ho : o < tlSrc w) : tlAccepts d w = false := by
  rw [tlAccepts, h]
  simp [Nat.not_le.mpr ho]

theorem tlAccepts_heard (h : d.tline.addr ≠ some (tlSrc w)) (ho : d.tline.timeOrigin = none ∨ ∃ o, d.tline.timeOrigin = some o ∧ tlSrc w ≤ o) :
    tlAccepts d w = true := by
  rcases ho with ho | ⟨o, ho, hle⟩
  · simp [tlAccepts, h, ho]
  · simp [tlAccepts, h, ho, hle]

section
variable {inn : Bool} {p : Nat}

theorem tlRegenerate_origin (h : tlOrigin d = true) : tlRegenerate inn w p d = d := if_pos h

theorem tlRegenerate_passes (h : tlOrigin d = false) : tlRegenerate inn w p d =
    tlSend inn (tlFrame (tlType w) (tlBcast w) (tlNumbered w) (tlDst w) (tlSrc w) (tlHop w + 1) p) d := if_neg (ne_true_of_eq_false h)

theorem tlMark_none (h : d.tline.timeS = none) : tlMark inn w d = d := by rw [tlMark, h]

theorem tlMark_origin {t : Nat} (h : d.tline.timeS = some t) (ho : tlOrigin d = true) (hr : coreRuns d = true) : tlMark inn w d =
    measure 4 ((todNs d : Int) - ((t * 1000000000 + tlPayload w + 10 : Nat) : Int))
      { d with tline.timeHops := tlHop w, tline.timeS := none, draws := d.draws + 1 } := by
  rw [tlMark, h]
  dsimp only
  rw [tlRegenerate_origin (d := (openValue { d with tline.timeHops := tlHop w, tline.timeS := none }).2) ho]
  exact if_pos hr

end

/-- What a TIME_MARK does at a controller that its frame reaches. -/
theorem exec_tlineTimeMark (inn : Bool) (w : Word64) (s : State) : exec (.tlineTimeMark inn w) s = onDev s (tlReceive 12 inn w (fun d =>
    if d.tline.addr ≠ some (tlSrc w) ∧ d.tline.timeOrigin = some (tlSrc w) then tlMark inn w d else d)) := rfl

theorem tlOriginTick_other (h : d.tline.addr = none ∨ tlOrigin d = false ∨ (d.tline.head = true ∧ d.tline.headConflict = true)) :
    tlOriginTick d = d := by
  unfold tlOriginTick
  split
  · rfl
  · next a ha =>
    refine if_pos (h.elim (fun h => ?_) (Or.imp_left bnot_of_false))
    rw [h] at ha
    exact nomatch ha

/-! ### Both links of an origin -/

/-- Send a frame on both links. -/
def tlSendBoth (w : Word64) (d : Dev) : Dev := tlSend false w (tlSend true w d)

theorem tlOriginTick_sends (ha : d.tline.addr = some a) (ho : tlOrigin d = true) (hh : d.tline.head = false) : tlOriginTick d =
    (let x := openValue (tlSendBoth (tlFrame 11 false true 0 a 0 ((d.clk.tod.s + 1) % 2 ^ 32)) d)
     tlSendBoth (tlFrame 12 false true 0 a 0 x.1) x.2) := by
  rw [tlOriginTick, ha]
  exact if_neg fun hb => hb.elim (not_bnot_of_true ho) fun hb => ne_true_of_eq_false hh hb.1

theorem tlSendBoth_room (ho : d.boot.alwaysOn = true) (hu : d.tline.outUp = true) (hi : d.tline.inUp = true)
    (hout : d.tline.outQ.length < 16) (hin : d.tline.inQ.length < 16) (hw : tlUrgent w = false) :
    tlSendBoth w d = { d with tline.outQ := d.tline.outQ ++ [w], tline.inQ := d.tline.inQ ++ [w] } := by
  rw [tlSendBoth, tlSend_room ho hu hout (if_neg (ne_true_of_eq_false hw))]
  refine (if_pos ⟨ho, hi⟩).trans ((if_neg (Nat.not_le.mpr hin)).trans ?_)
  rw [if_neg Bool.false_ne_true, show tlQueued d.tline.inQ w = d.tline.inQ ++ [w] from if_neg (ne_true_of_eq_false hw)]

/-- A frame of time is not sent ahead of others. -/
theorem tlUrgent_time {k x : Nat} (hk : k = 11 ∨ k = 12) : tlUrgent (tlFrame k false true 0 a 0 x) = false := by
  rw [tlUrgent_tlFrame]
  rcases hk with rfl | rfl <;> rfl

theorem tlOriginTick_queues (ha : d.tline.addr = some a) (ho : tlOrigin d = true) (hh : d.tline.head = false) (hp : d.boot.alwaysOn = true)
    (hu : d.tline.outUp = true) (hi : d.tline.inUp = true) (hout : d.tline.outQ.length ≤ 14) (hin : d.tline.inQ.length ≤ 14) :
    tlOriginTick d =
      (let two := [tlFrame 11 false true 0 a 0 ((d.clk.tod.s + 1) % 2 ^ 32), tlFrame 12 false true 0 a 0 (Config.freeValue d.draws)]
       { d with draws := d.draws + 1, tline.outQ := d.tline.outQ ++ two, tline.inQ := d.tline.inQ ++ two }) := by
  have longer (q : List Word64) (w : Word64) (hq : q.length ≤ 14) : (q ++ [w]).length < 16 := by
    rw [List.length_append, List.length_singleton]
    omega
  rw [tlOriginTick_sends ha ho hh,
    tlSendBoth_room hp hu hi (Nat.lt_of_le_of_lt hout (by decide)) (Nat.lt_of_le_of_lt hin (by decide)) (tlUrgent_time (Or.inl rfl))]
  refine (tlSendBoth_room (d := { d with
    draws := d.draws + 1
    tline.outQ := d.tline.outQ ++ [tlFrame 11 false true 0 a 0 ((d.clk.tod.s + 1) % 2 ^ 32)]
    tline.inQ := d.tline.inQ ++ [tlFrame 11 false true 0 a 0 ((d.clk.tod.s + 1) % 2 ^ 32)] })
    hp hu hi (longer _ _ hout) (longer _ _ hin) (tlUrgent_time (Or.inr rfl))).trans ?_
  dsimp only
  rw [List.append_assoc, List.append_assoc]
  rfl

end

end Sys2Proof.Machine

open Sys2Proof Sys2Proof.Machine

/-- Settles O60: the roster, queries and fences at each neighbour, time over the chain, and the fields of a frame. -/
theorem chainQueries : Obligations.ChainQueries := by
  refine ⟨fun s inn w a => ?_, fun s inn w => ?_⟩
  · intro d up hc ho hu hh ha
    have h : TlArrives inn w d := ⟨hc, ho, hu, hh⟩
    have other {x : Nat} (hx : x ≠ a) : d.tline.addr ≠ some x := fun hb => hx (Option.some.inj (hb.symm.trans ha))
    refine ⟨fun h1 hs => ⟨fun hn => gives_tlReceive h h1 (by decide) rfl ((tlHeard_other (other hs)).trans (congrArg (tlPass inn w) (if_pos hn))),
        fun hn => gives_tlReceive h h1 (by decide) rfl ((tlHeard_other (other hs)).trans (congrArg (tlPass inn w) (if_neg (ne_true_of_eq_false hn))))⟩,
      rfl, fun hb hd => ⟨fun h6 => gives_tlReceive h h6 (by decide) rfl (tlMine_passed hb ha hd), fun h8 => gives_tlReceive h h8 (by decide) rfl (tlMine_passed hb ha hd)⟩,
      fun hb hd => ?_, tlFenceOk_iff ha, rfl, fun h13 hs => ?_⟩
    · have takes {i : Instr} {k : Nat} {f : Dev → Dev} {e : Dev} (hk : tlType w = k) (h14 : k < 14)
          (hi : exec i s = onDev s (tlReceive k inn w (tlMine inn w f))) (he : f d = e) : Gives i s e :=
        gives_tlReceive h hk h14 hi ((tlMine_here hb ha hd).trans he)
      refine ⟨fun h6 => takes h6 (by decide) rfl rfl, fun h7 v again hq => ⟨fun hv => takes h7 (by decide) rfl (if_pos ?_), fun hv => takes h7 (by decide) rfl (if_neg ?_)⟩,
        fun h8 => ⟨fun hf => takes h8 (by decide) rfl (if_neg (ne_true_of_eq_false hf)), fun hf =>
          ⟨fun h0 => takes h8 (by decide) rfl ((if_pos hf).trans (tlFenced_alive h0)), fun h0 => takes h8 (by decide) rfl ((if_pos hf).trans (tlFenced_held h0))⟩⟩,
        fun h9 => ⟨fun hf => takes h9 (by decide) rfl (if_neg (ne_true_of_eq_false hf)), fun hf =>
          ⟨fun hl hs => takes h9 (by decide) rfl ((if_pos hf).trans (tlUnfenced_same hl hs)), fun hl => takes h9 (by decide) rfl ((if_pos hf).trans (tlUnfenced_other hl))⟩⟩,
        fun h10 => ⟨fun ht => takes h10 (by decide) rfl (fenceAcked_fencing ht), fun ht => takes h10 (by decide) rfl (fenceAcked_solo ht),
          fun ht => takes h10 (by decide) rfl (fenceAcked_none ht)⟩⟩
      · rw [hq, hv]
        exact beq_self_eq_true _
      · rw [hq]
        exact fun hb => hv (beq_iff_eq.mp hb)
    · intro p
      have profiles {e : Dev} (he : (if coreRuns d = true ∧ d.clk.suspended = true ∧ p < (profilesOf (chartOf d)).length then setProfile p d else d) = e) :
          Gives (.tlineProfile inn w) s (tlPass inn w e) :=
        gives_tlReceive h h13 (by decide) rfl ((tlHeard_other (other hs)).trans (congrArg (tlPass inn w) he))
      exact ⟨fun hr hsu hp => profiles (if_pos ⟨hr, hsu, hp⟩), fun hsu => profiles (if_neg fun hb => ne_true_of_eq_false hsu hb.2.1)⟩
  · intro d up none_
    refine ⟨fun hc ho hu hh => ?_, fun h p => tlRegenerate_origin h, fun h p => tlRegenerate_passes h, fun h => gives_congr rfl (tlOriginTick_other h),
      fun a ha ho hh hp hout hin hq hq' =>
        ⟨Config.freeValue d.draws, gives_congr rfl (tlOriginTick_queues ha ho hh hp hout hin hq hq')⟩, rfl, fun k b n t r h p hk ht hr hh hp => ?_⟩
    · have h : TlArrives inn w d := ⟨hc, ho, hu, hh⟩
      refine ⟨fun h11 => ⟨fun ha => ?_, fun o hs hlt => ?_, fun ha hs => ?_⟩, fun h12 => ?_⟩
      · exact gives_tlReceive h h11 (by decide) rfl (if_neg (ne_true_of_eq_false (tlAccepts_own ha)))
      · exact gives_tlReceive h h11 (by decide) rfl (if_neg (ne_true_of_eq_false (tlAccepts_higher hs hlt)))
      · exact gives_tlReceive h h11 (by decide) rfl (if_pos (tlAccepts_heard ha hs))
      · have marks {e : Dev} (he : (if d.tline.addr ≠ some (tlSrc w) ∧ d.tline.timeOrigin = some (tlSrc w) then tlMark inn w d else d) = e) :
            Gives (.tlineTimeMark inn w) s e := gives_tlReceive h h12 (by decide) (exec_tlineTimeMark inn w s) he
        refine ⟨fun hn => marks ?_, fun t ha hs ht hor hr => marks ((if_pos ⟨ha, hs⟩).trans (tlMark_origin ht hor hr))⟩
        rcases hn with hn | hn | hn
        · exact if_neg fun hb => hb.1 hn
        · exact if_neg fun hb => hn hb.2
        · rw [tlMark_none hn, ite_self]
    · exact ⟨(tlType_tlFrame ..).trans (Nat.mod_eq_of_lt hk), tlBcast_tlFrame .., tlNumbered_tlFrame .., (tlDst_tlFrame ..).trans (Nat.mod_eq_of_lt ht),
        (tlSrc_tlFrame ..).trans (Nat.mod_eq_of_lt hr), (tlHop_tlFrame ..).trans (Nat.mod_eq_of_lt hh), (tlPayload_tlFrame ..).trans (Nat.mod_eq_of_lt hp),
        tlCrcOk_tlFrame ..⟩
end
